-- ==== Sys2Proof/Word.lean ====
section
/-! DEFINITION. The words and the numbered items of the T9 (00_scope.md R3, R4, R6). -/

namespace Sys2Proof

abbrev Byte := BitVec 8
abbrev W16 := BitVec 16
abbrev W32 := BitVec 32
abbrev W64 := BitVec 64
/-- A tile instruction word (R87). -/
abbrev W128 := BitVec 128
/-- A 32-byte record (pattern, scale, MM.OPEN, conversion, rotation record). -/
abbrev W256 := BitVec 256

/-- Logical tile number, 0 to 511 (Table 0.3). -/
abbrev TileNo := Fin 512
/-- Position in the panel grids: panel x 144 + row x 12 + column (R4, R375). -/
abbrev PhysNo := Fin 576
abbrev PanelNo := Fin 4
abbrev StackNo := Fin 12
abbrev LaneNo := Fin 64
abbrev PortNo := Fin 8
abbrev PartNo := Fin 16
abbrev CtxNo := Fin 256
abbrev ClaspNo := Fin 48
abbrev GatherNo := Fin 16
abbrev BulkNo := Fin 16
abbrev HlNo := Fin 8
abbrev TmemNo := Fin 4
/-- An ordinary-network port, 0 or 1 (R342). -/
abbrev NetNo := Fin 2
/-- A submission queue of a VF (R420). -/
abbrev QueueNo := Fin 64
abbrev WinNo := Fin 64
abbrev PoolNo := Fin 8
/-- A slice table, 0 to 15 (R315). -/
abbrev SliceTab := Fin 16
/-- Chip ID, 15 bits (Table 0.3). -/
abbrev ChipId := BitVec 15
/-- Slice ID, 12 bits (Table 0.3). -/
abbrev SliceId := BitVec 12

/-- The four engine queues, in the order of ENG (R89). -/
inductive Eng where
  | ld | mm | vx | st
deriving DecidableEq, Repr, Inhabited

/-- ENG code of an engine (R89). -/
def Eng.idx : Eng → Fin 4
  | .ld => 0
  | .mm => 1
  | .vx => 2
  | .st => 3

end Sys2Proof
end

