-- ==== Sys2Proof/Syntax.lean ====
section
/-! DEFINITION. The commands of the T9: one constructor of `Instr` per row of the opcode table, in its order.
The table gives the rows no operands; the operands here are the model's (log 4). -/

namespace Sys2Proof

/-- Which event of a tile instruction a command is: its issue by the controller (R83, R85, R92), or its performance by
the engine, for the k-th started instruction of that engine (R84). Log 4. -/
inductive Phase where
  | issue
  | perform (k : Nat)
deriving DecidableEq, Repr, Inhabited

/-- A mover (Table 8.1). -/
inductive MoverId where
  | tile (t : TileNo)
  | bulk (n : BulkNo)
  | hl (n : HlNo)
deriving DecidableEq, Repr, Inhabited

/-- A requester's session with the dictionary agent (Table 18.5): the mailbox of PF0 or of VF p + 1, or the session of an
MCTP endpoint over I3C or over the management Ethernet. -/
inductive SessId where
  | pf0
  | vf (p : PartNo)
  | i3c (eid : Byte)
  | eth (eid : Byte)
deriving DecidableEq, Repr, Inhabited

/-- A function of the host port (R416). -/
inductive Fn where
  | pf0
  | vf (p : PartNo)
deriving DecidableEq, Repr, Inhabited

/-- A link packet: its 16-byte header and its payload (Table 13.2). -/
structure Packet where
  hdr : W128
  payload : List Byte
deriving DecidableEq, Repr, Inhabited

/-- A link control word (R303). -/
structure Lcw where
  ack : W16
  nak : Option W16
  /-- off bits: request class 0, request class 1, reply class 0, reply class 1 -/
  off : BitVec 4
  crcOk : Bool
deriving DecidableEq, Repr, Inhabited

/-- Where a packet is taken from: the head of a class buffer of a port, or a message of the ordinary network (R336). -/
inductive PktSrc where
  | port (p : PortNo) (cls : Bool)
  | net (n : NetNo) (pkt : Packet)
deriving DecidableEq, Repr, Inhabited

/-- A collective stream: level X, Y, Z, W and direction (Table 14.5). -/
structure Stream where
  level : Fin 4
  dir : Bool
deriving DecidableEq, Repr, Inhabited

/-- A request outstanding at a requester, for the 2 ms limit (R114, R207, Table 9.4, R181). -/
inductive Requester where
  | tile (t : TileNo) (e : Eng)
  | bld (t : TileNo)
  | mover (m : MoverId) (slot : Nat)
  | gather (g : GatherNo)
  | watch (t : TileNo) (e : Eng)
  /-- a collective sequencer, for peer repair (R289) -/
  | coll (p : PartNo)
  /-- the reliability block, for peer repair of a partition's memory (R382) -/
  | repair (p : PartNo)
deriving DecidableEq, Repr, Inhabited

/-- A checked unit that reports a residue mismatch (R368). -/
inductive ResUnit where
  | tensor (t : TileNo)
  | vector (t : TileNo)
  | gather (g : GatherNo)
  | reducer (p : PortNo)
deriving DecidableEq, Repr, Inhabited

/-- Registers that have an access code of their own and no other row (R10): the status words software may write. -/
inductive Reg where
  | cvtStatus (t : TileNo)
  | accStatus (t : TileNo)
  | vxStatus (t : TileNo)
  | faultInfo (t : TileNo)
  | pocketErr (t : TileNo)
  | liningErr (t : TileNo)
  | claspNote (t : TileNo)
  | moverNote (t : TileNo)
  | stackErr (s : StackNo)
  | mbxCtrl (f : Fn)
  /-- MSI-X vector control: bit 0 masks (R426) -/
  | msixMask (f : Fn) (vec : Fin 124)
  /-- message address and message data of an MSI-X vector -/
  | msixAddr (f : Fn) (vec : Fin 124)
  | msixData (f : Fn) (vec : Fin 124)
  /-- bus-master enable of a VF: bit 0 (R420) -/
  | busMaster (p : PartNo)
  /-- a read-only register of any block: the write is ignored -/
  | readOnly
deriving DecidableEq, Repr, Inhabited

/-- How a bring-up stage ended (R399, R402). -/
structure StageResult where
  /-- stacks that failed training -/
  badStacks : List StackNo
  /-- physical tiles that failed their self-check -/
  badTiles : List PhysNo
  /-- pages that failed the test of R296: stack, index -/
  badPages : List (StackNo × Fin 30517)
  /-- a panel, a cuff or an HBM controller failed -/
  fatal : Bool
  /-- an image delivered in recovery (R401) -/
  image : Option (List Byte)
  /-- host link trained -/
  hostUp : Bool
deriving DecidableEq, Repr, Inhabited

/-- Causes of a fatal error (R394 source 8). -/
inductive Fatal where
  | collarCores
  | stack (s : StackNo)
  | component (n : Fin 8)
  | rail
deriving DecidableEq, Repr, Inhabited

/-- An operation of the IEEE 1588 exchange (R324). -/
inductive PtpMsg where
  /-- Sync: its origin time, which a Follow_Up brings when it is two-step -/
  | sync (twoStep : Bool) (t1 : W64)
  | followUp (t1 : W64)
  | delayReq
  | delayResp (t4 : W64)
  /-- Announce: what the default best master clock algorithm makes of it: whether its sender is the better clock -/
  | announce (better : Bool)
  /-- no Announce of the time transmitter came within its time limit -/
  | announceTimeout
deriving DecidableEq, Repr, Inhabited

/-- A 1588 message as it arrives: the ordinary port, the domain, what it says. -/
structure Ptp where
  port : NetNo
  domain : Byte
  msg : PtpMsg
deriving DecidableEq, Repr, Inhabited

/-- A packet as a port receives it: `again` when the far end's replay of unacknowledged packets begins with it (R304). -/
structure Arrival where
  again : Bool
  pkt : Packet
deriving DecidableEq, Repr, Inhabited

/-- A spare lane that trained and what it found: the fallback rate, the chip and the lane at its far end (R308). -/
structure Found where
  lane : LaneNo
  slow : Bool
  chip : ChipId
  far : LaneNo
deriving DecidableEq, Repr, Inhabited

/-- The commands of the T9. -/
inductive Instr where
  | seqNop (t : TileNo)
  | seqJmp (t : TileNo)
  | seqBr (t : TileNo)
  | seqLoop (t : TileNo)
  | seqLend (t : TileNo)
  | seqBld (t : TileNo)
  | seqBset (t : TileNo)
  | seqBadd (t : TileNo)
  | seqTokadd (t : TileNo)
  | seqFsel (t : TileNo)
  | ldFill (t : TileNo) (ph : Phase)
  | ldTouch (t : TileNo) (ph : Phase)
  | stPut (t : TileNo) (ph : Phase)
  | stClw (t : TileNo) (ph : Phase)
  | mmOpen (t : TileNo) (ph : Phase)
  | mmLdb (t : TileNo) (ph : Phase)
  | mmStrm (t : TileNo) (ph : Phase)
  | mmDrain (t : TileNo) (ph : Phase)
  | mmTileInit (t : TileNo)
  | vxMov (t : TileNo) (ph : Phase)
  | vxAdd (t : TileNo) (ph : Phase)
  | vxSub (t : TileNo) (ph : Phase)
  | vxMul (t : TileNo) (ph : Phase)
  | vxFma (t : TileNo) (ph : Phase)
  | vxMax (t : TileNo) (ph : Phase)
  | vxMin (t : TileNo) (ph : Phase)
  | vxSfu (t : TileNo) (ph : Phase)
  | vxRed (t : TileNo) (ph : Phase)
  | vxAmax (t : TileNo) (ph : Phase)
  | vxCvt (t : TileNo) (ph : Phase)
  | vxQuant (t : TileNo) (ph : Phase)
  | vxRot (t : TileNo) (ph : Phase)
  | vxTopk (t : TileNo) (ph : Phase)
  | vxTopkMerge (t : TileNo) (ph : Phase)
  | mvLaunch (t : TileNo) (ph : Phase)
  | mvSetprio (t : TileNo) (ph : Phase)
  | mvCancel (t : TileNo) (ph : Phase)
  | clAdd (t : TileNo) (ph : Phase)
  | clSwap (t : TileNo) (ph : Phase)
  | clCas (t : TileNo) (ph : Phase)
  | clAnd (t : TileNo) (ph : Phase)
  | clOr (t : TileNo) (ph : Phase)
  | clMax (t : TileNo) (ph : Phase)
  | clWatch (t : TileNo) (ph : Phase)
  | clWait (t : TileNo) (ph : Phase)
  | clRead (t : TileNo) (ph : Phase)
  | watchSlotAccept (t : TileNo)
  | notifyApply (t : TileNo)
  | syLiningInv (t : TileNo) (ph : Phase)
  | syFence (t : TileNo)
  | syStepCommit (t : TileNo)
  | syYield (t : TileNo)
  | syEnd (t : TileNo)
  | dispatchResume (t : TileNo)
  | engineStart (t : TileNo) (e : Eng)
  /-- the k-th started instruction of an engine, or of the controller (SEQ.BLD); `release` asks for its source-release event -/
  | instructionComplete (t : TileNo) (e : Option Eng) (k : Nat) (release : Bool)
  | reqTimeout (r : Requester)
  | stepWatchdog (c : CtxNo)
  | engineStall (t : TileNo) (e : Eng)
  | kernelStart (t : TileNo)
  /-- the 8-byte word written back -/
  | pocketCeWriteback (t : TileNo) (word : Fin 262144)
  /-- the k-th outstanding fill -/
  | liningFill (t : TileNo) (k : Nat)
  | windowOpen (ses : SessId) (p : PartNo) (w : WinNo)
  | windowClose (ses : SessId) (p : PartNo) (w : WinNo)
  | windowClosed (p : PartNo) (w : WinNo)
  | contextExit (c : CtxNo)
  | moverSelect (m : MoverId)
  | descriptorForward (m : MoverId)
  | paceTimerStart (m : MoverId) (slot : Nat)
  | burstStart (m : MoverId)
  | fillUnit (m : MoverId)
  | channelEnd (m : MoverId) (slot : Nat)
  | channelStopped (m : MoverId) (slot : Nat)
  | channelEndReport (t : TileNo)
  | poolOpen (ses : SessId) (p : PartNo) (n : PoolNo)
  | poolClose (ses : SessId) (p : PartNo) (n : PoolNo)
  | gatherRingOpen (ses : SessId) (p : PartNo) (g : GatherNo)
  | gatherRingClose (ses : SessId) (p : PartNo) (g : GatherNo)
  | gatherFwd (g : GatherNo)
  | gatherBwd (g : GatherNo)
  | gatherRcInv (g : GatherNo)
  | gatherProgress (g : GatherNo)
  | gatherPhaseB (g : GatherNo)
  | gatherJobEnd (g : GatherNo)
  | tmemFail (n : TmemNo)
  /-- the line: physical page and line in it -/
  | hbmCeWriteback (page : Nat) (line : Fin 32768)
  | peerRepairServe (p : PartNo) (range slot : Fin 16)
  | peerRepairReply (p : PartNo)
  | peerRepairTimeout (p : PartNo)
  | peerVersionWaitExpiry (p : PartNo)
  | scrubRead (s : StackNo)
  | pageRemapDone (page : Nat)
  | stackFailure (s : StackNo)
  /-- a lane finishes training: rate fallback, the chip and lane found at the far end -/
  | laneTrained (n : LaneNo) (slow : Bool) (chip : ChipId) (far : LaneNo)
  | laneRetry (n : LaneNo)
  | laneFailure (n : LaneNo)
  | lcwReceive (p : PortNo) (l : Lcw)
  | linkPacketReceive (p : PortNo) (pkt : Arrival)
  | holdWindowExpiry (p : PortNo)
  | laneSubstitution (p : PortNo) (failed : LaneNo) (spare : Found)
  | portReturn (p : PortNo)
  | portEnable (ses : SessId) (p : PortNo)
  | portDisable (ses : SessId) (p : PortNo)
  | sliceTableLoad (ses : SessId) (k : SliceTab)
  | sliceTableRemove (ses : SessId) (k : SliceTab)
  | routerForward (src : PktSrc)
  | routerStallDrop (p : PortNo) (reply cls : Bool)
  | pktWrite (src : PktSrc)
  | pktWriteF (src : PktSrc)
  | pktRead (src : PktSrc)
  | pktAtomic (src : PktSrc)
  | pktWatch (src : PktSrc)
  | pktReadRsp (src : PktSrc)
  | pktWriteAck (src : PktSrc)
  | pktAtomicRsp (src : PktSrc)
  | pktNotify (src : PktSrc)
  | pktCollData (src : PktSrc)
  | collReady (src : PktSrc)
  | collCredit (src : PktSrc)
  | collAbortReceive (src : PktSrc)
  | pktTime (src : PktSrc)
  | rackMarkEdge
  | rackRefLoss
  | rackRefReturn
  | ptpMessage (m : Ptp)
  | timePtpLost
  | collLayoutLoad (ses : SessId) (k : SliceTab)
  | collRingOpen (ses : SessId) (p : PartNo)
  | collRingClose (ses : SessId) (p : PartNo)
  | collAllReduce (p : PartNo)
  | collReduceScatter (p : PartNo)
  | collAllGather (p : PartNo)
  | collBroadcast (p : PartNo)
  | collTopkMerge (p : PartNo)
  | collChunkReduce (p : PartNo) (st : Stream)
  | collComplete (p : PartNo)
  | collStall (p : PartNo)
  | collNetLost (p : PartNo) (n : NetNo)
  | bindRelease (ses : SessId) (p : PartNo)
  | bindFreeResources (ses : SessId) (p : PartNo)
  | bindTake (ses : SessId) (p : PartNo)
  | rebindDrainDone (p : PartNo)
  | drainExpired (p : PartNo)
  | rebindComplete (p : PartNo)
  | contextSaveDone (c : CtxNo)
  | contextRestoreDone (c : CtxNo)
  | ctxSetPriority (ses : SessId) (p : PartNo)
  | ctxStart (ses : SessId) (p : PartNo)
  | ctxTearDown (ses : SessId) (p : PartNo)
  | contextTeardown (c : CtxNo)
  | partitionReset (ses : SessId) (p : PartNo) (value : Byte)
  | vfFlr (p : PartNo)
  | pf0Flr
  | admitCommit (ses : SessId) (p : PartNo)
  | admitWithdraw (ses : SessId) (p : PartNo)
  | admitLoadDone (p : PartNo)
  | sentinelReport
  | commitDecision (c : CtxNo)
  | residueReport (u : ResUnit)
  | replayRestart (c : CtxNo)
  /-- whether original and shadow agree on operands and signature -/
  | auditRendezvous (c : CtxNo) (agree : Bool)
  | stepBoundary (c : CtxNo)
  /-- the decisions received from the slice: union of promotions, intersection of demotions, by tensor -/
  | sliceDecisionExchange (c : CtxNo) (promote demote : List (BitVec 20))
  | sentinelForceCommit (ses : SessId) (p : PartNo)
  | sentinelEntriesWrite (ses : SessId) (p : PartNo) (records : List Byte)
  | repairRegister (ses : SessId) (p : PartNo)
  | repairRemove (ses : SessId) (p : PartNo)
  | ckptArm (ses : SessId) (p : PartNo)
  | ckptRelease (ses : SessId) (p : PartNo)
  | ckptHold (p : PartNo)
  | ckptExpired (p : PartNo)
  | suspicionDecay (x : PhysNo)
  | tileFitting (x : PhysNo)
  | fittingDone (x : PhysNo) (pass : Bool)
  | fitDue (x : PhysNo)
  | fitGraceExpiry (x : PhysNo)
  | fitRequestTile (ses : SessId) (x : PhysNo)
  | fitRequestDevice (ses : SessId)
  | fitBundleWrite (ses : SessId) (bundle : List Byte)
  | patchRetiredWrite (ses : SessId) (list : List Byte)
  | hbmRetiredPagesWrite (ses : SessId) (list : List Byte)
  | powerOn
  | rstNAssert
  | perstNAssert
  | perstNDeassert
  | pcieHotReset
  | pcieLinkLoss
  | collarWatchdog
  | rstCommand (ses : SessId) (value : Byte)
  | fatalError (f : Fatal)
  | resetRelease
  | resetEnd
  | bringupStage (r : StageResult)
  /-- the sensor that reached 115 degrees -/
  | thermalTrip (sensor : Fin 64)
  | thermalTripClear
  /-- the component that ran on the failed core -/
  | collarCoreFail (n : Fin 8)
  | fwComponentRestart (n : Fin 8)
  | wakeGrant (p : PanelNo)
  | levelDescend (t : TileNo)
  | levelIdle (t : TileNo)
  | pwrBrakeAssert
  | pwrBrakeRelease
  /-- one of the panel's 14 sensors and its reading, in units of 0.125 °C -/
  | thermalThrottleStep (p : PanelNo) (sensor : Fin 14) (reading : W16)
  /-- package power averaged over 1 s, in watts -/
  | powerLimiterStep (watts : W16)
  | sqTailDoorbell (p : PartNo) (q : QueueNo) (v : W32)
  | cqHeadDoorbell (p : PartNo) (q : QueueNo) (v : W32)
  | evqHeadDoorbell (f : Fn) (v : W32)
  | nop (p : PartNo) (q : QueueNo)
  | stepRelease (p : PartNo) (q : QueueNo)
  | moverLaunch (p : PartNo) (q : QueueNo)
  | moverCancel (p : PartNo) (q : QueueNo)
  | msixDeferredSend (f : Fn) (vec : Fin 124)
  | bar4Read (p : PartNo) (offset : BitVec 31) (len : Nat)
  | bar4Write (p : PartNo) (offset : BitVec 31) (data : List Byte)
  | queueCreate (ses : SessId) (p : PartNo)
  | queueDelete (ses : SessId) (p : PartNo)
  | evqOn (ses : SessId) (p : PartNo)
  | evqOff (ses : SessId) (p : PartNo)
  | devEvqOn (ses : SessId)
  | devEvqOff (ses : SessId)
  | read (ses : SessId) (tag : Byte) (index : W16) (sub : Byte)
  | write (ses : SessId) (tag : Byte) (index : W16) (sub : Byte) (value : List Byte)
  | readSeg (ses : SessId) (tag : Byte) (index : W16) (sub : Byte) (offset : W32)
  | writeSeg (ses : SessId) (tag : Byte) (index : W16) (sub : Byte) (offset : W32) (value : List Byte) (last : Bool)
  | describe (ses : SessId) (tag : Byte) (index : W16) (sub : Byte)
  | abandon (ses : SessId) (tag : Byte) (index : W16)
  | mctpMsg (ses : SessId) (msg : List Byte)
  | sessionEnd (f : Fn)
  | sessionTimeout (ses : SessId)
  | stageExpiry (ses : SessId) (index : W16)
  | registerWrite (r : Reg) (v : W64)
  | i3cSetdasa (addr : BitVec 7) (dyn : BitVec 7)
  | i3cEntdaa (dyn : BitVec 7)
  | i3cBusReset
  | queryDeviceIdentifiers (ses : SessId)
  | getFirmwareParameters (ses : SessId)
  | requestUpdate (ses : SessId)
  | passComponentTable (ses : SessId) (ids : List W16)
  | updateComponent (ses : SessId) (id : W16) (size : W32)
  | firmwareData (ses : SessId) (data : List Byte)
  | activateFirmware (ses : SessId)
  | getStatus (ses : SessId)
  | cancelUpdateComponent (ses : SessId)
  | cancelUpdate (ses : SessId)
  | spdmGetVersion (ses : SessId)
  | spdmGetCapabilities (ses : SessId)
  | spdmNegotiateAlgorithms (ses : SessId) (offered : Bool)
  | spdmGetDigests (ses : SessId)
  | spdmGetCertificate (ses : SessId) (slot : Byte) (offset len : W16)
  | spdmChallenge (ses : SessId) (slot : Byte) (nonce : List Byte)
  | spdmGetMeasurements (ses : SessId) (block : Byte) (nonce : List Byte)
  | spdmKeyExchange (ses : SessId) (slot : Byte) (peerKey : List Byte) (wantMutual : Bool)
  | spdmFinish (ses : SessId) (ok : Bool) (peerChain : List Byte)
  | spdmHeartbeat (ses : SessId)
  | spdmKeyUpdate (ses : SessId)
  | spdmEndSession (ses : SessId)
  | spdmChunkSend (ses : SessId) (chunk : List Byte) (last : Bool)
  | spdmChunkGet (ses : SessId)
  | counterSetControlWrite (ses : SessId) (k : Fin 32) (n : Fin 8) (v : W32)
  | alarmAck (ses : SessId) (code source : W16)
  | traceTrigger (ses : SessId) (value : Byte)
  | traceArm (ses : SessId) (value : Byte)
  | traceFreeze
  | freezeNAssert
  | dbgFreeze (ses : SessId) (value : Byte)
  /-- the data register selected -/
  | jtagScan (instrument : Bool)
  | burstDone (m : MoverId)
  | rackMarkTimeout
  | markEpochSend
  /-- which half: false [31:0], true [63:32] -/
  | clkDevtimeRead (upper : Bool)
  | panelRailVoltageChange (p : PanelNo) (mv : W16)
  | fwRestartComplete (n : Fin 8)
  | tmemPortTrained (n : TmemNo) (gib : Fin 1025) (fullWidth fullRate : Bool)
  | netPortDown (n : NetNo)
  | netPortUp (n : NetNo)
  | hostLinkDown
  | hostLinkUp
  /-- the cuff sensor that rose above therm.throttle_c: 0 to 7 -/
  | thermCuffHot (sensor : Fin 8)
deriving DecidableEq, Repr, Inhabited

end Sys2Proof
end

