-- ==== Sys2Proof/Config.lean ====
section
/-! DEFINITION. What the manual leaves to the part or leaves open: constants without a body. Nothing in Lean can
evaluate them, so a statement that mentions one holds whatever its value is. Logs 7 to 10 and 12. -/

namespace Sys2Proof.Config

/-- The n-th free value: a value the manual does not state (log 7). -/
opaque freeValue : Nat → W64
/-- exp, log, rsqrt, tanh and erf of a finite operand that Table 5.1 gives no exact result for (log 8). -/
opaque sfuFree : Fin 6 → W32 → W32
/-- Whether an audit selects the next segment: a generator the program cannot predict (R379). -/
opaque auditDraw : W64 → Nat → Nat
/-- ECDSA P-384 over SHA-384 of a firmware image against the unrevoked fused key slots (R442). -/
opaque fwSignatureOk : List Byte → Bool
/-- The same for a fitting bundle (R387). -/
opaque bundleSignatureOk : List Byte → Bool
/-- Whether an image or bundle names the ordering code KZ9T-4A (R387, R442). -/
opaque namesOrderingCode : List Byte → Bool
/-- Version field of a fitting bundle (R387). -/
opaque bundleVersion : List Byte → W32
/-- Version and security version of a firmware image (R442). -/
opaque fwVersion : List Byte → W32
opaque fwSecurityVersion : List Byte → Byte
/-- SHA-384 (R443 to R445). -/
opaque sha384 : List Byte → List Byte
/-- Digest of measurement block 1, 2 or 3 for a firmware version: boot stage, resident firmware, tile microcode (R445). -/
opaque imageDigest : Nat → W32 → List Byte
/-- Bytes of a large SPDM message that one CHUNK_GET returns (R444). -/
opaque spdmChunk : Nat
/-- A signature by the Alias key (R444). -/
opaque aliasSign : List Byte → List Byte
/-- Whether a peer's certificate chain leads to mgmt.owner_anchor (R427, R444). -/
opaque ownerChainOk : List Byte → List Byte → Bool
/-- Identity from the fuses: id.serial, id.silicon_rev, id.pci_vendor, id.pci_device (Table 18.14). -/
opaque serial : List Byte
opaque siliconRev : Byte
opaque pciVendor : W16
opaque pciDevice : W16
/-- net.port.mac of each ordinary port (Table 14.7). -/
opaque mac : NetNo → W64
/-- The certificate chain of slot 0 (R443). -/
opaque certChain : List Byte
/-- fw.iface.version of the running firmware (R440): major [15:8], minor [7:0]. -/
opaque ifaceVersion : W16
/-- Debug-enable fuse (R458). -/
opaque debugFuse : Bool
/-- Which of the free physical pages or granules the collar takes (R345): a rank among the free ones. -/
opaque pageChoice : Nat → Nat
/-- Slice and set of a row cache that hold a line: partition, SPACE and line address (R230; the manual fixes no mapping). -/
opaque rowCacheSet : Nat → Nat → Nat → Nat
/-- Which way of a full lining set a fill evicts (R150). -/
opaque evictWay : Nat → Fin 8

/-- Reply headers that the reply queue of a port holds beyond the one it always has room for (R312, log 31). -/
opaque replyQueue : Nat

end Sys2Proof.Config
end

