-- ==== Sys2Proof/Machine/Bits.lean ====
section
/-! DEFINITION. Bit fields, byte order and CRC-32: the helpers every layout of the manual uses (R6, R36, R37, R301). -/

namespace Sys2Proof.Machine

/-- Field [lo+len-1 : lo] of a word, as a number. -/
def fld {n : Nat} (w : BitVec n) (lo len : Nat) : Nat := (w.toNat >>> lo) % 2 ^ len

/-- One bit of a word. -/
def bitOf {n : Nat} (w : BitVec n) (i : Nat) : Bool := w.getLsbD i

/-- `w` with field [lo+len-1 : lo] replaced by `v` (reduced to the field's width). -/
def setFld {n : Nat} (w : BitVec n) (lo len v : Nat) : BitVec n :=
  let x := w.toNat
  BitVec.ofNat n (x - ((x >>> lo) % 2 ^ len) <<< lo + (v % 2 ^ len) <<< lo)

def setBit {n : Nat} (w : BitVec n) (i : Nat) (b : Bool) : BitVec n := setFld w i 1 b.toNat

/-- `w` with bit `i` set when `b` holds (the sticky flags of R53, R78, R135). -/
def orBit {n : Nat} (w : BitVec n) (i : Nat) (b : Bool) : BitVec n :=
  if b then w ||| BitVec.ofNat n (2 ^ i) else w

/-- A field read as a signed number in two's complement. -/
def sfld {n : Nat} (w : BitVec n) (lo len : Nat) : Int :=
  let v := fld w lo len
  if v ≥ 2 ^ (len - 1) then (v : Int) - (2 ^ len : Nat) else v

/-- Saturating addition into a field of `len` bits. -/
def satFld {n : Nat} (w : BitVec n) (lo len add : Nat) : BitVec n :=
  setFld w lo len (min (fld w lo len + add) (2 ^ len - 1))

/-- A W1C write: each 1 of `v` inside `mask` clears that bit (R10). -/
def w1c {n : Nat} (w v mask : BitVec n) : BitVec n := w &&& ~~~(v &&& mask)

/-- The number little-endian bytes spell. -/
def leNat : List Byte → Nat
  | [] => 0
  | b :: bs => b.toNat + 256 * leNat bs

/-- `n` little-endian bytes of a number. -/
def leBytes : Nat → Nat → List Byte
  | 0, _ => []
  | n + 1, v => BitVec.ofNat 8 v :: leBytes n (v / 256)

/-- Element `k` of width `w` bits of a little-endian bit stream (R36), the stream given as a number. -/
def streamElem (stream w k : Nat) : Nat := (stream >>> (k * w)) % 2 ^ w

/-- Element codes of width `w` packed as R36 fixes: the stream as a number. -/
def packNat (w : Nat) : List Nat → Nat
  | [] => 0
  | c :: cs => c % 2 ^ w + (packNat w cs) <<< w

/-- Element codes packed into bytes (R36). -/
def packBytes (w : Nat) (cs : List Nat) : List Byte := leBytes ((cs.length * w + 7) / 8) (packNat w cs)

/-- The codes of `n` elements of width `w` (R36). -/
def unpackBytes (w n : Nat) (bs : List Byte) : List Nat :=
  let s := leNat bs
  (List.range n).map (streamElem s w)

def crcStep (c : Nat) : Nat := if c % 2 = 1 then (c / 2) ^^^ 0xEDB88320 else c / 2

def crcByte (c : Nat) (b : Byte) : Nat :=
  let x := c ^^^ b.toNat
  crcStep (crcStep (crcStep (crcStep (crcStep (crcStep (crcStep (crcStep x)))))))

/-- CRC-32 with the IEEE 802.3 polynomial (R270, R301, R328). -/
def crc32 (bs : List Byte) : W32 := BitVec.ofNat 32 ((bs.foldl crcByte 0xFFFFFFFF) ^^^ 0xFFFFFFFF)

/-- ASCII bytes of a TEXT value (Table 18.8). -/
def asciiBytes (t : String) : List Byte := t.toList.map (fun c => BitVec.ofNat 8 c.toNat)

/-- The list with element `i` replaced, where it exists. -/
def setNth {α : Type} (i : Nat) (a : α) (l : List α) : List α := l.set i a

/-- Value kept under key `k` in an association list, or `d`. -/
def alGet {κ α : Type} [DecidableEq κ] (l : List (κ × α)) (k : κ) : Option α :=
  (l.find? (fun p => p.1 = k)).map (·.2)

/-- The association list with `k` bound to `a`. -/
def alSet {κ α : Type} [DecidableEq κ] (l : List (κ × α)) (k : κ) (a : α) : List (κ × α) :=
  (k, a) :: l.filter (fun p => ¬ p.1 = k)

/-- The association list without `k`. -/
def alErase {κ α : Type} [DecidableEq κ] (l : List (κ × α)) (k : κ) : List (κ × α) :=
  l.filter (fun p => ¬ p.1 = k)

/-- Index of the first element a test accepts. -/
def firstIdx {α : Type} (p : α → Bool) (l : List α) : Option Nat := l.findIdx? p

/-- The number clamped to a range (R433). -/
def clampNat (lo hi v : Nat) : Nat := max lo (min hi v)

end Sys2Proof.Machine
end

