-- ==== Sys2Proof/Machine/State.lean ====
section
/-! DEFINITION. The state of the T9: plain data. `Device` is everything the manual gives the part; `State` adds the queue
of waiting commands. Values that software sets through the parameter dictionary have one home, `Device.dict`; what
the part itself changes has a field of its own. -/

namespace Sys2Proof.Machine

/-- Bytes of an addressed store: addresses strictly rising, no entry equal to what an unlisted address reads as, which
is 0 (R145 for pockets, R296 for stacked memory; log 6 for table and host memory). -/
abbrev Memory := List Host.Cell

/-- A tile instruction frozen at issue (R92): its word, the records it named, the bound registers as they stood, and
its program offset in units of 16 bytes (R114). -/
structure Entry where
  word : W128
  recs : List W256
  bnd : Vector W32 16
  pcq : Nat
deriving DecidableEq, Repr, Inhabited

/-- A started instruction (R84): whether its accesses are performed, whether it has signalled, the replies it still
awaits and when its last request was sent. -/
structure Flight where
  e : Entry
  performed : Bool
  signalled : Bool
  awaits : Nat
  sentAt : W64
  /-- TAG of a request of its own on another chip, while unanswered (R302) -/
  tag : Option Nat
  /-- ST.PUT: rows and scale rows read from the pocket and not yet written (R96, source release) -/
  buf : Option (List (List Byte) × List (List Byte))
  /-- ST.PUT: address and length of each row written, for the tile's own lining when they are acknowledged (R151) -/
  wrote : List (Nat × Nat) := []
deriving DecidableEq, Repr, Inhabited

/-- SEQ.BLD executed and not yet landed (R85, R99). -/
structure Bld where
  reg : Fin 16
  /-- `none` while the read is unanswered -/
  value : Option W32
  e : Entry
  sentAt : W64
deriving DecidableEq, Repr, Inhabited

/-- What a tile's controller does (R85, R111, R115, R161). -/
inductive TMode where
  | idle | running | stalled | atCommit | yielding | ending | faulted
deriving DecidableEq, Repr, Inhabited

/-- Who registered a watch (R179, R205, R221, R326, R382). -/
inductive Holder where
  | tile (e : Eng)
  | mover (m : MoverId) (slot : Nat)
  | gather (g : GatherNo)
  | coll (p : PartNo)
  | repair (p : PartNo)
deriving DecidableEq, Repr, Inhabited

/-- A watch (Table 7.6). `nkind` 3 marks watches no instruction can name (R205). -/
structure Watch where
  value : BitVec 48
  clasp : ClaspNo
  cond : Fin 4
  nkind : Fin 4
  narg : Fin 8
  remote : Bool
  wait : Bool
  tile : TileNo
  chip : ChipId
  ctx : CtxNo
  holder : Holder
  inv : Bool
  /-- TAG of a registration from another chip (R302) -/
  tag : Nat
deriving DecidableEq, Repr, Inhabited

/-- A notification on the reply network (R180). -/
structure Note where
  w : Watch
  abandoned : Bool
  value : BitVec 48
  /-- the chip and the tile whose clasp fired -/
  fromChip : ChipId
  from_ : TileNo
  /-- the journalled operation that fired it: source tile, engine, place in its journal (R373) -/
  by_ : Option (TileNo × Fin 64 × Nat)
deriving DecidableEq, Repr, Inhabited

/-- A watch registered on another chip and not notified yet: the TAG of its WATCH packet (R302), the tile that holds the clasp, and the
watch as registered (R180). -/
structure FarWatch where
  tag : Nat
  holds : Nat
  at_ : Nat
  w : Watch
deriving DecidableEq, Repr, Inhabited

/-- Tag of a lining line (R150): space, tile of SPACE 1 (0 otherwise) and line address. -/
structure LineTag where
  space : Nat
  tile : Nat
  line : Nat
deriving DecidableEq, Repr, Inhabited

/-- An installed lining line; `parityBad` marks one whose parity fails on its next hit (R154, log 9). -/
structure LLine where
  tag : LineTag
  data : List Byte
  parityBad : Bool
deriving DecidableEq, Repr, Inhabited

/-- A lining fill requested and not yet installed (R153): cancelled by a covering invalidation. -/
structure LFill where
  tag : LineTag
  data : List Byte
  cancelled : Bool
deriving DecidableEq, Repr, Inhabited

/-- One output element (R63, R72, R73): four pyramid levels with occupancy, and the pair hi, lo. -/
structure Elem where
  lv : Vector W32 4
  occ : BitVec 4
  hi : W32
  lo : W32
deriving DecidableEq, Repr, Inhabited

/-- A loaded chunk of B (R58 to R60): element and scale bytes by column, with its KLEN and the B format it was read in. -/
structure Chunk where
  fb : Nat
  klen : Nat
  elems : List (List Nat)
  scales : List (List Nat)
deriving DecidableEq, Repr, Inhabited

/-- The open output tile (R57, R61, R69, R77, R79). -/
structure OpenTile where
  m : Nat
  n : Nat
  fa : Nat
  fb : Nat
  runl : Nat
  outId : BitVec 20
  ta : W32
  tb : W32
  elems : List (List Elem)
  chunks : Nat
deriving DecidableEq, Repr, Inhabited

/-- The tensor array of a tile. `issueOpen`, `issueLoaded`, `issueFA`, `issueFB` are the controller's view in program order
(R60, R61); `tile` is the array's own. -/
structure MM where
  issueOpen : Bool
  issueLoaded : Bool
  issueFA : Nat
  issueFB : Nat
  tile : Option OpenTile
  /-- an MM.OPEN that left the queue and waits for the previous drain (R69) -/
  opening : Option Entry
  buf : Vector (Option Chunk) 2
  rbNext : Fin 2
  rbLoaded : Bool
  accCur : W32
deriving DecidableEq, Repr, Inhabited

/-- Where a mover channel came from (R190, R421). -/
inductive Origin where
  | tile (t : TileNo) (slot : Fin 8)
  | host (p : PartNo) (q : QueueNo) (cid : W16)
  | collar
deriving DecidableEq, Repr, Inhabited

/-- A frozen mover descriptor with its two pattern records (R189 to R194). -/
structure Desc where
  d : BitVec 512
  srcRec : W256
  dstRec : W256
  origin : Origin
  ctx : CtxNo
  part : PartNo
  /-- the MV.LAUNCH, for its token and PCQ -/
  e : Entry
deriving DecidableEq, Repr, Inhabited

/-- Slot states (Table 8.6). -/
inductive SlotSt where
  | free | waiting | ready | running | paused | forwarded | stopping
deriving DecidableEq, Repr, Inhabited

/-- A mover slot: MOVER_SLOTn (Table 8.8) with its channel. -/
structure Slot where
  st : SlotSt
  prio : Fin 8
  exec : Fin 4
  mover : Fin 16
  rslot : Fin 64
  /-- last ending: 0 OK, 1 DENIED, 2 POOL_EMPTY, 3 ABANDONED, 4 CANCELLED, 5 POISONED; 6 ADDR_UNBOUND,
  7 POISON_READ, 8 REQ_TIMEOUT for channels launched by the host or the collar (R207) -/
  status : Nat
  pslot : Fin 64
  late : Fin 32
  doneBytes : W32
  desc : Option Desc
  /-- stream bytes moved -/
  pos : Nat
  /-- replies still outstanding -/
  awaits : Nat
  /-- reads outstanding on another chip: tag, stream position, length (R302) -/
  reads : List (Nat × Nat × Nat)
  /-- stream bytes read and not written yet (R197) -/
  buf : List Byte
  sentAt : W64
  burst : Nat
  /-- PACE 4: the tail ADD of the last unit still to be performed (R204) -/
  unitOpen : Bool
  /-- the done operation was sent to another chip and awaits its answer (R206) -/
  doneSent : Bool
  /-- stream bytes to move before the next pause or the end (R203, R204) -/
  target : Nat
  /-- pool slot held, with the first byte and the free clasp of its pool (R214) -/
  alloc : Option (Fin 48)
  poolBase : Nat
  poolClasp : Nat
  /-- the channel waits for a slot of its pool (R216) -/
  poolWait : Bool
  /-- the fence holds its ALLOC until the commit outcome (R372) -/
  poolHeld : Bool
  /-- TAG of a clasp operation on another chip, while unanswered (R302) -/
  tag : Option Nat
deriving DecidableEq, Repr, Inhabited

/-- A mover: its slots and the descriptors that wait for one in arrival order (R187, R190). -/
structure Mover where
  slots : List Slot
  arrivals : List Desc
deriving DecidableEq, Repr, Inhabited

/-- What a tile keeps for a commit (R371). -/
structure CommitRec where
  pc : Nat
  tok : Vector Byte 8
  bnd : Vector W32 16
  lc : Vector W32 4
  cvt : W32
  acc : W32
  vx : W32
  claspNote : W32
  moverNote : W32
deriving DecidableEq, Repr, Inhabited

/-- A journalled clasp operation (R373): engine, operation word, returned word, whether it was held, the notification
a registration received. -/
structure JEntry where
  eng : Fin 64
  op : W128
  operand0 : W64
  operand1 : W64
  returned : W64
  held : Bool
  /-- TAG of an operation on another chip whose answer has not come -/
  tag : Option Nat
  notified : Option (Bool × BitVec 48)
  fired : Option (TileNo × Fin 64 × Nat)
  /-- a window denied it -/
  denied : Bool
deriving DecidableEq, Repr, Inhabited

/-- A tile (one logical tile and what goes with it, Table 15.1). -/
structure Tile where
  pc : Nat
  mode : TMode
  ctx : Option CtxNo
  step : W64
  bnd : Vector W32 16
  bld : List Bld
  tok : Vector Byte 8
  lc : Vector W32 4
  queues : Vector (List Entry) 4
  flight : Vector (List Flight) 4
  faultInfo : W64
  pocket : Memory
  /-- words with an ECC error: false correctable, true ECC-poisoned (R143, R144, log 9) -/
  pocketBad : List (Nat × Bool)
  pocketErr : W64
  lining : List LLine
  fills : List LFill
  liningErr : W32
  mm : MM
  accStatus : W32
  cvtStatus : W32
  vxStatus : W32
  claspLocks : BitVec 48
  watches : Vector (Option Watch) 32
  watchWait : List Watch
  notes : List Note
  claspNote : W32
  mover : Mover
  moverNote : W32
  mhz : Nat
  level : Fin 5
  queued : Bool
  /-- device time of its last wake request (R410) -/
  askedAt : W64
  /-- device time of the last array issue and of the last activity (R409, R116) -/
  lastArray : W64
  lastActive : W64
  engineSince : Vector W64 4
  /-- tc that the head of each engine queue, and dispatch, has waited for a token (Table 19.3 EVENT 0x004) -/
  waited : Vector Nat 5
  record : Option CommitRec
  journal : List JEntry
  /-- replay: journal entries still to match (R376) -/
  toMatch : Option (List JEntry)
  bound : Option PartNo
  reserved : Bool
  cntBusy : W64
  cntStall : W64
  cntArray : W64
  cntResidue : W64
  cntCorrected : W64
deriving DecidableEq, Repr, Inhabited

/-- Health of a physical tile (Table 16.5). ROLE: 0 logical, 1 free patch tile, 2 retired, 3 being fitted. -/
structure Health where
  role : Fin 4
  suspect : Fin 4
  ltile : TileNo
  due : Bool
  overdue : Bool
  lastFit : W64
  lastSuspicion : W64
  fitStart : W64
deriving DecidableEq, Repr, Inhabited

/-- A window's state: closed, open or closing (Table 6.5), the fields it was opened with, and accesses it admitted that
are not yet performed (R168). -/
structure Window where
  st : Fin 3
  tile : Nat
  base : Nat
  size : Nat
  slice : Nat
  chipLo : Nat
  chipHi : Nat
  rights : BitVec 3
  admitted : Nat
  /-- opened by an image of this context (R275), or for a repair range (R381) -/
  forCtx : Option CtxNo
  reserved : Bool
deriving DecidableEq, Repr, Inhabited

/-- A buffer pool (Table 8.11, R215). -/
structure Pool where
  open_ : Bool
  tile : Nat
  freeClasp : Nat
  base : Nat
  slots : Nat
  emptyCount : W64
  rr : Nat
  forCtx : Option CtxNo
  reserved : Bool
deriving DecidableEq, Repr, Inhabited

/-- A command of a submission queue that has started and not completed (R421). -/
inductive Started where
  | steps (cid : W16) (ctx : CtxNo) (lastStep : W64)
  | channel (cid : W16) (ctx : CtxNo)
deriving DecidableEq, Repr, Inhabited

/-- A completion not yet written (R423). -/
structure Completion where
  cid : W16
  status : W16
  detail : W64
deriving DecidableEq, Repr, Inhabited

/-- A submission and completion queue pair (R420 to R424). -/
structure Queue where
  /-- 0 off, 1 on, 2 error (Table 18.4) -/
  st : Fin 3
  sqBase : W64
  cqBase : W64
  log2 : Nat
  vector : Nat
  head : Nat
  tail : Nat
  cqTail : Nat
  cqHead : Nat
  phase : Bool
  error : W16
  started : List Started
  /-- completions that wait for room in the CQ -/
  waiting : List Completion
deriving DecidableEq, Repr, Inhabited

/-- An event queue (R425). -/
structure Evq where
  on : Bool
  base : W64
  log2 : Nat
  vector : Nat
  head : Nat
  tail : Nat
  phase : Bool
  lost : W64
deriving DecidableEq, Repr, Inhabited

/-- One MSI-X vector (R426): `deferred` waits for the 2 us spacing. -/
structure Msix where
  addr : W64
  data : W32
  masked : Bool
  pba : Bool
  sentOnce : Bool
  lastSent : W64
  deferred : Bool
  sent : W64
deriving DecidableEq, Repr, Inhabited

/-- State of a binding request (Table 15.2). -/
structure BindReq where
  /-- 0 idle, 1 draining, 2 moving, 3 done, 4 refused -/
  st : Fin 5
  result : W16
  kind : Nat
  first : Nat
  count : Nat
  addr : Nat
  action : Nat
  flags : Nat
  drainUs : Nat
  startedAt : W64
  /-- contexts that use the resource -/
  users : List CtxNo
  /-- judged, and its drain begun -/
  begun : Bool
  /-- the partitions the resources come from, and the pages or granules on the way -/
  owners : List PartNo
  moved : List Nat
  /-- the partition each tile or engine came from (R186, R348) -/
  olds : List (Nat × PartNo)
deriving DecidableEq, Repr, Inhabited

/-- State of an admission (Table 11.6). -/
structure Admit where
  /-- 0 idle, 1 checking, 2 loading, 3 admitted, 4 refused -/
  st : Fin 5
  ctx : CtxNo
  image : Nat
  length : Nat
  report : List Byte
deriving DecidableEq, Repr, Inhabited

/-- A peer-repair range (Table 16.3). -/
structure Repair where
  on : Bool
  base : Nat
  length : Nat
  peerChip : Nat
  peerBase : Nat
  version : Nat
  mailbox : Nat
  windows : List WinNo
deriving DecidableEq, Repr, Inhabited

/-- A repair in progress on either side (R382): the line and the access that waits. -/
structure RepairReq where
  range : Fin 16
  slot : Fin 16
  part : PartNo
  lineAddr : Nat
  sentAt : W64
  who : Requester
deriving DecidableEq, Repr, Inhabited

/-- A repair request of the peer that waits for this device's version (R382 step 4). -/
structure PeerWait where
  range : Fin 16
  slot : Fin 16
  addr : Nat
  version : Nat
  tag : Nat
  since : W64
deriving DecidableEq, Repr, Inhabited

/-- A checkpoint record's state (Table 16.4). -/
structure Ckpt where
  /-- 0 idle, 1 armed, 2 holding -/
  st : Fin 3
  ctx : CtxNo
  step : W64
  since : W64
deriving DecidableEq, Repr, Inhabited

/-- A job ring (R220, R326): 0 closed, 1 open, 2 closing. -/
structure Ring where
  st : Fin 3
  /-- the watch of R221 has told that job `next` is there -/
  ready : Bool
  /-- jobs below it have been taken before (R374) -/
  high : Nat
  part : PartNo
  base : Nat
  log2 : Nat
  tile : TileNo
  head : Nat
  tail : Nat
  ctx : CtxNo
  next : Nat
deriving DecidableEq, Repr, Inhabited

/-- A gather job in progress (R222, R228, R234). -/
structure Job where
  /-- descriptor address in the partition -/
  addr : Nat
  d : BitVec 1024
  table : W256
  /-- bags delivered -/
  bags : Nat
  /-- progress groups released -/
  released : Nat
  status : Nat
  flags : Byte
  /-- BWD: phase A finished cleanly; rows staged in SCR (R234) -/
  phaseA : Bool
  rerun : Bool
  done : Bool
  /-- its descriptor or table is not read yet: a read waits for memory or for peer repair (R239) -/
  reading : Bool
  /-- how far its end has come: 1 completion word written or given up, 2 done operation performed (R221) -/
  stage : Nat
  /-- rows staged in SCR in ascending order: row, SPACE, address (R234) -/
  rowsOut : List (Nat × Nat × Nat)
  /-- index entries of the job: NIDX -/
  nidx : Nat
  /-- rows copied into place -/
  urows : Nat
  /-- the map cache (R226): at most 256 entries of the tier map by address -/
  mapCache : List (Nat × List Byte)
  /-- table-memory ports the job has read or written (R243) -/
  ports : List TmemNo
  /-- a backward job that had ended before a replay: its end is told again, nothing else (R374) -/
  skip : Bool
  /-- waiting for memory since -/
  waitSince : Option W64
deriving DecidableEq, Repr, Inhabited

structure Gather where
  ring : Ring
  job : Option Job
  /-- a backward job that runs on while earlier jobs are replayed (R374) -/
  stash : Option Job
  /-- partition that holds the engine -/
  bound : Option PartNo
  suspect : Fin 4
deriving DecidableEq, Repr, Inhabited

/-- A row-cache line (R230): partition, space, line address, data. -/
structure RLine where
  part : PartNo
  space : Nat
  line : Nat
  data : List Byte
  parityBad : Bool
deriving DecidableEq, Repr, Inhabited

/-- A table-memory port (Table 9.7). -/
structure Tmem where
  enabled : Bool
  /-- 0 down, 1 training, 2 up, 3 failed -/
  st : Fin 4
  gib : Nat
  link : Nat
  poison : W64
deriving DecidableEq, Repr, Inhabited

/-- ECC state of a stacked-memory line (R284 to R287, log 9). -/
inductive LineErr where
  /-- one wrong symbol; whether a read has found it and its write-back is due (R286) -/
  | correctable (found : Bool)
  | uncorrectable
  | poison
deriving DecidableEq, Repr, Inhabited

/-- A stack: HBM_STACK_ERR and its objects (Tables 12.3, 12.4), the scrubber's next line. -/
structure Stack where
  err : W64
  /-- 0 training, 1 up, 2 failed -/
  st : Fin 3
  ueCount : W64
  scrubLine : Nat
  /-- passes the scrubber has ended -/
  passes : W64
  /-- scrub interval of the pass that runs, in hours (Table 12.4: a new one counts from the next pass) -/
  interval : Nat
  cntCorrected : W64
deriving DecidableEq, Repr, Inhabited

/-- A page copy in progress (R293): old page, spare, copy pointer in lines. -/
structure Remap where
  old : Nat
  new : Nat
  /-- the spare met an uncorrectable line while it was copied to: it is remapped next (R292) -/
  again : Bool
  ptr : Nat
deriving DecidableEq, Repr, Inhabited

/-- A bound page or granule: physical number, partition, partition number. -/
structure Bound where
  phys : Nat
  part : PartNo
  pno : Nat
deriving DecidableEq, Repr, Inhabited

/-- A lane (Table 13.11). STATE: 0 off, 1 training, 2 active, 3 failed, 4 spare idle. -/
structure Lane where
  st : Fin 5
  slow : Bool
  peerChip : ChipId
  peerLane : LaneNo
  port : PortNo
  fecCorr : BitVec 20
  fecUncorr : W16
  failedAt : W64
  lastTry : W64
  /-- substituted into this port in place of the failed lane (R308) -/
  subst : Option LaneNo
  bound : Option PartNo
  cntRetries : W64
  cntFec : W64
deriving DecidableEq, Repr, Inhabited

/-- A link port (Tables 13.4, 13.10, R303, R304, R310). -/
structure Port where
  enabled : Bool
  /-- 0 down, 1 training, 2 up, 3 narrow, 4 holding, 5 lost -/
  st : Fin 6
  /-- device time of the first lane failure of the hold window -/
  failedAt : Option W64
  paced : Bool
  rtt : BitVec 10
  replays : W16
  holds : Byte
  subst : Byte
  /-- spares that the substitution in progress has tried and found at another chip (R308) -/
  tried : List LaneNo
  /-- packets sent and not acknowledged, oldest first, and the count of the oldest (R304) -/
  replay : List Packet
  oldest : W16
  /-- packets that wait to be sent -/
  out : List Packet
  /-- packets received in order with a good CRC (R303) -/
  rxCount : W16
  /-- discarding until replay begins -/
  nakking : Bool
  badCrc : Nat
  /-- off bits received from the far end, and sent to it -/
  off : BitVec 4
  offSent : BitVec 4
  /-- class buffers: request 0, request 1, reply 0, reply 1, each with arrival times -/
  rx : Vector (List (Packet × W64)) 4
  /-- LCWs sent -/
  lcwOut : List Lcw
deriving DecidableEq, Repr, Inhabited

/-- A slice routing table (R315): entries not listed hold 0x00FF. -/
structure SliceTable where
  active : Bool
  id : SliceId
  part : PartNo
  entries : List (Nat × W16)
deriving DecidableEq, Repr, Inhabited

/-- A collective layout (Table 14.1). -/
structure Layout where
  loaded : Bool
  axes : Vector W32 4
  wPlus : List Byte
  wMinus : List Byte
  rank : Nat
  stallUs : Nat
  /-- addresses and priorities of the two ordinary ports in effect for the slice (R342) -/
  addrs : Vector Nat 2
  prios : Vector Nat 2
deriving DecidableEq, Repr, Inhabited

/-- One stream of a collective, a level and a direction (R330, R335): bytes received and not yet consumed of PHASE 0 and of PHASE 1,
whether the staging buffer holds an uncorrectable error (R363), credits held for sending, and whether the neighbour it sends to has
answered READY. -/
structure CStream where
  level : Fin 4
  dir : Bool
  staged : List Byte
  spread : List Byte
  bad : Bool
  credits : Nat
  ready : Bool
deriving DecidableEq, Repr, Inhabited

/-- How far one half of a collective has come in a phase: ring step, chunk of the step, packets sent. -/
structure CHalf where
  step : Nat
  chunk : Nat
  pidx : Nat
deriving DecidableEq, Repr, Inhabited

/-- A collective in progress (R327 to R335). `vals` are this device's running sums, one FP32 word per element (OP 0, 1);
`out` holds what it has of the output by offset from DST (OP 4: its list); `lists` are the lists received at the current
level, by position and direction (OP 4). -/
structure CollJob where
  addr : Nat
  d : BitVec 512
  /-- the inputs have been read -/
  loaded : Bool
  vals : List W32
  out : Memory
  lists : List ((Nat × Bool) × List Byte)
  /-- progress of each phase, half 0 and half 1 in turn: levels and directions form a pipeline (R335) -/
  halves : List CHalf
  streams : List CStream
  lastMove : W64
  flags : Byte
  /-- the reducers that mismatched the chunk they now recompute (R334) -/
  suspects : List PortNo
deriving DecidableEq, Repr, Inhabited

/-- A COLL_CTL message that came before its collective was taken (Table 14.5). -/
structure CollCtl where
  id : W32
  kind : Nat
  level : Fin 4
  dir : Bool
  status : Nat
  origin : Nat
  port : Nat
  data : W32
  src : Nat
deriving DecidableEq, Repr, Inhabited

structure Net where
  /-- 0 down, 1 training, 2 up -/
  st : Fin 3
  downSince : W64
  /-- messages of the W level, each with the address it goes to (R325, R336) -/
  out : List (List Byte × Packet)
  /-- device time of the oldest W message that nothing received since acknowledges (R339, log 24) -/
  unacked : Option W64
deriving DecidableEq, Repr, Inhabited

/-- A sentinel entry (Table 10.6) with the step totals being formed (R246, R250). FILL is the length of `hist`, newest
first. -/
structure SEntry where
  part : PartNo
  ctx : CtxNo
  /-- the sentinel set that holds it (R346) -/
  set : Fin 32
  tensor : BitVec 20
  variant : BitVec 4
  maxv : BitVec 4
  consec : Nat
  pinned : Bool
  margin : Fin 4
  demotes : Nat
  quiet : W32
  promotes : W32
  hist : List W32
  satPpm : W32
  unfPpm : W32
  errRatio : W32
  worst : W32
  /-- written by part.sentinel.entries and not yet started (R262) -/
  restored : Bool
  /-- non-finite occurrences counted (R257) -/
  nonfinCount : W64
  -- totals of the step: ERR and SIG are exact sums in units of 2^-149
  nStat : Nat
  n : Nat
  sat : Nat
  unf : Nat
  errSum : Nat
  sigSum : Nat
  sumBad : Bool
  wmax : W32
  amax : W32
  accOvf : Bool
  nonfin : Nat
  /-- trigger mask of the boundary in progress (R258) -/
  trigger : BitVec 6
  /-- a forced variant waiting for the boundary (R261) -/
  forced : Option (BitVec 4 × Bool)
deriving DecidableEq, Repr, Inhabited

/-- A report to the sentinel (R80, R129). `block` is the target's block size (log 20). -/
inductive Report where
  | stat (ctx : CtxNo) (tile : TileNo) (tensor : BitVec 20) (rec : W256) (block : Nat)
  | acc (ctx : CtxNo) (tile : TileNo) (outId : BitVec 20) (flags : BitVec 3)
deriving DecidableEq, Repr, Inhabited

/-- A tile's share of an admitted image (R271). -/
structure ImgTile where
  tile : TileNo
  entry : Option Nat
  code : List (Nat × List Byte)
  data : List (Nat × List Byte)
  used : BitVec 48
  shared : BitVec 48
  values : List W64
  watch : Nat
deriving DecidableEq, Repr, Inhabited

structure ImgWin where
  tile : Nat
  base : Nat
  size : Nat
  slice : Nat
  chipLo : Nat
  chipHi : Nat
  rights : Nat
deriving DecidableEq, Repr, Inhabited

structure ImgPool where
  tile : Nat
  clasp : Nat
  base : Nat
  slots : Nat
deriving DecidableEq, Repr, Inhabited

structure ImgGuard where
  tensor : BitVec 20
  margin : Fin 4
  sat : W32
  unf : W32
  err : W32
  worst : W32
deriving DecidableEq, Repr, Inhabited

/-- What admission keeps of an image (R271, R274). -/
structure Image where
  tiles : List ImgTile
  wins : List ImgWin
  pools : List ImgPool
  guards : List ImgGuard
  /-- format selector words: offset, tile, tensor -/
  fsw : List (Nat × TileNo × BitVec 20)
  /-- history words: offset, tile, tensor -/
  hist : List (Nat × TileNo × BitVec 20)
  /-- MEMORY ranges: space, address, length -/
  mem : List (Nat × Nat × Nat)
  gatherMask : BitVec 16
  bulkMask : BitVec 16
  hl : List Nat
deriving DecidableEq, Repr, Inhabited

/-- A tile whose contents lie in its context's save area (R353, R354): the watches that wait there, with what Table 7.6 does
not show of them, the registrations that waited for a slot, whether a register record was saved, and whether its kernel had ended;
of a kernel in the middle of a step also what the collar keeps for its segment (R371, R373). -/
structure SavedTile where
  tile : TileNo
  watches : Vector (Option Watch) 32
  waiting : List Watch
  regs : Bool
  ended : Bool
  record : Option CommitRec
  journal : List JEntry
  toMatch : Option (List JEntry)
deriving DecidableEq, Repr, Inhabited

/-- Context states (Table 15.4). -/
inductive CtxSt where
  | free | bound | admitted | ready | running | saved | suspended | tearing
deriving DecidableEq, Repr, Inhabited

/-- Why a context is torn down (R361, R377, R380, R389, R363, R364). -/
inductive Cause where
  | tileFault (code : Byte)
  | gather (status : Byte)
  | drainExpired | saveFailed | command | journalFull | replayDiverged | replayExhausted | auditUnresolved
  | fittingFailed | partitionReset | flr
deriving DecidableEq, Repr, Inhabited

/-- A boundary operation held by the fence (R372). -/
structure HeldOp where
  tile : TileNo
  target : TileNo
  word : W128
  operand0 : W64
deriving DecidableEq, Repr, Inhabited

structure Context where
  part : Option PartNo
  st : CtxSt
  prio : Fin 8
  /-- priority written, in effect from the next boundary of a running context (R358) -/
  prioSet : Fin 8
  image : Option Image
  /-- step releases not yet run, with the queue and CID that asked for each batch (R422) -/
  releases : List (Nat × PartNo × QueueNo × W16)
  stepNo : W64
  /-- a step is running (between release and boundary) -/
  inStep : Bool
  /-- every tile has passed its final commit; the boundary is due (R259) -/
  atBoundary : Bool
  startedAt : W64
  waitSince : W64
  marked : Bool
  commits : W32
  replays : Byte
  fenced : Bool
  jfull : Bool
  audit : Bool
  lastSuspect : TileNo
  suspectUnit : Option ResUnit
  auditMiss : Bool
  /-- dual mode (R379): the audited tile, its shadow, and whether the two have met at the operation now due -/
  auditTile : Option TileNo
  shadow : Option PhysNo
  met : Bool
  attempts : Nat
  replaying : Bool
  /-- a commit failed and the replay has not restarted (R374) -/
  replayDue : Bool
  /-- the two physical tiles of the audit a replay decides (R380) -/
  auditPair : Option (PhysNo × PhysNo)
  /-- part.ctx.command last committed (Table 15.5) -/
  command : Nat
  held : List HeldOp
  reports : List Report
  recorded : List (TileNo × List W64)
  dogAt : W64
  dogLimit : W64
  saved : List SavedTile
  saveBase : Nat
  /-- being saved or restored -/
  saving : Bool
  restoring : Bool
  /-- a fitting pause, a checkpoint hold or a component restart keeps the boundary -/
  heldAt : Bool
  teardownCause : Option Cause
  /-- decisions of the boundary in progress (R256, R259): promote, demote -/
  decided : Option (List (BitVec 20) × List (BitVec 20))
  resumeStep : W64
  /-- commit record of the gather rings: next job, running job (R371) -/
  ringRec : List (GatherNo × Nat × Option Job)
deriving DecidableEq, Repr, Inhabited

structure Partition where
  windows : Vector Window 64
  violations : W64
  pools : Vector Pool 8
  collRing : Ring
  coll : Option CollJob
  /-- messages for a collective not yet taken, and COLL_ID of the last one (R327, R328, R339) -/
  collEarly : List CollCtl
  collPrev : Option W32
  /-- the collective that ended last was aborted, or its ABORT has been forwarded (R339) -/
  collCut : Bool
  bind : BindReq
  adm : Admit
  repairs : Vector Repair 16
  repairReqs : List RepairReq
  peerWaits : List PeerWait
  /-- last repair request answered in each mailbox slot: range, slot, tag (R382) -/
  served : List ((Fin 16 × Fin 16) × Nat)
  repairCount : W64
  ckpt : Ckpt
  queues : Vector Queue 64
  evq : Evq
  msix : Vector Msix 124
  busMaster : Bool
  /-- last BAR4 read answer: data, or none for a poisoned completion (R418) -/
  barRead : Option (List Byte)
  barPoison : Bool
deriving DecidableEq, Repr, Inhabited

/-- A dictionary response (Table 18.7). -/
structure Resp where
  opc : Byte
  tag : Byte
  status : W16
  ty : Byte
  value : List Byte
deriving DecidableEq, Repr, Inhabited

/-- A session (R427, R434). -/
structure Session where
  open_ : Bool
  owner : Bool
  /-- staged fields: index, sub-index, value -/
  staged : List ((Nat × Nat) × Nat)
  stagedBlob : List ((Nat × Nat) × List Byte)
  /-- segmented writes in progress: index, sub-index, bytes so far, time of the last segment (R435) -/
  segs : List ((Nat × Nat) × (List Byte × W64))
  stagedAt : List (Nat × W64)
  expired : List Nat
  peer : W16
  /-- a compatible fw.iface.peer has been written (R440) -/
  peerOk : Bool
  resp : Resp
  lastMsg : W64
deriving DecidableEq, Repr, Inhabited

/-- A clamp-log entry (R433). -/
structure ClampEntry where
  owner : Bool
  part : PartNo
  index : W16
  sub : Byte
  written : W64
  stored : W64
  time : W64
deriving DecidableEq, Repr, Inhabited

/-- An error-log entry (R451). -/
structure LogEntry where
  time : W64
  code : W16
  part : Option PartNo
  ctx : Byte
  src : BitVec 36
  payload : BitVec 128
deriving DecidableEq, Repr, Inhabited

/-- An alarm record (Table 19.5). -/
structure Alarm where
  code : W16
  source : W16
  active : Bool
  count : W64
  first : W64
  last : W64
  data : BitVec 128
deriving DecidableEq, Repr, Inhabited

/-- A trace record (R453). -/
structure TraceRec where
  time : W64
  unit : W16
  part : Option PartNo
  code : W16
  payload : BitVec 128
deriving DecidableEq, Repr, Inhabited

/-- One tile of a context dump (R455): registers, fault, clasp words, watches, locks, queue contents and slot states. -/
structure DumpTile where
  tile : TileNo
  regs : CommitRec
  fault : W64
  clasps : List W64
  watches : List (Option Watch)
  locks : BitVec 48
  queued : List (List Entry)
  slots : List Nat
deriving DecidableEq, Repr, Inhabited

/-- A context dump (R455): context, partition, read flag, its tiles and the heads of its job rings. -/
structure Dump where
  ctx : CtxNo
  part : PartNo
  unread : Bool
  tiles : List DumpTile
  rings : List Nat
deriving DecidableEq, Repr, Inhabited

/-- A collar firmware component (R438, R439). -/
structure Component where
  restarting : Bool
  restarts : W32
  times : List W64
deriving DecidableEq, Repr, Inhabited

/-- A device dump (R456): the components' state, the error log, the alarm table, every tile's registers with its FAULT_INFO. -/
structure DevDump where
  comps : List Component
  errors : List LogEntry
  alarms : List Alarm
  tiles : List (CommitRec × W64)
deriving DecidableEq, Repr, Inhabited

/-- What the instrument network reads of a tile (Table 19.8): pocket, lining, registers, queues. -/
structure ScanTile where
  pocket : Memory
  lining : List LLine
  regs : CommitRec
  /-- TILE_MM_STATE (Table 3.8) -/
  mm : W32
  fault : W64
  queued : List (List Entry)
deriving DecidableEq, Repr, Inhabited

/-- What the last scan shifted out (R458): the freeze status, and the tiles when the instrument network was read. -/
structure Scan where
  frozen : Bool
  tiles : List ScanTile
deriving DecidableEq, Repr, Inhabited

/-- A counter of a counter set (Table 19.2). -/
structure Cset where
  ctl : W32
  cnt : W64
deriving DecidableEq, Repr, Inhabited

/-- Reset, pins, and the always-on domain (17_reset_clock_power.md). -/
structure Rst where
  cause : Fin 9
  secondary : BitVec 9
  count : W32
  /-- rst.state, 1 to 10 (R399 to R402) -/
  state : Fin 11
  /-- device reset held; the time it started; the sources asserted -/
  held : Bool
  since : W64
  asserted : BitVec 9
  released : Bool
  hostReset : Bool
  linkUp : Bool
  /-- since when the host link is down, after it was up -/
  linkDownAt : Option W64
  perst : Bool
  brake : Bool
  thermTrip : Bool
  bootSel : BitVec 2
  mgmtAddr : BitVec 3
  frozen : Bool
  firstMark : Bool
deriving DecidableEq, Repr, Inhabited

structure Panel where
  /-- wake events waiting, in arrival order (R410) -/
  wakes : List TileNo
  /-- device times of the wake events granted -/
  granted : List W64
  delays : W32
  thermal : Nat
  railMv : Nat
  lastThermal : W64
  /-- since when the panel sits at 600 MHz and still too hot (R414) -/
  hotAt600 : Option W64
  heldLevel1 : Bool
deriving DecidableEq, Repr, Inhabited

/-- Rack time (R322, R323, Table 13.13). -/
structure Tsync where
  /-- 0 free-running, 1 aligned, 2 holdover, 3 rack master locked -/
  st : Fin 4
  offset : Int
  lastEdge : W64
  epoch : Option W64
  /-- nanoseconds still to be slewed: positive to add -/
  slew : Int
  slewPhase : Nat
  refOk : Bool
  /-- 1588: offset to the time transmitter, locked -/
  ptpLocked : Bool
  ptpOffset : Int
  ptpT1 : Option W64
  /-- device time at which the Delay_Req was sent -/
  ptpT3 : Option W64
  /-- the default best master clock algorithm makes this clock the time transmitter of its domain (Table 13.12) -/
  ptpTx : Bool
  /-- 1588 messages sent in answer to the last one received -/
  ptpOut : List PtpMsg
  /-- a missed edge has been raised since the last edge (R323) -/
  missed : Bool
  edges : W64
  sentMark : Bool
  /-- Table 13.13 values in effect, taken over at each RACK_MARK edge: role, port, domain, first, last chip, slice -/
  eff : Vector Nat 6
deriving DecidableEq, Repr, Inhabited

/-- The firmware store and update state (R441, R442). -/
structure Fw where
  /-- versions, security versions and validity of the two banks; which is bank A; which runs -/
  bankVer : Vector W32 2
  bankSec : Vector Byte 2
  bankValid : Vector Bool 2
  bankA : Fin 2
  running : Fin 2
  secVersion : Byte
  bootSecVersion : Byte
  /-- PLDM: 0 idle, 1 learn components, 2 ready, 3 download, 4 verify, 5 apply, 6 activate -/
  pldm : Fin 7
  agent : Option SessId
  comp : W16
  size : Nat
  image : List Byte
  verified : Bool
  bundle : List Byte
  bundleVer : W32
  reply : List Byte
  /-- requests the device has for the update agent, oldest first (R428) -/
  requests : List (List Byte)
deriving DecidableEq, Repr, Inhabited

/-- An SPDM connection of a requester (R444). -/
structure Spdm where
  /-- 0 none, 1 version, 2 capabilities, 3 algorithms negotiated -/
  st : Fin 4
  /-- secured session: 0 none, 1 key exchange done, 2 established -/
  secured : Fin 3
  mutual_ : Bool
  authOwner : Bool
  keyGen : Nat
  /-- a large message being received, and one being sent -/
  chunk : List Byte
  large : List Byte
  reply : List Byte
deriving DecidableEq, Repr, Inhabited

/-- Trace (R453, R454). -/
structure Trace where
  mode : Nat
  sizeMib : Nat
  pre : Nat
  sources : BitVec 6
  parts : W16
  trigger : W16
  /-- 0 recording, 1 post-filling, 2 frozen, 3 full, 4 frozen with PRE_SHORT -/
  st : Fin 5
  dropped : W64
  late : W64
  buf : List TraceRec
  post : Nat
  preKept : Nat
deriving DecidableEq, Repr, Inhabited

/-- Everything the manual gives the part. -/
structure Device where
  tiles : Vector Tile 512
  patchMap : Vector PhysNo 512
  health : Vector Health 576
  bulk : Vector Mover 16
  bulkBound : Vector (Option (PartNo × Bool)) 16
  hl : Vector Mover 8
  /-- descriptors in transit to an executing mover, end reports in transit to a proxy slot (R190) -/
  forwards : List (MoverId × Desc)
  reports : List (TileNo × Fin 8 × Nat)
  parts : Vector Partition 16
  ctxs : Vector Context 256
  gather : Vector Gather 16
  rowCache : Vector (List RLine) 4
  tmem : Vector Tmem 4
  hbm : Memory
  hbmBad : List (Nat × LineErr)
  /-- corrected reads of the last scrub interval: page and time (R290) -/
  pageCe : List (Nat × W64)
  hbmStacks : Vector Stack 12
  pages : List Bound
  granules : List Bound
  remaps : List Remap
  retiredPages : List Nat
  /-- pages that found no spare: retired at their next unbinding (R294) -/
  dueRetire : List Nat
  retiredTiles : List Nat
  usedSpares : List Nat
  /-- allocatable pages that hold reserved regions in place of retired pages (R295) -/
  extraReserved : List Nat
  /-- allocatable pages that are spares in place of retired pages (R295) -/
  extraSpare : List Nat
  tmemBytes : Memory
  tmemPoison : List Nat
  hostMem : Memory
  ports : Vector Port 8
  lanes : Vector Lane 64
  tables : Vector SliceTable 16
  layouts : Vector Layout 16
  drops : Vector W64 2
  dropTotal : W64
  chipId : ChipId
  net : Vector Net 2
  /-- requests sent to other chips: tag, who waits -/
  tags : List (Nat × Requester)
  farWatches : List FarWatch
  nextTag : Nat
  sentinel : List SEntry
  sentinelSets : Vector (Option PartNo) 32
  unregistered : W64
  sentReports : List Report
  replayCount : W64
  replayFailed : W64
  auditRuns : W64
  auditSkipped : W64
  auditMiss : W64
  reducerSuspect : Vector (Fin 4) 8
  rst : Rst
  devTime : W64
  devLatch : W32
  panels : Vector Panel 4
  powerLimit : Nat
  packageW : W16
  sensors : Vector Int 64
  govDelays : W64
  tsync : Tsync
  collarCores : Nat
  spareUsed : Bool
  comps : Vector Component 8
  sessions : List (SessId × Session)
  mbx : List (Fn × W64)
  /-- committed dictionary values: index, sub-index, selected item (R434) -/
  dict : List ((Nat × Nat × Nat) × Nat)
  devEvq : Evq
  devMsix : Vector Msix 64
  firstOwner : Bool
  clampLog : List ClampEntry
  clampLost : Nat
  errLog : List LogEntry
  alarms : List Alarm
  i3cDyn : Option (BitVec 7)
  ibi : W64
  fw : Fw
  spdm : List (SessId × Spdm)
  csets : Vector (Vector Cset 8) 32
  csetBound : Vector (Option PartNo) 32
  cntResidue : W64
  cntCorrected : W64
  cntRetries : W64
  trace : Trace
  dumps : List Dump
  dumpLost : W64
  deviceDump : Option DevDump
  scan : Scan
  /-- commits of binding requests in arrival order (R346) -/
  bindQueue : List PartNo
  /-- the model's own: index of the next free value (log 7) -/
  freeCount : Nat
deriving DecidableEq, Repr, Inhabited

/-- The machine: the part, and the commands that wait, first in first out. -/
structure State where
  dev : Device
  pending : List Instr
deriving DecidableEq, Repr, Inhabited

/-- Why a step stops with a fault. -/
inductive Fault where
  /-- Raised by every meaning whose command is not a command of the part: an operand outside WellFormed (a packet of
  more than 256 bytes, an access of no bytes). Safe: the part never sees such a command. -/
  | illFormed
deriving DecidableEq, Repr

/-- Why a command is refused. -/
inductive Refusal where
  /-- Raised by the dispatch for a command whose meaning is not written yet; the mnemonic of its row. Safe. -/
  | notModelled (mnemonic : String)
deriving DecidableEq, Repr

/-- A pattern-free, empty output-tile state (Table 3.12: every field resets to 0). -/
def MM.reset : MM :=
  { issueOpen := false, issueLoaded := false, issueFA := 0, issueFB := 0, tile := none,
    opening := none, buf := Vector.replicate 2 none, rbNext := 0, rbLoaded := false, accCur := 0 }

/-- An unused slot (Table 8.8: every field resets to 0, ST to FREE; priority 0 until MV.SETPRIO or a launch, log 1). -/
def Slot.reset : Slot :=
  { st := .free, prio := 0, exec := 0, mover := 0, rslot := 0, status := 0, pslot := 0, late := 0, doneBytes := 0,
    desc := none, pos := 0, awaits := 0, reads := [], buf := [], sentAt := 0, burst := 0, unitOpen := false,
    doneSent := false, target := 0, alloc := none, poolBase := 0, poolClasp := 0, poolWait := false, poolHeld := false, tag := none }

/-- A mover of `n` slots (Table 8.1). -/
def Mover.reset (n : Nat) : Mover := { slots := List.replicate n Slot.reset, arrivals := [] }

/-- A tile after device reset: registers at their Reset column, pocket zero (R145), no kernel, nothing queued. What the
manual gives no reset value is zero or empty (log 1). -/
def Tile.reset : Tile :=
  { pc := 0, mode := .idle, ctx := none, step := 0, bnd := Vector.replicate 16 0, bld := [], tok := Vector.replicate 8 0,
    lc := Vector.replicate 4 0, queues := Vector.replicate 4 [], flight := Vector.replicate 4 [], faultInfo := 0,
    pocket := [], pocketBad := [], pocketErr := 0, lining := [], fills := [], liningErr := 0, mm := MM.reset,
    accStatus := 0, cvtStatus := 0, vxStatus := 0, claspLocks := 0, watches := Vector.replicate 32 none,
    watchWait := [], notes := [], claspNote := 0, mover := Mover.reset 8, moverNote := 0, mhz := 0, level := 0,
    queued := false, askedAt := 0, lastArray := 0, lastActive := 0, engineSince := Vector.replicate 4 0,
    waited := Vector.replicate 5 0, record := none, journal := [],
    toMatch := none, bound := none, reserved := false, cntBusy := 0, cntStall := 0, cntArray := 0, cntResidue := 0,
    cntCorrected := 0 }

/-- A health record after device reset (Table 16.5). -/
def Health.reset : Health :=
  { role := 0, suspect := 0, ltile := 0, due := false, overdue := false, lastFit := 0, lastSuspicion := 0, fitStart := 0 }

/-- Table 6.5 defaults. -/
def Window.reset : Window :=
  { st := 0, tile := 0, base := 0, size := 64, slice := 0, chipLo := 0, chipHi := 32767, rights := 0, admitted := 0,
    forCtx := none, reserved := false }

/-- Table 8.11 defaults. -/
def Pool.reset : Pool :=
  { open_ := false, tile := 0, freeClasp := 0, base := 0, slots := 1, emptyCount := 0, rr := 0, forCtx := none,
    reserved := false }

def Ring.reset : Ring :=
  { st := 0, part := 0, base := 0, log2 := 4, tile := 0, head := 0, tail := 1, ctx := 0, next := 0, ready := false, high := 0 }

def Queue.reset : Queue :=
  { st := 0, sqBase := 0, cqBase := 0, log2 := 0, vector := 0, head := 0, tail := 0, cqTail := 0, cqHead := 0,
    phase := true, error := 0, started := [], waiting := [] }

def Evq.reset : Evq :=
  { on := false, base := 0, log2 := 8, vector := 0, head := 0, tail := 0, phase := true, lost := 0 }

def Msix.reset : Msix :=
  { addr := 0, data := 0, masked := true, pba := false, sentOnce := false, lastSent := 0, deferred := false, sent := 0 }

def BindReq.reset : BindReq :=
  { st := 0, result := 0, kind := 1, first := 0, count := 1, addr := 0, action := 1, flags := 0, drainUs := 4000,
    startedAt := 0, users := [], begun := false, owners := [], moved := [], olds := [] }

def Admit.reset : Admit := { st := 0, ctx := 0, image := 0, length := 64, report := [] }

def Repair.reset : Repair :=
  { on := false, base := 0, length := 0, peerChip := 0, peerBase := 0, version := 0, mailbox := 0, windows := [] }

def Ckpt.reset : Ckpt := { st := 0, ctx := 0, step := 0, since := 0 }

def Partition.reset : Partition :=
  { windows := Vector.replicate 64 Window.reset, violations := 0, pools := Vector.replicate 8 Pool.reset,
    collRing := Ring.reset, coll := none, collEarly := [], collPrev := none, collCut := false, bind := BindReq.reset, adm := Admit.reset,
    repairs := Vector.replicate 16 Repair.reset, repairReqs := [], peerWaits := [], served := [], repairCount := 0, ckpt := Ckpt.reset,
    queues := Vector.replicate 64 Queue.reset, evq := Evq.reset, msix := Vector.replicate 124 Msix.reset,
    busMaster := false, barRead := none, barPoison := false }

/-- A free context (R352). -/
def Context.reset : Context :=
  { part := none, st := .free, prio := 3, prioSet := 3, image := none, releases := [], stepNo := 0, inStep := false,
    atBoundary := false, startedAt := 0, waitSince := 0, marked := false, commits := 0, replays := 0, fenced := false,
    jfull := false, audit := false, lastSuspect := 0, suspectUnit := none, auditMiss := false, auditTile := none,
    shadow := none, met := false, attempts := 0,
    replaying := false, replayDue := false, auditPair := none, command := 0, held := [], reports := [], recorded := [], dogAt := 0, dogLimit := 0, saved := [], saveBase := 0,
    saving := false, restoring := false, heldAt := false, teardownCause := none, decided := none, resumeStep := 0,
    ringRec := [] }

def Gather.reset : Gather := { ring := Ring.reset, job := none, stash := none, bound := none, suspect := 0 }

/-- Table 9.7: enabled, down, no capacity. -/
def Tmem.reset : Tmem := { enabled := true, st := 0, gib := 0, link := 0, poison := 0 }

/-- Table 12.3 resets to 0; 318 spare pages (Table 12.4); training (state 0). -/
def Stack.reset : Stack := { err := 0, st := 0, ueCount := 0, scrubLine := 0, passes := 0, interval := 24, cntCorrected := 0 }

/-- Table 13.11 resets to 0. -/
def Lane.reset : Lane :=
  { st := 0, slow := false, peerChip := 0, peerLane := 0, port := 0, fecCorr := 0, fecUncorr := 0, failedAt := 0,
    lastTry := 0, subst := none, bound := none, cntRetries := 0, cntFec := 0 }

/-- A disabled port (Tables 13.5, 13.10). -/
def Port.reset : Port :=
  { enabled := false, st := 0, failedAt := none, paced := false, rtt := 0, replays := 0,
    holds := 0, subst := 0, tried := [], replay := [], oldest := 0, out := [], rxCount := 0, nakking := false, badCrc := 0, off := 0,
    offSent := 0, rx := Vector.replicate 4 [], lcwOut := [] }

def SliceTable.reset : SliceTable := { active := false, id := 0, part := 0, entries := [] }

/-- Table 14.1 defaults. -/
def Layout.reset : Layout :=
  { loaded := false, axes := Vector.replicate 4 1, wPlus := [], wMinus := [], rank := 0, stallUs := 2000,
    addrs := Vector.replicate 2 0, prios := Vector.replicate 2 3 }

def Net.reset : Net := { st := 0, downSince := 0, out := [], unacked := none }

/-- After a power-on reset: Table 17.3 (CAUSE 0, COUNT 1), rst.state 1 ROM (Table 17.4), all pins high through their
pull-ups (R398), so both straps read all ones (log 2). -/
def Rst.reset : Rst :=
  { cause := 0, secondary := 0, count := 1, state := 1, held := false, since := 0, asserted := 0, released := false,
    hostReset := false, linkUp := false, linkDownAt := none, perst := false, brake := false, thermTrip := false,
    bootSel := 3, mgmtAddr := 7, frozen := false, firstMark := true }

def Panel.reset : Panel :=
  { wakes := [], granted := [], delays := 0, thermal := 1800, railMv := 0, lastThermal := 0, hotAt600 := none,
    heldLevel1 := false }

/-- Table 13.13: free-running. -/
def Tsync.reset : Tsync :=
  { st := 0, offset := 0, lastEdge := 0, epoch := none, slew := 0, slewPhase := 0, refOk := true, ptpLocked := false,
    ptpOffset := 0, ptpT1 := none, ptpT3 := none, ptpTx := false, ptpOut := [], missed := false, edges := 0, sentMark := false, eff := Vector.replicate 6 0 }

/-- Two empty firmware banks; bank A is bank 0 (log 10). -/
def Fw.reset : Fw :=
  { bankVer := Vector.replicate 2 0, bankSec := Vector.replicate 2 0, bankValid := Vector.replicate 2 true, bankA := 0,
    running := 0, secVersion := 0, bootSecVersion := 0, pldm := 0, agent := none, comp := 0, size := 0, image := [],
    verified := false, bundle := [], bundleVer := 0, reply := [], requests := [] }

/-- Table 19.7 defaults. -/
def Trace.reset : Trace :=
  { mode := 2, sizeMib := 1024, pre := 4, sources := 0x20, parts := 0xFFFF, trigger := 0, st := 0, dropped := 0, late := 0,
    buf := [], post := 0, preKept := 0 }

def Component.reset : Component := { restarting := false, restarts := 0, times := [] }

/-- The part right after the end of a power-on reset (log 2), before bring-up stage 2. -/
def Device.reset : Device :=
  -- DESIGN CHOICE (log 2): every entry of rel.patch.map names physical tile 0 until bring-up builds the map
  { tiles := Vector.replicate 512 Tile.reset, patchMap := Vector.replicate 512 0,
    health := Vector.replicate 576 Health.reset, bulk := Vector.replicate 16 (Mover.reset 16),
    bulkBound := Vector.replicate 16 none, hl := Vector.replicate 8 (Mover.reset 64), forwards := [], reports := [],
    parts := Vector.replicate 16 Partition.reset, ctxs := Vector.replicate 256 Context.reset,
    gather := Vector.replicate 16 Gather.reset, rowCache := Vector.replicate 4 [], tmem := Vector.replicate 4 Tmem.reset,
    hbm := [], hbmBad := [], pageCe := [], hbmStacks := Vector.replicate 12 Stack.reset, pages := [], granules := [],
    remaps := [], retiredPages := [], dueRetire := [], retiredTiles := [], usedSpares := [], extraReserved := [], extraSpare := [], tmemBytes := [],
    tmemPoison := [], hostMem := [], ports := Vector.replicate 8 Port.reset, lanes := Vector.replicate 64 Lane.reset,
    tables := Vector.replicate 16 SliceTable.reset, layouts := Vector.replicate 16 Layout.reset,
    drops := Vector.replicate 2 0, dropTotal := 0, chipId := 0, net := Vector.replicate 2 Net.reset, tags := [], farWatches := [],
    nextTag := 0, sentinel := [], sentinelSets := Vector.replicate 32 none, unregistered := 0, sentReports := [],
    replayCount := 0, replayFailed := 0, auditRuns := 0, auditSkipped := 0, auditMiss := 0,
    reducerSuspect := Vector.replicate 8 0, rst := Rst.reset, devTime := 0, devLatch := 0,
    panels := Vector.replicate 4 Panel.reset, powerLimit := 1800, packageW := 0, sensors := Vector.replicate 64 0,
    govDelays := 0, tsync := Tsync.reset, collarCores := 8, spareUsed := false,
    comps := Vector.replicate 8 Component.reset, sessions := [], mbx := [], dict := [], devEvq := Evq.reset,
    devMsix := Vector.replicate 64 Msix.reset, firstOwner := false, clampLog := [], clampLost := 0, errLog := [],
    alarms := [], i3cDyn := none, ibi := 0, fw := Fw.reset, spdm := [],
    csets := Vector.replicate 32 (Vector.replicate 8 { ctl := 0x3FF000, cnt := 0 }), csetBound := Vector.replicate 32 none,
    cntResidue := 0, cntCorrected := 0, cntRetries := 0, trace := Trace.reset, dumps := [], dumpLost := 0,
    deviceDump := none, scan := { frozen := false, tiles := [] }, bindQueue := [], freeCount := 0 }

/-- The machine right after reset: the part as `Device.reset`, no command waiting. -/
def State.reset : State := { dev := Device.reset, pending := [] }

end Sys2Proof.Machine
end

