-- ==== Sys2Proof/Machine/Mem.lean ====
section
/-! DEFINITION. Addressed stores and the edits of one item of the part. -/

namespace Sys2Proof.Machine

/-- The canonical form: addresses strictly rising, no listed zero. -/
def Memory.wf : Memory → Bool
  | [] => true
  | [c] => c.2 != 0
  | c :: c' :: m => c.2 != 0 && decide (c.1 < c'.1) && Memory.wf (c' :: m)

/-- One byte; an unlisted address reads 0. -/
def Memory.get : Memory → Nat → Byte
  | [], _ => 0
  | (a, b) :: m, x => if a = x then b else Memory.get m x

/-- One byte written; a zero leaves the list. -/
def Memory.put : Memory → Nat → Byte → Memory
  | [], x, v => if v = 0 then [] else [(x, v)]
  | (a, b) :: m, x, v =>
    if x < a then (if v = 0 then (a, b) :: m else (x, v) :: (a, b) :: m)
    else if x = a then (if v = 0 then m else (a, v) :: m)
    else (a, b) :: Memory.put m x v

/-- `n` bytes from `a` up. -/
def Memory.read (m : Memory) (a n : Nat) : List Byte := (List.range n).map (fun i => m.get (a + i))

/-- Bytes written from `a` up. -/
def Memory.write : Memory → Nat → List Byte → Memory
  | m, _, [] => m
  | m, a, b :: bs => Memory.write (m.put a b) (a + 1) bs

/-- Every byte of [a, a + n) zero. -/
def Memory.clear (m : Memory) (a n : Nat) : Memory := m.filter (fun c => c.1 < a || a + n ≤ c.1)

/-- A little-endian word of `n` bytes. -/
def Memory.word (m : Memory) (a n : Nat) : Nat := leNat (m.read a n)

/-- A little-endian word of `n` bytes written. -/
def Memory.putWord (m : Memory) (a n v : Nat) : Memory := m.write a (leBytes n v)

/-- The bytes of [a, a + n), renumbered from 0. -/
def Memory.slice (m : Memory) (a n : Nat) : Memory :=
  (m.filter (fun c => a ≤ c.1 && c.1 < a + n)).map (fun c => (c.1 - a, c.2))

/-- A number cut to a numbered item, 0 where it is none. -/
def fin {n : Nat} [NeZero n] (k : Nat) : Fin n := Fin.ofNat n k

def Device.modTile (d : Device) (t : TileNo) (f : Tile → Tile) : Device := { d with tiles := d.tiles.set t (f d.tiles[t]) }
def Device.modHealth (d : Device) (x : PhysNo) (f : Health → Health) : Device :=
  { d with health := d.health.set x (f d.health[x]) }
def Device.modPart (d : Device) (p : PartNo) (f : Partition → Partition) : Device :=
  { d with parts := d.parts.set p (f d.parts[p]) }
def Device.modCtx (d : Device) (c : CtxNo) (f : Context → Context) : Device := { d with ctxs := d.ctxs.set c (f d.ctxs[c]) }
def Device.modGather (d : Device) (g : GatherNo) (f : Gather → Gather) : Device :=
  { d with gather := d.gather.set g (f d.gather[g]) }
def Device.modStack (d : Device) (k : StackNo) (f : Stack → Stack) : Device :=
  { d with hbmStacks := d.hbmStacks.set k (f d.hbmStacks[k]) }
def Device.modTmem (d : Device) (k : TmemNo) (f : Tmem → Tmem) : Device := { d with tmem := d.tmem.set k (f d.tmem[k]) }
def Device.modPort (d : Device) (p : PortNo) (f : Port → Port) : Device := { d with ports := d.ports.set p (f d.ports[p]) }
def Device.modLane (d : Device) (n : LaneNo) (f : Lane → Lane) : Device := { d with lanes := d.lanes.set n (f d.lanes[n]) }
def Device.modTable (d : Device) (k : SliceTab) (f : SliceTable → SliceTable) : Device :=
  { d with tables := d.tables.set k (f d.tables[k]) }
def Device.modLayout (d : Device) (k : SliceTab) (f : Layout → Layout) : Device :=
  { d with layouts := d.layouts.set k (f d.layouts[k]) }
def Device.modNet (d : Device) (n : NetNo) (f : Net → Net) : Device := { d with net := d.net.set n (f d.net[n]) }
/-- An ordinary port that is not down goes down, and what it had to send is gone (R339, R342). -/
def Device.netDown (d : Device) (n : NetNo) : Device :=
  if (d.net[n]).st = 0 then d else d.modNet n (fun x => { x with st := 0, downSince := d.devTime, out := [], unacked := none })
def Device.modPanel (d : Device) (p : PanelNo) (f : Panel → Panel) : Device :=
  { d with panels := d.panels.set p (f d.panels[p]) }
def Device.modComp (d : Device) (n : Fin 8) (f : Component → Component) : Device :=
  { d with comps := d.comps.set n (f d.comps[n]) }
def Device.modWindow (d : Device) (p : PartNo) (w : WinNo) (f : Window → Window) : Device :=
  d.modPart p (fun q => { q with windows := q.windows.set w (f q.windows[w]) })
def Device.modPool (d : Device) (p : PartNo) (n : PoolNo) (f : Pool → Pool) : Device :=
  d.modPart p (fun q => { q with pools := q.pools.set n (f q.pools[n]) })
def Device.modQueue (d : Device) (p : PartNo) (n : QueueNo) (f : Queue → Queue) : Device :=
  d.modPart p (fun q => { q with queues := q.queues.set n (f q.queues[n]) })

/-- The mover of a name (Table 8.1). -/
def Device.mover (d : Device) : MoverId → Mover
  | .tile t => d.tiles[t].mover
  | .bulk n => d.bulk[n]
  | .hl n => d.hl[n]

def Device.modMover (d : Device) (m : MoverId) (f : Mover → Mover) : Device :=
  match m with
  | .tile t => d.modTile t (fun x => { x with mover := f x.mover })
  | .bulk n => { d with bulk := d.bulk.set n (f d.bulk[n]) }
  | .hl n => { d with hl := d.hl.set n (f d.hl[n]) }

def Mover.slot (m : Mover) (k : Nat) : Slot := m.slots.getD k Slot.reset

def Device.slot (d : Device) (m : MoverId) (k : Nat) : Slot := (d.mover m).slot k

def Device.modSlot (d : Device) (m : MoverId) (k : Nat) (f : Slot → Slot) : Device :=
  d.modMover m (fun x => { x with slots := x.slots.modify k f })

def Device.modQueueOf (d : Device) (t : TileNo) (e : Eng) (f : List Entry → List Entry) : Device :=
  d.modTile t (fun x => { x with queues := x.queues.set e.idx (f x.queues[e.idx]) })
def Device.modFlight (d : Device) (t : TileNo) (e : Eng) (f : List Flight → List Flight) : Device :=
  d.modTile t (fun x => { x with flight := x.flight.set e.idx (f x.flight[e.idx]) })

/-- The free value of the next index, and the part with the index advanced (log 7). -/
def Device.free (d : Device) : W64 × Device := (Config.freeValue d.freeCount, { d with freeCount := d.freeCount + 1 })

/-- The panel of a logical tile (R4). -/
def panelOf (t : TileNo) : PanelNo := fin (t.val / 128)
/-- The cuff a panel has a seam to: panels 0 and 2 cuff 0, panels 1 and 3 cuff 1 (R17). -/
def panelCuff (p : PanelNo) : Fin 2 := fin (p.val % 2)
/-- The cuff of a logical tile. -/
def tileCuff (t : TileNo) : Fin 2 := panelCuff (panelOf t)
/-- The physical position of a logical tile. -/
def Device.phys (d : Device) (t : TileNo) : PhysNo := d.patchMap[t]

/-- Nanoseconds since an earlier device time. -/
def Device.since (d : Device) (t : W64) : Nat := (d.devTime - t).toNat

/-- Islands run: no device reset held, no freeze (R396, R457). -/
def Device.live (d : Device) : Bool := !d.rst.held && !d.rst.frozen

/-- A collar firmware component runs: work that needs one that restarts waits (R439). -/
def Device.up (d : Device) (n : Fin 8) : Bool := !(d.comps[n]).restarting

/-- The outcome of a command that always happens: the part changed by `f`, the queue as it stands. -/
def onDev (f : Device → Device) (s : State) : Host.Outcome State Fault Refusal := .next { s with dev := f s.dev }

/-- The outcome of a command of the islands: nothing while a reset is held or the part is frozen (R396, R457). -/
def onLive (f : Device → Device) (s : State) : Host.Outcome State Fault Refusal :=
  onDev (fun d => if d.live then f d else d) s

end Sys2Proof.Machine
end

