-- ==== Sys2Proof/Machine/Dict.lean ====
section
/-! DEFINITION. The object tables of the parameter dictionary (Tables 0.1 to 19.10), the status codes (Table 18.9), and
the committed value of an object. -/

namespace Sys2Proof.Machine

/-- Status codes (Table 18.9). -/
inductive St where
  | ok | acceptedClamped | accessDenied | noObject | typeMismatch | valueInvalid | stageExpired | restarting | notReady
  | hold | versionMismatch | sessionLimit | invalidCmd | queueInvalid | queueBusy | ctxTornDown | flr | denied
  | poolEmpty | abandoned | cancelled | addrUnbound | poisonRead | reqTimeout | bindInvalid | bindBusy | bindNotFree
  | bindNoSpace | bindReserved | bindInUse | ctxUnbound | ctxInvalid | ctxState | contextBusy | imageFormat | admitBusy
  | resetInvalid | ckptInvalid | windowUnbound | windowInvalid | windowBusy | poolInvalid | poolBusy | grantExceeded
  | grantConflict | gatherInvalid | gatherUnbound | gatherBusy | hbmBusy | linkInvalid | linkBusy | routeInvalid
  | collInvalid | collBusy | netInvalid | sentinelNoEntry | sentinelBusy | fswRange | repairInvalid | bundleInvalid
  | bundleRollback | fitBusy | patchBusy
deriving DecidableEq, Repr, Inhabited

def St.code : St → W16
  | .ok => 0x0000 | .acceptedClamped => 0x0001 | .accessDenied => 0x0002 | .noObject => 0x0003 | .typeMismatch => 0x0004
  | .valueInvalid => 0x0005 | .stageExpired => 0x0006 | .restarting => 0x0007 | .notReady => 0x0008 | .hold => 0x0009
  | .versionMismatch => 0x000A | .sessionLimit => 0x000B | .invalidCmd => 0x0100 | .queueInvalid => 0x0101
  | .queueBusy => 0x0102 | .ctxTornDown => 0x0103 | .flr => 0x0104 | .denied => 0x0105 | .poolEmpty => 0x0106
  | .abandoned => 0x0107 | .cancelled => 0x0108 | .addrUnbound => 0x0109 | .poisonRead => 0x010A | .reqTimeout => 0x010B
  | .bindInvalid => 0x0200 | .bindBusy => 0x0201 | .bindNotFree => 0x0202 | .bindNoSpace => 0x0203
  | .bindReserved => 0x0204 | .bindInUse => 0x0205 | .ctxUnbound => 0x0206 | .ctxInvalid => 0x0207 | .ctxState => 0x0208
  | .contextBusy => 0x0209 | .imageFormat => 0x020A | .admitBusy => 0x020B | .resetInvalid => 0x020C
  | .ckptInvalid => 0x020D | .windowUnbound => 0x0300 | .windowInvalid => 0x0301 | .windowBusy => 0x0302
  | .poolInvalid => 0x0303 | .poolBusy => 0x0304 | .grantExceeded => 0x0305 | .grantConflict => 0x0306
  | .gatherInvalid => 0x0307 | .gatherUnbound => 0x0308 | .gatherBusy => 0x0309 | .hbmBusy => 0x030A
  | .linkInvalid => 0x0400 | .linkBusy => 0x0401 | .routeInvalid => 0x0402 | .collInvalid => 0x0403 | .collBusy => 0x0404
  | .netInvalid => 0x0405 | .sentinelNoEntry => 0x0500 | .sentinelBusy => 0x0501 | .fswRange => 0x0502
  | .repairInvalid => 0x0503 | .bundleInvalid => 0x0504 | .bundleRollback => 0x0505 | .fitBusy => 0x0506
  | .patchBusy => 0x0507

/-- Value types (Table 18.8). -/
inductive Ty where
  | bool | u8 | u16 | u32 | u64 | i32 | i64 | f32 | octets (n : Nat) | text | domain
deriving DecidableEq, Repr

/-- TYPE code of Table 18.8. -/
def Ty.code : Ty → Byte
  | .bool => 1 | .u8 => 2 | .u16 => 3 | .u32 => 4 | .u64 => 5 | .i32 => 6 | .i64 => 7 | .f32 => 8 | .octets _ => 9
  | .text => 0x0A | .domain => 0x0B

/-- Length of a value in bytes (Table 18.8); TEXT and DOMAIN have none of their own. -/
def Ty.len : Ty → Option Nat
  | .bool => some 1 | .u8 => some 1 | .u16 => some 2 | .u32 => some 4 | .u64 => some 8 | .i32 => some 4 | .i64 => some 8
  | .f32 => some 4 | .octets n => some n | .text => none | .domain => none

/-- Dictionary access codes (R13). -/
inductive Acc where
  | ro | rw | wo | konst
deriving DecidableEq, Repr

/-- Dictionary scopes (R13). -/
inductive Scope where
  | owner | part | obs
deriving DecidableEq, Repr

/-- Ranges that clamping uses (R433): all values, an interval, 0 or an interval, multiples, powers of two, float bounds,
event codes. Ranges checked at commit are in the commit's own definition. -/
inductive Rng where
  | any
  | span (lo hi : Nat)
  | zeroOr (lo hi : Nat)
  | multiple (lo hi q : Nat)
  | pow2 (lo hi : Nat)
  | floats (lo hi : Nat)
  | codes
deriving DecidableEq, Repr

/-- The On out-of-range column. -/
inductive Oor where
  | none
  | clamp
  | commit
  | refuse (c : St)
deriving DecidableEq, Repr

/-- A row of an object table, at the first index of its range. -/
structure Obj where
  at_ : Nat × Nat
  name : String
  ty : Ty
  acc : Acc
  scope : Scope
  dflt : Nat
  rng : Rng
  oor : Oor
deriving DecidableEq, Repr

/-- Event codes (Table 19.6), for trace.trigger_code. -/
def eventCodes : List Nat :=
  (List.range 10).map (0x0100 + ·) ++ (List.range 14).map (0x0200 + ·) ++ (List.range 9).map (0x0300 + ·)

/-- The greatest member of a list not above a value, or `d`. -/
def lowerMember (l : List Nat) (d v : Nat) : Nat := l.foldl (fun acc m => if m ≤ v ∧ acc ≤ m then m else acc) d

/-- The value stored for a written one (R433): the nearest in range; between discrete members the lower. Float bounds
are positive, so their words order as the numbers do; a negative value goes to the lower bound. -/
def Rng.clamp : Rng → Nat → Nat
  | .any, v => v
  | .span lo hi, v => clampNat lo hi v
  | .zeroOr lo hi, v => if v < lo then 0 else min v hi
  | .multiple lo hi q, v => let w := clampNat lo hi v; w - w % q
  | .pow2 lo hi, v => let w := clampNat lo hi v; 2 ^ Nat.log2 w
  | .floats lo hi, v => if v ≥ 2 ^ 31 then lo else clampNat lo hi v
  | .codes, v => lowerMember (0 :: eventCodes) 0 v

/-- Counter sets (R448), freeze (R457) and partition reset (R363). -/
def objsMore : List Obj :=
  (List.range 8).map (fun n =>
    { at_ := (0x8800, 0x01 + n), name := "dbg.cset.ctl", ty := .u32, acc := .rw, scope := .part, dflt := 0x3FF000,
      rng := .any, oor := .refuse .valueInvalid }) ++
  (List.range 8).map (fun n =>
    { at_ := (0x8800, 0x11 + n), name := "dbg.cset.cnt", ty := .u64, acc := .ro, scope := .part, dflt := 0, rng := .any,
      oor := .none }) ++
  [{ at_ := (0xA300, 0x01), name := "dbg.freeze", ty := .u8, acc := .wo, scope := .owner, dflt := 0, rng := .any,
     oor := .refuse .valueInvalid },
   { at_ := (0x6021, 0x01), name := "part.reset", ty := .u8, acc := .wo, scope := .part, dflt := 0, rng := .any,
     oor := .refuse .resetInvalid }]

/-- Objects of chapter 00. -/
def objs00 : List Obj := [
  { at_ := (0x1000, 0x01), name := "id.vendor", ty := .text, acc := .konst, scope := .obs, dflt := 0, rng := .any, oor := (.refuse St.accessDenied) },
  { at_ := (0x1000, 0x02), name := "id.family", ty := .text, acc := .konst, scope := .obs, dflt := 0, rng := .any, oor := (.refuse St.accessDenied) },
  { at_ := (0x1000, 0x03), name := "id.product", ty := .text, acc := .konst, scope := .obs, dflt := 0, rng := .any, oor := (.refuse St.accessDenied) },
  { at_ := (0x1000, 0x04), name := "id.ordering_code", ty := .text, acc := .konst, scope := .obs, dflt := 0, rng := .any, oor := (.refuse St.accessDenied) }]

/-- Objects of chapter 04. -/
def objs04 : List Obj := [
  { at_ := (0x6030, 0x01), name := "part.watchdog.step_us", ty := .u32, acc := .rw, scope := .part, dflt := 0, rng := .span 0 60000000, oor := .clamp },
  { at_ := (0x6030, 0x02), name := "part.watchdog.multiple", ty := .u8, acc := .rw, scope := .part, dflt := 4, rng := .span 2 64, oor := .clamp }]

/-- Objects of chapter 06. -/
def objs06 : List Obj := [
  { at_ := (0x6040, 0x01), name := "part.window.tile", ty := .u16, acc := .rw, scope := .part, dflt := 0, rng := .any, oor := .commit },
  { at_ := (0x6040, 0x02), name := "part.window.base", ty := .u32, acc := .rw, scope := .part, dflt := 0, rng := .any, oor := .commit },
  { at_ := (0x6040, 0x03), name := "part.window.size", ty := .u32, acc := .rw, scope := .part, dflt := 64, rng := .any, oor := .commit },
  { at_ := (0x6040, 0x04), name := "part.window.slice", ty := .u16, acc := .rw, scope := .part, dflt := 0, rng := .any, oor := .commit },
  { at_ := (0x6040, 0x05), name := "part.window.chip_lo", ty := .u16, acc := .rw, scope := .part, dflt := 0, rng := .any, oor := .commit },
  { at_ := (0x6040, 0x06), name := "part.window.chip_hi", ty := .u16, acc := .rw, scope := .part, dflt := 32767, rng := .any, oor := .commit },
  { at_ := (0x6040, 0x07), name := "part.window.rights", ty := .u8, acc := .rw, scope := .part, dflt := 0, rng := .any, oor := .commit },
  { at_ := (0x6040, 0x08), name := "part.window.state", ty := .u8, acc := .ro, scope := .part, dflt := 0, rng := .any, oor := .none },
  { at_ := (0x6040, 0xFF), name := "part.window.commit", ty := .u8, acc := .wo, scope := .part, dflt := 0, rng := .any, oor := (.refuse St.windowInvalid) },
  { at_ := (0x6040, 0xFE), name := "part.window.violations", ty := .u64, acc := .ro, scope := .part, dflt := 0, rng := .any, oor := .none }]

/-- Objects of chapter 08. -/
def objs08 : List Obj := [
  { at_ := (0x6080, 0x01), name := "part.pool.tile", ty := .u16, acc := .rw, scope := .part, dflt := 0, rng := .any, oor := .commit },
  { at_ := (0x6080, 0x02), name := "part.pool.free_clasp", ty := .u8, acc := .rw, scope := .part, dflt := 0, rng := .any, oor := .commit },
  { at_ := (0x6080, 0x03), name := "part.pool.base", ty := .u32, acc := .rw, scope := .part, dflt := 0, rng := .any, oor := .commit },
  { at_ := (0x6080, 0x04), name := "part.pool.slots", ty := .u8, acc := .rw, scope := .part, dflt := 1, rng := .any, oor := .commit },
  { at_ := (0x6080, 0x05), name := "part.pool.state", ty := .u8, acc := .ro, scope := .part, dflt := 0, rng := .any, oor := .none },
  { at_ := (0x6080, 0xFE), name := "part.pool.empty_count", ty := .u64, acc := .ro, scope := .part, dflt := 0, rng := .any, oor := .none },
  { at_ := (0x6080, 0xFF), name := "part.pool.commit", ty := .u8, acc := .wo, scope := .part, dflt := 0, rng := .any, oor := (.refuse St.poolInvalid) },
  { at_ := (0x6090, 0x01), name := "part.mover.hl_slots", ty := .u8, acc := .rw, scope := .owner, dflt := 4, rng := .any, oor := (.refuse St.grantExceeded) },
  { at_ := (0x6090, 0x02), name := "part.mover.hl_reserved", ty := .u8, acc := .rw, scope := .owner, dflt := 0, rng := .any, oor := (.refuse St.grantConflict) }]

/-- Objects of chapter 09. -/
def objs09 : List Obj := [
  { at_ := (0x60A0, 0x01), name := "part.gather.ring_base", ty := .u64, acc := .rw, scope := .part, dflt := 0, rng := .any, oor := .commit },
  { at_ := (0x60A0, 0x02), name := "part.gather.ring_log2", ty := .u8, acc := .rw, scope := .part, dflt := 4, rng := .any, oor := .commit },
  { at_ := (0x60A0, 0x03), name := "part.gather.tile", ty := .u16, acc := .rw, scope := .part, dflt := 0, rng := .any, oor := .commit },
  { at_ := (0x60A0, 0x04), name := "part.gather.head_clasp", ty := .u8, acc := .rw, scope := .part, dflt := 0, rng := .any, oor := .commit },
  { at_ := (0x60A0, 0x05), name := "part.gather.tail_clasp", ty := .u8, acc := .rw, scope := .part, dflt := 1, rng := .any, oor := .commit },
  { at_ := (0x60A0, 0x06), name := "part.gather.context", ty := .u8, acc := .rw, scope := .part, dflt := 0, rng := .any, oor := .commit },
  { at_ := (0x60A0, 0x07), name := "part.gather.state", ty := .u8, acc := .ro, scope := .part, dflt := 0, rng := .any, oor := .none },
  { at_ := (0x60A0, 0xFF), name := "part.gather.commit", ty := .u8, acc := .wo, scope := .part, dflt := 0, rng := .any, oor := (.refuse St.gatherInvalid) },
  { at_ := (0x4100, 0x01), name := "tmem.port.enable", ty := .bool, acc := .rw, scope := .owner, dflt := 1, rng := .span 0 1, oor := .none },
  { at_ := (0x4100, 0x02), name := "tmem.port.state", ty := .u8, acc := .ro, scope := .obs, dflt := 0, rng := .any, oor := .none },
  { at_ := (0x4100, 0x03), name := "tmem.port.capacity_gib", ty := .u16, acc := .ro, scope := .obs, dflt := 0, rng := .any, oor := .none },
  { at_ := (0x4100, 0x04), name := "tmem.port.link", ty := .u8, acc := .ro, scope := .obs, dflt := 0, rng := .any, oor := .none },
  { at_ := (0x4100, 0x05), name := "tmem.port.poison_count", ty := .u64, acc := .ro, scope := .owner, dflt := 0, rng := .any, oor := .none }]

/-- Objects of chapter 10. -/
def objs10 : List Obj := [
  { at_ := (0x5210, 0x01), name := "rel.sentinel.sat_ppm", ty := .u32, acc := .rw, scope := .owner, dflt := 1000, rng := .span 1 1000000, oor := .clamp },
  { at_ := (0x5210, 0x02), name := "rel.sentinel.unf_ppm", ty := .u32, acc := .rw, scope := .owner, dflt := 250000, rng := .span 1 1000000, oor := .clamp },
  { at_ := (0x5210, 0x03), name := "rel.sentinel.promote_steps", ty := .u8, acc := .rw, scope := .owner, dflt := 4, rng := .span 1 16, oor := .clamp },
  { at_ := (0x5210, 0x04), name := "rel.sentinel.err_ratio", ty := .f32, acc := .rw, scope := .owner, dflt := 1017370378, rng := .floats 953267991 1065353216, oor := .clamp },
  { at_ := (0x5210, 0x05), name := "rel.sentinel.worst_block", ty := .f32, acc := .rw, scope := .owner, dflt := 1048576000, rng := .floats 981668463 1065353216, oor := .clamp },
  { at_ := (0x5210, 0x06), name := "rel.sentinel.quiet_steps", ty := .u32, acc := .rw, scope := .owner, dflt := 2000, rng := .span 16 1000000, oor := .clamp },
  { at_ := (0x5210, 0x07), name := "rel.sentinel.demote", ty := .bool, acc := .rw, scope := .owner, dflt := 1, rng := .span 0 1, oor := .none },
  { at_ := (0x5210, 0x08), name := "rel.sentinel.scope", ty := .u8, acc := .rw, scope := .owner, dflt := 1, rng := .span 0 1, oor := .clamp },
  { at_ := (0x5210, 0x09), name := "rel.sentinel.history_steps", ty := .u8, acc := .konst, scope := .obs, dflt := 16, rng := .any, oor := (.refuse St.accessDenied) },
  { at_ := (0x5210, 0x0A), name := "rel.sentinel.unregistered", ty := .u64, acc := .ro, scope := .owner, dflt := 0, rng := .any, oor := .none },
  { at_ := (0x60C0, 0x01), name := "part.sentinel.context", ty := .u8, acc := .rw, scope := .part, dflt := 0, rng := .any, oor := .commit },
  { at_ := (0x60C0, 0x02), name := "part.sentinel.tensor", ty := .u32, acc := .rw, scope := .part, dflt := 0, rng := .any, oor := .commit },
  { at_ := (0x60C0, 0x03), name := "part.sentinel.variant", ty := .u8, acc := .rw, scope := .part, dflt := 0, rng := .any, oor := .commit },
  { at_ := (0x60C0, 0x04), name := "part.sentinel.pin", ty := .u8, acc := .rw, scope := .part, dflt := 0, rng := .any, oor := .commit },
  { at_ := (0x60C0, 0x05), name := "part.sentinel.entries", ty := .domain, acc := .rw, scope := .part, dflt := 0, rng := .any, oor := (.refuse St.sentinelBusy) },
  { at_ := (0x60C0, 0xFF), name := "part.sentinel.commit", ty := .u8, acc := .wo, scope := .part, dflt := 0, rng := .any, oor := (.refuse St.sentinelNoEntry) }]

/-- Objects of chapter 11. -/
def objs11 : List Obj := [
  { at_ := (0x60D0, 0x01), name := "part.ad" ++ "mit.context", ty := .u8, acc := .rw, scope := .part, dflt := 0, rng := .any, oor := .commit },
  { at_ := (0x60D0, 0x02), name := "part.ad" ++ "mit.image", ty := .u64, acc := .rw, scope := .part, dflt := 0, rng := .any, oor := .commit },
  { at_ := (0x60D0, 0x03), name := "part.ad" ++ "mit.length", ty := .u32, acc := .rw, scope := .part, dflt := 64, rng := .any, oor := .commit },
  { at_ := (0x60D0, 0x04), name := "part.ad" ++ "mit.state", ty := .u8, acc := .ro, scope := .part, dflt := 0, rng := .any, oor := .none },
  { at_ := (0x60D0, 0x05), name := "part.ad" ++ "mit.report", ty := .domain, acc := .ro, scope := .part, dflt := 0, rng := .any, oor := .none },
  { at_ := (0x60D0, 0x06), name := "part.ad" ++ "mit.remote_watches", ty := .u8, acc := .rw, scope := .part, dflt := 4, rng := .span 0 16, oor := .clamp },
  { at_ := (0x60D0, 0xFF), name := "part.ad" ++ "mit.commit", ty := .u8, acc := .wo, scope := .part, dflt := 0, rng := .any, oor := (.refuse St.admitBusy) }]

/-- Objects of chapter 12. -/
def objs12 : List Obj := [
  { at_ := (0x4000, 0x01), name := "hbm.installed_pages", ty := .u32, acc := .ro, scope := .obs, dflt := 366204, rng := .any, oor := .none },
  { at_ := (0x4000, 0x02), name := "hbm.allocatable_pages", ty := .u32, acc := .ro, scope := .obs, dflt := 354760, rng := .any, oor := .none },
  { at_ := (0x4000, 0x03), name := "hbm.spare_free", ty := .u16, acc := .ro, scope := .obs, dflt := 3816, rng := .any, oor := .none },
  { at_ := (0x4000, 0x04), name := "hbm.scrub.interval_h", ty := .u16, acc := .rw, scope := .owner, dflt := 24, rng := .span 1 168, oor := .clamp },
  { at_ := (0x4000, 0x05), name := "hbm.page_ce_limit", ty := .u16, acc := .rw, scope := .owner, dflt := 16, rng := .span 0 1000, oor := .clamp },
  { at_ := (0x4000, 0x06), name := "hbm.retired_pages", ty := .domain, acc := .rw, scope := .owner, dflt := 0, rng := .any, oor := (.refuse St.hbmBusy) },
  { at_ := (0x4000, 0x07), name := "hbm.scrub.passes", ty := .u64, acc := .ro, scope := .obs, dflt := 0, rng := .any, oor := .none },
  { at_ := (0x4010, 0x01), name := "hbm.stack.state", ty := .u8, acc := .ro, scope := .obs, dflt := 0, rng := .any, oor := .none },
  { at_ := (0x4010, 0x02), name := "hbm.stack.spares", ty := .u16, acc := .ro, scope := .obs, dflt := 318, rng := .any, oor := .none },
  { at_ := (0x4010, 0x03), name := "hbm.stack.ue_count", ty := .u64, acc := .ro, scope := .owner, dflt := 0, rng := .any, oor := .none }]

/-- Objects of chapter 13. -/
def objs13a : List Obj := [
  { at_ := (0x3100, 0x01), name := "link.port.lanes", ty := .u64, acc := .rw, scope := .owner, dflt := 0, rng := .any, oor := .commit },
  { at_ := (0x3100, 0x02), name := "link.port.dim", ty := .u8, acc := .rw, scope := .owner, dflt := 0, rng := .any, oor := .commit },
  { at_ := (0x3100, 0x03), name := "link.port.dateline", ty := .bool, acc := .rw, scope := .owner, dflt := 0, rng := .span 0 1, oor := .none },
  { at_ := (0x3100, 0x04), name := "link.port.peer", ty := .u16, acc := .rw, scope := .owner, dflt := 0, rng := .any, oor := .commit },
  { at_ := (0x3100, 0x05), name := "link.port.spares", ty := .u64, acc := .rw, scope := .owner, dflt := 0, rng := .any, oor := .commit },
  { at_ := (0x3100, 0x06), name := "link.port.min_lanes", ty := .u8, acc := .rw, scope := .owner, dflt := 1, rng := .any, oor := .commit },
  { at_ := (0x3100, 0x07), name := "link.port.state", ty := .u8, acc := .ro, scope := .obs, dflt := 0, rng := .any, oor := .none },
  { at_ := (0x3100, 0xFF), name := "link.port.commit", ty := .u8, acc := .wo, scope := .owner, dflt := 0, rng := .any, oor := (.refuse St.linkInvalid) },
  { at_ := (0x3200, 0x01), name := "route.slice.id", ty := .u16, acc := .rw, scope := .owner, dflt := 0, rng := .any, oor := .commit },
  { at_ := (0x3200, 0x02), name := "route.slice.partition", ty := .u8, acc := .rw, scope := .owner, dflt := 0, rng := .any, oor := .commit },
  { at_ := (0x3200, 0x03), name := "route.slice.entries", ty := .domain, acc := .rw, scope := .owner, dflt := 0, rng := .any, oor := .commit },
  { at_ := (0x3200, 0x04), name := "route.slice.state", ty := .u8, acc := .ro, scope := .obs, dflt := 0, rng := .any, oor := .none },
  { at_ := (0x3200, 0xFF), name := "route.slice.commit", ty := .u8, acc := .wo, scope := .owner, dflt := 0, rng := .any, oor := (.refuse St.routeInvalid) },
  { at_ := (0x3000, 0x01), name := "route.chip_id", ty := .u16, acc := .rw, scope := .owner, dflt := 0, rng := .span 0 32767, oor := .clamp },
  { at_ := (0x3000, 0x02), name := "route.stall_us", ty := .u32, acc := .rw, scope := .owner, dflt := 500, rng := .zeroOr 100 10000, oor := .clamp },
  { at_ := (0x3000, 0x03), name := "route.drops", ty := .u64, acc := .ro, scope := .owner, dflt := 0, rng := .any, oor := .none }]

/-- Objects of chapter 13. -/
def objs13b : List Obj := [
  { at_ := (0x3400, 0x01), name := "tsync.role", ty := .u8, acc := .rw, scope := .owner, dflt := 0, rng := .span 0 1, oor := .clamp },
  { at_ := (0x3400, 0x02), name := "tsync.ptp_port", ty := .u8, acc := .rw, scope := .owner, dflt := 0, rng := .span 0 1, oor := .clamp },
  { at_ := (0x3400, 0x03), name := "tsync.ptp_domain", ty := .u8, acc := .rw, scope := .owner, dflt := 0, rng := .span 0 127, oor := .clamp },
  { at_ := (0x3400, 0x04), name := "tsync.rack_first", ty := .u16, acc := .rw, scope := .owner, dflt := 0, rng := .span 0 32767, oor := .clamp },
  { at_ := (0x3400, 0x05), name := "tsync.rack_last", ty := .u16, acc := .rw, scope := .owner, dflt := 0, rng := .span 0 32767, oor := .clamp },
  { at_ := (0x3400, 0x06), name := "tsync.slice", ty := .u16, acc := .rw, scope := .owner, dflt := 0, rng := .span 0 4095, oor := .clamp },
  { at_ := (0x3400, 0x07), name := "tsync.state", ty := .u8, acc := .ro, scope := .obs, dflt := 0, rng := .any, oor := .none },
  { at_ := (0x3400, 0x08), name := "tsync.offset_ns", ty := .i64, acc := .ro, scope := .obs, dflt := 0, rng := .any, oor := .none }]

/-- Objects of chapter 14. -/
def objs14a : List Obj := [
  { at_ := (0x3300, 0x01), name := "coll.axis_x", ty := .u32, acc := .rw, scope := .owner, dflt := 1, rng := .any, oor := .commit },
  { at_ := (0x3300, 0x02), name := "coll.axis_y", ty := .u32, acc := .rw, scope := .owner, dflt := 1, rng := .any, oor := .commit },
  { at_ := (0x3300, 0x03), name := "coll.axis_z", ty := .u32, acc := .rw, scope := .owner, dflt := 1, rng := .any, oor := .commit },
  { at_ := (0x3300, 0x04), name := "coll.axis_w", ty := .u32, acc := .rw, scope := .owner, dflt := 1, rng := .any, oor := .commit },
  { at_ := (0x3300, 0x05), name := "coll.w_plus", ty := (.octets 16), acc := .rw, scope := .owner, dflt := 0, rng := .any, oor := .commit },
  { at_ := (0x3300, 0x06), name := "coll.w_minus", ty := (.octets 16), acc := .rw, scope := .owner, dflt := 0, rng := .any, oor := .commit },
  { at_ := (0x3300, 0x07), name := "coll.rank", ty := .u32, acc := .ro, scope := .obs, dflt := 0, rng := .any, oor := .none },
  { at_ := (0x3300, 0x08), name := "coll.stall_us", ty := .u32, acc := .rw, scope := .owner, dflt := 2000, rng := .any, oor := .commit },
  { at_ := (0x3300, 0xFF), name := "coll.commit", ty := .u8, acc := .wo, scope := .owner, dflt := 0, rng := .any, oor := (.refuse St.collInvalid) },
  { at_ := (0x60E0, 0x01), name := "part.coll.ring_base", ty := .u64, acc := .rw, scope := .part, dflt := 0, rng := .any, oor := .commit },
  { at_ := (0x60E0, 0x02), name := "part.coll.ring_log2", ty := .u8, acc := .rw, scope := .part, dflt := 4, rng := .any, oor := .commit },
  { at_ := (0x60E0, 0x03), name := "part.coll.tile", ty := .u16, acc := .rw, scope := .part, dflt := 0, rng := .any, oor := .commit },
  { at_ := (0x60E0, 0x04), name := "part.coll.head_clasp", ty := .u8, acc := .rw, scope := .part, dflt := 0, rng := .any, oor := .commit },
  { at_ := (0x60E0, 0x05), name := "part.coll.tail_clasp", ty := .u8, acc := .rw, scope := .part, dflt := 1, rng := .any, oor := .commit },
  { at_ := (0x60E0, 0x06), name := "part.coll.context", ty := .u8, acc := .rw, scope := .part, dflt := 0, rng := .any, oor := .commit },
  { at_ := (0x60E0, 0x07), name := "part.coll.state", ty := .u8, acc := .ro, scope := .part, dflt := 0, rng := .any, oor := .none }]

/-- Objects of chapter 14. -/
def objs14b : List Obj := [
  { at_ := (0x60E0, 0xFF), name := "part.coll.commit", ty := .u8, acc := .wo, scope := .part, dflt := 0, rng := .any, oor := (.refuse St.collInvalid) },
  { at_ := (0x3500, 0x01), name := "net.port.enable", ty := .bool, acc := .rw, scope := .owner, dflt := 1, rng := .span 0 1, oor := .none },
  { at_ := (0x3500, 0x02), name := "net.port.addr", ty := (.octets 16), acc := .rw, scope := .owner, dflt := 0, rng := .any, oor := (.refuse St.netInvalid) },
  { at_ := (0x3500, 0x03), name := "net.port.mac", ty := .u64, acc := .ro, scope := .obs, dflt := 0, rng := .any, oor := .none },
  { at_ := (0x3500, 0x04), name := "net.port.pfc_prio", ty := .u8, acc := .rw, scope := .owner, dflt := 3, rng := .span 0 7, oor := .clamp },
  { at_ := (0x3500, 0x05), name := "net.port.state", ty := .u8, acc := .ro, scope := .obs, dflt := 0, rng := .any, oor := .none }]

/-- Objects of chapter 15. -/
def objs15a : List Obj := [
  { at_ := (0x6000, 0x01), name := "part.bind.kind", ty := .u8, acc := .rw, scope := .owner, dflt := 1, rng := .any, oor := .commit },
  { at_ := (0x6000, 0x02), name := "part.bind.first", ty := .u32, acc := .rw, scope := .owner, dflt := 0, rng := .any, oor := .commit },
  { at_ := (0x6000, 0x03), name := "part.bind.count", ty := .u32, acc := .rw, scope := .owner, dflt := 1, rng := .any, oor := .commit },
  { at_ := (0x6000, 0x04), name := "part.bind.addr", ty := .u32, acc := .rw, scope := .owner, dflt := 0, rng := .any, oor := .commit },
  { at_ := (0x6000, 0x05), name := "part.bind.action", ty := .u8, acc := .rw, scope := .owner, dflt := 1, rng := .any, oor := .commit },
  { at_ := (0x6000, 0x06), name := "part.bind.flags", ty := .u8, acc := .rw, scope := .owner, dflt := 0, rng := .any, oor := .commit },
  { at_ := (0x6000, 0x07), name := "part.bind.drain_us", ty := .u32, acc := .rw, scope := .owner, dflt := 4000, rng := .any, oor := .commit },
  { at_ := (0x6000, 0x08), name := "part.bind.state", ty := .u8, acc := .ro, scope := .owner, dflt := 0, rng := .any, oor := .none },
  { at_ := (0x6000, 0x09), name := "part.bind.result", ty := .u16, acc := .ro, scope := .owner, dflt := 0, rng := .any, oor := .none },
  { at_ := (0x6000, 0x0A), name := "part.bind.map", ty := .domain, acc := .ro, scope := .part, dflt := 0, rng := .any, oor := .none },
  { at_ := (0x6000, 0xFF), name := "part.bind.commit", ty := .u8, acc := .wo, scope := .owner, dflt := 0, rng := .any, oor := (.refuse St.bindBusy) },
  { at_ := (0x6010, 0x01), name := "part.ctx.id", ty := .u8, acc := .rw, scope := .part, dflt := 0, rng := .any, oor := .commit },
  { at_ := (0x6010, 0x02), name := "part.ctx.priority", ty := .u8, acc := .rw, scope := .part, dflt := 3, rng := .any, oor := .commit },
  { at_ := (0x6010, 0x03), name := "part.ctx.save_base", ty := .u64, acc := .rw, scope := .part, dflt := 0, rng := .any, oor := .commit },
  { at_ := (0x6010, 0x04), name := "part.ctx.command", ty := .u8, acc := .rw, scope := .part, dflt := 0, rng := .any, oor := .commit },
  { at_ := (0x6010, 0x05), name := "part.ctx.states", ty := .domain, acc := .ro, scope := .part, dflt := 0, rng := .any, oor := .none }]

/-- Objects of chapter 15. -/
def objs15b : List Obj := [
  { at_ := (0x6010, 0xFF), name := "part.ctx.commit", ty := .u8, acc := .wo, scope := .part, dflt := 0, rng := .any, oor := (.refuse St.ctxInvalid) },
  { at_ := (0x6020, 0x01), name := "part.sched.quantum_us", ty := .u32, acc := .rw, scope := .part, dflt := 10000, rng := .span 100 1000000, oor := .clamp }]

/-- Objects of chapter 16. -/
def objs16a : List Obj := [
  { at_ := (0x60F0, 0x01), name := "part.repair.slot", ty := .u8, acc := .rw, scope := .part, dflt := 0, rng := .any, oor := .commit },
  { at_ := (0x60F0, 0x02), name := "part.repair.base", ty := .u64, acc := .rw, scope := .part, dflt := 0, rng := .any, oor := .commit },
  { at_ := (0x60F0, 0x03), name := "part.repair.length", ty := .u64, acc := .rw, scope := .part, dflt := 0, rng := .any, oor := .commit },
  { at_ := (0x60F0, 0x04), name := "part.repair.peer_chip", ty := .u16, acc := .rw, scope := .part, dflt := 0, rng := .any, oor := .commit },
  { at_ := (0x60F0, 0x05), name := "part.repair.peer_base", ty := .u64, acc := .rw, scope := .part, dflt := 0, rng := .any, oor := .commit },
  { at_ := (0x60F0, 0x06), name := "part.repair.version", ty := .u16, acc := .rw, scope := .part, dflt := 0, rng := .any, oor := .commit },
  { at_ := (0x60F0, 0x07), name := "part.repair.mailbox", ty := .u64, acc := .rw, scope := .part, dflt := 0, rng := .any, oor := .commit },
  { at_ := (0x60F0, 0x08), name := "part.repair.repairs", ty := .u64, acc := .ro, scope := .part, dflt := 0, rng := .any, oor := .none },
  { at_ := (0x60F0, 0xFF), name := "part.repair.commit", ty := .u8, acc := .wo, scope := .part, dflt := 0, rng := .any, oor := (.refuse St.repairInvalid) },
  { at_ := (0x60B0, 0x01), name := "part.ckpt.context", ty := .u8, acc := .rw, scope := .part, dflt := 0, rng := .any, oor := .commit },
  { at_ := (0x60B0, 0x02), name := "part.ckpt.step", ty := .u64, acc := .rw, scope := .part, dflt := 0, rng := .any, oor := .commit },
  { at_ := (0x60B0, 0x03), name := "part.ckpt.hold_ms", ty := .u32, acc := .rw, scope := .part, dflt := 60000, rng := .any, oor := .commit },
  { at_ := (0x60B0, 0x04), name := "part.ckpt.resume_step", ty := .u64, acc := .rw, scope := .part, dflt := 0, rng := .any, oor := .commit },
  { at_ := (0x60B0, 0x05), name := "part.ckpt.state", ty := .u8, acc := .ro, scope := .part, dflt := 0, rng := .any, oor := .none },
  { at_ := (0x60B0, 0xFF), name := "part.ckpt.commit", ty := .u8, acc := .wo, scope := .part, dflt := 0, rng := .any, oor := (.refuse St.ckptInvalid) },
  { at_ := (0x5100, 0x01), name := "rel.commit.journal_entries", ty := .u16, acc := .konst, scope := .obs, dflt := 8192, rng := .any, oor := (.refuse St.accessDenied) }]

/-- Objects of chapter 16. -/
def objs16b : List Obj := [
  { at_ := (0x5100, 0x02), name := "rel.replay.count", ty := .u64, acc := .ro, scope := .owner, dflt := 0, rng := .any, oor := .none },
  { at_ := (0x5100, 0x03), name := "rel.replay.failed", ty := .u64, acc := .ro, scope := .owner, dflt := 0, rng := .any, oor := .none },
  { at_ := (0x5300, 0x01), name := "rel.audit.n", ty := .u32, acc := .rw, scope := .owner, dflt := 4096, rng := .zeroOr 16 1048576, oor := .clamp },
  { at_ := (0x5300, 0x02), name := "rel.audit.runs", ty := .u64, acc := .ro, scope := .owner, dflt := 0, rng := .any, oor := .none },
  { at_ := (0x5300, 0x03), name := "rel.audit.skipped", ty := .u64, acc := .ro, scope := .owner, dflt := 0, rng := .any, oor := .none },
  { at_ := (0x5300, 0x04), name := "rel.audit.mismatches", ty := .u64, acc := .ro, scope := .owner, dflt := 0, rng := .any, oor := .none },
  { at_ := (0x5400, 0x01), name := "rel.fit.interval_h", ty := .u16, acc := .rw, scope := .owner, dflt := 24, rng := .span 1 720, oor := .clamp },
  { at_ := (0x5400, 0x02), name := "rel.fit.grace_h", ty := .u16, acc := .rw, scope := .owner, dflt := 6, rng := .span 0 168, oor := .clamp },
  { at_ := (0x5400, 0x03), name := "rel.fit.bundle", ty := .domain, acc := .wo, scope := .owner, dflt := 0, rng := .any, oor := (.refuse St.bundleInvalid) },
  { at_ := (0x5400, 0x04), name := "rel.fit.bundle_version", ty := .u32, acc := .ro, scope := .obs, dflt := 0, rng := .any, oor := .none },
  { at_ := (0x5400, 0x05), name := "rel.fit.request", ty := .u16, acc := .wo, scope := .owner, dflt := 0, rng := .any, oor := (.refuse St.fitBusy) },
  { at_ := (0x5400, 0x06), name := "rel.patch.map", ty := .domain, acc := .ro, scope := .obs, dflt := 0, rng := .any, oor := .none },
  { at_ := (0x5400, 0x07), name := "rel.patch.free", ty := .u32, acc := .ro, scope := .obs, dflt := 134744072, rng := .any, oor := .none },
  { at_ := (0x5400, 0x08), name := "rel.patch.suspect_limit", ty := .u8, acc := .konst, scope := .obs, dflt := 3, rng := .any, oor := (.refuse St.accessDenied) },
  { at_ := (0x5400, 0x09), name := "rel.patch.decay_h", ty := .u16, acc := .rw, scope := .owner, dflt := 168, rng := .span 24 8760, oor := .clamp },
  { at_ := (0x5400, 0x0A), name := "rel.patch.retired", ty := .domain, acc := .rw, scope := .owner, dflt := 0, rng := .any, oor := (.refuse St.patchBusy) }]

/-- Objects of chapter 17. -/
def objs17a : List Obj := [
  { at_ := (0x1010, 0x01), name := "rst.cause", ty := .u8, acc := .ro, scope := .obs, dflt := 0, rng := .any, oor := .none },
  { at_ := (0x1010, 0x02), name := "rst.secondary", ty := .u16, acc := .ro, scope := .obs, dflt := 0, rng := .any, oor := .none },
  { at_ := (0x1010, 0x03), name := "rst.count", ty := .u32, acc := .ro, scope := .obs, dflt := 1, rng := .any, oor := .none },
  { at_ := (0x1010, 0x04), name := "rst.state", ty := .u8, acc := .ro, scope := .obs, dflt := 1, rng := .any, oor := .none },
  { at_ := (0x1010, 0x05), name := "rst.command", ty := .u8, acc := .wo, scope := .owner, dflt := 0, rng := .any, oor := (.refuse St.resetInvalid) },
  { at_ := (0x1010, 0x06), name := "rst.host_scope", ty := .u8, acc := .rw, scope := .owner, dflt := 0, rng := .span 0 1, oor := .clamp },
  { at_ := (0x2000, 0x01), name := "clk.tile_cap_mhz", ty := .u16, acc := .rw, scope := .owner, dflt := 1500, rng := .multiple 600 1800 50, oor := .clamp },
  { at_ := (0x2000, 0x02), name := "clk.mesh_mhz", ty := .u16, acc := .konst, scope := .obs, dflt := 2000, rng := .any, oor := (.refuse St.accessDenied) },
  { at_ := (0x2000, 0x03), name := "clk.collar_mhz", ty := .u16, acc := .konst, scope := .obs, dflt := 1000, rng := .any, oor := (.refuse St.accessDenied) },
  { at_ := (0x2100, 0x01), name := "pwr.cap_w", ty := .u16, acc := .rw, scope := .owner, dflt := 2400, rng := .span 1200 2400, oor := .clamp },
  { at_ := (0x2100, 0x02), name := "pwr.brake.floor_mhz", ty := .u16, acc := .rw, scope := .owner, dflt := 600, rng := .multiple 600 1500 50, oor := .clamp },
  { at_ := (0x2100, 0x03), name := "pwr.gov.delays", ty := .u64, acc := .ro, scope := .owner, dflt := 0, rng := .any, oor := .none },
  { at_ := (0x2100, 0x04), name := "pwr.package_w", ty := .u16, acc := .ro, scope := .obs, dflt := 0, rng := .any, oor := .none },
  { at_ := (0x2110, 0x01), name := "pwr.panel.v_request", ty := .u16, acc := .ro, scope := .obs, dflt := 750, rng := .any, oor := .none },
  { at_ := (0x2110, 0x02), name := "pwr.panel.v_meas", ty := .u16, acc := .ro, scope := .obs, dflt := 0, rng := .any, oor := .none },
  { at_ := (0x2200, 0x01), name := "therm.throttle_c", ty := .u8, acc := .rw, scope := .owner, dflt := 100, rng := .span 80 100, oor := .clamp }]

/-- Objects of chapter 17. -/
def objs17b : List Obj := [
  { at_ := (0x2200, 0x02), name := "therm.trip_c", ty := .u8, acc := .konst, scope := .obs, dflt := 115, rng := .any, oor := (.refuse St.accessDenied) },
  { at_ := (0x2200, 0x03), name := "therm.max_c", ty := .u8, acc := .ro, scope := .obs, dflt := 0, rng := .any, oor := .none },
  { at_ := (0x2200, 0x04), name := "therm.sensors", ty := .domain, acc := .ro, scope := .obs, dflt := 0, rng := .any, oor := .none },
  { at_ := (0x6022, 0x01), name := "part.clk.cap_mhz", ty := .u16, acc := .rw, scope := .part, dflt := 1800, rng := .multiple 600 1800 50, oor := .clamp }]

/-- Objects of chapter 18. -/
def objs18a : List Obj := [
  { at_ := (0x1000, 0x05), name := "id.serial", ty := .text, acc := .konst, scope := .obs, dflt := 0, rng := .any, oor := (.refuse St.accessDenied) },
  { at_ := (0x1000, 0x06), name := "id.silicon_rev", ty := .u8, acc := .konst, scope := .obs, dflt := 0, rng := .any, oor := (.refuse St.accessDenied) },
  { at_ := (0x1000, 0x07), name := "id.pci_vendor", ty := .u16, acc := .konst, scope := .obs, dflt := 0, rng := .any, oor := (.refuse St.accessDenied) },
  { at_ := (0x1000, 0x08), name := "id.pci_device", ty := .u16, acc := .konst, scope := .obs, dflt := 0, rng := .any, oor := (.refuse St.accessDenied) },
  { at_ := (0x1000, 0x09), name := "id.fw_version", ty := .u32, acc := .ro, scope := .obs, dflt := 0, rng := .any, oor := .none },
  { at_ := (0x1000, 0x0A), name := "id.cert_chain", ty := .domain, acc := .ro, scope := .obs, dflt := 0, rng := .any, oor := .none },
  { at_ := (0x1100, 0x01), name := "dev.evq.base", ty := .u64, acc := .rw, scope := .owner, dflt := 0, rng := .any, oor := .commit },
  { at_ := (0x1100, 0x02), name := "dev.evq.log2", ty := .u8, acc := .rw, scope := .owner, dflt := 8, rng := .any, oor := .commit },
  { at_ := (0x1100, 0x03), name := "dev.evq.vector", ty := .u16, acc := .rw, scope := .owner, dflt := 0, rng := .any, oor := .commit },
  { at_ := (0x1100, 0x04), name := "dev.evq.state", ty := .u8, acc := .ro, scope := .owner, dflt := 0, rng := .any, oor := .none },
  { at_ := (0x1100, 0xFF), name := "dev.evq.commit", ty := .u8, acc := .wo, scope := .owner, dflt := 0, rng := .any, oor := (.refuse St.queueInvalid) },
  { at_ := (0x1200, 0x01), name := "mgmt.i3c_owner", ty := .bool, acc := .rw, scope := .owner, dflt := 1, rng := .span 0 1, oor := .none },
  { at_ := (0x1200, 0x02), name := "mgmt.eth.addr", ty := (.octets 16), acc := .rw, scope := .owner, dflt := 0, rng := .any, oor := (.refuse St.valueInvalid) },
  { at_ := (0x1200, 0x03), name := "mgmt.eth.udp_port", ty := .u16, acc := .rw, scope := .owner, dflt := 29171, rng := .span 1024 65535, oor := .clamp },
  { at_ := (0x1200, 0x04), name := "mgmt.owner_anchor", ty := (.octets 48), acc := .rw, scope := .owner, dflt := 0, rng := .any, oor := .none },
  { at_ := (0x6024, 0x01), name := "part.queue.id", ty := .u8, acc := .rw, scope := .part, dflt := 0, rng := .any, oor := .commit }]

/-- Objects of chapter 18. -/
def objs18b : List Obj := [
  { at_ := (0x6024, 0x02), name := "part.queue.sq_base", ty := .u64, acc := .rw, scope := .part, dflt := 0, rng := .any, oor := .commit },
  { at_ := (0x6024, 0x03), name := "part.queue.cq_base", ty := .u64, acc := .rw, scope := .part, dflt := 0, rng := .any, oor := .commit },
  { at_ := (0x6024, 0x04), name := "part.queue.log2", ty := .u8, acc := .rw, scope := .part, dflt := 6, rng := .any, oor := .commit },
  { at_ := (0x6024, 0x05), name := "part.queue.vector", ty := .u16, acc := .rw, scope := .part, dflt := 0, rng := .any, oor := .commit },
  { at_ := (0x6024, 0xFF), name := "part.queue.commit", ty := .u8, acc := .wo, scope := .part, dflt := 0, rng := .any, oor := (.refuse St.queueInvalid) },
  { at_ := (0x6025, 0x01), name := "part.evq.base", ty := .u64, acc := .rw, scope := .part, dflt := 0, rng := .any, oor := .commit },
  { at_ := (0x6025, 0x02), name := "part.evq.log2", ty := .u8, acc := .rw, scope := .part, dflt := 8, rng := .any, oor := .commit },
  { at_ := (0x6025, 0x03), name := "part.evq.vector", ty := .u16, acc := .rw, scope := .part, dflt := 0, rng := .any, oor := .commit },
  { at_ := (0x6025, 0xFF), name := "part.evq.commit", ty := .u8, acc := .wo, scope := .part, dflt := 0, rng := .any, oor := (.refuse St.queueInvalid) },
  { at_ := (0x6026, 0x01), name := "part.host.aperture", ty := .u64, acc := .rw, scope := .part, dflt := 0, rng := .multiple 0 1098437885952 1073741824, oor := .clamp },
  { at_ := (0x7000, 0x01), name := "fw.iface.version", ty := .u16, acc := .konst, scope := .obs, dflt := 0, rng := .any, oor := (.refuse St.accessDenied) },
  { at_ := (0x7000, 0x02), name := "fw.iface.peer", ty := .u16, acc := .rw, scope := .obs, dflt := 0, rng := .any, oor := .none },
  { at_ := (0x7000, 0x03), name := "fw.security_version", ty := .u8, acc := .ro, scope := .obs, dflt := 0, rng := .any, oor := .none },
  { at_ := (0x7000, 0x04), name := "fw.banks", ty := .domain, acc := .ro, scope := .obs, dflt := 0, rng := .any, oor := .none },
  { at_ := (0x7000, 0x05), name := "fw.restarts", ty := .domain, acc := .ro, scope := .owner, dflt := 0, rng := .any, oor := .none },
  { at_ := (0xA010, 0x01), name := "log.clamp", ty := .domain, acc := .ro, scope := .part, dflt := 0, rng := .any, oor := .none }]

/-- Objects of chapter 19. -/
def objs19a : List Obj := [
  { at_ := (0x8000, 0x01), name := "cnt.tile.busy_tc", ty := .u64, acc := .ro, scope := .part, dflt := 0, rng := .any, oor := .none },
  { at_ := (0x8000, 0x02), name := "cnt.tile.stall_tc", ty := .u64, acc := .ro, scope := .part, dflt := 0, rng := .any, oor := .none },
  { at_ := (0x8000, 0x03), name := "cnt.tile.array_tc", ty := .u64, acc := .ro, scope := .part, dflt := 0, rng := .any, oor := .none },
  { at_ := (0x8000, 0x04), name := "cnt.tile.residue", ty := .u64, acc := .ro, scope := .part, dflt := 0, rng := .any, oor := .none },
  { at_ := (0x8000, 0x05), name := "cnt.tile.corrected", ty := .u64, acc := .ro, scope := .part, dflt := 0, rng := .any, oor := .none },
  { at_ := (0x8200, 0x01), name := "cnt.lane.retries", ty := .u64, acc := .ro, scope := .part, dflt := 0, rng := .any, oor := .none },
  { at_ := (0x8200, 0x02), name := "cnt.lane.fec_corrected", ty := .u64, acc := .ro, scope := .part, dflt := 0, rng := .any, oor := .none },
  { at_ := (0x8300, 0x01), name := "cnt.stack.corrected", ty := .u64, acc := .ro, scope := .owner, dflt := 0, rng := .any, oor := .none },
  { at_ := (0x8400, 0x01), name := "cnt.dev.residue", ty := .u64, acc := .ro, scope := .owner, dflt := 0, rng := .any, oor := .none },
  { at_ := (0x8400, 0x02), name := "cnt.dev.corrected", ty := .u64, acc := .ro, scope := .owner, dflt := 0, rng := .any, oor := .none },
  { at_ := (0x8400, 0x03), name := "cnt.dev.link_retries", ty := .u64, acc := .ro, scope := .owner, dflt := 0, rng := .any, oor := .none },
  { at_ := (0xA200, 0x01), name := "trace.mode", ty := .u8, acc := .rw, scope := .owner, dflt := 2, rng := .span 0 2, oor := .clamp },
  { at_ := (0xA200, 0x02), name := "trace.size_mib", ty := .u16, acc := .rw, scope := .owner, dflt := 1024, rng := .pow2 64 1024, oor := .clamp },
  { at_ := (0xA200, 0x03), name := "trace.pre_eighths", ty := .u8, acc := .rw, scope := .owner, dflt := 4, rng := .span 1 7, oor := .clamp },
  { at_ := (0xA200, 0x04), name := "trace.sources", ty := .u8, acc := .rw, scope := .owner, dflt := 32, rng := .span 0 63, oor := .clamp },
  { at_ := (0xA200, 0x05), name := "trace.partitions", ty := .u16, acc := .rw, scope := .owner, dflt := 65535, rng := .any, oor := .none }]

/-- Objects of chapter 19. -/
def objs19b : List Obj := [
  { at_ := (0xA200, 0x06), name := "trace.trigger_code", ty := .u16, acc := .rw, scope := .owner, dflt := 0, rng := .codes, oor := .clamp },
  { at_ := (0xA200, 0x07), name := "trace.trigger", ty := .u8, acc := .wo, scope := .owner, dflt := 0, rng := .any, oor := (.refuse St.valueInvalid) },
  { at_ := (0xA200, 0x08), name := "trace.arm", ty := .u8, acc := .wo, scope := .owner, dflt := 0, rng := .any, oor := (.refuse St.valueInvalid) },
  { at_ := (0xA200, 0x09), name := "trace.state", ty := .u8, acc := .ro, scope := .owner, dflt := 0, rng := .any, oor := .none },
  { at_ := (0xA200, 0x0A), name := "trace.dropped", ty := .u64, acc := .ro, scope := .owner, dflt := 0, rng := .any, oor := .none },
  { at_ := (0xA200, 0x0B), name := "trace.late_triggers", ty := .u64, acc := .ro, scope := .owner, dflt := 0, rng := .any, oor := .none },
  { at_ := (0xA200, 0x0C), name := "trace.buffer", ty := .domain, acc := .ro, scope := .owner, dflt := 0, rng := .any, oor := .none },
  { at_ := (0xA000, 0x01), name := "log.errors", ty := .domain, acc := .ro, scope := .owner, dflt := 0, rng := .any, oor := .none },
  { at_ := (0xA000, 0x02), name := "log.alarms", ty := .domain, acc := .ro, scope := .owner, dflt := 0, rng := .any, oor := .none },
  { at_ := (0xA000, 0x03), name := "log.alarm.ack", ty := (.octets 4), acc := .wo, scope := .owner, dflt := 0, rng := .any, oor := (.refuse St.valueInvalid) },
  { at_ := (0xA000, 0x04), name := "log.dumps", ty := .domain, acc := .ro, scope := .owner, dflt := 0, rng := .any, oor := .none },
  { at_ := (0xA000, 0x05), name := "log.device_dump", ty := .domain, acc := .ro, scope := .owner, dflt := 0, rng := .any, oor := .none },
  { at_ := (0xA000, 0x06), name := "log.dump.overwritten", ty := .u64, acc := .ro, scope := .owner, dflt := 0, rng := .any, oor := .none },
  { at_ := (0xA100, 0x01), name := "log.part_errors", ty := .domain, acc := .ro, scope := .part, dflt := 0, rng := .any, oor := .none },
  { at_ := (0xA110, 0x01), name := "log.part_dumps", ty := .domain, acc := .ro, scope := .part, dflt := 0, rng := .any, oor := .none }]

def objTable : List Obj :=
  objs00 ++ objs04 ++ objs06 ++ objs08 ++ objs09 ++ objs10 ++ objs11 ++ objs12 ++ objs13a ++ objs13b ++ objs14a ++ objs14b ++ objs15a ++ objs15b ++ objs16a ++ objs16b ++ objs17a ++ objs17b ++ objs18a ++ objs18b ++ objs19a ++ objs19b ++ objsMore

/-- The first index of an index's range and the item it selects: item numbers run over the whole device (window w of
partition p is item 64 p + w). `none` outside every range (R429). -/
def objItem (i : Nat) : Option (Nat × Nat) :=
  if 0x6000 ≤ i ∧ i < 0x7000 then
    let p := (i - 0x6000) / 0x100
    let o := (i - 0x6000) % 0x100
    if 0x40 ≤ o ∧ o < 0x80 then some (0x6040, 64 * p + (o - 0x40))
    else if 0x80 ≤ o ∧ o < 0x88 then some (0x6080, 8 * p + (o - 0x80))
    else if 0xA0 ≤ o ∧ o < 0xB0 then some (0x60A0, 16 * p + (o - 0xA0))
    else some (0x6000 + o, p)
  else
    let span (base n : Nat) : Option (Nat × Nat) := if base ≤ i ∧ i < base + n then some (base, i - base) else none
    (span 0x2110 4).or ((span 0x3100 8).or ((span 0x3200 16).or ((span 0x3300 16).or ((span 0x3500 2).or
      ((span 0x4010 12).or ((span 0x4100 4).or ((span 0x8000 512).or ((span 0x8200 64).or ((span 0x8300 12).or
      ((span 0x8800 32).or ((span 0xA100 16).or ((span 0xA110 16).or (some (i, 0))))))))))))))

/-- The table row of an index and sub-index, and the item. -/
def objOf (i sub : Nat) : Option (Obj × Nat) :=
  match objItem i with
  | none => none
  | some (base, item) => (objTable.find? (fun o => o.at_ = (base, sub))).map (fun o => (o, item))

/-- The partition an item of a partition object belongs to. -/
def objPart (base item : Nat) : PartNo :=
  if base = 0x6040 then fin (item / 64) else if base = 0x6080 then fin (item / 8)
  else if base = 0x60A0 then fin (item / 16) else fin item

/-- Spare lanes of a cuff: 30 and 31, 62 and 63 (Table 13.5). -/
def cuffSpares (c : Fin 2) : Nat := if c = 0 then 3 * 2 ^ 30 else 3 * 2 ^ 62

/-- Lanes of a port in the default torus (Table 13.5). -/
def portLanesDefault (k : Nat) : Nat :=
  if k < 3 then 1023 * 2 ^ (10 * k) else if k < 6 then 1023 * 2 ^ (32 + 10 * (k - 3)) else 0

/-- Dimension of a port in the default torus (Table 13.5): X, Y, Z, none. -/
def portDimDefault (k : Nat) : Nat := min 3 (k / 2)

/-- Spare lanes of a port in the default torus: those of its cuff (Table 13.5). -/
def portSparesDefault (k : Nat) : Nat := if k < 3 then cuffSpares 0 else if k < 6 then cuffSpares 1 else 0

/-- Default of an object's item; those of Table 13.5 depend on the port. -/
def objDefault (base sub item : Nat) : Nat :=
  if base = 0x3100 ∧ sub = 1 then portLanesDefault item
  else if base = 0x3100 ∧ sub = 2 then portDimDefault item
  else if base = 0x3100 ∧ sub = 5 then portSparesDefault item
  else match objTable.find? (fun o => o.at_ = (base, sub)) with
    | some o => o.dflt
    | none => 0

/-- The committed value of an object kept in the dictionary (R434). -/
def Device.cfg (d : Device) (base sub item : Nat) : Nat := (alGet d.dict (base, sub, item)).getD (objDefault base sub item)

def Device.setCfg (d : Device) (base sub item v : Nat) : Device := { d with dict := alSet d.dict (base, sub, item) v }

end Sys2Proof.Machine
end

