-- ==== Sys2Proof/Machine/Report.lean ====
section
/-! DEFINITION. How the part reports: MSI-X (R426), event queues (R425), completions (R423), trace (R453, R454), the error
log (R451), alarms (R450), and the delivery of each event code (Table 19.6). -/

namespace Sys2Proof.Machine

/-- One message request on a vector (R426): masked sets the PBA bit; within 2 µs of the last message it waits for their
end; otherwise it is sent. -/
def Msix.signal (now : W64) (m : Msix) : Msix :=
  if m.masked then { m with pba := true }
  else if m.sentOnce && decide ((now - m.lastSent).toNat < 2000) then { m with deferred := true }
  else { m with sentOnce := true, lastSent := now, sent := m.sent + 1, deferred := false }

/-- Signal a vector of a function's own table (R426). A vector outside the table signals nothing. -/
def Device.signal (d : Device) (f : Fn) (v : Nat) : Device :=
  match f with
  | .pf0 => if h : v < 64 then { d with devMsix := d.devMsix.set v (d.devMsix[v].signal d.devTime) } else d
  | .vf p => if h : v < 124 then d.modPart p (fun q => { q with msix := q.msix.set v (q.msix[v].signal d.devTime) }) else d

/-- The 32 bytes of an event entry (R425). -/
def eventBytes (code : W16) (phase : Bool) (ctx : Option Nat) (time : W64) (payload : BitVec 128) : List Byte :=
  leBytes 2 code.toNat ++ leBytes 1 (phase.toNat + 2 * ctx.isSome.toNat) ++ leBytes 1 (ctx.getD 0) ++ leBytes 4 0
    ++ leBytes 8 time.toNat ++ leBytes 16 payload.toNat

/-- Room for one more entry: a ring holds depth - 1 (log 21). -/
def Evq.room (q : Evq) : Bool := decide ((q.tail + 1) % 2 ^ q.log2 ≠ q.head)

/-- The queue after one entry is written: the tail moves and PHASE inverts at each wrap (R423, R425). -/
def Evq.advance (q : Evq) : Evq :=
  { q with tail := (q.tail + 1) % 2 ^ q.log2, phase := if (q.tail + 1) % 2 ^ q.log2 = 0 then !q.phase else q.phase }

/-- An event queue with one event posted, or counted lost when full (R425), and host memory. -/
def Evq.post (q : Evq) (hm : Memory) (code : W16) (ctx : Option Nat) (now : W64) (payload : BitVec 128) : Evq × Memory :=
  if q.room then
    (q.advance, hm.write (q.base.toNat + 32 * q.tail) (eventBytes code q.phase ctx now payload))
  else ({ q with lost := q.lost + 1 }, hm)

def Device.evqOf (d : Device) : Fn → Evq
  | .pf0 => d.devEvq
  | .vf p => d.parts[p].evq

def Device.setEvq (d : Device) (f : Fn) (q : Evq) : Device :=
  match f with
  | .pf0 => { d with devEvq := q }
  | .vf p => d.modPart p (fun x => { x with evq := q })

/-- Whether a function's writes reach host memory (R420, log 15): those of a VF with bus mastering enabled. -/
def Device.masters (d : Device) : Fn → Bool
  | .pf0 => true
  | .vf p => (d.parts[p]).busMaster

/-- Post an event on a function's event queue (R425); a queue that is off takes none. -/
def Device.postEvent (d : Device) (f : Fn) (code : W16) (ctx : Option Nat) (payload : BitVec 128) : Device :=
  let q := d.evqOf f
  if q.on then
    let r := q.post d.hostMem code ctx d.devTime payload
    let d' := { d.setEvq f r.1 with hostMem := if d.masters f then r.2 else d.hostMem }
    if q.room then d'.signal f q.vector else d'
  else d

/-- The 16 bytes of a completion entry (R423). -/
def completionBytes (c : Completion) (sqHead : Nat) (phase : Bool) : List Byte :=
  leBytes 2 c.cid.toNat ++ leBytes 2 c.status.toNat ++ leBytes 2 sqHead ++ leBytes 2 phase.toNat ++ leBytes 8 c.detail.toNat

/-- Write the completions that have room, oldest first; each write advances the CQ and its PHASE (R423). -/
def Queue.drain (q : Queue) (hm : Memory) : Nat → Queue × Memory
  | 0 => (q, hm)
  | n + 1 =>
    match q.waiting with
    | [] => (q, hm)
    | c :: rest =>
      if (q.cqTail + 1) % 2 ^ q.log2 = q.cqHead then (q, hm)
      else
        let t := (q.cqTail + 1) % 2 ^ q.log2
        Queue.drain { q with waiting := rest, cqTail := t, phase := if t = 0 then !q.phase else q.phase }
          (hm.write (q.cqBase.toNat + 16 * q.cqTail) (completionBytes c q.head q.phase)) n

/-- Write what a CQ has room for and signal its vector (R423, R426). -/
def Device.drainCq (d : Device) (p : PartNo) (n : QueueNo) : Device :=
  let q := d.parts[p].queues[n]
  let r := q.drain d.hostMem q.waiting.length
  let d' := { d.modQueue p n (fun _ => r.1) with hostMem := if d.masters (.vf p) then r.2 else d.hostMem }
  if r.1.waiting.length < q.waiting.length then d'.signal (.vf p) q.vector else d'

/-- Post a completion on the CQ of a queue (R423); it waits for room. -/
def Device.postCq (d : Device) (p : PartNo) (n : QueueNo) (c : Completion) : Device :=
  (d.modQueue p n (fun q => { q with waiting := q.waiting ++ [c] })).drainCq p n

/-- Records the trace buffer holds (R453): 32,768 of 32 bytes in each MiB. -/
def Trace.cap (t : Trace) : Nat := 32768 * t.sizeMib

/-- Records filled after a trigger (R454). -/
def Trace.after (t : Trace) : Nat := t.cap * (8 - t.pre) / 8

/-- Append one record in the active mode (R454). -/
def Trace.append (t : Trace) (r : TraceRec) : Trace :=
  if t.st = 0 then
    if t.mode = 1 then
      if t.buf.length + 1 < t.cap then { t with buf := t.buf ++ [r] } else { t with buf := t.buf ++ [r], st := 3 }
    else { t with buf := (if t.buf.length < t.cap then t.buf else t.buf.drop 1) ++ [r] }
  else if t.st = 1 ∧ t.post < t.after then { t with buf := t.buf ++ [r], post := t.post + 1 }
  else if t.st = 3 then { t with dropped := t.dropped + 1 }
  else t

/-- A trigger (R454): in mode 2 it fixes the records kept before it; a late one is counted. -/
def Trace.trig (t : Trace) : Trace :=
  if t.mode = 2 ∧ t.st = 0 then
    let k := min t.buf.length (t.cap * t.pre / 8)
    { t with buf := t.buf.drop (t.buf.length - k), preKept := k, post := 0, st := 1 }
  else if t.mode = 2 then { t with late := t.late + 1 }
  else t

/-- An event code that equals trace.trigger_code is a trigger (R454). -/
def Device.trigOn (d : Device) (code : W16) : Device :=
  if d.trace.trigger = code ∧ code ≠ 0 then { d with trace := d.trace.trig } else d

/-- Once space exists, one EVQ_LOST entry carries the count of lost events (R425). -/
def Device.flushLost (d : Device) (f : Fn) : Device :=
  let q := d.evqOf f
  if q.on && decide (q.lost ≠ 0) && q.room then
    ((d.trigOn 0x0308).setEvq f { q with lost := 0 }).postEvent f 0x0308 none (q.lost.setWidth 128)
  else d

/-- A frozen buffer's state: PRE_SHORT when fewer records than the part before the trigger were written (R454). -/
def Trace.frozen (t : Trace) : Trace := { t with st := if t.preKept < t.cap * t.pre / 8 then 4 else 2 }

/-- The post-trigger part is full: the buffer freezes (R454). -/
def Trace.fill (t : Trace) : Trace := if t.st = 1 ∧ t.post ≥ t.after then t.frozen else t

/-- A trace record of a source bit (R453): recorded when the source is named and, for a record that names a partition,
the partition is. -/
def Device.traceRec (d : Device) (src : Nat) (unit : Nat) (p : Option PartNo) (code : W16) (payload : BitVec 128) : Device :=
  let named := match p with
    | some q => bitOf d.trace.parts q.val
    | none => true
  if bitOf d.trace.sources src && named then
    let r : TraceRec := { time := d.devTime, unit := BitVec.ofNat 16 unit, part := p, code := code, payload := payload }
    { d with trace := d.trace.append r }
  else d

/-- The error-log ring (R449, R451): 1,024 entries; the oldest is overwritten, and the entry before the remaining ones is
LOG_LOST with the count lost (log 22). -/
def logAppend (l : List LogEntry) (e : LogEntry) : List LogEntry :=
  if l.length < 1024 then l ++ [e]
  else
    match l with
    | x :: _ :: rest =>
      if x.code = 0x020C then { x with payload := x.payload + 1, time := e.time } :: (rest ++ [e])
      else { time := e.time, code := 0x020C, part := none, ctx := 0, src := 0, payload := 2 } :: (rest ++ [e])
    | _ => [e]

/-- Whether a code is an alarm (Table 19.6). -/
def isAlarm (c : W16) : Bool := 0x0100 ≤ c.toNat && c.toNat ≤ 0x0109
/-- Whether a code is logged (Table 19.6). -/
def isLogged (c : W16) : Bool := c = 0x0100 || (0x0200 ≤ c.toNat && c.toNat ≤ 0x020D)
/-- Codes also posted to the event queue of the partition they name (Table 19.6, R452). -/
def toPartition (c : W16) : Bool :=
  c ∈ ([0x0100, 0x0202, 0x0205, 0x0207, 0x0208, 0x0209, 0x020B, 0x020D] : List W16) ||
    (0x0301 ≤ c.toNat && c.toNat ≤ 0x0307)

/-- An occurrence recorded in the alarm table (R450): a repeat of an active key is counted; a new key takes an unused or
acknowledged record of the 96, or its code's reserved record with SOURCE 0xFFFF (log 22). -/
def alarmRecord (l : List Alarm) (code source : W16) (now : W64) (data : BitVec 128) : List Alarm :=
  let fresh (s : W16) : Alarm := { code := code, source := s, active := true, count := 1, first := now, last := now, data := data }
  let again (a : Alarm) : Alarm := { a with count := a.count + 1, last := now, data := data }
  match firstIdx (fun a => a.code = code && a.source = source && a.active) l with
  | some i => l.modify i again
  | none =>
    let others := l.filter (fun a => a.source ≠ 0xFFFF)
    match firstIdx (fun a => a.code = code && a.source = source && source ≠ 0xFFFF) l with
    | some i => l.set i (fresh source)
    | none =>
      if others.length < 96 then l ++ [fresh source]
      else
        match firstIdx (fun a => !a.active && a.source ≠ 0xFFFF) l with
        | some i => l.set i (fresh source)
        | none =>
          match firstIdx (fun a => a.code = code && a.source = 0xFFFF) l with
          | some i => l.modify i (fun a => if a.active then again a else fresh 0xFFFF)
          | none => l ++ [fresh 0xFFFF]

/-- An alarm raised (R450): recorded, an in-band interrupt on the I3C target, and the device event queue (R452). -/
def Device.raiseAlarm (d : Device) (code source : W16) (data : BitVec 128) : Device :=
  { d with alarms := alarmRecord d.alarms code source d.devTime data, ibi := d.ibi + 1 }.postEvent .pf0 code none data

/-- ALERT_N is low while any alarm is ACTIVE (R450). -/
def Device.alertLow (d : Device) : Bool := d.alarms.any (·.active)

def Device.logErr (d : Device) (code : W16) (p : Option PartNo) (ctx : Nat) (src : Nat) (payload : BitVec 128) : Device :=
  let d := if d.errLog.length < 1024 then d else d.trigOn 0x020C
  let e : LogEntry :=
    { time := d.devTime, code := code, part := p, ctx := BitVec.ofNat 8 ctx, src := BitVec.ofNat 36 src, payload := payload }
  { d with errLog := logAppend d.errLog e }

/-- A condition reported by its code (Table 19.6): trigger and trace copy, alarm, error log, event queues. -/
def Device.report (d : Device) (code : W16) (p : Option PartNo) (ctx : Option Nat) (src : Nat) (payload : BitVec 128) :
    Device :=
  let d := d.trigOn code
  let d := if isAlarm code || isLogged code then d.traceRec 5 src p code payload else d
  let d := if isAlarm code then d.raiseAlarm code (BitVec.ofNat 16 src) payload else d
  let d := if isLogged code then d.logErr code p (ctx.getD 0) src payload else d
  let d := if code = 0x0300 then d.postEvent .pf0 code ctx payload else d
  match p with
  | some q => if toPartition code then d.postEvent (.vf q) code ctx payload else d
  | none => d

/-- Counter-set events (Table 19.3): add to every enabled counter that names the event and the unit, in a set bound to the
partition (R448). -/
def Device.count (d : Device) (p : Option PartNo) (event unit n : Nat) : Device :=
  match p with
  | none => d
  | some q =>
    { d with csets := d.csets.mapIdx (fun i set =>
        if d.csetBound[i]? = some (some q) then
          set.map (fun c =>
            if fld c.ctl 0 12 = event ∧ bitOf c.ctl 22 ∧ (fld c.ctl 12 10 = unit ∨ fld c.ctl 12 10 = 0x3FF)
            then { c with cnt := c.cnt + BitVec.ofNat 64 n } else c)
        else set) }

end Sys2Proof.Machine
end

