-- ==== Sys2Proof/Machine/Topology.lean ====
section
/-! DEFINITION. Where things lie and which way traffic goes: seams (R16 to R18), memory stops (R19, Table 1.1), mesh routes
(R147), blocks of the cuffs (Table 1.2). -/

namespace Sys2Proof.Machine

/-- A die: a panel or a cuff (R16). -/
inductive Die where
  | panel (p : PanelNo)
  | cuff (c : Fin 2)
deriving DecidableEq, Repr

/-- The panel across the horizontal seam (0-1, 2-3), and across the vertical seam (0-2, 1-3) (R17). -/
def panelBeside (p : PanelNo) : PanelNo := if p.val % 2 = 0 then fin (p.val + 1) else fin (p.val - 1)
def panelAcross (p : PanelNo) : PanelNo := fin ((p.val + 2) % 4)

/-- Whether a seam joins two dies (R17). -/
def seam : Die → Die → Bool
  | .panel p, .panel q => q = panelBeside p || q = panelAcross p
  | .panel p, .cuff c => panelCuff p = c
  | .cuff c, .panel p => panelCuff p = c
  | .cuff _, .cuff _ => false

/-- The fixed route between two dies, the end dies included (R18). -/
def seamRoute : Die → Die → List Die
  | .panel p, .panel q =>
    if p = q then [.panel p]
    else if p.val % 2 = q.val % 2 then [.panel p, .panel q]
    else if p.val / 2 = q.val / 2 then [.panel p, .panel q]
    else [.panel p, .panel (panelBeside p), .panel q]
  | .panel p, .cuff c =>
    if panelCuff p = c then [.panel p, .cuff c] else [.panel p, .panel (panelBeside p), .cuff c]
  | .cuff c, .panel p =>
    if panelCuff p = c then [.cuff c, .panel p] else [.cuff c, .panel (panelBeside p), .panel p]
  | .cuff c, .cuff e =>
    if c = e then [.cuff c]
    else if c = 0 then [.cuff 0, .panel 0, .panel 1, .cuff 1] else [.cuff 1, .panel 1, .panel 0, .cuff 0]

/-- Row and column of a grid position (R4). -/
def gridRow (x : PhysNo) : Nat := x.val % 144 / 12
def gridCol (x : PhysNo) : Nat := x.val % 12
def gridPanel (x : PhysNo) : PanelNo := fin (x.val / 144)

/-- The eight memory stops of a panel (Table 1.1). -/
def isMemStop (x : PhysNo) : Bool :=
  (gridRow x = 0 || gridRow x = 11) && (gridCol x = 2 || gridCol x = 5 || gridCol x = 6 || gridCol x = 9)

/-- The grid positions that carry tiles, in physical order (R19: 136 on each panel). -/
def tileStops : List PhysNo := (List.finRange 576).filter (fun x => !isMemStop x)

/-- Tile stops of a panel. -/
def panelStops (p : PanelNo) : List PhysNo := tileStops.filter (fun x => gridPanel x = p)

/-- Mesh hops between two stops of one panel (R147). -/
def meshHops (x y : PhysNo) : Nat :=
  (max (gridRow x) (gridRow y) - min (gridRow x) (gridRow y)) + (max (gridCol x) (gridCol y) - min (gridCol x) (gridCol y))

/-- The memory stop of a stacked-memory channel: panel, stop (R283). -/
def memStopOf (s : StackNo) (channel : Fin 32) : PanelNo × Fin 8 :=
  (fin (s.val / 3), fin ((32 * (s.val % 3) + channel.val) / 12))

/-- The panel of a gather engine or bulk mover (Table 1.1). -/
def enginePanel (g : Fin 16) : PanelNo := fin (g.val / 4)

/-- The cuff of a port by its lanes, of a lane, of a host/link mover and of a table-memory port (Table 1.2). -/
def laneCuff (n : LaneNo) : Fin 2 := fin (n.val / 32)
def hlCuff (n : HlNo) : Fin 2 := fin (n.val / 4)
def tmemCuff (n : TmemNo) : Fin 2 := fin (n.val / 2)

/-- The cuff of an 800GBASE port; of the PCIe host port; of the management port and the test access; of the collar with the always-on
domain (Table 1.2). A link reducer lies on its port's cuff. -/
def netCuff (n : NetNo) : Fin 2 := fin n.val
def hostPortCuff : Fin 2 := 0
def mgmtCuff : Fin 2 := 1
def collarCuff : Fin 2 := 1

/-- The cuff whose router takes the packets of a requester number (R215, R316): a tile's or a bulk mover's panel, a host/link mover's own;
other numbers are the collar's. -/
def reqCuff (n : Nat) : Fin 2 :=
  if n < 512 then tileCuff (fin n) else if n < 528 then panelCuff (enginePanel (fin (n - 512)))
  else if n < 536 then hlCuff (fin (n - 528)) else collarCuff

/-- Bank and sub-bank of a pocket offset (R138). -/
def pocketBank (off : Nat) : Nat := off / 2 ^ 17 % 16
def pocketSubBank (off : Nat) : Nat := off / 64 % 8

/-- First byte of the clasp region, and of clasp n (R142). -/
def claspBase : Nat := 0x1FFE80
def claspOff (n : Nat) : Nat := claspBase + 8 * n

/-- Bytes of a pocket. -/
def pocketSize : Nat := 0x200000

end Sys2Proof.Machine
end

