-- ==== Sys2Proof/Machine/Packet.lean ====
section
/-! DEFINITION. Packets of the tensor links (R301, R302), routing tables (R315 to R317), and the sending side of a port
(R303, R304, R310). -/

namespace Sys2Proof.Machine

/-- CRC-32 over header bytes 0 to 11 and the payload (R301). -/
def packetCrc (hdr : W128) (payload : List Byte) : W32 := crc32 (leBytes 12 hdr.toNat ++ payload)

/-- A packet with its CRC field filled in. -/
def sealPacket (hdr : W128) (payload : List Byte) : Packet :=
  { hdr := setFld hdr 96 32 (packetCrc hdr payload).toNat, payload := payload }

end Sys2Proof.Machine

namespace Sys2Proof
open Sys2Proof.Machine

def Packet.crcOk (p : Packet) : Bool := fld p.hdr 96 32 = (packetCrc p.hdr p.payload).toNat
def Packet.ty (p : Packet) : Nat := fld p.hdr 0 4
def Packet.dcl (p : Packet) : Bool := bitOf p.hdr 4
def Packet.dtr (p : Packet) : Bool := bitOf p.hdr 5
def Packet.slice (p : Packet) : Nat := fld p.hdr 6 12
def Packet.dst (p : Packet) : Nat := fld p.hdr 18 15
def Packet.src (p : Packet) : Nat := fld p.hdr 33 15
def Packet.tile (p : Packet) : Nat := fld p.hdr 56 9
def Packet.offset (p : Packet) : Nat := fld p.hdr 65 21
def Packet.req (p : Packet) : Nat := fld p.hdr 86 10
def Packet.tag (p : Packet) : Nat := fld p.hdr 56 23
def Packet.status (p : Packet) : Nat := fld p.hdr 79 3
/-- A packet of the reply network (R301: TYPE bit 3). -/
def Packet.isReply (p : Packet) : Bool := bitOf p.hdr 3
/-- Class buffer: request 0, request 1, reply 0, reply 1 (R310). -/
def Packet.cls (p : Packet) : Fin 4 := fin (2 * p.isReply.toNat + p.dcl.toNat)

/-- Types 0x6, 0x7, 0xE, 0xF are reserved (Table 13.3). -/
def Packet.reserved (p : Packet) : Bool := p.ty = 6 || p.ty = 7 || p.ty = 14 || p.ty = 15

/-- Payload bytes a type may carry (Table 13.3): WRITE and COLL_DATA 1 to 256 as LEN says; READ 8; ATOMIC and WATCH 24;
READ_RSP as LEN says, none unless STATUS is OK; WRITE_ACK none; ATOMIC_RSP 8 or none; NOTIFY and TIME 16. -/
def Packet.lengthOk (p : Packet) : Bool :=
  let n := p.payload.length
  match p.ty with
  | 0 => n = fld p.hdr 48 8 + 1 | 1 => n = fld p.hdr 48 8 + 1 | 2 => n = 8 | 3 => n = 24 | 4 => n = 24 | 5 => 1 ≤ n
  | 8 => (if p.status = 0 then n = fld p.hdr 48 8 + 1 else n = 0) | 9 => n = 0 | 10 => n = 8 || n = 0 | 11 => n = 16 | 12 => 1 ≤ n | 13 => n = 16
  | _ => false

/-- Fields of the payload that Table 13.3 limits: RLEN of a READ is 1 to 256, OP of an ATOMIC a code of Table 4.12 or 0x3F. -/
def Packet.fieldsOk (p : Packet) : Bool :=
  let w := leNat p.payload
  match p.ty with
  | 2 => 1 ≤ w / 2 ^ 23 % 512 && w / 2 ^ 23 % 512 ≤ 256
  | 3 => w / 2 ^ 24 % 64 ∈ [1, 2, 3, 4, 5, 6, 8, 9, 10, 0x3F]
  | _ => true

/-- Whether the fields break Table 13.3 (R302). -/
def Packet.broken (p : Packet) : Bool := p.reserved || !p.lengthOk || !p.fieldsOk || (p.isReply && p.status ≥ 4 && p.ty ≠ 12 && p.ty ≠ 13)

end Sys2Proof

namespace Sys2Proof.Machine

/-- A header: type, slice, destination, sender, payload length and the 40 bits [95:56]. -/
def header (ty slice dst src len mid : Nat) : W128 :=
  BitVec.ofNat 128 (ty + slice <<< 6 + dst <<< 18 + src <<< 33 + ((len - 1) % 256) <<< 48 + (mid % 2 ^ 40) <<< 56)

/-- The 40 bits of a request: target tile, pocket offset, requester number. -/
def midReq (tile off req : Nat) : Nat := tile + off <<< 9 + req <<< 30
/-- The 40 bits of a reply: TAG and STATUS. -/
def midRsp (tag status : Nat) : Nat := tag + status <<< 23

/-- The slice table of a partition's slice: the first active one that names it (R315). -/
def Device.sliceOf (d : Device) (p : PartNo) : Option SliceTab :=
  (List.finRange 16).find? (fun k => d.tables[k].active && d.tables[k].part = p)

/-- The table that a slice ID names. -/
def Device.tableOf (d : Device) (id : Nat) : Option SliceTab :=
  (List.finRange 16).find? (fun k => d.tables[k].active && d.tables[k].id.toNat = id)

/-- An entry of a slice table; an entry not listed holds 0x00FF (Table 13.7). -/
def SliceTable.entry (t : SliceTable) (chip : Nat) : W16 := (alGet t.entries chip).getD 0x00FF

/-- The lanes configured for a port (R305). -/
def Device.portLanes (d : Device) (p : PortNo) : List LaneNo :=
  (List.finRange 64).filter (fun n => (d.cfg 0x3100 1 p / 2 ^ n.val) % 2 = 1)

/-- The cuff of a port: that of its lanes; ports without lanes count as cuff 0 or 1 by number. -/
def Device.portCuff (d : Device) (p : PortNo) : Fin 2 :=
  match d.portLanes p with
  | n :: _ => laneCuff n
  | [] => fin (p.val / 4)

/-- The dimension of a port (R305). -/
def Device.portDim (d : Device) (p : PortNo) : Nat := d.cfg 0x3100 2 p

/-- The partition that holds a port's lanes (R305). -/
def Device.portPart (d : Device) (p : PortNo) : Option PartNo :=
  match d.portLanes p with
  | n :: _ => d.lanes[n].bound
  | [] => none

/-- Whether a router uses a port now: up, narrow, or holding, where packets wait (R317). -/
def Port.usable (p : Port) : Bool := p.st = 2 || p.st = 3 || p.st = 4

/-- ROUTE_DROP counts of a cuff (Table 13.9): 0 SLICE_MISMATCH, 1 NO_ROUTE, 2 STALL, 3 PORT_LOST. -/
def Device.drop (d : Device) (cuff : Fin 2) (kind n : Nat) : Device :=
  { d with drops := d.drops.set cuff (satFld d.drops[cuff] (16 * kind) 16 n), dropTotal := d.dropTotal + BitVec.ofNat 64 n }

/-- Packets that may leave now go to the wire and the replay buffer: oldest first within each class, while at most 256 are
unacknowledged, the port is up or narrow, and the class is on (R304, R310). -/
def Port.flushN : Nat → Port → Port
  | 0, p => p
  | n + 1, p =>
    if (p.st = 2 || p.st = 3) && decide (p.replay.length < 256) then
      match firstIdx (fun (k : Packet) => !bitOf p.off k.cls) p.out with
      | some i =>
        match p.out[i]? with
        | some k => Port.flushN n { p with out := p.out.eraseIdx i, replay := p.replay ++ [k] }
        | none => p
      | none => p
    else p

def Port.flush (p : Port) : Port := p.flushN p.out.length

/-- Put a packet on a port's output: class 1 through a port marked dateline (R313), payload counted (Table 19.3), header traced
(R453). -/
def Device.sendOn (d : Device) (p : PortNo) (hdr : W128) (payload : List Byte) (cls : Bool) : Device :=
  let pkt := sealPacket (setBit hdr 4 (cls || d.cfg 0x3100 3 p = 1)) payload
  let d := d.modPort p (fun q => ({ q with out := q.out ++ [pkt] } : Port).flush)
  (d.count (d.portPart p) 0x030 p payload.length).traceRec 3 p (d.portPart p) (BitVec.ofNat 16 pkt.ty) pkt.hdr

/-- The port of an entry: PORT while usable, else DETOUR with DTR (R317). -/
def Device.routePort (d : Device) (e : W16) : Option (PortNo × Bool) :=
  let pn := fld e 0 4
  let dn := fld e 4 4
  if pn < 8 ∧ d.ports[(fin pn : PortNo)].usable then some (fin pn, false)
  else if pn < 8 ∧ dn < 8 ∧ d.ports[(fin dn : PortNo)].usable then some (fin dn, true)
  else none

/-- A packet injected by an engine of a partition on a cuff's side: SLICE stamped by the cuff (R316), class 0 (R313), routed by the slice's
table (R317); where no port serves, dropped as NO_ROUTE by that cuff's router (R319, log 23). -/
def Device.inject (d : Device) (p : PartNo) (cuff : Fin 2) (ty dst mid : Nat) (payload : List Byte) : Device :=
  match d.sliceOf p with
  | none => d.drop cuff 1 1
  | some k =>
    let t := d.tables[k]
    let hdr := header ty t.id.toNat dst d.chipId.toNat payload.length mid
    match d.routePort (t.entry dst) with
    | some (port, dtr) => d.sendOn port (setBit hdr 5 dtr) payload false
    | none => d.drop cuff 1 1

/-- Whether the reply queue of the port towards a chip has room for one more reply header (R312). -/
def Device.replyRoom (d : Device) (p : PartNo) (dst : Nat) : Bool :=
  match (d.sliceOf p).bind (fun k => d.routePort ((d.tables[k]).entry dst)) with
  | some (port, _) => decide (((d.ports[port]).out.filter Packet.isReply).length ≤ Config.replyQueue)
  | none => true

/-- Whether a TAG names a request still outstanding, or a registration that may still notify (R302). -/
def Device.tagUsed (d : Device) (g : Nat) : Bool := d.tags.any (fun q => q.1 = g) || d.farWatches.any (fun w => w.tag = g)

/-- The first TAG from `g` on that is not in use, within so many. -/
def Device.tagFrom : Nat → Device → Nat → Nat
  | 0, _, g => g
  | n + 1, d, g => if d.tagUsed g then Device.tagFrom n d ((g + 1) % 2 ^ 23) else g

/-- A request that awaits a reply: a fresh TAG not in use (R302). -/
def Device.newTag (d : Device) (r : Requester) : Nat × Device :=
  let g := d.tagFrom (d.tags.length + d.farWatches.length) d.nextTag
  (g, { d with tags := d.tags ++ [(g, r)], nextTag := (g + 1) % 2 ^ 23 })

/-- Requester numbers of R215. -/
def reqNo : MoverId → Nat
  | .tile t => t.val
  | .bulk n => 512 + n.val
  | .hl n => 528 + n.val

end Sys2Proof.Machine
end

