-- ==== Sys2Proof/Machine/Access.lean ====
section
/-! DEFINITION. Reads and writes of pockets, stacked memory, table memory and host memory with their protection (R140 to
R145, R285 to R289, R293, R243, R420), windows (R164 to R168), tile faults (R114, R115) and tokens (R94 to R98). -/

namespace Sys2Proof.Machine

/-- How an access ends. `repair`: the line is poisoned and peer repair is tried (R289); `down`: nobody answers. -/
inductive ASt where
  | ok | denied | poison | unbound | ue | clasp | repair | down
deriving DecidableEq, Repr, Inhabited

/-- Answer of an access: status, data, and the address that failed. -/
structure Got where
  st : ASt
  bytes : List Byte
  at_ : Nat
deriving DecidableEq, Repr, Inhabited

/-- Units of TILE_FAULT_INFO and POCKET_ERR (Tables 4.16, 6.1). -/
def unitOf (e : Eng) : Nat := e.idx.val + 1

/-- A context is to be torn down: the first cause is kept (R361). -/
def Device.askTeardown (d : Device) (c : CtxNo) (cause : Cause) : Device :=
  let x := d.ctxs[c]
  if x.st = .free || x.st = .bound || x.st = .tearing then d
  else d.modCtx c (fun x => { x with st := .tearing, teardownCause := some cause, waitSince := d.devTime })

/-- TILE_FAULT_INFO of a first fault (Table 4.16). -/
def faultWord (code unit pcq ctx detail : Nat) : W64 :=
  BitVec.ofNat 64 (code + unit <<< 8 + 1 <<< 11 + (pcq % 2 ^ 17) <<< 12 + ctx <<< 29 + (detail % 2 ^ 24) <<< 40)

/-- The array without its open output tile and loaded chunk (R62): RB_NEXT and TILE_ACC_CUR stay as they are. -/
def MM.discard (m : MM) : MM :=
  { m with issueOpen := false, issueLoaded := false, tile := none, opening := none, rbLoaded := false }

/-- A tile fault (R115): the first is recorded, a later one counts in MORE; dispatch and engines stop, an open output
tile is discarded (R62), and the context's teardown is asked for. A record left by an earlier context stays until it is cleared. -/
def Device.faultTile (d : Device) (t : TileNo) (code unit pcq detail : Nat) : Device :=
  let x := d.tiles[t]
  match x.ctx with
  | none => d
  | some c =>
    let w := if bitOf x.faultInfo 11 then satFld x.faultInfo 37 3 1 else faultWord code unit pcq c.val detail
    if x.mode = .faulted then d.modTile t (fun x => { x with faultInfo := w })
    else (d.modTile t (fun x => { x with faultInfo := w, mode := .faulted, mm := x.mm.discard })).askTeardown c (.tileFault (BitVec.ofNat 8 code))

/-- Fault codes (Table 4.15). -/
def fcIllegalInstr : Nat := 0x01
def fcIllegalFormat : Nat := 0x02
def fcShape : Nat := 0x03
def fcMmSequence : Nat := 0x04
def fcMmShape : Nat := 0x05
def fcFetchRange : Nat := 0x06
def fcClaspRegion : Nat := 0x07
def fcTokenOvf : Nat := 0x08
def fcFswRange : Nat := 0x09
def fcAddrUnbound : Nat := 0x0A
def fcPoisonRead : Nat := 0x0B
def fcPocketUe : Nat := 0x0C
def fcReqTimeout : Nat := 0x0D
def fcStepWatchdog : Nat := 0x0E

/-- Add to a token counter; above 255 the tile faults with TOKEN_OVF (R98). -/
def Device.addTok (d : Device) (t : TileNo) (k : Fin 8) (n unit pcq : Nat) : Device :=
  if (d.tiles[t]).tok[k].toNat + n > 255 then d.faultTile t fcTokenOvf unit pcq k
  else d.modTile t (fun x => { x with tok := x.tok.set k (BitVec.ofNat 8 (x.tok[k].toNat + n)) })

/-! ### Pockets -/

/-- The aligned 8-byte words a range touches. -/
def wordsOf (off n : Nat) : List Nat := (List.range ((off + n + 7) / 8 - off / 8)).map (· + off / 8)

/-- An uncorrectable word found (R144): recorded while UE is 0, UE_MORE afterwards. -/
def pocketErrUe (e : W64) (by_ off : Nat) : W64 :=
  if bitOf e 16 then setBit e 17 true
  else setFld (setFld (setBit e 16 true) 18 3 by_) 24 21 off

/-- The uncorrectable words of a list of words. -/
def Tile.ueWords (x : Tile) (ws : List Nat) : List Nat := ws.filter (fun w => (w, true) ∈ x.pocketBad)

/-- Words read with corrected data are counted (R143): in POCKET_ERR, on the tile, on the device. -/
def Device.pocketCe (d : Device) (t : TileNo) (ce : Nat) : Device :=
  { d.modTile t (fun x => { x with pocketErr := satFld x.pocketErr 0 16 ce, cntCorrected := x.cntCorrected + BitVec.ofNat 64 ce }) with
    cntCorrected := d.cntCorrected + BitVec.ofNat 64 ce }

/-- An uncorrectable word and those after it recorded (R144). -/
def Device.pocketUes (d : Device) (t : TileNo) (ws : List Nat) (by_ : Nat) : Device :=
  match ws with
  | [] => d
  | w :: more =>
    d.modTile t (fun x =>
      { x with pocketErr := if more = [] then pocketErrUe x.pocketErr by_ (8 * w) else setBit (pocketErrUe x.pocketErr by_ (8 * w)) 17 true })

/-- Every word of a pocket is read (R143, R144, R353). -/
def Device.pocketSweep (d : Device) (t : TileNo) : Device :=
  let bad := (d.tiles[t]).pocketBad
  if bad = [] then d
  else
    let ue := (bad.filter (·.2)).map (·.1)
    let first := ue.foldl min (ue.headD 0)
    (d.pocketUes t (if ue = [] then [] else first :: ue.filter (· ≠ first)) 7).pocketCe t (bad.filter (fun b => !b.2)).length

/-- Read pocket bytes on behalf of a unit (R143, R144): corrected errors are counted, an uncorrectable word is recorded. -/
def Device.pocketRead (d : Device) (t : TileNo) (off n by_ : Nat) : Got × Device :=
  let x := d.tiles[t]
  let bytes := x.pocket.read off n
  if x.pocketBad = [] then ({ st := .ok, bytes := bytes, at_ := 0 }, d)
  else
    let ws := wordsOf off n
    let ce := (ws.filter (fun w => (w, false) ∈ x.pocketBad)).length
    match x.ueWords ws with
    | w :: more => ({ st := .ue, bytes := [], at_ := 8 * w }, d.pocketUes t (w :: more) by_)
    | [] => ({ st := .ok, bytes := bytes, at_ := 0 }, d.pocketCe t ce)

/-- Whether a word lies whole in a range. -/
def covers (off n w : Nat) : Bool := off ≤ 8 * w && 8 * w + 8 ≤ off + n

/-- Write pocket bytes (R140, R143, R144): a write of all of a word's bytes recomputes its check bits; a narrower write to
an ECC-poisoned word is dropped. Answers the first word dropped. -/
def Device.pocketWrite (d : Device) (t : TileNo) (off : Nat) (bs : List Byte) (by_ : Nat) : Option Nat × Device :=
  let x := d.tiles[t]
  let n := bs.length
  if x.pocketBad = [] then (none, d.modTile t (fun x => { x with pocket := x.pocket.write off bs }))
  else
    let ws := wordsOf off n
    let dropped := (x.ueWords ws).filter (fun w => !covers off n w)
    let keep := (List.range n).filter (fun i => (off + i) / 8 ∉ dropped)
    let mem := keep.foldl (fun m i => m.put (off + i) (bs.getD i 0)) x.pocket
    let bad := x.pocketBad.filter (fun b => b.1 ∉ ws || b.1 ∈ dropped)
    (dropped.head?.map (8 * ·),
     (d.modTile t (fun x => { x with pocket := mem, pocketBad := bad })).pocketUes t dropped by_)

/-- The owning context of a tile faults with POCKET_UE after an access from outside (R144, UNIT 7; PCQ is the
controller's PC, R114). -/
def Device.outsideUe (d : Device) (t : TileNo) (off : Nat) : Device :=
  d.faultTile t fcPocketUe 7 ((d.tiles[t]).pc / 16) (off / 2 ^ 24)

/-- A read of a pocket through the mesh, a window or BAR4: an uncorrectable word answers POISON and faults the owner
(R144). The clasp region is not read this way (R142). -/
def Device.meshRead (d : Device) (t : TileNo) (off n : Nat) : Got × Device :=
  if off + n > claspBase then ({ st := .clasp, bytes := [], at_ := off }, d)
  else
    let r := d.pocketRead t off n 7
    if r.1.st = .ue then ({ st := .poison, bytes := [], at_ := r.1.at_ }, r.2.outsideUe t r.1.at_) else r

/-- A write of a pocket through the mesh: a dropped word answers POISON and faults the owner (R144). -/
def Device.meshWrite (d : Device) (t : TileNo) (off : Nat) (bs : List Byte) : ASt × Device :=
  if off + bs.length > claspBase then (.clasp, d)
  else
    let r := d.pocketWrite t off bs 7
    match r.1 with
    | some w => (.poison, r.2.outsideUe t w)
    | none => (.ok, r.2)

/-- A clasp word. -/
def Device.claspWord (d : Device) (t : TileNo) (n : Nat) : W64 := BitVec.ofNat 64 ((d.tiles[t]).pocket.word (claspOff n) 8)

/-- Whether a tile is bound to a partition. -/
def Device.owns (d : Device) (p : PartNo) (t : Nat) : Bool :=
  if h : t < 512 then d.tiles[t].bound = some p else false

/-! ### Stacked memory -/

/-- Pages of a stack and of the device (R283). -/
def pagesPerStack : Nat := 30517
def installedPages : Nat := 12 * pagesPerStack
def pageStack (page : Nat) : StackNo := fin (page / pagesPerStack)
def pageIdx (page : Nat) : Nat := page % pagesPerStack
def pageSize : Nat := 0x200000

/-- Stacks that work (R297). -/
def Device.goodStacks (d : Device) : List StackNo := (List.finRange 12).filter (fun k => (d.hbmStacks[k]).st ≠ 2)

/-- Reserved pages of a stack besides spares: 7,628 in all, spread over the working stacks, the first indices of each (Table
12.2, R297; placement log 12). -/
def Device.reservedPages (d : Device) (k : StackNo) : Nat :=
  let n := d.goodStacks.length
  match firstIdx (fun j => j = k) d.goodStacks with
  | some i => 7628 / n + (if i < 7628 % n then 1 else 0)
  | none => 0

/-- The channel of a stack that a byte of a page lies in: successive 256-byte units go to channels 0 to 31 in turn (R283). -/
def pageChannel (off : Nat) : Fin 32 := fin (off / 256 % 32)

/-- The memory stop that serves a byte of a physical page (R283). -/
def stopOfByte (page off : Nat) : PanelNo × Fin 8 := memStopOf (pageStack page) (pageChannel off)

/-- Reserved regions (Table 12.2). -/
inductive Region where
  | crashDump | trace | firmware | store
deriving DecidableEq, Repr

/-- The region of a reserved page of the placement at bring-up: the regions stand one after the other in the reserved pages in page
order; pages that replace retired ones count to the working store (the collar chooses; log 12). -/
def Device.regionOf (d : Device) (page : Nat) : Region :=
  if page ∈ d.extraReserved then .store
  else
    let before := ((d.goodStacks.filter (fun k => k.val < (pageStack page).val)).map d.reservedPages).foldl (· + ·) 0
    let n := before + pageIdx page
    if n < 2560 then .crashDump else if n < 2560 + 512 then .trace else if n < 2560 + 512 + 256 then .firmware else .store

/-- Uses of a page after bring-up (Table 12.2). -/
inductive PageKind where
  | reserved | allocatable | spare
deriving DecidableEq, Repr

def Device.pageKind (d : Device) (page : Nat) : PageKind :=
  if page ∈ d.extraReserved then .reserved
  else if page ∈ d.extraSpare then .spare
  else if pageIdx page < d.reservedPages (pageStack page) then .reserved
  else if pageIdx page ≥ pagesPerStack - 318 then .spare else .allocatable

/-- Line number of a byte of a page (64-byte lines). -/
def lineNo (page off : Nat) : Nat := page * 32768 + off / 64

/-- The page that holds a line now: behind the copy pointer the new one (R293). -/
def Device.copyOf (d : Device) (page off : Nat) : Nat :=
  match d.remaps.find? (fun r => r.old = page) with
  | some r => if off / 64 < r.ptr then r.new else page
  | none => page

/-- Translation of a partition address of SPACE 2 (R285): physical page and offset. -/
def Device.transHbm (d : Device) (p : PartNo) (addr : Nat) : Option (Nat × Nat) :=
  if addr ≥ 2 ^ 40 then none
  else
    match d.pages.find? (fun b => b.part = p && b.pno = addr / pageSize) with
    | some b => some (d.copyOf b.phys (addr % pageSize), addr % pageSize)
    | none => none

/-- Pages placed at bring-up in place of retired ones of the reserved regions and of the spares, so that retired pages are
taken from the allocatable count first (R295); the highest allocatable pages of the stack serve. -/
def Device.placeExtras (d : Device) : Device :=
  let d := { d with extraReserved := [], extraSpare := [] }
  d.goodStacks.foldl (fun (e : Device) k =>
    let gone := e.retiredPages.filter (fun g => pageStack g = k)
    let nr := (gone.filter (fun g => d.pageKind g = .reserved)).length
    let ns := (gone.filter (fun g => d.pageKind g = .spare)).length
    let top := ((List.range (gone.length + nr + ns)).map (fun i => k.val * pagesPerStack + pagesPerStack - 319 - i)).filter
      (fun g => g ∉ gone)
    { e with extraReserved := e.extraReserved ++ top.take nr, extraSpare := e.extraSpare ++ (top.drop nr).take ns }) d

/-- Spare pages that may still take a page of a stack (R293). -/
def Device.spareFree (d : Device) (k : StackNo) : List Nat :=
  if (d.hbmStacks[k]).st = 2 then []
  else ((List.range 318).map (fun i => k.val * pagesPerStack + pagesPerStack - 318 + i) ++
      d.extraSpare.filter (fun g => pageStack g = k)).filter
    (fun g => g ∉ d.usedSpares && g ∉ d.retiredPages && d.remaps.all (fun r => r.old ≠ g))

/-- The spare a remap takes: of the same stack where one is free, of any stack otherwise (R293); never the page itself. -/
def Device.findSpare (d : Device) (page : Nat) : Option Nat :=
  match (d.spareFree (pageStack page)).filter (· ≠ page) with
  | g :: _ => some g
  | [] => (((List.finRange 12).flatMap (fun k => d.spareFree k)).filter (· ≠ page)).head?

/-- The highest free allocatable page of a stack below an index. -/
def Device.freeBelow (d : Device) (k : StackNo) : Nat → Option Nat
  | 0 => none
  | n + 1 =>
    let g := k.val * pagesPerStack + n
    if d.pageKind g = .allocatable && g ∉ d.retiredPages && d.pages.all (fun b => b.phys ≠ g) &&
        d.remaps.all (fun r => r.old ≠ g && r.new ≠ g) then some g
    else Device.freeBelow d k n

/-- A page is retired (R292 to R295): the retired pages come off the allocatable ones, so a spare or reserved page is replaced by a free
allocatable one of its stack. -/
def Device.retirePage (d : Device) (page : Nat) : Device :=
  if page ∈ d.retiredPages then d
  else
    let e := { d with retiredPages := d.retiredPages ++ [page] }
    match d.pageKind page, e.freeBelow (pageStack page) (pagesPerStack - 318) with
    | .reserved, some g => { e with extraReserved := e.extraReserved ++ [g] }
    | .spare, some g => { e with extraSpare := e.extraSpare ++ [g] }
    | _, _ => e

/-- Start copying a page to a spare (R293); with none free the alarm is raised and the page is retired at its next
unbinding (R294). -/
def Device.startRemap (d : Device) (page : Nat) : Device :=
  if d.remaps.any (fun r => r.old = page) || page ∈ d.dueRetire then d
  else
    match d.findSpare page with
    | some g =>
      { d with
        remaps := d.remaps ++ [{ old := page, new := g, ptr := 0, again := false }], usedSpares := d.usedSpares ++ [g] }
    | none =>
      let d := d.modStack (pageStack page) (fun k => { k with err := setBit k.err 18 true })
      { d with dueRetire := d.dueRetire ++ [page] }.report 0x0102 none none (pageStack page) (BitVec.ofNat 128 page)

/-- A corrected line (R286, R290): counted on the stack, on the page and in the totals, and due to be written back; at the page's limit
within the scrub interval its stack runs with, the page is remapped. -/
def Device.countCe (d : Device) (page line : Nat) : Device :=
  let d := { d with hbmBad := alSet d.hbmBad (page * 32768 + line) (.correctable true) }
  let keep := d.pageCe.filter (fun e => d.since e.2 < (d.hbmStacks[pageStack e.1]).interval * 3600000000000) ++ [(page, d.devTime)]
  let n := (keep.filter (fun e => e.1 = page)).length
  let d := d.modStack (pageStack page) (fun k => { k with err := satFld k.err 0 16 1, cntCorrected := k.cntCorrected + 1 })
  let d := { d with pageCe := keep, cntCorrected := d.cntCorrected + 1 }
  let lim := d.cfg 0x4000 5 0
  if lim ≠ 0 ∧ n ≥ lim then d.startRemap page else d

/-- An uncorrectable line is written back with POISON and recorded on its stack (R287). `scrub` tells who found it. -/
def Device.poisonLine (d : Device) (page line : Nat) (scrub : Bool) : Device :=
  let d := { d with hbmBad := alSet d.hbmBad (page * 32768 + line) .poison }
  d.modStack (pageStack page) (fun k =>
    let e := if bitOf k.err 16 || bitOf k.err 17 then k.err else setFld k.err 24 15 (pageIdx page)
    { k with err := setBit e (if scrub then 17 else 16) true, ueCount := k.ueCount + 1 })

/-- The state of a line after an access met it (R286, R287): ok or POISON. -/
def Device.meetLine (d : Device) (page line : Nat) : Bool × Device :=
  match alGet d.hbmBad (page * 32768 + line) with
  | none => (true, d)
  | some (.correctable _) => (true, d.countCe page line)
  | some .uncorrectable => (false, d.poisonLine page line false)
  | some .poison => (false, d)

/-- Pieces of a range that stay inside one 64-byte line: address and length. -/
def linePieces (addr n : Nat) : List (Nat × Nat) :=
  if n = 0 then []
  else (List.range ((addr + n + 63) / 64 - addr / 64)).map (fun i =>
    let lo := max addr (64 * (addr / 64 + i))
    let hi := min (addr + n) (64 * (addr / 64 + i + 1))
    (lo, hi - lo))

/-- The repair range of a partition that holds an address, if one is registered (R289, R381). -/
def Device.repairRange (d : Device) (p : PartNo) (addr : Nat) : Option (Fin 16) :=
  (List.finRange 16).find? (fun k =>
    let r := (d.parts[p]).repairs[k]
    r.on && r.base ≤ addr && addr < r.base + r.length)

/-- The first line of a range that a narrower write than the line meets poisoned. -/
def Device.poisonAt (d : Device) (p : PartNo) (addr n : Nat) : Nat :=
  ((linePieces addr n).find? (fun q => q.2 ≠ 64 && (match d.transHbm p q.1 with
    | some (page, off) => alGet d.hbmBad (page * 32768 + off / 64) = some .poison
    | none => false))).elim addr (·.1)

/-- Read stacked memory at a partition address (R285 to R287, R289). `repair`: whether peer repair may be tried. -/
def Device.hbmRead (d : Device) (p : PartNo) (addr n : Nat) (repair : Bool) : Got × Device :=
  (linePieces addr n).foldl (fun (acc : Got × Device) (q : Nat × Nat) =>
    if acc.1.st ≠ .ok then acc
    else
      match acc.2.transHbm p q.1 with
      | none => ({ st := .unbound, bytes := [], at_ := q.1 }, acc.2)
      | some (page, off) =>
        let m := acc.2.meetLine page (off / 64)
        if m.1 then
          ({ acc.1 with bytes := acc.1.bytes ++ m.2.hbm.read (page * pageSize + off) q.2 }, m.2)
        else if repair && (m.2.repairRange p q.1).isSome then ({ st := .repair, bytes := [], at_ := q.1 }, m.2)
        else ({ st := .poison, bytes := [], at_ := q.1 }, m.2))
    ({ st := .ok, bytes := [], at_ := 0 }, d.count (some p) 0x040 (pageStack ((d.transHbm p addr).elim 0 (·.1))) n)

/-- Write stacked memory at a partition address (R285, R288): a whole line clears POISON; a narrower write to a poisoned
line is dropped and answered as a poisoned read. -/
def Device.hbmWrite (d : Device) (p : PartNo) (addr : Nat) (bs : List Byte) (repair : Bool) : Got × Device :=
  (linePieces addr bs.length).foldl (fun (acc : Got × Device) (q : Nat × Nat) =>
    if acc.1.st ≠ .ok then acc
    else
      match acc.2.transHbm p q.1 with
      | none => ({ st := .unbound, bytes := [], at_ := q.1 }, acc.2)
      | some (page, off) =>
        let part := (bs.drop (q.1 - addr)).take q.2
        let put (e : Device) : Device :=
          { e with hbm := e.hbm.write (page * pageSize + off) part, hbmBad := alErase e.hbmBad (lineNo page off) }
        if q.2 = 64 then (acc.1, put acc.2)
        else
          let m := acc.2.meetLine page (off / 64)
          if m.1 then (acc.1, put m.2)
          else if repair && (m.2.repairRange p q.1).isSome then ({ st := .repair, bytes := [], at_ := q.1 }, m.2)
          else ({ st := .poison, bytes := [], at_ := q.1 }, m.2))
    ({ st := .ok, bytes := [], at_ := 0 },
     d.count (some p) 0x041 (pageStack ((d.transHbm p addr).elim 0 (·.1))) bs.length)

/-! ### Table memory -/

/-- Translation of a partition address of SPACE 3 per 1 GiB granule (R243): granule number port x 1,024 + g, offset. -/
def Device.transTmem (d : Device) (p : PartNo) (addr : Nat) : Option (Nat × Nat) :=
  match d.granules.find? (fun b => b.part = p && b.pno = addr / 2 ^ 30) with
  | some b => some (b.phys, addr % 2 ^ 30)
  | none => none

def granPort (g : Nat) : TmemNo := fin (g / 1024)

/-- Lines of table memory a range touches. -/
def linesOf (a n : Nat) : List Nat := (List.range ((a + n + 63) / 64 - a / 64)).map (· + a / 64)

/-- Read table memory (R243): nobody answers while the port is not up; a poisoned line answers POISON and is counted. -/
def Device.tmemRead (d : Device) (p : PartNo) (addr n : Nat) : Got × Device :=
  match d.transTmem p addr with
  | none => ({ st := .unbound, bytes := [], at_ := addr }, d)
  | some (g, off) =>
    if off + n > 2 ^ 30 ∧ d.transTmem p (addr + n - 1) = none then ({ st := .unbound, bytes := [], at_ := addr }, d)
    else if (d.tmem[granPort g]).st ≠ 2 then ({ st := .down, bytes := [], at_ := addr }, d)
    else
      let byteAt (i : Nat) : Byte := match d.transTmem p (addr + i) with
        | some (h, o) => d.tmemBytes.get (h * 2 ^ 30 + o)
        | none => 0
      if (linesOf (g * 2 ^ 30 + off) n).any (fun l => l ∈ d.tmemPoison) then
        ({ st := .poison, bytes := [], at_ := addr }, d.modTmem (granPort g) (fun k => { k with poison := k.poison + 1 }))
      else ({ st := .ok, bytes := (List.range n).map byteAt, at_ := 0 }, d)

/-- Write table memory (R243). A write of whole lines clears their poison. -/
def Device.tmemWrite (d : Device) (p : PartNo) (addr : Nat) (bs : List Byte) : Got × Device :=
  match d.transTmem p addr with
  | none => ({ st := .unbound, bytes := [], at_ := addr }, d)
  | some (g, off) =>
    if off + bs.length > 2 ^ 30 ∧ d.transTmem p (addr + bs.length - 1) = none then
      ({ st := .unbound, bytes := [], at_ := addr }, d)
    else if (d.tmem[granPort g]).st ≠ 2 then ({ st := .down, bytes := [], at_ := addr }, d)
    else
      let put (m : Memory) (i : Nat × Byte) : Memory := match d.transTmem p (addr + i.1) with
        | some (h, o) => m.put (h * 2 ^ 30 + o) i.2
        | none => m
      let a := g * 2 ^ 30 + off
      ({ st := .ok, bytes := [], at_ := 0 },
       { d with tmemBytes := (bs.zipIdx.map (fun p => (p.2, p.1))).foldl put d.tmemBytes,
                tmemPoison := d.tmemPoison.filter (fun l => !(a ≤ 64 * l && 64 * l + 64 ≤ a + bs.length)) })

/-! ### Host memory -/

/-- Read host memory of a partition's VF: bus mastering must be enabled (R420). -/
def Device.hostRead (d : Device) (p : PartNo) (addr n : Nat) : Got :=
  if (d.parts[p]).busMaster then { st := .ok, bytes := d.hostMem.read addr n, at_ := 0 }
  else { st := .unbound, bytes := [], at_ := addr }

def Device.hostWrite (d : Device) (p : PartNo) (addr : Nat) (bs : List Byte) : Got × Device :=
  if (d.parts[p]).busMaster then
    ({ st := .ok, bytes := [], at_ := 0 }, { d with hostMem := d.hostMem.write addr bs })
  else ({ st := .unbound, bytes := [], at_ := addr }, d)

/-! ### Windows -/

/-- Rights of an access (R166): RD bit 0, WR bit 1, CL bit 2. -/
def rightRd : Nat := 0
def rightWr : Nat := 1
def rightCl : Nat := 2

/-- Whether one open window grants all of an access (R166): target tile, every byte, slice, sender, right. -/
def Window.admits (w : Window) (tile off n slice chip right : Nat) : Bool :=
  w.st = 1 && w.tile = tile && decide (w.base ≤ off) && decide (off + n ≤ w.base + w.size) && w.slice = slice &&
    decide (w.chipLo ≤ chip) && decide (chip ≤ w.chipHi) && bitOf w.rights right

/-- Whether the windows of the partition that owns a tile let an access in (R166; two windows never combine). -/
def Device.admitted (d : Device) (t : TileNo) (off n slice chip right : Nat) : Bool :=
  match (d.tiles[t]).bound with
  | some p => (d.parts[p]).windows.toList.any (fun w => w.admits t off n slice chip right)
  | none => false

/-- An access that no window admits (R167): counted for the owning partition and logged. `kind` is the right asked for. -/
def Device.violation (d : Device) (t : TileNo) (off n slice chip kind : Nat) : Device :=
  match (d.tiles[t]).bound with
  | some p =>
    (d.modPart p (fun q => { q with violations := q.violations + 1 })).report 0x0202 (some p) none t
      (BitVec.ofNat 128 (chip + slice <<< 15 + t.val <<< 27 + off <<< 36 + n <<< 57 + kind <<< 78))
  | none => d

end Sys2Proof.Machine
end

