-- ==== Sys2Proof/Machine/Clasp.lean ====
section
/-! DEFINITION. The clasp unit (07_clasps.md): operations, watches, notifications, locks; the journal and the fence through
which the operations of a context's engines pass (R372, R373, R376). -/

namespace Sys2Proof.Machine

/-- An operation as it reaches a clasp unit: CL OP code of Table 4.12 (0x3F ALLOC of R214; ST.CLW is SWAP with VSRC 0),
VSRC, the words at +0 and +8 (VAL in the first for VSRC 0), the context whose OWN is honoured (none through the fabric or
a window, R173), and the tile instruction it serves: its tile and PCQ (none for movers of a panel, gather engines, the collar). -/
structure ClArg where
  op : Nat
  vsrc : Bool
  w0 : W64
  w1 : W64
  own : Option CtxNo
  by_ : Option (TileNo × Nat)
deriving DecidableEq, Repr, Inhabited

def clAddOp : Nat := 1
def clSwapOp : Nat := 2
def clCasOp : Nat := 3
def clAndOp : Nat := 4
def clOrOp : Nat := 5
def clMaxOp : Nat := 6
def clWatchOp : Nat := 8
def clWaitOp : Nat := 9
def clReadOp : Nat := 10
def clAllocOp : Nat := 0x3F

/-- An operation with VSRC 0 and an operand. -/
def clArg (op v : Nat) : ClArg := { op := op, vsrc := false, w0 := BitVec.ofNat 64 v, w1 := 0, own := none, by_ := none }

/-- VALUE, OWNER and POISON of a clasp word (Table 7.1). -/
def clValue (w : W64) : Nat := fld w 0 48
def clOwner (w : W64) : Nat := fld w 48 8
def clPoison (w : W64) : Bool := bitOf w 63

/-- What an operation leaves: the word, the HELD bit, and whether it wrote the clasp. -/
structure ClOut where
  word : W64
  held : Bool
  wrote : Bool
deriving DecidableEq, Repr

/-- A full-word write (R172): VALUE and POISON from the new word; OWNER and HELD by the OWN modifier. -/
def fullWord (new : W64) (own : Option CtxNo) : ClOut :=
  let v := setFld (setFld 0#64 0 48 (fld new 0 48)) 63 1 (fld new 63 1)
  match own with
  | some c => if bitOf new 56 then ⟨setFld v 48 8 c.val, true, true⟩ else ⟨v, false, true⟩
  | none => ⟨v, false, true⟩

/-- The lowest 1 bit of a mask. -/
def lowestBit (v : Nat) : Option Nat := (List.range 48).find? (fun i => v / 2 ^ i % 2 = 1)

/-- Effect of an operation on a clasp word (Table 7.3, R214). -/
def clCompute (a : ClArg) (w : W64) (held : Bool) : ClOut :=
  let v := clValue w
  let x := fld a.w0 0 48
  let set (n : Nat) : ClOut := ⟨setFld w 0 48 n, held, true⟩
  if a.op = clAddOp then set ((v + x) % 2 ^ 48)
  else if a.op = clSwapOp then (if a.vsrc then fullWord a.w0 a.own else set x)
  else if a.op = clCasOp then
    (if fld w 63 1 = fld a.w0 63 1 ∧ fld w 0 56 = fld a.w0 0 56 then fullWord a.w1 a.own else ⟨w, held, false⟩)
  else if a.op = clAndOp then set (v &&& x)
  else if a.op = clOrOp then set (v ||| x)
  else if a.op = clMaxOp then set (max v x)
  else if a.op = clAllocOp then
    (match lowestBit v with
     | some s => if clPoison w then ⟨w, held, false⟩ else set (v - 2 ^ s)
     | none => ⟨w, held, false⟩)
  else ⟨w, held, false⟩

/-- A watch condition (Table 7.4). -/
def condHolds (cond : Nat) (value v : Nat) : Bool :=
  if cond = 0 then value = v else if cond = 1 then value ≠ v else if cond = 2 then value ≥ v else value &&& v = v

def Watch.holds (w : Watch) (word : W64) : Bool := condHolds w.cond (clValue word) w.value.toNat

/-- The 16 bytes of a NOTIFY packet (Table 13.3). -/
def notifyBytes (w : Watch) (abandoned : Bool) (word : W64) : List Byte :=
  leBytes 16 (w.tile.val + w.ctx.val <<< 9 + w.nkind.val <<< 17 + w.narg.val <<< 19 + abandoned.toNat <<< 22
    + clValue word <<< 64)

/-- Whether a context is between a residue report and its commit (R372). -/
def Device.fencedCtx (d : Device) (c : Option CtxNo) : Bool :=
  match c with
  | some c => (d.ctxs[c]).suspectUnit.isSome
  | none => false

/-- Whether gather rings and the collective ring of a context take no new backward job and no new collective: from a residue report until
the commit that succeeds (R372, Table 16.2). -/
def Device.noNewJobs (d : Device) (c : CtxNo) : Bool := (d.ctxs[c]).suspectUnit.isSome || (d.ctxs[c]).fenced

/-- Where a notification goes: over the reply network to another chip, unless the fence holds it, or to the notes of the
registering tile (of the clasp's own tile for a held one and for a watch of a mover, gather engine, sequencer or reliability
block). A packet carries the TAG of the registration. `o` is the partition the tile is bound to, or was until it left (R186). -/
def Device.notifyOf (d : Device) (o : Option PartNo) (t : TileNo) (w : Watch) (abandoned : Bool) (word : W64) : Device :=
  let note : Note :=
    { w := w, abandoned := abandoned, value := BitVec.ofNat 48 (clValue word), fromChip := d.chipId, from_ := t, by_ := none }
  let far := w.remote && w.chip ≠ d.chipId
  match far && !d.fencedCtx (d.tiles[t]).ctx, o with
  | true, some p => d.inject p (tileCuff t) 0xB w.chip.toNat (midRsp w.tag 0) (notifyBytes w abandoned word)
  | _, _ => d.modTile (if w.nkind = 3 || far then t else w.tile) (fun x => { x with notes := x.notes ++ [note] })

/-- A notification from a clasp unit of a bound tile. -/
def Device.notify (d : Device) (t : TileNo) (w : Watch) (abandoned : Bool) (word : W64) : Device :=
  d.notifyOf (d.tiles[t]).bound t w abandoned word

/-- Whether an occupied slot fires after a write of clasp n. -/
def fires (word : W64) (n : ClaspNo) (all : Bool) : Option Watch → Bool
  | some w => w.clasp = n && (all || w.holds word)
  | none => false

/-- Evaluate the slots of a clasp after it was written (R178): each watch whose condition holds fires, in slot order, and
its slot is freed. With `all`, every slot on the clasp fires with LOCK_ABANDONED (R184). -/
def Device.fireWatches (d : Device) (t : TileNo) (n : ClaspNo) (all : Bool) : Device :=
  let word := d.claspWord t n
  let ws := (d.tiles[t]).watches
  let gone := ws.toList.filterMap (fun o => if fires word n all o then o else none)
  gone.foldl (fun d w => d.notify t w all word)
    (d.modTile t (fun x => { x with watches := ws.map (fun o => if fires word n all o then none else o) }))

/-- A clasp word and its HELD bit written. -/
def Device.putClasp (d : Device) (t : TileNo) (n : ClaspNo) (o : ClOut) : Device :=
  (d.pocketWrite t (claspOff n) (leBytes 8 o.word.toNat) 6).2.modTile t
    (fun x => { x with claspLocks := setBit x.claspLocks n o.held })

/-- A clasp word that is uncorrectable faults the owning context with POCKET_UE (R144): UNIT 6 and the instruction's PC where an
instruction of the tile itself met it, UNIT 7 and the controller's PC for an access from outside the tile (R114, log 37). -/
def Device.claspUe (d : Device) (t : TileNo) (by_ : Option (TileNo × Nat)) : Device :=
  match by_ with
  | some (u, q) => if u = t then d.faultTile t fcPocketUe 6 q 0 else d.faultTile t fcPocketUe 7 ((d.tiles[t]).pc / 16) 0
  | none => d.faultTile t fcPocketUe 7 ((d.tiles[t]).pc / 16) 0

/-- One operation at a clasp unit (R171, R172, R178): the previous word. An uncorrectable clasp word is neither read nor written: the
answer is none, status POISON for a requester elsewhere (R144). -/
def Device.claspApply (d : Device) (t : TileNo) (n : ClaspNo) (a : ClArg) : Option W64 × Device :=
  let r := d.pocketRead t (claspOff n) 8 6
  if r.1.st = .ue then (none, r.2.claspUe t a.by_)
  else
    let prev := BitVec.ofNat 64 (leNat r.1.bytes)
    let o := clCompute a prev (bitOf (d.tiles[t]).claspLocks n)
    if o.wrote then (some prev, (r.2.putClasp t n o).fireWatches t n false) else (some prev, r.2)

/-- What becomes of a registration at a clasp unit: accepted, waiting for a slot, or its clasp word is uncorrectable. -/
inductive RegRes where
  | accepted
  | queued
  | poison
deriving DecidableEq, Repr

/-- The lowest free watch slot of a clasp unit. -/
def Tile.freeSlot (x : Tile) : Option Nat := x.watches.toList.findIdx? (·.isNone)

/-- A registration evaluated (R176): notified at once when POISON is set or the condition holds, else placed in the slot given, else it
waits. The word is that before the operation. -/
def Device.judgeWatch (d : Device) (t : TileNo) (w : Watch) (by_ : Option (TileNo × Nat)) (slot : Option Nat) : RegRes × W64 × Device :=
  let r := d.pocketRead t (claspOff w.clasp) 8 6
  let word := BitVec.ofNat 64 (leNat r.1.bytes)
  let d := r.2
  if r.1.st = .ue then (.poison, 0, d.claspUe t by_)
  else if clPoison word then (.accepted, word, d.notify t w true word)
  else if w.holds word then (.accepted, word, d.notify t w false word)
  else
    match slot with
    | some i => (.accepted, word, d.modTile t (fun x => { x with watches := x.watches.setIfInBounds i (some w) }))
    | none => (.queued, word, d.modTile t (fun x => { x with watchWait := x.watchWait ++ [w] }))

/-- Registration of a watch (R176, R181): it takes the lowest free slot, but none before the registrations that wait for one. -/
def Device.registerWatch (d : Device) (t : TileNo) (w : Watch) (by_ : Option (TileNo × Nat)) : RegRes × W64 × Device :=
  d.judgeWatch t w by_ (if (d.tiles[t]).watchWait = [] then (d.tiles[t]).freeSlot else none)

/-- Free the slots and waiting registrations that a test picks, without notifying (R183, R184, R208); what those registered on other
chips will notify is to be discarded (R180). -/
def Device.dropWatches (d : Device) (f : Watch → Bool) : Device :=
  { d with farWatches := d.farWatches.filter (fun w => !f w.w), tiles := d.tiles.map (fun x =>
      { x with watches := x.watches.map (fun o => match o with
                 | some w => if f w then none else o
                 | none => none),
               watchWait := x.watchWait.filter (fun w => !f w) }) }

/-! ### Contexts: tiles held, journal, fence -/

/-- The tiles a context holds on this device (R161, R356). -/
def Device.ctxTiles (d : Device) (c : CtxNo) : List TileNo := (List.finRange 512).filter (fun t => (d.tiles[t]).ctx = some c)

/-- Source engines of a journal (R373): 0 to 3 the engines of a tile, 4 its tile mover, 6 + n bulk mover n, 22 + n
host/link mover n, 30 + g gather engine g. -/
def jEng (e : Eng) : Fin 64 := fin e.idx.val

/-- Identity of an operation in a journal: operation, VSRC, chip, tile, clasp. -/
def jOp (op : Nat) (vsrc : Bool) (chip tile clasp : Nat) : W128 :=
  BitVec.ofNat 128 (op + vsrc.toNat <<< 8 + clasp <<< 16 + tile <<< 24 + chip <<< 40)

/-- Entries in the journal of a source engine (R373): that of a tile's own engine is its tile's, that of a mover outside the tiles gathers
what the channels of all tiles of the context issue. -/
def Device.jLength (d : Device) (t : TileNo) (c : CtxNo) (eng : Fin 64) : Nat :=
  let n (u : TileNo) : Nat := ((d.tiles[u]).journal.filter (fun k => k.eng = eng)).length
  if eng.val < 6 then n t else ((d.ctxTiles c).map n).sum

/-- Record an operation in the journal of its engine (R373); a full journal makes the segment unreplayable. -/
def Device.journal (d : Device) (t : TileNo) (c : CtxNo) (j : JEntry) : Device :=
  let n := d.jLength t c j.eng
  let d := if n ≥ 8192 then d else d.modTile t (fun x => { x with journal := x.journal ++ [j] })
  if n ≥ 8191 then d.modCtx c (fun x => { x with jfull := true }) else d

/-- How an operation of a context's engine ends: performed (previous word), not performed on an uncorrectable word, denied by a window,
held by the fence, sent to another chip under a TAG, waiting for the shadow of an audit, or diverged from its journal. -/
inductive ClRes where
  | word (w : W64)
  | poison
  | denied
  | held
  | sent (tag : Nat)
  | waits
  | diverged
deriving DecidableEq, Repr

/-- Whether an operation is a boundary operation: its target lies outside the tiles the context holds here (R372). -/
def Device.isBoundary (d : Device) (c : CtxNo) (chip : Nat) (t : Nat) : Bool :=
  chip ≠ d.chipId.toNat || (if h : t < 512 then d.tiles[t].ctx ≠ some c else true)

/-- The answer of a clasp unit of this chip. -/
def ClRes.ofWord : Option W64 → ClRes
  | some w => .word w
  | none => .poison

/-- Perform or send an operation for real: own-chip targets of the partition directly, other partitions' through a window
(R164, R166), other chips' as ATOMIC packets (Table 13.3). `scope2`: judged by windows even on the own chip. -/
def Device.claspSend (d : Device) (p : PartNo) (r : Requester) (req : Nat) (chip t : Nat) (n : ClaspNo) (scope2 : Bool)
    (a : ClArg) : ClRes × Device :=
  if chip = d.chipId.toNat then
    if h : t < 512 then
      let tt : TileNo := ⟨t, h⟩
      if d.owns p t && !scope2 then
        let x := d.claspApply tt n a
        (ClRes.ofWord x.1, x.2)
      else
        let slice := match d.sliceOf p with
          | some k => (d.tables[k]).id.toNat
          | none => 0
        if d.admitted tt (claspOff n) 8 slice d.chipId.toNat rightCl then
          let x := d.claspApply tt n { a with own := none, by_ := none }
          (ClRes.ofWord x.1, x.2)
        else (.denied, d.violation tt (claspOff n) 8 slice d.chipId.toNat rightCl)
    else (.denied, d)
  else
    let g := d.newTag r
    (.sent g.1, g.2.inject p (reqCuff req) 3 chip (midReq t (claspOff n) req)
      (leBytes 24 (g.1 + a.op <<< 24 + a.vsrc.toNat <<< 30 + n.val <<< 32 + a.w0.toNat <<< 64 + a.w1.toNat <<< 128)))

/-- What stands before an operation of a context's engine: it may be performed, its journal answers it in a replay, the
fence holds it, it waits for the shadow of an audit, or it differs from the journal. -/
inductive Gate where
  | perform (d : Device)
  | replayed (j : JEntry) (d : Device)
  | held (d : Device)
  | waits
  | diverged (d : Device)

/-- The journal entries of an engine so far. -/
def Device.jCount (d : Device) (src : TileNo) (eng : Fin 64) : Nat := ((d.tiles[src]).journal.filter (fun k => k.eng = eng)).length

/-- The gate every clasp operation of a context's engine passes (R372, R373, R376, R377, R379). `e` is its journal entry
before an answer; `chip` and `t` its target. -/
def Device.gate (d : Device) (c : CtxNo) (src : TileNo) (e : JEntry) (chip t : Nat) : Gate :=
  let fence (d : Device) : Gate :=
    if d.fencedCtx (some c) && d.isBoundary c chip t then
      .held ((d.modCtx c (fun x => { x with held := x.held ++
        [{ tile := src, target := fin t, word := e.op, operand0 := e.operand0 }] })).journal src c { e with held := true })
    else .perform d
  let x := d.ctxs[c]
  if x.auditTile = some src && e.eng.val < 5 && !x.met then .waits
  else
    let d := if x.auditTile = some src && e.eng.val < 5 then d.modCtx c (fun x => { x with met := false }) else d
    match (d.tiles[src]).toMatch with
    | none => fence d
    | some l =>
      match l.find? (fun j => j.eng = e.eng) with
      | none => .diverged (d.askTeardown c .replayDiverged)
      | some j =>
        if j.op = e.op ∧ j.operand0 = e.operand0 ∧ j.operand1 = e.operand1 then
          let d := d.modTile src (fun x => { x with toMatch := some (l.erase j) })
          if j.held then fence d else .replayed j (d.journal src c j)
        else .diverged (d.askTeardown c .replayDiverged)

/-- Notes that an operation added name it as what fired them (R373). -/
def Device.tagNotes (d0 d1 : Device) (src : TileNo) (eng : Fin 64) : Device :=
  let n := d0.jCount src eng
  { d1 with tiles := d1.tiles.mapIdx (fun i x =>
      let k := (d0.tiles.toList.getD i x).notes.length
      if x.notes.length ≤ k then x
      else { x with notes := x.notes.take k ++ (x.notes.drop k).map (fun m => { m with by_ := some (src, eng, n) }) }) }

/-- A clasp operation of a context's engine (R372, R373, R376, R379): matched with the journal in a replay, held by the
fence when it is a boundary operation, else performed and journalled. -/
def Device.claspFrom (d : Device) (p : PartNo) (c : CtxNo) (src : TileNo) (eng : Fin 64) (r : Requester) (req : Nat)
    (chip t : Nat) (n : ClaspNo) (scope2 : Bool) (a : ClArg) : ClRes × Device :=
  let e : JEntry := { eng := eng, op := jOp a.op a.vsrc chip t n, operand0 := a.w0, operand1 := a.w1, returned := 0,
                      held := false, tag := none, notified := none, fired := none, denied := false }
  match d.gate c src e chip t with
  | .waits => (.waits, d)
  | .diverged d => (.diverged, d)
  | .held d => (.held, d)
  | .replayed j d => (if j.denied then .denied else .word j.returned, d)
  | .perform d =>
    let x := d.claspSend p r req chip t n scope2 a
    let d' := d.tagNotes x.2 src eng
    match x.1 with
    | .word w => (x.1, d'.journal src c { e with returned := w })
    | .sent g => (x.1, d'.journal src c { e with tag := some g })
    | r => (x.1, d'.journal src c { e with denied := decide (r = .denied) })

/-! ### Registrations (R176, R181) -/

/-- How a registration ends: accepted or waiting for a slot (with the clasp word before it), its clasp word uncorrectable, denied,
held, sent under a TAG, waiting for the shadow of an audit, or diverged. In a replay no word comes back. -/
inductive WRes where
  | accepted (w : Option W64)
  | queued (w : W64)
  | poison
  | denied
  | held
  | sent (tag : Nat)
  | waits
  | diverged
deriving DecidableEq, Repr

/-- A registration sent to another chip is remembered until it is notified (R180). -/
def Device.addFar (d : Device) (f : FarWatch) : Device := { d with farWatches := d.farWatches ++ [f] }

/-- The answer to a registration on this chip. -/
def WRes.ofReg : RegRes → W64 → WRes
  | .accepted, w => .accepted (some w)
  | .queued, w => .queued w
  | .poison, _ => .poison

/-- Register a watch for real: at a tile of the partition, through a window, or with a WATCH packet (Table 13.3). -/
def Device.watchSend (d : Device) (p : PartNo) (r : Requester) (req : Nat) (chip t : Nat) (scope2 : Bool) (w : Watch)
    (by_ : Option (TileNo × Nat)) : WRes × Device :=
  if chip = d.chipId.toNat then
    if h : t < 512 then
      let tt : TileNo := ⟨t, h⟩
      let put (d : Device) (by_ : Option (TileNo × Nat)) : WRes × Device :=
        let x := d.registerWatch tt w by_
        (WRes.ofReg x.1 x.2.1, x.2.2)
      if d.owns p t && !scope2 then put d by_
      else
        let slice := match d.sliceOf p with
          | some k => (d.tables[k]).id.toNat
          | none => 0
        if d.admitted tt (claspOff w.clasp) 8 slice d.chipId.toNat rightCl then put d none
        else (.denied, d.violation tt (claspOff w.clasp) 8 slice d.chipId.toNat rightCl)
    else (.denied, d)
  else
    let g := d.newTag r
    (.sent g.1, (g.2.addFar { tag := g.1, holds := chip, at_ := t, w := { w with tag := g.1 } }).inject p (reqCuff req) 4 chip (midReq t (claspOff w.clasp) req)
      (leBytes 24 (g.1 + w.cond.val <<< 23 + w.nkind.val <<< 25 + w.narg.val <<< 27 + w.clasp.val <<< 30 + w.ctx.val <<< 36
        + w.value.toNat <<< 64)))

/-- A registration by a context's engine (R372, R373, R376, R379). In a replay a journalled one is not performed again: a
notification it received is delivered anew, after the operation that fired it where that belongs to the segment. -/
def Device.watchFrom (d : Device) (p : PartNo) (c : CtxNo) (src : TileNo) (eng : Fin 64) (r : Requester) (req : Nat)
    (chip t : Nat) (scope2 : Bool) (w : Watch) (by_ : Option (TileNo × Nat)) : WRes × Device :=
  let e : JEntry := { eng := eng, op := jOp (if w.wait then clWaitOp else clWatchOp) false chip t w.clasp,
                      operand0 := w.value.setWidth 64,
                      operand1 := BitVec.ofNat 64 (w.cond.val + w.nkind.val <<< 2 + w.narg.val <<< 4), returned := 0,
                      held := false, tag := none, notified := none, fired := none, denied := false }
  match d.gate c src e chip t with
  | .waits => (.waits, d)
  | .diverged d => (.diverged, d)
  | .held d => (.held, d)
  | .replayed j d =>
    if j.denied then (.denied, d)
    else match j.notified with
    | some (ab, v) =>
      let note : Note := { w := w, abandoned := ab, value := v, fromChip := BitVec.ofNat 15 chip, from_ := fin t, by_ := j.fired }
      (.accepted (some j.returned), d.modTile src (fun x => { x with notes := x.notes ++ [note] }))
    | none => (.accepted (some j.returned), d)
  | .perform d =>
    let x := d.watchSend p r req chip t scope2 w by_
    let d' := d.tagNotes x.2 src eng
    match x.1 with
    | .sent g => (x.1, d'.journal src c { e with tag := some g })
    | .accepted (some v) | .queued v => (x.1, d'.journal src c { e with returned := v })
    | r => (x.1, d'.journal src c { e with denied := decide (r = .denied) })

end Sys2Proof.Machine
end

