-- ==== Sys2Proof/Machine/CollBase.lean ====
section
/-! DEFINITION. Collectives, the part others need (14_collectives.md): ring layouts (R325), packets to ring neighbours
(R336), the collective ring's watch (R221, R326), the end and the abort of a collective (R329, R339). -/

namespace Sys2Proof.Machine

/-- Statuses of the completion word (Table 14.4). -/
def clBadDesc : Nat := 1
def clMismatch : Nat := 2
def clLinkLost : Nat := 3
def clNetLost : Nat := 4
def clResidue : Nat := 5
def clStall : Nat := 6
def clCancelled : Nat := 7
def clAddrUnbound : Nat := 8
def clPoisonRead : Nat := 9

/-! Fields of a collective descriptor (Table 14.3). -/

def cOp (d : BitVec 512) : Nat := fld d 0 3
def cIfmt (d : BitVec 512) : Nat := fld d 3 3
def cOfmt (d : BitVec 512) : Nat := fld d 6 1
def cOneWay (d : BitVec 512) : Bool := bitOf d 7
def cLevel (d : BitVec 512) (l : Fin 4) : Bool := bitOf d (8 + l.val)
def cLlog (d : BitVec 512) : Nat := fld d 12 2
def cClog (d : BitVec 512) : Nat := fld d 14 5
def cK (d : BitVec 512) : Nat := fld d 19 7
def cSmall (d : BitVec 512) : Bool := bitOf d 26
def cId (d : BitVec 512) : W32 := BitVec.ofNat 32 (fld d 32 32)
def cCount (d : BitVec 512) : Nat := fld d 64 40
def cRoot (d : BitVec 512) : Nat := fld d 104 17
def cIsc (d : BitVec 512) : W32 := BitVec.ofNat 32 (fld d 128 32)
def cSrc (d : BitVec 512) : Nat := fld d 192 48
def cLstride (d : BitVec 512) : Nat := fld d 240 48
def cDst (d : BitVec 512) : Nat := fld d 288 48
def cDclasp (d : BitVec 512) : Nat := fld d 336 6
def cCtile (d : BitVec 512) : TileNo := fin (fld d 342 9)
def cDval (d : BitVec 512) : Nat := fld d 351 16

/-- The layout of a partition's slice: that of its slice table (R325). -/
def Device.layoutOf (d : Device) (p : PartNo) : Layout :=
  match d.sliceOf p with
  | some k => d.layouts[k]
  | none => Layout.reset

/-- LEN, POS and the two ports of a level (R325). -/
def Layout.len (l : Layout) (v : Fin 4) : Nat := fld l.axes[v] 0 6
def Layout.pos (l : Layout) (v : Fin 4) : Nat := fld l.axes[v] 6 5
def Layout.port (l : Layout) (v : Fin 4) (minus : Bool) : PortNo := fin (fld l.axes[v] (if minus then 14 else 11) 3)

/-- The levels a descriptor names, in the order X, Y, Z, W. -/
def cLevels (d : BitVec 512) : List (Fin 4) := (List.finRange 4).filter (fun v => cLevel d v)

/-- PORT of Table 14.4 for the neighbour of a level: a link port, or 8 or 9 for an ordinary port. -/
def Layout.portNo (l : Layout) (v : Fin 4) (minus : Bool) : Nat :=
  if v = 3 then 8 + minus.toNat else (l.port v minus).val

/-- Send a packet to a ring neighbour (R336): through the port of its level, never routed; over W as a message of the
ordinary network to the address of the layout, whose DST field names no chip (R325, log 24). -/
def Device.collSend (d : Device) (p : PartNo) (v : Fin 4) (minus : Bool) (ty mid : Nat) (payload : List Byte) : Device :=
  let l := d.layoutOf p
  let slice := match d.sliceOf p with
    | some k => (d.tables[k]).id.toNat
    | none => 0
  if v = 3 then
    let pkt := sealPacket (header ty slice 0 d.chipId.toNat payload.length mid) payload
    d.modNet (if minus then 1 else 0) (fun n =>
      { n with out := n.out ++ [(if minus then l.wMinus else l.wPlus, pkt)], unacked := some (n.unacked.getD d.devTime) })
  else
    let port := l.port v minus
    d.sendOn port (header ty slice (d.cfg 0x3100 4 port) d.chipId.toNat payload.length mid) payload false

/-- Send a COLL_CTL message (Table 14.5). -/
def Device.collCtl (d : Device) (p : PartNo) (v : Fin 4) (toMinus : Bool) (id kind : Nat) (dir : Bool) (status origin port data : Nat) :
    Device :=
  d.collSend p v toMinus 0xC 0
    (leBytes 16 (id + kind <<< 32 + v.val <<< 34 + dir.toNat <<< 36 + status <<< 40 + origin <<< 48 + port <<< 63 + data <<< 96))

/-- A watch on the head clasp of a partition's collective ring (R221, R326). -/
def Device.collWatch (d : Device) (p : PartNo) : Device :=
  let r := (d.parts[p]).collRing
  (d.registerWatch r.tile
    { value := BitVec.ofNat 48 (r.next + 1), clasp := fin r.head, cond := 2, nkind := 3, narg := 0, remote := false, wait := false,
      tile := r.tile, chip := d.chipId, ctx := r.ctx, holder := .coll p, inv := false, tag := 0 } none).2.2

/-- The completion word (Table 14.4). -/
def collWord (status : Nat) (flags : Byte) (chip port : Nat) : W64 :=
  BitVec.ofNat 64 (status + (flags.toNat % 8) <<< 8 + (chip % 2 ^ 15) <<< 16 + port <<< 31)

/-- A clasp operation of the collective sequencer: it belongs to no segment (R371). -/
def Device.collOp (d : Device) (p : PartNo) (t : TileNo) (n v : Nat) : Device :=
  (d.claspSend p (.coll p) 0 d.chipId.toNat t (fin n) false (clArg clAddOp v)).2

/-- The end of a collective (R329): CMPL, the done operation of a good one, the tail ADD; the ring goes on. -/
def Device.collEnd (d : Device) (p : PartNo) (j : CollJob) (word : W64) (done : Bool) : Device :=
  let d := (d.hbmWrite p (j.addr + 56) (leBytes 8 word.toNat) false).2
  let d := if done && decide (cDval j.d ≠ 0) then d.collOp p (cCtile j.d) (cDclasp j.d) (cDval j.d) else d
  let r := (d.parts[p]).collRing
  let d := d.collOp p r.tile r.tail 1
  let d := d.modPart p (fun q =>
    { q with coll := none, collPrev := some (cId j.d), collCut := false,
             collRing := { q.collRing with next := q.collRing.next + 1, st := if q.collRing.st = 2 then 0 else q.collRing.st } })
  if r.st = 1 then d.collWatch p else d

/-- ABORT to every neighbour of the slice whose link is up (R339): once on each port or ordinary port. -/
def Device.sendAborts (d : Device) (p : PartNo) (id status chip port : Nat) : Device :=
  let l := d.layoutOf p
  ((List.finRange 4).filter (fun v => l.len v > 1)).foldl (fun d v =>
    [false, true].foldl (fun d m =>
      let up := if v = 3 then (d.net[(if m then 1 else 0 : NetNo)]).st = 2
        else (d.ports[l.port v m]).st = 2 || (d.ports[l.port v m]).st = 3
      if up then d.collCtl p v m id 2 false status chip port 0 else d) d) d

/-- The abort of a running collective (R339): ABORT to the neighbours, no done operation, CMPL, tail ADD, COLL_ABORTED. -/
def Device.collAbort (d : Device) (p : PartNo) (status chip port : Nat) : Device :=
  match (d.parts[p]).coll with
  | none => d
  | some j =>
    let d := d.sendAborts p (cId j.d).toNat status chip port
    let w := collWord status j.flags chip port
    let r := (d.parts[p]).collRing
    ((d.collEnd p j w false).modPart p (fun q => { q with collCut := true })).report 0x0306 (some p) (some r.ctx.val) 0 (w.setWidth 128)

/-- Whether a partition's running collective uses a port: R325 names it for a level of the descriptor. -/
def Device.collUses (d : Device) (p : PartNo) (port : PortNo) : Bool :=
  match (d.parts[p]).coll with
  | none => false
  | some j =>
    let l := d.layoutOf p
    (cLevels j.d).any (fun v => v ≠ 3 && (l.port v false = port || l.port v true = port))

end Sys2Proof.Machine
end

