-- ==== Sys2Proof/Machine/Fp.lean ====
section
/-! DEFINITION. Number formats and FP32 arithmetic (02_number_formats.md R26 to R51, R473). Exact values are dyadic
rationals; each operation computes exactly and rounds once. -/

namespace Sys2Proof.Machine

/-- A floating-point value: NaN, an infinity, or (-1)^neg x m x 2^e exactly (a zero keeps its sign, R30). -/
inductive FV where
  | nan
  | inf (neg : Bool)
  | fin (neg : Bool) (m : Nat) (e : Int)
deriving DecidableEq, Repr, Inhabited

/-- Parameters of a floating-point element encoding (Table 2.2). `ieee`: the top exponent holds infinity and NaN;
`nanTop`: only the all-ones code is NaN (E4M3). -/
structure FEnc where
  eb : Nat
  fb : Nat
  bias : Nat
  ieee : Bool
  nanTop : Bool
deriving DecidableEq, Repr

def encFP32 : FEnc := ⟨8, 23, 127, true, false⟩
def encBF16 : FEnc := ⟨8, 7, 127, true, false⟩
def encFP16 : FEnc := ⟨5, 10, 15, true, false⟩
def encE4M3 : FEnc := ⟨4, 3, 7, false, true⟩
def encE5M2 : FEnc := ⟨5, 2, 15, true, false⟩
def encE2M3 : FEnc := ⟨2, 3, 1, false, false⟩
def encE3M2 : FEnc := ⟨3, 2, 3, false, false⟩
def encE2M1 : FEnc := ⟨2, 1, 1, false, false⟩

def FEnc.width (f : FEnc) : Nat := 1 + f.eb + f.fb

/-- The value of a code (R27). -/
def FEnc.decode (f : FEnc) (c : Nat) : FV :=
  let neg := (c >>> (f.eb + f.fb)) % 2 = 1
  let e := (c >>> f.fb) % 2 ^ f.eb
  let m := c % 2 ^ f.fb
  let top := 2 ^ f.eb - 1
  if f.ieee && e == top then (if m = 0 then .inf neg else .nan)
  else if f.nanTop && e == top && m == 2 ^ f.fb - 1 then .nan
  else if e = 0 then .fin neg m (1 - (f.bias : Int) - f.fb)
  else .fin neg (2 ^ f.fb + m) ((e : Int) - f.bias - f.fb)

/-- Exponent of the largest binade, largest finite significand and code (Table 2.2). -/
def FEnc.maxCode (f : FEnc) : Nat :=
  if f.ieee then (2 ^ f.eb - 1) * 2 ^ f.fb - 1
  else if f.nanTop then 2 ^ (f.eb + f.fb) - 2
  else 2 ^ (f.eb + f.fb) - 1

/-- The default NaN of a format that has one (R39). -/
def FEnc.nanCode (f : FEnc) : Nat :=
  if f.ieee then (2 ^ f.eb - 1) * 2 ^ f.fb + 2 ^ (f.fb - 1) else 2 ^ (f.eb + f.fb) - 1

def FEnc.infCode (f : FEnc) : Nat := (2 ^ f.eb - 1) * 2 ^ f.fb

/-- Rounding modes (R40): SR carries the element's 16 random bits (R41). -/
inductive Rnd where
  | rne
  | rtz
  | sr (r : Nat)
deriving DecidableEq, Repr

/-- Whether the magnitude k + rem/2^sh is rounded up to k + 1 (R40, R41). -/
def roundsUp (r : Rnd) (k rem sh : Nat) : Bool :=
  match r with
  | .rtz => false
  | .rne => rem * 2 > 2 ^ sh || (rem * 2 == 2 ^ sh && k % 2 == 1)
  | .sr x => (rem * 65536) / 2 ^ sh + x ≥ 65536

/-- m x 2^e rounded to a multiple of 2^q: the multiple. -/
def roundTo (r : Rnd) (m : Nat) (e q : Int) : Nat :=
  if e ≥ q then m <<< (e - q).toNat
  else
    let sh := (q - e).toNat
    let k := m >>> sh
    let rem := m % 2 ^ sh
    if roundsUp r k rem sh then k + 1 else k

/-- Result of rounding a finite magnitude into a format: the code without its sign, or overflow. -/
inductive Mag where
  | code (c : Nat)
  | over
deriving DecidableEq, Repr

/-- Spacing exponent at a magnitude, with an unbounded exponent range above (R40). -/
def FEnc.quantum (f : FEnc) (m : Nat) (e : Int) : Int :=
  max ((m.log2 : Int) + e - f.fb) (1 - (f.bias : Int) - f.fb)

/-- The code of k x 2^q, where 2^q is a spacing of the format and k at most one binade above it. -/
def FEnc.codeOf (f : FEnc) (k : Nat) (q : Int) : Nat :=
  let qmin : Int := 1 - (f.bias : Int) - f.fb
  ((q - qmin).toNat) * 2 ^ f.fb + k

/-- A finite magnitude rounded into a format (R40). -/
def FEnc.roundMag (f : FEnc) (r : Rnd) (m : Nat) (e : Int) : Mag :=
  if m = 0 then .code 0
  else
    let q := f.quantum m e
    let c := f.codeOf (roundTo r m e q) q
    if c > f.maxCode then .over else .code c

/-- Whether a finite magnitude is strictly above the largest finite value. -/
def FEnc.beyond (f : FEnc) (m : Nat) (e : Int) : Bool :=
  match f.decode f.maxCode with
  | .fin _ mm me =>
    if e ≥ me then m <<< (e - me).toNat > mm else m > mm <<< (me - e).toNat
  | _ => false

def signBit (f : FEnc) (neg : Bool) : Nat := if neg then 2 ^ (f.eb + f.fb) else 0

/-- IEEE rounding of a value into FP32 or BF16: overflow gives infinity (R70, R117). -/
def FEnc.roundIeee (f : FEnc) : FV → Nat
  | .nan => f.nanCode
  | .inf n => signBit f n + f.infCode
  | .fin n m e =>
    match f.roundMag .rne m e with
    | .code c => signBit f n + c
    | .over => signBit f n + f.infCode

/-- An FP32 word. -/
def toFP32 (v : FV) : W32 := BitVec.ofNat 32 (encFP32.roundIeee v)
def ofFP32 (w : W32) : FV := encFP32.decode w.toNat

def f32nan : W32 := 0x7FC00000#32
def f32one : W32 := 0x3F800000#32
def isNan32 (w : W32) : Bool := ofFP32 w = .nan
def isInf32 (w : W32) : Bool := fld w 0 31 = 0x7F800000
def isFinite32 (w : W32) : Bool := fld w 23 8 ≠ 255
def isZero32 (w : W32) : Bool := fld w 0 31 = 0

/-- A signed dyadic as an FV; `zneg` is the sign of an exact zero. -/
def FV.ofInt (zneg : Bool) (i e : Int) : FV :=
  if i = 0 then .fin zneg 0 e else .fin (i < 0) i.natAbs e

def FV.sgn (neg : Bool) (m : Nat) : Int := if neg then -(m : Int) else m

/-- Exact sum; x + (-x) is +0, and -0 + -0 is -0 (IEEE 754 round to nearest). -/
def FV.add : FV → FV → FV
  | .nan, _ => .nan
  | _, .nan => .nan
  | .inf a, .inf b => if a = b then .inf a else .nan
  | .inf a, .fin .. => .inf a
  | .fin .., .inf b => .inf b
  | .fin a m e, .fin b k g =>
    let lo := min e g
    FV.ofInt (a && b) (FV.sgn a (m <<< (e - lo).toNat) + FV.sgn b (k <<< (g - lo).toNat)) lo

def FV.neg : FV → FV
  | .nan => .nan
  | .inf a => .inf !a
  | .fin a m e => .fin (!a) m e

/-- Exact product. -/
def FV.mul : FV → FV → FV
  | .nan, _ => .nan
  | _, .nan => .nan
  | .inf a, .inf b => .inf (a != b)
  | .inf a, .fin b k _ => if k = 0 then .nan else .inf (a != b)
  | .fin a m _, .inf b => if m = 0 then .nan else .inf (a != b)
  | .fin a m e, .fin b k g => .fin (a != b) (m * k) (e + g)

/-- Quotient, exact or with a sticky bit far below every format's rounding position. -/
def FV.div : FV → FV → FV
  | .nan, _ => .nan
  | _, .nan => .nan
  | .inf _, .inf _ => .nan
  | .inf a, .fin b _ _ => .inf (a != b)
  | .fin a _ _, .inf b => .fin (a != b) 0 0
  | .fin a m e, .fin b k g =>
    if k = 0 then (if m = 0 then .nan else .inf (a != b))
    else
      let sh := 64 + k.log2
      let q := (m <<< sh) / k
      let st := if (m <<< sh) % k = 0 then 0 else 1
      .fin (a != b) (2 * q + st) (e - g - sh - 1)

/-- Integer square root by bits, from bit `n` down. -/
def isqrtBits (x : Nat) : Nat → Nat → Nat
  | 0, r => r
  | n + 1, r =>
    let t := r + 2 ^ n
    isqrtBits x n (if t * t ≤ x then t else r)

def isqrt (x : Nat) : Nat := isqrtBits x (x.log2 / 2 + 1) 0

/-- Square root with a sticky bit (R235: fp32_sqrt is correctly rounded). -/
def FV.sqrt : FV → FV
  | .nan => .nan
  | .inf a => if a then .nan else .inf false
  | .fin a m e =>
    if m = 0 then .fin a 0 e
    else if a then .nan
    else
      let e' : Int := if e % 2 = 0 then e - 64 else e - 65
      let x := m <<< (e - e').toNat
      let r := isqrt x
      .fin false (2 * r + (if r * r = x then 0 else 1)) (e' / 2 - 1)

def fadd (a b : W32) : W32 := toFP32 (FV.add (ofFP32 a) (ofFP32 b))
def fneg (a : W32) : W32 := a ^^^ 0x80000000#32
def fsub (a b : W32) : W32 := toFP32 (FV.add (ofFP32 a) (FV.neg (ofFP32 b)))
def fmul (a b : W32) : W32 := toFP32 (FV.mul (ofFP32 a) (ofFP32 b))
def fdiv (a b : W32) : W32 := toFP32 (FV.div (ofFP32 a) (ofFP32 b))
def fsqrt (a : W32) : W32 := toFP32 (FV.sqrt (ofFP32 a))
/-- a x b + c with one rounding (R118). -/
def ffma (a b c : W32) : W32 := toFP32 (FV.add (FV.mul (ofFP32 a) (ofFP32 b)) (ofFP32 c))
def fabs (a : W32) : W32 := a &&& 0x7FFFFFFF#32
/-- An unsigned integer as FP32, rounded to nearest even. -/
def fofNat (n : Nat) : W32 := toFP32 (.fin false n 0)

/-- Order key of an FP32 word that is not NaN: -0 just below +0 (R118). -/
def fkey (a : W32) : Int := if bitOf a 31 then -(fld a 0 31 : Int) - 1 else fld a 0 31
/-- Order key with -0 equal to +0 (R123, R132). -/
def fkeyEq (a : W32) : Int := if bitOf a 31 then -(fld a 0 31 : Int) else fld a 0 31
def fmax (a b : W32) : W32 :=
  if isNan32 a || isNan32 b then f32nan else if fkey a < fkey b then b else a
def fmin (a b : W32) : W32 :=
  if isNan32 a || isNan32 b then f32nan else if fkey b < fkey a then b else a

/-- Pairwise sum in fixed order: one level (R71, R122; an odd last entry passes unchanged). -/
def pairLevel : List W32 → List W32
  | a :: b :: r => fadd a b :: pairLevel r
  | [a] => [a]
  | [] => []

/-- Pairwise sum; `n` bounds the number of levels. The sum of no elements is +0. -/
def pairSumN : Nat → List W32 → W32
  | _, [] => 0#32
  | _, [a] => a
  | 0, a :: _ => a
  | n + 1, l => pairSumN n (pairLevel l)

def pairSum (l : List W32) : W32 := pairSumN (l.length.log2 + 1) l

/-- An FP32 result with the default NaN in place of any NaN (R39). -/
def canon32 (w : W32) : W32 := if isNan32 w then f32nan else w

/-- The thirteen formats (Table 2.1), by code. -/
inductive Fmt where
  | fp32 | bf16 | fp16 | e4m3 | e5m2 | mxE4M3 | mxE5M2 | mxE2M3 | mxE3M2 | mxE2M1 | sx4 | t2 | int4
deriving DecidableEq, Repr, Inhabited

/-- Format code to format; reserved codes have none (R26). -/
def Fmt.ofCode : Nat → Option Fmt
  | 0 => some .fp32 | 1 => some .bf16 | 2 => some .fp16 | 3 => some .e4m3 | 4 => some .e5m2
  | 5 => some .mxE4M3 | 6 => some .mxE5M2 | 7 => some .mxE2M3 | 8 => some .mxE3M2 | 9 => some .mxE2M1
  | 10 => some .sx4 | 11 => some .t2 | 12 => some .int4 | _ => none

def Fmt.code : Fmt → Nat
  | .fp32 => 0 | .bf16 => 1 | .fp16 => 2 | .e4m3 => 3 | .e5m2 => 4 | .mxE4M3 => 5 | .mxE5M2 => 6
  | .mxE2M3 => 7 | .mxE3M2 => 8 | .mxE2M1 => 9 | .sx4 => 10 | .t2 => 11 | .int4 => 12

/-- Element bits (Table 2.1). -/
def Fmt.bits : Fmt → Nat
  | .fp32 => 32 | .bf16 => 16 | .fp16 => 16 | .e4m3 => 8 | .e5m2 => 8 | .mxE4M3 => 8 | .mxE5M2 => 8
  | .mxE2M3 => 6 | .mxE3M2 => 6 | .mxE2M1 => 4 | .sx4 => 4 | .t2 => 2 | .int4 => 4

/-- Block size; 0 for a scalar format (Table 2.1). -/
def Fmt.block : Fmt → Nat
  | .mxE4M3 | .mxE5M2 | .mxE2M3 | .mxE3M2 | .mxE2M1 => 32
  | .sx4 => 16
  | .t2 => 64
  | _ => 0

def Fmt.isBlock (f : Fmt) : Bool := f.block ≠ 0
def Fmt.isMx : Fmt → Bool
  | .mxE4M3 | .mxE5M2 | .mxE2M3 | .mxE3M2 | .mxE2M1 => true
  | _ => false

/-- The floating-point element encoding of a format; T2 and INT4 have none. -/
def Fmt.enc : Fmt → Option FEnc
  | .fp32 => some encFP32 | .bf16 => some encBF16 | .fp16 => some encFP16
  | .e4m3 | .mxE4M3 => some encE4M3
  | .e5m2 | .mxE5M2 => some encE5M2
  | .mxE2M3 => some encE2M3 | .mxE3M2 => some encE3M2
  | .mxE2M1 | .sx4 => some encE2M1
  | .t2 => none | .int4 => none

/-- A code taken alone (R38 first row, R28, R29). -/
def Fmt.elem (f : Fmt) (c : Nat) : FV :=
  match f.enc with
  | some e => e.decode c
  | none =>
    if f = .t2 then
      (if c % 4 = 1 then .fin false 1 0 else if c % 4 = 3 then .fin true 1 0 else .fin false 0 0)
    else (let v := c % 16
          if v ≥ 8 then .fin true (16 - v) 0 else .fin false v 0)

/-- The value of an E8M0 scale code (R32). -/
def e8m0 (c : Nat) : FV := if c = 0xFF then .nan else .fin false 1 ((c : Int) - 127)

/-- The value of an E4M3 block scale, its sign bit taken as 0 (R33). -/
def e4m3Scale (c : Nat) : FV := encE4M3.decode (c % 128)

/-- The block scale of a block format (Table 2.1). -/
def Fmt.scale (f : Fmt) (c : Nat) : FV := if f.isMx then e8m0 c else e4m3Scale c

/-- One element decoded to FP32 (R38). `b` is the block's scale code, `t` the tensor scale of SX4 and T2 or the
multiplier of E4M3, E5M2 and INT4 (`none`: no multiplier). -/
def Fmt.decode (f : Fmt) (c b : Nat) (t : Option W32) : W32 :=
  let v := f.elem c
  if f.isMx then (if b = 0xFF then f32nan else toFP32 (FV.mul v (e8m0 b)))
  else if f.isBlock then
    let m := t.getD f32one
    if e4m3Scale b = .nan || ¬ isFinite32 m then f32nan
    else fmul (toFP32 (FV.mul v (e4m3Scale b))) m
  else match t with
    | none => toFP32 v
    | some m => fmul (toFP32 v) m

/-- Flags a read of a code sets in TILE_CVT_STATUS: T2_RSVD bit 5, SCALE_NAN bit 6, SCALE_SIGN bit 7 (R29, R33, R34). -/
def Fmt.readFlags (f : Fmt) (c b : Nat) (t : Option W32) : W32 :=
  let rsvd := f = .t2 && c % 4 == 2
  let e43 := f.isBlock && !f.isMx
  let snan := (f.isMx && b == 0xFF) || (e43 && (e4m3Scale b = .nan || ¬ isFinite32 (t.getD f32one)))
  let ssgn := e43 && b ≥ 128
  orBit (orBit (orBit 0#32 5 rsvd) 6 snan) 7 ssgn

/-- The generator of R43: SplitMix over the seed. -/
def mix (seed j : Nat) : Nat :=
  let m64 := 2 ^ 64
  let z0 := (seed + (j + 1) * 0x9E3779B97F4A7C15) % m64
  let z1 := ((z0 ^^^ (z0 >>> 30)) * 0xBF58476D1CE4E5B9) % m64
  let z2 := ((z1 ^^^ (z1 >>> 27)) * 0x94D049BB133111EB) % m64
  z2 ^^^ (z2 >>> 31)

/-- The 16 random bits of element index i (R43). -/
def randBits (seed i : Nat) : Nat := (mix seed (i / 4) >>> (16 * (i % 4))) % 65536

/-- The seed of R42 (Table 2.5). -/
def seedOf (step : W64) (tensor stream tile : Nat) : Nat :=
  (step.toNat % 2 ^ 32) <<< 32 + (tensor % 2 ^ 20) <<< 12 + (stream % 8) <<< 9 + tile % 512

/-- RND field (R40): 0 RNE, 1 RTZ, 2 SR with the element's bits. -/
def rndOf (code seed i : Nat) : Rnd :=
  if code = 0 then .rne else if code = 1 then .rtz else .sr (randBits seed i)

/-- A converted element and the TILE_CVT_STATUS flags it sets: CVT_OVF 0, CVT_SAT 1, CVT_NAN 2, CVT_INF_NAN 3,
CVT_UNF 4. -/
structure Cvt where
  code : Nat
  flags : W32
deriving DecidableEq, Repr

/-- Scalar floating-point targets (Table 2.6). -/
def cvtScalarF (f : FEnc) (r : Rnd) (sat : Bool) (x : W32) : Cvt :=
  match ofFP32 x with
  | .nan => ⟨f.nanCode, 4#32⟩
  | .inf n =>
    if f.nanTop then (if sat then ⟨signBit f n + f.maxCode, 2#32⟩ else ⟨f.nanCode, 8#32⟩)
    else ⟨signBit f n + f.infCode, 0#32⟩
  | .fin n m e =>
    if r = .rtz && f.beyond m e then ⟨signBit f n + f.maxCode, 2#32⟩
    else match f.roundMag r m e with
      | .code c => ⟨signBit f n + c, if c = 0 && m ≠ 0 then 16#32 else 0#32⟩
      | .over =>
        if sat then ⟨signBit f n + f.maxCode, 2#32⟩
        else if f.nanTop then ⟨f.nanCode, 1#32⟩ else ⟨signBit f n + f.infCode, 1#32⟩

/-- INT4 targets, x already multiplied (R46). -/
def cvtInt4 (r : Rnd) (x : W32) : Cvt :=
  let put (n : Bool) (k : Nat) : Nat := if n then (16 - k) % 16 else k
  match ofFP32 x with
  | .nan => ⟨0, 4#32⟩
  | .inf n => ⟨put n 7, 2#32⟩
  | .fin n m e =>
    let k := roundTo r m e 0
    if k > 7 then ⟨put n 7, 2#32⟩ else ⟨put n k, if k = 0 && m ≠ 0 then 16#32 else 0#32⟩

/-- A scalar target of R104: codes 0x00 to 0x04 and 0x0C, after any multiplier. -/
def cvtScalar (f : Fmt) (r : Rnd) (sat : Bool) (x : W32) : Cvt :=
  match f.enc with
  | some e => cvtScalarF e r sat x
  | none => cvtInt4 r x

/-- A scalar target of an input `x` whose value after any multiplier is `y` (R45, R46): a nonzero finite input whose product is
zero has become zero too, and sets CVT_UNF (Table 2.8; log 27). -/
def cvtFrom (f : Fmt) (r : Rnd) (sat : Bool) (x y : W32) : Cvt :=
  let c := cvtScalar f r sat y
  if isZero32 y && !isZero32 x && isFinite32 x then { c with flags := c.flags ||| 16#32 } else c

/-- An element of a block format: a finite overflow is clamped and sets CVT_SAT (R47). -/
def cvtBlockElem (f : FEnc) (r : Rnd) (y : W32) : Cvt :=
  match ofFP32 y with
  | .fin n m e =>
    if f.beyond m e && r = .rtz then ⟨signBit f n + f.maxCode, 2#32⟩
    else match f.roundMag r m e with
      | .code c => ⟨signBit f n + (if f.ieee && c > f.maxCode then f.maxCode else c),
                    if c = 0 && m ≠ 0 then 16#32 else 0#32⟩
      | .over => ⟨signBit f n + f.maxCode, 2#32⟩
  | .inf n => ⟨signBit f n + f.maxCode, 2#32⟩
  | .nan => ⟨0, 0#32⟩

/-- A T2 element: spacing 1, magnitudes above 1 clamp (R50 step 3). -/
def cvtT2 (r : Rnd) (y : W32) : Cvt :=
  match ofFP32 y with
  | .fin n m e =>
    let one := if e ≥ 0 then m <<< e.toNat > 1 else m > 2 ^ (-e).toNat
    let k := roundTo r m e 0
    let c := if k = 0 then 0 else if n then 3 else 1
    ⟨c, if one then 2#32 else if k = 0 && m ≠ 0 then 16#32 else 0#32⟩
  | .inf n => ⟨if n then 3 else 1, 2#32⟩
  | .nan => ⟨0, 0#32⟩

/-- Largest magnitude of a list of FP32 words (finite ones). -/
def amaxOf (l : List W32) : W32 := l.foldl (fun a x => if fld a 0 31 < fld x 0 31 then fabs x else a) 0#32

/-- emax of the MX element formats (R48). -/
def Fmt.emax : Fmt → Int
  | .mxE4M3 => 8 | .mxE5M2 => 15 | .mxE2M3 => 2 | .mxE3M2 => 4 | _ => 2

/-- The shared exponent X of an MX block (R48); `ceil` selects MX_CEIL. -/
def mxExp (f : Fmt) (ceil : Bool) (amax : W32) : Int :=
  match ofFP32 amax, f.enc with
  | .fin _ m e, some enc =>
    if m = 0 then 0
    else
      let fl := (m.log2 : Int) + e
      let x : Int :=
        if ceil then
          match enc.decode enc.maxCode with
          | .fin _ mm me =>
            -- the least X with m 2^e <= mm 2^(me+X): start from the floor estimate and correct by one
            let x0 := fl - ((mm.log2 : Int) + me)
            let d := e - (me + x0)
            let fits := if d ≥ 0 then m <<< d.toNat ≤ mm else m ≤ mm <<< (-d).toNat
            if fits then x0 else x0 + 1
          | _ => 0
        else fl - f.emax
      max (-127) (min 127 x)
  | _, _ => 0

/-- E4M3 by RNE, saturating at 448: code and whether it clamped (R49 step 2, R50 step 2); the sign is dropped (R33). -/
def e4m3Sat (q : W32) : Nat × Bool :=
  let c := cvtScalarF encE4M3 .rne true q
  (c.code % 128, bitOf c.flags 1)

/-- One encoded block: element codes, scale code, flags, the decoding scale d (for statistics), kind. -/
structure BlockEnc where
  codes : List Nat
  scale : Nat
  flags : W32
  /-- per-element: CVT_SAT set, and nonzero written as a zero code -/
  sat : Nat
  unf : Nat
  /-- y values in element units, empty for a NaN block or a zero-scale block -/
  ys : List W32
  nanBlk : Bool
  zeroBlk : Bool
deriving DecidableEq, Repr

def nanBlock (n : Nat) (scale : Nat) (flags : W32) : BlockEnc :=
  ⟨List.replicate n 0, scale, flags, 0, 0, [], true, false⟩

def zeroBlock (f : Fmt) (xs : List W32) (flags : W32) : BlockEnc :=
  let nz := (xs.filter (fun x => ¬ isZero32 x)).length
  ⟨xs.map (fun x => if f ≠ .t2 && bitOf x 31 then 8 else 0), 0, orBit flags 4 (nz ≠ 0), 0, nz, [], false, true⟩

/-- Encode elements with their y values and rounding (R44: bits by element index). -/
def encodeElems (enc : Rnd → W32 → Cvt) (rnd : Nat → Rnd) (i0 : Nat) (ys : List W32) : List Cvt :=
  ys.zipIdx.map (fun p => enc (rnd (i0 + p.2)) p.1)

def sumFlags (cs : List Cvt) : W32 := cs.foldl (fun a c => a ||| c.flags) 0#32
def countFlag (i : Nat) (cs : List Cvt) : Nat := (cs.filter (fun c => bitOf c.flags i)).length

/-- Encode one block into a block format (R47 to R50, R473); the mean of a T2 block is exact before its division by t. `rnd i` is
the rounding of element index i. DEDUCED (log 27): a block that holds a NaN and an infinity sets CVT_NAN and CVT_INF_NAN; a T2 block
scale that saturates at 448 sets no CVT_SAT, which R49 names for SX4 and R50 does not name. -/
def encodeBlock (f : Fmt) (ceil : Bool) (t : W32) (rnd : Nat → Rnd) (i0 : Nat) (xs : List W32) : BlockEnc :=
  let anyNan := xs.any isNan32
  let anyInf := xs.any isInf32
  let nf := orBit (orBit 0#32 2 anyNan) 3 anyInf
  if f.isMx then
    if anyNan || anyInf then nanBlock xs.length 0xFF nf
    else
      let amax := amaxOf xs
      let x := mxExp f ceil amax
      let ys := xs.map (fun v => match ofFP32 v with
        | .fin n m e => toFP32 (.fin n m (e - x))
        | _ => v)
      -- elements are converted from the exact y = x 2^-X
      let cs := xs.zipIdx.map (fun p => match ofFP32 p.1, f.enc with
        | .fin n m e, some enc =>
          if enc.beyond m (e - x) && rnd (i0 + p.2) = .rtz then ⟨signBit enc n + enc.maxCode, 2#32⟩
          else match enc.roundMag (rnd (i0 + p.2)) m (e - x) with
            | .code c => (⟨signBit enc n + c, if c = 0 && m ≠ 0 then 16#32 else 0#32⟩ : Cvt)
            | .over => ⟨signBit enc n + enc.maxCode, 2#32⟩
        | _, _ => ⟨0, 0#32⟩)
      ⟨cs.map (·.code), if isZero32 amax then 0x7F else (x + 127).toNat, sumFlags cs, countFlag 1 cs, countFlag 4 cs,
       ys, false, false⟩
  else if ¬ isFinite32 t then nanBlock xs.length 0x7F (orBit nf 6 true)
  else if anyNan || anyInf then nanBlock xs.length 0x7F nf
  else if isZero32 t then zeroBlock f xs 0#32
  else
    let q := if f = .sx4 then fdiv (amaxOf xs) (fmul 0x40C00000#32 t)
             else toFP32 (FV.div (FV.mul (ofFP32 (pairSum (xs.map fabs))) (.fin false 1 (-6))) (ofFP32 t))
    let (b, bsat) := e4m3Sat q
    let bf := if f = .sx4 then orBit 0#32 1 bsat else 0#32
    if b = 0 then zeroBlock f xs bf
    else
      let d := fmul t (toFP32 (e4m3Scale b))
      if isZero32 d then zeroBlock f xs bf
      else
        let ys := xs.map (fun v => fdiv v d)
        let cs := encodeElems (if f = .sx4 then cvtBlockElem encE2M1 else cvtT2) rnd i0 ys
        -- a nonzero x whose quotient underflows to a zero y is a nonzero input written as zero (R49, R53)
        let unf := ((xs.zip cs).filter (fun p => ¬ isZero32 p.1 && p.2.code % (if f = .sx4 then 8 else 4) = 0)).length
        ⟨cs.map (·.code), b, orBit (bf ||| sumFlags cs) 4 (unf ≠ 0), countFlag 1 cs, unf, ys, false, false⟩

/-- Value of a written code in element units (R128's ŷ). -/
def Fmt.hat (f : Fmt) (c : Nat) : W32 := toFP32 (f.elem c)

end Sys2Proof.Machine
end

