-- ==== Sys2Proof/Machine/Operands.lean ====
section
/-! DEFINITION. Tile instruction words (R87 to R93, Tables 4.1 to 4.13): which operation a word is, its fields, its records,
its bound registers, and what faults at issue. -/

namespace Sys2Proof.Machine

/-- The operations of a tile program (Tables 4.4 to 4.13). -/
inductive TOp where
  | nop | jmp | br | loop | lend | bld | bset | badd | tokadd | fsel
  | fill | touch | put | clw
  | mmOpen | ldb | strm | drain
  | mov | add | sub | mul | fma | max | min | sfu | red | amax | cvt | quant | rot | topk | topkMerge
  | launch | setprio | cancel
  | clAdd | clSwap | clCas | clAnd | clOr | clMax | clWatch | clWait | clRead
  | inval | fence | commit | yield | end_
deriving DecidableEq, Repr, Inhabited

def wClass (w : W128) : Nat := fld w 0 4
def wOp (w : W128) : Nat := fld w 4 6
def wSigat (w : W128) : Bool := bitOf w 10
def wSen (w : W128) : Bool := bitOf w 11
def wStok (w : W128) : Fin 8 := fin (fld w 12 3)
def wWtok (w : W128) : Fin 8 := fin (fld w 15 3)
def wWcnt (w : W128) : Nat := fld w 18 6

/-- The operation of a word; none for a reserved CLASS or OP (R88). -/
def decodeOp (w : W128) : Option TOp :=
  match wClass w, wOp w with
  | 0, 0x00 => some .nop | 0, 0x01 => some .jmp | 0, 0x02 => some .br | 0, 0x03 => some .loop | 0, 0x04 => some .lend
  | 0, 0x08 => some .bld | 0, 0x09 => some .bset | 0, 0x0A => some .badd | 0, 0x0C => some .tokadd | 0, 0x10 => some .fsel
  | 1, 0x00 => some .fill | 1, 0x01 => some .touch
  | 2, 0x00 => some .mmOpen | 2, 0x01 => some .ldb | 2, 0x02 => some .strm | 2, 0x03 => some .drain
  | 3, 0x00 => some .mov | 3, 0x01 => some .add | 3, 0x02 => some .sub | 3, 0x03 => some .mul | 3, 0x04 => some .fma
  | 3, 0x05 => some .max | 3, 0x06 => some .min | 3, 0x08 => some .sfu | 3, 0x09 => some .red | 3, 0x0A => some .amax
  | 3, 0x0C => some .cvt | 3, 0x0D => some .quant | 3, 0x0E => some .rot | 3, 0x10 => some .topk | 3, 0x11 => some .topkMerge
  | 4, 0x00 => some .put | 4, 0x01 => some .clw
  | 5, 0x00 => some .launch | 5, 0x01 => some .setprio | 5, 0x02 => some .cancel
  | 6, 0x01 => some .clAdd | 6, 0x02 => some .clSwap | 6, 0x03 => some .clCas | 6, 0x04 => some .clAnd | 6, 0x05 => some .clOr
  | 6, 0x06 => some .clMax | 6, 0x08 => some .clWatch | 6, 0x09 => some .clWait | 6, 0x0A => some .clRead
  | 7, 0x00 => some .inval | 7, 0x01 => some .fence | 7, 0x02 => some .commit | 7, 0x03 => some .yield | 7, 0x04 => some .end_
  | _, _ => none

/-- ENG field of MV and CL words (R89). -/
def wEng (w : W128) : Eng := match fld w 32 2 with
  | 0 => .ld | 1 => .mm | 2 => .vx | _ => .st

/-- The queue of a word (Table 4.2); none for the controller's own. -/
def queueFor (w : W128) : Option Eng :=
  match wClass w with
  | 1 => some .ld
  | 2 => some .mm
  | 3 => some .vx
  | 4 => some .st
  | 5 => some (wEng w)
  | 6 => some (wEng w)
  | 7 => if wOp w = 0 then some .ld else none
  | _ => none

/-- An extent field (R90): immediate, or the bound register it names. -/
def extent (f : Nat) (bnd : Vector W32 16) : Nat := if f ≥ 2 ^ 15 then (bnd[(fin f : Fin 16)]).toNat else f

/-- The bound register an extent field names. -/
def extentReg (f : Nat) : List (Fin 16) := if f ≥ 2 ^ 15 then [fin f] else []

/-! ### LD and ST (Tables 4.5 to 4.7) -/

def ldPoff (w : W128) : Nat := fld w 32 21
def ldXrec (w : W128) : Nat := fld w 53 16
def ldCvt (w : W128) : Nat := fld w 69 16
def ldTensor (w : W128) : Nat := fld w 85 20
def ldEidx (w : W128) : Nat := fld w 105 22
def ldFlag (w : W128) : Bool := bitOf w 127

def ctlFmt (c : Nat) : Nat := c % 32
def ctlRnd (c : Nat) : Nat := c / 32 % 4
def ctlSat (c : Nat) : Bool := c / 128 % 2 = 1
def ctlScale (c : Nat) : Nat := c / 256 % 4
def ctlMul (c : Nat) : Bool := c / 1024 % 2 = 1

def prBase (r : W256) : Nat := fld r 0 48
def prSpace (r : W256) : Nat := fld r 48 3
def prTile (r : W256) : Nat := fld r 51 9
def prFmt (r : W256) : Nat := fld r 72 5
def prPat (r : W256) : Nat := fld r 77 3
def prE (r : W256) (i : Nat) : Nat := fld r (80 + 16 * i) 16
def prS (r : W256) (i : Nat) : Int := sfld r (144 + 32 * (i - 1)) 32
def prOfs (r : W256) : Nat := fld r 240 8
def prPfmt (r : W256) : Nat := fld r 248 5
/-- Index table offset of PAT 2 and 3. -/
def prItab (r : W256) : Nat := fld r 144 21

def srBase (r : W256) : Nat := fld r 0 48
def srS (r : W256) (i : Nat) : Int := sfld r (48 + 32 * (i - 1)) 32
def srPsc (r : W256) : Nat := fld r 144 21
def srTsc (r : W256) : Nat := fld r 165 21
def srSofs (r : W256) : Nat := fld r 186 8

/-- BASE plus the enabled bound register shifted (OFS of Table 4.6). -/
def ofsBase (base ofs : Nat) (bnd : Vector W32 16) : Nat :=
  if ofs ≥ 128 then (base + (bnd[(fin ofs : Fin 16)]).toNat * 2 ^ (ofs / 16 % 8)) % 2 ^ 48 else base

def ofsReg (ofs : Nat) : List (Fin 16) := if ofs ≥ 128 then [fin ofs] else []

/-- Whether a format needs scales or a multiplier record (R103). -/
def scaledFmt (c : Nat) : Bool := 5 ≤ c && c ≤ 12

/-- Whether an LD or ST names a scale record (R103): a memory-side, target or pocket-side format 0x05 to 0x0C, or MUL. -/
def wantsScale (w : W128) (pr : W256) : Bool :=
  scaledFmt (prFmt pr) || scaledFmt (ctlFmt (ldCvt w)) || (wClass w = 4 && scaledFmt (prPfmt pr)) || ctlMul (ldCvt w)

/-- Source format code: the record's FMT for LD, its PFMT for ST (R104). -/
def srcFmt (w : W128) (pr : W256) : Nat := if wClass w = 4 then prPfmt pr else prFmt pr

/-- How elements are converted (R104). -/
inductive Plan where
  | copy
  | convert (mulT mulS : Bool)
  | illegal
deriving DecidableEq, Repr

/-- Formats that take a multiplier (R104). -/
def takesMul : Fmt → Bool
  | .e4m3 => true
  | .e5m2 => true
  | .int4 => true
  | _ => false

/-- Whether VX.CVT or VX.QUANT applies a multiplier: MUL, for a target that takes one (Table 2.7); for other targets MUL has no
multiplier to apply (R104; log 27). -/
def convMul (c : Nat) (f : Fmt) : Bool := ctlMul c && takesMul f

/-- Targets LD and ST convert into (R104). -/
def scalarTarget (f : Fmt) : Bool := f.code ≤ 4 || f.code = 12

def convPlan (src tgt : Fmt) (mul : Bool) : Plan :=
  if src = tgt then .copy
  else if !scalarTarget tgt then .illegal
  else if !mul then .convert false false
  else if takesMul tgt then .convert true false
  else if takesMul src then .convert false true
  else .illegal

/-- Plan of an LD or ST, or illegal for a reserved code (R26, R52, R104). -/
def ldstPlan (w : W128) (pr : W256) : Plan :=
  match Fmt.ofCode (srcFmt w pr), Fmt.ofCode (ctlFmt (ldCvt w)) with
  | some s, some t =>
    if wClass w = 4 ∧ prFmt pr ≠ ctlFmt (ldCvt w) then .illegal
    else if ctlRnd (ldCvt w) = 3 then .illegal
    else if t.isMx ∧ ctlScale (ldCvt w) ≥ 2 then .illegal
    else convPlan s t (ctlMul (ldCvt w))
  | _, _ => .illegal

/-- Extents of a pattern record with bound registers in place. -/
def prExt (r : W256) (i : Nat) (bnd : Vector W32 16) : Nat := extent (prE r i) bnd

/-- Row starts of a pattern, as (d1, d2, d3) or index entry, in enumeration order (R102, R105): `row j` is the address of the
row with the strides given. Index entries are read by the caller. -/
def rowStarts (base : Nat) (s1 s2 s3 : Int) (e1 e2 e3 : Nat) : List Nat :=
  (List.range e3).flatMap (fun (d3 : Nat) => (List.range e2).flatMap (fun (d2 : Nat) => (List.range e1).map (fun (d1 : Nat) =>
    ((base + (d1 : Int) * s1 + (d2 : Int) * s2 + (d3 : Int) * s3) % (2 ^ 48 : Int)).toNat)))

/-- Rows of an index pattern: BASE + index x S2 in 64 bits (R102). -/
def indexRows (base : Nat) (s2 : Int) (idx : List Nat) : List Nat :=
  idx.map (fun (v : Nat) => ((base + (v : Int) * s2) % (2 ^ 64 : Int)).toNat)

/-- Bytes of a row of n elements of a format. -/
def rowBytes (f : Fmt) (n : Nat) : Nat := (n * f.bits + 7) / 8

/-- Shape rules of a pattern (R93, R102, R103); a transposed block starts at an aligned line and its used strides are whole lines
(R148). -/
def patShapeBad (w : W128) (pr : W256) (sr : Option W256) (bnd : Vector W32 16) : Bool :=
  let e i := prExt pr i bnd
  let pat := prPat pr
  let isLd := wClass w = 1
  let f := Fmt.ofCode (prFmt pr)
  let g := Fmt.ofCode (if isLd then ctlFmt (ldCvt w) else prPfmt pr)
  let wOf (o : Option Fmt) : Nat := o.elim 8 Fmt.bits
  let blk (o : Option Fmt) : Nat := o.elim 0 Fmt.block
  let big := e 0 > 65535 || e 1 > 65535 || e 2 > 65535 || e 3 > 65535
  big || ldPoff w % 16 ≠ 0 || pat ≥ 4 || prSpace pr ≥ 4
    || (pat ≥ 2 && (e 2 ≠ 1 || e 3 ≠ 1))
    || (pat = 2 && prItab pr % 4 ≠ 0) || (pat = 3 && prItab pr % 8 ≠ 0)
    || (pat = 1 && (!isLd || prSpace pr ≠ 0 || blk f ≠ 0 || blk g ≠ 0 || wOf f < 8 || wOf g < 8
          || e 1 % 16 ≠ 0 || e 0 * wOf f ≠ 512 || ofsBase (prBase pr) (prOfs pr) bnd % 64 ≠ 0
          || (e 1 > 1 && (prS pr 1) % 64 ≠ 0) || (e 2 > 1 && (prS pr 2) % 64 ≠ 0) || (e 3 > 1 && (prS pr 3) % 64 ≠ 0)))
    || (wOf f < 8 && (e 0 * wOf f) % 8 ≠ 0) || (wOf g < 8 && (e 0 * wOf g) % 8 ≠ 0)
    || (blk f ≠ 0 && e 0 % blk f ≠ 0) || (blk g ≠ 0 && e 0 % blk g ≠ 0)
    || (sr.elim false (fun r => srTsc r % 4 ≠ 0))

/-- Issue faults of LD.FILL, LD.TOUCH and ST.PUT. -/
def ldstFaults (w : W128) (recs : List W256) (bnd : Vector W32 16) : List Nat :=
  let pr := recs.getD 0 0
  let sr := recs[1]?
  (if ldstPlan w pr = .illegal then [fcIllegalFormat] else []) ++ (if patShapeBad w pr sr bnd then [fcShape] else [])

/-! ### ST.CLW -/

def clwClasp (w : W128) : Nat := fld w 32 6
def clwTile (w : W128) : Nat := fld w 38 9
def clwScope (w : W128) : Nat := fld w 47 2
def clwVal (w : W128) : Nat := fld w 49 48

/-! ### MM (Tables 4.8, 4.9) -/

def moM (w : W128) : Nat := fld w 32 16
def moN (w : W128) : Nat := fld w 48 16
def moFa (w : W128) : Nat := fld w 64 5
def moFb (w : W128) : Nat := fld w 69 5
def moRunl (w : W128) : Nat := fld w 74 3
def moInit (w : W128) : Nat := fld w 77 2
def moXrec (w : W128) : Nat := fld w 79 16
def mrInitBase (r : W256) : Nat := fld r 0 21
def mrInitPitch (r : W256) : Nat := fld r 21 16
def mrTa (r : W256) : Nat := fld r 37 21
def mrTb (r : W256) : Nat := fld r 58 21
def mrOutId (r : W256) : Nat := fld r 79 20
/-- EBASE, EPITCH, SBASE, SPITCH of MM.LDB and MM.STRM; KLEN of MM.LDB. -/
def msEbase (w : W128) : Nat := fld w 32 21
def msEpitch (w : W128) : Nat := fld w 53 16
def msSbase (w : W128) : Nat := fld w 69 21
def msSpitch (w : W128) : Nat := fld w 90 16
def mlKlen (w : W128) : Nat := fld w 106 16
def mdMode (w : W128) : Nat := fld w 32 1
def mdDbase (w : W128) : Nat := fld w 33 21
def mdDpitch (w : W128) : Nat := fld w 54 16
def mdOsc (w : W128) : W32 := BitVec.ofNat 32 (fld w 70 32)

/-! ### VX (Tables 4.10, 4.11, R109) -/

def vxSrc0 (w : W128) : Nat := fld w 32 21
def vxSrc1 (w : W128) : Nat := fld w 53 21
def vxDst (w : W128) : Nat := fld w 74 21
def vxLen (w : W128) : Nat := fld w 95 16
def vxFmt (w : W128) : Nat := fld w 111 5
def vxFunc (w : W128) : Nat := fld w 116 12
def crCtl (r : W256) : Nat := fld r 0 16
def crTensor (r : W256) : Nat := fld r 16 20
def crEidx (r : W256) : Nat := fld r 36 22
def crPsc (r : W256) : Nat := fld r 64 21
def crTsc (r : W256) : Nat := fld r 85 21

/-! ### MV, CL, SY (Tables 4.12, 4.13) -/

def mvDesc (w : W128) : Nat := fld w 34 21
def mvSlot (w : W128) : Fin 8 := fin (fld w 55 3)
def mvPrio (w : W128) : Fin 8 := fin (fld w 58 3)
def clClasp (w : W128) : Nat := fld w 34 6
def clTile (w : W128) : Nat := fld w 40 9
def clChip (w : W128) : Nat := fld w 49 15
def clScope (w : W128) : Nat := fld w 64 2
def clVsrc (w : W128) : Bool := bitOf w 66
def clCond (w : W128) : Fin 4 := fin (fld w 67 2)
def clNkind (w : W128) : Fin 4 := fin (fld w 69 2)
def clNarg (w : W128) : Fin 8 := fin (fld w 71 3)
def clInv (w : W128) : Bool := bitOf w 74
def clVal (w : W128) : Nat := fld w 80 48
def clPoff (w : W128) : Nat := fld w 80 21
def syWhole (w : W128) : Bool := bitOf w 32
def sySpace (w : W128) : Nat := fld w 33 3
def syBase (w : W128) : Nat := fld w 36 48
def syLen (w : W128) : Nat := fld w 84 32
def syMask (w : W128) : Nat := fld w 32 4

/-! ### Vector ranges (R119) -/

/-- Bytes of an element of VFMT. -/
def vfBytes (w : W128) : Nat := if vxFmt w = 0 then 4 else 2

/-- Formats TMODE 1 derives a scale or multiplier for, and how many words it writes at TSC (Table 5.3). -/
def deriveWords : Fmt → Nat
  | .sx4 => 1 | .t2 => 1 | .e4m3 => 2 | .e5m2 => 2 | .int4 => 2 | _ => 0

def crSten (r : W256) : Bool := bitOf r 128
def crStacc (r : W256) : Bool := bitOf r 129
def crStrep (r : W256) : Bool := bitOf r 130
def crTmode (r : W256) : Nat := fld r 131 3
def crStat (r : W256) : Nat := fld r 134 21
def crAoff (r : W256) : Nat := fld r 155 21

/-- Element-wise operations, which may write onto SRC0 exactly, besides SFU and ROT (R119). -/
def TOp.elemwise : TOp → Bool
  | .mov | .add | .sub | .mul | .fma | .max | .min => true
  | _ => false

/-- Ranges a VX instruction reads, reads in place, and writes (R119). -/
structure VRanges where
  reads : List (Nat × Nat)
  inplace : List (Nat × Nat)
  writes : List (Nat × Nat)
deriving DecidableEq, Repr

def vxRanges (op : TOp) (w : W128) (r : W256) (n : Nat) : VRanges :=
  let b := vfBytes w
  let s0 := vxSrc0 w
  let s1 := vxSrc1 w
  let dst := vxDst w
  let f := (Fmt.ofCode (ctlFmt (crCtl r))).getD .fp32
  let dr := if crTmode r = 1 then deriveWords f else 0
  match op with
  | .mov => ⟨[(s0, n * b)], [], [(dst, n * b)]⟩
  | .add | .sub | .mul | .max | .min => ⟨[(s0, n * b), (s1, n * b)], [], [(dst, n * b)]⟩
  | .fma => ⟨[(s0, n * b), (s1, n * b)], [(dst, n * b)], [(dst, n * b)]⟩
  | .sfu => ⟨[(s0, n * b)], [], [(dst, n * b)]⟩
  | .rot => ⟨[(s0, n * b), (s1, 32)], [], [(dst, n * b)]⟩
  | .red => ⟨[(s0, n * b)], [], [(dst, if vxFunc w = 3 || vxFunc w = 4 then 8 else 4)]⟩
  | .amax =>
    if vxFunc w % 2 = 1 then
      let k := if f.isBlock then f.block else 32
      ⟨[(s0, n * b), (s1, 32)], [], [(dst, 4 * ((n + k - 1) / k))]⟩
    else ⟨[(s0, n * b)], if vxFunc w / 2 % 2 = 1 then [(dst, 4)] else [], [(dst, 4)]⟩
  | .topk => ⟨[(s0, n * b), (s1, 4)], [], [(dst, 8 * (vxFunc w % 128))]⟩
  | .topkMerge => ⟨[(s0, 8 * n)], [], [(dst, 8 * (vxFunc w % 128))]⟩
  | .cvt | .quant =>
    let tsc := if f.isMx then [] else if dr ≠ 0 then [(crAoff r, 4)]
               else if f.isBlock || convMul (crCtl r) f then [(crTsc r, 4)] else []
    ⟨[(s0, n * b), (s1, 32)] ++ tsc, if crSten r && crStacc r then [(crStat r, 32)] else [],
     [(dst, (n * f.bits + 7) / 8)] ++ (if op = .quant then [(crPsc r, if f.block = 0 then 0 else n / f.block)] else [])
       ++ (if dr ≠ 0 && !f.isMx then [(crTsc r, 4 * dr)] else []) ++ (if crSten r then [(crStat r, 32)] else [])⟩
  | _ => ⟨[], [], []⟩

def rangesMeet (a b : Nat × Nat) : Bool := a.2 ≠ 0 && b.2 ≠ 0 && decide (a.1 < b.1 + b.2) && decide (b.1 < a.1 + a.2)

end Sys2Proof.Machine
end

