-- ==== Sys2Proof/Machine/Flags.lean ====
section
/-! DEFINITION. Status flags of a tile (R53, R78, R135): how they are set, and which of them an FP32 operation sets. -/

namespace Sys2Proof.Machine

/-- Set flags of TILE_CVT_STATUS (R53). -/
def Device.orCvt (d : Device) (t : TileNo) (f : W32) : Device := d.modTile t (fun x => { x with cvtStatus := x.cvtStatus ||| f })
/-- Set flags of TILE_VX_STATUS (R135). -/
def Device.orVx (d : Device) (t : TileNo) (f : W32) : Device := d.modTile t (fun x => { x with vxStatus := x.vxStatus ||| f })
/-- OR TILE_ACC_CUR into TILE_ACC_STATUS (R78). -/
def Device.orAcc (d : Device) (t : TileNo) (f : W32) : Device := d.modTile t (fun x => { x with accStatus := x.accStatus ||| f })

def vxOvf : W32 := 1
def vxInvalid : W32 := 2
def vxNanIn : W32 := 4
def vxNonFin : W32 := 8

/-- Flags of one FP32 operation (R135): VX_INVALID for a NaN from sources that are not NaN, VX_OVF for an infinity from
finite sources. -/
def opFlags (r : W32) (args : List W32) : W32 :=
  if args.any isNan32 then 0
  else if isNan32 r then vxInvalid
  else if isInf32 r && args.all isFinite32 then vxOvf else 0

/-- One level of a pairwise sum with its flags. -/
def pairFlags : List W32 → W32
  | a :: b :: r => opFlags (fadd a b) [a, b] ||| pairFlags r
  | _ => 0

/-- Flags of a pairwise sum (R122), over at most `n` levels. -/
def sumFlagsN : Nat → List W32 → W32
  | 0, _ => 0
  | n + 1, l => if l.length < 2 then 0 else pairFlags l ||| sumFlagsN n (pairLevel l)

def pairSumFlags (l : List W32) : W32 := sumFlagsN (l.length.log2 + 1) l

/-- VX_NANIN of a list of source elements (R135). -/
def nanInFlag (l : List W32) : W32 := if l.any isNan32 then vxNanIn else 0

/-- OR of a list of flag words. -/
def orAll (l : List W32) : W32 := l.foldl (· ||| ·) 0

/-! Flags of the accumulator (R77): ACC_OVF 0, ACC_NAN 1, ACC_INF_OPND 2. -/

/-- Flags of one accumulator operation: an infinity from finite values, or a NaN whatever its cause. -/
def accFlags (r : W32) (args : List W32) : W32 :=
  if isNan32 r then 2 else if isInf32 r && args.all isFinite32 then 1 else 0

end Sys2Proof.Machine
end

