-- ==== Sys2Proof/Machine/Ops.lean ====
section
/-! DEFINITION. Operations shared by the commands: the passing of device time, started instructions of an engine,
requests that await an answer, peer repair. -/

namespace Sys2Proof.Machine

/-- Device time after one nanosecond of it (R323, R407): while a slew is due, one nanosecond in 10,000 is added or
omitted. -/
def Tsync.tick (y : Tsync) : Nat × Tsync :=
  if y.slew = 0 then (1, y)
  else if y.slewPhase < 9999 then (1, { y with slewPhase := y.slewPhase + 1 })
  else if y.slew > 0 then (2, { y with slewPhase := 0, slew := y.slew - 1 })
  else (0, { y with slewPhase := 0, slew := y.slew + 1 })

/-- One line of a page copy (R293): it is read as any access reads it (R286, R287) and goes to the spare, corrected or poisoned; the copy
pointer moves. -/
def Device.copyLine (d : Device) (r : Remap) : Device :=
  if r.ptr < 32768 then
    let src := r.old * 32768 + r.ptr
    let dst := r.new * 32768 + r.ptr
    let m := d.meetLine r.old r.ptr
    let d := m.2
    let bad := if m.1 then alErase d.hbmBad dst else alSet d.hbmBad dst .poison
    { d with hbm := d.hbm.write (64 * dst) (d.hbm.read (64 * src) 64), hbmBad := bad,
             remaps := d.remaps.map (fun q => if q.old = r.old then { q with ptr := q.ptr + 1 } else q) }
  else d

/-- A wait clause that does not hold (R95). -/
def Tile.waits (x : Tile) (w : W128) : Bool := wWcnt w ≠ 0 && decide ((x.tok[wWtok w]).toNat < wWcnt w)

/-- Whether the head of an engine queue (0 to 3), or dispatch (4), waits for a token (R85, R95). -/
def Tile.tokenWait (x : Tile) (k : Fin 5) : Bool :=
  if h : k.val < 4 then
    (match x.queues[k.val]'h with
     | e :: _ => x.waits e.word
     | [] => false)
  else x.mode = .stalled && x.waits (BitVec.ofNat 128 (x.pocket.word x.pc 16))

/-- What a tile counts in the nanosecond after `now` (R446): the tc of its clock that begin in it, busy while an engine has
started work, stalled while dispatch is, and how long each token wait has taken (log 5). -/
def Tile.tick (now : W64) (x : Tile) : Tile :=
  if x.mhz = 0 then x
  else
    let n := (now.toNat + 1) * x.mhz / 1000 - now.toNat * x.mhz / 1000
    let tc : W64 := BitVec.ofNat 64 n
    { x with cntBusy := if (List.finRange 4).all (fun e => (x.flight[e]).isEmpty) then x.cntBusy else x.cntBusy + tc,
             cntStall := if x.mode = .stalled then x.cntStall + tc else x.cntStall,
             waited := Vector.ofFn (fun (k : Fin 5) => if x.tokenWait k then x.waited[k] + n else 0) }

/-- Token waits of a tile that pass 64 tc in this nanosecond (Table 19.3). -/
def Tile.longWaits (now : W64) (x : Tile) : Nat :=
  if x.mhz = 0 then 0
  else (List.finRange 5).countP (fun k => decide (x.waited[k] ≤ 64) && decide (64 < ((x.tick now).waited)[k]))

/-- Counter sets see the token waits of each bound tile that pass 64 tc (EVENT 0x004). -/
def Device.countWaits (d : Device) (now : W64) : Device :=
  (d.tiles.toList.zipIdx.filter (fun q => q.1.longWaits now ≠ 0)).foldl
    (fun e q => e.count q.1.bound 0x004 q.2 (q.1.longWaits now)) d

/-- One nanosecond of device time (R407): the counter counts in every state; tiles count and page copies move on while the
islands run (log 5). -/
def tick (d : Device) : Device :=
  let y := d.tsync.tick
  let now := d.devTime
  let e : Device := { d with devTime := now + BitVec.ofNat 64 y.1, tsync := y.2 }
  if d.live then e.remaps.foldl Device.copyLine { e.countWaits now with tiles := e.tiles.map (Tile.tick now) } else e

/-! ### Started instructions -/

/-- A byte range of a space: space (0 or 1 with its tile, 2, 3), first byte, length. -/
structure Foot where
  space : Nat
  tile : Nat
  lo : Nat
  len : Nat
deriving DecidableEq, Repr

def Foot.meets (a b : Foot) : Bool :=
  a.space = b.space && a.tile = b.tile && decide (a.lo < b.lo + b.len) && decide (b.lo < a.lo + a.len)

/-- The spaces of an LD or ST as footprints: SPACE 0 is the own tile's SPACE 1. -/
def footAt (own : TileNo) (pr : W256) (lo len : Nat) : Foot :=
  if prSpace pr = 0 then { space := 1, tile := own, lo := lo, len := len }
  else if prSpace pr = 1 then { space := 1, tile := prTile pr, lo := lo, len := len }
  else { space := prSpace pr, tile := 0, lo := lo, len := len }

def fmtBits (c : Nat) : Nat := (Fmt.ofCode c).elim 0 Fmt.bits

/-- Row addresses of a pattern's elements; for index patterns the table is read by the caller. -/
def elemRows (e : Entry) (pr : W256) (idx : List Nat) : List Nat :=
  let x i := prExt pr i e.bnd
  let base := ofsBase (prBase pr) (prOfs pr) e.bnd
  if prPat pr ≥ 2 then indexRows base (prS pr 2) idx
  else rowStarts base (prS pr 1) (prS pr 2) (prS pr 3) (x 1) (x 2) (x 3)

/-- Row addresses of the scales (R103). -/
def scaleRows (e : Entry) (pr sr : W256) (idx : List Nat) : List Nat :=
  let x i := prExt pr i e.bnd
  let base := ofsBase (srBase sr) (srSofs sr) e.bnd
  if prPat pr ≥ 2 then indexRows base (srS sr 2) idx
  else rowStarts base (srS sr 1) (srS sr 2) (srS sr 3) (x 1) (x 2) (x 3)

/-- Number of rows of a pattern. -/
def rowCount (e : Entry) (pr : W256) : Nat := prExt pr 1 e.bnd * prExt pr 2 e.bnd * prExt pr 3 e.bnd

/-- Index entries from a table's bytes. -/
def indexEntries (pr : W256) (bs : List Byte) : List Nat := unpackBytes (if prPat pr = 2 then 32 else 64) (bs.length / (if prPat pr = 2 then 4 else 8)) bs

/-- Tensor scale and multiplier an LD or ST reads at TSC (R104): offset and bytes, and how they are taken. -/
def tscNeed (src : Fmt) (pl : Plan) : Nat :=
  match pl with
  | .convert a b =>
    let s := src = .sx4 || src = .t2
    if s && a then 8 else if s || a || b then 4 else 0
  | _ => 0

/-- The index table of an LD or ST pattern: its pocket offset and length, none for PAT 0 and 1 (R102). -/
def itabRange (e : Entry) (pr : W256) : Nat × Nat :=
  (prItab pr, if prPat pr = 2 then 4 * prExt pr 1 e.bnd else if prPat pr = 3 then 8 * prExt pr 1 e.bnd else 0)

/-- Bytes an access reads, and bytes it writes. -/
structure Feet where
  reads : List Foot
  writes : List Foot
deriving DecidableEq, Repr

/-- A range of the own pocket. -/
def ownFoot (own : TileNo) (r : Nat × Nat) : Foot := { space := 1, tile := own, lo := r.1, len := r.2 }

/-- What an LD or ST reads and writes (R102 to R104): elements and scales of both sides, tensor scale and multiplier, index table. The
index entries are those the pocket holds now. -/
def Entry.ldstFeet (own : TileNo) (x : Tile) (e : Entry) : Feet :=
  let pr := e.recs.getD 0 0
  let sr := e.recs.getD 1 0
  let put := decodeOp e.word = some .put
  let ms := (Fmt.ofCode (prFmt pr)).getD .fp32
  let src := if put then (Fmt.ofCode (prPfmt pr)).getD .fp32 else ms
  let tgt := (Fmt.ofCode (ctlFmt (ldCvt e.word))).getD .fp32
  let n := prExt pr 0 e.bnd * rowCount e pr
  let ti := itabRange e pr
  let idx := indexEntries pr (x.pocket.read ti.1 ti.2)
  let mem := (elemRows e pr idx).map (fun a => footAt own pr a (rowBytes ms (prExt pr 0 e.bnd)))
    ++ (if ms.isBlock then (scaleRows e pr sr idx).map (fun a => footAt own pr a (prExt pr 0 e.bnd / ms.block)) else [])
  let side := if put then src else tgt
  let pocket := [ownFoot own (ldPoff e.word, (n * side.bits + 7) / 8)]
    ++ (if side.isBlock then [ownFoot own (srPsc sr, n / side.block)] else [])
  let asks := [ownFoot own ti, ownFoot own (srTsc sr, tscNeed src (ldstPlan e.word pr))]
  match decodeOp e.word with
  | some .put => ⟨pocket ++ asks, mem⟩
  | some .touch => ⟨mem ++ asks, []⟩
  | _ => ⟨mem ++ asks, pocket⟩

/-- The word of a clasp that a CL instruction or an ST.CLW names, of the own tile where `tile` is none. Clasps of other chips lie in spaces
of their own. -/
def claspFoot (own : TileNo) (scope tile chip clasp : Nat) : Foot :=
  { space := if scope = 2 then 16 + chip else 1, tile := if scope = 0 then own.val else tile, lo := claspOff clasp, len := 8 }

/-- The pocket operand of a CL instruction: read, and its word at +8 written (R110). -/
def Entry.clFeet (own : TileNo) (e : Entry) : Feet :=
  let w := e.word
  let c := claspFoot own (clScope w) (clTile w) (clChip w) (clClasp w)
  if clVsrc w then ⟨[c, ownFoot own (clPoff w, 16)], [ownFoot own (clPoff w + 8, 8)]⟩ else ⟨[c], []⟩

/-- N and B format that an MM.LDB works for: the opening tile's, else the open one's. -/
def MM.loadFor (m : MM) : Nat × Nat :=
  match m.opening, m.tile with
  | some e, _ => (extent (moN e.word) e.bnd, moFb e.word)
  | none, some o => (o.n, o.fb)
  | none, none => (0, 0)

/-- What a started instruction reads and writes (R155); an MM instruction: its operands, or its drained rows. -/
def Entry.feet (own : TileNo) (x : Tile) (e : Entry) : Feet :=
  let w := e.word
  match decodeOp w with
  | some .fill | some .touch | some .put => e.ldstFeet own x
  | some .clw => ⟨[], [claspFoot own (clwScope w) (clwTile w) 0 (clwClasp w)]⟩
  | some .ldb =>
    let q := x.mm.loadFor
    let f := (Fmt.ofCode q.2).getD .bf16
    let k := extent (mlKlen w) e.bnd
    ⟨(List.range q.1).flatMap (fun i => [ownFoot own (msEbase w + i * msEpitch w, k * f.bits / 8),
      ownFoot own (msSbase w + i * msSpitch w, if f.isBlock then (k + f.block - 1) / f.block else 0)]), []⟩
  | some .drain =>
    ⟨[], (x.mm.tile).elim [] (fun o => (List.range o.m).map (fun i =>
      ownFoot own (mdDbase w + i * mdDpitch w, (if mdMode w = 1 then 8 else 4) * o.n)))⟩
  | some op =>
    if wClass w = 6 then e.clFeet own
    else if wClass w = 3 then
      let v := vxRanges op w (e.recs.getD 0 0) (extent (vxLen w) e.bnd)
      ⟨(v.reads ++ v.inplace).map (ownFoot own), v.writes.map (ownFoot own)⟩
    else ⟨[], []⟩
  | none => ⟨[], []⟩

/-- Whether two accesses of one engine may be performed in either order: nothing one writes is read or written by the
other (R155, R156). -/
def Feet.apart (a b : Feet) : Bool :=
  !(a.writes.any (fun f => (b.reads ++ b.writes).any f.meets)) && !(b.writes.any (fun f => (a.reads ++ a.writes).any f.meets))

/-- Whether an instruction's accesses are flagged (R157, R174). -/
def Entry.flagged (e : Entry) : Bool :=
  match decodeOp e.word with
  | some .put => ldFlag e.word
  | some .clw => ldFlag e.word
  | some .clAdd | some .clSwap | some .clCas | some .clAnd | some .clOr | some .clMax => true
  | _ => false

/-- MV instructions are the tile mover's (R155): they keep no order with the accesses of the engine in whose queue they ride. -/
def Entry.moves (e : Entry) : Bool := wClass e.word = 5

/-- Whether a started instruction may be performed before an earlier one of its queue that is not performed yet (R155, R156, R174): they
are no two MV instructions and neither invalidates the lining; of two MM instructions only an MM.OPEN or MM.LDB passes, the drain of
the tile before (R68, R69); and their accesses meet nowhere. -/
def Entry.passes (own : TileNo) (x : Tile) (f g : Entry) : Bool :=
  if f.moves || g.moves then f.moves != g.moves
  else if decodeOp f.word = some .inval || decodeOp g.word = some .inval then false
  else if wClass f.word = 2 && wClass g.word = 2 then
    decodeOp g.word = some .drain && (decodeOp f.word = some .mmOpen || (decodeOp f.word = some .ldb && (f.feet own x).apart (g.feet own x)))
  else (f.feet own x).apart (g.feet own x)

/-- Whether a started instruction may be performed after the ones started before it (R155 to R157): a flagged one only
after every earlier access of its engine is performed and answered, another one in order or past earlier ones that it does not meet (log
11). -/
def orderOk (own : TileNo) (x : Tile) (before : List Flight) (f : Flight) : Bool :=
  before.all (fun g =>
    if f.e.flagged && !g.e.moves then g.performed && g.awaits == 0 else g.performed || f.e.passes own x g.e)

/-- The k-th started instruction of an engine, if it is of the named operation and may be performed now. -/
def Device.ready (d : Device) (t : TileNo) (e : Eng) (k : Nat) (op : TOp) : Option Flight :=
  let x := d.tiles[t]
  if x.mode = .faulted || x.ctx.isNone then none
  else
    match x.flight[e.idx][k]? with
    | some f =>
      if !f.performed && decide (decodeOp f.e.word = some op) && orderOk t x (x.flight[e.idx].take k) f then some f else none
    | none => none

/-- Edit the k-th started instruction of an engine. -/
def Device.modFlightAt (d : Device) (t : TileNo) (e : Eng) (k : Nat) (f : Flight → Flight) : Device :=
  d.modFlight t e (fun l => l.modify k f)

/-- The k-th started instruction has performed its accesses and awaits `n` replies. -/
def Device.performed (d : Device) (t : TileNo) (e : Eng) (k n : Nat) : Device :=
  d.modFlightAt t e k (fun f => { f with performed := true, awaits := n, buf := none, sentAt := d.devTime })

/-- The k-th started instruction has a request outstanding and is not performed yet. -/
def Device.waiting (d : Device) (t : TileNo) (e : Eng) (k : Nat) : Device :=
  d.modFlightAt t e k (fun f => if f.awaits = 0 then { f with awaits := 1, sentAt := d.devTime } else f)

/-- A fault met while a started instruction is performed (R114): its unit and its program offset. -/
def Device.execFault (d : Device) (t : TileNo) (e : Eng) (f : Flight) (code detail : Nat) : Device :=
  d.faultTile t code (unitOf e) f.e.pcq detail

/-- The partition and context of a tile's kernel. -/
def Device.owner (d : Device) (t : TileNo) : Option (PartNo × CtxNo) :=
  match (d.tiles[t]).bound, (d.tiles[t]).ctx with
  | some p, some c => some (p, c)
  | _, _ => none

/-! ### Peer repair (R289, R382) -/

/-- Requester number of the reliability block in packets (log 23). -/
def relReq : Nat := 1023

/-- Send a repair request for a line to the peer (R382 step 1): 32 bytes into a free slot of the peer's mailbox, then ADD
1 to its mailbox clasp. One request per line and requester; with no slot free nothing is sent yet. -/
def Device.askRepair (d : Device) (p : PartNo) (addr : Nat) (who : Requester) : Device :=
  let line := addr - addr % 64
  let q := d.parts[p]
  match d.repairRange p line with
  | none => d
  | some k =>
    if q.repairReqs.any (fun r => r.lineAddr = line && r.who = who) then d
    else
      match (List.finRange 16).find? (fun s => q.repairReqs.all (fun r => r.range ≠ k || r.slot ≠ s)) with
      | none => d
      | some s =>
        let r := q.repairs[k]
        let ver := clValue (d.claspWord (fin (r.version % 512)) (r.version / 512 % 64))
        let g := d.newTag (.repair p)
        let tag := g.1
        let body := leBytes 8 (r.peerBase + (line - r.base)) ++ leBytes 8 ver ++ leBytes 16 (tag + 2 ^ 24)
        let d := g.2.modPart p (fun q => { q with repairReqs := q.repairReqs ++
          [{ range := k, slot := s, part := p, lineAddr := line, sentAt := d.devTime, who := who }] })
        let mt := r.mailbox % 512
        let mo := r.mailbox / 512 % 512 * 4096
        let d := d.inject p collarCuff 0 r.peerChip (midReq mt (mo + 256 * s) relReq) body
        d.inject p collarCuff 3 r.peerChip (midReq mt (claspOff (r.mailbox / 2 ^ 18 % 64)) relReq)
          (leBytes 24 (tag + clAddOp <<< 24 + (r.mailbox / 2 ^ 18 % 64) <<< 32 + 1 <<< 64))

end Sys2Proof.Machine
end

