-- ==== Sys2Proof/Machine/MoverDesc.lean ====
section
/-! DEFINITION. Mover descriptors and pattern records (R191 to R195, R202, R214): fields, and what makes a descriptor
invalid. -/

namespace Sys2Proof.Machine

def dExec (d : BitVec 512) : Nat := fld d 0 2
def dMover (d : BitVec 512) : Nat := fld d 2 4
def dPrio (d : BitVec 512) : Fin 8 := fin (fld d 6 3)
def dFlagm (d : BitVec 512) : Nat := fld d 9 2
def dPace (d : BitVec 512) : Nat := fld d 11 3
def dPool (d : BitVec 512) : Bool := bitOf d 14
def dPoolId (d : BitVec 512) : PoolNo := fin (fld d 15 3)
def dPwait (d : BitVec 512) : Bool := bitOf d 18
def dDoneOp (d : BitVec 512) : Nat := fld d 19 2
def dDoneClasp (d : BitVec 512) : Nat := fld d 21 6
def dDoneTile (d : BitVec 512) : Nat := fld d 27 9
def dDoneChip (d : BitVec 512) : Nat := fld d 36 15
def dDoneScope (d : BitVec 512) : Nat := fld d 51 2
def dDoneVal (d : BitVec 512) : Nat := fld d 53 16

/-- An endpoint (Table 8.3). -/
structure Endpt where
  base : Nat
  space : Nat
  tile : Nat
  chip : Nat
  prec : Nat
deriving DecidableEq, Repr

/-- The source (`dst` false) or destination endpoint of a descriptor (R192). -/
def dEp (d : BitVec 512) (dst : Bool) : Endpt :=
  let o := if dst then 256 else 128
  { base := fld d o 48, space := fld d (o + 48) 3, tile := fld d (o + 51) 9, chip := fld d (o + 60) 15,
    prec := fld d (o + 75) 16 }

def dTStart (d : BitVec 512) : W64 := BitVec.ofNat 64 (fld d 384 64)
def dTPeriod (d : BitVec 512) : Nat := fld d 448 32
def dBurst (d : BitVec 512) : Nat := fld d 480 32
def dWExec (d : BitVec 512) : Nat := fld d 384 2
def dWMover (d : BitVec 512) : Nat := fld d 386 4
def dWTile (d : BitVec 512) : TileNo := fin (fld d 390 9)
def dWSlot (d : BitVec 512) : Nat := fld d 399 6
def dCVal (d : BitVec 512) : Nat := fld d 384 48
def dCClasp (d : BitVec 512) : Nat := fld d 432 6
def dCTile (d : BitVec 512) : TileNo := fin (fld d 438 9)
def dCCond (d : BitVec 512) : Fin 4 := fin (fld d 447 2)
def dFHead (d : BitVec 512) : Nat := fld d 384 6
def dFTail (d : BitVec 512) : Nat := fld d 390 6
def dFTile (d : BitVec 512) : TileNo := fin (fld d 396 9)
def dFHigh (d : BitVec 512) : Nat := fld d 405 24
def dFLow (d : BitVec 512) : Nat := fld d 429 24
def dFUnit (d : BitVec 512) : Nat := fld d 453 32

/-! Pattern records (Table 8.4). -/

def mpPat (r : W256) : Nat := fld r 0 3
def mpWrap (r : W256) : Nat := fld r 3 5
def mpE0 (r : W256) : Nat := fld r 8 24
def mpE1 (r : W256) : Nat := fld r 32 16
def mpE2 (r : W256) : Nat := fld r 48 16
def mpE3 (r : W256) : Nat := fld r 64 16
def mpS1 (r : W256) : Int := sfld r 80 40
def mpS1u (r : W256) : Nat := fld r 80 40
def mpS2 (r : W256) : Int := sfld r 120 40
def mpS3 (r : W256) : Int := sfld r 160 40
def mpIspc (r : W256) : Bool := bitOf r 200
def mpIbase (r : W256) : Nat := fld r 201 48

/-- Bytes of a pattern's stream (R195). -/
def mpBytes (r : W256) : Nat := mpE0 r * mpE1 r * mpE2 r * mpE3 r

/-- Bytes of an index entry. -/
def mpEntry (r : W256) : Nat := 4 * mpPat r

/-- A record that breaks R194. `hosted`: launched without a tile, so no index table in a launching tile's pocket (R190). -/
def mpBad (r : W256) (hosted : Bool) : Bool :=
  mpPat r > 2 || (mpWrap r ≠ 0 && (mpWrap r < 6 || mpWrap r > 30))
    || mpE0 r = 0 || mpE1 r = 0 || mpE2 r = 0 || mpE3 r = 0
    || (mpPat r ≠ 0 && (mpE2 r ≠ 1 || mpE3 r ≠ 1 || mpIbase r % mpEntry r ≠ 0 || (hosted && !mpIspc r)))

/-- Whether a partition may launch on a bulk or host/link mover (R188). -/
def Device.moverServes (d : Device) (p : PartNo) (exec mover : Nat) : Bool :=
  if exec = 1 then (if h : mover < 16 then (d.bulkBound[mover]'h).map (·.1) = some p else false)
  else mover < 8 && (List.finRange 16).all (fun q => q = p || d.cfg 0x6090 2 q / 2 ^ mover % 2 = 0)

/-- A control or pacing word that breaks R191, R192, R202 to R204, R214 or R474. -/
def Device.descBad (d : Device) (p : PartNo) (hosted : Bool) (x : BitVec 512) : Bool :=
  let s := dEp x false
  let t := dEp x true
  dExec x = 3 || dFlagm x = 3 || dPace x > 4 || dDoneOp x = 3
    || dDoneScope x = 3 || (dDoneOp x ≠ 0 && dDoneClasp x > 47) || (dDoneOp x = 2 && !dPool x)
    || (dExec x ≠ 0 && !d.moverServes p (dExec x) (dMover x))
    || s.space > 4 || t.space > 5 || (dExec x ≠ 2 && (s.space = 4 || t.space = 4)) || (dPool x != (t.space == 5))
    || (hosted && (s.space = 0 || t.space = 0 || (dDoneOp x ≠ 0 && dDoneScope x = 0) || dExec x = 0))
    || (dPace x = 1 && dTPeriod x ≠ 0 && (dBurst x = 0 || dBurst x % 64 ≠ 0))
    || (dPace x = 2 && (dWExec x = 3
          || (dWExec x = 0 && (dWSlot x > 7 || (d.tiles[dWTile x]).bound ≠ some p))
          || (dWExec x = 1 && (dWSlot x > 15 || !d.moverServes p 1 (dWMover x)))
          || (dWExec x = 2 && (dWMover x > 7))))
    || (dPace x = 3 && (dCClasp x > 47 || (d.tiles[dCTile x]).bound ≠ some p))
    || (dPace x = 4 && (dFHead x > 47 || dFTail x > 47 || (d.tiles[dFTile x]).bound ≠ some p
          || dFLow x = 0 || dFLow x > dFHigh x || dFUnit x = 0))

/-- A descriptor with its two records that a launch refuses (R189, R190). -/
def Device.launchBad (d : Device) (p : PartNo) (hosted : Bool) (x : BitVec 512) (src dst : W256) : Bool :=
  d.descBad p hosted x || mpBad src hosted || mpBad dst hosted || mpBytes src ≠ mpBytes dst
    || (dPool x && mpBytes dst > 4096 - (dEp x true).base % 4096)

/-- The mover that runs a channel (R190). -/
def execMover (t : Option TileNo) (x : BitVec 512) : MoverId :=
  if dExec x = 1 then .bulk (fin (dMover x))
  else if dExec x = 2 then .hl (fin (dMover x))
  else .tile (t.getD 0)

end Sys2Proof.Machine
end

