-- ==== Sys2Proof/Machine/Issue.lean ====
section
/-! DEFINITION. Fetch, the controller's reads, stalls and faults at issue, and dispatch into an engine queue (R83 to R93,
R111, R114, R474). -/

namespace Sys2Proof.Machine

/-! ### Geometry of the tensor array (R55, R56) -/

/-- K_c of a format's row (Table 3.1). -/
def rowKc : Fmt → Nat
  | .fp32 => 0
  | .bf16 => 32 | .fp16 => 32
  | .e4m3 => 64 | .e5m2 => 64 | .mxE4M3 => 64 | .mxE5M2 => 64 | .mxE2M3 => 64 | .mxE3M2 => 64
  | .mxE2M1 => 128 | .sx4 => 128 | .int4 => 128
  | .t2 => 256

/-- K_c of a pair of operand formats, none where R55 refuses it. -/
def kcOf (fa fb : Nat) : Option Nat :=
  match Fmt.ofCode fa, Fmt.ofCode fb with
  | some a, some b => if a = .fp32 || b = .fp32 || a = .t2 then none
                      else if b = .t2 then some (if rowKc a = 128 then 256 else rowKc a)
                      else some (min (rowKc a) (rowKc b))
  | _, _ => none

/-- G of a pair of operand formats (R56). -/
def groupOf (a b : Fmt) (kc : Nat) : Nat :=
  if rowKc a = 32 || rowKc b = 32 || (!a.isBlock && !b.isBlock) then 1
  else min kc (min (if a.isBlock then a.block else kc) (if b.isBlock then b.block else kc))

/-! ### Reads at issue -/

/-- The next pocket range the controller reads for an instruction, given the records already read (R92, R474). -/
def issueRead (op : TOp) (w : W128) (got : List W256) : Option (Nat × Nat) :=
  match op, got with
  | .fill, [] => some (32 * ldXrec w, 32)
  | .fill, [pr] => if wantsScale w pr then some (32 * ldXrec w + 32, 32) else none
  | .touch, [] => some (32 * ldXrec w, 32)
  | .touch, [pr] => if wantsScale w pr then some (32 * ldXrec w + 32, 32) else none
  | .put, [] => some (32 * ldXrec w, 32)
  | .put, [pr] => if wantsScale w pr then some (32 * ldXrec w + 32, 32) else none
  | .mmOpen, [] => some (32 * moXrec w, 32)
  | .cvt, [] => some (vxSrc1 w, 32)
  | .quant, [] => some (vxSrc1 w, 32)
  | .rot, [] => some (vxSrc1 w, 32)
  | .amax, [] => if vxFunc w % 2 = 1 then some (vxSrc1 w, 32) else none
  | .topk, [] => some (vxSrc1 w, 4)
  | .launch, [] => some (mvDesc w, 32)
  | .launch, [_] => some (mvDesc w + 32, 32)
  | .launch, [a, _] => some (32 * fld a 203 16, 32)
  | .launch, [_, b, _] => some (32 * fld b 75 16, 32)
  | _, _ => none

/-- Records read by the controller, at most four; the fault that stopped the reading (R144, R474). -/
def Device.readRecs (d : Device) (t : TileNo) (op : TOp) (w : W128) : Nat → List W256 → List W256 × Option Nat × Device
  | 0, got => (got, none, d)
  | n + 1, got =>
    match issueRead op w got with
    | none => (got, none, d)
    | some (off, len) =>
      if off + len > claspBase then (got, some fcClaspRegion, d)
      else
        let r := d.pocketRead t off len 0
        if r.1.st = .ue then (got, some fcPocketUe, r.2)
        else r.2.readRecs t op w n (got ++ [BitVec.ofNat 256 (leNat r.1.bytes)])

/-- Bound registers an instruction names (R85, R90). -/
def issueRegs (op : TOp) (w : W128) (recs : List W256) : List (Fin 16) :=
  let pr := recs.getD 0 0
  match op with
  | .fill | .touch | .put =>
    extentReg (prE pr 0) ++ extentReg (prE pr 1) ++ extentReg (prE pr 2) ++ extentReg (prE pr 3) ++ ofsReg (prOfs pr)
      ++ ((recs[1]?).elim [] (fun s => ofsReg (srSofs s)))
  | .mmOpen => extentReg (moM w) ++ extentReg (moN w)
  | .ldb => extentReg (mlKlen w)
  | .br | .bld | .bset | .badd => [fin (fld w 32 4)]
  | .loop => extentReg (fld w 34 16)
  | .fsel => [fin (fld w 74 4)]
  | _ => if wClass w = 3 then extentReg (vxLen w) else []

/-! ### Vector overlap (R119) -/

/-- Overlap of a written range with a read one other than DST = SRC0 exactly where R119 allows it. A range read in place is written by
one of the writes itself; another write that meets it overlaps. -/
def vxOverlap (op : TOp) (w : W128) (r : W256) (n : Nat) : Bool :=
  let v := vxRanges op w r n
  let same := (op.elemwise || op = .sfu || op = .rot) && vxDst w = vxSrc0 w
  v.writes.any (fun x => v.reads.any (fun y => rangesMeet x y && !(same && x = y)))
    || v.inplace.any (fun y => decide (1 < (v.writes.filter (rangesMeet y)).length))

/-! ### Faults at issue -/

/-- CVT_CTL that R26 or R52 refuses. -/
def ctlBad (c : Nat) : Bool :=
  match Fmt.ofCode (ctlFmt c) with
  | none => true
  | some f => ctlRnd c = 3 || (f.isMx && ctlScale c ≥ 2)

/-- The target format a conversion record names. -/
def crFmt (r : W256) : Fmt := (Fmt.ofCode (ctlFmt (crCtl r))).getD .fp32

/-- Formats a VX word and its record, if it has been read, may not have (R93, R104, R117, R125 to R127). MUL of a VX.CVT into another
format that takes no multiplier is a combination R104 refuses; equal formats are copied, and VX.QUANT does not read MUL (log 27). -/
def vxFormatBad (op : TOp) (w : W128) (recs : List W256) : Bool :=
  let r := recs.getD 0 0
  let c := crCtl r
  let f := crFmt r
  let conv := op = .cvt || op = .quant
  let usesRec := conv || (op = .amax && vxFunc w % 2 = 1)
  vxFmt w > 1 || (usesRec && !recs.isEmpty && ctlBad c) || (conv && !recs.isEmpty && crTmode r > 1)
    || (op = .cvt && !recs.isEmpty && f.code ≠ vxFmt w && ctlMul c && !takesMul f)
    || (op = .cvt && !recs.isEmpty && !scalarTarget f)
    || (op = .quant && !recs.isEmpty && !f.isBlock)

/-- Shapes of `n` elements a VX word and its record, if it has been read, may not have (R93, R108, R119, R124, R130, R133). -/
def vxShapeBad (op : TOp) (w : W128) (recs : List W256) (n : Nat) : Bool :=
  let r := recs.getD 0 0
  let f := crFmt r
  let conv := op = .cvt || op = .quant
  let usesRec := conv || (op = .amax && vxFunc w % 2 = 1)
  n > 65535 || vxSrc0 w % 16 ≠ 0 || vxSrc1 w % 16 ≠ 0 || vxDst w % 16 ≠ 0
    || (usesRec && vxSrc1 w % 32 ≠ 0)
    || ((op = .sfu || op = .red) && vxFunc w > 5)
    || (op = .rot && (vxFunc w % 16 < 4 || vxFunc w % 16 > 8 || vxFunc w ≥ 32 || n % 2 ^ (vxFunc w % 16) ≠ 0))
    || ((op = .topk || op = .topkMerge) && (vxFunc w % 128 = 0 || vxFunc w % 128 > 64))
    || (op = .topk && !recs.isEmpty && n ≠ 0 && fld r 0 32 + n - 1 > 0xFFFFFFFE)
    || (op = .quant && !recs.isEmpty && f.isBlock && n % f.block ≠ 0)
    || (conv && !recs.isEmpty && ((crSten r && crStat r % 32 ≠ 0)
          || (crTmode r = 1 && deriveWords f ≠ 0 && crAoff r % 4 ≠ 0)))

/-- Faults a VX word and its record raise at issue (R93, R119). -/
def vxFaults (op : TOp) (w : W128) (recs : List W256) (bnd : Vector W32 16) : List Nat :=
  let n := extent (vxLen w) bnd
  let f := vxFormatBad op w recs
  (if f then [fcIllegalFormat] else [])
    ++ (if vxShapeBad op w recs n || (!f && n ≠ 0 && vxOverlap op w (recs.getD 0 0) n) then [fcShape] else [])

/-- Faults an MM word and its record raise at issue (R55, R58 to R61, R93). -/
def mmFaults (op : TOp) (w : W128) (recs : List W256) (bnd : Vector W32 16) (m : MM) : List Nat :=
  let ext f := extent f bnd
  match op with
  | .mmOpen =>
    let r := recs.getD 0 0
    (if (kcOf (moFa w) (moFb w)).isNone then [fcIllegalFormat] else [])
      ++ (if m.issueOpen then [fcMmSequence] else [])
      ++ (if ext (moM w) < 1 || ext (moM w) > 128 || ext (moN w) < 1 || ext (moN w) > 128 || moRunl w > 4 || moInit w = 3
            || mrInitBase r % 16 ≠ 0 || mrInitPitch r % 16 ≠ 0 || mrTa r % 4 ≠ 0 || mrTb r % 4 ≠ 0 then [fcMmShape] else [])
  | .ldb =>
    let k := ext (mlKlen w)
    (if !m.issueOpen then [fcMmSequence] else [])
      ++ (if msEbase w % 16 ≠ 0 || msEpitch w % 16 ≠ 0 || k % 16 ≠ 0 || k < 16
            || (m.issueOpen && k > (kcOf m.issueFA m.issueFB).getD 0) || k > 256 then [fcMmShape] else [])
  | .strm =>
    (if !m.issueOpen || !m.issueLoaded then [fcMmSequence] else [])
      ++ (if msEbase w % 16 ≠ 0 || msEpitch w % 16 ≠ 0 then [fcMmShape] else [])
  | _ =>
    (if !m.issueOpen then [fcMmSequence] else [])
      ++ (if mdDbase w % 16 ≠ 0 || mdDpitch w % 16 ≠ 0 then [fcMmShape] else [])

/-- Whether an operation changes a clasp (Table 7.3). -/
def TOp.isClAtomic : TOp → Bool
  | .clAdd | .clSwap | .clCas | .clAnd | .clOr | .clMax => true
  | _ => false

/-- Faults a CL word raises at issue (R110, R172, R179, R474). -/
def clFaults (op : TOp) (w : W128) : List Nat :=
  if clClasp w > 47 || clScope w = 3 || (clVsrc w && clPoff w % 16 ≠ 0)
      || ((op = .clCas || op = .clRead) && !clVsrc w) || (op = .clWatch && (clNkind w = 1 || clNkind w = 3))
  then [fcShape] else []

/-- Faults of a queued instruction at issue, in no order (R114). -/
def Device.issueFaults (d : Device) (t : TileNo) (op : TOp) (w : W128) (recs : List W256) (whole : Bool) : List Nat :=
  let x := d.tiles[t]
  match op with
  | .fill | .touch | .put =>
    if whole then ldstFaults w recs x.bnd
    else (if ctlBad (ldCvt w) then [fcIllegalFormat] else []) ++ (if ldPoff w % 16 ≠ 0 then [fcShape] else [])
  | .clw => if clwClasp w > 47 || clwScope w ≥ 2 then [fcShape] else []
  | .mmOpen | .ldb | .strm | .drain => mmFaults op w recs x.bnd x.mm
  | .launch =>
    let al := if mvDesc w % 64 ≠ 0 then [fcShape] else []
    match x.bound, recs with
    | some p, a :: b :: more =>
      let de : BitVec 512 := b ++ a
      al ++ (if (match more with
                 | s :: q :: _ => d.launchBad p false de s q
                 | _ => d.descBad p false de) then [fcShape] else [])
    | _, _ => al
  | .setprio | .cancel => []
  | .inval => if !syWhole w && sySpace w ≥ 4 then [fcShape] else []
  | _ => if wClass w = 3 then vxFaults op w recs x.bnd else if wClass w = 6 then clFaults op w else []

/-- The lowest fault code (R114). -/
def lowest (l : List Nat) : Option Nat := l.foldl (fun a b => some (min (a.getD b) b)) none

/-! ### Fetch and stalls -/

/-- What the fetch at PC finds for the event of an operation: not this event, a fault (recorded), or the word. -/
inductive Fetched where
  | other
  | fault (d : Device)
  | word (w : W128) (d : Device)

/-- A fault at fetch or issue, with UNIT 0 and the controller's PC (R114). -/
def Device.issueFaultAt (d : Device) (t : TileNo) (code detail : Nat) : Device :=
  d.faultTile t code 0 ((d.tiles[t]).pc / 16) detail

/-- One whose DETAIL names nothing (Table 4.16). -/
def Device.issueFault (d : Device) (t : TileNo) (code : Nat) : Device := d.issueFaultAt t code 0

/-- Bound registers that supply the extents of an instruction, in the order of its fields (R90). -/
def extentRegs (op : TOp) (w : W128) (recs : List W256) : List (Fin 16) :=
  let pr := recs.getD 0 0
  match op with
  | .fill | .touch | .put => extentReg (prE pr 0) ++ extentReg (prE pr 1) ++ extentReg (prE pr 2) ++ extentReg (prE pr 3)
  | .mmOpen => extentReg (moM w) ++ extentReg (moN w)
  | .ldb => extentReg (mlKlen w)
  | .loop => extentReg (fld w 34 16)
  | _ => if wClass w = 3 then extentReg (vxLen w) else []

/-- Whether a bound register's value is no extent the operation takes (R93): beyond 65,535, or outside the limits of M, N or KLEN. -/
def extentBad (op : TOp) (m : MM) (v : Nat) : Bool :=
  match op with
  | .mmOpen => decide (v < 1) || decide (v > 128)
  | .ldb => v % 16 ≠ 0 || decide (v < 16) || decide (v > (kcOf m.issueFA m.issueFB).getD 256)
  | _ => decide (v > 65535)

/-- DETAIL of a fault at issue (Table 4.16): for SHAPE_INVALID and MM_SHAPE the first bound register whose value is no extent of the
operation; 0 otherwise (log 14). -/
def issueDetail (op : TOp) (w : W128) (recs : List W256) (x : Tile) (code : Nat) : Nat :=
  if code = fcShape || code = fcMmShape then
    ((extentRegs op w recs).find? (fun r => extentBad op x.mm (x.bnd[r]).toNat)).elim 0 Fin.val
  else 0

/-- Fetch at PC (R83, R88, Table 4.15 FETCH_RANGE). The controller fetches while a kernel runs and dispatch is not
stalled. -/
def Device.fetch (d : Device) (t : TileNo) (op : TOp) : Fetched :=
  let x := d.tiles[t]
  if x.mode ≠ .running || x.ctx.isNone then .other
  else if x.pc ≥ claspBase then .fault (d.issueFault t fcFetchRange)
  else
    let r := d.pocketRead t x.pc 16 0
    if r.1.st = .ue then .fault (r.2.issueFault t fcPocketUe)
    else
      let w := BitVec.ofNat 128 (leNat r.1.bytes)
      match decodeOp w with
      | none => .fault (r.2.issueFault t fcIllegalInstr)
      | some o => if o = op then .word w r.2 else .other

/-- Dispatch stalls at PC (R85). -/
def Device.stall (d : Device) (t : TileNo) : Device := d.modTile t (fun x => { x with mode := .stalled })

/-- Consume a wait clause (R95). -/
def Tile.consume (x : Tile) (w : W128) : Tile :=
  { x with tok := x.tok.set (wWtok w) (BitVec.ofNat 8 ((x.tok[wWtok w]).toNat - wWcnt w)) }

/-- A named bound register whose SEQ.BLD has not completed (R85, R99). -/
def Tile.bldPending (x : Tile) (rs : List (Fin 16)) : Bool := rs.any (fun r => x.bld.any (fun b => b.reg = r))

/-- Whether the named engines, the tile mover's channels and every earlier CL instruction are done (R111). DEDUCED (log 33): a SEQ.BLD
that has not landed is none of the three things R111 waits for. -/
def Tile.drained (x : Tile) (mask : Nat) : Bool :=
  (List.finRange 4).all (fun e => mask / 2 ^ e.val % 2 = 0 || ((x.queues[e]).isEmpty && (x.flight[e]).isEmpty))
    && x.mover.slots.all (fun s => s.st = .free)
    && x.queues.toList.all (fun q => q.all (fun e => wClass e.word ≠ 6))
    && x.flight.toList.all (fun q => q.all (fun f => wClass f.e.word ≠ 6 || (f.performed && f.awaits == 0)))

/-- Move PC to the next instruction. -/
def Tile.nextPc (x : Tile) : Tile := { x with pc := x.pc + 16 }

/-- Signal of an instruction the controller executes (R96). -/
def Device.signalSeq (d : Device) (t : TileNo) (w : W128) (pcq : Nat) : Device :=
  if wSen w then d.addTok t (wStok w) 1 0 pcq else d

/-- A SEQ instruction (R85, R95, R99): stalls on its wait clause or a bound register, faults, or is performed by `act`, which
moves PC, and signals. -/
def Device.seqRun (d : Device) (t : TileNo) (op : TOp) (faults : W128 → Tile → List Nat) (act : W128 → Tile → Tile) : Device :=
  match d.fetch t op with
  | .other => d
  | .fault d => d
  | .word w d =>
    let x := d.tiles[t]
    if x.waits w || x.bldPending (issueRegs op w []) then d.stall t
    else
      match lowest (faults w x) with
      | some c => d.issueFaultAt t c (issueDetail op w [] x c)
      | none => (d.modTile t (fun x => act w (x.consume w))).signalSeq t w (x.pc / 16)

/-- The queue entry frozen at issue (R92). -/
def Tile.entry (x : Tile) (w : W128) (recs : List W256) : Entry := { word := w, recs := recs, bnd := x.bnd, pcq := x.pc / 16 }

/-- The controller's view of the array after an MM instruction issues (R60, R61). -/
def mmIssued (op : TOp) (w : W128) (m : MM) : MM :=
  match op with
  | .mmOpen => { m with issueOpen := true, issueFA := moFa w, issueFB := moFb w }
  | .ldb => { m with issueLoaded := true }
  | .strm => { m with issueLoaded := false }
  | .drain => { m with issueOpen := false }
  | _ => m

/-- Dispatch of an instruction into its engine queue (R83 to R85, R92, R93, R114). -/
def Device.issueQ (d : Device) (t : TileNo) (op : TOp) : Device :=
  match d.fetch t op with
  | .other => d
  | .fault d => d
  | .word w d =>
    match queueFor w with
    | none => d
    | some e =>
      if ((d.tiles[t]).queues[e.idx]).length ≥ 32 then d.stall t
      else
        let r := d.readRecs t op w 4 []
        let d := r.2.2
        let x := d.tiles[t]
        if x.bldPending (issueRegs op w r.1) then d.stall t
        else
          match lowest (r.2.1.toList ++ d.issueFaults t op w r.1 r.2.1.isNone) with
          | some c => d.issueFaultAt t c (issueDetail op w r.1 x c)
          | none =>
            let d := d.modQueueOf t e (fun q => q ++ [x.entry w r.1])
            d.modTile t (fun y => { y.nextPc with mm := mmIssued op w y.mm,
                                                  engineSince := if (x.queues[e.idx]).isEmpty && (x.flight[e.idx]).isEmpty
                                                    then y.engineSince.set e.idx d.devTime else y.engineSince })

/-- A SY instruction of the controller that waits for a drain (R85, R111): stalls, faults, or `act` runs. DEDUCED (log 33): with SEN it
adds its token once its drain has ended and it has acted, since Table 4.3 has no row for it. -/
def Device.syRun (d : Device) (t : TileNo) (op : TOp) (mask : W128 → Nat) (act : W128 → Device → Device) : Device :=
  match d.fetch t op with
  | .other => d
  | .fault d => d
  | .word w d =>
    let x := d.tiles[t]
    if op ≠ .fence && x.mm.issueOpen then d.issueFault t fcMmSequence
    else if x.waits w || !x.drained (mask w) then d.stall t
    else (act w (d.modTile t (fun x => x.consume w))).signalSeq t w (x.pc / 16)

/-- What the word at PC, where the controller executes it itself, waits to take from a token counter (R95): its WCNT, once nothing else
holds it back. -/
def Tile.ctlNeed (x : Tile) (k : Fin 8) : Nat :=
  let w := BitVec.ofNat 128 (x.pocket.word x.pc 16)
  match decodeOp w with
  | none => 0
  | some op =>
    if (x.mode = .running || x.mode = .stalled) && (queueFor w).isNone && wWtok w = k && !x.bldPending (issueRegs op w [])
        && (wClass w ≠ 7 || x.drained (if op = .fence then syMask w else 15)) then wWcnt w else 0

/-- Whether a stalled dispatch may proceed (R85): its queue has room, its bound registers and wait clause hold, its drain has
ended. -/
def Device.mayResume (d : Device) (t : TileNo) : Bool :=
  let x := d.tiles[t]
  let w := BitVec.ofNat 128 (x.pocket.word x.pc 16)
  match decodeOp w with
  | none => true
  | some op =>
    let recs := (d.readRecs t op w 4 []).1
    !x.bldPending (issueRegs op w recs) &&
      (match queueFor w with
       | some e => decide ((x.queues[e.idx]).length < 32)
       | none => !x.waits w && (wClass w ≠ 7 || x.drained (if op = .fence then syMask w else 15)))

end Sys2Proof.Machine
end

