-- ==== Sys2Proof/Machine/Seq.lean ====
section
/-! DEFINITION. SEQ instructions (R99, R113): what the tile controller executes itself. -/

namespace Sys2Proof.Machine

/-- TARGET, END and TOP fields as PC values (R99). -/
def seqTarget (w : W128) (lo : Nat) : Nat := 16 * fld w lo 17

def seqNopAct (_w : W128) (x : Tile) : Tile := x.nextPc

def execSeqNop (t : TileNo) (s : State) : Host.Outcome State Fault Refusal :=
  onLive (fun d => d.seqRun t .nop (fun _ _ => []) seqNopAct) s

def seqJmpAct (w : W128) (x : Tile) : Tile := { x with pc := seqTarget w 32 }

def execSeqJmp (t : TileNo) (s : State) : Host.Outcome State Fault Refusal :=
  onLive (fun d => d.seqRun t .jmp (fun _ _ => []) seqJmpAct) s

/-- COND of SEQ.BR: EQ, NE, LT, GE, unsigned (R99). -/
def brHolds (cond : Nat) (a b : W32) : Bool :=
  if cond = 0 then a = b else if cond = 1 then a ≠ b else if cond = 2 then a.ult b else !(a.ult b)

def seqBrAct (w : W128) (x : Tile) : Tile :=
  if brHolds (fld w 36 2) (x.bnd[(fin (fld w 32 4) : Fin 16)]) (BitVec.ofNat 32 (fld w 38 32)) then { x with pc := seqTarget w 70 }
  else x.nextPc

def execSeqBr (t : TileNo) (s : State) : Host.Outcome State Fault Refusal :=
  onLive (fun d => d.seqRun t .br (fun _ _ => []) seqBrAct) s

/-- COUNT of SEQ.LOOP. -/
def loopCount (w : W128) (x : Tile) : Nat := extent (fld w 34 16) x.bnd

def seqLoopAct (w : W128) (x : Tile) : Tile :=
  let x' := { x with lc := x.lc.set (fin (fld w 32 2) : Fin 4) (BitVec.ofNat 32 (loopCount w x)) }
  if loopCount w x = 0 then { x' with pc := seqTarget w 50 } else x'.nextPc

def execSeqLoop (t : TileNo) (s : State) : Host.Outcome State Fault Refusal :=
  onLive (fun d => d.seqRun t .loop (fun w x => if loopCount w x > 65535 then [fcShape] else []) seqLoopAct) s

def seqLendAct (w : W128) (x : Tile) : Tile :=
  let c := x.lc[(fin (fld w 32 2) : Fin 4)] - 1
  let x' := { x with lc := x.lc.set (fin (fld w 32 2) : Fin 4) c }
  if c ≠ 0 then { x' with pc := seqTarget w 34 } else x'.nextPc

def execSeqLend (t : TileNo) (s : State) : Host.Outcome State Fault Refusal :=
  onLive (fun d => d.seqRun t .lend (fun _ _ => []) seqLendAct) s

/-- Operand checks of SEQ.BLD (R99, R474): SRC 3, a misaligned address, a pocket offset outside the pocket, a clasp above
47; the clasp region read with SRC 0. -/
def bldFaults (w : W128) : List Nat :=
  let src := fld w 36 2
  let a := fld w 38 48
  (if src = 3 || (src ≠ 1 && a % 4 ≠ 0) || (src = 0 && a ≥ pocketSize) || (src = 1 && a % 64 > 47) then [fcShape] else [])
    ++ (if src = 0 && a + 4 > claspBase && a < pocketSize then [fcClaspRegion] else [])

/-- What a SEQ.BLD's read answers: the value, a fault code with its DETAIL, or nothing yet (R99, R289). -/
def Device.bldRead (d : Device) (t : TileNo) (w : W128) : Except (Nat × Nat) (Option W32) × Device :=
  let src := fld w 36 2
  let a := fld w 38 48
  if src = 2 then
    match d.owner t with
    | none => (.ok none, d)
    | some (p, _) =>
      let r := d.hbmRead p a 4 true
      match r.1.st with
      | .ok => (.ok (some (BitVec.ofNat 32 (leNat r.1.bytes))), r.2)
      | .repair => (.ok none, r.2.askRepair p a (.bld t))
      | .unbound => (.error (fcAddrUnbound, a / 2 ^ 24), r.2)
      | _ => (.error (fcPoisonRead, a / 2 ^ 24), r.2)
  else
    let r := d.pocketRead t (if src = 1 then claspOff (a % 64) else a) (if src = 1 then 8 else 4) 0
    if r.1.st = .ue then (.error (fcPocketUe, 0), r.2) else (.ok (some (BitVec.ofNat 32 (leNat r.1.bytes))), r.2)

/-- SEQ.BLD: the source is read; the value lands at INSTRUCTION_COMPLETE (R85, R99). -/
def Device.seqBld (d : Device) (t : TileNo) : Device :=
  match d.fetch t .bld with
  | .other => d
  | .fault d => d
  | .word w d =>
    let x := d.tiles[t]
    if x.waits w || x.bldPending (issueRegs .bld w []) then d.stall t
    else
      match lowest (bldFaults w) with
      | some c => d.issueFault t c
      | none =>
        let r := d.bldRead t w
        match r.1 with
        | .error (c, det) => r.2.faultTile t c 0 (x.pc / 16) det
        | .ok v =>
          let b : Bld := { reg := fin (fld w 32 4), value := v, e := x.entry w [], sentAt := d.devTime }
          r.2.modTile t (fun y => { (y.consume w).nextPc with bld := y.bld ++ [b] })

def execSeqBld (t : TileNo) (s : State) : Host.Outcome State Fault Refusal := onLive (fun d => d.seqBld t) s

def seqBsetAct (w : W128) (x : Tile) : Tile :=
  ({ x with bnd := x.bnd.set (fin (fld w 32 4) : Fin 16) (BitVec.ofNat 32 (fld w 36 32)) } : Tile).nextPc

def execSeqBset (t : TileNo) (s : State) : Host.Outcome State Fault Refusal :=
  onLive (fun d => d.seqRun t .bset (fun _ _ => []) seqBsetAct) s

def seqBaddAct (w : W128) (x : Tile) : Tile :=
  let r : Fin 16 := fin (fld w 32 4)
  ({ x with bnd := x.bnd.set r (x.bnd[r] + BitVec.ofNat 32 (fld w 36 32)) } : Tile).nextPc

def execSeqBadd (t : TileNo) (s : State) : Host.Outcome State Fault Refusal :=
  onLive (fun d => d.seqRun t .badd (fun _ _ => []) seqBaddAct) s

/-- SEQ.TOKADD (R99): above 255 the tile faults (R98) and the counter stands. -/
def Device.seqTokadd (d : Device) (t : TileNo) : Device :=
  match d.fetch t .tokadd with
  | .other => d
  | .fault d => d
  | .word w d =>
    let x := d.tiles[t]
    if x.waits w then d.stall t
    else
      let d := (d.modTile t (fun x => (x.consume w).nextPc)).addTok t (fin (fld w 32 3)) (fld w 35 8) 0 (x.pc / 16)
      d.signalSeq t w (x.pc / 16)

def execSeqTokadd (t : TileNo) (s : State) : Host.Outcome State Fault Refusal := onLive (fun d => d.seqTokadd t) s

/-- A read of the controller: bytes, or the fault (R144, R474). -/
def Device.ctlRead (d : Device) (t : TileNo) (off n : Nat) : Except Nat Nat × Device :=
  if off + n > claspBase then (.error fcClaspRegion, d)
  else
    let r := d.pocketRead t off n 0
    if r.1.st = .ue then (.error fcPocketUe, r.2) else (.ok (leNat r.1.bytes), r.2)

/-- SEQ.FSEL (R113): VARIANT to BND, PC through the jump table; VARIANT above MAXV faults. -/
def Device.seqFsel (d : Device) (t : TileNo) : Device :=
  match d.fetch t .fsel with
  | .other => d
  | .fault d => d
  | .word w d =>
    let x := d.tiles[t]
    let fsw := fld w 32 21
    if x.waits w || x.bldPending (issueRegs .fsel w []) then d.stall t
    else if fsw % 8 ≠ 0 then d.issueFault t fcShape
    else
      let r := d.ctlRead t fsw 8
      match r.1 with
      | .error c => r.2.issueFault t c
      | .ok v =>
        if v % 16 > v / 16 % 16 then r.2.issueFault t fcFswRange
        else
          let q := r.2.ctlRead t (fld w 53 21 + 4 * (v % 16)) 4
          match q.1 with
          | .error c => q.2.issueFault t c
          | .ok j =>
            (q.2.modTile t (fun y => { y.consume w with bnd := y.bnd.set (fin (fld w 74 4) : Fin 16) (BitVec.ofNat 32 (v % 16)),
                                                        pc := 16 * j })).signalSeq t w (x.pc / 16)

def execSeqFsel (t : TileNo) (s : State) : Host.Outcome State Fault Refusal := onLive (fun d => d.seqFsel t) s

end Sys2Proof.Machine
end

