-- ==== Sys2Proof/Machine/TileCtl.lean ====
section
/-! DEFINITION. Dispatch and engines of a tile: SY instructions, starts, completions, watchdogs, pocket and lining events
(R84, R85, R95 to R98, R111, R114 to R116, R143, R150 to R153, R409). -/

namespace Sys2Proof.Machine

/-! ### Wake requests (R409, R410) -/

/-- Wake events a panel granted in the last 4 µs. -/
def Device.grantedNow (d : Device) (p : PanelNo) : Nat := ((d.panels[p]).granted.filter (fun g => d.since g < 4000)).length

/-- Whether a context names a reserved tile (R360). -/
def Device.realTime (d : Device) (c : CtxNo) : Bool :=
  match (d.ctxs[c]).image with
  | some i => i.tiles.any (fun x => (d.tiles[x.tile]).reserved)
  | none => false

/-- Whether a tile is held by a real-time context. -/
def Device.rtTile (d : Device) (t : TileNo) : Bool := (d.tiles[t]).ctx.any d.realTime

/-- A panel's requests with one more: arrival order, and among those of the same cycle real-time contexts first, then the lower logical
tile (R410). -/
def Device.joinWakes (d : Device) (t : TileNo) : List TileNo → List TileNo
  | [] => [t]
  | u :: rest =>
    if (d.tiles[u]).askedAt = d.devTime ∧ (d.rtTile t && !d.rtTile u || d.rtTile t = d.rtTile u && decide (t < u)) then t :: u :: rest
    else u :: d.joinWakes t rest

/-- A tile asks to climb one level, or for a rise of its clock: it joins its panel's queue once; a request that cannot be granted at once is counted
in the governor's delays. -/
def Device.askWake (d : Device) (t : TileNo) (rise : Bool) : Device :=
  let x := d.tiles[t]
  if x.queued || (x.level = 4 && !rise) then d
  else
    let p := panelOf t
    let late := !(d.panels[p]).wakes.isEmpty || decide (d.grantedNow p ≥ 32) || d.rst.brake
    let d := d.modTile t (fun x => { x with queued := true, askedAt := d.devTime })
    let d := d.modPanel p (fun q => { q with wakes := d.joinWakes t q.wakes, delays := if late then satFld q.delays 0 32 1 else q.delays })
    if late then ({ d with govDelays := d.govDelays + 1 }).count x.bound 0x050 t.val 1 else d

/-- A free tile is held at level 0 and asks for nothing (R404). -/
def Device.freeClock (d : Device) (t : TileNo) : Device :=
  (d.modPanel (panelOf t) (fun q => { q with wakes := q.wakes.filter (· ≠ t) })).modTile t (fun x =>
    { x with level := 0, mhz := 0, queued := false })

/-- A tile asks to climb one level (R409). -/
def Device.wakeRequest (d : Device) (t : TileNo) : Device := d.askWake t false

/-! ### The lining (R150 to R153) -/

/-- Whether a line is covered by a range invalidation: SPACE, BASE to BASE + LEN - 1, every tile for SPACE 1 (R152). -/
def LineTag.inRange (g : LineTag) (space base len : Nat) : Bool :=
  g.space = space && len ≠ 0 && decide (64 * g.line < base + len) && decide (base < 64 * g.line + 64)

/-- Invalidate the lines a test picks; fills requested before deliver but are not installed (R153). -/
def Tile.liningInv (x : Tile) (f : LineTag → Bool) : Tile :=
  { x with lining := x.lining.filter (fun l => !f l.tag),
           fills := x.fills.map (fun l => if f l.tag then { l with cancelled := true } else l) }

def Tile.liningClear (x : Tile) : Tile := x.liningInv (fun _ => true)

/-- Lines an ST.PUT wrote, invalidated in the tile's own lining when its writes are acknowledged (R151). -/
def Tile.storeInv (x : Tile) (own : TileNo) (f : Flight) : Tile :=
  let feet := f.wrote.map (fun r => footAt own (f.e.recs.getD 0 0) r.1 r.2)
  x.liningInv (fun g => feet.any (fun f => f.space = g.space && (g.space ≠ 1 || f.tile = g.tile) &&
    g.inRange g.space f.lo f.len))

/-- SY LINING_INV (R152): the whole lining, or the lines of the range. -/
def Device.syLiningInv (d : Device) (t : TileNo) (k : Nat) : Device :=
  match d.ready t .ld k .inval with
  | none => d
  | some f =>
    let w := f.e.word
    (d.modTile t (fun x =>
      if syWhole w then x.liningClear else x.liningInv (fun g => g.inRange (sySpace w) (syBase w) (syLen w)))).performed t .ld k 0

def execSyLiningInv (t : TileNo) (ph : Phase) (s : State) : Host.Outcome State Fault Refusal :=
  onLive (fun d => match ph with
    | .issue => d.issueQ t .inval
    | .perform k => d.syLiningInv t k) s

/-- The number of lines a lining set holds. -/
def Tile.setLines (x : Tile) (line : Nat) : List LLine := x.lining.filter (fun l => l.tag.line % 256 = line % 256)

/-- Install a line (R150): a full set evicts the line of a way the manual leaves open (log 12). -/
def Tile.install (x : Tile) (n : Nat) (g : LineTag) (data : List Byte) : Tile :=
  let keep := x.lining.filter (fun l => l.tag ≠ g)
  let set := keep.filter (fun l => l.tag.line % 256 = g.line % 256)
  let keep := if set.length < 8 then keep
    else match set[(Config.evictWay n).val]? with
      | some v => keep.filter (fun l => l.tag ≠ v.tag)
      | none => keep
  { x with lining := keep ++ [{ tag := g, data := data, parityBad := false }] }

/-- The k-th outstanding fill ends (R150, R153): installed unless it was invalidated meanwhile. -/
def Device.liningFill (d : Device) (t : TileNo) (k : Nat) : Device :=
  match (d.tiles[t]).fills[k]? with
  | none => d
  | some f =>
    let x := { d.tiles[t] with fills := (d.tiles[t]).fills.eraseIdx k }
    let y := if f.cancelled then x else x.install d.freeCount f.tag f.data
    { d.modTile t (fun _ => y) with freeCount := if f.cancelled then d.freeCount else d.freeCount + 1 }

def execLiningFill (t : TileNo) (k : Nat) (s : State) : Host.Outcome State Fault Refusal := onLive (fun d => d.liningFill t k) s

/-- A corrected word is written back (R143). -/
def Device.ceWriteback (d : Device) (t : TileNo) (word : Nat) : Device :=
  d.modTile t (fun x => { x with pocketBad := x.pocketBad.filter (fun b => b ≠ (word, false)) })

def execPocketCeWriteback (t : TileNo) (word : Fin 262144) (s : State) : Host.Outcome State Fault Refusal :=
  onLive (fun d => d.ceWriteback t word.val) s

/-! ### SY instructions of the controller (R111) -/

/-- SY FENCE: dispatch goes on once the engines in MASK are drained. -/
def execSyFence (t : TileNo) (s : State) : Host.Outcome State Fault Refusal :=
  onLive (fun d => d.syRun t .fence syMask (fun _ d => d.modTile t Tile.nextPc)) s

/-- SY STEP_COMMIT: the drained tile waits for the reliability block's decision (R369). -/
def execSyStepCommit (t : TileNo) (s : State) : Host.Outcome State Fault Refusal :=
  onLive (fun d => d.syRun t .commit (fun _ => 15) (fun _ d => d.modTile t (fun x => { x.nextPc with mode := .atCommit }))) s

/-- A stalled dispatch proceeds once the cause of its stall is gone (R85). -/
def Device.dispatchResume (d : Device) (t : TileNo) : Device :=
  if (d.tiles[t]).mode = .stalled && d.mayResume t then
    d.modTile t (fun x => { x with mode := .running, waited := x.waited.set 4 0 }) else d

def execDispatchResume (t : TileNo) (s : State) : Host.Outcome State Fault Refusal := onLive (fun d => d.dispatchResume t) s

/-! ### Starts and completions (R84, R95 to R98) -/

/-- Whether a started instruction keeps its queue's head: a CL.WAIT from its registration on, a local CL.WATCH that waits for
a slot (R110, R179, R181). -/
def Flight.holdsHead (f : Flight) : Bool :=
  match decodeOp f.e.word with
  | some .clWait => true
  | some .clWatch => clScope f.e.word ≠ 2 && !(f.performed && f.awaits == 0)
  | _ => false

/-- A started MV.LAUNCH that has not reached its slot yet (R110). -/
def Flight.launching (f : Flight) (k : Fin 8) : Bool := decodeOp f.e.word = some .launch && mvSlot f.e.word = k && !f.performed

/-- Whether the head of a queue may start as far as its wait clause is not asked (R110, R136, R189): no instruction holds the head; a
MV.LAUNCH finds its slot free and no other on its way there; a VX operation finds every earlier one to have read its sources. -/
def Tile.headReady (x : Tile) (e : Eng) (h : Entry) : Bool :=
  !(x.flight[e.idx]).any Flight.holdsHead
    && (decodeOp h.word ≠ some .launch || (decide ((x.mover.slot (mvSlot h.word).val).st = .free)
          && !x.flight.toList.any (fun l => l.any (fun f => f.launching (mvSlot h.word)))))
    && (wClass h.word ≠ 3 || (x.flight[e.idx]).all (fun f => wClass f.e.word ≠ 3 || f.performed))

/-- What the head of an engine's queue waits to take from a token counter. -/
def Tile.engNeed (x : Tile) (k : Fin 8) (e : Eng) : Nat :=
  match x.queues[e.idx] with
  | h :: _ => if wWtok h.word = k && x.headReady e h then wWcnt h.word else 0
  | [] => 0

/-- What is left of a token counter after the waiters that come before an engine have been granted (R97): the controller, the load
engine, the tensor array, the vector engine, the store engine, each where the value serves it. -/
def Tile.leftFor (x : Tile) (k : Fin 8) (e : Eng) : Nat :=
  (x.ctlNeed k :: ([Eng.ld, .mm, .vx, .st].takeWhile (· ≠ e)).map (x.engNeed k)).foldl
    (fun v n => if n ≤ v then v - n else v) (x.tok[k]).toNat

/-- Whether the head of a queue may start (R95, R97, R110, R136, R189): its wait clause holds, and still does once the waiters before it
on the same counter are served. -/
def Tile.mayStart (x : Tile) (e : Eng) (h : Entry) : Bool :=
  !x.waits h.word && x.headReady e h && decide (wWcnt h.word = 0 ∨ wWcnt h.word ≤ x.leftFor (wWtok h.word) e)

def Entry.start (e : Entry) : Flight :=
  { e := e, performed := false, signalled := false, awaits := 0, sentAt := 0, tag := none, buf := none }

/-- An engine starts its queue head, consuming its wait clause (R84, R95); at level 0 the tile asks to climb instead
(R409). A start is traced (R453). -/
def Device.engineStart (d : Device) (t : TileNo) (e : Eng) : Device :=
  let x := d.tiles[t]
  match x.ctx, x.queues[e.idx] with
  | some c, h :: rest =>
    if x.mode = .faulted then d
    else if x.level = 0 then d.wakeRequest t
    else if !x.mayStart e h then d
    else
      let d := if e = .mm && x.level.val < 4 then d.wakeRequest t else d
      let d := d.modTile t (fun x =>
        { x.consume h.word with queues := x.queues.set e.idx rest, flight := x.flight.set e.idx (x.flight[e.idx] ++ [h.start]),
                                engineSince := x.engineSince.set e.idx d.devTime, lastActive := d.devTime,
                                waited := x.waited.set e.idx.val 0, lastArray := if e = .mm then d.devTime else x.lastArray })
      d.traceRec 0 (t.val + 512 * e.idx.val) x.bound (BitVec.ofNat 16 (wClass h.word + wOp h.word <<< 4))
        (BitVec.ofNat 128 (h.pcq + c.val <<< 32))
  | _, _ => d

def execEngineStart (t : TileNo) (e : Eng) (s : State) : Host.Outcome State Fault Refusal := onLive (fun d => d.engineStart t e) s

/-- Whether a source-release event may come before completion (Table 4.3). -/
def Flight.released (f : Flight) : Bool :=
  match decodeOp f.e.word with
  | some .put => f.performed || f.buf.isSome
  | some .clw => true
  | some .ldb | some .strm | some .launch => f.performed
  | some _ => wClass f.e.word = 3 && f.performed
  | none => false

/-- The token of an instruction (R96). -/
def Device.signal4 (d : Device) (t : TileNo) (e : Eng) (f : Flight) : Device :=
  if wSen f.e.word then d.addTok t (wStok f.e.word) 1 (unitOf e) f.e.pcq else d

/-- A source release (R96): once, with SIGAT = 1. -/
def Device.sourceRelease (d : Device) (t : TileNo) (e : Eng) (k : Nat) : Device :=
  match ((d.tiles[t]).flight[e.idx])[k]? with
  | none => d
  | some f =>
    if wSigat f.e.word && !f.signalled && f.released then
      (d.modFlightAt t e k (fun f => { f with signalled := true })).signal4 t e f
    else d

/-- The end of a drain (R68, R78, R80): the tile closes, its flags are ORed into TILE_ACC_STATUS and reported. -/
def Device.drainEnd (d : Device) (t : TileNo) : Device :=
  let x := d.tiles[t]
  match x.mm.tile with
  | none => d
  | some o =>
    let f := x.mm.accCur
    let d := (d.orAcc t f).modTile t (fun x => { x with mm := { x.mm with tile := none } })
    match x.ctx with
    | some c => if f = 0 then d else { d with sentReports := d.sentReports ++ [.acc c t o.outId (f.setWidth 3)] }
    | none => d

/-- Completion (R96): the k-th started instruction of an engine leaves once performed and answered. Its token follows SIGAT;
a MV.LAUNCH that signals at completion does so when its channel ends (R206). -/
def Device.complete (d : Device) (t : TileNo) (e : Eng) (k : Nat) : Device :=
  match ((d.tiles[t]).flight[e.idx])[k]? with
  | none => d
  | some f =>
    if f.performed && f.awaits == 0 then
      let op := decodeOp f.e.word
      let d := d.modTile t (fun x => { x with flight := x.flight.set e.idx ((x.flight[e.idx]).eraseIdx k),
                                              engineSince := x.engineSince.set e.idx d.devTime, lastActive := d.devTime })
      let d := if op = some .put then d.modTile t (fun x => x.storeInv t f) else d
      let d := if op = some .drain then d.drainEnd t else d
      if f.signalled || (op = some .launch && !wSigat f.e.word) then d else d.signal4 t e f
    else d

/-- The k-th SEQ.BLD of the controller lands (R85, R99): its value is written to BND and it signals; an unanswered read is
asked again. -/
def Device.bldLand (d : Device) (t : TileNo) (k : Nat) : Device :=
  match (d.tiles[t]).bld[k]? with
  | none => d
  | some b =>
    match b.value with
    | some v =>
      (d.modTile t (fun x => { x with bnd := x.bnd.set b.reg v, bld := x.bld.eraseIdx k })).signalSeq t b.e.word b.e.pcq
    | none =>
      let r := d.bldRead t b.e.word
      match r.1 with
      | .error (c, det) => r.2.faultTile t c 0 b.e.pcq det
      | .ok v => r.2.modTile t (fun x => { x with bld := x.bld.modify k (fun b => { b with value := v }) })

/-- Whether a tile's engines run: a kernel holds it and it has not faulted (R115). -/
def Tile.engineOn (x : Tile) : Bool := x.ctx.isSome && x.mode ≠ .faulted

def execInstructionComplete (t : TileNo) (e : Option Eng) (k : Nat) (release : Bool) (s : State) :
    Host.Outcome State Fault Refusal :=
  onLive (fun d =>
    if !(d.tiles[t]).engineOn then d
    else match e with
      | none => d.bldLand t k
      | some g => if release then d.sourceRelease t g k else d.complete t g k) s

/-! ### Watchdogs (R116) -/

/-- The step watchdog (R116): once the limit is over while a step runs, STEP_WATCHDOG is raised on the context: every tile it holds
faults. It runs from the first kernel start of the step on (a limit of 0: it does not run); log 38. -/
def Device.stepWatchdog (d : Device) (c : CtxNo) : Device :=
  let x := d.ctxs[c]
  if x.st = .running && x.inStep && x.dogLimit ≠ 0 && decide (d.since x.dogAt ≥ x.dogLimit.toNat) then
    (d.ctxTiles c).foldl (fun d t => d.faultTile t fcStepWatchdog 0 ((d.tiles[t]).pc / 16) 0) d
  else d

def execStepWatchdog (c : CtxNo) (s : State) : Host.Outcome State Fault Refusal := onLive (fun d => d.stepWatchdog c) s

/-- ENGINE_STALL (R116): an engine with queued work that neither starts nor completes an instruction for 1 ms is logged; no
fault. -/
def Device.engineStall (d : Device) (t : TileNo) (e : Eng) : Device :=
  let x := d.tiles[t]
  if x.engineOn && !(x.queues[e.idx]).isEmpty && decide (d.since x.engineSince[e.idx] ≥ 1000000) then
    (d.modTile t (fun x => { x with engineSince := x.engineSince.set e.idx d.devTime })).report 0x0200 x.bound
      (x.ctx.map (fun c => c.val)) (t.val + 512 * e.idx.val) 0
  else d

def execEngineStall (t : TileNo) (e : Eng) (s : State) : Host.Outcome State Fault Refusal := onLive (fun d => d.engineStall t e) s

end Sys2Proof.Machine
end

