-- ==== Sys2Proof/Machine/LdSt.lean ====
section
/-! DEFINITION. The load and store engines (R100 to R106, R148 to R154, R474): LD.FILL, LD.TOUCH, ST.PUT, ST.CLW. -/

namespace Sys2Proof.Machine

/-! ### The memory side of a load (R106, R150) -/

/-- A read of memory beside the lining. -/
def Device.memRead (d : Device) (p : PartNo) (space tile addr n : Nat) : Got × Device :=
  if space = 2 then d.hbmRead p addr n true
  else if space = 3 then d.tmemRead p addr n
  else if h : tile < 512 then
    if addr + n > claspBase then ({ st := .clasp, bytes := [], at_ := addr }, d)
    else if d.owns p tile then d.meshRead ⟨tile, h⟩ addr n else ({ st := .unbound, bytes := [], at_ := addr }, d)
  else ({ st := .unbound, bytes := [], at_ := addr }, d)

/-- The whole aligned line a miss fetches (R150). In another tile's pocket a line with an ECC-poisoned word is not installed, and then
only the bytes asked for are read (R144): none. -/
def Device.lineRead (d : Device) (p : PartNo) (g : LineTag) : Option (Got × Device) :=
  if g.space = 1 then
    if h : g.tile < 512 then
      if 64 * g.line + 64 ≤ claspBase && (d.tiles[g.tile].ueWords (wordsOf (64 * g.line) 64)).isEmpty then
        some (d.memRead p g.space g.tile (64 * g.line) 64)
      else none
    else none
  else some (d.memRead p g.space g.tile (64 * g.line) 64)

/-- A hit discarded for parity (R154), one of the corrected errors of Table 19.1. -/
def Device.dropLine (d : Device) (t : TileNo) (g : LineTag) : Device :=
  { d.modTile t (fun x => { x with lining := x.lining.filter (fun l => l.tag ≠ g), liningErr := satFld x.liningErr 0 16 1,
                                   cntCorrected := x.cntCorrected + 1 }) with cntCorrected := d.cntCorrected + 1 }

/-- Read one piece of a line through the lining of tile `t` (R150, R154): a hit returns the line's bytes, a miss reads
memory and requests the whole line. -/
def Device.linedPiece (d : Device) (t : TileNo) (p : PartNo) (space tile addr n : Nat) : Got × Device :=
  let g : LineTag := { space := space, tile := if space = 1 then tile else 0, line := addr / 64 }
  let x := d.tiles[t]
  let hit := x.lining.find? (fun l => l.tag = g)
  let miss (d : Device) : Got × Device :=
    let d := d.count (some p) 0x002 t.val 1
    match d.lineRead p g with
    | none => d.memRead p space tile addr n
    | some r =>
      if r.1.st = .ok then
        ({ r.1 with bytes := (r.1.bytes.drop (addr % 64)).take n },
         r.2.modTile t (fun x => { x with fills := x.fills ++ [{ tag := g, data := r.1.bytes, cancelled := false }] }))
      else r
  match hit with
  | some l =>
    if l.parityBad then miss (d.dropLine t g)
    else ({ st := .ok, bytes := (l.data.drop (addr % 64)).take n, at_ := 0 }, d.count (some p) 0x001 t.val 1)
  | none => miss d

/-- Read a range for the load engine: own pocket (SPACE 0), the lining, or memory when bypassed (R106). -/
def Device.ldRange (d : Device) (t : TileNo) (p : PartNo) (pr : W256) (byp : Bool) (addr n : Nat) : Got × Device :=
  let space := prSpace pr
  if n = 0 then ({ st := .ok, bytes := [], at_ := 0 }, d)
  else if space = 0 then
    if addr + n > claspBase then ({ st := .clasp, bytes := [], at_ := addr }, d) else d.pocketRead t addr n 1
  else if byp then d.memRead p space (prTile pr) addr n
  else if space = 1 && addr + n > claspBase then ({ st := .clasp, bytes := [], at_ := addr }, d)
  else if space = 1 && !d.owns p (prTile pr) then ({ st := .unbound, bytes := [], at_ := addr }, d)
  else
    (linePieces addr n).foldl (fun (acc : Got × Device) (q : Nat × Nat) =>
      if acc.1.st ≠ .ok then acc
      else
        let r := acc.2.linedPiece t p space (prTile pr) q.1 q.2
        if r.1.st = .ok then ({ acc.1 with bytes := acc.1.bytes ++ r.1.bytes }, r.2) else r)
      ({ st := .ok, bytes := [], at_ := 0 }, d)

/-- Read a list of ranges; the first that fails ends it. -/
def Device.ldRanges (d : Device) (t : TileNo) (p : PartNo) (pr : W256) (byp : Bool) (rows : List Nat) (n : Nat) :
    Except Got (List (List Byte)) × Device :=
  rows.foldl (fun (acc : Except Got (List (List Byte)) × Device) a =>
    match acc.1 with
    | .error _ => acc
    | .ok l =>
      let r := acc.2.ldRange t p pr byp a n
      if r.1.st = .ok then (.ok (l ++ [r.1.bytes]), r.2) else (.error r.1, r.2)) (.ok [], d)

/-- Read own-pocket bytes for an engine: clasp region and ECC as R144 and R474 say. -/
def Device.ownRead (d : Device) (t : TileNo) (e : Eng) (off n : Nat) : Got × Device :=
  if n = 0 then ({ st := .ok, bytes := [], at_ := 0 }, d)
  else if off + n > claspBase then ({ st := .clasp, bytes := [], at_ := off }, d) else d.pocketRead t off n (unitOf e)

/-- Write own-pocket bytes for an engine (R144, R474). -/
def Device.ownWrite (d : Device) (t : TileNo) (e : Eng) (off : Nat) (bs : List Byte) : ASt × Device :=
  if bs = [] then (.ok, d)
  else if off + bs.length > claspBase then (.clasp, d)
  else
    let r := d.pocketWrite t off bs (unitOf e)
    (if r.1.isSome then .ue else .ok, r.2)

/-- Fault code of a failed access of a tile engine (Table 4.15). -/
def faultOf : ASt → Nat
  | .clasp => fcClaspRegion
  | .unbound => fcAddrUnbound
  | .ue => fcPocketUe
  | _ => fcPoisonRead

/-- The k-th instruction met a failed access: it waits for peer repair or for memory that does not answer, or it faults
(R114, R289). -/
def Device.accessFailed (d : Device) (t : TileNo) (e : Eng) (k : Nat) (f : Flight) (p : PartNo) (st : ASt) (at_ : Nat) : Device :=
  match st with
  | .repair => (d.askRepair p at_ (.tile t e)).waiting t e k
  | .down => d.waiting t e k
  | _ => d.execFault t e f (faultOf st) (at_ / 2 ^ 24)

/-! ### Enumeration and conversion (R102 to R105) -/

/-- Elements of a transposed read in output order (R105, R148): blocks of 16 rows, columns in turn, rows within a column. -/
def transposeRows (e0 : Nat) (rows : List (List Nat)) : List Nat :=
  (List.range (rows.length / 16)).flatMap (fun b => (List.range e0).flatMap (fun c => (List.range 16).map (fun r =>
    ((rows.getD (16 * b + r) []).getD c 0))))

/-- Converted elements of an LD or ST (R104): codes and TILE_CVT_STATUS flags. `scales` has one byte per block of the
source. -/
def convertElems (w : W128) (src tgt : Fmt) (mulT mulS : Bool) (ts m : W32) (seed : Nat) (codes scales : List Nat) :
    List Nat × W32 :=
  let t : Option W32 := if src = .sx4 || src = .t2 then some ts else if mulS then some m else none
  let i0 := 64 * ldEidx w
  let out := codes.zipIdx.map (fun p =>
    let b := if src.isBlock then scales.getD (p.2 / src.block) 0 else 0
    let x := src.decode p.1 b t
    let y := if mulT then fmul x m else x
    let r := cvtFrom tgt (rndOf (ctlRnd (ldCvt w)) seed (i0 + p.2)) (ctlSat (ldCvt w)) x y
    (r.code, r.flags ||| src.readFlags p.1 b t))
  (out.map (·.1), orAll (out.map (·.2)))

/-- The tensor scale and the multiplier among the bytes at TSC. -/
def tscSplit (src : Fmt) (bs : List Byte) : W32 × W32 :=
  let a := BitVec.ofNat 32 (leNat (bs.take 4))
  let b := BitVec.ofNat 32 (leNat (bs.drop 4))
  if src = .sx4 || src = .t2 then (a, b) else (f32one, a)

/-- What an LD reads of the memory side: the rows of its pattern, through the index table where it has one, and the scale
rows of a block format (R102, R103). -/
def Device.ldMemory (d : Device) (t : TileNo) (p : PartNo) (e : Entry) : Except (ASt × Nat) (List (List Byte) × List Byte) × Device :=
  let w := e.word
  let pr := e.recs.getD 0 0
  let sr := e.recs.getD 1 0
  let src := (Fmt.ofCode (prFmt pr)).getD .fp32
  let e0 := prExt pr 0 e.bnd
  let ti := d.ownRead t .ld (itabRange e pr).1 (itabRange e pr).2
  if ti.1.st ≠ .ok then (.error (ti.1.st, ti.1.at_), ti.2)
  else
    let idx := indexEntries pr ti.1.bytes
    let rr := ti.2.ldRanges t p pr (ldFlag w) (elemRows e pr idx) (rowBytes src e0)
    match rr.1 with
    | .error g => (.error (g.st, g.at_), rr.2)
    | .ok rows =>
      let sc := if src.isBlock then rr.2.ldRanges t p pr (ldFlag w) (scaleRows e pr sr idx) (e0 / src.block) else (.ok [], rr.2)
      match sc.1 with
      | .error g => (.error (g.st, g.at_), sc.2)
      | .ok ss => (.ok (rows, ss.flatten), sc.2)

/-- What an LD.FILL reads: element rows, scale rows, TSC. -/
structure LdIn where
  rows : List (List Byte)
  scales : List Byte
  tsc : List Byte

def Device.ldInputs (d : Device) (t : TileNo) (p : PartNo) (e : Entry) : Except (ASt × Nat) LdIn × Device :=
  let m := d.ldMemory t p e
  match m.1 with
  | .error x => (.error x, m.2)
  | .ok x =>
    let src := (Fmt.ofCode (prFmt (e.recs.getD 0 0))).getD .fp32
    let ts := m.2.ownRead t .ld (srTsc (e.recs.getD 1 0)) (tscNeed src (ldstPlan e.word (e.recs.getD 0 0)))
    if ts.1.st ≠ .ok then (.error (ts.1.st, ts.1.at_), ts.2)
    else (.ok { rows := x.1, scales := x.2, tsc := ts.1.bytes }, ts.2)

/-- Element bytes, scale bytes and flags an LD.FILL writes to the pocket (R102 to R105). -/
def ldOutputs (t : TileNo) (step : W64) (e : Entry) (i : LdIn) : List Byte × List Byte × W32 :=
  let w := e.word
  let pr := e.recs.getD 0 0
  let src := (Fmt.ofCode (prFmt pr)).getD .fp32
  let tgt := (Fmt.ofCode (ctlFmt (ldCvt w))).getD .fp32
  let e0 := prExt pr 0 e.bnd
  let rc := i.rows.map (unpackBytes src.bits e0)
  let codes := if prPat pr = 1 then transposeRows e0 rc else rc.flatten
  match ldstPlan w pr with
  | .convert mulT mulS =>
    let ts := tscSplit src i.tsc
    let r := convertElems w src tgt mulT mulS ts.1 ts.2 (seedOf step (ldTensor w) 0 t.val) codes (i.scales.map (·.toNat))
    (packBytes tgt.bits r.1, [], r.2)
  | _ => (if prPat pr = 1 then packBytes src.bits codes else i.rows.flatten, i.scales, 0)

/-- LD.FILL performed by the load engine (R100 to R106). -/
def Device.ldFill (d : Device) (t : TileNo) (k : Nat) : Device :=
  match d.ready t .ld k .fill, d.owner t with
  | some f, some (p, _) =>
    let i := d.ldInputs t p f.e
    match i.1 with
    | .error (st, at_) => i.2.accessFailed t .ld k f p st at_
    | .ok x =>
      let o := ldOutputs t (d.tiles[t]).step f.e x
      let a := i.2.ownWrite t .ld (ldPoff f.e.word) o.1
      if a.1 ≠ .ok then a.2.accessFailed t .ld k f p a.1 (ldPoff f.e.word)
      else
        let psc := srPsc (f.e.recs.getD 1 0)
        let b := a.2.ownWrite t .ld psc o.2.1
        if b.1 ≠ .ok then b.2.accessFailed t .ld k f p b.1 psc
        else (b.2.orCvt t o.2.2).performed t .ld k 0
  | _, _ => d

def execLdFill (t : TileNo) (ph : Phase) (s : State) : Host.Outcome State Fault Refusal :=
  onLive (fun d => match ph with
    | .issue => d.issueQ t .fill
    | .perform k => d.ldFill t k) s

/-- LD.TOUCH (R100): the pattern's lines, scales included, are read into the lining; nothing is written to the pocket (log
33). -/
def Device.ldTouch (d : Device) (t : TileNo) (k : Nat) : Device :=
  match d.ready t .ld k .touch, d.owner t with
  | some f, some (p, _) =>
    let m := d.ldMemory t p f.e
    match m.1 with
    | .error (st, at_) => m.2.accessFailed t .ld k f p st at_
    | .ok _ => m.2.performed t .ld k 0
  | _, _ => d

def execLdTouch (t : TileNo) (ph : Phase) (s : State) : Host.Outcome State Fault Refusal :=
  onLive (fun d => match ph with
    | .issue => d.issueQ t .touch
    | .perform k => d.ldTouch t k) s

/-! ### ST.PUT -/

/-- What an ST.PUT reads from the pocket: rows and scale rows in the memory-side format, with conversion flags (R104,
R105). -/
def Device.putInputs (d : Device) (t : TileNo) (e : Entry) :
    Except (ASt × Nat) ((List (List Byte) × List (List Byte)) × W32) × Device :=
  let w := e.word
  let pr := e.recs.getD 0 0
  let sr := e.recs.getD 1 0
  let src := (Fmt.ofCode (prPfmt pr)).getD .fp32
  let tgt := (Fmt.ofCode (prFmt pr)).getD .fp32
  let e0 := prExt pr 0 e.bnd
  let rows := rowCount e pr
  let n := e0 * rows
  let el := d.ownRead t .st (ldPoff w) ((n * src.bits + 7) / 8)
  if el.1.st ≠ .ok then (.error (el.1.st, el.1.at_), el.2)
  else
    let sc := el.2.ownRead t .st (srPsc sr) (if src.isBlock then n / src.block else 0)
    if sc.1.st ≠ .ok then (.error (sc.1.st, sc.1.at_), sc.2)
    else
      let ts := sc.2.ownRead t .st (srTsc sr) (tscNeed src (ldstPlan w pr))
      if ts.1.st ≠ .ok then (.error (ts.1.st, ts.1.at_), ts.2)
      else
        match ldstPlan w pr with
        | .convert mulT mulS =>
          let tm := tscSplit src ts.1.bytes
          let r := convertElems w src tgt mulT mulS tm.1 tm.2 (seedOf (d.tiles[t]).step (ldTensor w) 0 t.val)
            (unpackBytes src.bits n el.1.bytes) (sc.1.bytes.map (·.toNat))
          (.ok (((List.range rows).map (fun j => packBytes tgt.bits ((r.1.drop (j * e0)).take e0)), []), r.2), ts.2)
        | _ =>
          let rb := rowBytes src e0
          let sb := if src.isBlock then e0 / src.block else 0
          (.ok (((List.range rows).map (fun j => (el.1.bytes.drop (j * rb)).take rb),
                 if sb = 0 then [] else (List.range rows).map (fun j => (sc.1.bytes.drop (j * sb)).take sb)), 0), ts.2)

/-- One row written by the store engine (R101, R106, R144, R288). -/
def Device.putRow (d : Device) (t : TileNo) (p : PartNo) (pr : W256) (addr : Nat) (bs : List Byte) : ASt × Device :=
  if bs = [] then (.ok, d)
  else if prSpace pr = 0 then d.ownWrite t .st addr bs
  else if prSpace pr = 2 then (fun (r : Got × Device) => (r.1.st, r.2)) (d.hbmWrite p addr bs true)
  else if prSpace pr = 3 then (fun (r : Got × Device) => (r.1.st, r.2)) (d.tmemWrite p addr bs)
  else if h : prTile pr < 512 then
    if addr + bs.length > claspBase then (.clasp, d)
    else if d.owns p (prTile pr) then
      -- a dropped write faults the owner of the pocket, not the writer (R144)
      (fun (r : ASt × Device) => (if r.1 = .poison then .ok else r.1, r.2)) (d.meshWrite ⟨prTile pr, h⟩ addr bs)
    else (.unbound, d)
  else (.unbound, d)

/-- Rows written in turn; the first that fails ends it, with its address, or that of the line found poisoned (R289). -/
def Device.putRows (d : Device) (t : TileNo) (p : PartNo) (pr : W256) (l : List (Nat × List Byte)) : (ASt × Nat) × Device :=
  l.foldl (fun (acc : (ASt × Nat) × Device) r =>
    if acc.1.1 ≠ .ok then acc
    else
      let x := acc.2.putRow t p pr r.1 r.2
      ((x.1, if prSpace pr = 2 ∧ x.1 ≠ .ok then x.2.poisonAt p r.1 r.2.length else r.1), x.2)) ((.ok, 0), d)

/-- ST.PUT: first the source bytes are read and converted (its source release), then the rows are written. -/
def Device.stPut (d : Device) (t : TileNo) (k : Nat) : Device :=
  match d.ready t .st k .put, d.owner t with
  | some f, some (p, _) =>
    let pr := f.e.recs.getD 0 0
    let sr := f.e.recs.getD 1 0
    match f.buf with
    | none =>
      let i := d.putInputs t f.e
      match i.1 with
      | .error (st, at_) => i.2.accessFailed t .st k f p st at_
      | .ok (b, fl) => (i.2.orCvt t fl).modFlightAt t .st k (fun f => { f with buf := some b })
    | some (rows, scales) =>
      let ti := d.ownRead t .st (itabRange f.e pr).1 (itabRange f.e pr).2
      if ti.1.st ≠ .ok then ti.2.accessFailed t .st k f p ti.1.st ti.1.at_
      else
        let idx := indexEntries pr ti.1.bytes
        let l := (elemRows f.e pr idx).zip rows ++ (scaleRows f.e pr sr idx).zip scales
        let a := ti.2.putRows t p pr l
        if a.1.1 ≠ .ok then a.2.accessFailed t .st k f p a.1.1 a.1.2
        else (a.2.modFlightAt t .st k (fun f => { f with wrote := l.map (fun r => (r.1, r.2.length)) })).performed t .st k 0
  | _, _ => d

def execStPut (t : TileNo) (ph : Phase) (s : State) : Host.Outcome State Fault Refusal :=
  onLive (fun d => match ph with
    | .issue => d.issueQ t .put
    | .perform k => d.stPut t k) s

/-! ### ST.CLW -/

/-- Trace record of a clasp operation (R453). -/
def Device.traceClasp (d : Device) (t : TileNo) (p : PartNo) (op target clasp : Nat) : Device :=
  d.traceRec 2 t.val (some p) (BitVec.ofNat 16 op) (BitVec.ofNat 128 (target + clasp <<< 16))

/-- ST.CLW (R172, R174): VALUE of the named clasp is written, a release with ORD. -/
def Device.stClw (d : Device) (t : TileNo) (k : Nat) : Device :=
  match d.ready t .st k .clw, d.owner t with
  | some f, some (p, c) =>
    let w := f.e.word
    let tt := if clwScope w = 0 then t.val else clwTile w
    if !d.owns p tt then d.execFault t .st f fcAddrUnbound 0
    else
      let r := d.claspFrom p c t (jEng .st) (.tile t .st) t.val d.chipId.toNat tt (fin (clwClasp w)) false
        { clArg clSwapOp (clwVal w) with own := some c, by_ := some (t, f.e.pcq) }
      match r.1 with
      | .poison => if tt = t.val then r.2 else r.2.execFault t .st f fcPoisonRead 0
      | .waits => r.2
      | .diverged => r.2
      | _ => (r.2.traceClasp t p clSwapOp tt (clwClasp w)).performed t .st k 0
  | _, _ => d

def execStClw (t : TileNo) (ph : Phase) (s : State) : Host.Outcome State Fault Refusal :=
  onLive (fun d => match ph with
    | .issue => d.issueQ t .clw
    | .perform k => d.stClw t k) s

end Sys2Proof.Machine
end

