-- ==== Sys2Proof/Machine/ClaspOps.lean ====
section
/-! DEFINITION. CL instructions and watches of a tile (R110, R171 to R181, R474). -/

namespace Sys2Proof.Machine

/-- The engine whose k-th started instruction is of the operation and may be performed now; of several the first in the
order of R171. -/
def Device.readyAny (d : Device) (t : TileNo) (k : Nat) (op : TOp) : Option (Eng × Flight) :=
  [Eng.ld, Eng.mm, Eng.vx, Eng.st].findSome? (fun e => (d.ready t e k op).map (fun f => (e, f)))

/-- A clasp operation or watch of a tile was denied (R175, Table 7.7). -/
def Device.noteDenied (d : Device) (t : TileNo) : Device := d.modTile t (fun x => { x with claspNote := setBit x.claspNote 12 true })

/-- Target of a CL instruction: chip and tile; none where SCOPE 1 names a tile of another partition. -/
def Device.clTarget (d : Device) (t : TileNo) (p : PartNo) (w : W128) : Option (Nat × Nat) :=
  if clScope w = 0 then some (d.chipId.toNat, t.val)
  else if clScope w = 1 then (if d.owns p (clTile w) then some (d.chipId.toNat, clTile w) else none)
  else some (clChip w, clTile w)

/-- The k-th started instruction sent a request under a TAG and awaits its answer. -/
def Device.sentAs (d : Device) (t : TileNo) (e : Eng) (k tag : Nat) : Device :=
  (d.performed t e k 1).modFlightAt t e k (fun f => { f with tag := some tag })

/-- The previous word goes to the pocket operand at +8 (R110, R172). -/
def Device.returnWord (d : Device) (t : TileNo) (e : Eng) (f : Flight) (word : W64) : Device :=
  if clVsrc f.e.word then
    let r := d.ownWrite t e (clPoff f.e.word + 8) (leBytes 8 word.toNat)
    if r.1 = .ok then r.2 else r.2.execFault t e f (faultOf r.1) 0
  else d

/-- A CL instruction met an uncorrectable clasp word (R144): in its own tile the fault is recorded there, in another tile the answer
POISON makes it fault with POISON_READ. -/
def Device.claspPoisoned (d : Device) (t : TileNo) (e : Eng) (f : Flight) (chip tile : Nat) : Device :=
  if chip = d.chipId.toNat && tile = t.val then d else d.execFault t e f fcPoisonRead 0

/-- A CL atomic or CL.READ of a tile (R172 to R175). -/
def Device.clAtomic (d : Device) (t : TileNo) (k : Nat) (top : TOp) (code : Nat) : Device :=
  match d.readyAny t k top, d.owner t with
  | some (e, f), some (p, c) =>
    let w := f.e.word
    match d.clTarget t p w with
    | none => d.execFault t e f fcAddrUnbound 0
    | some (chip, tt) =>
      let n := if !clVsrc w || code = clReadOp then 0 else if code = clCasOp then 16 else 8
      let r := d.ownRead t e (clPoff w) n
      if r.1.st ≠ .ok then r.2.execFault t e f (faultOf r.1.st) 0
      else
        let v := leNat r.1.bytes
        let a : ClArg :=
          { op := code, vsrc := clVsrc w, w0 := if clVsrc w then BitVec.ofNat 64 v else BitVec.ofNat 64 (clVal w),
            w1 := BitVec.ofNat 64 (v / 2 ^ 64), own := if clScope w ≤ 1 then some c else none, by_ := some (t, f.e.pcq) }
        let x := r.2.claspFrom p c t (jEng e) (.tile t e) t.val chip tt (fin (clClasp w)) (clScope w = 2) a
        let d' := x.2.traceClasp t p code tt (clClasp w)
        match x.1 with
        | .word prev => (d'.returnWord t e f prev).performed t e k 0
        | .poison => d'.claspPoisoned t e f chip tt
        | .denied => (d'.noteDenied t).performed t e k 0
        | .held => d'.performed t e k 0
        | .sent tag => d'.sentAs t e k tag
        | .waits => x.2
        | .diverged => x.2
  | _, _ => d

def clRow (t : TileNo) (ph : Phase) (op : TOp) (code : Nat) (s : State) : Host.Outcome State Fault Refusal :=
  onLive (fun d => match ph with
    | .issue => d.issueQ t op
    | .perform k => d.clAtomic t k op code) s

def execClAdd (t : TileNo) (ph : Phase) (s : State) : Host.Outcome State Fault Refusal := clRow t ph .clAdd clAddOp s
def execClSwap (t : TileNo) (ph : Phase) (s : State) : Host.Outcome State Fault Refusal := clRow t ph .clSwap clSwapOp s
def execClCas (t : TileNo) (ph : Phase) (s : State) : Host.Outcome State Fault Refusal := clRow t ph .clCas clCasOp s
def execClAnd (t : TileNo) (ph : Phase) (s : State) : Host.Outcome State Fault Refusal := clRow t ph .clAnd clAndOp s
def execClOr (t : TileNo) (ph : Phase) (s : State) : Host.Outcome State Fault Refusal := clRow t ph .clOr clOrOp s
def execClMax (t : TileNo) (ph : Phase) (s : State) : Host.Outcome State Fault Refusal := clRow t ph .clMax clMaxOp s
def execClRead (t : TileNo) (ph : Phase) (s : State) : Host.Outcome State Fault Refusal := clRow t ph .clRead clReadOp s

/-! ### Watches -/

/-- The watch a CL.WATCH or CL.WAIT registers (R177, R179). -/
def watchOf (t : TileNo) (e : Eng) (c : CtxNo) (chip : ChipId) (wait : Bool) (w : W128) (v : Nat) : Watch :=
  { value := BitVec.ofNat 48 v, clasp := fin (clClasp w), cond := clCond w, nkind := if wait then 1 else clNkind w,
    narg := if wait then fin e.idx.val else clNarg w, remote := clScope w = 2, wait := wait, tile := t, chip := chip, ctx := c,
    holder := .tile e, inv := clInv w, tag := 0 }

/-- CL.WATCH and CL.WAIT (R176, R179, R181): a CL.WATCH completes once accepted; a CL.WAIT awaits its notification. With VSRC 1 the
clasp word before the registration goes to the pocket operand at +8 (R110). -/
def Device.clRegister (d : Device) (t : TileNo) (k : Nat) (wait : Bool) : Device :=
  match d.readyAny t k (if wait then .clWait else .clWatch), d.owner t with
  | some (e, f), some (p, c) =>
    let w := f.e.word
    match d.clTarget t p w with
    | none => d.execFault t e f fcAddrUnbound 0
    | some (chip, tt) =>
      let r := d.ownRead t e (clPoff w) (if clVsrc w then 8 else 0)
      if r.1.st ≠ .ok then r.2.execFault t e f (faultOf r.1.st) 0
      else
        let v := if clVsrc w then leNat r.1.bytes else clVal w
        let x := r.2.watchFrom p c t (jEng e) (.watch t e) t.val chip tt (clScope w = 2) (watchOf t e c d.chipId wait w v)
          (some (t, f.e.pcq))
        let d' := x.2.traceClasp t p (if wait then clWaitOp else clWatchOp) tt (clClasp w)
        match x.1 with
        | .accepted (some v) => (d'.returnWord t e f v).performed t e k wait.toNat
        | .accepted none => d'.performed t e k wait.toNat
        | .queued v => (d'.returnWord t e f v).performed t e k 1
        | .poison => d'.claspPoisoned t e f chip tt
        | .denied => (d'.noteDenied t).performed t e k 0
        | .held => d'.performed t e k wait.toNat
        | .sent tag => d'.sentAs t e k tag
        | .waits => x.2
        | .diverged => x.2
  | _, _ => d

def execClWatch (t : TileNo) (ph : Phase) (s : State) : Host.Outcome State Fault Refusal :=
  onLive (fun d => match ph with
    | .issue => d.issueQ t .clWatch
    | .perform k => d.clRegister t k false) s

def execClWait (t : TileNo) (ph : Phase) (s : State) : Host.Outcome State Fault Refusal :=
  onLive (fun d => match ph with
    | .issue => d.issueQ t .clWait
    | .perform k => d.clRegister t k true) s

/-- Edit the first started instruction of an engine that a test picks. -/
def Device.modFlightWhere (d : Device) (t : TileNo) (e : Eng) (p : Flight → Bool) (f : Flight → Flight) : Device :=
  d.modFlight t e (fun l => match firstIdx p l with
    | some k => l.modify k f
    | none => l)

/-- The started CL.WATCH or CL.WAIT of this chip whose registration waits for a slot of a tile's clasp unit. -/
def Flight.waitsAt (f : Flight) (t : TileNo) (w : Watch) : Bool :=
  f.performed && f.awaits == 1 && f.tag.isNone && decodeOp f.e.word == some (if w.wait then .clWait else .clWatch)
    && clClasp f.e.word == w.clasp.val && (if clScope f.e.word = 0 then t = w.tile else clTile f.e.word == t.val)

/-- The acceptance of a registration reaches its owner (R181): a CL.WATCH of this chip completes; a registration from another chip is
answered, with status POISON where its clasp word is uncorrectable (R144). `p` is the partition the clasp unit's tile is bound to. -/
def Device.answerWatch (d : Device) (p : Option PartNo) (t : TileNo) (w : Watch) (poison : Bool) (word : W64) : Device :=
  if w.chip ≠ d.chipId then
    match p with
    | some p => d.inject p (tileCuff t) 0xA w.chip.toNat (midRsp w.tag (if poison then 2 else 0)) (leBytes 8 word.toNat)
    | none => d
  else match w.holder with
    | .tile e =>
      if (d.tiles[w.tile]).ctx ≠ some w.ctx then d
      else if poison then
        match ((d.tiles[w.tile]).flight[e.idx]).find? (fun f => f.waitsAt t w) with
        | some f => d.claspPoisoned w.tile e f d.chipId.toNat t
        | none => d
      else if w.wait then d
      else d.modFlightWhere w.tile e (fun f => f.waitsAt t w) (fun f => { f with awaits := 0 })
    | _ => d

/-- The tile instruction whose registration waits at a clasp unit: its tile and PCQ. -/
def Device.waiterOf (d : Device) (t : TileNo) (w : Watch) : Option (TileNo × Nat) :=
  match w.holder with
  | .tile e => if w.chip = d.chipId then
      (((d.tiles[w.tile]).flight[e.idx]).find? (fun f => f.waitsAt t w)).map (fun f => (w.tile, f.e.pcq)) else none
  | _ => none

/-- WATCH_SLOT_ACCEPT (R181): once a slot is free, the first waiting registration is evaluated as R176 says. -/
def Device.acceptWaiting (d : Device) (t : TileNo) : Device :=
  let x := d.tiles[t]
  match x.watchWait, x.freeSlot with
  | w :: rest, some i =>
    let r := (d.modTile t (fun x => { x with watchWait := rest })).judgeWatch t w (d.waiterOf t w) (some i)
    r.2.2.answerWatch x.bound t w (r.1 = .poison) r.2.1
  | _, _ => d

def execWatchSlotAccept (t : TileNo) (s : State) : Host.Outcome State Fault Refusal := onLive (fun d => d.acceptWaiting t) s

end Sys2Proof.Machine
end

