-- ==== Sys2Proof/Machine/Movers.lean ====
section
/-! DEFINITION. Movers (08_movers.md): acceptance and forwarding, patterns and the movement of data, pacing, the end of a
channel, cancelling. -/

namespace Sys2Proof.Machine

/-! ### Channels and their clasp operations -/

/-- The tile that launched a channel, and the slot of its own mover. -/
def Desc.launcher (x : Desc) : Option (TileNo × Fin 8) :=
  match x.origin with
  | .tile t s => some (t, s)
  | _ => none

/-- Journal engine of a mover's operations (R373): the tile mover, or a mover elsewhere. -/
def moverEng : MoverId → Fin 64
  | .tile _ => 4
  | .bulk n => fin (6 + n.val)
  | .hl n => fin (22 + n.val)

/-- A clasp operation of a channel (R174, R205, R372): through journal and fence for a channel of a tile. A channel of the
host or the collar belongs to no segment (log 11). -/
def Device.chanOp (d : Device) (m : MoverId) (k : Nat) (x : Desc) (chip t : Nat) (n : ClaspNo) (scope2 : Bool) (a : ClArg) :
    ClRes × Device :=
  let a := { a with by_ := match m with | .tile t => some (t, x.e.pcq) | _ => none }
  match x.launcher with
  | some (src, _) =>
    if (d.ctxs[x.ctx]).st = .running then
      d.claspFrom x.part x.ctx src (moverEng m) (.mover m k) (reqNo m) chip t n scope2 a
    else d.claspSend x.part (.mover m k) (reqNo m) chip t n scope2 a
  | none => d.claspSend x.part (.mover m k) (reqNo m) chip t n scope2 a

/-- A watch of a channel (R205): NKIND 3. -/
def Device.chanWatch (d : Device) (m : MoverId) (k : Nat) (x : Desc) (chip t : Nat) (n : ClaspNo) (scope2 : Bool) (cond v : Nat) :
    WRes × Device :=
  let w : Watch :=
    { value := BitVec.ofNat 48 v, clasp := n, cond := fin cond, nkind := 3, narg := 0, remote := scope2, wait := false,
      tile := fin (reqNo m), chip := d.chipId, ctx := x.ctx, holder := .mover m k, inv := false, tag := 0 }
  let by_ : Option (TileNo × Nat) := match m with | .tile t => some (t, x.e.pcq) | _ => none
  match x.launcher with
  | some (src, _) => d.watchFrom x.part x.ctx src (moverEng m) (.mover m k) (reqNo m) chip t scope2 w by_
  | none => d.watchSend x.part (.mover m k) (reqNo m) chip t scope2 w by_

/-- Whether the shadow of an audit has yet to reach an operation of a tile's own mover (R379). -/
def Device.shadowDue (d : Device) (m : MoverId) (x : Desc) : Bool :=
  match m, x.launcher with
  | .tile _, some (src, _) => (d.ctxs[x.ctx]).auditTile = some src && !(d.ctxs[x.ctx]).met
  | _, _ => false

/-- Operations of a channel in one step are met by the shadow of an audit together with the first of them (R379, log 13). -/
def Device.metWith (d0 d : Device) (x : Desc) : Device :=
  match x.launcher with
  | some (src, _) =>
    if (d0.ctxs[x.ctx]).auditTile = some src && (d0.ctxs[x.ctx]).met then d.modCtx x.ctx (fun c => { c with met := true }) else d
  | none => d

/-- Trace record of a channel's new state (R453). -/
def Device.traceSlot (d : Device) (m : MoverId) (k : Nat) (x : Desc) (st : Nat) : Device :=
  d.traceRec 1 (reqNo m) (some x.part) (BitVec.ofNat 16 st) (BitVec.ofNat 128 k)

/-! ### Failures (R144, R205 to R207) -/

/-- How a channel's access fails: a status of Table 8.8, a code of R207, or a wait for memory. -/
inductive MvFail where
  | status (n : Nat)
  | fault (code : Nat)
  | repair
  | wait
deriving DecidableEq, Repr

/-- The failure a status of an access means for a channel (R144, R206, R207). -/
def mvFailOf (ownEngine : Bool) : ASt → MvFail
  | .denied => .status 1
  | .unbound => .fault fcAddrUnbound
  | .ue => if ownEngine then .fault fcPocketUe else .fault fcPoisonRead
  | .clasp => .fault fcClaspRegion
  | .repair => .repair
  | .down => .wait
  | _ => .fault fcPoisonRead

/-- Status of a host channel for a code (R207); a clasp-region access counts as an unbound address (log 14). -/
def hostStatus (code : Nat) : Nat := if code = fcPoisonRead || code = fcPocketUe then 7 else if code = fcReqTimeout then 8 else 6

/-- A channel fails (R205 to R207): it stops and awaits its replies; a code is a tile fault of its launching tile. -/
def Device.failChannel (d : Device) (m : MoverId) (k : Nat) (x : Desc) (at_ : Nat) (f : MvFail) : Device :=
  let stop (d : Device) (n : Nat) : Device := (d.modSlot m k (fun s => { s with st := .stopping, status := n })).traceSlot m k x 6
  match f with
  | .status n => stop d n
  | .fault code =>
    (match x.launcher with
     | some (t, _) => stop (d.faultTile t code 5 x.e.pcq (at_ / 2 ^ 24)) 4
     | none => stop d (hostStatus code))
  | .repair => (d.askRepair x.part at_ (.mover m k)).modSlot m k (fun s => { s with sentAt := d.devTime })
  | .wait => d.modSlot m k (fun s => { s with sentAt := d.devTime })

/-- A clasp operation or watch of a channel failed: denied by a window (R205), or on an uncorrectable word (R144, R207), of which the
fault is recorded already where the word lies in the mover's own tile. -/
def Device.claspFailed (d : Device) (m : MoverId) (k : Nat) (x : Desc) (tile : Nat) (denied : Bool) : Device :=
  if denied then d.failChannel m k x 0 (.status 1)
  else if m matches .tile _ && x.launcher.any (fun l => l.1.val = tile) then d.failChannel m k x 0 (.status 4)
  else d.failChannel m k x 0 (.fault fcPoisonRead)

/-! ### Acceptance (R190, R199, R202) -/

/-- The tile that holds the pacing clasps of a channel (R203, R204). -/
def Desc.paceTile (x : Desc) : TileNo := if dPace x.d = 3 then dCTile x.d else dFTile x.d

/-- The watch a paced channel waits for: PACE 3 its condition, PACE 4 the high mark (R203, R204); one that fails ends the channel
(R205). -/
def Device.paceWatch (d : Device) (m : MoverId) (k : Nat) (x : Desc) : Device :=
  let r := if dPace x.d = 3 then
    d.chanWatch m k x d.chipId.toNat (dCTile x.d) (fin (dCClasp x.d)) false (dCCond x.d).val (dCVal x.d)
  else
    let tail := clValue (d.claspWord (dFTile x.d) (dFTail x.d))
    d.chanWatch m k x d.chipId.toNat (dFTile x.d) (fin (dFHead x.d)) false 2 ((tail + dFHigh x.d + 1) % 2 ^ 48)
  match r.1 with
  | .denied => r.2.claspFailed m k x x.paceTile true
  | .poison => r.2.claspFailed m k x x.paceTile false
  | _ => r.2

/-- A descriptor enters a slot (R199, R202): READY with PACE 0, else WAITING for its start event. -/
def Device.acceptSlot (d : Device) (m : MoverId) (k : Nat) (x : Desc) : Device :=
  let d := d.modSlot m k (fun s =>
    { Slot.reset with status := s.status, prio := dPrio x.d, exec := fin (dExec x.d), mover := fin (dMover x.d),
                      desc := some x, st := if dPace x.d = 0 then .ready else .waiting })
  let d := d.traceSlot m k x (if dPace x.d = 0 then 2 else 1)
  if dPace x.d ≥ 3 then d.paceWatch m k x else d

/-- Whether an executing mover accepts a descriptor now (R188, R218, R360): it serves the partition and the quota has
room. -/
def Device.moverAccepts (d : Device) (m : MoverId) (x : Desc) : Bool :=
  match m with
  | .tile _ => true
  | .bulk n => (match d.bulkBound[n] with
    | some (p, res) => p = x.part && (!res || d.realTime x.ctx)
    | none => false)
  | .hl n => d.moverServes x.part 2 n.val &&
      decide (((d.hl[n]).slots.filter (fun s => s.st ≠ .free && (s.desc.map (·.part)) = some x.part)).length <
        d.cfg 0x6090 1 x.part.val)

/-- A descriptor at an executing mover takes the lowest free slot; its proxy learns which (R190). -/
def Device.placeDesc (d : Device) (m : MoverId) (x : Desc) : Option Device :=
  if d.moverAccepts m x then
    match firstIdx (fun s => s.st = .free) (d.mover m).slots with
    | some k =>
      let d := d.acceptSlot m k x
      some (match x.launcher with
        | some (t, s) => d.modSlot (.tile t) s (fun q => { q with rslot := fin k })
        | none => d)
    | none => none
  else none

/-- Waiting descriptors that may be accepted now, in arrival order (R190). -/
def Device.takeArrivals (d : Device) (m : MoverId) : Device :=
  (d.mover m).arrivals.foldl (fun d x =>
    match d.placeDesc m x with
    | some d' => d'.modMover m (fun q => { q with arrivals := q.arrivals.erase x })
    | none => d) d

/-- MV.LAUNCH (R189, R190): the descriptor enters the slot of the tile mover, or the slot becomes its proxy. -/
def Device.mvLaunch (d : Device) (t : TileNo) (k : Nat) : Device :=
  match d.readyAny t k .launch, d.owner t with
  | some (e, f), some (p, c) =>
    match f.e.recs with
    | [a, b, s, q] =>
      let slot := mvSlot f.e.word
      let x : Desc := { d := b ++ a, srcRec := s, dstRec := q, origin := .tile t slot, ctx := c, part := p, e := f.e }
      if ((d.tiles[t]).mover.slot slot).st ≠ .free || (dExec x.d = 0 && dPace x.d ≥ 3 && d.shadowDue (.tile t) x) then d
      else
        let d := d.performed t e k 0
        if dExec x.d = 0 then d.acceptSlot (.tile t) slot x
        else
          let d := d.modSlot (.tile t) slot (fun q =>
            { Slot.reset with status := q.status, prio := dPrio x.d, exec := fin (dExec x.d), mover := fin (dMover x.d),
                              desc := some x, st := .forwarded })
          { d.traceSlot (.tile t) slot x 5 with forwards := d.forwards ++ [(execMover (some t) x.d, x)] }
    | _ => d
  | _, _ => d

def execMvLaunch (t : TileNo) (ph : Phase) (s : State) : Host.Outcome State Fault Refusal :=
  onLive (fun d => match ph with
    | .issue => d.issueQ t .launch
    | .perform k => d.mvLaunch t k) s

/-- A forwarded descriptor reaches its executing mover (R190): it takes a slot or waits in arrival order. -/
def Device.descForward (d : Device) (m : MoverId) : Device :=
  match d.forwards.find? (fun f => f.1 = m) with
  | none => d
  | some f =>
    let d := { d with forwards := d.forwards.erase f }
    if (d.mover m).arrivals.any (fun y => y.part = f.2.part) then
      d.modMover m (fun q => { q with arrivals := q.arrivals ++ [f.2] })
    else match d.placeDesc m f.2 with
      | some d' => d'
      | none => d.modMover m (fun q => { q with arrivals := q.arrivals ++ [f.2] })

def execDescriptorForward (m : MoverId) (s : State) : Host.Outcome State Fault Refusal := onLive (fun d => d.descForward m) s

/-! ### The end of a channel (R206 to R209, R423) -/

/-- Channels that wait for the end of a slot (PACE 2, R203). -/
def awaitsSlot (m : MoverId) (k : Nat) (s : Slot) : Bool :=
  s.st = .waiting && !s.poolWait && (match s.desc with
    | some x => dPace x.d = 2 && dWSlot x.d = k &&
        decide ((if dWExec x.d = 1 then MoverId.bulk (fin (dWMover x.d)) else if dWExec x.d = 2 then .hl (fin (dWMover x.d))
          else .tile (dWTile x.d)) = m)
    | none => false)

/-- The end of a slot makes the channels that wait for it READY, within the partition (R203). -/
def Device.wakeWaiters (d : Device) (m : MoverId) (k : Nat) (p : PartNo) : Device :=
  let wake (q : Mover) : Mover :=
    { q with slots := q.slots.map (fun s =>
        if awaitsSlot m k s && decide ((s.desc.map (·.part)) = some p) then { s with st := .ready } else s) }
  { d with tiles := d.tiles.map (fun x => { x with mover := wake x.mover }), bulk := d.bulk.map wake, hl := d.hl.map wake }

/-- Completion status of a channel the host launched (R206, R207, Table 18.9). -/
def chanStatus : Nat → W16
  | 0 => St.ok.code
  | 1 => St.denied.code
  | 2 => St.poolEmpty.code
  | 3 => St.abandoned.code
  | 4 => St.cancelled.code
  | 5 => St.poisonRead.code
  | 6 => St.addrUnbound.code
  | 7 => St.poisonRead.code
  | _ => St.reqTimeout.code

/-- Whether a status sets MOVER_NOTE.ERR (Table 8.9). -/
def errStatus (st : Nat) : Bool := st = 1 || st = 2 || st = 3 || st = 5

/-- An MV.CANCEL that waited for its slot to be FREE again completes (R96). -/
def Tile.cancelsDone (x : Tile) (s : Fin 8) : Tile :=
  { x with flight := x.flight.map (fun l => l.map (fun f =>
      if f.performed && decodeOp f.e.word = some .cancel && mvSlot f.e.word = s then { f with awaits := 0 } else f)) }

/-- Status, token, note and FREE at the slot of the launching tile (R206 steps 3 to 5): no token after a cancel (R208). -/
def Device.endAtTile (d : Device) (t : TileNo) (s : Fin 8) (status : Nat) : Device :=
  match ((d.tiles[t]).mover.slot s).desc with
  | none => d
  | some x =>
    let w := x.e.word
    let d := d.modSlot (.tile t) s (fun q => { q with status := status, st := .free, desc := none, awaits := 0, tag := none,
                                                      reads := [], buf := [], alloc := none, unitOpen := false, doneSent := false,
                                                      poolWait := false, poolHeld := false })
    let d := d.modTile t (fun y => y.cancelsDone s)
    let d := if errStatus status then d.modTile t (fun y => { y with moverNote := setBit y.moverNote s.val true }) else d
    let d := if wSen w && !wSigat w && status ≠ 4 then d.addTok t (wStok w) 1 5 x.e.pcq else d
    (d.traceSlot (.tile t) s x 0).wakeWaiters (.tile t) s x.part

/-- The host's command of a channel completes (R421, R423): DETAIL is the number of bytes delivered. -/
def Device.endAtHost (d : Device) (p : PartNo) (q : QueueNo) (cid : W16) (status bytes : Nat) : Device :=
  let started := (d.parts[p]).queues[q].started.filter (fun s => match s with
    | .channel c _ => c ≠ cid
    | _ => true)
  (d.modQueue p q (fun u => { u with started := started })).postCq p q
    { cid := cid, status := chanStatus status, detail := BitVec.ofNat 64 bytes }

/-- A channel ends at its executing mover with a status (R190, R206). -/
def Device.endChannel (d : Device) (m : MoverId) (k status : Nat) : Device :=
  let s := d.slot m k
  match s.desc with
  | none => d
  | some x =>
    match x.origin with
    | .tile t n =>
      if m = .tile t then d.endAtTile t n status
      else
        let d := d.modSlot m k (fun q => { Slot.reset with status := status, late := q.late, doneBytes := q.doneBytes })
        ({ d.traceSlot m k x 0 with reports := d.reports ++ [(t, n, status)] }.wakeWaiters m k x.part).takeArrivals m
    | .host p q cid =>
      let d := d.modSlot m k (fun q => { Slot.reset with status := status, late := q.late, doneBytes := q.doneBytes })
      (((d.traceSlot m k x 0).endAtHost p q cid status s.doneBytes.toNat).wakeWaiters m k x.part).takeArrivals m
    | .collar =>
      let d := d.modSlot m k (fun q => { Slot.reset with status := status, late := q.late, doneBytes := q.doneBytes })
      ((d.traceSlot m k x 0).wakeWaiters m k x.part).takeArrivals m

/-- The executing mover's end report reaches the proxy slot (R190). -/
def Device.endReport (d : Device) (t : TileNo) : Device :=
  match d.reports.find? (fun r => r.1 = t) with
  | none => d
  | some r => { d with reports := d.reports.erase r }.endAtTile t r.2.1 r.2.2

def execChannelEndReport (t : TileNo) (s : State) : Host.Outcome State Fault Refusal := onLive (fun d => d.endReport t) s

/-! ### Patterns (R194 to R196) -/

/-- Row and byte of stream position k. -/
def mpRow (r : W256) (k : Nat) : Nat := k / mpE0 r
def mpCol (r : W256) (k : Nat) : Nat := k % mpE0 r

/-- Offset of the row of a strided pattern. -/
def mpStride (r : W256) (row : Nat) : Int :=
  let d1 := row % mpE1 r
  let d2 := row / mpE1 r % mpE2 r
  let d3 := row / (mpE1 r * mpE2 r)
  (d1 : Int) * mpS1 r + (d2 : Int) * mpS2 r + (d3 : Int) * mpS3 r

/-- Bytes from an address to the end of its translation page (R197): pages of stacked memory, granules of table memory. -/
def pageLeft (space a : Nat) : Option Nat :=
  if space = 2 then some (pageSize - a % pageSize) else if space = 3 then some (2 ^ 30 - a % 2 ^ 30) else none

/-- Bytes of the access at an address with n bytes left in its run (R197). -/
def accessLen (a n : Nat) : Nat :=
  if a % 64 = 0 ∧ 64 ≤ n then 64
  else (([32, 16, 8, 4, 2, 1] : List Nat).find? (fun s => a % s = 0 && s ≤ n && a % 64 + s ≤ 64)).getD 1

/-- Address of a byte at offset o + d0, and the bytes to the end of its row or to its wrap point (R195, R197). -/
def mpPlace (r : W256) (base : Nat) (o : Int) (d0 : Nat) : Nat × Nat :=
  let left := mpE0 r - d0
  let w := mpWrap r
  if w = 0 then (((base + o + (d0 : Int)) % (2 ^ 64 : Int)).toNat, left)
  else
    let off := ((o + (d0 : Int)) % (2 ^ w : Int)).toNat
    (base + off, min left (2 ^ w - off))

/-- The source or destination endpoint and pattern of a channel. -/
def Desc.ep (x : Desc) (dst : Bool) : Endpt := dEp x.d dst
def Desc.pat (x : Desc) (dst : Bool) : W256 := if dst then x.dstRec else x.srcRec

/-- Read pocket bytes of the launching tile for a channel: its own mover as an engine of the tile, another through the
mesh. -/
def Device.launchRead (d : Device) (m : MoverId) (x : Desc) (off n : Nat) : Got × Device :=
  match x.launcher with
  | none => ({ st := .unbound, bytes := [], at_ := off }, d)
  | some (t, _) =>
    if m = .tile t then
      if off + n > claspBase then ({ st := .clasp, bytes := [], at_ := off }, d) else d.pocketRead t off n 5
    else d.meshRead t off n

/-- Offset of a row: strided, or its index entry times S1, read while the channel runs (R195, R196). -/
def Device.rowOffset (d : Device) (m : MoverId) (x : Desc) (r : W256) (row : Nat) : Except Got Int × Device :=
  if mpPat r = 0 then (.ok (mpStride r row), d)
  else
    let a := mpIbase r + mpEntry r * row
    let g := if mpIspc r then d.hbmRead x.part a (mpEntry r) true else d.launchRead m x a (mpEntry r)
    if g.1.st = .ok then (.ok (((leNat g.1.bytes * mpS1u r) % 2 ^ 64 : Nat) : Int), g.2) else (.error g.1, g.2)

/-- Address of stream position k on one side, and the bytes left in its run (R197). -/
def Device.placeOf (d : Device) (m : MoverId) (x : Desc) (dst : Bool) (k base : Nat) : Except Got (Nat × Nat) × Device :=
  let r := x.pat dst
  let o := d.rowOffset m x r (mpRow r k)
  match o.1 with
  | .error g => (.error g, o.2)
  | .ok v =>
    let q := mpPlace r base v (mpCol r k)
    (.ok (q.1, ((pageLeft (x.ep dst).space q.1).map (min q.2)).getD q.2), o.2)

/-! ### Reads and writes of a channel (R193, R197, R198) -/

/-- Whether an endpoint lies on another chip. -/
def Device.epFar (d : Device) (e : Endpt) : Bool := (e.space = 1 || e.space = 5) && e.chip ≠ d.chipId.toNat

/-- A pocket access of SPACE 1 or 5 on this chip, judged by R164 to R167: allowed, denied, or in the clasp region. -/
def Device.pocketJudge (d : Device) (p : PartNo) (t off n right : Nat) : ASt × Device :=
  if h : t < 512 then
    if off + n > claspBase then (.clasp, d)
    else if d.owns p t then (.ok, d)
    else
      let slice := match d.sliceOf p with
        | some k => (d.tables[k]).id.toNat
        | none => 0
      if d.admitted ⟨t, h⟩ off n slice d.chipId.toNat right then (.ok, d)
      else (.denied, d.violation ⟨t, h⟩ off n slice d.chipId.toNat right)
  else (.denied, d)

/-- One read access on this chip. -/
def Device.chanRead (d : Device) (m : MoverId) (x : Desc) (e : Endpt) (a n : Nat) : Got × Device :=
  if e.space = 0 then d.launchRead m x a n
  else if e.space = 1 then
    let j := d.pocketJudge x.part e.tile a n rightRd
    if j.1 = .ok then j.2.meshRead (fin e.tile) a n else ({ st := j.1, bytes := [], at_ := a }, j.2)
  else if e.space = 2 then d.hbmRead x.part a n true
  else if e.space = 3 then d.tmemRead x.part a n
  else (d.hostRead x.part a n, d)

/-- One write access on this chip: its status. A dropped write answers POISON (R206). -/
def Device.chanWrite (d : Device) (m : MoverId) (x : Desc) (e : Endpt) (a : Nat) (bs : List Byte) : ASt × Device :=
  if e.space = 0 then
    match x.launcher with
    | none => (.unbound, d)
    | some (t, _) =>
      if m = .tile t then
        if a + bs.length > claspBase then (.clasp, d)
        else
          let r := d.pocketWrite t a bs 5
          match r.1 with
          | some w => (.poison, r.2.faultTile t fcPocketUe 5 x.e.pcq (w / 2 ^ 24))
          | none => (.ok, r.2)
      else d.meshWrite t a bs
  else if e.space = 1 || e.space = 5 then
    let j := d.pocketJudge x.part e.tile a bs.length rightWr
    if j.1 = .ok then j.2.meshWrite (fin e.tile) a bs else j
  else if e.space = 2 then (fun (r : Got × Device) => (r.1.st, r.2)) (d.hbmWrite x.part a bs true)
  else if e.space = 3 then (fun (r : Got × Device) => (r.1.st, r.2)) (d.tmemWrite x.part a bs)
  else (fun (r : Got × Device) => (r.1.st, r.2)) (d.hostWrite x.part a bs)

/-- The destination base of a channel: a pool slot lies at the pool's base + 4,096 x slot (R213, R214). -/
def Slot.dstBase (s : Slot) (e : Endpt) : Nat :=
  if e.space = 5 then s.poolBase + 4096 * ((s.alloc.map (·.val)).getD 0) + e.base % 4096 else e.base

/-- Stream bytes delivered (Table 8.8): everything sent once no write is outstanding. -/
def Device.delivered (d : Device) (m : MoverId) (k : Nat) : Device :=
  let s := d.slot m k
  match s.desc with
  | none => d
  | some x =>
    if s.awaits = 0 ∧ s.doneBytes.toNat < min s.pos (2 ^ 32 - 1) then
      (d.modSlot m k (fun q => { q with doneBytes := BitVec.ofNat 32 (min q.pos (2 ^ 32 - 1)) })).count (some x.part) 0x010
        (reqNo m) (min s.pos (2 ^ 32 - 1) - s.doneBytes.toNat)
    else d

/-- Bytes of the stream that have been read go to their destination in one access, or in one packet to another chip (R197, R198); the
position moves on. -/
def Device.putPiece (d : Device) (m : MoverId) (k : Nat) (x : Desc) (a : Nat) (bs : List Byte) : Device :=
  let e := x.ep true
  let s := d.slot m k
  if d.epFar e then
    let flagged := dFlagm x.d = 2 || (dFlagm x.d = 1 && s.pos = 0)
    if a + bs.length > claspBase then d.failChannel m k x a (.fault fcClaspRegion)
    else
      let d := d.inject x.part (reqCuff (reqNo m)) (if flagged then 1 else 0) e.chip (midReq e.tile a (reqNo m)) bs
      d.modSlot m k (fun q => { q with pos := q.pos + bs.length, buf := q.buf.drop bs.length, awaits := q.awaits + 1,
                                       sentAt := d.devTime })
  else
    let r := d.chanWrite m x e a bs
    if r.1 = .ok then (r.2.modSlot m k (fun q => { q with pos := q.pos + bs.length, buf := q.buf.drop bs.length })).delivered m k
    else if r.1 = .poison && e.space ≠ 2 && e.space ≠ 3 then r.2.failChannel m k x a (.status 5)
    else r.2.failChannel m k x a (mvFailOf (m matches .tile _) r.1)

/-- One read access of the channel, after the bytes read already (R197): on this chip at once; from another chip in a READ of up to 256
bytes, whose answer is awaited (log 23). -/
def Device.fetchPiece (d : Device) (m : MoverId) (k : Nat) (x : Desc) : Bool × Device :=
  let s := d.slot m k
  let src := x.ep false
  let at_ := s.pos + s.buf.length
  let a := d.placeOf m x false at_ src.base
  match a.1 with
  | .error g => (false, a.2.failChannel m k x g.at_ (mvFailOf (m matches .tile _) g.st))
  | .ok (sa, run) =>
    let left := min run (s.target - at_)
    if d.epFar src then
      let n := min left 256
      if sa + n > claspBase then (false, a.2.failChannel m k x sa (.fault fcClaspRegion))
      else
        let g := a.2.newTag (.mover m k)
        let d := g.2.inject x.part (reqCuff (reqNo m)) 2 src.chip (midReq src.tile sa (reqNo m)) (leBytes 8 (g.1 + n <<< 23))
        (false, d.modSlot m k (fun q => { q with reads := [(g.1, at_, n)], sentAt := d.devTime }))
    else
      let r := a.2.chanRead m x src sa (accessLen sa left)
      if r.1.st = .ok then (true, r.2.modSlot m k (fun q => { q with buf := q.buf ++ r.1.bytes }))
      else (false, r.2.failChannel m k x r.1.at_ (mvFailOf (m matches .tile _) r.1.st))

/-- One access of a running channel (R197): the next write access once all its bytes are read, else the next read access; none while a
flagged packet has to wait (R157, R198) or a read from another chip is outstanding. The two sides are split into accesses
independently. Answers whether it moved. -/
def Device.movePiece (d : Device) (m : MoverId) (k : Nat) (x : Desc) : Bool × Device :=
  let s := d.slot m k
  let dst := x.ep true
  if s.st ≠ .running || decide (s.target ≤ s.pos) || !s.reads.isEmpty then (false, d)
  else
    let b := d.placeOf m x true s.pos (s.dstBase dst)
    match b.1 with
    | .error g => (false, b.2.failChannel m k x g.at_ (mvFailOf (m matches .tile _) g.st))
    | .ok (da, run) =>
      let left := min run (s.target - s.pos)
      let n := if d.epFar dst then min left 256 else accessLen da left
      if s.buf.length < n then b.2.fetchPiece m k x
      else if dFlagm x.d = 2 && d.epFar dst && s.awaits ≠ 0 then (false, b.2)
      else (true, b.2.putPiece m k x da (s.buf.take n))

/-- Move until nothing more can move now. -/
def Device.moveN : Nat → Device → MoverId → Nat → Desc → Device
  | 0, d, _, _, _ => d
  | n + 1, d, m, k, x =>
    let r := d.movePiece m k x
    if r.1 then Device.moveN n r.2 m k x else r.2

/-- A running channel moves on: each of its bytes takes part in at most one read and one write access. -/
def Device.moveOn (d : Device) (m : MoverId) (k : Nat) : Device :=
  let s := d.slot m k
  match s.desc with
  | some x => d.moveN (2 * (s.target - s.pos) + 1) m k x
  | none => d

/-! ### Pools (R214 to R217) -/

/-- The open pool that a channel's home tile and POOLID name, with its partition. -/
def Device.poolOf (d : Device) (t : Nat) (n : PoolNo) : Option (PartNo × Pool) :=
  if h : t < 512 then
    match (d.tiles[t]).bound with
    | some p =>
      let q := (d.parts[p]).pools[n]
      if q.open_ && q.tile = t then some (p, q) else none
    | none => none
  else none

/-- A slot of a pool of this chip was given: the round-robin pointer moves to the number after the requester (R215). -/
def Device.poolServed (d : Device) (p : PartNo) (n : PoolNo) (req : Nat) : Device :=
  d.modPool p n (fun q => { q with rr := (req + 1) % 536 })

/-- A channel that does not wait ended with POOL_EMPTY (R216). -/
def Device.poolMissed (d : Device) (p : PartNo) (n : PoolNo) : Device :=
  (d.modPool p n (fun q => { q with emptyCount := q.emptyCount + 1 })).count (some p) 0x012 n.val 1

/-- ALLOC found no slot (R216): the channel ends, or waits on the free mask and releases its mover. -/
def Device.poolEmpty (d : Device) (m : MoverId) (k : Nat) (x : Desc) (chip t : Nat) (n : ClaspNo) (scope2 : Bool) : Device :=
  if dPwait x.d then
    let d := d.modSlot m k (fun s => { s with st := .waiting, poolWait := true })
    let w := d.chanWatch m k x chip t n scope2 1 0
    match w.1 with
    | .denied => w.2.claspFailed m k x t true
    | .poison => w.2.claspFailed m k x t false
    | .sent g => w.2.modSlot m k (fun s => { s with tag := some g, sentAt := d.devTime })
    | _ => w.2
  else d.failChannel m k x 0 (.status 2)

/-- A slot was allocated (R214). -/
def Device.poolTaken (d : Device) (m : MoverId) (k : Nat) (s base clasp : Nat) : Device :=
  d.modSlot m k (fun q => { q with alloc := some (fin s), pslot := fin s, poolBase := base, poolClasp := clasp })

/-- The word an ALLOC from another chip is answered with (log 23): slot number, free clasp, and the pool's first byte. -/
def allocWord (s clasp base : Nat) : W64 := BitVec.ofNat 64 (s + clasp <<< 8 + base <<< 32)

/-- Whether the windows of another partition of this chip let a channel at the slots of a pool (R214). -/
def Device.poolWr (d : Device) (x : Desc) (pool : Pool) : Bool :=
  d.owns x.part pool.tile || d.admitted (fin pool.tile) pool.base (4096 * pool.slots)
    ((d.sliceOf x.part).elim 0 (fun k => (d.tables[k]).id.toNat)) d.chipId.toNat rightWr

/-- ALLOC of a selected channel (R214). True when the channel may move. On another chip the pool is named by POOLID in word
0, with PWAIT above it (log 23). -/
def Device.allocSlot (d : Device) (m : MoverId) (k : Nat) (x : Desc) : Bool × Device :=
  let e := x.ep true
  if d.epFar e then
    let r := d.chanOp m k x e.chip e.tile 0 true (clArg clAllocOp ((dPoolId x.d).val + 8 * (dPwait x.d).toNat))
    match r.1 with
    | .sent g => (false, r.2.modSlot m k (fun s => { s with tag := some g, sentAt := d.devTime }))
    | .word w => (true, r.2.poolTaken m k (fld w 0 8) (fld w 32 32) (fld w 8 8))
    | .denied => (false, r.2.claspFailed m k x 512 true)
    | .held => (false, r.2.modSlot m k (fun s => { s with poolHeld := true }))
    | _ => (false, r.2)
  else
    match d.poolOf e.tile (dPoolId x.d) with
    | none => (false, d.failChannel m k x 0 (.status 1))
    | some (p, pool) =>
      let scope2 := p ≠ x.part
      if !d.poolWr x pool then
        (false, (d.violation (fin e.tile) pool.base (4096 * pool.slots) ((d.sliceOf x.part).elim 0 (fun k => (d.tables[k]).id.toNat))
          d.chipId.toNat rightWr).claspFailed m k x e.tile true)
      else
        let r := d.chanOp m k x e.chip e.tile (fin pool.freeClasp) scope2 (clArg clAllocOp 0)
        match r.1 with
        | .word w =>
          (match lowestBit (clValue w), clPoison w with
           | some s, false => (true, (r.2.poolServed p (dPoolId x.d) (reqNo m)).poolTaken m k s pool.base pool.freeClasp)
           | _, _ =>
             let d := d.metWith r.2 x
             (false, (if dPwait x.d then d else d.poolMissed p (dPoolId x.d)).poolEmpty m k x e.chip e.tile (fin pool.freeClasp) scope2))
        | .denied => (false, r.2.claspFailed m k x e.tile true)
        | .poison => (false, r.2.claspFailed m k x e.tile false)
        | .held => (false, r.2.modSlot m k (fun s => { s with poolHeld := true }))
        | _ => (false, r.2)

/-- A channel returns its pool slot (R217): OR of its bit into the free mask. -/
def Device.returnSlot (d : Device) (m : MoverId) (k : Nat) (x : Desc) : Device :=
  let s := d.slot m k
  match s.alloc with
  | none => d
  | some b =>
    let e := x.ep true
    let r := d.chanOp m k x e.chip e.tile (fin s.poolClasp) (!d.owns x.part e.tile) (clArg clOrOp (2 ^ b.val))
    match r.1 with
    | .sent g => r.2.modSlot m k (fun s => { s with alloc := none, tag := some g, sentAt := d.devTime })
    | .waits => r.2
    | _ => r.2.modSlot m k (fun s => { s with alloc := none })

/-! ### Selection (R200) -/

/-- The READY slot a mover takes: the highest PRIO, then the lowest number. -/
def Mover.pick (q : Mover) : Option Nat :=
  (q.slots.zipIdx.foldl (fun (acc : Option (Nat × Nat)) (s : Slot × Nat) =>
    if s.1.st = .ready then
      match acc with
      | some (_, pr) => if s.1.prio.val > pr then some (s.2, s.1.prio.val) else acc
      | none => some (s.2, s.1.prio.val)
    else acc) none).map (·.1)

/-- What a channel moves before its first pause: a burst (PACE 1 with a period), nothing (PACE 4), or everything. -/
def firstTarget (x : Desc) : Nat :=
  let n := mpBytes x.srcRec
  if dPace x.d = 1 ∧ dTPeriod x.d ≠ 0 then min n (dBurst x.d) else if dPace x.d = 4 then 0 else n

/-- A selected channel starts: its first burst or its whole stream moves. -/
def Device.startChannel (d : Device) (m : MoverId) (k : Nat) (x : Desc) : Device :=
  let s := d.slot m k
  let d := d.modSlot m k (fun q => { q with target := if s.pos = 0 then firstTarget x else q.target, burst := max q.burst 1 })
  d.moveOn m k

/-- MOVER_SELECT (R200, R214): an idle mover selects and starts a channel; a channel that waited for memory or for its slot
moves on. -/
def Device.moverSelect (d : Device) (m : MoverId) : Device :=
  let q := d.mover m
  let go (d : Device) (k : Nat) (x : Desc) : Device :=
    let s := d.slot m k
    if s.tag.isSome || s.poolHeld then d
    else if dPool x.d && s.alloc.isNone then
      let r := d.allocSlot m k x
      if r.1 then r.2.startChannel m k x else r.2
    else if s.burst = 0 then d.startChannel m k x else d.moveOn m k
  match firstIdx (fun (s : Slot) => s.st = .running) q.slots with
  | some k =>
    (match (d.slot m k).desc with
     | some x => go d k x
     | none => d)
  | none =>
    if q.slots.any (fun s => s.st = .paused || s.st = .stopping) then d
    else
      match q.pick with
      | none => d
      | some k =>
        match (d.slot m k).desc with
        | none => d
        | some x => go ((d.modSlot m k (fun s => { s with st := .running })).traceSlot m k x 3) k x

def execMoverSelect (m : MoverId) (s : State) : Host.Outcome State Fault Refusal := onLive (fun d => d.moverSelect m) s

/-! ### Pacing (R203, R204) -/

/-- PACE 1 (R203): device time has reached T_START. -/
def Device.paceStart (d : Device) (m : MoverId) (k : Nat) : Device :=
  let s := d.slot m k
  match s.desc with
  | some x =>
    if s.st = .waiting ∧ !s.poolWait ∧ dPace x.d = 1 ∧ d.devTime.toNat ≥ (dTStart x.d).toNat then
      (d.modSlot m k (fun s => { s with st := .ready })).traceSlot m k x 2
    else d
  | none => d

def execPaceTimerStart (m : MoverId) (slot : Nat) (s : State) : Host.Outcome State Fault Refusal :=
  onLive (fun d => d.paceStart m slot) s

/-- Device time of the next burst. -/
def Slot.nextBurst (s : Slot) (x : Desc) : Nat := (dTStart x.d).toNat + s.burst * dTPeriod x.d

/-- The next burst begins (R203). -/
def Device.nextBurst (d : Device) (m : MoverId) (k : Nat) (x : Desc) : Device :=
  ((d.modSlot m k (fun s => { s with st := .running, burst := s.burst + 1,
                                     target := min (mpBytes x.srcRec) (s.pos + dBurst x.d) })).traceSlot m k x 3).moveOn m k

/-- The slot of a mover in a given state. -/
def Device.slotIn (d : Device) (m : MoverId) (st : SlotSt) : Option (Nat × Desc) :=
  match firstIdx (fun (s : Slot) => s.st = st) (d.mover m).slots with
  | some k => (d.slot m k).desc.map (fun x => (k, x))
  | none => none

/-- BURST_START: a paused timer channel resumes at its period (R203). -/
def Device.burstStart (d : Device) (m : MoverId) : Device :=
  match d.slotIn m .paused with
  | some (k, x) =>
    if dPace x.d = 1 ∧ d.devTime.toNat ≥ (d.slot m k).nextBurst x then d.nextBurst m k x else d
  | none => d

def execBurstStart (m : MoverId) (s : State) : Host.Outcome State Fault Refusal := onLive (fun d => d.burstStart m) s

/-- BURST_DONE: the burst's last write is delivered (R203): PAUSED, or at once the next burst, late. -/
def Device.burstDone (d : Device) (m : MoverId) : Device :=
  match d.slotIn m .running with
  | some (k, x) =>
    let s := d.slot m k
    if dPace x.d = 1 ∧ dTPeriod x.d ≠ 0 ∧ s.pos = s.target ∧ s.target < mpBytes x.srcRec ∧ s.awaits = 0 ∧ 0 < s.burst then
      if d.devTime.toNat ≥ s.nextBurst x then
        ((d.modSlot m k (fun s => { s with late := fin (min 31 (s.late.val + 1)) })).count (some x.part) 0x011 (reqNo m) 1).nextBurst
          m k x
      else (d.modSlot m k (fun s => { s with st := .paused })).traceSlot m k x 4
    else d
  | none => d

def execBurstDone (m : MoverId) (s : State) : Host.Outcome State Fault Refusal := onLive (fun d => d.burstDone m) s

/-- Step 3 of R204: once the unit's writes are delivered, a flagged ADD of 1 to the tail clasp. -/
def Device.tailAdd (d : Device) (m : MoverId) (k : Nat) (x : Desc) : Device :=
  let s := d.slot m k
  if s.unitOpen && s.awaits = 0 && s.reads.isEmpty && s.pos = s.target then
    let r := d.chanOp m k x d.chipId.toNat (dFTile x.d) (fin (dFTail x.d)) false (clArg clAddOp 1)
    match r.1 with
    | .denied => r.2.claspFailed m k x x.paceTile true
    | .poison => r.2.claspFailed m k x x.paceTile false
    | .waits => r.2
    | .diverged => r.2
    | _ => r.2.modSlot m k (fun s => { s with unitOpen := false })
  else d

/-- Steps 1 and 2 of R204: the fill is read; at or above the low mark the next unit moves, below it the channel pauses with
its watch. -/
def Device.nextUnit (d : Device) (m : MoverId) (k : Nat) (x : Desc) : Device :=
  let rd (d : Device) (n : Nat) : ClRes × Device :=
    d.chanOp m k x d.chipId.toNat (dFTile x.d) (fin n) false { clArg clReadOp 0 with vsrc := true }
  let h := rd d (dFHead x.d)
  let t := rd (if h.1 = .waits then h.2 else d.metWith h.2 x) (dFTail x.d)
  match h.1, t.1 with
  | .word a, .word b =>
    let f := (clValue a + 2 ^ 48 - clValue b) % 2 ^ 48
    if f ≥ dFLow x.d then
      let d := t.2.modSlot m k (fun s => { s with unitOpen := true, target := min (mpBytes x.srcRec) (s.pos + dFUnit x.d) })
      (d.moveOn m k).tailAdd m k x
    else (((d.metWith t.2 x).modSlot m k (fun s => { s with st := .paused })).traceSlot m k x 4).paceWatch m k x
  | .denied, _ | _, .denied => t.2.claspFailed m k x x.paceTile true
  | .poison, _ | _, .poison => t.2.claspFailed m k x x.paceTile false
  | _, _ => t.2

/-- FILL_UNIT: a fill-level channel ends its unit, or begins the next (R204). -/
def Device.fillUnit (d : Device) (m : MoverId) : Device :=
  match d.slotIn m .running with
  | some (k, x) =>
    let s := d.slot m k
    if dPace x.d ≠ 4 then d
    else if s.unitOpen then (d.moveOn m k).tailAdd m k x
    else if s.pos < mpBytes x.srcRec then d.nextUnit m k x else d
  | none => d

def execFillUnit (m : MoverId) (s : State) : Host.Outcome State Fault Refusal := onLive (fun d => d.fillUnit m) s

/-! ### Ends (R206, R208) -/

/-- Every write of the channel is delivered and its stream exhausted. -/
def Slot.streamDone (s : Slot) (x : Desc) : Bool :=
  s.st = .running && s.pos = mpBytes x.srcRec && s.awaits = 0 && s.reads.isEmpty && !s.unitOpen

/-- Target and operand of the done operation (R191): chip, tile, judged by windows, operation. -/
def doneTarget (own : Nat) (x : Desc) (s : Slot) : Nat × Nat × Bool × ClArg :=
  let a := if dDoneOp x.d = 1 then clArg clAddOp (dDoneVal x.d) else clArg clOrOp (2 ^ ((s.alloc.map (·.val)).getD 0))
  if dDoneScope x.d = 0 then (own, (x.launcher.map (fun l => l.1.val)).getD 0, false, a)
  else if dDoneScope x.d = 1 then (own, dDoneTile x.d, false, a)
  else (dDoneChip x.d, dDoneTile x.d, true, a)

/-- CHANNEL_END (R206): the done operation, then status, token and FREE. -/
def Device.channelEnd (d : Device) (m : MoverId) (k : Nat) : Device :=
  let s := d.slot m k
  match s.desc with
  | none => d
  | some x =>
    if !s.streamDone x || s.tag.isSome then d
    else if dDoneOp x.d = 0 || s.doneSent then d.endChannel m k 0
    else if dDoneScope x.d = 1 && !d.owns x.part (dDoneTile x.d) then d.failChannel m k x 0 (.fault fcAddrUnbound)
    else
      let g := doneTarget d.chipId.toNat x s
      let r := d.chanOp m k x g.1 g.2.1 (fin (dDoneClasp x.d)) g.2.2.1 g.2.2.2
      match r.1 with
      | .sent t => r.2.modSlot m k (fun s => { s with doneSent := true, tag := some t, sentAt := d.devTime })
      | .denied => r.2.claspFailed m k x g.2.1 true
      | .poison => r.2.claspFailed m k x g.2.1 false
      | .waits => r.2
      | .diverged => r.2
      | _ => r.2.endChannel m k 0

def execChannelEnd (m : MoverId) (slot : Nat) (s : State) : Host.Outcome State Fault Refusal := onLive (fun d => d.channelEnd m slot) s

/-- CHANNEL_STOPPED (R206, R208, R217): the last reply has come; a pool slot is returned, and the slot becomes FREE. -/
def Device.channelStopped (d : Device) (m : MoverId) (k : Nat) : Device :=
  let s := d.slot m k
  match s.desc with
  | none => d
  | some x =>
    if s.st ≠ .stopping || s.awaits ≠ 0 || !s.reads.isEmpty || s.tag.isSome then d
    else
      let d := d.returnSlot m k x
      if (d.slot m k).tag.isSome || (d.slot m k).alloc.isSome then d else d.endChannel m k s.status

def execChannelStopped (m : MoverId) (slot : Nat) (s : State) : Host.Outcome State Fault Refusal :=
  onLive (fun d => d.channelStopped m slot) s

/-- A channel is cancelled (R208, R209): WAITING and READY end at once with their watch, RUNNING and PAUSED stop. -/
def Device.cancelSlot (d : Device) (m : MoverId) (k : Nat) : Device :=
  let s := d.slot m k
  match s.desc with
  | none => d
  | some x =>
    match s.st with
    | .waiting | .ready => (d.dropWatches (fun w => w.holder = .mover m k)).endChannel m k 4
    | .running | .paused =>
      ((d.dropWatches (fun w => w.holder = .mover m k)).modSlot m k (fun s => { s with st := .stopping, status := 4 })).traceSlot m k x 6
    | _ => d

/-- The slot of an executing mover, or the waiting descriptor, that a proxy stands for. -/
def Device.cancelProxy (d : Device) (t : TileNo) (n : Fin 8) : Device :=
  let s := d.slot (.tile t) n
  match s.desc with
  | none => d
  | some x =>
    let m := execMover (some t) x.d
    match firstIdx (fun (q : Slot) => (q.desc.map (·.origin)) = some x.origin) (d.mover m).slots with
    | some k => d.cancelSlot m k
    | none =>
      let d := { d with forwards := d.forwards.filter (fun f => f.2.origin ≠ x.origin), reports := d.reports ++ [(t, n, 4)] }
      d.modMover m (fun q => { q with arrivals := q.arrivals.filter (fun y => y.origin ≠ x.origin) })

/-- MV.CANCEL (R190, R208): it completes once the slot is FREE again, for a proxy once the executing mover has freed its slot and the
proxy's end is reported (R96). -/
def Device.mvCancel (d : Device) (t : TileNo) (k : Nat) : Device :=
  match d.readyAny t k .cancel with
  | none => d
  | some (e, f) =>
    let n := mvSlot f.e.word
    let d := if (d.slot (.tile t) n).st = .forwarded then
        (if d.reports.any (fun r => r.1 = t && r.2.1 = n) then d else d.cancelProxy t n)
      else d.cancelSlot (.tile t) n
    d.performed t e k (if (d.slot (.tile t) n).st = .free then 0 else 1)

def execMvCancel (t : TileNo) (ph : Phase) (s : State) : Host.Outcome State Fault Refusal :=
  onLive (fun d => match ph with
    | .issue => d.issueQ t .cancel
    | .perform k => d.mvCancel t k) s

/-- MV.SETPRIO (R190, R201): PRIO is written at once, at the executing mover for a proxy. -/
def Device.mvSetprio (d : Device) (t : TileNo) (k : Nat) : Device :=
  match d.readyAny t k .setprio with
  | none => d
  | some (e, f) =>
    let n := mvSlot f.e.word
    let pr := mvPrio f.e.word
    let d := d.performed t e k 0
    let s := d.slot (.tile t) n
    let d := d.modSlot (.tile t) n (fun s => { s with prio := pr })
    match s.st, s.desc with
    | .forwarded, some x =>
      let m := execMover (some t) x.d
      let put (y : Desc) : Desc := if y.origin = x.origin then { y with d := setFld y.d 6 3 pr.val } else y
      let d := { d with forwards := d.forwards.map (fun (f : MoverId × Desc) => (f.1, put f.2)) }
      d.modMover m (fun q =>
        { q with arrivals := q.arrivals.map put,
                 slots := q.slots.map (fun (s : Slot) => if (s.desc.map (·.origin)) = some x.origin then { s with prio := pr } else s) })
    | _, _ => d

def execMvSetprio (t : TileNo) (ph : Phase) (s : State) : Host.Outcome State Fault Refusal :=
  onLive (fun d => match ph with
    | .issue => d.issueQ t .setprio
    | .perform k => d.mvSetprio t k) s

/-- The notification of a channel's watch (R203 to R205, R216): its start event, its resumption, or its end as
ABANDONED. -/
def Device.chanNotified (d : Device) (m : MoverId) (k : Nat) (abandoned : Bool) : Device :=
  let s := d.slot m k
  match s.desc with
  | none => d
  | some x =>
    if s.st ≠ .waiting && s.st ≠ .paused then d
    else if abandoned then (d.modSlot m k (fun s => { s with tag := none })).failChannel m k x 0 (.status 3)
    else if s.st = .waiting then (d.modSlot m k (fun s => { s with st := .ready, tag := none, poolWait := false })).traceSlot m k x 2
    else (d.modSlot m k (fun s => { s with st := .running })).traceSlot m k x 3

end Sys2Proof.Machine
end

