-- ==== Sys2Proof/Machine/Gather.lean ====
section
/-! DEFINITION. Gather engines (R219 to R240): job rings, tables, rows and the row cache, forward and backward jobs. -/

namespace Sys2Proof.Machine

/-! ### Descriptors (Tables 9.2, 9.3) -/

def gOp (d : BitVec 1024) : Nat := fld d 0 2
def gPool (d : BitVec 1024) : Nat := fld d 2 2
def gIw (d : BitVec 1024) : Nat := if bitOf d 4 then 8 else 4
def gIspc (d : BitVec 1024) : Bool := bitOf d 5
def gOfmt (d : BitVec 1024) : Nat := fld d 6 1
def gOpt (d : BitVec 1024) : Nat := fld d 7 2
def gUrnd (d : BitVec 1024) : Nat := if bitOf d 9 then 2 else 0
def gItile (d : BitVec 1024) : TileNo := fin (fld d 10 9)
def gNbags (d : BitVec 1024) : Nat := fld d 19 24
def gTdesc (d : BitVec 1024) : Nat := fld d 64 48
def gRspace (d : BitVec 1024) : Nat := fld d 112 3
def gIdx (d : BitVec 1024) : Nat := fld d 128 48
def gOff (d : BitVec 1024) : Nat := fld d 192 48
def gWgt (d : BitVec 1024) : Nat := fld d 256 48
def gDoff (d : BitVec 1024) : Nat := fld d 320 21
def gDtile (d : BitVec 1024) : TileNo := fin (fld d 341 9)
def gDpitch (d : BitVec 1024) : Nat := fld d 350 16
def gPclasp (d : BitVec 1024) : Nat := fld d 384 6
def gPtile (d : BitVec 1024) : TileNo := fin (fld d 390 9)
def gPbags (d : BitVec 1024) : Nat := fld d 399 16
def gDclasp (d : BitVec 1024) : Nat := fld d 415 6
def gCtile (d : BitVec 1024) : TileNo := fin (fld d 421 9)
def gDval (d : BitVec 1024) : Nat := fld d 430 16
def gLr (d : BitVec 1024) : W32 := BitVec.ofNat 32 (fld d 448 32)
def gHyp (d : BitVec 1024) : W32 := BitVec.ofNat 32 (fld d 480 32)
def gScr (d : BitVec 1024) : Nat := fld d 512 48
def gSeedTile (d : BitVec 1024) : Nat := fld d 560 9

def tD (t : W256) : Nat := fld t 0 13
def tElem (t : W256) : Nat := fld t 13 3
def tSck (t : W256) : Nat := fld t 16 2
def tPitch (t : W256) : Nat := fld t 18 16
def tSlog (t : W256) : Nat := fld t 34 6
def tId (t : W256) : Nat := fld t 40 20
def tRows (t : W256) : Nat := fld t 64 40
def tMap (t : W256) : Nat := fld t 128 48
def tState (t : W256) : Nat := fld t 192 48

/-- Element format of ELEM. -/
def tFmt (t : W256) : Fmt :=
  match tElem t with
  | 0 => .fp32 | 1 => .bf16 | 2 => .e4m3 | 3 => .e5m2 | _ => .mxE2M1

/-- Bytes of a row's elements, the place of its scale, and RB (R224). -/
def tElemBytes (t : W256) : Nat := (tD t * (tFmt t).bits + 7) / 8
def tScaleAt (t : W256) : Nat := (tElemBytes t + 3) / 4 * 4
def tRowBytes (t : W256) : Nat :=
  if tSck t = 0 then tElemBytes t else tScaleAt t + (if tSck t = 1 then 4 else 1)

/-- State bytes of a row (R234). -/
def gZ (d : BitVec 1024) (t : W256) : Nat := if gOpt d = 0 then 0 else if gOpt d = 1 then (4 * tD t + 15) / 16 * 16 else 16

/-- Completion statuses (Table 9.4). -/
def gsBadDesc : Nat := 1
def gsIndexRange : Nat := 2
def gsUnbound : Nat := 3
def gsPoison : Nat := 4
def gsTimeout : Nat := 5
def gsResidue : Nat := 6
def gsCancelled : Nat := 7
def gsTmemFail : Nat := 8

/-- Why the work of a job stops: a status, or a wait for peer repair or for memory that does not answer. -/
inductive GStop where
  | status (n : Nat)
  | repair (addr : Nat)
  | wait
deriving DecidableEq, Repr

def gStopOf (g : Got) : GStop :=
  match g.st with
  | .repair => .repair g.at_
  | .down => .wait
  | .unbound => .status gsUnbound
  | .clasp => .status gsBadDesc
  | .denied => .status gsBadDesc
  | _ => .status gsPoison

def Device.modJob (d : Device) (g : GatherNo) (f : Job → Job) : Device := d.modGather g (fun q => { q with job := q.job.map f })

/-- Descriptor checks before the table is read (R222, R233, R239). -/
def Device.jobBad (d : Device) (p : PartNo) (x : BitVec 1024) : Bool :=
  let op := gOp x
  let arr := (!gIspc x && !d.owns p (gItile x).val) || gIdx x % gIw x ≠ 0 || gOff x % 4 ≠ 0 || (gPool x = 3 && gWgt x % 4 ≠ 0)
  op = 3 || (gDval x ≠ 0 && (gDclasp x > 47 || !d.owns p (gCtile x).val))
    || (op = 2 && gRspace x ≠ 2 && gRspace x ≠ 3)
    || (op ≠ 2 && (gNbags x = 0 || gTdesc x % 32 ≠ 0 || arr || gDoff x % 16 ≠ 0 || gDpitch x % 16 ≠ 0
          || !d.owns p (gDtile x).val || (gPbags x ≠ 0 && (gPclasp x > 47 || !d.owns p (gPtile x).val))))
    || (op = 1 && (gPool x = 2 || gOpt x = 3 || gScr x % 64 ≠ 0))

/-- Table checks (R223, R222). -/
def tableBad (x : BitVec 1024) (t : W256) : Bool :=
  tD t = 0 || tD t > 4096 || tElem t > 4 || (tElem t = 4 && tD t % 2 = 1) || tSck t = 3 || tPitch t % 16 ≠ 0
    || tPitch t < tRowBytes t || tSlog t > 40 || tRows t = 0 || tMap t % 8 ≠ 0
    || gDpitch x < tD t * (if gOfmt x = 0 then 4 else 2) || (gOp x = 1 && gOpt x ≠ 0 && tState t % 64 ≠ 0)

/-! ### Reads of a job -/

/-- Read index, offset or weight bytes (R222). -/
def Device.arrRead (d : Device) (p : PartNo) (x : BitVec 1024) (addr n : Nat) : Except GStop Nat × Device :=
  let g : Got × Device := if gIspc x then d.hbmRead p addr n true else d.meshRead (gItile x) (addr % 2 ^ 21) n
  if g.1.st = .ok then (.ok (leNat g.1.bytes), g.2) else (.error (gStopOf g.1), g.2)

/-- Sets of a row cache: eight slices of 2 MiB, 16 ways of 64-byte lines (R230). -/
def rowCacheSets : Nat := 16384

/-- The set of a line (log 12: the mapping is the part's own). -/
def RLine.set (x : RLine) : Nat := Config.rowCacheSet x.part.val x.space x.line % rowCacheSets

/-- Install a line in a panel's row cache; a full set of 16 ways lets go of a line the manual leaves open (R230, log 12). -/
def Device.cacheInstall (d : Device) (pn : PanelNo) (x : RLine) : Device :=
  let l := d.rowCache[pn]
  let put (d : Device) (l : List RLine) : Device := { d with rowCache := d.rowCache.set pn (l ++ [x]) }
  if l.length < 16 then put d l
  else
    let same := l.filter (fun y => y.set = x.set)
    if same.length < 16 then put d l
    else
      let f := d.free
      put f.2 (match same[f.1.toNat % same.length]? with
        | some y => l.erase y
        | none => l)

/-- Ports that a job's access to table memory goes to (R243). -/
def Device.usePort (d : Device) (g : GatherNo) (p : PartNo) (addr : Nat) : Device :=
  match d.transTmem p addr with
  | some (h, _) => d.modJob g (fun j => if granPort h ∈ j.ports then j else { j with ports := j.ports ++ [granPort h] })
  | none => d

/-- Why an access of a row's SPACE stops the job: a failed table-memory port ends it with TMEM_FAIL (R243). -/
def Device.rowStop (d : Device) (p : PartNo) (space addr : Nat) (x : Got) : GStop :=
  match space, x.st, d.transTmem p addr with
  | 3, .down, some (h, _) => if (d.tmem[granPort h]).st = 3 then .status gsTmemFail else .wait
  | _, _, _ => gStopOf x

/-- One piece of a line through the row cache of the engine's panel (R230); a line of bad parity is discarded and read anew, as in a
lining, and counts among the corrected errors (R154, R446). -/
def Device.cachePiece (d : Device) (g : GatherNo) (p : PartNo) (space addr n : Nat) : Got × Device :=
  let pn := enginePanel g
  let line := addr / 64
  match (d.rowCache[pn]).find? (fun l => l.part = p && l.space = space && l.line = line && !l.parityBad) with
  | some l => ({ st := .ok, bytes := (l.data.drop (addr % 64)).take n, at_ := 0 }, d.count (some p) 0x021 g.val 1)
  | none =>
    let keep := (d.rowCache[pn]).filter (fun l => !(l.part = p && l.space = space && l.line = line))
    let dropped := (d.rowCache[pn]).length - keep.length
    let d := { d with rowCache := d.rowCache.set pn keep, cntCorrected := d.cntCorrected + BitVec.ofNat 64 dropped }.count (some p) 0x022 g.val 1
    let r : Got × Device := if space = 2 then d.hbmRead p (64 * line) 64 true else (d.usePort g p addr).tmemRead p (64 * line) 64
    if r.1.st = .ok then
      ({ st := .ok, bytes := (r.1.bytes.drop (addr % 64)).take n, at_ := 0 },
       r.2.cacheInstall pn { part := p, space := space, line := line, data := r.1.bytes, parityBad := false })
    else ({ r.1 with at_ := addr }, r.2)

/-- Read a row or its state through the row cache of the engine's panel. -/
def Device.rowRead (d : Device) (g : GatherNo) (p : PartNo) (space addr n : Nat) : Except GStop (List Byte) × Device :=
  (linePieces addr n).foldl (fun (acc : Except GStop (List Byte) × Device) (q : Nat × Nat) =>
    match acc.1 with
    | .error _ => acc
    | .ok bs =>
      let r := acc.2.cachePiece g p space q.1 q.2
      if r.1.st = .ok then (.ok (bs ++ r.1.bytes), r.2) else (.error (r.2.rowStop p space q.1 r.1), r.2)) (.ok [], d)

/-- A write of a gather engine updates every row cache that holds the line (R231). -/
def Device.cacheUpdate (d : Device) (p : PartNo) (space addr : Nat) (bs : List Byte) : Device :=
  { d with rowCache := d.rowCache.map (fun l => l.map (fun x =>
      if x.part = p ∧ x.space = space ∧ 64 * x.line < addr + bs.length ∧ addr < 64 * x.line + 64 then
        { x with data := x.data.mapIdx (fun i b =>
            if addr ≤ 64 * x.line + i ∧ 64 * x.line + i < addr + bs.length then bs.getD (64 * x.line + i - addr) b else b) }
      else x)) }

/-- A gather engine writes into SPACE 2 or 3 (R231). -/
def Device.gatherWrite (d : Device) (g : GatherNo) (p : PartNo) (space addr : Nat) (bs : List Byte) : Option GStop × Device :=
  let r := if space = 2 then d.hbmWrite p addr bs true else (d.usePort g p addr).tmemWrite p addr bs
  if r.1.st = .ok then (none, r.2.cacheUpdate p space addr bs) else (some (r.2.rowStop p space addr r.1), r.2)

/-- Read an entry of the tier map through the job's map cache of 256 entries; which one a full cache lets go of the manual leaves
open (R226, log 12). -/
def Device.mapRead (d : Device) (g : GatherNo) (p : PartNo) (addr n : Nat) : Except GStop Nat × Device :=
  let c := match (d.gather[g]).job with
    | some j => j.mapCache
    | none => []
  match c.find? (fun e => e.1 = addr && e.2.length = n) with
  | some e => (.ok (leNat e.2), d)
  | none =>
    let a := d.hbmRead p addr n true
    if a.1.st ≠ .ok then (.error (gStopOf a.1), a.2)
    else
      let f := if c.length < 256 then (c, a.2) else (let f := a.2.free; (c.eraseIdx (f.1.toNat % 256), f.2))
      (.ok (leNat a.1.bytes), f.2.modJob g (fun j => { j with mapCache := f.1 ++ [(addr, a.1.bytes)] }))

/-- SPACE and address of row r by the tier map (R226). -/
def Device.rowPlace (d : Device) (g : GatherNo) (p : PartNo) (t : W256) (r : Nat) : Except GStop (Nat × Nat) × Device :=
  let seg := r / 2 ^ tSlog t
  let within := r % 2 ^ tSlog t
  let a := d.mapRead g p (tMap t + 8 * seg) 8
  match a.1 with
  | .error s => (.error s, a.2)
  | .ok v =>
    let e : W64 := BitVec.ofNat 64 v
    let n := fld e 48 5
    if n = 0 ∨ n > 16 then (.error (.status gsBadDesc), a.2)
    else
      let b := (List.range n).foldl (fun (acc : Except GStop (List W128) × Device) i =>
        match acc.1 with
        | .error _ => acc
        | .ok l =>
          let r := acc.2.mapRead g p (fld e 0 48 + 16 * i) 16
          match r.1 with
          | .error s => (.error s, r.2)
          | .ok v => (.ok (l ++ [BitVec.ofNat 128 v]), r.2)) (.ok [], a.2)
      match b.1 with
      | .error s => (.error s, b.2)
      | .ok ents =>
        if fld (ents.getD 0 0) 0 40 ≠ 0 then (.error (.status gsBadDesc), b.2)
        else
          let ent := (ents.filter (fun x => fld x 0 40 ≤ within)).getLastD 0
          if fld ent 40 3 ≠ 2 ∧ fld ent 40 3 ≠ 3 then (.error (.status gsBadDesc), b.2)
          else (.ok (fld ent 40 3, fld ent 64 48 + (within - fld ent 0 40) * tPitch t), b.2)

/-! ### Rows (R224, R225) -/

/-- Flags of Table 9.4: OVF, NAN, SCALE_NAN in bits 0 to 2. -/
def gOvf : Byte := 1
def gNan : Byte := 2
def gScaleNan : Byte := 4

/-- OVF and NAN of one FP32 operation. -/
def gFlag (r : W32) (args : List W32) : Byte :=
  if isNan32 r then gNan else if isInf32 r && args.all isFinite32 then gOvf else 0

def orBytes (l : List Byte) : Byte := l.foldl (· ||| ·) 0

/-- A row decoded to FP32, with its flags (R225). -/
def decodeRow (t : W256) (bs : List Byte) : List W32 × Byte :=
  let f := tFmt t
  let codes := unpackBytes f.bits (tD t) (bs.take (tElemBytes t))
  let s := leNat (bs.drop (tScaleAt t))
  let bad := (tSck t = 2 && s % 256 = 0xFF) || (tSck t = 1 && !isFinite32 (BitVec.ofNat 32 s))
  if bad then (List.replicate (tD t) f32nan, gNan ||| gScaleNan)
  else
    let xs := codes.map (fun c =>
      if tSck t = 0 then toFP32 (f.elem c)
      else if tSck t = 1 then fmul (toFP32 (f.elem c)) (BitVec.ofNat 32 s)
      else toFP32 (FV.mul (f.elem c) (e8m0 (s % 256))))
    (xs, orBytes ((codes.zip xs).map (fun p => gFlag p.2 [toFP32 (f.elem p.1)])))

/-- Decode row `r` of the job's table. -/
def Device.fetchRow (d : Device) (g : GatherNo) (p : PartNo) (t : W256) (r : Nat) :
    Except GStop ((Nat × Nat) × List W32 × Byte) × Device :=
  let a := d.rowPlace g p t r
  match a.1 with
  | .error s => (.error s, a.2)
  | .ok (space, addr) =>
    let b := (a.2.count (some p) 0x020 g.val 1).rowRead g p space addr (tRowBytes t)
    match b.1 with
    | .error s => (.error s, b.2)
    | .ok bs => (.ok ((space, addr), decodeRow t bs), b.2)

/-! ### Forward (R227, R228) -/

/-- Fold of a bag: accumulator and flags after one more row; `e` is the entry's place in the bag. -/
def poolStep (pool e : Nat) (w : W32) (acc x : List W32) : List W32 × Byte :=
  if pool = 3 then
    if e = 0 then (let r := x.map (fmul w); (r, orBytes ((x.zip r).map (fun p => gFlag p.2 [w, p.1]))))
    else
      let r := (x.zip acc).map (fun p => ffma w p.1 p.2)
      (r, orBytes ((r.zip (x.zip acc)).map (fun p => gFlag p.1 [w, p.2.1, p.2.2])))
  else if e = 0 then (x, 0)
  else if pool = 2 then ((acc.zip x).map (fun p => fmax p.1 p.2), 0)
  else
    let r := (acc.zip x).map (fun p => fadd p.1 p.2)
    (r, orBytes ((r.zip (acc.zip x)).map (fun p => gFlag p.1 [p.2.1, p.2.2])))

/-- The entries of a bag pooled in index order (R228). -/
def Device.poolBag (d : Device) (g : GatherNo) (p : PartNo) (x : BitVec 1024) (t : W256) (lo n : Nat) :
    Except GStop (List W32 × Byte) × Device :=
  (List.range n).foldl (fun (acc : Except GStop (List W32 × Byte) × Device) e =>
    match acc.1 with
    | .error _ => acc
    | .ok (v, fl) =>
      let i := acc.2.arrRead p x (gIdx x + gIw x * (lo + e)) (gIw x)
      match i.1 with
      | .error s => (.error s, i.2)
      | .ok r =>
        if r ≥ tRows t then (.error (.status gsIndexRange), i.2)
        else
          let wv := if gPool x = 3 then i.2.arrRead p x (gWgt x + 4 * (lo + e)) 4 else (.ok 0, i.2)
          match wv.1 with
          | .error s => (.error s, wv.2)
          | .ok wn =>
            let row := wv.2.fetchRow g p t r
            match row.1 with
            | .error s => (.error s, row.2)
            | .ok (_, xs, rf) =>
              let o := poolStep (gPool x) e (BitVec.ofNat 32 wn) v xs
              (.ok (o.1, fl ||| rf ||| o.2), row.2)) (.ok ([], 0), d)

/-- First and last entry of bag b (R227). -/
def Device.bagRange (d : Device) (p : PartNo) (x : BitVec 1024) (b : Nat) : Except GStop (Nat × Nat) × Device :=
  let a := d.arrRead p x (gOff x + 4 * b) 8
  match a.1 with
  | .error s => (.error s, a.2)
  | .ok v => if v / 2 ^ 32 < v % 2 ^ 32 then (.error (.status gsBadDesc), a.2) else (.ok (v % 2 ^ 32, v / 2 ^ 32), a.2)

/-- The output bytes of a bag (R228). -/
def bagBytes (x : BitVec 1024) (vs : List W32) : List Byte × Byte :=
  if gOfmt x = 0 then (vs.flatMap (fun v => leBytes 4 v.toNat), 0)
  else
    let cs := vs.map (fun v => (v, (cvtScalarF encBF16 .rne false v).code))
    (cs.flatMap (fun c => leBytes 2 c.2),
     orBytes (cs.map (fun c => if isFinite32 c.1 && c.2 % 2 ^ 15 = 0x7F80 then gOvf else 0)))

/-- Bag b of a FWD job: pooled and written (R228, R229). -/
def Device.doBag (d : Device) (g : GatherNo) (p : PartNo) (j : Job) (b : Nat) : Except GStop Byte × Device :=
  let x := j.d
  let r := d.bagRange p x b
  match r.1 with
  | .error s => (.error s, r.2)
  | .ok (lo, hi) =>
    let n := hi - lo
    let v := r.2.poolBag g p x j.table lo n
    match v.1 with
    | .error s => (.error s, v.2)
    | .ok (acc, fl) =>
      let nw := fofNat n
      let out := if n = 0 then List.replicate (tD j.table) 0#32 else if gPool x = 1 then acc.map (fun a => fdiv a nw) else acc
      let fd := if gPool x = 1 then orBytes ((out.zip acc).map (fun p => gFlag p.1 [p.2, nw])) else 0
      let o := bagBytes x out
      let off := gDoff x + b * gDpitch x
      if off + o.1.length > claspBase then (.error (.status gsBadDesc), v.2)
      else (.ok (fl ||| fd ||| o.2), (v.2.meshWrite (gDtile x) off o.1).2)

/-- A job stops: with a status it is ended, or, where only its completion word could not be written, goes on without it and with the
status where it had none; else it waits. -/
def Device.stopJob (d : Device) (g : GatherNo) (s : GStop) : Device :=
  match s with
  | .status n => d.modJob g (fun j =>
      if j.done then { j with status := if j.status = 0 then n else j.status, stage := max 1 j.stage, waitSince := none }
      else { j with status := n, done := true, reading := false, waitSince := none })
  | .repair a => (d.askRepair (d.gather[g]).ring.part a (.gather g)).modJob g (fun j =>
      { j with waitSince := some (j.waitSince.getD d.devTime) })
  | .wait => d.modJob g (fun j => { j with waitSince := some (j.waitSince.getD d.devTime) })

/-- Bags in turn until the end, a stop, or `n` bags. -/
def Device.doBags : Nat → Device → GatherNo → PartNo → Device
  | 0, d, _, _ => d
  | n + 1, d, g, p =>
    match (d.gather[g]).job with
    | none => d
    | some j =>
      if j.bags ≥ gNbags j.d then d.modJob g (fun j => { j with done := true })
      else
        let r := d.doBag g p j j.bags
        match r.1 with
        | .error s => r.2.stopJob g s
        | .ok fl => Device.doBags n (r.2.modJob g (fun j => { j with bags := j.bags + 1, flags := j.flags ||| fl, waitSince := none })) g p

/-! ### Taking a job (R221 to R223, R372) -/

/-- The watch an engine holds while its next job is not there (R221). -/
def Device.ringWatch (d : Device) (g : GatherNo) : Device :=
  let r := (d.gather[g]).ring
  (d.registerWatch r.tile
    { value := BitVec.ofNat 48 (r.next + 1), clasp := fin r.head, cond := 2, nkind := 3, narg := 0, remote := false, wait := false,
      tile := r.tile, chip := d.chipId, ctx := r.ctx, holder := .gather g, inv := false, tag := 0 } none).2.2

/-- A new job from its descriptor. -/
def Job.fresh (addr : Nat) (x : BitVec 1024) (t : W256) : Job :=
  { addr := addr, d := x, table := t, bags := 0, released := 0, status := 0, flags := 0, phaseA := false, rerun := false,
    done := false, reading := false, stage := 0, rowsOut := [], nidx := 0, urows := 0, mapCache := [], ports := [], skip := false,
    waitSince := none }

/-- Read the descriptor and the table of the next job: the job, already ended where a read or a check fails. -/
def Device.readJob (d : Device) (p : PartNo) (addr : Nat) : Except GStop Job × Device :=
  let a := d.hbmRead p addr 128 true
  if a.1.st ≠ .ok then
    (match gStopOf a.1 with
     | .status n => .ok { Job.fresh addr 0 0 with status := n, done := true }
     | s => .error s, a.2)
  else
    let x : BitVec 1024 := BitVec.ofNat 1024 (leNat a.1.bytes)
    if a.2.jobBad p x then (.ok { Job.fresh addr x 0 with status := gsBadDesc, done := true }, a.2)
    else if gOp x = 2 then (.ok (Job.fresh addr x 0), a.2)
    else
      let b := a.2.hbmRead p (gTdesc x) 32 true
      if b.1.st ≠ .ok then
        (match gStopOf b.1 with
         | .status n => .ok { Job.fresh addr x 0 with status := n, done := true }
         | s => .error s, b.2)
      else
        let t : W256 := BitVec.ofNat 256 (leNat b.1.bytes)
        (.ok (if tableBad x t then { Job.fresh addr x t with status := gsBadDesc, done := true } else Job.fresh addr x t), b.2)

/-- Whether a context's rings take jobs: not while it is being saved, is saved or is torn down (R184, R354). -/
def Context.ringsTake (x : Context) : Bool :=
  !x.saving && !x.restoring && x.st ≠ .saved && x.st ≠ .suspended && x.st ≠ .tearing

/-- Whether an engine may take its next job: the ring open, the job announced, its context's rings taking jobs (R354), no
replay due (R374). -/
def Device.mayTake (d : Device) (g : GatherNo) : Bool :=
  let q := d.gather[g]
  q.ring.st = 1 && q.job.isNone && q.ring.ready && q.bound = some q.ring.part && (d.ctxs[q.ring.ctx]).ringsTake
    && !(d.ctxs[q.ring.ctx]).replayDue

/-- The job that a backward descriptor stands for (R374): in a replay the one that still runs goes on, and one that was taken before
and is not it stays done; a new one is taken only where no fence keeps it back (R372). -/
def Device.backwardJob (d : Device) (g : GatherNo) (j : Job) : Option (Job × Option Job) :=
  let q := d.gather[g]
  if q.ring.next ≥ q.ring.high then (if d.noNewJobs q.ring.ctx then none else some (j, q.stash))
  else
    match q.stash with
    | some s => if s.addr = j.addr ∧ q.ring.next + 1 = q.ring.high then some (s, none) else some ({ j with skip := true, done := true }, some s)
    | none => some ({ j with skip := true, done := true }, none)

/-- Take the next job if its operation is one of `ops`. Reading it decides; a job of another operation is left. Where the read waits for
memory or for peer repair, the engine holds the job unread (R239). -/
def Device.takeJob (d : Device) (g : GatherNo) (ops : Nat → Bool) : Device :=
  let q := d.gather[g]
  let r := q.ring
  let unread := match q.job with
    | some j => j.reading && !j.done
    | none => false
  if !(d.mayTake g || (unread && !(d.ctxs[r.ctx]).replayDue)) then d
  else
    let addr := r.base + 128 * (r.next % 2 ^ r.log2)
    let a := d.readJob r.part addr
    match a.1 with
    | .error s =>
      (if unread then a.2
       else a.2.modGather g (fun q => { q with job := some { Job.fresh addr 0 0 with reading := true }, ring := { q.ring with ready := false } })
       ).stopJob g s
    | .ok j =>
      if !ops (gOp j.d) then d
      else
        match (if gOp j.d = 1 then d.backwardJob g j else some (j, q.stash)) with
        | none => d
        | some (j', st) =>
          a.2.modGather g (fun q =>
            { q with job := some j', stash := st,
                     ring := { q.ring with ready := false, high := max q.ring.high (q.ring.next + 1) } })

/-- The running job, when it is of the operation and still at work: a save waits for it (R357), forward jobs pause for a
replay (R374). -/
def Device.workOn (d : Device) (g : GatherNo) (op : Nat) : Option Job :=
  match (d.gather[g]).job with
  | some j =>
    let x := d.ctxs[(d.gather[g]).ring.ctx]
    if gOp j.d = op && !j.done && !j.reading && !(x.replayDue && op = 0) then some j else none
  | none => none

/-- GATHER_FWD: the engine takes a FWD job (a reserved OP is taken here and ends) and pools its bags. -/
def Device.gatherFwd (d : Device) (g : GatherNo) : Device :=
  let d := d.takeJob g (fun op => op = 0 || op = 3)
  match d.workOn g 0 with
  | some j => d.doBags (gNbags j.d - j.bags + 1) g (d.gather[g]).ring.part
  | none => d

def execGatherFwd (g : GatherNo) (s : State) : Host.Outcome State Fault Refusal := onLive (fun d => d.gatherFwd g) s

/-- A clasp operation of a gather engine (R229, R238, R372): through journal and fence of its ring's context. -/
def Device.gatherOp (d : Device) (g : GatherNo) (t : TileNo) (n : Nat) (v : Nat) : ClRes × Device :=
  let r := (d.gather[g]).ring
  if (d.ctxs[r.ctx]).st = .running then
    d.claspFrom r.part r.ctx r.tile (fin (30 + g.val)) (.gather g) 0 d.chipId.toNat t (fin n) false (clArg clAddOp v)
  else d.claspSend r.part (.gather g) 0 d.chipId.toNat t (fin n) false (clArg clAddOp v)

/-- Progress groups that are due: full groups, and a final short one once every bag is delivered (R229). -/
def Job.groupsDue (j : Job) : Nat :=
  if gOp j.d ≠ 0 || gPbags j.d = 0 || j.skip then j.released
  else if j.bags = gNbags j.d then (j.bags + gPbags j.d - 1) / gPbags j.d else j.bags / gPbags j.d

/-- GATHER_PROGRESS: the next group of delivered bags is released by a flagged ADD of 1 on PCLASP. -/
def Device.gatherProgress (d : Device) (g : GatherNo) : Device :=
  match (d.gather[g]).job with
  | some j =>
    if gOp j.d = 0 && decide (j.released < j.groupsDue) then
      let r := d.gatherOp g (gPtile j.d) (gPclasp j.d) 1
      match r.1 with
      | .diverged => r.2
      | .waits => r.2
      | _ => r.2.modJob g (fun j => { j with released := j.released + 1 })
    else d
  | none => d

def execGatherProgress (g : GatherNo) (s : State) : Host.Outcome State Fault Refusal := onLive (fun d => d.gatherProgress g) s

/-! ### Row-cache invalidation (R232) -/

/-- Invalidate the lines a test picks in all four row caches. -/
def Device.rowCacheInv (d : Device) (f : RLine → Bool) : Device := { d with rowCache := d.rowCache.map (fun l => l.filter (fun x => !f x)) }

/-- Invalidate every line of a partition. -/
def Device.rowCacheDrop (d : Device) (p : PartNo) : Device := d.rowCacheInv (fun l => l.part = p)

/-- GATHER_RC_INV: the engine takes an RC_INV job and invalidates its range. -/
def Device.gatherRcInv (d : Device) (g : GatherNo) : Device :=
  let d := d.takeJob g (fun op => op = 2)
  match d.workOn g 2 with
  | some j =>
    let p := (d.gather[g]).ring.part
    let base := gTdesc j.d
    let len := gIdx j.d
    (d.rowCacheInv (fun l => l.part = p && (len = 0 || (l.space = gRspace j.d && decide (64 * l.line < base + len)
      && decide (base < 64 * l.line + 64))))).modJob g (fun j => { j with done := true })
  | none => d

def execGatherRcInv (g : GatherNo) (s : State) : Host.Outcome State Fault Refusal := onLive (fun d => d.gatherRcInv g) s

end Sys2Proof.Machine
end

