-- ==== Sys2Proof/Machine/GatherBwd.lean ====
section
/-! DEFINITION. Backward jobs of the gather engines and the end of a job (R233 to R240). -/

namespace Sys2Proof.Machine

/-! ### Contributions (R233, R234) -/

/-- An index entry of a job: its row, the entry's place in the index array, its bag and the bag's size. -/
structure GEntry where
  row : Nat
  pos : Nat
  bag : Nat
  n : Nat
deriving DecidableEq, Repr

/-- The entries of bag b, appended; the first bad index ends the job at that bag. -/
def Device.bagEntries (d : Device) (p : PartNo) (x : BitVec 1024) (rows b : Nat) : Except GStop (List GEntry) × Device :=
  let r := d.bagRange p x b
  match r.1 with
  | .error s => (.error s, r.2)
  | .ok (lo, hi) =>
    (List.range (hi - lo)).foldl (fun (acc : Except GStop (List GEntry) × Device) e =>
      match acc.1 with
      | .error _ => acc
      | .ok l =>
        let i := acc.2.arrRead p x (gIdx x + gIw x * (lo + e)) (gIw x)
        match i.1 with
        | .error s => (.error s, i.2)
        | .ok v =>
          if v ≥ rows then (.error (.status gsIndexRange), i.2)
          else (.ok (l ++ [{ row := v, pos := lo + e, bag := b, n := hi - lo }]), i.2)) (.ok [], r.2)

/-- All entries of a job in index order; on a stop, the bag where it happened. -/
def Device.jobEntries (d : Device) (p : PartNo) (x : BitVec 1024) (rows : Nat) : Except (Nat × GStop) (List GEntry) × Device :=
  (List.range (gNbags x)).foldl (fun (acc : Except (Nat × GStop) (List GEntry) × Device) b =>
    match acc.1 with
    | .error _ => acc
    | .ok l =>
      let r := acc.2.bagEntries p x rows b
      match r.1 with
      | .error s => (.error (b, s), r.2)
      | .ok es => (.ok (l ++ es), r.2)) (.ok [], d)

/-- Gradient of a bag (R233): D elements of OFMT at DOFF + b x DPITCH. -/
def Device.gradient (d : Device) (x : BitVec 1024) (n b : Nat) : Except GStop (List W32) × Device :=
  let w := if gOfmt x = 0 then 32 else 16
  let g := d.meshRead (gDtile x) (gDoff x + b * gDpitch x) (n * w / 8)
  if g.1.st = .ok then
    (.ok ((unpackBytes w n g.1.bytes).map (fun c => if w = 32 then BitVec.ofNat 32 c else toFP32 (encBF16.decode c))), g.2)
  else (.error (gStopOf g.1), g.2)

/-- Contribution of an entry (R233), with flags. -/
def Device.contribution (d : Device) (p : PartNo) (x : BitVec 1024) (n : Nat) (e : GEntry) : Except GStop (List W32 × Byte) × Device :=
  let g := d.gradient x n e.bag
  match g.1 with
  | .error s => (.error s, g.2)
  | .ok gs =>
    if gPool x = 1 then
      let k := fofNat e.n
      let r := gs.map (fun v => fdiv v k)
      (.ok (r, orBytes ((r.zip gs).map (fun q => gFlag q.1 [q.2, k]))), g.2)
    else if gPool x = 3 then
      let w := g.2.arrRead p x (gWgt x + 4 * e.pos) 4
      match w.1 with
      | .error s => (.error s, w.2)
      | .ok v =>
        let k : W32 := BitVec.ofNat 32 v
        let r := gs.map (fmul k)
        (.ok (r, orBytes ((r.zip gs).map (fun q => gFlag q.1 [k, q.2]))), w.2)
    else (.ok (gs, orBytes (gs.map (fun v => gFlag v [v]))), g.2)

/-- Merged gradient of a row (R234 step 2): contributions added in ascending entry position. -/
def Device.merged (d : Device) (p : PartNo) (x : BitVec 1024) (n : Nat) (es : List GEntry) :
    Except GStop (List W32 × Byte) × Device :=
  es.foldl (fun (acc : Except GStop (List W32 × Byte) × Device) e =>
    match acc.1 with
    | .error _ => acc
    | .ok (v, fl) =>
      let c := acc.2.contribution p x n e
      match c.1 with
      | .error s => (.error s, c.2)
      | .ok (k, kf) =>
        if v = [] then (.ok (k, fl ||| kf), c.2)
        else
          let r := (v.zip k).map (fun q => fadd q.1 q.2)
          (.ok (r, fl ||| kf ||| orBytes ((r.zip (v.zip k)).map (fun q => gFlag q.1 [q.2.1, q.2.2]))), c.2)) (.ok ([], 0), d)

/-! ### Optimisers (R235) -/

/-- New weights, new state words and flags of a row. `st` is the old state: m for momentum, s for Adagrad. -/
def optimise (x : BitVec 1024) (w g st : List W32) : List W32 × List W32 × Byte :=
  let lr := gLr x
  if gOpt x = 0 then
    let r := (w.zip g).map (fun q => fsub q.1 (fmul lr q.2))
    (r, [], orBytes ((r.zip (w.zip g)).map (fun q => gFlag (fmul lr q.2.2) [lr, q.2.2] ||| gFlag q.1 [q.2.1, fmul lr q.2.2])))
  else if gOpt x = 1 then
    let m := (st.zip g).map (fun q => ffma (gHyp x) q.1 q.2)
    let r := (w.zip m).map (fun q => fsub q.1 (fmul lr q.2))
    (r, m, orBytes ((m.zip (st.zip g)).map (fun q => gFlag q.1 [gHyp x, q.2.1, q.2.2]))
      ||| orBytes ((r.zip (w.zip m)).map (fun q => gFlag (fmul lr q.2.2) [lr, q.2.2] ||| gFlag q.1 [q.2.1, fmul lr q.2.2])))
  else
    let sq := pairSum (g.map (fun v => fmul v v))
    let nd := fofNat g.length
    let q := fdiv sq nd
    let s0 := st.headD 0
    let s := fadd s0 q
    let root := fsqrt s
    let den := fadd root (gHyp x)
    let r := (w.zip g).map (fun z => fsub z.1 (fdiv (fmul lr z.2) den))
    (r, [s], gFlag sq g ||| gFlag q [sq, nd] ||| gFlag s [s0, q] ||| gFlag root [s] ||| gFlag den [root, gHyp x]
      ||| orBytes ((r.zip (w.zip g)).map (fun z =>
            gFlag (fmul lr z.2.2) [lr, z.2.2] ||| gFlag (fdiv (fmul lr z.2.2) den) [fmul lr z.2.2, den]
              ||| gFlag z.1 [z.2.1, fdiv (fmul lr z.2.2) den])))

/-! ### Encoding a row (R236) -/

/-- Free bytes: values the manual does not state (log 7). -/
def Device.freeBytes : Nat → Device → List Byte × Device
  | 0, d => ([], d)
  | n + 1, d =>
    let f := d.free
    let r := Device.freeBytes n f.2
    (BitVec.ofNat 8 f.1.toNat :: r.1, r.2)

/-- The scale of a row: its bytes and what elements are divided by. -/
def rowScale (t : W256) (ws : List W32) : List Byte × W32 :=
  let f := tFmt t
  let am := amaxOf ws
  if tSck t = 2 then
    let e := mxExp f true am
    (leBytes 1 (e + 127).toNat, toFP32 (.fin false 1 e))
  else if tSck t = 1 then
    let big := toFP32 (f.elem ((f.enc.getD encFP32).maxCode))
    let s := if isZero32 am then f32one else fdiv am big
    (leBytes 4 s.toNat, s)
  else ([], f32one)

/-- The code of one element of a row (R236): FP32 as it is, BF16 without a scale rounded, every other saturated. In E2M1 an infinity
saturates too, and what a NaN becomes there the manual does not state (log 7). -/
def Device.rowElem (d : Device) (t : W256) (r : Rnd) (y : W32) : Nat × Device :=
  let enc := (tFmt t).enc.getD encFP32
  if tElem t = 0 then (y.toNat, d)
  else if tElem t = 4 then
    (match ofFP32 y with
     | .nan => (d.free.1.toNat % 16, d.free.2)
     | .inf n => (signBit enc n + enc.maxCode, d)
     | _ => ((cvtScalarF enc r true y).code, d))
  else ((cvtScalarF enc r (tElem t ≠ 1 || tSck t ≠ 0) y).code, d)

/-- The bytes of a new row (R236): elements by URND with saturation, gap bytes zero, then the scale. A scaled row with a non-finite
value takes the NaN scale; what its elements then hold the manual leaves open (log 7). -/
def Device.encodeRow (d : Device) (x : BitVec 1024) (t : W256) (step : W64) (row : Nat) (ws : List W32) :
    (List Byte × Byte) × Device :=
  let f := tFmt t
  let seed := seedOf step (tId t) 0 (gSeedTile x)
  let nonfin := !ws.all isFinite32
  let gap := List.replicate (tScaleAt t - tElemBytes t) (0 : Byte)
  if nonfin && tSck t ≠ 0 then
    let fb := d.freeBytes (tElemBytes t)
    ((fb.1 ++ gap ++ (if tSck t = 2 then [0xFF] else leBytes 4 f32nan.toNat), gNan), fb.2)
  else
    let sc := rowScale t ws
    let ys := if tSck t = 0 then ws else ws.map (fun w => fdiv w sc.2)
    let cs := ys.zipIdx.foldl (fun (acc : List Nat × Device) q =>
      let c := acc.2.rowElem t (rndOf (gUrnd x) seed (row * tD t + q.2)) q.1
      (acc.1 ++ [c.1], c.2)) ([], d)
    let rounded (q : W32 × Nat) : Byte := if tElem t = 1 && isFinite32 q.1 && decide (q.2 % 2 ^ 15 = 0x7F80) then gOvf else 0
    let scaled (q : W32 × W32) : Byte := if tSck t = 0 then 0 else gFlag q.2 [q.1, sc.2]
    (((packBytes f.bits cs.1) ++ (if tSck t = 0 then [] else gap ++ sc.1),
      (if nonfin then gNan else 0) ||| orBytes ((ys.zip cs.1).map rounded) ||| orBytes ((ws.zip ys).map scaled)), cs.2)

/-! ### Phase A (R234) -/

/-- Bytes of a row's state that a job reads and writes (R235). -/
def gStateBytes (x : BitVec 1024) (t : W256) : Nat := if gOpt x = 0 then 0 else if gOpt x = 1 then 4 * tD t else 4

/-- Read the old state of a row. -/
def Device.readState (d : Device) (g : GatherNo) (p : PartNo) (x : BitVec 1024) (t : W256) (row : Nat) :
    Except GStop (List W32) × Device :=
  if gOpt x = 0 then (.ok [], d)
  else
    let r := d.rowRead g p 2 (tState t + row * gZ x t) (gStateBytes x t)
    match r.1 with
    | .error s => (.error s, r.2)
    | .ok bs => (.ok ((unpackBytes 32 (gStateBytes x t / 4) bs).map (BitVec.ofNat 32)), r.2)

/-- Where the i-th staged row and its state stand in SCR: behind the 16-byte index entries, rows PITCH apart, then states Z apart
(R234; the order of the three is the model's, log 12). -/
def scrRow (x : BitVec 1024) (t : W256) (nidx i : Nat) : Nat := gScr x + 16 * nidx + i * tPitch t
def scrState (x : BitVec 1024) (t : W256) (nidx i : Nat) : Nat := gScr x + nidx * (16 + tPitch t) + i * gZ x t

/-- Rows staged so far, in ascending order: row, SPACE, address. -/
structure Staged where
  rows : List (Nat × Nat × Nat)
  nidx : Nat
  flags : Byte
deriving DecidableEq, Repr

/-- A part of the scratch area written. -/
def Device.scrPut (d : Device) (g : GatherNo) (p : PartNo) (addr : Nat) (bs : List Byte) : Except GStop Unit × Device :=
  let w := d.gatherWrite g p 2 addr bs
  match w.1 with
  | some s => (.error s, w.2)
  | none => (.ok (), w.2)

/-- One distinct row of phase A: its new bytes and state stand in SCR afterwards. -/
def Device.phaseRow (d : Device) (g : GatherNo) (p : PartNo) (x : BitVec 1024) (t : W256) (step : W64) (row : Nat)
    (es : List GEntry) (acc : Staged) : Except GStop Staged × Device :=
  let m := d.merged p x (tD t) es
  match m.1 with
  | .error s => (.error s, m.2)
  | .ok (gr, gf) =>
    let w := m.2.fetchRow g p t row
    match w.1 with
    | .error s => (.error s, w.2)
    | .ok ((space, addr), ws, wf) =>
      let s := w.2.readState g p x t row
      match s.1 with
      | .error e => (.error e, s.2)
      | .ok st =>
        let o := optimise x ws gr st
        let e := s.2.encodeRow x t step row o.1
        let i := acc.rows.length
        let a := e.2.scrPut g p (scrRow x t acc.nidx i) e.1.1
        let b := if gOpt x = 0 then a.2.scrPut g p (scrRow x t acc.nidx i) []
          else a.2.scrPut g p (scrState x t acc.nidx i) (o.2.1.flatMap (fun v => leBytes 4 v.toNat))
        (match a.1, b.1 with
         | .error s, _ => (.error s, a.2)
         | _, .error s => (.error s, b.2)
         | _, _ => (.ok { acc with rows := acc.rows ++ [(row, space, addr)],
                                   flags := acc.flags ||| gf ||| wf ||| o.2.2 ||| e.1.2 }, b.2))

/-- Row numbers of a job in ascending order, each once. -/
def distinctRows (es : List GEntry) : List Nat :=
  es.foldl (fun l e => if e.row ∈ l then l else (l.filter (· < e.row)) ++ e.row :: (l.filter (e.row < ·))) []

/-- Phase A (R234): the index entries and the new rows and states stand in the scratch area. The bytes of a sorted entry the manual does
not state (log 7). -/
def Device.phaseA (d : Device) (g : GatherNo) (p : PartNo) (j : Job) (step : W64) : Except (Nat × GStop) Staged × Device :=
  let x := j.d
  let t := j.table
  let es := d.jobEntries p x (tRows t)
  match es.1 with
  | .error s => (.error s, es.2)
  | .ok l =>
    let fb := es.2.freeBytes (16 * l.length)
    let w := fb.2.scrPut g p (gScr x) fb.1
    match w.1 with
    | .error s => (.error (0, s), w.2)
    | .ok _ =>
      (distinctRows l).foldl (fun (acc : Except (Nat × GStop) Staged × Device) row =>
        match acc.1 with
        | .error _ => acc
        | .ok st =>
          let mine := l.filter (fun e => e.row = row)
          let q := acc.2.phaseRow g p x t step row mine st
          match q.1 with
          | .error s => (.error (((mine.head?).map (·.bag)).getD 0, s), q.2)
          | .ok st => (.ok st, q.2)) (.ok { rows := [], nidx := l.length, flags := 0 }, w.2)

/-- GATHER_BWD: the engine takes a BWD job and runs phase A. -/
def Device.gatherBwd (d : Device) (g : GatherNo) : Device :=
  let d := d.takeJob g (fun op => op = 1)
  let q := d.gather[g]
  match d.workOn g 1 with
  | none => d
  | some j =>
    if j.phaseA then d
    else
      let r := d.phaseA g q.ring.part j (d.ctxs[q.ring.ctx]).stepNo
      match r.1 with
      | .error (b, s) => (r.2.modJob g (fun j => { j with bags := b })).stopJob g s
      | .ok st =>
        r.2.modJob g (fun j => { j with phaseA := true, rowsOut := st.rows, nidx := st.nidx, flags := st.flags, urows := 0,
                                        waitSince := none })

def execGatherBwd (g : GatherNo) (s : State) : Host.Outcome State Fault Refusal := onLive (fun d => d.gatherBwd g) s

/-! ### Phase B (R231, R234) -/

/-- Copy bytes from SCR to their place. -/
def Device.fromScr (d : Device) (g : GatherNo) (p : PartNo) (scr n space addr : Nat) : Option GStop × Device :=
  let r := d.hbmRead p scr n true
  if r.1.st = .ok then r.2.gatherWrite g p space addr r.1.bytes else (some (gStopOf r.1), r.2)

/-- The i-th staged row and its state copied into place (R234). -/
def Device.placeRow (d : Device) (g : GatherNo) (p : PartNo) (j : Job) (i : Nat) (q : Nat × Nat × Nat) : Option GStop × Device :=
  let x := j.d
  let t := j.table
  let a := d.fromScr g p (scrRow x t j.nidx i) (tRowBytes t) q.2.1 q.2.2
  match a.1 with
  | some s => (some s, a.2)
  | none =>
    if gOpt x = 0 then a
    else a.2.fromScr g p (scrState x t j.nidx i) (gStateBytes x t) 2 (tState t + q.1 * gZ x t)

/-- Rows copied in turn from the i-th on, until the end or a stop; each copied row counts. -/
def Device.placeRows : List (Nat × Nat × Nat) → Nat → Device → GatherNo → PartNo → Job → Device
  | [], _, d, g, _, _ => d.modJob g (fun j => { j with bags := gNbags j.d, done := true, waitSince := none })
  | q :: l, i, d, g, p, j =>
    let r := d.placeRow g p j i q
    match r.1 with
    | some s => r.2.stopJob g s
    | none => Device.placeRows l (i + 1) (r.2.modJob g (fun j => { j with urows := i + 1 })) g p j

/-- GATHER_PHASE_B: after a clean phase A the new rows and states are copied into place. -/
def Device.gatherPhaseB (d : Device) (g : GatherNo) : Device :=
  match d.workOn g 1 with
  | none => d
  | some j =>
    if !j.phaseA then d
    else Device.placeRows (j.rowsOut.drop j.urows) j.urows d g (d.gather[g]).ring.part j

def execGatherPhaseB (g : GatherNo) (s : State) : Host.Outcome State Fault Refusal := onLive (fun d => d.gatherPhaseB g) s

/-! ### The end of a job (R221, R238, R239) -/

/-- The completion word (Table 9.4). -/
def Job.cmpl (j : Job) : W64 :=
  BitVec.ofNat 64 (j.status + (j.flags.toNat % 8) <<< 8 + ((if j.status = 0 then gNbags j.d else j.bags) % 2 ^ 24) <<< 16
    + (min 0xFFFFFF j.urows) <<< 40)

/-- GATHER_JOB_END: completion word, done operation, tail ADD; statuses 1 to 5 tear the ring's context down. Each of the three happens
once: where one has to wait, a later command goes on from there; a completion word that cannot be written is given up (R289). -/
def Device.gatherJobEnd (d : Device) (g : GatherNo) : Device :=
  let q := d.gather[g]
  match q.job with
  | none => d
  | some j =>
    if !j.done || decide (j.released < j.groupsDue) then d
    else
      let r := q.ring
      let w := if j.skip || j.stage ≠ 0 then (none, d) else d.gatherWrite g r.part 2 (j.addr + 120) (leBytes 8 j.cmpl.toNat)
      match w.1 with
      | some s => w.2.stopJob g s
      | none =>
        let d := w.2.modJob g (fun j => { j with stage := max 1 j.stage, waitSince := none })
        let doneOp := j.stage ≠ 2 && gDval j.d ≠ 0 && j.status ≠ gsCancelled && j.status ≠ gsTmemFail && decide (gDclasp j.d < 48) &&
          d.owns r.part (gCtile j.d).val
        let a := if doneOp then d.gatherOp g (gCtile j.d) (gDclasp j.d) (gDval j.d) else (.word 0, d)
        match a.1 with
        | .diverged => a.2
        | .waits => a.2
        | _ =>
          let b := (a.2.modJob g (fun j => { j with stage := 2 })).gatherOp g r.tile r.tail 1
          match b.1 with
          | .diverged => b.2
          | .waits => b.2
          | _ =>
            let d := b.2.modGather g (fun q =>
              { q with job := none, ring := { q.ring with next := q.ring.next + 1, st := if q.ring.st = 2 then 0 else q.ring.st } })
            let d := if 1 ≤ j.status ∧ j.status ≤ 5 then d.askTeardown r.ctx (.gather (BitVec.ofNat 8 j.status)) else d
            if q.ring.st = 1 then d.ringWatch g else d

def execGatherJobEnd (g : GatherNo) (s : State) : Host.Outcome State Fault Refusal := onLive (fun d => d.gatherJobEnd g) s

/-- The watch of a ring fires (R221): its next job is there. -/
def Device.ringNotified (d : Device) (g : GatherNo) (value : Nat) : Device :=
  d.modGather g (fun q => if q.ring.next < value then { q with ring := { q.ring with ready := true } } else q)

end Sys2Proof.Machine
end

