-- ==== Sys2Proof/Machine/Notify.lean ====
section
/-! DEFINITION. Notifications (R179, R180, R184, R205), time limits of outstanding requests (R114, R181, R207), kernel start
(R161). -/

namespace Sys2Proof.Machine

/-- Four 32-bit words of an event payload, the first lowest (log 14: the manual fixes no layout). -/
def pay4 (a b c e : Nat) : BitVec 128 :=
  BitVec.ofNat 128 (a % 2 ^ 32 + (b % 2 ^ 32) <<< 32 + (c % 2 ^ 32) <<< 64 + (e % 2 ^ 32) <<< 96)

/-! ### Notifications -/

/-- A journal entry of an engine that registered the watch of a notification and has none yet: same clasp, tile, chip and operands. -/
def JEntry.awaitsNote (j : JEntry) (eng : Fin 64) (n : Note) : Bool :=
  j.eng = eng && j.notified.isNone && decide (fld j.op 16 8 = n.w.clasp.val) && decide (fld j.op 24 9 = n.from_.val)
    && decide (fld j.op 40 15 = n.fromChip.toNat) && decide (j.operand0 = n.w.value.setWidth 64)
    && decide (fld j.operand1 0 7 = n.w.cond.val + n.w.nkind.val <<< 2 + n.w.narg.val <<< 4) && (fld j.op 0 8 = clWatchOp || fld j.op 0 8 = clWaitOp)

/-- The journal entry of a registration keeps its notification and what fired it (R373). -/
def Device.journalNote (d : Device) (t : TileNo) (eng : Fin 64) (n : Note) : Device :=
  let put (l : List JEntry) : List JEntry :=
    match firstIdx (fun j => j.awaitsNote eng n) l with
    | some i => l.modify i (fun j => { j with notified := some (n.abandoned, n.value), fired := n.by_ })
    | none => l
  d.modTile t (fun x => { x with journal := put x.journal })

/-- A notification takes effect at its tile (R179, R180): discarded when its context no longer runs there; with LOCK_ABANDONED
the bit of CLASP_NOTE is set first. A CL.WAIT whose registration on another chip is not answered yet completes with that answer. -/
def Device.applyAtTile (d : Device) (n : Note) : Device :=
  let t := n.w.tile
  let w := n.w
  if (d.tiles[t]).ctx ≠ some w.ctx then d
  else
    let d := d.count (d.tiles[t]).bound 0x013 t.val 1
    let d := match w.holder with
      | .tile e => d.journalNote t (jEng e) n
      | _ => d
    if w.nkind = 0 then
      let d := if n.abandoned then d.modTile t (fun x => { x with claspNote := setBit x.claspNote w.narg.val true }) else d
      d.addTok t w.narg 1 6 ((d.tiles[t]).pc / 16)
    else if w.nkind = 1 then
      let e : Eng := match w.holder with
        | .tile e => e
        | _ => if w.narg = 0 then .ld else if w.narg = 1 then .mm else if w.narg = 2 then .vx else .st
      let d := if n.abandoned then d.modTile t (fun x => { x with claspNote := setBit x.claspNote (8 + e.idx.val) true }) else d
      let d := if w.inv then d.modTile t Tile.liningClear else d
      d.modFlightWhere t e (fun f => f.performed && decodeOp f.e.word == some .clWait && f.awaits != 0)
        (fun f => if f.tag.isSome then f else { f with awaits := 0 })
    else
      match (d.tiles[t]).bound with
      | some p =>
        d.report 0x0302 (some p) (some w.ctx.val) 0
          (pay4 (n.fromChip.toNat + n.from_.val <<< 16) (w.clasp.val + w.narg.val <<< 8 + n.abandoned.toNat <<< 16)
            n.value.toNat (n.value.toNat / 2 ^ 32))
      | none => d

/-- A watch no instruction can name fires (R205, R221, R326, R382). -/
def Device.applyHeld (d : Device) (n : Note) : Device :=
  match n.w.holder with
  | .mover m k =>
    let d := match (d.slot m k).desc with
      | some x => (match x.launcher with
        | some (t, _) => d.journalNote t (moverEng m) n
        | none => d)
      | none => d
    if ((d.slot m k).desc.map (·.ctx)) = some n.w.ctx then d.chanNotified m k n.abandoned else d
  | .gather g => d.ringNotified g n.value.toNat
  | .coll p => d.modPart p (fun q =>
      if q.collRing.next < n.value.toNat then { q with collRing := { q.collRing with ready := true } } else q)
  | .repair _ => if n.abandoned then d else (d.registerWatch n.from_ { n.w with value := n.value } none).2.2
  | .tile _ => d

def Device.applyNote (d : Device) (n : Note) : Device := if n.w.nkind = 3 then d.applyHeld n else d.applyAtTile n

/-- Whether a note may take effect: not held by the fence of the context whose clasp fired, nor, as an event-queue post, by that
of its own context (R372), and in a replay not before the operation that fired it has been matched (R376). -/
def Device.noteDue (d : Device) (n : Note) : Bool :=
  !(n.fromChip = d.chipId && d.fencedCtx (d.tiles[n.from_]).ctx &&
      (decide ((d.tiles[n.from_]).ctx ≠ some n.w.ctx) || decide (n.w.chip ≠ d.chipId))) &&
    !(n.w.nkind = 2 && n.w.chip = d.chipId && d.fencedCtx (some n.w.ctx)) &&
    (match n.by_ with
     | some (src, eng, k) => (d.tiles[src]).toMatch.isNone || decide (k < d.jCount src eng)
     | none => true)

/-- NOTIFY_APPLY: the first notification of the tile that is due takes effect; one for another chip leaves as a packet. -/
def Device.notifyApply (d : Device) (t : TileNo) : Device :=
  match firstIdx d.noteDue (d.tiles[t]).notes with
  | none => d
  | some i =>
    match (d.tiles[t]).notes[i]? with
    | none => d
    | some n =>
      let d := d.modTile t (fun x => { x with notes := x.notes.eraseIdx i })
      if n.w.remote && n.w.chip ≠ d.chipId then
        match (d.tiles[t]).bound with
        | some p => d.inject p (tileCuff t) 0xB n.w.chip.toNat (midRsp n.w.tag 0) (notifyBytes n.w n.abandoned (n.value.setWidth 64))
        | none => d
      else d.applyNote n

def execNotifyApply (t : TileNo) (s : State) : Host.Outcome State Fault Refusal := onLive (fun d => d.notifyApply t) s

/-! ### Time limits -/

/-- 2 ms (R114, R181, R207). -/
def reqLimit : Nat := 2000000

/-- Whether a request was sent 2 ms ago or more. -/
def Device.overdue (d : Device) (t : W64) : Bool := decide (d.since t ≥ reqLimit)

/-- Whether a registration of a tile's engine through a window waits for a slot of this chip (R164, R181). -/
def Device.slotWaits (d : Device) (t : TileNo) (e : Eng) (f : Flight) : Bool :=
  clScope f.e.word = 2 && decide (clChip f.e.word = d.chipId.toNat) &&
    ((d.tiles[(fin (clTile f.e.word) : TileNo)]).watchWait.any (fun w =>
      w.tile = t && w.chip = d.chipId && w.holder = .tile e && w.clasp.val == clClasp f.e.word))

/-- An LD, ST or CL instruction with a request of its own unanswered: a line whose repair is under way is not one. -/
def Device.lateFlight (d : Device) (t : TileNo) (e : Eng) (f : Flight) (watch : Bool) : Bool :=
  let isW := decodeOp f.e.word = some .clWatch || decodeOp f.e.word = some .clWait
  f.awaits != 0 && d.overdue f.sentAt &&
    (if watch then isW && (f.tag.isSome || d.slotWaits t e f) else !isW && (f.tag.isSome || (!f.performed && wClass f.e.word ≠ 2)))

/-- Whether a repair is under way for a requester. -/
def Device.repairing (d : Device) (r : Requester) : Bool := d.parts.toList.any (fun p => p.repairReqs.any (fun q => q.who = r))

/-- The TAG of a request that timed out is free again (R302); the registration it made is forgotten. -/
def Device.dropTag (d : Device) (g : Nat) : Device :=
  { d with tags := d.tags.filter (fun q => q.1 ≠ g), farWatches := d.farWatches.filter (fun w => w.tag ≠ g) }

/-- A request unanswered for 2 ms (R114, R181, R207, R239). -/
def Device.reqTimeout (d : Device) (r : Requester) : Device :=
  let tileCase (t : TileNo) (e : Eng) (watch : Bool) : Device :=
    if !(d.tiles[t]).engineOn || d.repairing (.tile t e) then d
    else
      match ((d.tiles[t]).flight[e.idx]).find? (fun f => d.lateFlight t e f watch) with
      | some f => (f.tag.elim d d.dropTag).execFault t e f fcReqTimeout 0
      | none => d
  match r with
  | .tile t e => tileCase t e false
  | .watch t e => tileCase t e true
  | .bld t =>
    (match (d.tiles[t]).bld.find? (fun b => b.value.isNone && d.overdue b.sentAt) with
     | some b => if (d.tiles[t]).engineOn then d.faultTile t fcReqTimeout 0 b.e.pcq 0 else d
     | none => d)
  | .mover m k =>
    let s := d.slot m k
    (match s.desc with
     | some x =>
       let open_ := s.awaits ≠ 0 || !s.reads.isEmpty || s.tag.isSome || (s.st = .running && decide (s.pos < s.target))
       if s.st ≠ .free && s.st ≠ .ready && s.st ≠ .forwarded && s.st ≠ .paused && open_ && d.overdue s.sentAt && !d.repairing r then
         let d := (s.tag.toList ++ s.reads.map (·.1)).foldl Device.dropTag d
         (d.modSlot m k (fun s => { s with awaits := 0, reads := [], tag := none })).failChannel m k x 0 (.fault fcReqTimeout)
       else d
     | none => d)
  | .gather g =>
    (match (d.gather[g]).job with
     | some j =>
       if !d.repairing r then
         match j.waitSince with
         | some w => if d.overdue w then d.stopJob g (.status gsTimeout) else d
         | none => d
       else d
     | none => d)
  | .coll _ => d
  | .repair _ => d

def execReqTimeout (r : Requester) (s : State) : Host.Outcome State Fault Refusal := onLive (fun d => d.reqTimeout r) s

end Sys2Proof.Machine
end

