-- ==== Sys2Proof/Machine/Hbm.lean ====
section
/-! DEFINITION. Stacked memory (R286 to R295): write-back, patrol scrubbing, page remapping; peer repair (R289, R382). -/

namespace Sys2Proof.Machine

/-- A line that a read delivered corrected is written back (R286). -/
def Device.hbmWriteback (d : Device) (page : Nat) (line : Fin 32768) : Device :=
  { d with hbmBad := d.hbmBad.filter (fun b => b ≠ (page * 32768 + line.val, LineErr.correctable true)) }

def execHbmCeWriteback (page : Nat) (line : Fin 32768) (s : State) : Host.Outcome State Fault Refusal :=
  onLive (fun d => d.hbmWriteback page line) s

/-- The partition and partition page of a physical page. -/
def Device.pageOwner (d : Device) (page : Nat) : Option Bound := d.pages.find? (fun b => b.phys = page)

/-- The scrubber found an uncorrectable line (R292). The target of a copy under way belongs to the owner of the page that is copied; it is
remapped in its turn as soon as that copy ends (log 9). What a reserved page held is rebuilt or lost as no chapter fixes (log 9). -/
def Device.scrubUe (d : Device) (s : StackNo) (page line : Nat) : Device :=
  let d := d.poisonLine page line true
  let copy := d.remaps.find? (fun r => r.new = page)
  let redo (d : Device) : Device := match copy with
    | some r => { d with remaps := d.remaps.map (fun q => if q.new = r.new then { q with again := true } else q) }
    | none => d.startRemap page
  match d.pageOwner ((copy.map (·.old)).getD page) with
  | some b =>
    let addr := b.pno * pageSize + 64 * line
    let d := d.report 0x0204 (some b.part) none s (pay4 addr (addr / 2 ^ 32) s.val (pageIdx page))
    redo (d.report 0x0301 (some b.part) none s (pay4 addr (addr / 2 ^ 32) s.val 0))
  | none => if copy.isSome then redo d else if d.pageKind page = .reserved then d else d.retirePage page

/-- SCRUB_READ (R291): the stack's scrubber reads its next line and writes it back; a pass that starts takes the interval then set (Table
12.4). -/
def Device.scrubRead (d : Device) (s : StackNo) : Device :=
  let k := d.hbmStacks[s]
  if k.st ≠ 1 ∨ !d.up 5 then d
  else
    let page := s.val * pagesPerStack + k.scrubLine / 32768
    let line := k.scrubLine % 32768
    let last := k.scrubLine + 1 = pagesPerStack * 32768
    let d := d.modStack s (fun k => { k with scrubLine := if last then 0 else k.scrubLine + 1,
                                             interval := if k.scrubLine = 0 then d.cfg 0x4000 4 0 else k.interval,
                                             passes := if last then k.passes + 1 else k.passes })
    match alGet d.hbmBad (page * 32768 + line) with
    | some (.correctable _) => (d.countCe page line).hbmWriteback page (fin line)
    | some .uncorrectable => d.scrubUe s page line
    | _ => d

def execScrubRead (s' : StackNo) (s : State) : Host.Outcome State Fault Refusal := onLive (fun d => d.scrubRead s') s

/-- hbm.scrub.passes: passes that every working stack has ended. -/
def Device.scrubPasses (d : Device) : Nat :=
  (d.goodStacks.map (fun k => (d.hbmStacks[k]).passes.toNat)).foldl (fun a b => some (min (a.getD b) b)) none |>.getD 0

/-- Every lining of a partition's tiles is invalidated whole, and its lines in every row cache (R152, R232). -/
def Device.translationChanged (d : Device) (p : PartNo) : Device :=
  { d with tiles := d.tiles.map (fun (x : Tile) => if x.bound = some p then x.liningClear else x) }.rowCacheDrop p

/-- PAGE_REMAP_DONE (R293): the copy has ended; the translation names the spare, linings and row caches are invalidated, and
the old page is retired. A spare that failed meanwhile is remapped next (R292). -/
def Device.remapDone (d : Device) (page : Nat) : Device :=
  match d.remaps.find? (fun r => r.old = page) with
  | none => d
  | some r =>
    if r.ptr < 32768 ∨ !d.up 5 then d
    else
      let owner := d.pageOwner page
      let d := { d with remaps := d.remaps.erase r, pageCe := d.pageCe.filter (fun e => e.1 ≠ page),
                        pages := d.pages.map (fun (b : Bound) => if b.phys = page then { b with phys := r.new } else b) }.retirePage page
      let d := if r.again then d.startRemap r.new else d
      match owner with
      | some b => d.translationChanged b.part
      | none => d

def execPageRemapDone (page : Nat) (s : State) : Host.Outcome State Fault Refusal := onLive (fun d => d.remapDone page) s

/-! ### Peer repair (R382) -/

/-- Tile and pocket offset of a mailbox slot of a repair record, and its clasp. -/
def Repair.mailTile (r : Repair) : TileNo := fin (r.mailbox % 512)
def Repair.slotOff (r : Repair) (slot : Nat) : Nat := r.mailbox / 512 % 512 * 4096 + 256 * slot
def Repair.mailClasp (r : Repair) : ClaspNo := fin (r.mailbox / 2 ^ 18 % 64)

/-- VALUE of a record's version clasp. -/
def Device.repairVersion (d : Device) (r : Repair) : Nat := clValue (d.claspWord (fin (r.version % 512)) (r.version / 512 % 64))

/-- Statuses of a reply (log 23). -/
def prOk : Nat := 1
def prStale : Nat := 2
def prNone : Nat := 3

/-- Answer a request of the peer: the line and a status into the requester's mailbox slot, then ADD 1 to its mailbox
clasp. -/
def Device.repairAnswer (d : Device) (p : PartNo) (range slot : Fin 16) (tag status : Nat) (data : List Byte) : Device :=
  let r := (d.parts[p]).repairs[range]
  let d := d.modPart p (fun q => { q with served := alSet q.served (range, slot) tag,
                                          peerWaits := q.peerWaits.filter (fun w => w.range ≠ range || w.slot ≠ slot) })
  let line := data ++ List.replicate (64 - data.length) 0
  let g := d.newTag (.repair p)
  let d := g.2.inject p collarCuff 0 r.peerChip (midReq r.mailTile (r.slotOff slot + 64) relReq) (line ++ leBytes 8 status)
  d.inject p collarCuff 3 r.peerChip (midReq r.mailTile (claspOff r.mailClasp) relReq)
    (leBytes 24 (g.1 + clAddOp <<< 24 + r.mailClasp.val <<< 32 + 1 <<< 64))

/-- PEER_REPAIR_SERVE: a request in a mailbox slot is answered, or waits for this device's version. -/
def Device.repairServe (d : Device) (p : PartNo) (range slot : Fin 16) : Device :=
  let q := d.parts[p]
  let r := q.repairs[range]
  if !r.on then d
  else
    let m := d.meshRead r.mailTile (r.slotOff slot) 32
    let word (a n : Nat) : Nat := leNat ((m.1.bytes.drop a).take n)
    let addr := word 0 8
    let ver := word 8 8
    let tag := word 16 16
    if m.1.st ≠ .ok then m.2
    else if tag = 0 ∨ alGet q.served (range, slot) = some tag then d
    else
      let d := m.2
      let own := d.repairVersion r
      if own = ver then
        let g := d.hbmRead p addr 64 false
        if g.1.st = .ok then g.2.repairAnswer p range slot tag prOk g.1.bytes else g.2.repairAnswer p range slot tag prNone []
      else if own > ver then d.repairAnswer p range slot tag prStale []
      else if q.peerWaits.any (fun w => w.range = range && w.slot = slot) then d
      else d.modPart p (fun q => { q with peerWaits := q.peerWaits ++
        [{ range := range, slot := slot, addr := addr, version := ver, tag := tag, since := d.devTime }] })

def execPeerRepairServe (p : PartNo) (range slot : Fin 16) (s : State) : Host.Outcome State Fault Refusal :=
  onLive (fun d => d.repairServe p range slot) s

/-- PEER_VERSION_WAIT_EXPIRY: 1 ms without an equal version answers STALE (R382 step 4). -/
def Device.versionExpiry (d : Device) (p : PartNo) : Device :=
  match (d.parts[p]).peerWaits.find? (fun w => d.since w.since ≥ 1000000) with
  | some w => d.repairAnswer p w.range w.slot w.tag prStale []
  | none => d

def execPeerVersionWaitExpiry (p : PartNo) (s : State) : Host.Outcome State Fault Refusal := onLive (fun d => d.versionExpiry p) s

/-- The requester receives POISON_READ (R289). -/
def Device.poisonReader (d : Device) (who : Requester) (addr : Nat) : Device :=
  match who with
  | .tile t e =>
    (match ((d.tiles[t]).flight[e.idx]).find? (fun f => !f.performed && f.awaits != 0) with
     | some f => d.execFault t e f fcPoisonRead (addr / 2 ^ 24)
     | none => d)
  | .bld t =>
    (match (d.tiles[t]).bld.find? (fun b => b.value.isNone) with
     | some b => d.faultTile t fcPoisonRead 0 b.e.pcq (addr / 2 ^ 24)
     | none => d)
  | .mover m k =>
    (match (d.slot m k).desc with
     | some x => if (d.slot m k).st = .running then d.failChannel m k x addr (.fault fcPoisonRead) else d
     | none => d)
  | .gather g => d.stopJob g (.status gsPoison)
  | .coll p => d.collAbort p clPoisonRead d.chipId.toNat 15
  | .watch _ _ => d
  | .repair _ => d

/-- A repair ends without the line. -/
def Device.repairFailed (d : Device) (p : PartNo) (r : RepairReq) : Device :=
  (d.modPart p (fun q => { q with repairReqs := q.repairReqs.erase r })).poisonReader r.who r.lineAddr

/-- PEER_REPAIR_REPLY: on OK the line is written in full and the access goes on; any other answer, or one that cannot be read (R144),
gives POISON_READ. -/
def Device.repairReply (d : Device) (p : PartNo) : Device :=
  let q := d.parts[p]
  let status (r : RepairReq) : Nat :=
    let k := q.repairs[r.range]
    (d.tiles[k.mailTile]).pocket.word (k.slotOff r.slot + 128) 8
  match q.repairReqs.find? (fun r => status r ≠ 0) with
  | none => d
  | some r =>
    let k := q.repairs[r.range]
    let m := d.meshRead k.mailTile (k.slotOff r.slot + 64) 72
    let d := (m.2.pocketWrite k.mailTile (k.slotOff r.slot + 128) (leBytes 8 0) 7).2
    if m.1.st = .ok ∧ status r = prOk then
      let w := d.hbmWrite p r.lineAddr (m.1.bytes.take 64) false
      let d := w.2.modPart p (fun q => { q with repairReqs := q.repairReqs.erase r, repairCount := q.repairCount + 1 })
      (match r.who with
       | .mover m n => d.moveOn m n
       | _ => d)
    else d.repairFailed p r

def execPeerRepairReply (p : PartNo) (s : State) : Host.Outcome State Fault Refusal := onLive (fun d => d.repairReply p) s

/-- PEER_REPAIR_TIMEOUT: no answer within 2 ms (R382). -/
def Device.repairTimeout (d : Device) (p : PartNo) : Device :=
  match (d.parts[p]).repairReqs.find? (fun r => d.overdue r.sentAt) with
  | some r => d.repairFailed p r
  | none => d

def execPeerRepairTimeout (p : PartNo) (s : State) : Host.Outcome State Fault Refusal := onLive (fun d => d.repairTimeout p) s

end Sys2Proof.Machine
end

