-- ==== Sys2Proof/Machine/SentinelWords.lean ====
section
/-! DEFINITION. The sentinel's entries as words: history words (R248), format selector words (R112), and the 96-byte records of
Table 10.6 (R262). -/

namespace Sys2Proof.Machine

/-- AMAX of a history word: the largest value of the history × 2^MARGIN, saturating; +0 while there is none (R248). -/
def SEntry.histAmax (e : SEntry) : W32 :=
  let m := e.hist.foldl (fun a x => if fld a 0 31 < fld x 0 31 then fabs x else a) 0#32
  match ofFP32 m with
  | .fin _ k x =>
    let w := toFP32 (.fin false k (x + e.margin.val))
    if isFinite32 w then w else 0x7F7FFFFF#32
  | _ => 0x7F7FFFFF#32

/-- A history word (Table 10.1). -/
def SEntry.histWord (e : SEntry) : Nat := e.histAmax.toNat + e.hist.length <<< 32

/-- The entry of a context for a tensor. -/
def Device.sentEntry (d : Device) (p : PartNo) (c : CtxNo) (tensor : Nat) : Option SEntry :=
  d.sentinel.find? (fun e => e.part = p && e.ctx = c && e.tensor.toNat = tensor)

/-- The collar writes the format selector words and history words of a context's entries (R112, R248, R255). -/
def Device.writeWords (d : Device) (p : PartNo) (c : CtxNo) (sel : SEntry → Bool) : Device :=
  match (d.ctxs[c]).image with
  | none => d
  | some i =>
    let one (tensor : BitVec 20) : Option SEntry := (d.sentEntry p c tensor.toNat).filter sel
    let d := i.fsw.foldl (fun d (w : Nat × TileNo × BitVec 20) =>
      match one w.2.2 with
      | some e =>
        let old := (d.tiles[w.2.1]).pocket.word w.1 8
        (d.pocketWrite w.2.1 w.1 (leBytes 8 (old - old % 16 + e.variant.toNat)) 7).2
      | none => d) d
    i.hist.foldl (fun d (w : Nat × TileNo × BitVec 20) =>
      match one w.2.2 with
      | some e => (d.pocketWrite w.2.1 w.1 (leBytes 8 e.histWord) 7).2
      | none => d) d

/-- Words of restored entries are written before the first release (R262). -/
def Device.writeRestored (d : Device) (p : PartNo) (c : CtxNo) : Device :=
  let d := d.writeWords p c (·.restored)
  { d with sentinel := d.sentinel.map (fun e => if e.part = p && e.ctx = c then { e with restored := false } else e) }

/-- An entry zeroed, disarmed, at VARIANT 0 (R263). -/
def SEntry.fresh (p : PartNo) (c : CtxNo) (g : ImgGuard) (maxv : Nat) : SEntry :=
  { part := p, ctx := c, set := 0, tensor := g.tensor, variant := 0, maxv := BitVec.ofNat 4 maxv, consec := 0, pinned := false,
    margin := g.margin, demotes := 0, quiet := 0, promotes := 0, hist := [], satPpm := g.sat, unfPpm := g.unf, errRatio := g.err,
    worst := g.worst, restored := false, nonfinCount := 0, nStat := 0, n := 0, sat := 0, unf := 0, errSum := 0, sigSum := 0,
    sumBad := false, wmax := 0, amax := 0, accOvf := false, nonfin := 0, trigger := 0, forced := none }

/-- A record of Table 10.6; CONSEC above 15 reads 15 (log 30). -/
def SEntry.record (e : SEntry) : Nat :=
  e.tensor.toNat + e.ctx.val <<< 20 + e.variant.toNat <<< 28 + e.maxv.toNat <<< 32 + min e.consec 15 <<< 36
    + e.hist.length <<< 40 + e.pinned.toNat <<< 45 + e.margin.val <<< 46 + e.demotes <<< 48 + e.quiet.toNat <<< 64
    + e.promotes.toNat <<< 96 + (e.hist.zipIdx.map (fun (q : W32 × Nat) => q.1.toNat <<< (128 + 32 * q.2))).foldl (· + ·) 0
    + e.satPpm.toNat <<< 640 + e.unfPpm.toNat <<< 672 + e.errRatio.toNat <<< 704 + e.worst.toNat <<< 736

/-- part.sentinel.entries as read (R262): by context, then tensor. -/
def Device.sentRead (d : Device) (p : PartNo) : List Byte :=
  let es := d.sentinel.filter (fun e => e.part = p)
  let key (e : SEntry) : Nat := e.ctx.val * 2 ^ 20 + e.tensor.toNat
  let sorted := es.foldl (fun l e => (l.filter (fun a => key a < key e)) ++ e :: l.filter (fun a => key e ≤ key a)) []
  sorted.flatMap (fun e => leBytes 96 e.record)

/-- The writable fields of a record put into an entry; FILL above 16 and a VARIANT above MAXV are held at those limits
(log 30). -/
def SEntry.restore (e : SEntry) (r : BitVec 768) : SEntry :=
  { e with variant := BitVec.ofNat 4 (min (fld r 28 4) e.maxv.toNat), consec := fld r 36 4, pinned := bitOf r 45, demotes := fld r 48 8,
           quiet := BitVec.ofNat 32 (fld r 64 32), promotes := BitVec.ofNat 32 (fld r 96 32),
           hist := (List.range (min (fld r 40 5) 16)).map (fun i => BitVec.ofNat 32 (fld r (128 + 32 * i) 32)), restored := true }

/-- Entries a partition's sentinel sets can hold (R244). -/
def Device.sentCap (d : Device) (p : PartNo) : Nat := 1024 * (d.sentinelSets.toList.filter (fun o => o = some p)).length

/-- Reports of a context not yet folded are discarded (R246). -/
def Device.dropReports (d : Device) (c : CtxNo) : Device :=
  { d.modCtx c (fun x => { x with reports := [] }) with
    sentReports := d.sentReports.filter (fun r => match r with
      | .stat k _ _ _ _ => k ≠ c
      | .acc k _ _ _ => k ≠ c) }

end Sys2Proof.Machine
end

