-- ==== Sys2Proof/Machine/SaveArea.lean ====
section
/-! DEFINITION. Save areas (R353, R354): a tile's save image in stacked memory, written and read whole. -/

namespace Sys2Proof.Machine

/-- Bytes [so, so + n) of one store copied to `a` of another. -/
def Memory.copyTo (dst : Memory) (a : Nat) (src : Memory) (so n : Nat) : Memory :=
  (src.slice so n).foldl (fun m c => m.put (a + c.1) c.2) (dst.clear a n)

/-- The pieces of a range that stay inside one page: address and length. -/
def pageCuts (addr n : Nat) : List (Nat × Nat) :=
  if n = 0 then []
  else (List.range ((addr + n + pageSize - 1) / pageSize - addr / pageSize)).map (fun i =>
    let lo := max addr (pageSize * (addr / pageSize + i))
    let hi := min (addr + n) (pageSize * (addr / pageSize + i + 1))
    (lo, hi - lo))

/-- The pieces of a range that stay inside one page and on one side of its copy pointer (R293). -/
def Device.copyCuts (d : Device) (p : PartNo) (addr n : Nat) : List (Nat × Nat) :=
  (pageCuts addr n).flatMap (fun q =>
    match d.pages.find? (fun b => b.part = p && b.pno = q.1 / pageSize) with
    | some b =>
      (match d.remaps.find? (fun r => r.old = b.phys) with
       | some r =>
         let cut := q.1 / pageSize * pageSize + 64 * r.ptr
         if q.1 < cut ∧ cut < q.1 + q.2 then [(q.1, cut - q.1), (cut, q.1 + q.2 - cut)] else [q]
       | none => [q])
    | none => [q])

/-- Whole lines of a partition's stacked memory written from a store: their ECC state becomes clean (R288). False where
a page is not bound. -/
def Device.saveBytes (d : Device) (p : PartNo) (addr : Nat) (src : Memory) (n : Nat) : Bool × Device :=
  (d.copyCuts p addr n).foldl (fun (acc : Bool × Device) (q : Nat × Nat) =>
    match acc.2.transHbm p q.1 with
    | none => (false, acc.2)
    | some (page, off) =>
      let a := page * pageSize + off
      (acc.1, { acc.2 with hbm := acc.2.hbm.copyTo a src (q.1 - addr) q.2,
                           hbmBad := acc.2.hbmBad.filter (fun b => !(a ≤ 64 * b.1 && 64 * b.1 < a + q.2)) })) (true, d)

/-- Bytes of a partition's stacked memory read into a store that starts at 0; false where a page is not bound or a line is
uncorrectable. -/
def Device.loadBytes (d : Device) (p : PartNo) (addr n : Nat) : Bool × Memory × Device :=
  (d.copyCuts p addr n).foldl (fun (acc : Bool × Memory × Device) (q : Nat × Nat) =>
    match acc.2.2.transHbm p q.1 with
    | none => (false, acc.2)
    | some (page, off) =>
      let a := page * pageSize + off
      let met := (acc.2.2.hbmBad.filter (fun b => a ≤ 64 * b.1 && decide (64 * b.1 < a + q.2))).foldl
        (fun (e : Bool × Device) b => let m := e.2.meetLine (b.1 / 32768) (b.1 % 32768); (e.1 && m.1, m.2)) (true, acc.2.2)
      (acc.1 && met.1, acc.2.1.copyTo (q.1 - addr) met.2.hbm a q.2, met.2)) (true, [], d)

/-- A watch slot as Table 7.6 shows it. -/
def watchWord : Option Watch → BitVec 128
  | none => 0
  | some w => BitVec.ofNat 128 (w.value.toNat + w.clasp.val <<< 48 + w.cond.val <<< 54 + w.nkind.val <<< 56 + w.narg.val <<< 58
      + w.remote.toNat <<< 61 + w.wait.toNat <<< 62 + 1 <<< 63 + w.tile.val <<< 64 + w.chip.toNat <<< 73 + w.ctx.val <<< 88)

/-- A slot restored from its 16 bytes of a save image (R353, Table 7.6); what the layout does not show of it (holder, INV, TAG) comes
from where the collar kept it (log 25). -/
def watchOfWord (v : BitVec 128) (kept : Option Watch) : Option Watch :=
  if bitOf v 63 then
    some { kept.getD default with
      value := BitVec.ofNat 48 (fld v 0 48), clasp := fin (fld v 48 6), cond := fin (fld v 54 2), nkind := fin (fld v 56 2),
      narg := fin (fld v 58 3), remote := bitOf v 61, wait := bitOf v 62, tile := fin (fld v 64 9),
      chip := BitVec.ofNat 15 (fld v 73 15), ctx := fin (fld v 88 8) }
  else none

/-- Size of a save image, and the places in it of the watch slots, CLASP_LOCKS and the register record (R353). -/
def saveSize : Nat := 0x201000
def saveWatches : Nat := 0x200000
def saveLocks : Nat := 0x200200
def saveRegs : Nat := 0x200400

/-- The register record of a yielded tile, its items in the order R353 names them (log 25): PC in 8 bytes, TOK0 to TOK7,
then 4-byte words. -/
def CommitRec.bytes (r : CommitRec) : List Byte :=
  leBytes 8 r.pc ++ r.tok.toList ++ r.bnd.toList.flatMap (fun w => leBytes 4 w.toNat)
    ++ r.lc.toList.flatMap (fun w => leBytes 4 w.toNat)
    ++ [r.cvt, r.acc, r.vx, r.claspNote, r.moverNote].flatMap (fun w => leBytes 4 w.toNat)

def CommitRec.ofMem (m : Memory) (a : Nat) : CommitRec :=
  let w (i : Nat) : W32 := BitVec.ofNat 32 (m.word (a + 16 + 4 * i) 4)
  { pc := m.word a 8, tok := Vector.ofFn (fun (i : Fin 8) => m.get (a + 8 + i.val)), bnd := Vector.ofFn (fun (i : Fin 16) => w i.val),
    lc := Vector.ofFn (fun (i : Fin 4) => w (16 + i.val)), cvt := w 20, acc := w 21, vx := w 22, claspNote := w 23, moverNote := w 24 }

/-- The registers a commit record or a register record keeps (R353, R371). -/
def Tile.record_ (x : Tile) : CommitRec :=
  { pc := x.pc, tok := x.tok, bnd := x.bnd, lc := x.lc, cvt := x.cvtStatus, acc := x.accStatus, vx := x.vxStatus,
    claspNote := x.claspNote, moverNote := x.moverNote }

def Tile.putRecord (x : Tile) (r : CommitRec) : Tile :=
  { x with pc := r.pc, tok := r.tok, bnd := r.bnd, lc := r.lc, cvtStatus := r.cvt, accStatus := r.acc, vxStatus := r.vx,
           claspNote := r.claspNote, moverNote := r.moverNote }

/-- The save image of a tile. -/
def Tile.saveImage (x : Tile) (regs : Bool) : Memory :=
  let m := x.pocket.write saveWatches (x.watches.toList.flatMap (fun o => leBytes 16 (watchWord o).toNat))
  let m := m.write saveLocks (leBytes 8 x.claspLocks.toNat)
  if regs then m.write saveRegs x.record_.bytes else m

/-- The tiles an image names, in ascending order (R264, R353). -/
def Image.tileList (i : Image) : List TileNo := (List.finRange 512).filter (fun t => i.tiles.any (fun x => x.tile = t))

/-- The tiles a context names. -/
def Device.ctxNames (d : Device) (c : CtxNo) : List TileNo :=
  match (d.ctxs[c]).image with
  | some i => i.tileList
  | none => []

/-- Address of a tile's save image in a context's save area. -/
def Device.saveAddr (d : Device) (c : CtxNo) (t : TileNo) : Nat :=
  (d.ctxs[c]).saveBase + saveSize * ((firstIdx (fun u => u = t) (d.ctxNames c)).getD 0)

/-- Whether a tile's pocket holds a word that is not correctable. -/
def Tile.pocketUe (x : Tile) : Bool := x.pocketBad.any (·.2)

/-- Whether a tile holds a kernel in the middle of a step: it has yielded, or ended while others yielded (R353). -/
def Tile.midStep (x : Tile) : Bool := x.mode = .yielding || x.mode = .ending

/-- Save one tile (R353): its watches and the registrations that wait leave the clasp unit and wait in the save area (R354). With `regs`,
a save after SY YIELD, a kernel's registers are saved too. False where a word of the pocket or the save area fails (R350). -/
def Device.saveTile (d : Device) (c : CtxNo) (p : PartNo) (t : TileNo) (regs : Bool) : Bool × Device :=
  let x := d.tiles[t]
  let mid := regs && x.midStep
  let r := (d.pocketSweep t).saveBytes p (d.saveAddr c t) (x.saveImage mid) saveSize
  let s : SavedTile := { tile := t, watches := x.watches, waiting := x.watchWait, regs := mid, ended := x.mode = .ending,
                         record := x.record, journal := x.journal, toMatch := x.toMatch }
  (r.1 && !x.pocketUe,
   (r.2.modCtx c (fun q => { q with saved := q.saved.filter (fun (y : SavedTile) => y.tile ≠ t) ++ [s] })).modTile t
     (fun x => { x with watches := Vector.replicate 32 none, watchWait := [], claspLocks := 0 }))

/-- Every occupied slot evaluated against its clasp word (R178, R353): each whose condition holds fires. -/
def Device.evalWatches (d : Device) (t : TileNo) : Device := (List.finRange 48).foldl (fun d n => d.fireWatches t n false) d

/-- Restore one tile (R353). False where the save area fails. -/
def Device.restoreTile (d : Device) (c : CtxNo) (p : PartNo) (s : SavedTile) : Bool × Device :=
  let a := d.saveAddr c s.tile
  let r := d.loadBytes p a saveSize
  if !r.1 then (false, r.2.2)
  else
    let m := r.2.1
    let put (x : Tile) : Tile :=
      { x with pocket := m.slice 0 pocketSize, pocketBad := [], claspLocks := BitVec.ofNat 48 (m.word saveLocks 8),
               watches := Vector.ofFn (fun (i : Fin 32) => watchOfWord (BitVec.ofNat 128 (m.word (saveWatches + 16 * i.val) 16)) s.watches[i]),
               watchWait := s.waiting, lining := [], fills := [] }
    let d := r.2.2.modTile s.tile (fun x =>
      if s.regs then { (put x).putRecord (CommitRec.ofMem m saveRegs) with
                       mode := if s.ended then .ending else .running, record := s.record, journal := s.journal, toMatch := s.toMatch }
      else put x)
    (true, d.evalWatches s.tile)

end Sys2Proof.Machine
end

