-- ==== Sys2Proof/Machine/Contexts.lean ====
section
/-! DEFINITION. Contexts (15_partitions.md): their windows and pools, steps, scheduling and pre-emption (R353 to R360), kernel
start (R161), exit (R183), save and restore. -/

namespace Sys2Proof.Machine

/-! ### Who owns what -/

/-- Contexts bound to a partition. -/
def Device.partCtxs (d : Device) (p : PartNo) : List CtxNo := (List.finRange 256).filter (fun c => (d.ctxs[c]).part = some p)

/-- A context in state ADMITTED or later, and one that has started (Table 15.4). -/
def CtxSt.admitted_ : CtxSt → Bool
  | .free | .bound => false
  | _ => true
def CtxSt.started : CtxSt → Bool
  | .ready | .running | .saved | .suspended => true
  | _ => false

/-- Tiles that run a kernel: those with an entry (R271). -/
def Device.kernelTiles (d : Device) (c : CtxNo) : List TileNo :=
  match (d.ctxs[c]).image with
  | some i => i.tileList.filter (fun t => i.tiles.any (fun x => x.tile = t && x.entry.isSome))
  | none => []

/-- Program offset of a tile's first instruction. -/
def Device.entryOf (d : Device) (c : CtxNo) (t : TileNo) : Option Nat :=
  match (d.ctxs[c]).image with
  | some i => (i.tiles.find? (fun x => x.tile = t)).bind (fun x => x.entry.map (16 * ·))
  | none => none

/-- A tile left by its context: nothing queued, no open output tile (R62, R115); the sticky flags stay until a kernel start or a teardown
clears them (R53, R78, R135). -/
def Tile.vacate (x : Tile) : Tile :=
  { x with mode := .idle, ctx := none, bld := [], queues := Vector.replicate 4 [], flight := Vector.replicate 4 [], mm := x.mm.discard,
           record := none, journal := [], toMatch := none }

/-- A tile whose context is torn down: its lining invalidated (R152), its statuses and notes cleared (R53, R78, R135, R181, R210). -/
def Tile.tornDown (x : Tile) : Tile :=
  { x.liningClear.vacate with cvtStatus := 0, accStatus := 0, vxStatus := 0, claspNote := 0, moverNote := 0 }

/-- A free patch tile of a panel (R375): not under suspicion to be fitted, no shadow of an audit. -/
def Device.patchFree (d : Device) (p : PanelNo) : List PhysNo :=
  (panelStops p).filter (fun x => (d.health[x]).role = 1 && (d.health[x]).suspect.val < 3 &&
    d.ctxs.toList.all (fun (c : Context) => c.shadow ≠ some x))

/-- Whether a logical tile has a physical tile in service (R386, R389). -/
def Device.mapped (d : Device) (t : TileNo) : Bool :=
  let h := d.health[d.patchMap[t]]
  h.role = 0 && h.ltile = t

/-- A physical tile takes a logical tile (R375). -/
def Device.patchIn (d : Device) (t : TileNo) (y : PhysNo) : Device :=
  { d.modHealth y (fun h => { h with role := 0, ltile := t }) with patchMap := d.patchMap.set t y }

/-- A logical tile without a physical tile takes the lowest free patch tile of its panel. -/
def Device.mapTile (d : Device) (t : TileNo) : Device :=
  if d.mapped t then d
  else match d.patchFree (panelOf t) with
    | y :: _ => d.patchIn t y
    | [] => d

/-! ### Windows and pools of an image (R213, R275) -/

def Device.freeWindow (d : Device) (p : PartNo) : Option WinNo :=
  (List.finRange 64).find? (fun w => ((d.parts[p]).windows[w]).st = 0 && !((d.parts[p]).windows[w]).reserved)
def Device.freePool (d : Device) (p : PartNo) : Option PoolNo :=
  (List.finRange 8).find? (fun n => !((d.parts[p]).pools[n]).open_ && !((d.parts[p]).pools[n]).reserved)

/-- The fields of an image's window and pool by their sub-indices (Tables 6.5, 8.11). -/
def ImgWin.field (w : ImgWin) : Nat → Nat
  | 1 => w.tile | 2 => w.base | 3 => w.size | 4 => w.slice | 5 => w.chipLo | 6 => w.chipHi | _ => w.rights
def ImgPool.field (n : ImgPool) : Nat → Nat
  | 1 => n.tile | 2 => n.clasp | 3 => n.base | _ => n.slots

/-- Whether a range lies wholly in the clasp region (R166). -/
def inClasps (base size : Nat) : Bool := decide (claspBase ≤ base) && decide (base + size ≤ pocketSize)

/-- Fields of a window record but for its tile (Table 6.5). -/
def windowFieldsOk (g : Nat → Nat) : Bool :=
  decide (g 2 ≤ 0x1FFFC0) && decide (g 2 % 64 = 0) && decide (64 ≤ g 3) && decide (g 3 % 64 = 0) && decide (g 2 + g 3 ≤ pocketSize)
    && decide (g 4 ≤ 4095) && decide (g 5 ≤ 32767) && decide (g 5 ≤ g 6) && decide (g 6 ≤ 32767) && decide (g 7 ≤ 7)
    && (if inClasps (g 2) (g 3) then decide (g 7 % 4 = 0) else decide (g 7 < 4))

/-- Fields of a pool record (Table 8.11). -/
def Device.poolFieldsOk (d : Device) (g : Nat → Nat) (p : PartNo) : Bool :=
  d.owns p (g 1) && decide (g 2 ≤ 47) && decide (g 3 % 4096 = 0) && decide (1 ≤ g 4) && decide (g 4 ≤ 48)
    && decide (g 3 + 4096 * g 4 ≤ 0x1FF000)

def ImgWin.window (w : ImgWin) (c : Option CtxNo) : Window :=
  { st := 1, tile := w.tile, base := w.base, size := w.size, slice := w.slice, chipLo := w.chipLo, chipHi := w.chipHi,
    rights := BitVec.ofNat 3 w.rights, admitted := 0, forCtx := c, reserved := false }

/-- The free clasp of a pool written (R213). -/
def Device.poolClaspSet (d : Device) (t clasp v : Nat) : Device := (d.claspApply (fin t) (fin clasp) (clArg clSwapOp v)).2

/-- Windows and pools reserved for a context are released. -/
def Device.dropReserved (d : Device) (p : PartNo) (c : CtxNo) : Device :=
  d.modPart p (fun q =>
    { q with windows := q.windows.map (fun (w : Window) =>
               if w.forCtx = some c && w.st = 0 then { w with reserved := false, forCtx := none } else w),
             pools := q.pools.map (fun (n : Pool) =>
               if n.forCtx = some c && !n.open_ then { n with reserved := false, forCtx := none } else n) })

/-- At the start of a context its windows and pools are committed in the lowest free numbers (R275); one whose record a commit
would refuse stays closed (log 26). -/
def Device.openImage (d : Device) (p : PartNo) (c : CtxNo) (i : Image) : Device :=
  let d := d.dropReserved p c
  let d := i.wins.foldl (fun d w =>
    match d.freeWindow p with
    | some k => if d.owns p w.tile && windowFieldsOk w.field then d.modWindow p k (fun _ => w.window (some c)) else d
    | none => d) d
  i.pools.foldl (fun d n =>
    match d.freePool p with
    | some k =>
      if !d.poolFieldsOk n.field p || d.claspWord (fin n.tile) n.clasp ≠ 0 then d
      else
        (d.modPool p k (fun q => { q with open_ := true, tile := n.tile, freeClasp := n.clasp, base := n.base, slots := n.slots,
                                          rr := 0, forCtx := some c, reserved := false })).poolClaspSet n.tile n.clasp (2 ^ n.slots - 1)
    | none => d) d

/-- The windows of a context that are open pass to closing (R168, R354); `keep` holds their numbers for its restore. -/
def Device.closeWindows (d : Device) (p : PartNo) (c : CtxNo) (keep : Bool) : Device :=
  d.modPart p (fun q => { q with windows := q.windows.map (fun (w : Window) =>
    if w.forCtx = some c then { w with st := if w.st = 1 then 2 else w.st, reserved := keep, forCtx := if keep then w.forCtx else none }
    else w) })

/-- The windows of a restored context are open again. -/
def Device.reopenWindows (d : Device) (p : PartNo) (c : CtxNo) : Device :=
  d.modPart p (fun q => { q with windows := q.windows.map (fun (w : Window) =>
    if w.forCtx = some c then { w with st := 1, reserved := false } else w) })

/-- The pools of a context are closed; each free clasp is written 0 (R213). -/
def Device.closePools (d : Device) (p : PartNo) (c : CtxNo) : Device :=
  (List.finRange 8).foldl (fun d k =>
    let n := (d.parts[p]).pools[k]
    if n.forCtx = some c then
      (d.modPool p k (fun q => { q with open_ := false, forCtx := none, reserved := false })).poolClaspSet n.tile n.freeClasp 0
    else d) d

/-! ### Steps -/

/-- Releases a context has not begun (R355, R422). -/
def Context.pendingSteps (x : Context) : Nat := (x.releases.map (·.1)).foldl (· + ·) 0

/-- Whether a context waits for its tiles: a step to run, or one to go on with after a YIELD. -/
def Context.wants (x : Context) : Bool := !x.releases.isEmpty || x.inStep

/-- The commit record of the context's gather rings (R371): next job, and the running forward job. -/
def Device.ringRecord (d : Device) (c : CtxNo) : List (GatherNo × Nat × Option Job) :=
  ((List.finRange 16).filter (fun g => (d.gather[g]).ring.st ≠ 0 && (d.gather[g]).ring.ctx = c)).map (fun g =>
    (g, (d.gather[g]).ring.next, (d.gather[g]).job.bind (fun j => if fld j.d 0 2 = 0 then some j else none)))

/-- Choose whether the segment that begins is audited (R379): one tile, with a free patch tile of its panel as shadow. -/
def Device.auditSelect (d : Device) (c : CtxNo) : Device :=
  let n := d.cfg 0x5300 1 0
  let d := d.modCtx c (fun x => { x with audit := false, auditTile := none, shadow := none, met := false, auditMiss := false })
  let x := d.ctxs[c]
  let k := Config.auditDraw x.startedAt d.freeCount
  let names := d.kernelTiles c
  let d := { d with freeCount := d.freeCount + 2 }
  if n = 0 ∨ k % n ≠ 0 then d
  else
    match names[Config.auditDraw x.startedAt (d.freeCount - 1) % max 1 names.length]? with
    | none => d
    | some t =>
      match d.patchFree (panelOf t) with
      | [] => { d with auditSkipped := d.auditSkipped + 1 }
      | s :: _ =>
        { d.modCtx c (fun x => { x with audit := true, auditTile := some t, shadow := some s, met := false, auditMiss := false }) with
          auditRuns := d.auditRuns + 1 }

/-- The next released step of a running context begins: kernels may start on its tiles. -/
def Device.beginStep (d : Device) (c : CtxNo) : Device :=
  match (d.ctxs[c]).releases with
  | [] => d
  | (n, p, q, cid) :: rest =>
    let ring := d.ringRecord c
    (d.modCtx c (fun x =>
      { x with inStep := true, atBoundary := false, dogLimit := 0, ringRec := ring, jfull := false,
               releases := if n ≤ 1 then rest else (n - 1, p, q, cid) :: rest })).auditSelect c

/-- Step watchdog limit in nanoseconds (R116): 10 s where step_us is 0. -/
def Device.dogNs (d : Device) (p : PartNo) : Nat :=
  let us := d.cfg 0x6030 1 p
  if us = 0 then 10000000000 else d.cfg 0x6030 2 p * us * 1000

/-- KERNEL_START (R161): the controller's registers are cleared, the lining is invalidated, dispatch begins at the entry. -/
def Device.kernelStart (d : Device) (t : TileNo) : Device :=
  let x := d.tiles[t]
  match x.ctx, x.bound with
  | some c, some p =>
    let q := d.ctxs[c]
    if q.st = .running && q.inStep && !q.restoring && x.mode = .idle then
      match d.entryOf c t with
      | none => d
      | some pc =>
        let y : Tile := { x.liningClear with
          pc := pc, mode := .running, step := q.stepNo, bnd := Vector.replicate 16 0, tok := Vector.replicate 8 0,
          lc := Vector.replicate 4 0, cvtStatus := 0, accStatus := 0, vxStatus := 0, claspNote := 0, moverNote := 0, mm := x.mm.discard,
          journal := [], toMatch := none, waited := Vector.replicate 5 0, lastActive := d.devTime }
        (d.modTile t (fun _ => { y with record := some y.record_ })).modCtx c (fun q =>
          { q with dogAt := d.devTime, dogLimit := BitVec.ofNat 64 (d.dogNs p) })
    else d
  | _, _ => d

def execKernelStart (t : TileNo) (s : State) : Host.Outcome State Fault Refusal := onLive (fun d => d.kernelStart t) s

/-! ### Scheduling (R356 to R360) -/

/-- The resource numbers of a request. -/
def BindReq.items (b : BindReq) : List Nat := (List.range b.count).map (· + b.first)

/-- The ports a lane is configured for, or, for a spare that stands in for a failed lane, that lane's (R308). -/
def Device.portsOfLane (d : Device) (n : Nat) : List PortNo :=
  let k : Nat := ((d.lanes[(fin n : LaneNo)]).subst.map (·.val)).getD n
  (List.finRange 8).filter (fun p => (d.cfg 0x3100 1 p / 2 ^ k) % 2 = 1)

/-- Whether a partition's slice uses a port: an entry of its table or its ring layout names it. -/
def Device.sliceUses (d : Device) (p : PartNo) (port : PortNo) : Bool :=
  match d.sliceOf p with
  | none => false
  | some k =>
    (d.tables[k]).entries.any (fun e => fld e.2 0 4 = port.val || fld e.2 4 4 = port.val) ||
      ((d.layouts[k]).loaded && ([0, 1, 2] : List (Fin 4)).any (fun v => (d.layouts[k]).len v > 1 &&
        ((d.layouts[k]).port v false = port || (d.layouts[k]).port v true = port)))

/-- Whether a context names a resource (R347). -/
def Device.ctxNeeds (d : Device) (c : CtxNo) (kind n : Nat) : Bool :=
  match (d.ctxs[c]).image, (d.ctxs[c]).part with
  | some i, some p =>
    (match kind with
     | 1 => i.tiles.any (fun x => x.tile.val = n)
     | 4 => bitOf i.gatherMask n
     | 5 => bitOf i.bulkMask n
     | 6 => (d.portsOfLane n).any (fun q => d.sliceUses p q)
     | _ => false)
  | _, _ => false

/-- Whether a binding request that drains or moves keeps a context from starting (R348). -/
def Device.bindHolds (d : Device) (c : CtxNo) : Bool :=
  d.parts.toList.any (fun p => (p.bind.st = 1 || p.bind.st = 2) && p.bind.begun &&
    (decide (c ∈ p.bind.users) || p.bind.items.any (d.ctxNeeds c p.bind.kind)))

/-- Whether a context is considered at a scheduling point. -/
def Device.considered (d : Device) (c : CtxNo) : Bool :=
  let x := d.ctxs[c]
  (x.st = .ready || x.st = .saved) && x.wants && !x.restoring && !d.bindHolds c && d.rst.state = 7

/-- Whether a holder may be pre-empted by a context (R356, R360). -/
def Device.mayPreempt (d : Device) (c r : CtxNo) : Bool :=
  let x := d.ctxs[c]
  let y := d.ctxs[r]
  if d.realTime r then false
  else if d.realTime c then true
  else decide (y.prio.val < x.prio.val) || (y.prio = x.prio &&
    match x.part with
    | some p => decide (d.since y.startedAt ≥ d.cfg 0x6020 1 p * 1000)
    | none => false)

/-- Contexts that hold tiles another one names. -/
def Device.holders (d : Device) (ts : List TileNo) : List CtxNo := (ts.filterMap (fun t => (d.tiles[t]).ctx)).eraseDups

/-- A context loaded into the pocket of a tile and not yet run there loses its place: its tile is saved first (R354). -/
def Device.makeRoom (d : Device) (c : CtxNo) (t : TileNo) : Device :=
  ((List.finRange 256).filter (fun a => a ≠ c && ((d.ctxs[a]).st = .admitted || (d.ctxs[a]).st = .ready) && decide (t ∈ d.ctxNames a)
      && (d.ctxs[a]).saved.all (fun s => s.tile ≠ t))).foldl (fun d a =>
    match (d.ctxs[a]).part with
    | some p => (d.saveTile a p t false).2
    | none => d) d

/-- Clasp words of a context's tiles (R183). -/
def Device.claspWords (d : Device) (c : CtxNo) : List (TileNo × List W64) :=
  (d.ctxNames c).map (fun t => (t, (List.range 48).map (fun n => d.claspWord t n)))

/-- A context holds its tiles and runs: at its first start its windows and pools open and its clasp words are recorded. -/
def Device.nowRunning (d : Device) (c : CtxNo) : Device :=
  let x := d.ctxs[c]
  match x.part, x.image with
  | some p, some i =>
    let d := if x.recorded.isEmpty then (d.openImage p c i).writeRestored p c else d.reopenWindows p c
    let words := d.claspWords c
    let d := d.modCtx c (fun x =>
      { x with st := .running, restoring := false, saved := [], startedAt := d.devTime,
               recorded := if x.recorded.isEmpty then words else x.recorded })
    if x.inStep then d else d.beginStep c
  | _, _ => d

/-- A considered context whose tiles are free takes them: it starts, or its restore begins. -/
def Device.startCtx (d : Device) (c : CtxNo) : Device :=
  let d := (d.ctxNames c).foldl (fun d t => (d.makeRoom c t).modTile t (fun x => { x.vacate with ctx := some c })) d
  if (d.ctxs[c]).saved.isEmpty then d.nowRunning c else d.modCtx c (fun x => { x with restoring := true })

/-- A running context gives up its tiles at the boundary it is at (R353, R354). -/
def Device.beginSave (d : Device) (c : CtxNo) : Device :=
  match (d.ctxs[c]).part with
  | some p => (d.modCtx c (fun x => { x with saving := true, marked := false })).closeWindows p c true
  | none => d

/-- SY YIELD and SY END of the tiles of a step (R353): once each has ended or yielded, and one has yielded, the context is saved. -/
def Device.yieldSave (d : Device) (t : TileNo) : Device :=
  match (d.tiles[t]).ctx with
  | some c =>
    let x := d.ctxs[c]
    let ts := d.kernelTiles c
    if x.st = .running && x.inStep && !x.saving && ts.all (fun u => (d.tiles[u]).midStep) && ts.any (fun u => (d.tiles[u]).mode = .yielding)
    then d.beginSave c else d
  | none => d

/-- SY YIELD: the drained tile is returned to the collar, which saves the context (R353). -/
def execSyYield (t : TileNo) (s : State) : Host.Outcome State Fault Refusal :=
  onLive (fun d => d.syRun t .yield (fun _ => 15)
    (fun _ d => (d.modTile t (fun x => { x.nextPc with mode := .yielding })).yieldSave t)) s

/-- SY END: every engine is drained, so every write of the tile is delivered; the kernel has ended (R161). -/
def execSyEnd (t : TileNo) (s : State) : Host.Outcome State Fault Refusal :=
  onLive (fun d => d.syRun t .end_ (fun _ => 15)
    (fun _ d => (d.modTile t (fun x => { x.nextPc with mode := .ending })).yieldSave t)) s

/-- Consider one context; `taken` are tiles kept for contexts considered before. -/
def Device.considerOne (d : Device) (taken : List TileNo) (c : CtxNo) : List TileNo × Device :=
  let ts := d.ctxNames c
  let bound := ts.all (fun t => (d.tiles[t]).bound = (d.ctxs[c]).part && d.mapped t)
  if !bound then (taken, d)
  else
    let hs := d.holders ts
    if hs.isEmpty && ts.all (fun t => t ∉ taken) then (taken ++ ts, d.startCtx c)
    else if !hs.isEmpty && hs.all (fun r => (d.ctxs[r]).saving || (d.ctxs[r]).st ≠ .running || d.mayPreempt c r) then
      (taken ++ ts, hs.foldl (fun d r => d.modCtx r (fun x => { x with marked := if x.st = .running && !x.saving then true else x.marked })) d)
    else (taken ++ ts, d)

/-- Candidates in order: priority, then the time since which they wait (R356). -/
def Device.candidates (d : Device) : List CtxNo :=
  let cs := (List.finRange 256).filter (fun c => d.considered c)
  let before (a b : CtxNo) : Bool :=
    let x := d.ctxs[a]
    let y := d.ctxs[b]
    decide (x.prio.val > y.prio.val) || (x.prio = y.prio && decide (x.waitSince.toNat < y.waitSince.toNat))
  cs.foldl (fun l c => (l.filter (fun a => !before c a)) ++ c :: l.filter (fun a => before c a)) []

/-- A running context between steps: saved at once when marked, else its next released step begins. -/
def Device.runIdle (d : Device) (c : CtxNo) : Device :=
  let x := d.ctxs[c]
  if x.st = .running && !x.inStep && !x.saving && !x.restoring then
    if x.marked then d.beginSave c
    else if x.heldAt || d.bindHolds c then d
    else d.beginStep c
  else d

/-- A scheduling point (R356). -/
def Device.schedule (d : Device) : Device :=
  if !d.up 1 then d
  else
    let r := d.candidates.foldl (fun (acc : List TileNo × Device) c => acc.2.considerOne acc.1 c) ([], d)
    (List.finRange 256).foldl (fun d c => d.runIdle c) r.2

/-- Whether gather jobs and the collective of a context have ended (R357). -/
def Device.enginesQuiet (d : Device) (c : CtxNo) : Bool :=
  (List.finRange 16).all (fun g => (d.gather[g]).ring.st = 0 || (d.gather[g]).ring.ctx ≠ c || (d.gather[g]).job.isNone) &&
    (match (d.ctxs[c]).part with
     | some p => (d.parts[p]).coll.isNone || (d.parts[p]).collRing.ctx ≠ c
     | none => true)

/-- CONTEXT_SAVE_DONE (R353, R357): every tile is in the save area; the context is SAVED. -/
def Device.saveDone (d : Device) (c : CtxNo) : Device :=
  let x := d.ctxs[c]
  match x.part with
  | none => d
  | some p =>
    if x.saving && x.st = .running && d.enginesQuiet c then
      let yielded := x.inStep
      let r := (d.ctxNames c).foldl (fun (acc : Bool × Device) t =>
        let s := acc.2.saveTile c p t yielded
        (acc.1 && s.1, s.2.modTile t Tile.vacate)) (true, d)
      let d := r.2.modCtx c (fun x => { x with saving := false, st := .saved, waitSince := d.devTime })
      (if r.1 then d else d.askTeardown c .saveFailed).schedule
    else d

def execContextSaveDone (c : CtxNo) (s : State) : Host.Outcome State Fault Refusal := onLive (fun d => d.saveDone c) s

/-- CONTEXT_RESTORE_DONE (R353). An uncorrectable line of the save area tears the context down (log 25). -/
def Device.restoreDone (d : Device) (c : CtxNo) : Device :=
  let x := d.ctxs[c]
  match x.part with
  | none => d
  | some p =>
    if x.restoring && (x.st = .ready || x.st = .saved) then
      let r := x.saved.foldl (fun (acc : Bool × Device) s =>
        let q := acc.2.restoreTile c p s
        (acc.1 && q.1, q.2)) (true, d)
      if r.1 then r.2.nowRunning c else (r.2.modCtx c (fun x => { x with restoring := false })).askTeardown c .saveFailed
    else d

def execContextRestoreDone (c : CtxNo) (s : State) : Host.Outcome State Fault Refusal := onLive (fun d => d.restoreDone c) s

/-! ### Exit (R183) -/

/-- Whether a watch is one of a context of this chip: those of the reliability block are none's. -/
def Device.watchOf (d : Device) (c : CtxNo) (w : Watch) : Bool :=
  w.ctx = c && w.chip = d.chipId && (match w.holder with
    | .repair _ => false
    | _ => true)

/-- Slots of a clasp unit that a context holds. -/
def Device.slotsHeld (d : Device) (c : CtxNo) (t : TileNo) : Nat :=
  ((d.tiles[t]).watches.toList.filter (fun o => match o with
    | some w => d.watchOf c w
    | none => false)).length

/-- Mask of the clasps of a tile that differ from the words recorded at context start. -/
def Device.dirtyMask (d : Device) (x : Context) (t : TileNo) : Nat :=
  match alGet x.recorded t with
  | none => 0
  | some ws => (ws.zipIdx.map (fun q => if d.claspWord t q.2 = q.1 then 0 else 2 ^ q.2)).foldl (· + ·) 0

/-- What ends with a context, whatever its end: sentinel entries, windows and pools. -/
def Device.closeCtx (d : Device) (p : PartNo) (c : CtxNo) : Device :=
  let d := (((d.dropReports c).dropReserved p c).closeWindows p c false).closePools p c
  let d := d.modPart p (fun q => if q.ckpt.ctx = c then { q with ckpt := Ckpt.reset } else q)
  { d with sentinel := d.sentinel.filter (fun e => e.part ≠ p || e.ctx ≠ c) }

/-- A context without an image, bound to its partition: priority and save area stay (R361). -/
def Context.emptied (x : Context) : Context :=
  { Context.reset with part := x.part, st := .bound, prio := x.prioSet, prioSet := x.prioSet, saveBase := x.saveBase }

/-- CONTEXT_EXIT (R183): a running context with no step and no release left ends. Clasps left otherwise than found and slots
still held are logged; it is left BOUND (log 26). -/
def Device.contextExit (d : Device) (c : CtxNo) : Device :=
  let x := d.ctxs[c]
  match x.part with
  | none => d
  | some p =>
    if x.st = .running && !x.inStep && x.releases.isEmpty && !x.saving && d.enginesQuiet c then
      let found := (List.finRange 512).map (fun t => (t, d.dirtyMask x t, d.slotsHeld c t))
      let d := d.dropWatches (d.watchOf c)
      let d := found.foldl (fun d (f : TileNo × Nat × Nat) =>
        if f.2.1 ≠ 0 ∨ f.2.2 ≠ 0 then
          d.report 0x0201 (some p) (some c.val) f.1 (pay4 f.1 (f.2.1 % 2 ^ 32) (f.2.1 / 2 ^ 32) f.2.2)
        else d) d
      let d := (d.ctxTiles c).foldl (fun d t => d.modTile t Tile.vacate) d
      ((d.closeCtx p c).modCtx c Context.emptied).schedule
    else d

def execContextExit (c : CtxNo) (s : State) : Host.Outcome State Fault Refusal := onLive (fun d => d.contextExit c) s

end Sys2Proof.Machine
end

