-- ==== Sys2Proof/Machine/Teardown.lean ====
section
/-! DEFINITION. Teardown of a context (R361, R184, R209, R455), partition reset (R363), function-level resets of a VF and of
PF0 (R364). -/

namespace Sys2Proof.Machine

/-- Cause codes carried by CTX_TORN_DOWN (log 14: the manual names the causes and gives no codes). -/
def Cause.code : Cause → Nat
  | .tileFault c => c.toNat
  | .gather n => 0x20 + n.toNat
  | .drainExpired => 0x30
  | .saveFailed => 0x31
  | .command => 0x32
  | .journalFull => 0x33
  | .replayDiverged => 0x34
  | .replayExhausted => 0x35
  | .auditUnresolved => 0x36
  | .fittingFailed => 0x37
  | .partitionReset => 0x38
  | .flr => 0x39

def SlotSt.code : SlotSt → Nat
  | .free => 0
  | .waiting => 1
  | .ready => 2
  | .running => 3
  | .paused => 4
  | .forwarded => 5
  | .stopping => 6

/-- MOVER_SLOTn (Table 8.8). -/
def Slot.word (s : Slot) : W64 :=
  BitVec.ofNat 64 (s.st.code + s.prio.val <<< 3 + s.exec.val <<< 6 + s.mover.val <<< 8 + s.rslot.val <<< 12
    + (s.status % 8) <<< 18 + s.pslot.val <<< 21 + s.late.val <<< 27 + s.doneBytes.toNat <<< 32)

/-! ### Context dumps (R455) -/

/-- What a dump keeps of a tile (R115, R455). -/
def Device.dumpTile (d : Device) (t : TileNo) : DumpTile :=
  let x := d.tiles[t]
  { tile := t, regs := x.record_, fault := x.faultInfo, clasps := (List.range 48).map (fun n => d.claspWord t n),
    watches := x.watches.toList, locks := x.claspLocks, queued := x.queues.toList,
    slots := (List.range 8).map (fun k => (x.mover.slot k).word.toNat) }

/-- Bytes of a dump in the ring: 4 KiB per tile, and 4 KiB for its head (log 14). -/
def Dump.size (u : Dump) : Nat := 4096 * (u.tiles.length + 1)

/-- Make room in the 4 GiB ring: the oldest leave; an unread one is counted. -/
def dropDumps (room : Nat) : Nat → List Dump → W64 → List Dump × W64
  | 0, l, n => (l, n)
  | _ + 1, [], n => ([], n)
  | k + 1, x :: rest, n =>
    if ((x :: rest).map Dump.size).foldl (· + ·) 0 + room ≤ 2 ^ 32 then (x :: rest, n)
    else dropDumps room k rest (if x.unread then n + 1 else n)

/-- A context dump is written before anything is cleared. -/
def Device.writeDump (d : Device) (p : PartNo) (c : CtxNo) : Device :=
  let rings := ((List.finRange 16).filter (fun g => (d.gather[g]).ring.st ≠ 0 && (d.gather[g]).ring.ctx = c)).map
      (fun g => (d.gather[g]).ring.next) ++
    (if (d.parts[p]).collRing.st ≠ 0 && (d.parts[p]).collRing.ctx = c then [(d.parts[p]).collRing.next] else [])
  let u : Dump := { ctx := c, part := p, unread := true, tiles := (d.ctxTiles c).map d.dumpTile, rings := rings }
  let r := dropDumps u.size d.dumps.length d.dumps d.dumpLost
  { d with dumps := r.1 ++ [u], dumpLost := r.2 }

/-! ### Stopping a context's work -/

/-- Every mover of the part (Table 8.1). -/
def allMovers : List MoverId :=
  (List.finRange 512).map MoverId.tile ++ (List.finRange 16).map MoverId.bulk ++ (List.finRange 8).map MoverId.hl

/-- Slots whose descriptor a test picks. -/
def Device.slotsWith (d : Device) (f : Desc → Bool) : List (MoverId × Nat) :=
  allMovers.flatMap (fun m => ((d.mover m).slots.zipIdx.filter (fun (q : Slot × Nat) => (q.1.desc.map f).getD false)).map (fun q => (m, q.2)))

/-- A channel is stopped as MV.CANCEL would (R208, R209); for a proxy, at its executing mover. -/
def Device.stopChannel (d : Device) (m : MoverId) (k : Nat) : Device :=
  match m, (d.slot m k).st with
  | .tile t, .forwarded => if d.reports.any (fun r => r.1 = t && r.2.1.val = k) then d else d.cancelProxy t (fin k)
  | _, _ => d.cancelSlot m k

/-- Channels that a test picks are stopped (R209). -/
def Device.stopChannels (d : Device) (f : Desc → Bool) : Device :=
  (d.slotsWith f).foldl (fun d q => d.stopChannel q.1 q.2) d

/-- Channels that stop no longer wait for replies: each returns its pool slot (R217) and ends. -/
def Device.endStopped (d : Device) (f : Desc → Bool) : Device :=
  let d := (d.slotsWith f).foldl (fun d q =>
    if (d.slot q.1 q.2).st = .stopping then
      let d := d.modSlot q.1 q.2 (fun s => { s with awaits := 0, reads := [], tag := none })
      match (d.slot q.1 q.2).desc with
      | some x => (d.returnSlot q.1 q.2 x).endChannel q.1 q.2 (d.slot q.1 q.2).status
      | none => d
    else d) d
  d.reports.foldl (fun d r =>
    if ((d.slot (.tile r.1) r.2.1).desc.map f).getD false then
      { d with reports := d.reports.erase r }.endAtTile r.1 r.2.1 r.2.2
    else d) d

/-- Whether a request of a context is still unanswered: of a tile's engines, or of a channel that stops. -/
def Device.unanswered (d : Device) (c : CtxNo) : Bool :=
  (d.ctxTiles c).any (fun t => (d.tiles[t]).flight.toList.any (fun l => l.any (fun f => f.tag.isSome))) ||
    (d.slotsWith (fun x => x.ctx = c)).any (fun q =>
      let s := d.slot q.1 q.2
      s.awaits ≠ 0 || !s.reads.isEmpty || s.tag.isSome)

/-- What a teardown stops at once (R115, R209, R239, R339): its tiles' engines, its channels, the running jobs of its rings
before phase B, the collective of its ring; slots it registered are freed without notifying (R184 step 1; a ring keeps its
watch, R221). -/
def Device.stopContext (d : Device) (p : PartNo) (c : CtxNo) : Device :=
  let d := (d.ctxTiles c).foldl (fun d t => d.modTile t (fun x => { x with mode := .faulted })) d
  let d := d.dropWatches (fun w => w.ctx = c && w.chip = d.chipId && (match w.holder with
    | .gather _ | .coll _ | .repair _ => false
    | _ => true))
  let d := d.stopChannels (fun x => x.ctx = c)
  let d := (List.finRange 16).foldl (fun d g =>
    let q := d.gather[g]
    if q.ring.st ≠ 0 && q.ring.ctx = c then
      let d := d.modGather g (fun q => { q with stash := none })
      match q.job with
      | some j => if j.done || j.phaseA then d else d.stopJob g (.status gsCancelled)
      | none => d
    else d) d
  if (d.parts[p]).collRing.ctx = c then d.collAbort p clCancelled d.chipId.toNat 15 else d

/-- Step 3 of R184 for one clasp: a lock that the context holds is poisoned, and its slots fire with LOCK_ABANDONED. -/
def Device.abandonClasp (d : Device) (c : CtxNo) (t : TileNo) (n : ClaspNo) : Device :=
  let w := d.claspWord t n
  if bitOf (d.tiles[t]).claspLocks n && clOwner w = c.val then
    (d.putClasp t n { word := setFld (setBit w 63 true) 48 8 0, held := false, wrote := true }).fireWatches t n true
  else d

/-- The scan of R184 over the tiles bound to a partition. -/
def Device.scanLocks (d : Device) (p : PartNo) (c : CtxNo) : Device :=
  ((List.finRange 512).filter (fun t => (d.tiles[t]).bound = some p && (d.tiles[t]).claspLocks ≠ 0)).foldl (fun d t =>
    (List.finRange 48).foldl (fun d n => d.abandonClasp c t n) d) d

/-- Pending releases and releases that run complete with CTX_TORN_DOWN (R422). -/
def Device.endReleases (d : Device) (c : CtxNo) : Device :=
  (List.finRange 16).foldl (fun d p => (List.finRange 64).foldl (fun d q =>
    (d.parts[p]).queues[q].started.foldl (fun d s =>
      match s with
      | .steps cid k _ =>
        if k = c then
          (d.modQueue p q (fun u => { u with started := u.started.erase s })).postCq p q
            { cid := cid, status := St.ctxTornDown.code, detail := 0 }
        else d
      | .channel _ _ => d) d) d) d

/-- The tiles of a context that no other admitted context of its partition uses (R168). -/
def Device.lastUsed (d : Device) (p : PartNo) (c : CtxNo) : List TileNo :=
  let rest := ((d.partCtxs p).filter (fun a => a ≠ c && (d.ctxs[a]).st.admitted_)).flatMap (fun a => d.ctxNames a)
  (d.ctxNames c).filter (fun t => t ∉ rest)

/-- Every open window of a partition that names one of some tiles passes to closing (R168). -/
def Device.closeNaming (d : Device) (p : PartNo) (ts : List TileNo) : Device :=
  d.modPart p (fun q => { q with windows := q.windows.map (fun (w : Window) =>
    if w.st = 1 && ts.any (fun t => t.val = w.tile) then { w with st := 2 } else w) })

/-- Whether every window of a partition that names one of some tiles is closed. -/
def Device.namingClosed (d : Device) (p : PartNo) (ts : List TileNo) : Bool :=
  (d.parts[p]).windows.toList.all (fun w => w.st = 0 || !ts.any (fun t => t.val = w.tile))

/-- CONTEXT_TEARDOWN (R361): the context's work is stopped and the windows naming tiles it is the last to use close; once every request
is answered, or 2 ms have passed, and those windows are closed (R168), its dump is written, its locks are abandoned, and it is left
BOUND. -/
def Device.contextTeardown (d : Device) (c : CtxNo) : Device :=
  let x := d.ctxs[c]
  match x.part, x.st with
  | some p, .tearing =>
    let ts := d.lastUsed p c
    let d := (d.stopContext p c).closeNaming p ts
    if (d.unanswered c && decide (d.since x.waitSince < 2000000)) || !d.namingClosed p ts then d
    else
      let d := (d.writeDump p c).endStopped (fun y => y.ctx = c)
      let d := d.scanLocks p c
      let d := (d.ctxTiles c).foldl (fun d t => d.modTile t Tile.tornDown) d
      let d := (d.closeCtx p c).endReleases c
      let d := d.modCtx c Context.emptied
      (d.report 0x0304 (some p) (some c.val) 0 (BitVec.ofNat 128 ((x.teardownCause.map Cause.code).getD 0))).schedule
  | _, _ => d

def execContextTeardown (c : CtxNo) (s : State) : Host.Outcome State Fault Refusal := onLive (fun d => d.contextTeardown c) s

/-! ### Partition reset (R363, R364) -/

/-- Causes of a partition reset (log 14). -/
inductive RCause where
  | tmemFail | portLost | collResidue | command | flr | staging
deriving DecidableEq, Repr

def RCause.code : RCause → Nat
  | .tmemFail => 1
  | .portLost => 2
  | .collResidue => 3
  | .command => 4
  | .flr => 5
  | .staging => 6

/-- A descriptor on its way to a mover, or waiting there for a slot, is cancelled: its proxy or its host command learns it. -/
def Device.cancelDesc (d : Device) (x : Desc) : Device :=
  match x.origin with
  | .tile t n => { d with reports := d.reports ++ [(t, n, 4)] }
  | .host p q cid => d.endAtHost p q cid 4 0
  | .collar => d

/-- A bulk mover reset (R209, R363): its channels stop as cancelled ones do, and return their pool slots (R217); what waits for a slot or
is on its way to it is cancelled. -/
def Device.resetBulk (d : Device) (n : BulkNo) : Device :=
  let m := MoverId.bulk n
  let late := (d.forwards.filter (fun f => f.1 = m)).map (·.2) ++ (d.mover m).arrivals
  let d := { d with forwards := d.forwards.filter (fun f => f.1 ≠ m) }.modMover m (fun q => { q with arrivals := [] })
  let d := late.foldl Device.cancelDesc d
  (List.range 16).foldl (fun d k => d.cancelSlot m k) d

/-- A gather engine reset: its ring closed, no job, nothing staged; no tail ADD (R239). -/
def Device.resetGather (d : Device) (g : GatherNo) : Device :=
  (d.dropWatches (fun w => w.holder = .gather g)).modGather g (fun q =>
    { q with ring := { q.ring with st := 0, ready := false }, job := none, stash := none })

/-- The collective ring closed and the sequencer reset (R363). -/
def Device.resetColl (d : Device) (p : PartNo) : Device :=
  (d.dropWatches (fun w => w.holder = .coll p)).modPart p (fun q =>
    { q with coll := none, collEarly := [], collPrev := none, collCut := false, collRing := { q.collRing with st := 0, ready := false } })

/-- A partition reset: every context is torn down, a running collective is cancelled (R339), rings close, engines are reset,
PART_RESET is posted; bindings, memory, tables, layouts, port records and dictionary settings stay. -/
def Device.resetPartition (d : Device) (p : PartNo) (cause : RCause) : Device :=
  let d := (d.partCtxs p).foldl (fun d c => d.askTeardown c (if cause = .flr then .flr else .partitionReset)) d
  let d := (List.finRange 16).foldl (fun d g => if (d.gather[g]).bound = some p then d.resetGather g else d) d
  let d := (List.finRange 16).foldl (fun d n => if (d.bulkBound[n]).any (fun b => b.1 = p) then d.resetBulk n else d) d
  let d := ((d.rowCacheDrop p).collAbort p clCancelled d.chipId.toNat 15).resetColl p
  d.report 0x0305 (some p) none 0 (BitVec.ofNat 128 cause.code)

/-- A function's mailbox session ends with what it staged (R427), and its mailbox control is clear. -/
def Device.dropMailbox (d : Device) (f : Fn) : Device :=
  let ses := match f with
    | .pf0 => SessId.pf0
    | .vf p => SessId.vf p
  { d with sessions := alErase d.sessions ses, mbx := alErase d.mbx f }

/-- The commands submitted to a queue and not started are read from the ring and complete with FLR (R364). -/
def Device.flrSubmitted (d : Device) (p : PartNo) (n : QueueNo) : Nat → Device
  | 0 => d
  | k + 1 =>
    let q := (d.parts[p]).queues[n]
    if q.st ≠ 1 ∨ q.head = q.tail ∨ !(d.parts[p]).busMaster then d
    else
      let cid : W16 := BitVec.ofNat 16 (leNat (d.hostMem.read (q.sqBase.toNat + 64 * q.head + 2) 2))
      let d := d.modQueue p n (fun q => { q with head := (q.head + 1) % 2 ^ q.log2 })
      Device.flrSubmitted (d.postCq p n { cid := cid, status := St.flr.code, detail := 0 }) p n k

/-- VF_FLR (R364): a partition reset, and the VF's host-facing state: outstanding commands complete with FLR first. -/
def Device.vfFlr (d : Device) (p : PartNo) : Device :=
  let d := (List.finRange 64).foldl (fun d q =>
    (d.parts[p]).queues[q].started.foldl (fun d s =>
      let cid := match s with
        | .steps cid _ _ => cid
        | .channel cid _ => cid
      d.postCq p q { cid := cid, status := St.flr.code, detail := 0 }) d) d
  let d := (List.finRange 64).foldl (fun d q => d.flrSubmitted p q (2 ^ ((d.parts[p]).queues[q]).log2)) d
  let d := d.modPart p (fun q => { q with queues := Vector.replicate 64 Queue.reset })
  let d := d.stopChannels (fun x => match x.origin with
    | .host a _ _ => a = p
    | _ => false)
  let d := d.resetPartition p .flr
  ((d.modPart p (fun q =>
    { q with queues := Vector.replicate 64 Queue.reset, msix := Vector.replicate 124 Msix.reset, busMaster := false, barRead := none,
             barPoison := false })).dropMailbox (.vf p))

def execVfFlr (p : PartNo) (s : State) : Host.Outcome State Fault Refusal :=
  onDev (fun d => if d.rst.held then d else d.vfFlr p) s

/-- PF0_FLR (R364): PF0's event queue, its mailbox session with what it staged, and its vectors. -/
def Device.pf0Flr (d : Device) : Device :=
  { d with devEvq := Evq.reset, devMsix := Vector.replicate 64 Msix.reset }.dropMailbox .pf0

def execPf0Flr (s : State) : Host.Outcome State Fault Refusal := onDev (fun d => if d.rst.held then d else d.pf0Flr) s

/-! ### Closing windows (R168) -/

/-- WINDOW_CLOSED: a closing window with no admitted access left is closed. -/
def Device.windowClosed (d : Device) (p : PartNo) (w : WinNo) : Device :=
  d.modWindow p w (fun x => if x.st = 2 ∧ x.admitted = 0 then { x with st := 0 } else x)

def execWindowClosed (p : PartNo) (w : WinNo) (s : State) : Host.Outcome State Fault Refusal :=
  onLive (fun d => d.windowClosed p w) s

end Sys2Proof.Machine
end

