-- ==== Sys2Proof/Machine/Binding.lean ====
section
/-! DEFINITION. Binding of resources to partitions (R343 to R351) and the context record (R355, R358). A commit's apply
function takes the combined record as `g`, sub-index to value, and answers the status of the commit. -/

namespace Sys2Proof.Machine

/-- Number of resources of a kind on the device (Table 15.1). -/
def kindCount (kind : Nat) : Nat :=
  match kind with
  | 0 => 256 | 1 => 512 | 2 => 354760 | 3 => 4096 | 4 => 16 | 5 => 16 | 6 => 64 | 7 => 32 | _ => 32

/-- The partition that holds resource n of a kind other than pages and granules. -/
def Device.holderOf (d : Device) (kind n : Nat) : Option PartNo :=
  match kind with
  | 0 => (d.ctxs[(fin n : CtxNo)]).part
  | 1 => (d.tiles[(fin n : TileNo)]).bound
  | 4 => (d.gather[(fin n : GatherNo)]).bound
  | 5 => (d.bulkBound[(fin n : BulkNo)]).map (·.1)
  | 6 =>
    -- a spare that carries traffic counts against the partition that holds the port (R309)
    let x := d.lanes[(fin n : LaneNo)]
    if x.st = 2 && x.subst.isSome then d.portPart x.port else x.bound
  | 7 => d.sentinelSets[(fin n : Fin 32)]
  | 8 => d.csetBound[(fin n : Fin 32)]
  | _ => none

/-- Whether a resource is bound with RESERVE (R360). -/
def Device.isReserved (d : Device) (kind n : Nat) : Bool :=
  match kind with
  | 1 => (d.tiles[(fin n : TileNo)]).reserved
  | 5 => ((d.bulkBound[(fin n : BulkNo)]).map (·.2)).getD false
  | _ => false

/-- The contexts that use a request's resources (R347). -/
def Device.bindUsers (d : Device) (b : BindReq) : List CtxNo :=
  if b.kind = 2 ∨ b.kind = 3 then []
  else (List.finRange 256).filter (fun c => (d.ctxs[c]).st.admitted_ && (d.ctxs[c]).st ≠ .tearing &&
    b.items.any (fun n => d.holderOf b.kind n = (d.ctxs[c]).part && d.ctxNeeds c b.kind n))

/-! ### Judging a request (R345, R346) -/

/-- Table 15.2 ranges. -/
def bindFieldsOk (b : BindReq) : Bool :=
  b.kind ≤ 8 && 1 ≤ b.count && b.count ≤ kindCount b.kind &&
    (if b.kind = 2 then b.addr < 2 ^ 19 else if b.kind = 3 then b.first ≤ 3 && b.addr < 4096
     else b.first + b.count ≤ kindCount b.kind) &&
    b.action ≤ 2 && b.flags ≤ 3 && (b.flags % 2 = 0 || b.kind = 1 || b.kind = 5) && 100 ≤ b.drainUs && b.drainUs ≤ 60000000

/-- Free physical pages (R345): allocatable, not bound, not retired, not part of a page copy. -/
def Device.freePages (d : Device) : List Nat :=
  (List.range installedPages).filter (fun g => (d.hbmStacks[pageStack g]).st ≠ 2 && d.pageKind g = .allocatable &&
    d.pages.all (fun b => b.phys ≠ g) && g ∉ d.retiredPages && d.remaps.all (fun r => r.old ≠ g && r.new ≠ g))

/-- Free granules of a port that is enabled and up (R243). -/
def Device.freeGranules (d : Device) (port : TmemNo) : List Nat :=
  if (d.tmem[port]).enabled then
    ((List.range (d.tmem[port]).gib).map (· + 1024 * port.val)).filter (fun g => d.granules.all (fun b => b.phys ≠ g))
  else []

/-- Whether a partition holds one of its pages or granules pno, or all of a range. -/
def heldAt (l : List Bound) (p : PartNo) (k : Nat) : Bool := l.any (fun b => b.part = p && b.pno = k)

/-- Whether a range of bytes of a space meets a MEMORY range or save area of an admitted context (R346). -/
def Device.memInUse (d : Device) (p : PartNo) (kind lo hi : Nat) : Bool :=
  (d.partCtxs p).any (fun c =>
    match (d.ctxs[c]).image with
    | none => false
    | some i =>
      let rs := (i.mem.filter (fun m => m.1 = kind)).map (fun m => (m.2.1, m.2.2)) ++
        (if kind = 2 then [((d.ctxs[c]).saveBase, saveSize * i.tileList.length)] else [])
      rs.any (fun r => r.2 ≠ 0 && decide (r.1 < hi) && decide (lo < r.1 + r.2)))

/-- Pages and granules: requests of kinds 2 and 3. Action 2 has no field for the owner's addresses (log 32). -/
def Device.judgeMem (d : Device) (p : PartNo) (b : BindReq) : Option St :=
  let top := if b.kind = 2 then 2 ^ 19 else 4096
  let size := if b.kind = 2 then pageSize else 2 ^ 30
  let l := if b.kind = 2 then d.pages else d.granules
  let span := (List.range b.count).map (· + b.addr)
  if b.action = 2 ∨ b.addr + b.count > top then some .bindInvalid
  else if b.action = 1 then
    if span.any (heldAt l p) then some .bindInvalid
    else if b.count > (if b.kind = 2 then d.freePages else d.freeGranules (fin b.first)).length then some .bindNoSpace
    else none
  else if !span.all (heldAt l p) then some .bindInvalid
  else if d.memInUse p b.kind (b.addr * size) ((b.addr + b.count) * size) then some .bindInUse
  else none

/-- Whether resources that may not be taken while in use are in use (R346). -/
def Device.bindInUse (d : Device) (b : BindReq) : Bool :=
  match b.kind with
  | 0 => b.items.any (fun n => (d.ctxs[(fin n : CtxNo)]).st ≠ .bound)
  | 6 => (List.finRange 8).any (fun q => (d.ports[q]).enabled && b.items.any (fun n => q ∈ d.portsOfLane n) &&
      decide (((d.portLanes q).filter (fun n => n.val ∉ b.items &&
        d.lanes.toList.zipIdx.all (fun (x : Lane × Nat) => x.1.subst ≠ some n || x.2 ∉ b.items))).length < d.cfg 0x3100 6 q))
  | 7 => b.items.any (fun n => d.sentinel.any (fun e => e.set.val = n))
  | _ => false

/-- Why a request is refused, if it is. -/
def Device.judgeBind (d : Device) (p : PartNo) (b : BindReq) : Option St :=
  if b.kind = 2 ∨ b.kind = 3 then d.judgeMem p b
  else
    let olds := b.items.map (d.holderOf b.kind)
    if b.action = 1 then
      (if olds.any (·.isSome) ||
          (b.kind = 1 && b.items.any (fun n => !d.mapped (fin n) && (d.patchFree (panelOf (fin n))).isEmpty)) then some .bindNotFree else none)
    else if b.action = 0 ∧ olds.any (fun o => o ≠ some p) then some .bindInvalid
    else if b.action = 2 ∧ olds.any (fun o => o = none || o = some p) then some .bindInvalid
    else if b.flags / 2 % 2 = 0 ∧ b.items.any (d.isReserved b.kind) then some .bindReserved
    else if d.bindInUse b then some .bindInUse
    else none

/-! ### Entries of the binding table -/

/-- The entry of one resource names a partition, or none. -/
def Device.setBound (d : Device) (kind n : Nat) (p : Option PartNo) (reserve : Bool) : Device :=
  match kind with
  | 0 => d.modCtx (fin n) (fun _ => match p with
      | some _ => { Context.reset with part := p, st := .bound }
      | none => Context.reset)
  | 1 =>
    (if p.isSome then d.mapTile (fin n) else d.freeClock (fin n)).modTile (fin n) (fun (x : Tile) =>
      { x with bound := p, reserved := reserve && p.isSome, cntBusy := 0, cntStall := 0, cntArray := 0, cntResidue := 0,
               cntCorrected := 0 })
  | 4 => d.modGather (fin n) (fun q => { q with bound := p })
  | 5 => { d with bulkBound := d.bulkBound.set (fin n : BulkNo) (p.map (fun a => (a, reserve))) }
  | 6 => d.modLane (fin n) (fun x => { x with bound := p, cntRetries := 0, cntFec := 0 })
  | 7 => { d with sentinelSets := d.sentinelSets.set (fin n : Fin 32) p }
  | 8 => { d with csetBound := d.csetBound.set (fin n : Fin 32) p,
                  csets := d.csets.set (fin n : Fin 32) (Vector.replicate 8 { ctl := 0x3FF000, cnt := 0 }) }
  | _ => d

/-- One page or granule bound: the collar chooses among the free ones (R345, log 12). -/
def Device.bindMemOne (d : Device) (p : PartNo) (kind first pno : Nat) : Device :=
  let l := if kind = 2 then d.freePages else d.freeGranules (fin first)
  match l[Config.pageChoice d.freeCount % max 1 l.length]? with
  | none => d
  | some g =>
    let b : Bound := { phys := g, part := p, pno := pno }
    let d := { d with freeCount := d.freeCount + 1 }
    if kind = 2 then { d with pages := d.pages ++ [b] } else { d with granules := d.granules ++ [b] }

/-- Every resource of a request bound to a partition. -/
def Device.bindItems (d : Device) (p : PartNo) (b : BindReq) : Device :=
  if b.kind = 2 ∨ b.kind = 3 then
    ((List.range b.count).foldl (fun d i => d.bindMemOne p b.kind b.first (b.addr + i)) d).translationChanged p
  else b.items.foldl (fun d n => d.setBound b.kind n (some p) (b.flags % 2 = 1)) d

/-! ### The rebinding sequence (R348) -/

/-- Whether every resource a suspended context names is bound to its partition again (R351). -/
def Device.namesBound (d : Device) (c : CtxNo) : Bool :=
  match (d.ctxs[c]).image, (d.ctxs[c]).part with
  | some i, some p =>
    i.tiles.all (fun x => (d.tiles[x.tile]).bound = some p) &&
      (List.finRange 16).all (fun g => !bitOf i.gatherMask g || (d.gather[g]).bound = some p) &&
      (List.finRange 16).all (fun n => !bitOf i.bulkMask n || (d.bulkBound[n]).map (·.1) = some p) &&
      (List.finRange 8).all (fun q => !d.sliceUses p q || (d.portLanes q).all (fun n => (d.lanes[n]).bound = some p))
  | _, _ => false

/-- SUSPENDED contexts whose resources are all back become SAVED. -/
def Device.unsuspend (d : Device) : Device :=
  (List.finRange 256).foldl (fun d c =>
    if (d.ctxs[c]).st = .suspended && d.namesBound c then d.modCtx c (fun x => { x with st := .saved, waitSince := d.devTime }) else d) d

def Device.modBind (d : Device) (p : PartNo) (f : BindReq → BindReq) : Device :=
  d.modPart p (fun q => { q with bind := f q.bind })

/-- The request at the front has ended: its state and code; BIND_DONE to each partition concerned; a scheduling point. -/
def Device.bindEnd (d : Device) (p : PartNo) (err : Option St) : Device :=
  let b := (d.parts[p]).bind
  let d := { d with bindQueue := d.bindQueue.drop 1 }.modBind p (fun b =>
    { b with st := if err.isSome then 4 else 3, result := (err.map St.code).getD 0, users := [], begun := false, moved := [], olds := [] })
  match err with
  | some _ => d
  | none =>
    let ps := ((p :: b.owners)).eraseDups
    (ps.foldl (fun d q => d.report 0x0303 (some q) none 0 (pay4 b.kind b.first b.count b.action)) d).unsuspend.schedule

/-- A restore that has not ended is given up; what the context holds stays in its save area. -/
def Device.dropRestore (d : Device) (c : CtxNo) : Device :=
  if (d.ctxs[c]).restoring then
    ((d.ctxTiles c).foldl (fun d t => d.modTile t Tile.vacate) d).modCtx c (fun x => { x with restoring := false })
  else d

/-- A request that releases or takes begins: no user starts or is restored from now on, a running one is saved at its next boundary. -/
def Device.bindBegin (d : Device) (p : PartNo) : Device :=
  let b := (d.parts[p]).bind
  let us := d.bindUsers b
  let owners := (b.items.filterMap (d.holderOf b.kind)).eraseDups
  let d := d.modBind p (fun b => { b with begun := true, users := us, owners := if b.kind = 2 ∨ b.kind = 3 then [p] else owners })
  let d := us.foldl (fun d c => d.dropRestore c) d
  let d := us.foldl (fun d c => d.modCtx c (fun x => { x with marked := if x.st = .running && !x.saving then true else x.marked })) d
  us.foldl (fun d c => d.runIdle c) d

/-- Whether an admission holds the binding table of a partition that a request concerns: the one that asks, or one that holds what it
names (R274, R346). -/
def Device.tableHeld (d : Device) (p : PartNo) (b : BindReq) : Bool :=
  (p :: (b.owners ++ b.items.filterMap (d.holderOf b.kind))).any (fun q => (d.parts[q]).adm.st = 1 || (d.parts[q]).adm.st = 2)

/-- The collar takes up requests in commit order, one at a time; one that concerns a partition whose admission checks or loads waits
(R274, R346). -/
def Device.bindPumpN : Nat → Device → Device
  | 0, d => d
  | n + 1, d =>
    match d.bindQueue with
    | [] => d
    | p :: _ =>
      let q := d.parts[p]
      if !d.up 3 || q.bind.begun || d.tableHeld p q.bind then d
      else
        match d.judgeBind p q.bind with
        | some e => Device.bindPumpN n (d.bindEnd p (some e))
        | none =>
          if q.bind.action = 1 then Device.bindPumpN n ((d.bindItems p q.bind).bindEnd p none)
          else d.bindBegin p

def Device.bindPump (d : Device) : Device := d.bindPumpN (d.bindQueue.length + 1)

/-- Commit of a binding record (R345, R346). -/
def Device.applyBind (d : Device) (g : Nat → Nat) (p : PartNo) : St × Device :=
  let b := (d.parts[p]).bind
  if b.st = 1 ∨ b.st = 2 then (.bindBusy, d)
  else
    let n : BindReq := { BindReq.reset with kind := g 1, first := g 2, count := g 3, addr := g 4, action := g 5, flags := g 6, drainUs := g 7 }
    if !bindFieldsOk n then (.bindInvalid, d.modBind p (fun b => { b with st := 4, result := St.bindInvalid.code }))
    else
      let d := d.modBind p (fun _ => { n with st := 1, startedAt := d.devTime })
      (.ok, { d with bindQueue := d.bindQueue ++ [p] }.bindPump)

/-- Whether a partition's collective uses the port of a lane being moved (R341). -/
def Device.laneCollectiveOf (d : Device) (b : BindReq) (p : PartNo) : Bool :=
  b.kind = 6 && b.items.any (fun n => (d.portsOfLane n).any (fun q => d.collUses p q))

def Device.laneCollective (d : Device) (b : BindReq) : Bool := b.owners.any (d.laneCollectiveOf b)

/-- Each user that is drained is saved, unless it is already, and is SUSPENDED; the pockets an ADMITTED one was loaded into are saved
the same way (R348, R350). -/
def Device.suspendUser (d : Device) (c : CtxNo) : Device :=
  let x := d.ctxs[c]
  match x.part with
  | none => d
  | some p =>
    if x.st = .admitted || x.st = .ready || x.st = .saved then
      let ts := (d.ctxNames c).filter (fun t => x.saved.all (fun (s : SavedTile) => s.tile ≠ t))
      let r := ts.foldl (fun (acc : Bool × Device) t =>
        let s := acc.2.saveTile c p t false
        (acc.1 && s.1, s.2)) (true, d)
      let d := r.2.modCtx c (fun x => { x with st := .suspended, restoring := false, stepNo := if x.st = .admitted then x.resumeStep else x.stepNo })
      if r.1 then d else d.askTeardown c .saveFailed
    else d

/-- What ends with the old owner: the entries name no partition, windows naming a tile close, channels stop, rings close. -/
def Device.unbindItem (d : Device) (kind n : Nat) : Device :=
  let d := match kind with
    | 1 =>
      let t : TileNo := fin n
      let d := match (d.tiles[t]).bound with
        | some o => d.modPart o (fun q => { q with windows := q.windows.map (fun (w : Window) =>
            if w.tile = n && w.st = 1 then { w with st := 2 } else w) })
        | none => d
      (List.range 8).foldl (fun (d : Device) k => d.stopChannel (.tile t) k) d
    | 4 => d.resetGather (fin n)
    | 5 => (List.range 16).foldl (fun (d : Device) k => d.stopChannel (.bulk (fin n)) k) d
    | _ => d
  d.setBound kind n none false

/-- Pages and granules leave the partition. -/
def Device.unbindMem (d : Device) (p : PartNo) (b : BindReq) : Device :=
  let pick (x : Bound) : Bool := x.part = p && b.addr ≤ x.pno && x.pno < b.addr + b.count
  if b.kind = 2 then
    let gone := (d.pages.filter pick).map (·.phys)
    ({ d with pages := d.pages.filter (fun x => !pick x) }.modBind p (fun b => { b with moved := gone })).translationChanged p
  else
    let gone := (d.granules.filter pick).map (·.phys)
    ({ d with granules := d.granules.filter (fun x => !pick x) }.modBind p (fun b => { b with moved := gone })).translationChanged p

/-- The users of a request that drains: those at its commit, and those admitted since. -/
def Device.drainUsers (d : Device) (p : PartNo) : List CtxNo :=
  let b := (d.parts[p]).bind
  (b.users ++ d.bindUsers b).eraseDups

/-- REBIND_DRAIN_DONE: no user runs, no collective uses a lane being moved, and no admission holds the binding table (R274). -/
def Device.drainDone (d : Device) (p : PartNo) : Device :=
  let b := (d.parts[p]).bind
  let us := d.drainUsers p
  let ready := !d.tableHeld p b && us.all (fun c => (d.ctxs[c]).st ≠ .running && !(d.ctxs[c]).saving) && !d.laneCollective b &&
    (b.kind ≠ 1 || b.items.all (fun n => (d.tiles[(fin n : TileNo)]).ctx.isNone))
  if b.st = 1 && b.begun && ready then
    let d := us.foldl (fun d c => d.suspendUser c) d
    let olds := b.items.filterMap (fun n => (d.holderOf b.kind n).map (fun o => (n, o)))
    let d := if b.kind = 2 ∨ b.kind = 3 then d.unbindMem p b else b.items.foldl (fun d n => d.unbindItem b.kind n) d
    d.modBind p (fun b => { b with st := 2, olds := if b.kind = 1 then olds else [] })
  else d

def execRebindDrainDone (p : PartNo) (s : State) : Host.Outcome State Fault Refusal := onLive (fun d => if d.up 3 then d.drainDone p else d) s

/-- The collective of a ring whose context is being saved (R341). -/
def Device.saveCollective (d : Device) (c : CtxNo) : Option PartNo :=
  match (d.ctxs[c]).part with
  | some p => if (d.ctxs[c]).saving && (d.parts[p]).collRing.ctx = c && (d.parts[p]).coll.isSome then some p else none
  | none => none

/-- DRAIN_EXPIRED (R350, R341): users that have reached no boundary are torn down; a collective that uses the port of a lane being moved,
and one that a save waits for, is cancelled. -/
def Device.drainExpired (d : Device) (p : PartNo) : Device :=
  let b := (d.parts[p]).bind
  if b.st = 1 && b.begun && decide (d.since b.startedAt ≥ 1000 * b.drainUs) then
    let us := d.drainUsers p
    let late := us.filterMap d.saveCollective
    let d := us.foldl (fun d c => if (d.ctxs[c]).st = .running && !(d.ctxs[c]).saving then d.askTeardown c .drainExpired else d) d
    let d := late.foldl (fun d q => d.collAbort q clCancelled d.chipId.toNat 15) d
    (b.owners.filter (fun q => d.laneCollectiveOf b q)).foldl (fun d q => d.collAbort q clCancelled d.chipId.toNat 15) d
  else d

def execDrainExpired (p : PartNo) (s : State) : Host.Outcome State Fault Refusal := onLive (fun d => if d.up 3 then d.drainExpired p else d) s

/-- Windows naming a tile are closed, and its mover's or a bulk mover's channels have stopped. -/
def Device.itemQuiet (d : Device) (kind n : Nat) : Bool :=
  match kind with
  | 1 => d.parts.toList.all (fun (q : Partition) => q.windows.toList.all (fun w => w.st = 0 || w.tile ≠ n)) &&
      (d.tiles[(fin n : TileNo)]).mover.slots.all (fun s => s.st = .free)
  | 5 => (d.bulk[(fin n : BulkNo)]).slots.all (fun s => s.st = .free)
  | _ => true

/-- Every slot of a clasp unit fires with LOCK_ABANDONED, every registration that waits is accepted and answered so, and CLASP_LOCKS is
cleared (R186). `o` is the partition the tile leaves, whose slice carries what goes to other chips. -/
def Device.fireAllAbandoned (d : Device) (o : Option PartNo) (t : TileNo) : Device :=
  let x := d.tiles[t]
  let d := d.modTile t (fun x => { x with watches := Vector.replicate 32 none, watchWait := [], claspLocks := 0 })
  let d := (x.watches.toList.filterMap id).foldl (fun d w => d.notifyOf o t w true (d.claspWord t w.clasp)) d
  x.watchWait.foldl (fun d w =>
    (d.answerWatch o t w false (d.claspWord t w.clasp)).notifyOf o t w true (d.claspWord t w.clasp)) d

/-- Scrubbing (R348): a tile's pocket is zeroed, its accumulators cleared, its lining invalidated, its registers reset; a
sentinel or counter set is cleared with its entry. Notes still to be delivered stay. A tile on its way is held at level 0 of the
load ladder (R404). -/
def Device.scrubItem (d : Device) (olds : List (Nat × PartNo)) (kind n : Nat) : Device :=
  match kind with
  | 1 =>
    let t : TileNo := fin n
    ((d.fireAllAbandoned (alGet olds n) t).modTile t (fun x => { Tile.reset with notes := x.notes })).modPanel (panelOf t)
      (fun q => { q with wakes := q.wakes.filter (fun u => u ≠ t) })
  | 5 => d.modMover (.bulk (fin n)) (fun _ => Mover.reset 16)
  | _ => d

/-- Pages and granules on the way are zeroed with valid check symbols. -/
def Device.scrubMem (d : Device) (b : BindReq) : Device :=
  b.moved.foldl (fun d g =>
    if b.kind = 2 then
      let e := { d with hbm := d.hbm.clear (g * pageSize) pageSize, hbmBad := d.hbmBad.filter (fun e => e.1 / 32768 ≠ g),
                        dueRetire := d.dueRetire.filter (· ≠ g) }
      if g ∈ d.dueRetire then e.retirePage g else e
    else { d with tmemBytes := d.tmemBytes.clear (g * 2 ^ 30) (2 ^ 30), tmemPoison := d.tmemPoison.filter (fun l => l / 2 ^ 24 ≠ g) }) d

/-- REBIND_COMPLETE: the resources are scrubbed and named to the new partition, or to none; not while an admission holds the new
partition's binding table (R274). -/
def Device.rebindComplete (d : Device) (p : PartNo) : Device :=
  let b := (d.parts[p]).bind
  let mem := b.kind = 2 || b.kind = 3
  if b.st = 2 && !d.tableHeld p { b with owners := [] } && (mem || b.items.all (d.itemQuiet b.kind)) then
    let d := if mem then d.scrubMem b else b.items.foldl (fun d n => d.scrubItem b.olds b.kind n) d
    let d := if b.action = 2 then d.bindItems p b else d
    (d.bindEnd p none).bindPump
  else d

def execRebindComplete (p : PartNo) (s : State) : Host.Outcome State Fault Refusal := onLive (fun d => if d.up 3 then d.rebindComplete p else d) s

/-! ### Context record (Table 15.5) -/

/-- Commit of a context record (R355, R358, R361): refused whole, or priority and save base are set and the command runs. -/
def Device.applyCtx (d : Device) (g : Nat → Nat) (p : PartNo) : St × Device :=
  let c : CtxNo := fin (g 1)
  let x := d.ctxs[c]
  if g 1 ≥ 256 ∨ x.part ≠ some p then (.ctxUnbound, d)
  else if g 2 > 7 ∨ g 3 % 4096 ≠ 0 ∨ g 3 ≥ 2 ^ 40 ∨ (g 3 ≠ x.saveBase ∧ x.st ≠ .bound) ∨ g 4 > 2 then (.ctxInvalid, d)
  else if g 4 = 1 ∧ x.st ≠ .admitted then (.ctxState, d)
  else
    let pr : Fin 8 := fin (g 2)
    let d := d.modCtx c (fun x => { x with saveBase := g 3, command := g 4, prioSet := pr, prio := if x.st = .running then x.prio else pr })
    if g 4 = 1 then
      (.ok, (d.modCtx c (fun x => { x with st := .ready, stepNo := x.resumeStep, waitSince := d.devTime })).schedule)
    else if g 4 = 2 then (.ok, (d.askTeardown c .command).schedule)
    else (.ok, d.schedule)

end Sys2Proof.Machine
end

