-- ==== Sys2Proof/WellFormed.lean ====
section
/-! DEFINITION. Which terms of `Instr` are commands of the part: a packet's payload is at most 256 bytes (R300), a BAR4
access moves 1 to 4,096 bytes inside the 2 GiB window (R418). -/

namespace Sys2Proof

/-- A packet of R300: at most 256 payload bytes. -/
def Packet.wf (p : Packet) : Bool := p.payload.length ≤ 256

def PktSrc.wf : PktSrc → Bool
  | .port _ _ => true
  | .net _ pkt => pkt.wf

/-- A BAR4 access: 1 to 4,096 bytes that end inside the window (R418). -/
def barAccess (offset : BitVec 31) (len : Nat) : Bool := 1 ≤ len && len ≤ 4096 && offset.toNat + len ≤ 2 ^ 31

/-- The terms of `Instr` that are commands of the part. -/
def Instr.wf : Instr → Bool
  | .linkPacketReceive _ a => a.pkt.wf
  | .routerForward src => src.wf
  | .pktWrite src => src.wf
  | .pktWriteF src => src.wf
  | .pktRead src => src.wf
  | .pktAtomic src => src.wf
  | .pktWatch src => src.wf
  | .pktReadRsp src => src.wf
  | .pktWriteAck src => src.wf
  | .pktAtomicRsp src => src.wf
  | .pktNotify src => src.wf
  | .pktCollData src => src.wf
  | .collReady src => src.wf
  | .collCredit src => src.wf
  | .collAbortReceive src => src.wf
  | .pktTime src => src.wf
  | .bar4Read _ offset len => barAccess offset len
  | .bar4Write _ offset data => barAccess offset data.length
  | _ => true

end Sys2Proof
end

