-- ==== Sys2Proof/Machine/Links.lean ====
section
/-! DEFINITION. Lanes and their training (R299, R300), the link layer (R303, R304, R310), ports (R305 to R308, R321), slice tables
and routing (R313 to R319). -/

namespace Sys2Proof.Machine

/-! ### Views -/

/-- The port whose configuration names a lane. -/
def Device.portOfLane (d : Device) (n : LaneNo) : Option PortNo := (d.portsOfLane n.val).head?

/-- The place in its port that a lane holds: its own, or that of the lane it was substituted for (R308). -/
def Device.lanePlace (d : Device) (n : LaneNo) : LaneNo := (d.lanes[n]).subst.getD n

/-- Lanes that carry a port's traffic now. -/
def Device.activeLanes (d : Device) (p : PortNo) : List LaneNo :=
  (List.finRange 64).filter (fun n => (d.lanes[n]).st = 2 && (d.lanes[n]).port = p)

/-- Payload rate of a port in hundredths of a byte per nanosecond: about 24.9 or 23.6 GB/s for each active lane (R300); 24.89 is what
makes ten lanes run unpaced to 113 ns and sixteen to 70 ns (R311, log 31). -/
def Device.portRate (d : Device) (p : PortNo) : Nat :=
  ((d.activeLanes p).map (fun n => if (d.lanes[n]).slow then 2361 else 2489)).foldl (· + ·) 0

/-- Bytes in flight of a round trip at the port's rate. -/
def Device.portFlight (d : Device) (p : PortNo) : Nat := d.portRate p * (d.ports[p]).rtt.toNat / 100

/-- PACED follows the port's rate (R311). -/
def Device.repace (d : Device) (p : PortNo) : Device :=
  d.modPort p (fun q => { q with paced := decide (d.portRate p * q.rtt.toNat > 2812800) })

/-- PORT_STATUS (Table 13.10). -/
def Device.portStatus (d : Device) (p : PortNo) : W64 :=
  let q := d.ports[p]
  BitVec.ofNat 64 (q.st.val + min 16 (d.activeLanes p).length <<< 3 + q.paced.toNat <<< 8 + q.rtt.toNat <<< 9
    + q.replays.toNat <<< 19 + q.holds.toNat <<< 35 + q.subst.toNat <<< 43)

/-- LINK_LANE_STATUS (Table 13.11). -/
def Lane.status (x : Lane) : W64 :=
  BitVec.ofNat 64 (x.st.val + x.slow.toNat <<< 3 + x.peerChip.toNat <<< 4 + x.peerLane.val <<< 19 + x.port.val <<< 25
    + x.fecCorr.toNat <<< 28 + x.fecUncorr.toNat <<< 48)

/-! ### Flow control (R310, R311) -/

/-- H of R310: bytes in flight of a round trip, limited by pacing to 28,128, and 544. -/
def Device.portH (d : Device) (p : PortNo) : Nat := min 28128 (d.portFlight p) + 544

/-- Free bytes of a class buffer. -/
def bufFree (l : List (Packet × W64)) : Nat := 32768 - (l.map (fun x => 16 + x.1.payload.length)).foldl (· + ·) 0

/-- The LCW a port sends: what it has received in order, and its on/off bits. -/
def Port.lcw (q : Port) (nak : Bool) : Lcw :=
  { ack := q.rxCount, nak := if nak then some q.rxCount else none, off := q.offSent, crcOk := true }

/-- The on/off bits after a class buffer changed (R310); the next LCW carries them. -/
def Device.flowUpdate (d : Device) (p : PortNo) (nak : Bool) : Device :=
  let h := d.portH p
  d.modPort p (fun q =>
    let bit (i : Fin 4) : Bool :=
      let f := bufFree q.rx[i]
      if f < h then true else if f ≥ h + 4096 then false else bitOf q.offSent i
    let off := ([0, 1, 2, 3] : List (Fin 4)).foldl (fun (w : BitVec 4) (i : Fin 4) => setBit w i.val (bit i)) 0
    let q := { q with offSent := off }
    { q with lcwOut := [q.lcw nak] })

/-- The head packet of a class buffer leaves it; the next one stands at the head from now on. -/
def Device.popRx (d : Device) (p : PortNo) (c : Fin 4) : Device :=
  (d.modPort p (fun q => { q with rx := q.rx.set c (match q.rx[c] with
    | _ :: (k, _) :: rest => (k, d.devTime) :: rest
    | _ => []) })).flowUpdate p false

/-! ### Ports going up, narrow, holding, lost (R307, R321) -/

/-- Replays under R304: counted on the port, on its active lanes and in the device total. -/
def Device.countReplay (d : Device) (p : PortNo) : Device :=
  let d := (d.activeLanes p).foldl (fun d n => d.modLane n (fun x => { x with cntRetries := x.cntRetries + 1 })) d
  { d.modPort p (fun q => { q with replays := BitVec.ofNat 16 (min 65535 (q.replays.toNat + 1)) }) with cntRetries := d.cntRetries + 1 }

/-- A port's state after one of its lanes came up (Table 13.6). T_rt is measured in training: an open value (log 7). -/
def Device.portUpdate (d : Device) (p : PortNo) : Device :=
  let q := d.ports[p]
  let n := (d.activeLanes p).length
  let whole := decide (n ≥ (d.portLanes p).length)
  let enough := decide (n ≥ d.cfg 0x3100 6 p)
  if !q.enabled || q.st = 0 || q.st = 5 || !enough then d
  else
    let d := if q.st = 1 then
        let f := d.free
        f.2.modPort p (fun q => { q with rtt := BitVec.ofNat 10 f.1.toNat })
      else d
    let d := d.modPort p (fun q => { q with st := if whole then 2 else 3, failedAt := if whole then none else q.failedAt })
    let d := d.repace p
    let d := if q.st = 4 then d.countReplay p else d
    d.modPort p Port.flush

/-- The partition that a port's packets belong to (R316). -/
def Device.portSlice (d : Device) (p : PortNo) : Option (PartNo × Nat) :=
  match d.portPart p with
  | some a => (d.sliceOf a).map (fun k => (a, (d.tables[k]).id.toNat))
  | none => none

/-- A port becomes lost (R321): output queue and replay buffer are discarded and counted, PORT_LOST is posted, and a
collective over it ends with COLL_LINK_LOST (R339), which resets the partition (R363). -/
def Device.losePort (d : Device) (p : PortNo) (st : Fin 6) : Device :=
  let q := d.ports[p]
  let n := q.out.length + q.replay.length
  let d := (d.modPort p (fun q => { q with st := st, out := [], replay := [], failedAt := none })).drop (d.portCuff p) 3 n
  match d.portPart p with
  | none => d.report 0x0205 none none p (pay4 p n 0 0)
  | some a =>
    let d := d.report 0x0205 (some a) none p (pay4 p n 0 0)
    if d.collUses a p then (d.collAbort a clLinkLost d.chipId.toNat p).resetPartition a .portLost else d

/-- LANE_FAILURE (R300, R307): a lane loses signal, meets too many uncorrectable codewords, or receives no LCW; a lane that has
trained for 30 us has failed training (R299). -/
def Device.laneFail (d : Device) (n : LaneNo) : Device :=
  let x := d.lanes[n]
  if x.st = 1 ∧ d.since x.lastTry ≥ 30000 then d.modLane n (fun x => { x with st := 3 })
  else if x.st ≠ 2 then d
  else
    let p := x.port
    let d := (d.modLane n (fun x => { x with st := 3, failedAt := d.devTime, lastTry := d.devTime })).repace p
    let q := d.ports[p]
    if q.st = 2 || q.st = 3 || q.st = 4 then
      let d := d.modPort p (fun q => { q with failedAt := some (q.failedAt.getD d.devTime), tried := [] })
      if (d.activeLanes p).length < d.cfg 0x3100 6 p then
        d.modPort p (fun q => { q with st := 4, holds := if q.st = 4 then q.holds else BitVec.ofNat 8 (min 255 (q.holds.toNat + 1)) })
      else if q.st = 4 then d
      else (d.modPort p (fun q => { q with st := 3 })).countReplay p
    else d

def execLaneFailure (n : LaneNo) (s : State) : Host.Outcome State Fault Refusal := onLive (fun d => d.laneFail n) s

/-- LANE_TRAINED (R299): within 30 us of its start, and the far end must be the chip the port expects. A lane whose place another lane
has taken becomes a spare (R308). -/
def Device.laneUp (d : Device) (n : LaneNo) (slow : Bool) (chip : ChipId) (far : LaneNo) : Device :=
  let x := d.lanes[n]
  match d.portOfLane n with
  | none => d
  | some p =>
    if !(d.ports[p]).enabled || !(x.st = 1 || x.st = 3) then d
    else
      let d := d.modLane n (fun x => { x with slow := slow, peerChip := chip, peerLane := far })
      if chip.toNat ≠ d.cfg 0x3100 4 p || (x.st = 1 && decide (d.since x.lastTry > 30000)) then d.modLane n (fun x => { x with st := 3 })
      else if (List.finRange 64).any (fun k => k ≠ n && (d.lanes[k]).st = 2 && (d.lanes[k]).port = p && d.lanePlace k = d.lanePlace n) then
        d.modLane n (fun x => { x with st := 4, subst := none })
      else (d.modLane n (fun x => { x with st := 2, port := p })).portUpdate p

def execLaneTrained (n : LaneNo) (slow : Bool) (chip : ChipId) (far : LaneNo) (s : State) : Host.Outcome State Fault Refusal :=
  onLive (fun d => d.laneUp n slow chip far) s

/-- LANE_RETRY (R299): a lane that failed training, or has not trained by now, is tried again every 10 ms while its port is enabled. -/
def Device.laneRetry (d : Device) (n : LaneNo) : Device :=
  let x := d.lanes[n]
  match d.portOfLane n with
  | some p =>
    if (x.st = 3 || x.st = 1) && (d.ports[p]).enabled && decide (d.since x.lastTry ≥ 10000000) then
      d.modLane n (fun x => { x with st := 1, lastTry := d.devTime })
    else d
  | none => d

def execLaneRetry (n : LaneNo) (s : State) : Host.Outcome State Fault Refusal := onLive (fun d => d.laneRetry n) s

/-- HOLD_WINDOW_EXPIRY (Table 13.6): 100 us after the first lane failure a holding port is lost; a narrow one stays narrow. -/
def Device.holdExpiry (d : Device) (p : PortNo) : Device :=
  match (d.ports[p]).failedAt with
  | none => d
  | some t =>
    if d.since t < 100000 then d
    else if (d.ports[p]).st = 4 then d.losePort p 5
    else d.modPort p (fun q => { q with failedAt := none })

def execHoldWindowExpiry (p : PortNo) (s : State) : Host.Outcome State Fault Refusal := onLive (fun d => d.holdExpiry p) s

/-- The spares a substitution may try next: idle lanes of the mask that no port names and that this failure has not tried yet, in
ascending order (R308). -/
def Device.idleSpares (d : Device) (p : PortNo) : List LaneNo :=
  (List.finRange 64).filter (fun n => (d.cfg 0x3100 5 p / 2 ^ n.val) % 2 = 1 && ((d.lanes[n]).st = 0 || (d.lanes[n]).st = 4) &&
    (d.portOfLane n).isNone && n ∉ (d.ports[p]).tried)

/-- Whether a lane's place in the port may be given to a spare: it failed, the hold window has passed (R307), no other lane has the
place, and the port is short of lanes. -/
def Device.placeLost (d : Device) (p : PortNo) (failed : LaneNo) : Bool :=
  let q := d.ports[p]
  q.st = 3 && (d.lanes[failed]).st = 3 && d.lanePlace failed ∈ d.portLanes p &&
    (List.finRange 64).all (fun n => n = failed || (d.lanes[n]).st ≠ 2 || (d.lanes[n]).port ≠ p || d.lanePlace n ≠ d.lanePlace failed) &&
    (match q.failedAt with
     | some t => decide (d.since t ≥ 100000)
     | none => true) &&
    decide ((d.activeLanes p).length < (d.portLanes p).length)

/-- LANE_SUBSTITUTION (R308): the next idle spare has trained and found a chip. When that is the port's peer it joins in the failed
lane's place; else it is idle again and the next one is tried. -/
def Device.substitute (d : Device) (p : PortNo) (failed : LaneNo) (f : Found) : Device :=
  let spare := f.lane
  if d.placeLost p failed && (d.idleSpares p).head? = some spare then
    let d := d.modLane spare (fun y => { y with st := 4, slow := f.slow, peerChip := f.chip, peerLane := f.far })
    if f.chip.toNat ≠ d.cfg 0x3100 4 p then d.modPort p (fun q => { q with tried := q.tried ++ [spare] })
    else
      let place := d.lanePlace failed
      let d := (d.modLane failed (fun x => { x with subst := none })).modLane spare (fun y => { y with st := 2, port := p, subst := some place })
      (d.modPort p (fun q => { q with subst := BitVec.ofNat 8 (min 255 (q.subst.toNat + 1)), tried := [] })).portUpdate p
  else d

def execLaneSubstitution (p : PortNo) (failed : LaneNo) (f : Found) (s : State) : Host.Outcome State Fault Refusal :=
  onLive (fun d => d.substitute p failed f) s

/-- PORT_RETURN (R321): min_lanes lanes of a lost port are up again; both ends count packets afresh. -/
def Device.portReturn (d : Device) (p : PortNo) : Device :=
  let q := d.ports[p]
  if q.st = 5 && q.enabled && (d.activeLanes p).length ≥ d.cfg 0x3100 6 p then
    (d.modPort p (fun q => { q with st := 3, oldest := 0, rxCount := 0, nakking := false, badCrc := 0, off := 0 })).portUpdate p
  else d

def execPortReturn (p : PortNo) (s : State) : Host.Outcome State Fault Refusal := onLive (fun d => d.portReturn p) s

/-! ### Port record (Table 13.4) -/

/-- Number of ones in a lane mask. -/
def maskLanes (m : Nat) : List LaneNo := (List.finRange 64).filter (fun n => (m / 2 ^ n.val) % 2 = 1)

/-- Ranges of Table 13.4, and the lanes bound to one partition (R305). -/
def Device.portFieldsOk (d : Device) (g : Nat → Nat) (p : PortNo) : Bool :=
  let ls := maskLanes (g 1)
  let others := (List.finRange 8).filter (fun q => q ≠ p)
  let sp := maskLanes (g 5)
  1 ≤ ls.length && decide (ls.length ≤ 16) && ls.all (fun n => some (laneCuff n) = (ls.head?.map laneCuff)) &&
    others.all (fun q => ls.all (fun n => n ∉ d.portLanes q)) &&
    (match ls with
     | n :: _ => (d.lanes[n]).bound.isSome && ls.all (fun k => (d.lanes[k]).bound = (d.lanes[n]).bound)
     | [] => false) &&
    g 2 ≤ 3 && g 3 ≤ 1 && g 4 ≤ 32767 &&
    sp.all (fun n => some (laneCuff n) = (ls.head?.map laneCuff) && n ∉ ls && others.all (fun q => n ∉ d.portLanes q)) &&
    1 ≤ g 6 && g 6 ≤ ls.length

/-- Commit of a port record (R305): 1 enables a port that is down, 0 disables it. The record is committed with a 1. -/
def Device.applyPort (d : Device) (g : Nat → Nat) (p : PortNo) (value : Nat) : St × Device :=
  let q := d.ports[p]
  if value = 1 then
    if q.st ≠ 0 then (.linkBusy, d)
    else if !d.portFieldsOk g p then (.linkInvalid, d)
    else
      let d := (List.range 6).foldl (fun d i => d.setCfg 0x3100 (i + 1) p (g (i + 1))) d
      let d := d.modPort p (fun q => { Port.reset with enabled := true, st := 1, replays := q.replays, holds := q.holds, subst := q.subst })
      let d := (d.portLanes p).foldl (fun d n => d.modLane n (fun x => { x with st := 1, lastTry := d.devTime, subst := none })) d
      (.ok, (maskLanes (g 5)).foldl (fun d n => d.modLane n (fun x => if x.st = 0 then { x with st := 4 } else x)) d)
  else if value = 0 then
    let up := q.st = 2 || q.st = 3 || q.st = 4
    let d := if up then d.losePort p 0 else d
    let d := { d with lanes := d.lanes.mapFinIdx (fun i x h =>
      if x.subst.any (fun k => k ∈ d.portLanes p) then { x with st := 4, subst := none }
      else if (⟨i, h⟩ : LaneNo) ∈ d.portLanes p then { x with st := 0 } else x) }
    (.ok, d.modPort p (fun q => { q with enabled := false, st := 0, failedAt := none, out := [], replay := [] }))
  else (.linkInvalid, d)

/-! ### Link control words and packets that arrive (R303, R304) -/

/-- LCW_RECEIVE: the acknowledged packets leave the replay buffer; on/off bits take effect; a NAK makes the transmitter resend
every unacknowledged packet. A corrupt LCW is discarded. -/
def Device.lcwReceive (d : Device) (p : PortNo) (l : Lcw) : Device :=
  let q := d.ports[p]
  let n := (l.ack - q.oldest).toNat
  if !(q.st = 2 || q.st = 3) || !l.crcOk || decide (n > q.replay.length) then d
  else
    let d := d.modPort p (fun q =>
      { q with replay := q.replay.drop n, oldest := l.ack, off := l.off })
    let d := if l.nak.isSome && !(d.ports[p]).replay.isEmpty then d.countReplay p else d
    d.modPort p Port.flush

def execLcwReceive (p : PortNo) (l : Lcw) (s : State) : Host.Outcome State Fault Refusal := onLive (fun d => d.lcwReceive p l) s

/-- What the error correction of the lanes counts while a packet comes in (Table 13.11, R446): no command says how many symbols it
corrects, so the numbers are free values. -/
def Device.fecCount (d : Device) (p : PortNo) : Device :=
  let free (n : LaneNo) (k : Nat) : W64 := Config.freeValue (d.freeCount + 2 * n.val + k)
  { (d.activeLanes p).foldl (fun e n => e.modLane n (fun x =>
      { x with cntFec := x.cntFec + free n 0, fecCorr := BitVec.ofNat 20 (min (2 ^ 20 - 1) (x.fecCorr.toNat + (free n 0).toNat)),
               fecUncorr := BitVec.ofNat 16 (min 65535 (x.fecUncorr.toNat + (free n 1).toNat)) })) d
    with freeCount := d.freeCount + 128 }

/-- LINK_PACKET_RECEIVE: a good packet enters its class buffer and is counted; a bad CRC discards it and what follows until
replay begins, and sends a NAK; a packet whose CRC fails the eighth time in a row fails every active lane (R304). `again`: the far end's
replay begins with this packet (an input: no field of a packet says it, log 31). -/
def Device.packetReceive (d : Device) (p : PortNo) (again : Bool) (pkt : Packet) : Device :=
  let q := d.ports[p]
  let d0 := d
  let d := d.fecCount p
  if !(q.st = 2 || q.st = 3) then d0
  else if q.nakking && !again then d
  else if !pkt.crcOk then
    let n := q.badCrc + 1
    let d := (d.modPort p (fun q => { q with badCrc := n, nakking := true })).flowUpdate p true
    if n ≥ 8 then (d.activeLanes p).foldl (fun d k => d.laneFail k) (d.modPort p (fun q => { q with badCrc := 0 })) else d
  else
    let c := pkt.cls
    ((d.traceRec 3 (32768 + p.val) (d.portPart p) (BitVec.ofNat 16 pkt.ty) pkt.hdr).modPort p (fun q =>
      { q with badCrc := 0, nakking := false, rxCount := q.rxCount + 1, rx := q.rx.set c (q.rx[c] ++ [(pkt, d.devTime)]) })).flowUpdate p false

def execLinkPacketReceive (p : PortNo) (a : Arrival) (s : State) : Host.Outcome State Fault Refusal :=
  if a.pkt.wf then onLive (fun d => d.packetReceive p a.again a.pkt) s else .fault .illFormed

/-! ### Slice tables (R315) -/

/-- The entries that a 65,536-byte table spells, those of 0x00FF left out. -/
def tableEntries (bs : List Byte) : List (Nat × W16) :=
  let rec go (i : Nat) : List Byte → List (Nat × W16)
    | a :: b :: rest => if a = 0xFF ∧ b = 0 then go (i + 1) rest else (i, BitVec.ofNat 16 (a.toNat + 256 * b.toNat)) :: go (i + 1) rest
    | _ => []
  go 0 bs

/-- Whether an entry breaks R315 for a partition: reserved values, or a port not bound to it. -/
def Device.entryBad (d : Device) (p : PartNo) (e : W16) : Bool :=
  let pn := fld e 0 4
  let dn := fld e 4 4
  let foreign (k : Nat) : Bool := k < 8 && d.portPart (fin k) ≠ some p
  fld e 8 8 ≠ 0 || (8 ≤ pn && pn < 14) || (8 ≤ dn && dn < 15) || foreign pn || foreign dn

/-- Commit of a slice table (R315): loaded whole between two packets, or removed. A slice has a partition on this device when
that partition holds a lane (log 31). -/
def Device.applyTable (d : Device) (g : Nat → Nat) (bs : List Byte) (k : SliceTab) (value : Nat) : St × Device :=
  if value = 0 then (.ok, d.modTable k (fun _ => SliceTable.reset))
  else
    let p : PartNo := fin (g 2)
    let es := tableEntries bs
    let used := (List.finRange 16).any (fun j => j ≠ k && (d.tables[j]).active && (d.tables[j]).id.toNat = g 1)
    if value ≠ 1 ∨ g 1 > 4095 ∨ g 2 > 15 ∨ (bs.length ≠ 0 ∧ bs.length ≠ 65536) ∨ used ∨ es.any (fun e => d.entryBad p e.2) ∨
        d.lanes.toList.all (fun (x : Lane) => x.bound ≠ some p) then (.routeInvalid, d)
    else
      let d := (d.setCfg 0x3200 1 k (g 1)).setCfg 0x3200 2 k (g 2)
      (.ok, d.modTable k (fun _ => { active := true, id := BitVec.ofNat 12 (g 1), part := p, entries := es }))

/-! ### Routing (R313, R316, R317) -/

/-- The packet at the head of a class buffer. -/
def Device.headOf (d : Device) (p : PortNo) (c : Fin 4) : Option Packet := ((d.ports[p]).rx[c]).head?.map (·.1)

/-- Class buffer of a network and class. -/
def clsNo (reply cls : Bool) : Fin 4 := fin (2 * reply.toNat + cls.toNat)

/-- The router's choice for a packet that arrived on a port (R317): output port, and whether DTR is set from here on. A packet
on a detour keeps to DETOUR within its dimension; its DTR is cleared when it leaves that dimension. -/
def Device.nextHop (d : Device) (inp : PortNo) (pkt : Packet) (e : W16) : Option (PortNo × Bool) :=
  let dn := fld e 4 4
  let det : PortNo := fin dn
  if pkt.dtr && decide (dn < 8) && d.portDim det = d.portDim inp then
    if (d.ports[det]).usable then some (det, true) else none
  else (d.routePort e).map (fun o => (o.1, o.2 || pkt.dtr && d.portDim o.1 = d.portDim inp))

/-- Whether a forwarded packet has to wait for its output port: that port holds (R317), or an earlier packet of the network and class
it leaves in still waits to be sent there (R310, R307; log 31). -/
def Device.outBlocked (d : Device) (o : PortNo) (reply cls : Bool) : Bool :=
  let c := clsNo reply (cls || d.cfg 0x3100 3 o = 1)
  (d.ports[o]).st = 4 || (d.ports[o]).out.any (fun k => k.cls = c)

/-- One packet at the head of a buffer of a port: dropped when its type or slice is wrong, sent on when it is for another chip and its
output port takes it; left for its own command when it is for this one. Answers whether it left. -/
def Device.forwardHead (d : Device) (p : PortNo) (c : Fin 4) : Bool × Device :=
  match d.headOf p c with
  | none => (false, d)
  | some pkt =>
    let cuff := d.portCuff p
    if pkt.broken then (true, (d.popRx p c).drop cuff 1 1)
    else
      match d.portSlice p with
      | none => (true, (d.popRx p c).drop cuff 0 1)
      | some (a, id) =>
        if pkt.slice ≠ id then (true, (d.popRx p c).drop cuff 0 1)
        else if pkt.dst = d.chipId.toNat then (false, d)
        else
          match d.sliceOf a with
          | none => (false, d)
          | some k =>
            match d.nextHop p pkt ((d.tables[k]).entry pkt.dst) with
            | none => (true, (d.popRx p c).drop cuff 1 1)
            | some (o, dtr) =>
              let same := d.portDim o = d.portDim p
              if d.outBlocked o pkt.isReply (pkt.dcl && same) then (false, d)
              else (true, (d.popRx p c).sendOn o (setBit pkt.hdr 5 dtr) pkt.payload (pkt.dcl && same))

/-- ROUTER_FORWARD: the request network's head of the class, or else the reply network's. -/
def Device.routerForward (d : Device) (src : PktSrc) : Device :=
  match src with
  | .net _ _ => d
  | .port p cls =>
    let r := d.forwardHead p (clsNo false cls)
    if r.1 then r.2 else (d.forwardHead p (clsNo true cls)).2

def execRouterForward (src : PktSrc) (s : State) : Host.Outcome State Fault Refusal :=
  if src.wf then onLive (fun d => d.routerForward src) s else .fault .illFormed

/-- ROUTER_STALL_DROP (R318): a packet that waited route.stall_us at the head of a class buffer; 0 disables. -/
def Device.stallDrop (d : Device) (p : PortNo) (reply cls : Bool) : Device :=
  let us := d.cfg 0x3000 2 0
  match ((d.ports[p]).rx[clsNo reply cls]).head? with
  | some (_, t) => if us ≠ 0 ∧ d.since t ≥ 1000 * us then (d.popRx p (clsNo reply cls)).drop (d.portCuff p) 2 1 else d
  | none => d

def execRouterStallDrop (p : PortNo) (reply cls : Bool) (s : State) : Host.Outcome State Fault Refusal :=
  onLive (fun d => d.stallDrop p reply cls) s

end Sys2Proof.Machine
end

