-- ==== Sys2Proof/Machine/Packets.lean ====
section
/-! DEFINITION. Packets that this chip receives for itself (Table 13.3): requests judged by windows and answered (R166, R167),
replies and notifications handed to their requesters (R302, R180). -/

namespace Sys2Proof.Machine

/-- The packet at the head of a port's class buffer, when it is a good one for a partition of this chip that a test picks: its
partition, the packet, and the part without it (R316). A request that is to be answered is accepted only when its reply's header can be
queued (R312). -/
def Device.takeHead (d : Device) (src : PktSrc) (reply : Bool) (f : Packet → Bool) : Option (PartNo × Packet × Device) :=
  match src with
  | .net _ _ => none
  | .port p cls =>
    match d.headOf p (clsNo reply cls), d.portSlice p with
    | some pkt, some (a, id) =>
      if !pkt.broken && pkt.slice = id && pkt.dst = d.chipId.toNat && f pkt && (reply || 5 ≤ pkt.ty || d.replyRoom a pkt.src) then
        some (a, pkt, d.popRx p (clsNo reply cls)) else none
    | _, _ => none

/-- Reply statuses (Table 13.2). -/
def rsOk : Nat := 0
def rsDenied : Nat := 1
def rsPoison : Nat := 2
def rsEmpty : Nat := 3

/-- A reply to the sender of a packet. -/
def Device.answer (d : Device) (a : PartNo) (pkt : Packet) (ty tag st : Nat) (payload : List Byte) : Device :=
  d.inject a (tileCuff (fin pkt.tile)) ty pkt.src (midRsp tag st) payload

/-- Whether the windows of the slice's partition let a packet's access to its tile pass. -/
def Device.pktAdmitted (d : Device) (a : PartNo) (pkt : Packet) (off n right : Nat) : Bool :=
  d.owns a pkt.tile && d.admitted (fin pkt.tile) off n pkt.slice pkt.src right

/-- A packet that no window admits is dropped and counted (R167). -/
def Device.pktDenied (d : Device) (pkt : Packet) (off n right : Nat) : Device :=
  d.violation (fin pkt.tile) off n pkt.slice pkt.src right

/-! ### Requests -/

/-- WRITE and WRITE_F: performed through a window and acknowledged; the acknowledgement's TAG carries REQ (log 23). A write
that would touch the clasp region is denied (R142). -/
def Device.servWrite (d : Device) (src : PktSrc) (ty : Nat) : Device :=
  match d.takeHead src false (fun k => k.ty = ty) with
  | none => d
  | some (a, pkt, d) =>
    let n := pkt.payload.length
    if !d.pktAdmitted a pkt pkt.offset n rightWr then
      (d.pktDenied pkt pkt.offset n rightWr).answer a pkt 9 pkt.req rsDenied []
    else
      let r := d.meshWrite (fin pkt.tile) pkt.offset pkt.payload
      r.2.answer a pkt 9 pkt.req (if r.1 = .ok then rsOk else if r.1 = .clasp then rsDenied else rsPoison) []

def execPktWrite (src : PktSrc) (s : State) : Host.Outcome State Fault Refusal :=
  if src.wf then onLive (fun d => d.servWrite src 0) s else .fault .illFormed
def execPktWriteF (src : PktSrc) (s : State) : Host.Outcome State Fault Refusal :=
  if src.wf then onLive (fun d => d.servWrite src 1) s else .fault .illFormed

/-- READ: TAG and RLEN in the payload. -/
def Device.servRead (d : Device) (src : PktSrc) : Device :=
  match d.takeHead src false (fun k => k.ty = 2) with
  | none => d
  | some (a, pkt, d) =>
    let w := leNat pkt.payload
    let tag := w % 2 ^ 23
    let n := w / 2 ^ 23 % 512
    if !d.pktAdmitted a pkt pkt.offset n rightRd then
      (d.pktDenied pkt pkt.offset n rightRd).answer a pkt 8 tag rsDenied []
    else
      let r := d.meshRead (fin pkt.tile) pkt.offset n
      r.2.answer a pkt 8 tag (if r.1.st = .ok then rsOk else if r.1.st = .clasp then rsDenied else rsPoison) r.1.bytes

def execPktRead (src : PktSrc) (s : State) : Host.Outcome State Fault Refusal :=
  if src.wf then onLive (fun d => d.servRead src) s else .fault .illFormed

/-- A remote ALLOC (R214): the CL right on the pool's free clasp and the WR right on its slots. Bit 3 of word 0 is PWAIT (log 23). -/
def Device.servAlloc (d : Device) (a : PartNo) (pkt : Packet) (tag pool : Nat) (pwait : Bool) : Device :=
  match d.poolOf pkt.tile (fin pool) with
  | none => (d.pktDenied pkt claspBase 8 rightCl).answer a pkt 10 tag rsDenied []
  | some (p, q) =>
    if !d.pktAdmitted a pkt (claspOff q.freeClasp) 8 rightCl then
      (d.pktDenied pkt (claspOff q.freeClasp) 8 rightCl).answer a pkt 10 tag rsDenied []
    else if !d.pktAdmitted a pkt q.base (4096 * q.slots) rightWr then
      (d.pktDenied pkt q.base (4096 * q.slots) rightWr).answer a pkt 10 tag rsDenied []
    else
      let r := d.claspApply (fin pkt.tile) (fin q.freeClasp) (clArg clAllocOp 0)
      match r.1 with
      | none => r.2.answer a pkt 10 tag rsPoison []
      | some word =>
        match lowestBit (clValue word), clPoison word with
        | some s, false => (r.2.poolServed p (fin pool) pkt.req).answer a pkt 10 tag rsOk (leBytes 8 (allocWord s q.freeClasp q.base).toNat)
        | _, _ =>
          (if pwait then r.2 else r.2.poolMissed p (fin pool)).answer a pkt 10 tag rsEmpty
            (leBytes 8 (allocWord 0 q.freeClasp q.base).toNat)

/-- An ALLOC at the head of a request buffer: home tile and pool, requester number and chip. -/
def Device.allocHead (d : Device) (src : PktSrc) : Option (Nat × Nat × Nat × Nat) :=
  match d.takeHead src false (fun k => k.ty = 3) with
  | some (_, pkt, _) =>
    let w := BitVec.ofNat 192 (leNat pkt.payload)
    if fld w 24 6 = clAllocOp then some (pkt.tile, fld w 64 3, pkt.req, pkt.src) else none
  | none => none

/-- Whether an ALLOC comes before another that waits in another buffer for the same pool (R215): the requester at or after the pointer
first, of equal numbers the lower chip. -/
def allocFirst (rr : Nat) (a b : Nat × Nat) : Bool :=
  let x := (a.1 + 1072 - rr) % 536
  let y := (b.1 + 1072 - rr) % 536
  x < y || (x = y && a.2 ≤ b.2)

/-- Whether the ALLOC of a buffer is the next of its pool to be served (R215). -/
def Device.allocTurn (d : Device) (src : PktSrc) : Bool :=
  match d.allocHead src with
  | none => true
  | some (t, n, req, chip) =>
    let rr := (d.poolOf t (fin n)).elim 0 (fun q => q.2.rr)
    ((List.finRange 8).flatMap (fun p => [PktSrc.port p 0, PktSrc.port p 1])).all (fun o =>
      match d.allocHead o with
      | some (t', n', req', chip') => t' ≠ t || n' ≠ n || allocFirst rr (req, chip) (req', chip')
      | none => true)

/-- ATOMIC: a clasp operation, OWN not honoured (R173), answered with the previous word, or POISON where it is uncorrectable (R144). -/
def Device.servAtomic (d : Device) (src : PktSrc) : Device :=
  if !d.allocTurn src then d
  else match d.takeHead src false (fun k => k.ty = 3) with
  | none => d
  | some (a, pkt, d) =>
    let w := BitVec.ofNat 192 (leNat pkt.payload)
    let tag := fld w 0 23
    let op := fld w 24 6
    let n := fld w 32 6
    if op = clAllocOp then d.servAlloc a pkt tag (fld w 64 3) (bitOf w 67)
    else if n ≥ 48 ∨ !d.pktAdmitted a pkt (claspOff n) 8 rightCl then
      (d.pktDenied pkt (claspOff n) 8 rightCl).answer a pkt 10 tag rsDenied []
    else
      let r := d.claspApply (fin pkt.tile) (fin n)
        { op := op, vsrc := bitOf w 30, w0 := BitVec.ofNat 64 (fld w 64 64), w1 := BitVec.ofNat 64 (fld w 128 64), own := none,
          by_ := none }
      match r.1 with
      | some word => r.2.answer a pkt 10 tag rsOk (leBytes 8 word.toNat)
      | none => r.2.answer a pkt 10 tag rsPoison []

def execPktAtomic (src : PktSrc) (s : State) : Host.Outcome State Fault Refusal :=
  if src.wf then onLive (fun d => d.servAtomic src) s else .fault .illFormed

/-- WATCH: a registration from another chip, answered with the clasp word once accepted (R176, R181, log 23); NKIND 1 is a CL.WAIT's
(R179). -/
def Device.servWatch (d : Device) (src : PktSrc) : Device :=
  match d.takeHead src false (fun k => k.ty = 4) with
  | none => d
  | some (a, pkt, d) =>
    let w := BitVec.ofNat 192 (leNat pkt.payload)
    let tag := fld w 0 23
    let n := fld w 30 6
    if n ≥ 48 ∨ !d.pktAdmitted a pkt (claspOff n) 8 rightCl then
      (d.pktDenied pkt (claspOff n) 8 rightCl).answer a pkt 10 tag rsDenied []
    else
      let r := d.registerWatch (fin pkt.tile)
        { value := BitVec.ofNat 48 (fld w 64 48), clasp := fin n, cond := fin (fld w 23 2), nkind := fin (fld w 25 2),
          narg := fin (fld w 27 3), remote := true, wait := fld w 25 2 = 1, tile := fin pkt.req, chip := BitVec.ofNat 15 pkt.src,
          ctx := fin (fld w 36 8), holder := .tile .ld, inv := false, tag := tag } none
      match r.1 with
      | .accepted => r.2.2.answer a pkt 10 tag rsOk (leBytes 8 r.2.1.toNat)
      | .queued => r.2.2
      | .poison => r.2.2.answer a pkt 10 tag rsPoison []

def execPktWatch (src : PktSrc) (s : State) : Host.Outcome State Fault Refusal :=
  if src.wf then onLive (fun d => d.servWatch src) s else .fault .illFormed

/-! ### Replies -/

/-- The requester a TAG belongs to; the TAG is free again (R302). -/
def Device.claimTag (d : Device) (tag : Nat) : Option Requester × Device :=
  (alGet d.tags tag, { d with tags := alErase d.tags tag })

/-- READ_RSP: the data of a mover's read from another chip has been read; the channel moves on. -/
def Device.servReadRsp (d : Device) (src : PktSrc) : Device :=
  match d.takeHead src true (fun k => k.ty = 8) with
  | none => d
  | some (_, pkt, d) =>
    let c := d.claimTag pkt.tag
    match c.1 with
    | some (.mover m k) =>
      let s := c.2.slot m k
      (match s.desc, s.reads.find? (fun r => r.1 = pkt.tag) with
       | some x, some _ =>
         let d := c.2.modSlot m k (fun s => { s with reads := s.reads.filter (fun q => q.1 ≠ pkt.tag) })
         if s.st = .stopping then d
         else if pkt.status = rsDenied then d.failChannel m k x 0 (.status 1)
         else if pkt.status ≠ rsOk then d.failChannel m k x 0 (.fault fcPoisonRead)
         else (d.modSlot m k (fun s => { s with buf := s.buf ++ pkt.payload })).moveOn m k
       | _, _ => c.2)
    | _ => c.2

def execPktReadRsp (src : PktSrc) (s : State) : Host.Outcome State Fault Refusal :=
  if src.wf then onLive (fun d => d.servReadRsp src) s else .fault .illFormed

/-- The mover of a requester number (R215). -/
def reqMover (n : Nat) : Option MoverId :=
  if n < 512 then some (.tile (fin n)) else if n < 528 then some (.bulk (fin (n - 512)))
  else if n < 536 then some (.hl (fin (n - 528))) else none

/-- WRITE_ACK: one write of the sending mover's channel is delivered; DENIED and POISON end it (R206). -/
def Device.servWriteAck (d : Device) (src : PktSrc) : Device :=
  match d.takeHead src true (fun k => k.ty = 9) with
  | none => d
  | some (_, pkt, d) =>
    match reqMover pkt.tag with
    | none => d
    | some m =>
      match firstIdx (fun (s : Slot) => s.awaits ≠ 0 && (s.desc.map (fun x => d.epFar (x.ep true))).getD false) (d.mover m).slots with
      | none => d
      | some k =>
        match (d.slot m k).desc with
        | none => d
        | some x =>
          let d := (d.modSlot m k (fun s => { s with awaits := s.awaits - 1 })).delivered m k
          if (d.slot m k).st = .stopping then d
          else if pkt.status = rsDenied then d.failChannel m k x 0 (.status 1)
          else if pkt.status = rsPoison then d.failChannel m k x 0 (.status 5)
          else d.moveOn m k

def execPktWriteAck (src : PktSrc) (s : State) : Host.Outcome State Fault Refusal :=
  if src.wf then onLive (fun d => d.servWriteAck src) s else .fault .illFormed

/-- The answer to a journalled operation on another chip is recorded (R373). -/
def Device.journalAnswer (d : Device) (t : TileNo) (tag st : Nat) (word : W64) : Device :=
  d.modTile t (fun x => { x with journal := x.journal.map (fun j =>
    if j.tag = some tag then { j with tag := none, returned := word, denied := st = rsDenied } else j) })

/-- ATOMIC_RSP for a channel: its ALLOC, its watch, its done operation or its returned slot is answered. A channel that stops
while its ALLOC is on the way returns that slot too (R217). -/
def Device.chanAnswer (d : Device) (m : MoverId) (k tag st : Nat) (word : W64) : Device :=
  let s := d.slot m k
  match s.desc with
  | none => d
  | some x =>
    if s.tag ≠ some tag then d
    else
      let d := match x.launcher with
        | some (t, _) => d.journalAnswer t tag st word
        | none => d
      let d := d.modSlot m k (fun s => { s with tag := none })
      if s.st = .stopping then
        if st = rsOk && dPool x.d && s.alloc.isNone && !s.doneSent then
          d.poolTaken m k (fld word 0 8) (fld word 32 32) (fld word 8 8)
        else d
      else if st = rsDenied || st = rsPoison then
        { d with farWatches := d.farWatches.filter (fun w => w.tag ≠ tag) }.claspFailed m k x 512 (st = rsDenied)
      else if s.doneSent then d.endChannel m k 0
      else if s.st = .running && dPool x.d && s.alloc.isNone then
        let e := x.ep true
        if st = rsEmpty then d.poolEmpty m k x e.chip e.tile (fin (fld word 8 8)) true
        else (d.poolTaken m k (fld word 0 8) (fld word 32 32) (fld word 8 8)).startChannel m k x
      else d

/-- ATOMIC_RSP for an instruction: the previous word, or the acceptance of a registration. -/
def Device.claspAnswer (d : Device) (t : TileNo) (e : Eng) (tag st : Nat) (word : W64) : Device :=
  let d := d.journalAnswer t tag st word
  match ((d.tiles[t]).flight[e.idx]).find? (fun f => f.tag = some tag) with
  | none => d
  | some f =>
    let waits := decodeOp f.e.word == some .clWait && st == rsOk && d.farWatches.any (fun w => w.tag = tag)
    let d := if st = rsOk then d else { d with farWatches := d.farWatches.filter (fun w => w.tag ≠ tag) }
    let d := d.modFlightWhere t e (fun g => g.tag == some tag) (fun g => { g with tag := none, awaits := waits.toNat })
    if st = rsDenied then d.noteDenied t
    else if st = rsPoison then d.execFault t e f fcPoisonRead 0
    else d.returnWord t e f word

def Device.servAtomicRsp (d : Device) (src : PktSrc) : Device :=
  match d.takeHead src true (fun k => k.ty = 10) with
  | none => d
  | some (_, pkt, d) =>
    let c := d.claimTag pkt.tag
    let w := BitVec.ofNat 64 (leNat pkt.payload)
    match c.1 with
    | some (.tile t e) => c.2.claspAnswer t e pkt.tag pkt.status w
    | some (.watch t e) => c.2.claspAnswer t e pkt.tag pkt.status w
    | some (.mover m k) => c.2.chanAnswer m k pkt.tag pkt.status w
    | _ => c.2

def execPktAtomicRsp (src : PktSrc) (s : State) : Host.Outcome State Fault Refusal :=
  if src.wf then onLive (fun d => d.servAtomicRsp src) s else .fault .illFormed

/-! ### Notifications -/

/-- The registration that a NOTIFY packet answers: of the tile, context, kind and NARG it carries, on the sending chip; of several the one
its TAG names, else the first (log 23). -/
def Device.farFor (d : Device) (pkt : Packet) (w : W128) : Option FarWatch :=
  let l := d.farWatches.filter (fun f => f.holds = pkt.src && f.w.tile.val = fld w 0 9 && f.w.ctx.val = fld w 9 8
    && f.w.nkind.val = fld w 17 2 && f.w.narg.val = fld w 19 3)
  match l.find? (fun f => f.tag = pkt.tag) with
  | some f => some f
  | none => l.head?

/-- NOTIFY (R180): it takes effect at the registering tile, or for NKIND 3 at the mover; discarded when its context no longer runs
there. -/
def Device.servNotify (d : Device) (src : PktSrc) : Device :=
  match d.takeHead src true (fun k => k.ty = 11) with
  | none => d
  | some (_, pkt, d) =>
    let w := BitVec.ofNat 128 (leNat pkt.payload)
    match d.farFor pkt w with
    | none => d
    | some f =>
      { d with farWatches := d.farWatches.filter (fun g => g.tag ≠ f.tag) }.applyNote
        { w := f.w, abandoned := bitOf w 22, value := BitVec.ofNat 48 (fld w 64 48), fromChip := BitVec.ofNat 15 f.holds,
          from_ := fin f.at_, by_ := none }

def execPktNotify (src : PktSrc) (s : State) : Host.Outcome State Fault Refusal :=
  if src.wf then onLive (fun d => d.servNotify src) s else .fault .illFormed

end Sys2Proof.Machine
end

