-- ==== Sys2Proof/Machine/Sfu.lean ====
section
/-! DEFINITION. The special functions of the vector engine (R121): the exact result computed in fixed point far beyond FP32, and
the bound of Table 5.1 on how far the engine's result may lie from it. -/

namespace Sys2Proof.Machine

/-- Fraction bits of the fixed-point numbers used here: an integer i stands for i / 2^320. -/
def sfuBits : Nat := 320

def fxOne : Int := 2 ^ sfuBits

def fxMul (a b : Int) : Int := a * b / fxOne

/-- The fixed-point number of a magnitude m x 2^e. -/
def fxOf (m : Nat) (e : Int) : Int :=
  let s : Int := e + (sfuBits : Int)
  if s ≥ 0 then ((m <<< s.toNat : Nat) : Int) else ((m >>> (-s).toNat : Nat) : Int)

/-- Sum of the terms of e^r from the k-th on, `n` terms; `term` is the k-th. -/
def expTerms (r : Int) : Nat → Nat → Int → Int
  | 0, _, _ => 0
  | n + 1, k, term => term + expTerms r n (k + 1) (fxMul term r / (k + 1))

/-- Sum of t^(2k+1) / (2k+1), with alternating signs where `alt`, from the k-th on, `n` terms; `pow` is t^(2k+1). -/
def oddTerms (t2 : Int) (alt : Bool) : Nat → Nat → Int → Int
  | 0, _, _ => 0
  | n + 1, k, pow =>
    let v := pow / (2 * k + 1)
    (if alt && k % 2 == 1 then -v else v) + oddTerms t2 alt n (k + 1) (fxMul pow t2)

/-- atanh and atan of a fixed-point number of magnitude at most 1/3. -/
def fxAtanh (t : Int) : Int := oddTerms (fxMul t t) false 220 0 t
def fxAtan (t : Int) : Int := oddTerms (fxMul t t) true 220 0 t

def fxLn2 : Int := 2 * fxAtanh (fxOne / 3)
def fxPi : Int := 16 * fxAtan (fxOne / 5) - 4 * fxAtan (fxOne / 239)

/-- e^x of a fixed-point number as mantissa and exponent. -/
def expFx (x : Int) : Nat × Int :=
  let k := x / fxLn2
  ((expTerms (x - k * fxLn2) 110 0 fxOne).toNat, k - (sfuBits : Int))

/-- ln of m x 2^e. -/
def logFx (m : Nat) (e : Int) : Int :=
  let b := m.log2
  let t : Int := (((m : Int) - (2 ^ b : Nat)) * fxOne) / ((m : Int) + (2 ^ b : Nat))
  2 * fxAtanh t + (e + (b : Int)) * fxLn2

/-- tanh of a fixed-point number of at least 0. -/
def tanhFx (x : Int) : Int :=
  let q := expFx (2 * x)
  let p := fxOf q.1 q.2
  (p - fxOne) * fxOne / (p + fxOne)

/-- Sum of (-1)^k x^(2k+1) / (k! (2k+1)) from the k-th term on; `pow` is x^(2k+1) / k!. -/
def erfTerms (x2 : Int) : Nat → Nat → Int → Int
  | 0, _, _ => 0
  | n + 1, k, pow =>
    let v := pow / (2 * k + 1)
    (if k % 2 == 1 then -v else v) + erfTerms x2 n (k + 1) (fxMul pow x2 / (k + 1))

/-- erf of a fixed-point number of at least 0: 2 / sqrt(pi) times the series. -/
def erfFx (x : Int) : Int :=
  2 * erfTerms (fxMul x x) 320 0 x * fxOne / (isqrt (fxPi * fxOne).toNat : Int)

/-- A fixed-point number as a value. -/
def ofFx (i : Int) : FV := FV.ofInt false i (-(sfuBits : Int))

/-- The exact result of a function of Table 5.1 for a finite nonzero operand of its domain, to some 250 bits. Arguments beyond
which FP32 cannot tell the results apart are held at 256 (exp), 40 (tanh) and 7 (erf); tanh and erf are asked for the magnitude
only. -/
def sfuExact (fn : Fin 6) (x : W32) : FV :=
  match ofFP32 x with
  | .fin neg m e =>
    let a := if e ≥ 10 then fxOne * 1024 else fxOf m e
    if fn = 0 then
      (let b := min a (256 * fxOne)
       let q := expFx (if neg then -b else b)
       .fin false q.1 q.2)
    else if fn = 1 then ofFx (logFx m e)
    else if fn = 3 then
      (let odd := e % 2 ≠ 0
       let k := if odd then 2 * m else m
       let g := if odd then e - 1 else e
       .fin false (isqrt (2 ^ (2 * sfuBits) / k)) (-(g / 2) - (sfuBits : Int)))
    else if fn = 4 then ofFx (tanhFx (min a (40 * fxOne)))
    else ofFx (erfFx (min a (7 * fxOne)))
  | v => v

/-- Largest error of Table 5.1, in units in the last place of the result. -/
def sfuUlp (fn : Fin 6) : Nat := if fn = 3 then 1 else if fn = 5 then 3 else 2

/-- Whether a finite FP32 word lies within `n` units in its last place of a value, subnormal words included (R121). -/
def withinUlp (n : Nat) (a : FV) (w : W32) : Bool :=
  let u : Int := (max (fld w 23 8) 1 : Nat) - 150
  match FV.add (ofFP32 w) (FV.neg a) with
  | .fin _ m e => if e ≥ u then decide (m <<< (e - u).toNat ≤ n) else decide (m ≤ n <<< (u - e).toNat)
  | _ => false

/-- A result inside the bound of Table 5.1: the candidate where it lies within the bound, else the exact result rounded. -/
def sfuResult (n : Nat) (a : FV) (w : W32) : W32 := if isFinite32 w && withinUlp n a w then w else toFP32 a

end Sys2Proof.Machine
end

