-- ==== Sys2Proof/Machine/Tensor.lean ====
section
/-! DEFINITION. The tensor array (R54 to R80): group partials, tree, pyramid, compensated total, and the MM instructions. -/

namespace Sys2Proof.Machine

/-! ### The summation sequence (R70 to R77) -/

/-- An operand of a chunk along K: element values and the scale code of each position's block (R58). -/
structure Lane1 where
  fmt : Fmt
  codes : List Nat
  scales : List Nat

/-- Block scale of position k (R70): 1 for a scalar operand. -/
def Lane1.scaleAt (l : Lane1) (k : Nat) : FV :=
  if l.fmt.isBlock then l.fmt.scale (l.scales.getD (k / l.fmt.block) 0) else .fin false 1 0

def Lane1.at_ (l : Lane1) (k : Nat) : FV := l.fmt.elem (l.codes.getD k 0)

/-- Exact sum of products of positions [lo, hi) of a row and a column, before the scales (R70). -/
def dotRange (a b : Lane1) (lo hi : Nat) : FV :=
  (List.range (hi - lo)).foldl (fun s i => FV.add s (FV.mul (a.at_ (lo + i)) (b.at_ (lo + i)))) (.fin false 0 0)

/-- A block scale of zero, with which every element of its block is a zero (R33). -/
def scalesZero (sa sb : FV) : Bool :=
  match FV.mul sa sb with
  | .fin _ k _ => k = 0
  | _ => false

/-- A group partial with its flags (R70, R75, R77). `tBad`: tA or tB is NaN or infinite. -/
def groupPartial (a b : Lane1) (tBad : Bool) (lo hi : Nat) : W32 × W32 :=
  if hi ≤ lo then (0, 0)
  else
    let infOp := (List.range (hi - lo)).any (fun i =>
      match a.at_ (lo + i), b.at_ (lo + i) with
      | .inf _, _ => true
      | _, .inf _ => true
      | _, _ => false)
    let f0 : W32 := if infOp then 4 else 0
    let sa := a.scaleAt lo
    let sb := b.scaleAt lo
    if tBad || sa = .nan || sb = .nan then (f32nan, f0 ||| 2)
    else
      match dotRange a b lo hi with
      | .nan => (f32nan, f0 ||| 2)
      | .inf n => if scalesZero sa sb then (f32nan, f0 ||| 2) else (toFP32 (.inf n), f0)
      | .fin n m e =>
        if m = 0 then (0, f0)
        else
          let r := toFP32 (FV.mul (FV.mul (.fin n m e) sa) sb)
          if scalesZero sa sb then (0, f0)
          else (r, f0 ||| (if isInf32 r then 1 else 0))

/-- Group partials of a chunk (R56, R59): positions at or beyond KLEN are +0. -/
def groupPartials (a b : Lane1) (tBad : Bool) (kc g klen : Nat) : List (W32 × W32) :=
  (List.range (kc / g)).map (fun q => groupPartial a b tBad (q * g) (min (q * g + g) klen))

/-- One tree level with its flags. -/
def treeFlags : List W32 → W32
  | x :: y :: r => accFlags (fadd x y) [x, y] ||| treeFlags r
  | _ => 0

/-- The tree result with flags (R71). -/
def treeN : Nat → List W32 → W32 → W32 × W32
  | 0, l, f => (l.headD 0, f)
  | n + 1, l, f => if l.length ≤ 1 then (l.headD 0, f) else treeN n (pairLevel l) (f ||| treeFlags l)

/-- The tree result of a chunk for one output element: value and flags. -/
def treeResult (a b : Lane1) (tBad : Bool) (kc g klen : Nat) : W32 × W32 :=
  let ps := groupPartials a b tBad kc g klen
  treeN 9 (ps.map (·.1)) (orAll (ps.map (·.2)))

/-- A run total enters the compensated pair by an error-free two-sum (R73). -/
def Elem.addTotal (x : Elem) (r : W32) : Elem × W32 :=
  let s := fadd x.hi r
  let f := accFlags s [x.hi, r]
  if !isFinite32 s then ({ x with hi := s, lo := 0 }, f)
  else
    let bb := fsub s x.hi
    let e := fadd (fsub x.hi (fsub s bb)) (fsub r bb)
    let lo := fadd x.lo e
    ({ x with hi := s, lo := lo }, f ||| accFlags lo [x.lo, e])

/-- A tree result enters the pyramid (R72) at level `l`; `n` levels remain below L. -/
def Elem.carry (x : Elem) : Nat → Nat → W32 → W32 → Elem × W32
  | 0, _, c, f =>
    let r := x.addTotal c
    (r.1, f ||| r.2)
  | n + 1, l, c, f =>
    let i : Fin 4 := fin l
    if bitOf x.occ l then
      let v := fadd x.lv[i] c
      Elem.carry { x with occ := setBit x.occ l false } n (l + 1) v (f ||| accFlags v [x.lv[i], c])
    else ({ x with lv := x.lv.set i c, occ := setBit x.occ l true }, f)

def Elem.enter (x : Elem) (runl : Nat) (t : W32) : Elem × W32 := x.carry runl 0 t 0

/-- Flush of an incomplete run, lowest occupied level first (R74). -/
def Elem.flush (x : Elem) : Elem × W32 :=
  let r := (List.range 4).foldl (fun (acc : Option W32 × W32) l =>
    if bitOf x.occ l then
      let v := x.lv[(fin l : Fin 4)]
      match acc.1 with
      | none => (some v, acc.2)
      | some y => (some (fadd v y), acc.2 ||| accFlags (fadd v y) [v, y])
    else acc) (none, 0)
  match r.1 with
  | none => (x, r.2)
  | some v =>
    let y := x.addTotal v
    ({ y.1 with occ := 0 }, r.2 ||| y.2)

/-- Words an element drains to (R74): one for MODE FP32, hi then lo for PAIR, with flags. -/
def Elem.drain (x : Elem) (pair : Bool) (sOut : W32) : List W32 × W32 :=
  let y := x.flush
  if pair then
    let h := fmul y.1.hi sOut
    let l := fmul y.1.lo sOut
    ([h, l], y.2 ||| accFlags h [y.1.hi, sOut] ||| accFlags l [y.1.lo, sOut])
  else
    let s := fadd y.1.hi y.1.lo
    let r := fmul s sOut
    ([r], y.2 ||| accFlags s [y.1.hi, y.1.lo] ||| accFlags r [s, sOut])

def Elem.init (hi lo : W32) : Elem := { lv := Vector.replicate 4 0, occ := 0, hi := hi, lo := lo }

/-! ### Reads of the array -/

/-- Read `n` rows of `len` bytes at base + i x pitch from the own pocket for the array. -/
def Device.mmRows (d : Device) (t : TileNo) (base pitch n len : Nat) : Except Got (List (List Byte)) × Device :=
  (List.range n).foldl (fun (acc : Except Got (List (List Byte)) × Device) i =>
    match acc.1 with
    | .error _ => acc
    | .ok l =>
      let r := acc.2.ownRead t .mm (base + i * pitch) len
      if r.1.st = .ok then (.ok (l ++ [r.1.bytes]), r.2) else (.error r.1, r.2)) (.ok [], d)

/-- Scale bytes of KLEN elements. -/
def scaleBytes (f : Fmt) (klen : Nat) : Nat := if f.isBlock then (klen + f.block - 1) / f.block else 0

/-- Element and scale codes of `n` rows or columns of KLEN elements (R58). -/
def Device.mmOperand (d : Device) (t : TileNo) (f : Fmt) (w : W128) (n klen : Nat) :
    Except Got (List (List Nat) × List (List Nat)) × Device :=
  let e := d.mmRows t (msEbase w) (msEpitch w) n (klen * f.bits / 8)
  match e.1 with
  | .error g => (.error g, e.2)
  | .ok rows =>
    let s := e.2.mmRows t (msSbase w) (msSpitch w) n (scaleBytes f klen)
    match s.1 with
    | .error g => (.error g, s.2)
    | .ok sc => (.ok (rows.map (unpackBytes f.bits klen), sc.map (fun l => l.map (·.toNat))), s.2)

/-- An FP32 word of the own pocket read by the array. -/
def Device.mmWord (d : Device) (t : TileNo) (off : Nat) : Except Got W32 × Device :=
  let r := d.ownRead t .mm off 4
  if r.1.st = .ok then (.ok (BitVec.ofNat 32 (leNat r.1.bytes)), r.2) else (.error r.1, r.2)

def Device.modMM (d : Device) (t : TileNo) (f : MM → MM) : Device := d.modTile t (fun x => { x with mm := f x.mm })

/-- A failed access of the array (R114). -/
def Device.mmFault (d : Device) (t : TileNo) (pcq : Nat) (g : Got) : Device :=
  d.faultTile t (faultOf g.st) (unitOf .mm) pcq (g.at_ / 2 ^ 24)

/-! ### The instructions -/

/-- MM.OPEN leaves the queue (R69); it completes when MM_TILE_INIT initialises its tile. -/
def Device.mmOpen (d : Device) (t : TileNo) (k : Nat) : Device :=
  match d.ready t .mm k .mmOpen with
  | none => d
  | some f =>
    if ((d.tiles[t]).mm.opening).isSome then d
    else (d.modMM t (fun m => { m with opening := some f.e })).performed t .mm k 1

def execMmOpen (t : TileNo) (ph : Phase) (s : State) : Host.Outcome State Fault Refusal :=
  onLive (fun d => match ph with
    | .issue => d.issueQ t .mmOpen
    | .perform k => d.mmOpen t k) s

/-- Initial values of an opening tile by INIT (R57, R69): ZERO, FP32, or PAIR rows read at INIT_BASE. -/
def Device.initElems (d : Device) (t : TileNo) (e : Entry) : Except Got (List (List Elem)) × Device :=
  let m := extent (moM e.word) e.bnd
  let n := extent (moN e.word) e.bnd
  let r := e.recs.getD 0 0
  if moInit e.word = 0 then (.ok (List.replicate m (List.replicate n (Elem.init 0 0))), d)
  else
    let pair := moInit e.word = 2
    let rows := d.mmRows t (mrInitBase r) (mrInitPitch r) m (if pair then 8 * n else 4 * n)
    match rows.1 with
    | .error g => (.error g, rows.2)
    | .ok l =>
      (.ok (l.map (fun bs =>
        let ws := (unpackBytes 32 (if pair then 2 * n else n) bs).map (BitVec.ofNat 32)
        (List.range n).map (fun j =>
          if pair then Elem.init (ws.getD (2 * j) 0) (ws.getD (2 * j + 1) 0) else Elem.init (ws.getD j 0) 0))), rows.2)

/-- A tensor scale read at MM.OPEN's initialisation, or 1.0 where the format has none (R57, R74). -/
def Device.tensorScale (d : Device) (t : TileNo) (need : Bool) (off : Nat) : Except Got W32 × Device :=
  if need then d.mmWord t off else (.ok f32one, d)

/-- MM_TILE_INIT (R69): once the previous drain has ended, the opening tile is initialised. A tensor scale that is not finite sets
SCALE_NAN (R53). -/
def Device.mmTileInit (d : Device) (t : TileNo) : Device :=
  let x := d.tiles[t]
  if !x.engineOn then d
  else
    match x.mm.opening, x.mm.tile with
    | some e, none =>
      let w := e.word
      let r := e.recs.getD 0 0
      let i := d.initElems t e
      match i.1 with
      | .error g => i.2.mmFault t e.pcq g
      | .ok el =>
        let a := i.2.tensorScale t (moFa w = 10) (mrTa r)
        match a.1 with
        | .error g => a.2.mmFault t e.pcq g
        | .ok ta =>
          let b := a.2.tensorScale t (moFb w = 10 || moFb w = 11) (mrTb r)
          match b.1 with
          | .error g => b.2.mmFault t e.pcq g
          | .ok tb =>
            let o : OpenTile := { m := extent (moM w) e.bnd, n := extent (moN w) e.bnd, fa := moFa w, fb := moFb w,
                                  runl := moRunl w, outId := BitVec.ofNat 20 (mrOutId r), ta := ta, tb := tb, elems := el, chunks := 0 }
            let d := if isFinite32 ta && isFinite32 tb then b.2 else b.2.orCvt t 0x40
            (d.modMM t (fun m => { m with tile := some o, opening := none, accCur := 0 })).modFlight t .mm (fun l =>
              l.map (fun f => if f.e = e && f.performed && f.awaits == 1 then { f with awaits := 0 } else f))
    | _, _ => d

def execMmTileInit (t : TileNo) (s : State) : Host.Outcome State Fault Refusal := onLive (fun d => d.mmTileInit t) s

/-- Flags the array sets in TILE_CVT_STATUS for the codes it reads (R29, R33, R34, R75). -/
def laneFlags (l : Lane1) (klen : Nat) (t : W32) : W32 :=
  if l.fmt.isBlock then
    orAll ((List.range klen).map (fun k => l.fmt.readFlags (l.codes.getD k 0) (l.scales.getD (k / l.fmt.block) 0) (some t)))
  else 0

/-- The rows or columns of a chunk. -/
def lanesOf (f : Fmt) (el sc : List (List Nat)) : List Lane1 :=
  el.zipIdx.map (fun q => { fmt := f, codes := q.1, scales := sc.getD q.2 [] })

/-- Flags of the codes and scales of a chunk, its tensor scale left aside. -/
def codeFlags (f : Fmt) (el sc : List (List Nat)) (klen : Nat) : W32 :=
  orAll ((lanesOf f el sc).map (fun l => laneFlags l klen f32one))

/-- MM.LDB (R58 to R60, R65): the next chunk of B into the buffer the previous load did not fill. The array reads B here, so here it
sets the flags of B's codes and scales (R29, R33, R34). -/
def Device.mmLdb (d : Device) (t : TileNo) (k : Nat) : Device :=
  match d.ready t .mm k .ldb with
  | none => d
  | some f =>
    let q := (d.tiles[t]).mm.loadFor
    let fmt := (Fmt.ofCode q.2).getD .bf16
    let klen := extent (mlKlen f.e.word) f.e.bnd
    let r := d.mmOperand t fmt f.e.word q.1 klen
    match r.1 with
    | .error g => r.2.mmFault t f.e.pcq g
    | .ok (el, sc) =>
      ((r.2.modMM t (fun m => { m with buf := m.buf.set m.rbNext (some { fb := q.2, klen := klen, elems := el, scales := sc }),
                                       rbNext := m.rbNext + 1, rbLoaded := true })).orCvt t (codeFlags fmt el sc klen)).performed t .mm k 0

def execMmLdb (t : TileNo) (ph : Phase) (s : State) : Host.Outcome State Fault Refusal :=
  onLive (fun d => match ph with
    | .issue => d.issueQ t .ldb
    | .perform k => d.mmLdb t k) s

/-- One chunk streamed into the open tile: new elements and ACC flags (R66, R70 to R77). -/
def OpenTile.stream (o : OpenTile) (rows cols : List Lane1) (kc g klen : Nat) : List (List Elem) × W32 :=
  let tBad := !isFinite32 o.ta || !isFinite32 o.tb
  let out := (o.elems.zip rows).map (fun (re : List Elem × Lane1) => (re.1.zip cols).map (fun (ec : Elem × Lane1) =>
    let t := treeResult re.2 ec.2 tBad kc g klen
    let e := ec.1.enter o.runl t.1
    let f := t.2 ||| e.2
    (e.1, f)))
  (out.map (fun r => r.map (·.1)), orAll (out.flatten.map (·.2)))

/-- Whether a loaded chunk was read for an output tile of the same shape: the same B format, every column, no more K positions than the
pair of formats has (R58, R59). One loaded for an earlier tile may not be. -/
def Chunk.serves (b : Chunk) (o : OpenTile) (kc : Nat) : Bool := b.fb = o.fb && decide (o.n ≤ b.elems.length) && decide (b.klen ≤ kc)

/-- A chunk that does not serve the open tile is streamed: the manual states no tree results for it, so each is a free value, and the
pyramid, the total and ACC_NAN follow from them (log 7, log 27). -/
def OpenTile.streamFree (o : OpenTile) (n0 : Nat) : List (List Elem) × W32 :=
  let out := o.elems.zipIdx.map (fun (re : List Elem × Nat) => re.1.zipIdx.map (fun (ec : Elem × Nat) =>
    let t := canon32 ((Config.freeValue (n0 + re.2 * o.n + ec.2)).setWidth 32)
    let e := ec.1.enter o.runl t
    (e.1, (if isNan32 t then 2 else 0) ||| e.2)))
  (out.map (fun r => r.map (·.1)), orAll (out.flatten.map (·.2)))

/-- Flags of a streamed chunk (R75): those of A's codes and scales; a tensor scale of B that is not finite makes each of its blocks a
NaN block (R34). B's own codes set theirs when MM.LDB reads them. -/
def strmFlags (fb : Fmt) (rows : List Lane1) (klen : Nat) (ta tb : W32) : W32 :=
  orAll (rows.map (fun l => laneFlags l klen ta)) ||| (if fb.isBlock && !fb.isMx && !isFinite32 tb then 0x40 else 0)

/-- MM.STRM (R58 to R60, R66, R70 to R77): the A chunk against the most recently loaded B chunk. The array broadcasts one row
each tc (R54), which cnt.tile.array_tc counts (R446). -/
def Device.mmStrm (d : Device) (t : TileNo) (k : Nat) : Device :=
  match d.ready t .mm k .strm with
  | none => d
  | some f =>
    let m := (d.tiles[t]).mm
    match m.opening, m.tile, m.buf[m.rbNext + 1] with
    | none, some o, some b =>
      let fa := (Fmt.ofCode o.fa).getD .bf16
      let fb := (Fmt.ofCode o.fb).getD .bf16
      let kc := (kcOf o.fa o.fb).getD 32
      let r := d.mmOperand t fa f.e.word o.m b.klen
      match r.1 with
      | .error g => r.2.mmFault t f.e.pcq g
      | .ok (el, sc) =>
        let rows := lanesOf fa el sc
        let cols := lanesOf fb b.elems b.scales
        let fits := b.serves o kc
        let s := if fits then o.stream rows cols kc (groupOf fa fb kc) b.klen else o.streamFree r.2.freeCount
        let cf := strmFlags fb rows b.klen o.ta o.tb
        let d := { r.2 with freeCount := if fits then r.2.freeCount else r.2.freeCount + o.m * o.n }
        let d := d.modMM t (fun m => { m with tile := some { o with elems := s.1, chunks := min (o.chunks + 1) 4095 },
                                                rbLoaded := false, accCur := m.accCur ||| s.2 })
        let d := d.modTile t (fun x => { x with cntArray := x.cntArray + BitVec.ofNat 64 o.m })
        (d.orCvt t cf).performed t .mm k 0
    | _, _, _ => d

def execMmStrm (t : TileNo) (ph : Phase) (s : State) : Host.Outcome State Fault Refusal :=
  onLive (fun d => match ph with
    | .issue => d.issueQ t .strm
    | .perform k => d.mmStrm t k) s

/-- The words each row of a tile drains to, with their flags (R74). -/
def OpenTile.drained (o : OpenTile) (pair : Bool) (sOut : W32) : List (List (List W32 × W32)) :=
  o.elems.map (fun r => r.map (fun x => x.drain pair sOut))

/-- The bytes of a drained row. -/
def drainBytes (r : List (List W32 × W32)) : List Byte := (r.flatMap (·.1)).flatMap (fun v => leBytes 4 v.toNat)

/-- MM.DRAIN (R68, R74): every element completed, scaled and written; the tile closes when it completes. -/
def Device.mmDrain (d : Device) (t : TileNo) (k : Nat) : Device :=
  match d.ready t .mm k .drain with
  | none => d
  | some f =>
    let w := f.e.word
    let m := (d.tiles[t]).mm
    match m.tile with
    | some o =>
      let sOut := fmul (fmul o.ta o.tb) (mdOsc w)
      let out := o.drained (mdMode w = 1) sOut
      let fl := accFlags (fmul o.ta o.tb) [o.ta, o.tb] ||| accFlags sOut [fmul o.ta o.tb, mdOsc w] ||| orAll (out.flatten.map (·.2))
      let a := out.zipIdx.foldl (fun (acc : (ASt × Nat) × Device) r =>
        if acc.1.1 ≠ .ok then acc
        else
          let off := mdDbase w + r.2 * mdDpitch w
          let x := acc.2.ownWrite t .mm off (drainBytes r.1)
          ((x.1, off), x.2)) ((.ok, 0), d)
      if a.1.1 ≠ .ok then a.2.mmFault t f.e.pcq { st := a.1.1, bytes := [], at_ := a.1.2 }
      else (a.2.modMM t (fun m => { m with accCur := m.accCur ||| fl })).performed t .mm k 0
    | none => d

def execMmDrain (t : TileNo) (ph : Phase) (s : State) : Host.Outcome State Fault Refusal :=
  onLive (fun d => match ph with
    | .issue => d.issueQ t .drain
    | .perform k => d.mmDrain t k) s

/-- TILE_MM_STATE (R79, Table 3.8): the fields of the open tile read 0 while none is open. -/
def MM.stateWord (m : MM) : W32 :=
  BitVec.ofNat 32 ((match m.tile with
    | some o => 1 + o.runl <<< 1 + (o.m - 1) <<< 4 + (o.n - 1) <<< 11 + o.chunks <<< 20
    | none => 0) + m.rbNext.val <<< 18 + m.rbLoaded.toNat <<< 19)

end Sys2Proof.Machine
end

