-- ==== Sys2Proof/Machine/Vector.lean ====
section
/-! DEFINITION. The vector engine, its quantiser, rotation unit and selection unit (R117 to R135). -/

namespace Sys2Proof.Machine

/-- What a VX instruction leaves: pocket writes, flags of TILE_VX_STATUS and TILE_CVT_STATUS, and a report. -/
structure VOut where
  writes : List (Nat × List Byte)
  vx : W32
  cvt : W32
  report : Option Report

def VOut.of (off : Nat) (bs : List Byte) (vx : W32) : VOut := { writes := [(off, bs)], vx := vx, cvt := 0, report := none }

/-- LEN of a VX instruction. -/
def vxN (e : Entry) : Nat := extent (vxLen e.word) e.bnd

/-- Source elements decoded to FP32 (R117). -/
def vxDecode (w : W128) (bs : List Byte) : List W32 :=
  if vxFmt w = 0 then (unpackBytes 32 (bs.length / 4) bs).map (BitVec.ofNat 32)
  else (unpackBytes 16 (bs.length / 2) bs).map (fun c => BitVec.ofNat 32 (c <<< 16))

/-- Results in VFMT (R117): BF16 by one more rounding; a finite value that becomes an infinity there sets VX_OVF. -/
def vxEncode (w : W128) (rs : List W32) : List Byte × W32 :=
  if vxFmt w = 0 then (rs.flatMap (fun r => leBytes 4 r.toNat), 0)
  else
    let cs := rs.map (fun r => encBF16.roundIeee (ofFP32 r))
    (cs.flatMap (leBytes 2), if (rs.zip cs).any (fun p => isFinite32 p.1 && p.2 % 32768 = 0x7F80) then vxOvf else 0)

/-- Read elements at an offset. -/
def Device.vxRead (d : Device) (t : TileNo) (w : W128) (off n : Nat) : Except (ASt × Nat) (List W32) × Device :=
  let r := d.ownRead t .vx off (n * vfBytes w)
  if r.1.st = .ok then (.ok (vxDecode w r.1.bytes), r.2) else (.error (r.1.st, r.1.at_), r.2)

/-- Pocket writes in turn; the first that fails ends them. -/
def Device.vxWrites (d : Device) (t : TileNo) (l : List (Nat × List Byte)) : (ASt × Nat) × Device :=
  l.foldl (fun (acc : (ASt × Nat) × Device) r =>
    if acc.1.1 ≠ .ok then acc
    else
      let x := acc.2.ownWrite t .vx r.1 r.2
      ((x.1, r.1), x.2)) ((.ok, 0), d)

/-- A VX instruction performed (R119, R135): LEN 0 reads and writes nothing; a range in the clasp region faults; otherwise
the results are written, the flags set and the report sent. -/
def Device.vxRun (d : Device) (t : TileNo) (k : Nat) (op : TOp)
    (f : Entry → CtxNo → Device → Except (ASt × Nat) VOut × Device) : Device :=
  match d.ready t .vx k op, d.owner t with
  | some fl, some (p, c) =>
    let e := fl.e
    if vxN e = 0 then d.performed t .vx k 0
    else
      let v := vxRanges op e.word (e.recs.getD 0 0) (vxN e)
      match (v.reads ++ v.inplace ++ v.writes).find? (fun r => r.2 ≠ 0 && decide (r.1 + r.2 > claspBase)) with
      | some r => d.execFault t .vx fl fcClaspRegion (r.1 / 2 ^ 24)
      | none =>
        let o := f e c d
        match o.1 with
        | .error (st, at_) => o.2.accessFailed t .vx k fl p st at_
        | .ok x =>
          let w := o.2.vxWrites t x.writes
          if w.1.1 ≠ .ok then w.2.accessFailed t .vx k fl p w.1.1 w.1.2
          else
            let d := (w.2.orVx t x.vx).orCvt t x.cvt
            let d := match x.report with
              | some r => { d with sentReports := d.sentReports ++ [r] }
              | none => d
            d.performed t .vx k 0
  | _, _ => d

/-- Both events of a VX row: issue, and performance by `f`. -/
def vxRow (t : TileNo) (ph : Phase) (op : TOp) (f : Entry → CtxNo → Device → Except (ASt × Nat) VOut × Device) (s : State) :
    Host.Outcome State Fault Refusal :=
  onLive (fun d => match ph with
    | .issue => d.issueQ t op
    | .perform k => d.vxRun t k op f) s

/-! ### Element-wise operations (R118) -/

/-- MOV: elements copied unchanged; a NaN read is flagged (R135). -/
def vxMovF (t : TileNo) (e : Entry) (_c : CtxNo) (d : Device) : Except (ASt × Nat) VOut × Device :=
  let w := e.word
  let r := d.ownRead t .vx (vxSrc0 w) (vxN e * vfBytes w)
  if r.1.st = .ok then (.ok (VOut.of (vxDst w) r.1.bytes (nanInFlag (vxDecode w r.1.bytes))), r.2)
  else (.error (r.1.st, r.1.at_), r.2)

/-- Element results with their flags, written in VFMT at DST. -/
def vxElems (w : W128) (srcs : List W32) (rs : List (W32 × W32)) : VOut :=
  let o := vxEncode w (rs.map (·.1))
  VOut.of (vxDst w) o.1 (nanInFlag srcs ||| orAll (rs.map (·.2)) ||| o.2)

/-- Two-source operations. -/
def vxBin (t : TileNo) (g : W32 → W32 → W32 × W32) (e : Entry) (_c : CtxNo) (d : Device) : Except (ASt × Nat) VOut × Device :=
  let w := e.word
  let a := d.vxRead t w (vxSrc0 w) (vxN e)
  match a.1 with
  | .error x => (.error x, a.2)
  | .ok xs =>
    let b := a.2.vxRead t w (vxSrc1 w) (vxN e)
    match b.1 with
    | .error x => (.error x, b.2)
    | .ok ys => (.ok (vxElems w (xs ++ ys) ((xs.zip ys).map (fun p => g p.1 p.2))), b.2)

def withFlags (r : W32) (args : List W32) : W32 × W32 := (r, opFlags r args)

/-- FMA: SRC0 x SRC1 + DST with one rounding. -/
def vxFmaF (t : TileNo) (e : Entry) (_c : CtxNo) (d : Device) : Except (ASt × Nat) VOut × Device :=
  let w := e.word
  let a := d.vxRead t w (vxSrc0 w) (vxN e)
  match a.1 with
  | .error x => (.error x, a.2)
  | .ok xs =>
    let b := a.2.vxRead t w (vxSrc1 w) (vxN e)
    match b.1 with
    | .error x => (.error x, b.2)
    | .ok ys =>
      let c := b.2.vxRead t w (vxDst w) (vxN e)
      match c.1 with
      | .error x => (.error x, c.2)
      | .ok zs => (.ok (vxElems w (xs ++ ys ++ zs) ((xs.zip (ys.zip zs)).map (fun p =>
          withFlags (ffma p.1 p.2.1 p.2.2) [p.1, p.2.1, p.2.2]))), c.2)

def execVxMov (t : TileNo) (ph : Phase) (s : State) : Host.Outcome State Fault Refusal := vxRow t ph .mov (vxMovF t) s
def execVxAdd (t : TileNo) (ph : Phase) (s : State) : Host.Outcome State Fault Refusal :=
  vxRow t ph .add (vxBin t (fun a b => withFlags (fadd a b) [a, b])) s
def execVxSub (t : TileNo) (ph : Phase) (s : State) : Host.Outcome State Fault Refusal :=
  vxRow t ph .sub (vxBin t (fun a b => withFlags (fsub a b) [a, b])) s
def execVxMul (t : TileNo) (ph : Phase) (s : State) : Host.Outcome State Fault Refusal :=
  vxRow t ph .mul (vxBin t (fun a b => withFlags (fmul a b) [a, b])) s
def execVxFma (t : TileNo) (ph : Phase) (s : State) : Host.Outcome State Fault Refusal := vxRow t ph .fma (vxFmaF t) s
def execVxMax (t : TileNo) (ph : Phase) (s : State) : Host.Outcome State Fault Refusal :=
  vxRow t ph .max (vxBin t (fun a b => (fmax a b, 0))) s
def execVxMin (t : TileNo) (ph : Phase) (s : State) : Host.Outcome State Fault Refusal :=
  vxRow t ph .min (vxBin t (fun a b => (fmin a b, 0))) s

/-! ### Special functions (R121, Table 5.1) -/

def f32inf (neg : Bool) : W32 := if neg then 0xFF800000#32 else 0x7F800000#32

/-- A result of SFU that the table does not name exactly: the free result of log 8 where it keeps the bound of R121, else the exact
result rounded. -/
def sfuBounded (fn : Fin 6) (x : W32) : W32 := sfuResult (sfuUlp fn) (sfuExact fn x) (Config.sfuFree fn x)

/-- exp of a finite nonzero operand overflows: its exact result rounds beyond the largest finite value (Table 5.1). -/
def expOverflows (x : W32) : Bool := isInf32 (toFP32 (sfuExact 0 x))

/-- One element of SFU with its flags; results the table names exactly, a result inside the bound otherwise. -/
def sfu1 (fn : Fin 6) (x : W32) : W32 × W32 :=
  let neg := bitOf x 31
  if isNan32 x then (f32nan, 0)
  else if fn = 2 then (let r := fdiv f32one x
                       (r, if isInf32 r && !isZero32 x then vxOvf else 0))
  else if fn = 0 then
    if isZero32 x then (f32one, 0)
    else if isInf32 x then (if neg then 0 else x, 0)
    else if expOverflows x then (f32inf false, vxOvf)
    else (sfuBounded fn x, 0)
  else if fn = 1 then
    if isZero32 x then (f32inf true, 0)
    else if neg then (f32nan, vxInvalid)
    else if isInf32 x then (x, 0)
    else if x = f32one then (0, 0)
    else (sfuBounded fn x, 0)
  else if fn = 3 then
    if isZero32 x then (f32inf neg, 0)
    else if neg then (f32nan, vxInvalid)
    else if isInf32 x then (0, 0)
    else (sfuBounded fn x, 0)
  else
    if isZero32 x then (x, 0)
    else if isInf32 x then (if neg then fneg f32one else f32one, 0)
    else (let r := sfuBounded fn (fabs x)
          (if neg then fneg r else r, 0))

def vxSfuF (t : TileNo) (e : Entry) (_c : CtxNo) (d : Device) : Except (ASt × Nat) VOut × Device :=
  let w := e.word
  let a := d.vxRead t w (vxSrc0 w) (vxN e)
  match a.1 with
  | .error x => (.error x, a.2)
  | .ok xs => (.ok (vxElems w xs (xs.map (sfu1 (fin (vxFunc w))))), a.2)

def execVxSfu (t : TileNo) (ph : Phase) (s : State) : Host.Outcome State Fault Refusal := vxRow t ph .sfu (vxSfuF t) s

/-! ### Reductions (R122, R123) -/

/-- Position and value of an arg reduction: the lowest position of a NaN, else of the extreme value with -0 equal to +0. -/
def argRed (small : Bool) (xs : List W32) : Nat × W32 :=
  match xs.findIdx? isNan32 with
  | some p => (p, f32nan)
  | none =>
    (xs.zipIdx.foldl (fun (acc : Nat × W32) p =>
      if (if small then fkeyEq p.1 < fkeyEq acc.2 else fkeyEq p.1 > fkeyEq acc.2) then (p.2, p.1) else acc) (0, xs.headD 0))

/-- Result bytes and flags of RED; a NaN is written as the default NaN (R39). -/
def redOut (fn : Nat) (xs : List W32) : List Byte × W32 :=
  if fn = 0 then (leBytes 4 (canon32 (pairSum xs)).toNat, pairSumFlags xs)
  else if fn = 5 then
    let sq := xs.map (fun x => fmul x x)
    (leBytes 4 (pairSum sq).toNat, pairSumFlags sq ||| orAll (xs.map (fun x => opFlags (fmul x x) [x, x])))
  else if fn = 1 then (leBytes 4 (xs.tail.foldl fmax (fmax (xs.headD 0) (xs.headD 0))).toNat, 0)
  else if fn = 2 then (leBytes 4 (xs.tail.foldl fmin (fmin (xs.headD 0) (xs.headD 0))).toNat, 0)
  else (let r := argRed (fn = 4) xs
        (leBytes 4 r.2.toNat ++ leBytes 4 r.1, 0))

def vxRedF (t : TileNo) (e : Entry) (_c : CtxNo) (d : Device) : Except (ASt × Nat) VOut × Device :=
  let w := e.word
  let a := d.vxRead t w (vxSrc0 w) (vxN e)
  match a.1 with
  | .error x => (.error x, a.2)
  | .ok xs => (let o := redOut (vxFunc w) xs
               (.ok (VOut.of (vxDst w) o.1 (nanInFlag xs ||| o.2)), a.2))

def execVxRed (t : TileNo) (ph : Phase) (s : State) : Host.Outcome State Fault Refusal := vxRow t ph .red (vxRedF t) s

/-! ### The quantiser (R124 to R129) -/

/-- Consecutive pieces of `n` elements. -/
def piecesN : Nat → Nat → List W32 → List (List W32)
  | 0, _, _ => []
  | f + 1, n, l => if l = [] || n = 0 then [] else l.take n :: piecesN f n (l.drop n)

def pieces (n : Nat) (l : List W32) : List (List W32) := piecesN l.length n l

/-- The value AMAX writes for one block (R124). -/
def blockAmax (f : Fmt) (xs : List W32) : W32 :=
  if xs.any (fun x => !isFinite32 x) then f32nan
  else if f = .t2 then fdiv (pairSum (xs.map fabs)) (fofNat xs.length)
  else amaxOf xs

/-- Flags of AMAX over one block: the sum and the division of a T2 mean (R50, R135). -/
def blockAmaxFlags (f : Fmt) (xs : List W32) : W32 :=
  if f = .t2 && xs.all isFinite32 then
    let s := pairSum (xs.map fabs)
    pairSumFlags (xs.map fabs) ||| opFlags (fdiv s (fofNat xs.length)) [s]
  else 0

/-- A stored amax: NaN, negative and -0 count as +0 (R124). -/
def storedAmax (old : W32) : W32 := if isNan32 old || bitOf old 31 then 0 else old

def vxAmaxF (t : TileNo) (e : Entry) (_c : CtxNo) (d : Device) : Except (ASt × Nat) VOut × Device :=
  let w := e.word
  let a := d.vxRead t w (vxSrc0 w) (vxN e)
  match a.1 with
  | .error x => (.error x, a.2)
  | .ok xs =>
    let fl := nanInFlag xs ||| (if xs.any (fun x => !isFinite32 x) then vxNonFin else 0)
    if vxFunc w % 2 = 1 then
      let f := (Fmt.ofCode (ctlFmt (crCtl (e.recs.getD 0 0)))).getD .fp32
      let ps := pieces (if f.isBlock then f.block else 32) xs
      (.ok (VOut.of (vxDst w) ((ps.map (blockAmax f)).flatMap (fun v => leBytes 4 v.toNat))
        (fl ||| orAll (ps.map (blockAmaxFlags f)))), a.2)
    else
      let best := amaxOf (xs.filter isFinite32)
      if vxFunc w / 2 % 2 = 1 then
        let o := a.2.ownRead t .vx (vxDst w) 4
        if o.1.st ≠ .ok then (.error (o.1.st, o.1.at_), o.2)
        else
          let old := storedAmax (BitVec.ofNat 32 (leNat o.1.bytes))
          (.ok (VOut.of (vxDst w) (leBytes 4 (if best.toNat < old.toNat then old else best).toNat) fl), o.2)
      else (.ok (VOut.of (vxDst w) (leBytes 4 best.toNat) fl), a.2)

def execVxAmax (t : TileNo) (ph : Phase) (s : State) : Host.Outcome State Fault Refusal := vxRow t ph .amax (vxAmaxF t) s

/-- Values TMODE 1 writes at TSC (Table 5.3): the encoding value first. -/
def derived (f : Fmt) (a : W32) : List W32 :=
  let k : W32 := match f with
    | .sx4 => 0x45280000#32 | .t2 => 0x43E00000#32 | .e4m3 => 0x43E00000#32 | .e5m2 => 0x47600000#32 | _ => 0x40E00000#32
  if isZero32 a then List.replicate (deriveWords f) f32one
  else if f = .sx4 || f = .t2 then [fdiv a k] else [fdiv k a, fdiv a k]

/-- Totals of a statistics record (Table 5.4). -/
structure Stats where
  blocks : Nat
  sat : Nat
  unf : Nat
  nanblk : Nat
  zblk : Nat
  err : W32
  sig : W32
  amax : W32
  wrel : W32
deriving DecidableEq, Repr

/-- One measured block (R128). -/
structure BStat where
  sat : Nat
  unf : Nat
  nan : Bool
  zero : Bool
  err : W32
  sig : W32
  /-- TILE_VX_STATUS flags of the sums (R135) -/
  vx : W32 := 0

/-- fp32((y - yhat)^2) and fp32(y^2), each of the exact value (R128). -/
def errOf (y h : W32) : W32 :=
  let x := FV.add (ofFP32 y) (FV.neg (ofFP32 h))
  toFP32 (FV.mul x x)
def sigOf (y : W32) : W32 := toFP32 (FV.mul (ofFP32 y) (ofFP32 y))

def measured (sat unf : Nat) (ys hs : List W32) : BStat :=
  let es := (ys.zip hs).map (fun p => errOf p.1 p.2)
  let ss := ys.map sigOf
  { sat := sat, unf := unf, nan := false, zero := false, err := pairSum es, sig := pairSum ss,
    vx := pairSumFlags es ||| pairSumFlags ss ||| orAll ((ys.zip hs).map (fun p => opFlags (errOf p.1 p.2) [p.1, p.2]))
      ||| orAll (ys.map (fun y => opFlags (sigOf y) [y])) }

/-- The larger of two FP32 values; a NaN never wins over a number. -/
def keepMax (a b : W32) : W32 := if isNan32 a then b else if isNan32 b then a else if fkey a < fkey b then b else a

/-- Statistics of an instruction from its blocks and inputs (R128). -/
def statsOf (bs : List BStat) (xs : List W32) : Stats :=
  let num (f : BStat → Nat) : Nat := (bs.map f).foldl (· + ·) 0
  let live := bs.filter (fun b => !b.nan && !b.zero)
  { blocks := bs.length, sat := num (fun b => if b.nan then 0 else b.sat), unf := num (fun b => if b.nan then 0 else b.unf),
    nanblk := num (fun b => b.nan.toNat), zblk := num (fun b => b.zero.toNat),
    err := pairSum (live.map (·.err)), sig := pairSum (live.map (·.sig)), amax := amaxOf (xs.filter isFinite32),
    wrel := live.foldl (fun a b => if isZero32 b.sig || isNan32 b.sig then a else keepMax a (fdiv b.err b.sig)) 0 }

/-- TILE_VX_STATUS flags of an instruction's statistics (R135): the sums of the blocks, of the instruction, and the ratios. -/
def statFlags (bs : List BStat) : W32 :=
  let live := bs.filter (fun b => !b.nan && !b.zero)
  orAll (live.map (·.vx)) ||| pairSumFlags (live.map (·.err)) ||| pairSumFlags (live.map (·.sig))
    ||| orAll ((live.filter (fun b => !isZero32 b.sig)).map (fun b => opFlags (fdiv b.err b.sig) [b.err, b.sig]))

/-- Flags of the additions into a stored record (R129, R135). -/
def Stats.accFlags (n : Stats) (o : W256) : W32 :=
  let fw i : W32 := BitVec.ofNat 32 (fld o i 32)
  opFlags (fadd (fw 128) n.err) [fw 128, n.err] ||| opFlags (fadd (fw 160) n.sig) [fw 160, n.sig]

/-- Accumulate into a stored record (R129). -/
def Stats.acc (n : Stats) (o : W256) : Stats :=
  let fw i : W32 := BitVec.ofNat 32 (fld o i 32)
  { blocks := n.blocks + fld o 0 32, sat := n.sat + fld o 32 32, unf := n.unf + fld o 64 32, nanblk := n.nanblk + fld o 96 16,
    zblk := n.zblk + fld o 112 16, err := fadd (fw 128) n.err, sig := fadd (fw 160) n.sig, amax := keepMax (fw 192) n.amax,
    wrel := keepMax (fw 224) n.wrel }

/-- The record as stored (Table 5.4): counts saturate at their fields' maxima. -/
def Stats.word (s : Stats) : W256 :=
  BitVec.ofNat 256 (min s.blocks (2 ^ 32 - 1) + min s.sat (2 ^ 32 - 1) <<< 32 + min s.unf (2 ^ 32 - 1) <<< 64
    + min s.nanblk 65535 <<< 96 + min s.zblk 65535 <<< 112 + s.err.toNat <<< 128 + s.sig.toNat <<< 160
    + s.amax.toNat <<< 192 + s.wrel.toNat <<< 224)

/-- What the encoding of the elements gives: element bytes, scale bytes, flags, measured blocks. -/
structure QOut where
  codes : List Nat
  scales : List Nat
  flags : W32
  stats : List BStat

/-- Scalar targets (VX.CVT): elements encoded after the multiplier; statistics blocks of 32 (R128). DEDUCED (log 27): equal formats are
copied bit for bit and set no flag, as R104 says of LD and ST and as Table 4.11's 'per R104' is read. -/
def encodeScalars (w : W128) (r : W256) (f : Fmt) (m : Option W32) (seed : Nat) (xs : List W32) : QOut :=
  let c := crCtl r
  let i0 := 64 * crEidx r
  let out := xs.zipIdx.map (fun p =>
    let y := match m with
      | some k => fmul p.1 k
      | none => p.1
    let cv : Cvt := if f.code = vxFmt w then ⟨if f = .fp32 then p.1.toNat else p.1.toNat >>> 16, 0⟩
                    else cvtFrom f (rndOf (ctlRnd c) seed (i0 + p.2)) (ctlSat c) p.1 y
    (p.1, y, cv))
  let blk (l : List (W32 × W32 × Cvt)) : BStat :=
    if l.any (fun q => !isFinite32 q.1 || (match f.elem q.2.2.code with | .fin _ _ _ => false | _ => true)) then
      { sat := 0, unf := 0, nan := true, zero := false, err := 0, sig := 0 }
    else measured (countFlag 1 (l.map (·.2.2))) (countFlag 4 (l.map (·.2.2))) (l.map (·.2.1)) (l.map (fun q => f.hat q.2.2.code))
  { codes := out.map (·.2.2.code), scales := [], flags := orAll (out.map (·.2.2.flags)),
    stats := (List.range ((xs.length + 31) / 32)).map (fun b => blk ((out.drop (32 * b)).take 32)) }

/-- Block targets (VX.QUANT, R47 to R50, R128). -/
def encodeBlocks (r : W256) (f : Fmt) (t : W32) (seed : Nat) (xs : List W32) : QOut :=
  let c := crCtl r
  let bs := (pieces f.block xs).zipIdx.map (fun p =>
    encodeBlock f (ctlScale c = 1) t (rndOf (ctlRnd c) seed) (64 * crEidx r + p.2 * f.block) p.1)
  { codes := bs.flatMap (·.codes), scales := bs.map (·.scale), flags := orAll (bs.map (·.flags)),
    stats := bs.map (fun b =>
      if b.nanBlk then { sat := 0, unf := 0, nan := true, zero := false, err := 0, sig := 0 }
      else if b.zeroBlk then { sat := b.sat, unf := b.unf, nan := false, zero := true, err := 0, sig := 0 }
      else measured b.sat b.unf b.ys (b.codes.map f.hat)) }

/-- The scale or multiplier of a conversion (R126): what is written at TSC, the value used, VX flags. -/
def Device.convScale (d : Device) (t : TileNo) (r : W256) (f : Fmt) :
    Except (ASt × Nat) (List W32 × Option W32 × W32) × Device :=
  let stored (d : Device) (fl : W32) : Except (ASt × Nat) (List W32 × Option W32 × W32) × Device :=
    if (f.isBlock && !f.isMx) || convMul (crCtl r) f then
      let q := d.ownRead t .vx (crTsc r) 4
      if q.1.st = .ok then (.ok ([], some (BitVec.ofNat 32 (leNat q.1.bytes)), fl), q.2) else (.error (q.1.st, q.1.at_), q.2)
    else (.ok ([], none, fl), d)
  if crTmode r = 1 && deriveWords f ≠ 0 then
    let q := d.ownRead t .vx (crAoff r) 4
    if q.1.st ≠ .ok then (.error (q.1.st, q.1.at_), q.2)
    else
      let a := BitVec.ofNat 32 (leNat q.1.bytes)
      if isFinite32 a then
        let v := derived f a
        let used := if f.isBlock || convMul (crCtl r) f then v.head? else none
        (.ok (v, used, if !isZero32 a && v.any isInf32 then vxOvf else 0), q.2)
      else stored q.2 vxNonFin
  else stored d 0

/-- VX.CVT and VX.QUANT (R125 to R129). -/
def vxConvF (t : TileNo) (quant : Bool) (e : Entry) (c : CtxNo) (d : Device) : Except (ASt × Nat) VOut × Device :=
  let w := e.word
  let r := e.recs.getD 0 0
  let f := (Fmt.ofCode (ctlFmt (crCtl r))).getD .fp32
  let a := d.vxRead t w (vxSrc0 w) (vxN e)
  match a.1 with
  | .error x => (.error x, a.2)
  | .ok xs =>
    let s := a.2.convScale t r f
    match s.1 with
    | .error x => (.error x, s.2)
    | .ok (tw, used, fl) =>
      let seed := seedOf (d.tiles[t]).step (crTensor r) 0 t.val
      let q := if quant then encodeBlocks r f (used.getD f32one) seed xs else encodeScalars w r f used seed xs
      let writes := [(vxDst w, packBytes f.bits q.codes)]
        ++ (if quant then [(crPsc r, q.scales.map (BitVec.ofNat 8))] else [])
        ++ (if tw = [] then [] else [(crTsc r, tw.flatMap (fun v => leBytes 4 v.toNat))])
      if crSten r then
        let n := statsOf q.stats xs
        let o := if crStacc r then s.2.ownRead t .vx (crStat r) 32 else ({ st := .ok, bytes := [], at_ := 0 }, s.2)
        if o.1.st ≠ .ok then (.error (o.1.st, o.1.at_), o.2)
        else
          let old : W256 := BitVec.ofNat 256 (leNat o.1.bytes)
          let rec_ := (if crStacc r then n.acc old else n).word
          let vf := statFlags q.stats ||| (if crStacc r then n.accFlags old else 0)
          (.ok { writes := writes ++ [(crStat r, leBytes 32 rec_.toNat)], vx := fl ||| vf, cvt := q.flags,
                 report := if crStrep r then
                     some (.stat c t (BitVec.ofNat 20 (crTensor r)) rec_ (if f.isBlock then f.block else 32)) else none }, o.2)
      else (.ok { writes := writes, vx := fl, cvt := q.flags, report := none }, s.2)

def execVxCvt (t : TileNo) (ph : Phase) (s : State) : Host.Outcome State Fault Refusal := vxRow t ph .cvt (vxConvF t false) s
def execVxQuant (t : TileNo) (ph : Phase) (s : State) : Host.Outcome State Fault Refusal := vxRow t ph .quant (vxConvF t true) s

/-! ### The rotation unit (R130) -/

/-- c_n (R130). -/
def rotScale (lg : Nat) : W32 :=
  if lg = 4 then 0x3E800000#32 else if lg = 5 then 0x3E3504F3#32 else if lg = 6 then 0x3E000000#32
  else if lg = 7 then 0x3DB504F3#32 else 0x3D800000#32

def signed (neg : Bool) (x : W32) : W32 := if neg then (if isNan32 x then f32nan else fneg x) else x

/-- One butterfly stage over a group, with flags: partners differ in bit `st`. -/
def butterfly (st : Nat) (x : List W32) : List W32 × W32 :=
  let out := (List.range x.length).map (fun a =>
    if a / 2 ^ st % 2 = 0 then withFlags (fadd (x.getD a 0) (x.getD (a + 2 ^ st) 0)) [x.getD a 0, x.getD (a + 2 ^ st) 0]
    else withFlags (fsub (x.getD (a - 2 ^ st) 0) (x.getD a 0)) [x.getD (a - 2 ^ st) 0, x.getD a 0])
  (out.map (·.1), orAll (out.map (·.2)))

/-- The transform of one group; `i0` is the element index of its first element (R130). -/
def rotGroup (lg : Nat) (inverse : Bool) (seed i0 : Nat) (x : List W32) : List W32 × W32 :=
  let flip (l : List W32) : List W32 := l.zipIdx.map (fun p => signed (randBits seed (i0 + p.2) % 2 = 1) p.1)
  let x := if inverse then x else flip x
  let y := (List.range lg).foldl (fun (acc : List W32 × W32) st =>
    let b := butterfly st acc.1
    (b.1, acc.2 ||| b.2)) (x, 0)
  let z := y.1.map (fun v => withFlags (fmul v (rotScale lg)) [v])
  let r := z.map (·.1)
  (if inverse then flip r else r, y.2 ||| orAll (z.map (·.2)))

def vxRotF (t : TileNo) (e : Entry) (_c : CtxNo) (d : Device) : Except (ASt × Nat) VOut × Device :=
  let w := e.word
  let r := e.recs.getD 0 0
  let a := d.vxRead t w (vxSrc0 w) (vxN e)
  match a.1 with
  | .error x => (.error x, a.2)
  | .ok xs =>
    let lg := vxFunc w % 16
    let seed := seedOf (d.tiles[t]).step (crTensor r) 1 t.val
    let gs := (pieces (2 ^ lg) xs).zipIdx.map (fun p =>
      rotGroup lg (vxFunc w / 16 % 2 = 1) seed (64 * crEidx r + p.2 * 2 ^ lg) p.1)
    let o := vxEncode w (gs.flatMap (·.1))
    (.ok (VOut.of (vxDst w) o.1 (nanInFlag xs ||| orAll (gs.map (·.2)) ||| o.2)), a.2)

def execVxRot (t : TileNo) (ph : Phase) (s : State) : Host.Outcome State Fault Refusal := vxRow t ph .rot (vxRotF t) s

/-! ### The selection unit (R132 to R134) -/

/-- Whether entry (value, position) e precedes f (R132). -/
def precedes (small : Bool) (e f : W32 × Nat) : Bool :=
  if fkeyEq e.1 = fkeyEq f.1 then e.2 < f.2
  else if small then fkeyEq e.1 < fkeyEq f.1 else fkeyEq e.1 > fkeyEq f.1

/-- Insert into a selection order. -/
def selInsert (small : Bool) (e : W32 × Nat) : List (W32 × Nat) → List (W32 × Nat)
  | [] => [e]
  | f :: r => if precedes small e f then e :: f :: r else f :: selInsert small e r

/-- The first k entries in order, completed with empty entries (R132, R133). -/
def selectK (small : Bool) (k : Nat) (es : List (W32 × Nat)) : List (W32 × Nat) :=
  let s := es.foldl (fun acc e => (selInsert small e acc).take k) []
  s ++ List.replicate (k - s.length) (f32nan, 0xFFFFFFFF)

/-- A selection list in memory. -/
def selBytes (l : List (W32 × Nat)) : List Byte := l.flatMap (fun e => leBytes 4 e.1.toNat ++ leBytes 4 e.2)

/-- Entries of a selection list in memory. -/
def selParse (bs : List Byte) : List (W32 × Nat) :=
  (unpackBytes 64 (bs.length / 8) bs).map (fun v => (BitVec.ofNat 32 v, v / 2 ^ 32))

def vxTopkF (t : TileNo) (e : Entry) (_c : CtxNo) (d : Device) : Except (ASt × Nat) VOut × Device :=
  let w := e.word
  let a := d.vxRead t w (vxSrc0 w) (vxN e)
  match a.1 with
  | .error x => (.error x, a.2)
  | .ok xs =>
    let base := fld (e.recs.getD 0 0) 0 32
    let es := (xs.zipIdx.filter (fun p => !isNan32 p.1)).map (fun p => (p.1, base + p.2))
    (.ok (VOut.of (vxDst w) (selBytes (selectK (vxFunc w / 128 % 2 = 1) (vxFunc w % 128) es))
      (nanInFlag xs ||| (if xs.any isNan32 then vxNonFin else 0))), a.2)

def execVxTopk (t : TileNo) (ph : Phase) (s : State) : Host.Outcome State Fault Refusal := vxRow t ph .topk (vxTopkF t) s

/-- Entries a merge may select, and whether it drops a NaN entry that is not empty (R134). -/
def mergeIn (es : List (W32 × Nat)) : List (W32 × Nat) × Bool :=
  (es.filter (fun e => !isNan32 e.1), es.any (fun e => isNan32 e.1 && e.2 ≠ 0xFFFFFFFF))

def vxTopkMergeF (t : TileNo) (e : Entry) (_c : CtxNo) (d : Device) : Except (ASt × Nat) VOut × Device :=
  let w := e.word
  let r := d.ownRead t .vx (vxSrc0 w) (8 * vxN e)
  if r.1.st ≠ .ok then (.error (r.1.st, r.1.at_), r.2)
  else
    let m := mergeIn (selParse r.1.bytes)
    (.ok (VOut.of (vxDst w) (selBytes (selectK (vxFunc w / 128 % 2 = 1) (vxFunc w % 128) m.1)) (if m.2 then vxNonFin else 0)), r.2)

def execVxTopkMerge (t : TileNo) (ph : Phase) (s : State) : Host.Outcome State Fault Refusal :=
  vxRow t ph .topkMerge (vxTopkMergeF t) s

end Sys2Proof.Machine
end

