-- ==== Sys2Proof/Machine/Collectives.lean ====
section
/-! DEFINITION. Collectives (14_collectives.md): layouts and rings, taking a descriptor, the order of addition and the
distribution (R330 to R332), chunks and credits (R334, R335), and every way a collective ends. -/

namespace Sys2Proof.Machine

/-! ### The plan of a collective -/

/-- What a phase does at a level: partial sums, owned segments copied round, the root's data, selection lists. -/
inductive CKind where
  | reduce | spread | cast | lists
deriving DecidableEq, Repr

/-- The phases in order (R331, R332): reduction over X to W, distribution over W to X. -/
def cPhases (x : BitVec 512) : List (CKind × Fin 4) :=
  let ls := cLevels x
  match cOp x with
  | 0 => ls.map (fun v => (.reduce, v)) ++ ls.reverse.map (fun v => (.spread, v))
  | 1 => ls.map (fun v => (.reduce, v))
  | 2 => ls.reverse.map (fun v => (.spread, v))
  | 3 => ls.map (fun v => (.cast, v))
  | _ => ls.map (fun v => (.lists, v))

/-- PHASE of Table 14.5. -/
def CKind.bit (k : CKind) : Nat := if k = .reduce then 0 else 1

/-- Half of a stream of C (R330): first item, number of items. -/
def cHalf (oneWay : Bool) (c : Nat) (minus : Bool) : Nat × Nat :=
  if oneWay then (if minus then (c, 0) else (0, c))
  else if minus then ((c + 1) / 2, c - (c + 1) / 2) else (0, (c + 1) / 2)

/-- Segment s of n of a range (R330). -/
def cSeg (r : Nat × Nat) (s n : Nat) : Nat × Nat := (r.1 + s * r.2 / n, (s + 1) * r.2 / n - s * r.2 / n)

/-- The range a device carries into the i-th named level: the segments it owns at the levels before (R331). -/
def cRange (l : Layout) (x : BitVec 512) (minus : Bool) (i : Nat) : Nat × Nat :=
  ((cLevels x).take i).foldl (fun r v => cSeg r (l.pos v) (l.len v)) (cHalf (cOneWay x) (cCount x) minus)

/-- Bytes of an element of IFMT and of OFMT. -/
def cInBytes (x : BitVec 512) : Nat := if cIfmt x = 0 then 4 else if cIfmt x = 1 then 2 else 1
def cOutBytes (x : BitVec 512) : Nat := if cOfmt x = 0 then 4 else 2

/-- Position at each level of a rank, and the rank of positions (R325). -/
def Layout.coord (l : Layout) (r : Nat) (v : Fin 4) : Nat :=
  let below := ((List.finRange 4).filter (fun u => u.val < v.val)).foldl (fun n u => n * l.len u) 1
  r / below % l.len v
def Layout.ranks (l : Layout) : Nat := (List.finRange 4).foldl (fun n u => n * l.len u) 1
def Layout.rankOf (l : Layout) : Nat := l.pos 0 + l.len 0 * (l.pos 1 + l.len 1 * (l.pos 2 + l.len 2 * l.pos 3))

/-- OP 2: ranks whose blocks the owner at position q of the i-th named level holds when the level is distributed: its own place
at every other level, any place at the named levels after it, in ascending order (log 24). -/
def cBlocks (l : Layout) (x : BitVec 512) (i q : Nat) : List Nat :=
  let ls := cLevels x
  (List.range l.ranks).filter (fun r => (List.finRange 4).all (fun v =>
    if ls[i]? = some v then l.coord r v = q else (ls.drop (i + 1)).contains v || l.coord r v = l.pos v))

/-- One step of a half at a level: whether it takes in a chunk, whether it sends one, and where the bytes lie: runs of offset and
length, of elements of `vals` (reduce), of the output, or of a list. `q` is the position whose data they are. -/
structure CStep where
  consume : Bool
  send : Bool
  q : Nat
  runs : List (Nat × Nat)
deriving DecidableEq, Repr

def runsLen (rs : List (Nat × Nat)) : Nat := (rs.map (·.2)).foldl (· + ·) 0

/-- The steps of a half in a phase (R331, R332). Position j of the order of addition of segment s is (s + j) mod n in the +
direction and (s - j) mod n in the - direction, so a device adds to segment p - 1 first and to its own last; owned segments
travel n - 1 hops. -/
def cSteps (l : Layout) (x : BitVec 512) (ph : Nat) (minus : Bool) : List CStep :=
  match (cPhases x)[ph]? with
  | none => []
  | some (k, v) =>
    let n := l.len v
    let p := l.pos v
    let i := (firstIdx (fun u => decide (u = v)) (cLevels x)).getD 0
    let at_ (j : Nat) : Nat := if minus then (p + j) % n else (p + n - j) % n
    match k with
    | .reduce => (List.range n).map (fun j =>
        let s := at_ (j + 1)
        { consume := decide (j ≠ 0), send := decide (j ≠ n - 1), q := s, runs := [cSeg (cRange l x minus i) s n] })
    | .spread => (List.range n).map (fun j =>
        let q := at_ j
        let runs := if cOp x = 2 then
            let h := cHalf (cOneWay x) (cCount x) minus
            (cBlocks l x i q).map (fun r => (r * cCount x + h.1, h.2))
          else
            let g := cSeg (cRange l x minus i) q n
            [(cOutBytes x * g.1, cOutBytes x * g.2)]
        { consume := decide (j ≠ 0), send := decide (j ≠ n - 1), q := q, runs := runs })
    | .lists => (List.range n).map (fun j =>
        let h := cHalf (cOneWay x) (cK x) minus
        { consume := decide (j ≠ 0), send := decide (j ≠ n - 1), q := at_ j, runs := [(8 * h.1, 8 * h.2)] })
    | .cast =>
      let root := l.coord (cRoot x) v
      let later := (List.finRange 4).all (fun u => ((cLevels x).take (i + 1)).contains u || l.pos u = l.coord (cRoot x) u)
      let m := if cOneWay x then n - 1 else n / 2
      let far := if minus then n - 1 - m else m
      let dist := if minus then (root + n - p) % n else (p + n - root) % n
      if later && decide (dist ≤ far) && decide (0 < far) then
        [{ consume := decide (dist ≠ 0), send := decide (dist < far), q := root, runs := [(0, cCount x)] }]
      else []

/-- Bytes of a step's stream. -/
def cStepBytes (k : CKind) (s : CStep) : Nat := (if k = .reduce then 4 else 1) * runsLen s.runs

/-- The greatest number of bytes of any stream a device sends (Table 14.3: at most 64 GiB). -/
def cStreamBytes (l : Layout) (x : BitVec 512) : Nat :=
  ((cPhases x).zipIdx.flatMap (fun (q : (CKind × Fin 4) × Nat) => [false, true].map (fun m =>
    (((cSteps l x q.2 m).filter (·.send)).map (cStepBytes q.1.1)).foldl (· + ·) 0))).foldl max 0

/-! ### Checks of a descriptor (Table 14.3) -/

def Device.collBad (d : Device) (p : PartNo) (x : BitVec 512) : Bool :=
  let l := d.layoutOf p
  let op := cOp x
  fld x 27 5 ≠ 0 || fld x 121 7 ≠ 0 || fld x 160 32 ≠ 0 || fld x 367 81 ≠ 0
    || op > 4 || cIfmt x > 4 || (cIfmt x = 4 && op ≠ 2 && op ≠ 3)
    || (cLevels x).any (fun v => l.len v ≤ 1)
    || cLlog x > 2 || (cLlog x ≠ 0 && op > 1) || cClog x < 12 || cClog x > 20
    || (op = 4 && (cK x = 0 || cK x > 64)) || (op = 3 && cRoot x ≥ l.ranks) || cLstride x % 64 ≠ 0
    || cDclasp x > 47 || (cDval x ≠ 0 && !d.owns p (cCtile x).val)
    || cStreamBytes l x > 2 ^ 36 || (d.parts[p]).collPrev = some (cId x)

/-! ### Storing what a device has of the output -/

def Device.modColl (d : Device) (p : PartNo) (f : CollJob → CollJob) : Device := d.modPart p (fun q => { q with coll := q.coll.map f })

/-- Write bytes of the output at their runs: kept with the job, and written at DST (R329). A DST address that is not bound ends
the collective (log 24). -/
def Device.collPut (d : Device) (p : PartNo) (x : BitVec 512) (runs : List (Nat × Nat)) (bs : List Byte) : Device :=
  (runs.foldl (fun (acc : List Byte × Device) (r : Nat × Nat) =>
    let piece := acc.1.take r.2
    let e := acc.2.modColl p (fun j => { j with out := j.out.write r.1 piece })
    let w := e.hbmWrite p (cDst x + r.1) piece false
    (acc.1.drop r.2, if w.1.st = .unbound then w.2.collAbort p clAddrUnbound d.chipId.toNat 15 else w.2)) (bs, d)).2

/-- The bytes a device holds of runs of the output. -/
def outBytes (m : Memory) (runs : List (Nat × Nat)) : List Byte := runs.flatMap (fun r => m.read r.1 r.2)

/-- Words of a byte list. -/
def wordsOfBytes (bs : List Byte) : List W32 :=
  (unpackBytes 32 (bs.length / 4) bs).map (fun v => BitVec.ofNat 32 v)

/-! ### The pipeline of phases (R335) -/

/-- A half that has nothing to move in the steps that come passes them. -/
def skipSteps (k : CKind) (steps : List CStep) : Nat → CHalf → CHalf
  | 0, h => h
  | n + 1, h =>
    match steps[h.step]? with
    | some s => if cStepBytes k s = 0 then skipSteps k steps n { h with step := h.step + 1, chunk := 0 } else h
    | none => h

/-- How far a half has come in the i-th phase. -/
def CollJob.half (j : CollJob) (l : Layout) (i : Nat) (m : Bool) : CHalf :=
  let h := (j.halves[2 * i + m.toNat]?).getD ⟨0, 0, 0⟩
  match (cPhases j.d)[i]? with
  | some (k, _) => skipSteps k (cSteps l j.d i m) ((cSteps l j.d i m).length + 1) h
  | none => h

/-- Both halves of a phase have ended. -/
def CollJob.phaseDone (j : CollJob) (l : Layout) (i : Nat) : Bool :=
  [false, true].all (fun m => decide ((j.half l i m).step ≥ (cSteps l j.d i m).length))

/-- Every phase has ended, or there is none. -/
def CollJob.allDone (j : CollJob) (l : Layout) : Bool := (List.range (cPhases j.d).length).all (fun i => j.phaseDone l i)

/-- The part [off, off + n) of runs laid end to end. -/
def cutRuns : List (Nat × Nat) → Nat → Nat → List (Nat × Nat)
  | [], _, _ => []
  | r :: rs, off, n =>
    if off ≥ r.2 then cutRuns rs (off - r.2) n
    else
      let k := min (r.2 - off) n
      (r.1 + off, k) :: (if n > k then cutRuns rs 0 (n - k) else [])

/-- What is left of a run outside another. -/
def runMinus (r e : Nat × Nat) : List (Nat × Nat) :=
  let after := max r.1 (e.1 + e.2)
  [(r.1, min r.2 (e.1 - r.1)), (after, r.1 + r.2 - after)].filter (fun q => q.2 ≠ 0)

/-- Whether runs lie wholly inside others. -/
def runsIn (want have_ : List (Nat × Nat)) : Bool :=
  (have_.foldl (fun left e => left.flatMap (fun r => runMinus r e)) (want.filter (fun r => r.2 ≠ 0))).isEmpty

/-- What the i-th phase has taken in so far of a half: runs of its own unit. -/
def CollJob.taken (j : CollJob) (l : Layout) (i : Nat) (m : Bool) : List (Nat × Nat) :=
  let steps := cSteps l j.d i m
  let h := j.half l i m
  match (cPhases j.d)[i]? with
  | none => []
  | some (k, _) =>
    let part := match steps[h.step]? with
      | some s => cutRuns s.runs 0 (h.chunk * 2 ^ cClog j.d / (if k = .reduce then 4 else 1))
      | none => []
    match k with
    | .reduce =>
      -- the device's own segment is summed at the last step
      if h.step ≥ steps.length then ((steps.getLast?).map (·.runs)).getD [] else if h.step + 1 = steps.length then part else []
    | .lists => if j.phaseDone l i then [(0, 8 * cK j.d)] else []
    | .spread | .cast => (steps.take h.step).flatMap (·.runs) ++ part

/-- The results that the i-th phase may build on: elements of the sums before a reduction, bytes of the output before a distribution. -/
def CollJob.results (j : CollJob) (l : Layout) : Nat → Bool → List (Nat × Nat)
  | 0, _ =>
    (match cOp j.d with
     | 2 => [(l.rankOf * cCount j.d, cCount j.d)]
     | 3 => if l.rankOf = cRoot j.d then [(0, cCount j.d)] else []
     | 4 => [(0, 8 * cK j.d)]
     | _ => [(0, cCount j.d)])
  | i + 1, m =>
    match (cPhases j.d)[i]? with
    | some (.reduce, _) =>
      let r := j.taken l i m
      if ((cPhases j.d)[i + 1]?).map (·.1) = some CKind.reduce then r else r.map (fun q => (cOutBytes j.d * q.1, cOutBytes j.d * q.2))
    | some (.cast, _) => j.results l i m ++ j.taken l i false ++ j.taken l i true
    | some (.spread, _) => j.results l i m ++ j.taken l i m
    | some (.lists, _) => j.taken l i m
    | none => []

/-- Owned elements converted once to OFMT and written at their own offset (R331 step 3). -/
def Device.collConvert (d : Device) (p : PartNo) (x : BitVec 512) (first : Nat) (vs : List W32) : Device :=
  if vs.isEmpty then d
  else if cOfmt x = 0 then d.collPut p x [(4 * first, 4 * vs.length)] (vs.flatMap (fun v => leBytes 4 v.toNat))
  else
    let cs := vs.map (fun v => (v, (cvtScalarF encBF16 .rne false v).code))
    let fl := orBytes (cs.map (fun c => if isFinite32 c.1 && c.2 % 2 ^ 15 = 0x7F80 then gOvf else 0))
    (d.modColl p (fun j => { j with flags := j.flags ||| fl })).collPut p x [(2 * first, 2 * vs.length)] (cs.flatMap (fun c => leBytes 2 c.2))

/-- The list of a device merged with the lists of a level (R332, R134). -/
def collMerge (j : CollJob) : CollJob :=
  let m := mergeIn (selParse (j.out.read 0 (8 * cK j.d)) ++ j.lists.flatMap (fun q => selParse q.2))
  { j with out := (j.out.clear 0 (8 * cK j.d)).write 0 (selBytes (selectK (cSmall j.d) (cK j.d) m.1)), lists := [],
           flags := j.flags ||| (if m.2 then gNan else 0) }

/-! ### Taking a collective (R326 to R328) -/

/-- The local value of an element (R331 step 1) with its flags. -/
def localValue (isc : W32) (xs : List W32) : W32 × Byte :=
  let ys := xs.map (fun v => (v, fmul v isc))
  let f0 := orBytes (ys.map (fun q => gFlag q.2 [q.1, isc]))
  match ys with
  | [] => (0, 0)
  | y :: rest => rest.foldl (fun (acc : W32 × Byte) q => let r := fadd acc.1 q.2; (r, acc.2 ||| gFlag r [acc.1, q.2])) (y.2, f0)

/-- Elements of IFMT decoded exactly to FP32. -/
def cDecode (x : BitVec 512) (bs : List Byte) : List W32 :=
  let f : Fmt := match cIfmt x with
    | 0 => .fp32 | 1 => .bf16 | 2 => .e4m3 | _ => .e5m2
  (unpackBytes f.bits (bs.length / cInBytes x) bs).map (fun c => toFP32 (f.elem c))

/-- Read several ranges in turn. -/
def Device.readMany (d : Device) (p : PartNo) (rs : List (Nat × Nat)) : Got × List (List Byte) × Device :=
  rs.foldl (fun (acc : Got × List (List Byte) × Device) (r : Nat × Nat) =>
    if acc.1.st ≠ .ok then acc
    else
      let g := acc.2.2.hbmRead p r.1 r.2 true
      (g.1, acc.2.1 ++ [g.1.bytes], g.2)) ({ st := .ok, bytes := [], at_ := 0 }, [], d)

/-- Read this device's inputs (R331, R332): the local values, its block, the root's data, its list. A read that awaits peer
repair is tried again; an unbound or poisoned source ends the collective (R339). -/
def Device.collLoad (d : Device) (p : PartNo) (j : CollJob) : Device :=
  let x := j.d
  let l := d.layoutOf p
  let rank := l.rankOf
  let root := rank = cRoot x
  let want := match cOp x with
    | 0 | 1 => (List.range (2 ^ cLlog x)).map (fun i => (cSrc x + i * cLstride x, cInBytes x * cCount x))
    | 2 => [(cSrc x, cCount x)]
    | 3 => if root then [(cSrc x, cCount x)] else []
    | _ => [(cSrc x, 8 * cK x)]
  let r := d.readMany p want
  match r.1.st with
  | .ok =>
    let bs := r.2.1.getD 0 []
    let d := r.2.2.modColl p (fun j => { j with loaded := true })
    match cOp x with
      | 0 | 1 =>
        let cols := r.2.1.map (cDecode x)
        let vs := (List.range (cCount x)).map (fun i => localValue (cIsc x) (cols.map (fun (c : List W32) => c.getD i 0)))
        let d := d.modColl p (fun j => { j with vals := vs.map (fun (q : W32 × Byte) => q.1), flags := j.flags ||| orBytes (vs.map (fun (q : W32 × Byte) => q.2)) })
        if (cLevels x).isEmpty then d.collConvert p x 0 (vs.map (fun (q : W32 × Byte) => q.1)) else d
      | 2 => d.collPut p x [(rank * cCount x, cCount x)] bs
      | 3 => if root then d.collPut p x [(0, cCount x)] bs else d
      | _ => d.modColl p (fun j => { j with out := j.out.write 0 bs })
  | .repair => r.2.2.askRepair p r.1.at_ (.coll p)
  | .unbound => r.2.2.collAbort p clAddrUnbound d.chipId.toNat 15
  | _ => r.2.2.collAbort p clPoisonRead d.chipId.toNat 15

/-- The digest of a descriptor (R328). -/
def cDigest (x : BitVec 512) : W32 := crc32 (leBytes 20 (x.toNat % 2 ^ 160))

/-- READY from a neighbour (R328): two credits when ID, digest and chip agree, else the end of the collective. -/
def Device.collReadyMsg (d : Device) (p : PartNo) (m : CollCtl) : Device :=
  match (d.parts[p]).coll with
  | none => d
  | some j =>
    let l := d.layoutOf p
    let want := if m.level = 3 then m.src else d.cfg 0x3100 4 (l.port m.level m.dir)
    if m.src ≠ want then d.collAbort p clMismatch m.src (l.portNo m.level m.dir)
    else if m.id ≠ cId j.d ∨ m.data ≠ cDigest j.d then
      d.collAbort p clMismatch d.chipId.toNat (l.portNo m.level m.dir)
    else
      d.modColl p (fun j => { j with streams := j.streams.map (fun s =>
        if s.level = m.level && s.dir = m.dir && !s.ready then { s with ready := true, credits := s.credits + 2 } else s) })

/-- ABORT from a neighbour (R339): adopted and forwarded, once for each COLL_ID. -/
def Device.collAbortMsg (d : Device) (p : PartNo) (m : CollCtl) : Device :=
  match (d.parts[p]).coll with
  | some j => if m.id = cId j.d then d.collAbort p m.status m.origin m.port else d
  | none => d

/-- Messages that came before the collective was taken (log 24). -/
def Device.collReplayEarly (d : Device) (p : PartNo) : Device :=
  let early := (d.parts[p]).collEarly
  let id := match (d.parts[p]).coll with
    | some j => cId j.d
    | none => 0
  let d := d.modPart p (fun q => { q with collEarly := q.collEarly.filter (fun m => m.kind = 2 && m.id ≠ id) })
  early.foldl (fun d m => if m.kind = 0 then d.collReadyMsg p m else d.collAbortMsg p m) d

/-- Begin a collective (R328): READY with the digest to both neighbours of every level named, then the inputs are read. -/
def Device.collBegin (d : Device) (p : PartNo) (addr : Nat) (x : BitVec 512) : Device :=
  let streams := (cLevels x).flatMap (fun v => [false, true].map (fun m =>
    ({ level := v, dir := m, staged := [], spread := [], bad := false, credits := 0, ready := false } : CStream)))
  let j : CollJob := { addr := addr, d := x, loaded := false, vals := [], out := [], lists := [],
                       halves := List.replicate (2 * (cPhases x).length) ⟨0, 0, 0⟩, streams := streams, lastMove := d.devTime, flags := 0,
                       suspects := [] }
  let d := d.modPart p (fun q => { q with coll := some j, collRing := { q.collRing with ready := false } })
  let d := (cLevels x).foldl (fun d v => [false, true].foldl (fun d m =>
    d.collCtl p v (!m) (cId x).toNat 0 m 0 0 0 (cDigest x).toNat) d) d
  let d := d.collReplayEarly p
  match (d.parts[p]).coll with
  | some j => d.collLoad p j
  | none => d

/-- A collective that ends before it began: CMPL and the tail ADD (R327, log 24). -/
def Device.collRefuse (d : Device) (p : PartNo) (addr : Nat) (x : BitVec 512) (status : Nat) : Device :=
  let j : CollJob := { addr := addr, d := x, loaded := false, vals := [], out := [], lists := [], halves := [],
                       streams := [], lastMove := d.devTime, flags := 0, suspects := [] }
  let prev := if status = clBadDesc then some (cId x) else (d.parts[p]).collPrev
  ((d.modPart p (fun q => { q with collRing := { q.collRing with ready := false } })).collEnd p j
    (collWord status 0 d.chipId.toNat 15) false).modPart p (fun q => { q with collPrev := prev })

/-- The sequencer takes the ring's next job when its operation is one of `ops`, or reads again the inputs of one it has taken. -/
def Device.collTake (d : Device) (p : PartNo) (ops : Nat → Bool) : Device :=
  let r := (d.parts[p]).collRing
  match (d.parts[p]).coll with
  | some j => if ops (cOp j.d) && !j.loaded then d.collLoad p j else d
  | none =>
    if r.st = 1 && r.ready && (d.ctxs[r.ctx]).ringsTake && !d.noNewJobs r.ctx then
      let addr := r.base + 64 * (r.next % 2 ^ r.log2)
      let g := d.hbmRead p addr 64 true
      match g.1.st with
      | .ok =>
        let x : BitVec 512 := BitVec.ofNat 512 (leNat g.1.bytes)
        if !ops (cOp x) then d
        else if g.2.collBad p x then g.2.collRefuse p addr x clBadDesc
        else g.2.collBegin p addr x
      | .repair => g.2.askRepair p g.1.at_ (.coll p)
      | .unbound => if ops 0 then g.2.collRefuse p addr 0 clAddrUnbound else d
      | _ => if ops 0 then g.2.collRefuse p addr 0 clPoisonRead else d
    else d

/-- COLL_ALL_REDUCE; a reserved OP is taken here and ends with BAD_DESC. -/
def execCollAllReduce (p : PartNo) (s : State) : Host.Outcome State Fault Refusal :=
  onLive (fun d => d.collTake p (fun op => op = 0 || decide (op > 4))) s
def execCollReduceScatter (p : PartNo) (s : State) : Host.Outcome State Fault Refusal := onLive (fun d => d.collTake p (fun op => op = 1)) s
def execCollAllGather (p : PartNo) (s : State) : Host.Outcome State Fault Refusal := onLive (fun d => d.collTake p (fun op => op = 2)) s
def execCollBroadcast (p : PartNo) (s : State) : Host.Outcome State Fault Refusal := onLive (fun d => d.collTake p (fun op => op = 3)) s
def execCollTopkMerge (p : PartNo) (s : State) : Host.Outcome State Fault Refusal := onLive (fun d => d.collTake p (fun op => op = 4)) s

/-! ### Messages from neighbours (R335, R336) -/

/-- A collective's packet for a partition: the head of a port's class buffer, or a message of the ordinary network whose slice
a table here names. -/
def Device.collPacket (d : Device) (src : PktSrc) (reply : Bool) (f : Packet → Bool) : Option (PartNo × Packet × Device) :=
  match src with
  | .port _ _ => d.takeHead src reply f
  | .net n pkt =>
    match d.tableOf pkt.slice with
    | some k =>
      if (d.net[n]).st = 2 && pkt.crcOk && !pkt.broken && decide (pkt.isReply = reply) && f pkt then
        some ((d.tables[k]).part, pkt, d.modNet n (fun x => { x with unacked := none }))
      else none
    | none => none

/-- The payload of a COLL_DATA packet staged in its stream: of level, direction and phase; PIDX follows the order of arrival (R304,
R336). -/
def CStream.stage (s : CStream) (pkt : Packet) : CStream :=
  if s.level.val = fld pkt.hdr 64 2 && s.dir = bitOf pkt.hdr 66 then
    (if bitOf pkt.hdr 67 then { s with spread := s.spread ++ pkt.payload } else { s with staged := s.staged ++ pkt.payload })
  else s

/-- PKT_COLL_DATA: the payload goes into the staging buffer of its stream (R335). Data of no running collective is dropped. -/
def Device.collData (d : Device) (src : PktSrc) : Device :=
  match d.collPacket src false (fun k => k.ty = 5) with
  | none => d
  | some (p, pkt, d) =>
    match (d.parts[p]).coll with
    | none => d
    | some j =>
      if fld pkt.hdr 56 8 = (cId j.d).toNat % 256 then
        d.modColl p (fun j => { j with lastMove := d.devTime, streams := j.streams.map (fun s => s.stage pkt) })
      else d

def execPktCollData (src : PktSrc) (s : State) : Host.Outcome State Fault Refusal :=
  if src.wf then onLive (fun d => d.collData src) s else .fault .illFormed

/-- The fields of a COLL_CTL payload (Table 14.5). -/
def ctlOf (pkt : Packet) : CollCtl :=
  let w : W128 := BitVec.ofNat 128 (leNat (pkt.payload.take 16))
  { id := BitVec.ofNat 32 (fld w 0 32), kind := fld w 32 2, level := fin (fld w 34 2), dir := bitOf w 36, status := fld w 40 8,
    origin := fld w 48 15, port := fld w 63 4, data := BitVec.ofNat 32 (fld w 96 32), src := pkt.src }

def ctlIs (kinds : List Nat) (pkt : Packet) : Bool := pkt.ty = 12 && kinds.contains (ctlOf pkt).kind

/-- COLL_READY: a first READY of the running collective is judged; one that comes before its collective is taken, or before the
next, is kept; one of the collective that ended last is dropped (log 24). -/
def Device.collReadyRx (d : Device) (src : PktSrc) : Device :=
  match d.collPacket src true (ctlIs [0]) with
  | none => d
  | some (p, pkt, d) =>
    let m := ctlOf pkt
    let keep := d.modPart p (fun q => { q with collEarly := q.collEarly ++ [m] })
    match (d.parts[p]).coll with
    | none => if (d.parts[p]).collPrev = some m.id then d else keep
    | some j => if j.streams.any (fun s => s.level = m.level && s.dir = m.dir && s.ready) then keep else d.collReadyMsg p m

def execCollReady (src : PktSrc) (s : State) : Host.Outcome State Fault Refusal :=
  if src.wf then onLive (fun d => d.collReadyRx src) s else .fault .illFormed

/-- COLL_CREDIT: chunks freed at the receiver (R335). -/
def Device.collCreditRx (d : Device) (src : PktSrc) : Device :=
  match d.collPacket src true (ctlIs [1]) with
  | none => d
  | some (p, pkt, d) =>
    let m := ctlOf pkt
    d.modColl p (fun j => if m.id = cId j.d then
      { j with streams := j.streams.map (fun s =>
          if s.level = m.level && s.dir = m.dir then { s with credits := s.credits + m.data.toNat } else s) } else j)

def execCollCredit (src : PktSrc) (s : State) : Host.Outcome State Fault Refusal :=
  if src.wf then onLive (fun d => d.collCreditRx src) s else .fault .illFormed

/-- COLL_ABORT_RECEIVE (R339): an ABORT of the running collective is adopted; one of a collective not yet taken is kept; one of the
collective that ended last without an abort is forwarded once, its own end stands (log 24). A message of the reserved KIND 3 is dropped. -/
def Device.collAbortRx (d : Device) (src : PktSrc) : Device :=
  match d.collPacket src true (ctlIs [2, 3]) with
  | none => d
  | some (p, pkt, d) =>
    let m := ctlOf pkt
    let q := d.parts[p]
    if m.kind = 3 then d
    else if (q.coll.map (fun j => cId j.d)) = some m.id then d.collAbortMsg p m
    else if q.collPrev = some m.id then
      (if q.collCut then d
       else (d.modPart p (fun q => { q with collCut := true })).sendAborts p m.id.toNat m.status m.origin m.port)
    else d.modPart p (fun q => { q with collEarly := q.collEarly ++ [m] })

def execCollAbortReceive (src : PktSrc) (s : State) : Host.Outcome State Fault Refusal :=
  if src.wf then onLive (fun d => d.collAbortRx src) s else .fault .illFormed

/-! ### Chunks (R330, R331, R334, R335) -/

/-- The chunk a half has to move next. -/
structure CChunk where
  kind : CKind
  step : CStep
  off : Nat
  len : Nat

def CollJob.chunkOf (j : CollJob) (l : Layout) (i : Nat) (m : Bool) : Option CChunk :=
  match (cPhases j.d)[i]? with
  | none => none
  | some (k, _) =>
    let h := j.half l i m
    match (cSteps l j.d i m)[h.step]? with
    | none => none
    | some s =>
      let off := h.chunk * 2 ^ cClog j.d
      some { kind := k, step := s, off := off, len := min (2 ^ cClog j.d) (cStepBytes k s - off) }

/-- The items of a chunk: elements of the sums, or bytes of the output or of a list. -/
def CChunk.runs (c : CChunk) : List (Nat × Nat) :=
  if c.kind = .reduce then cutRuns c.step.runs (c.off / 4) (c.len / 4) else cutRuns c.step.runs c.off c.len

/-- Bytes that a stream has staged for a kind of phase. -/
def CStream.bytes (s : CStream) (k : CKind) : List Byte := if k = .reduce then s.staged else s.spread

/-- Whether a chunk may be moved now (R335): what has to come has come, a credit is there, and the results of the previous phase that it
covers are complete. -/
def CollJob.mayMove (j : CollJob) (l : Layout) (i : Nat) (m : Bool) (q : CStream) (c : CChunk) : Bool :=
  c.len ≠ 0 && (!c.step.consume || decide (c.len ≤ (q.bytes c.kind).length)) && (!c.step.send || (q.ready && q.credits ≠ 0)) &&
    (c.step.consume && c.kind ≠ .reduce || runsIn c.runs (j.results l i m))

/-- The chunk a stream moves next: that of the earliest phase of its level that has one. -/
def CollJob.pick (j : CollJob) (l : Layout) (st : Stream) (q : CStream) : Option (Nat × CChunk) :=
  (List.range (cPhases j.d).length).findSome? (fun i =>
    if ((cPhases j.d)[i]?).map (·.2) = some st.level then
      (match j.chunkOf l i st.dir with
       | some c => if j.mayMove l i st.dir q c then some (i, c) else none
       | none => none)
    else none)

/-- The addition of a chunk: this device's values, or the partial sums that came plus them, with the flags. -/
def addChunk (own : List W32) (came : Option (List W32)) : List W32 × Byte :=
  match came with
  | none => (own, 0)
  | some xs =>
    let r := (xs.zip own).map (fun q => (fadd q.1 q.2, q.1, q.2))
    (r.map (·.1), orBytes (r.map (fun q => gFlag q.1 [q.2.1, q.2.2])))

/-- Packets of 256 bytes of a chunk, numbered on (R336); the last of a ring step's data may be shorter (log 24). -/
def Device.collSendChunk (d : Device) (p : PartNo) (j : CollJob) (v : Fin 4) (minus : Bool) (k : CKind) (first : Nat) (bs : List Byte) :
    Device :=
  (List.range ((bs.length + 255) / 256)).foldl (fun d i =>
    d.collSend p v minus 5
      ((cId j.d).toNat % 256 + v.val <<< 8 + minus.toNat <<< 10 + k.bit <<< 11 + ((first + i) % 2 ^ 28) <<< 12)
      ((bs.drop (256 * i)).take 256)) d

/-- A link reducer under suspicion (R385). -/
def Device.suspectReducer (d : Device) (p : PortNo) : Device :=
  let n := min 3 ((d.reducerSuspect[p]).val + 1)
  let d' := { d with reducerSuspect := d.reducerSuspect.set p (fin n) }
  if n = 3 ∧ d.reducerSuspect[p] ≠ 3 then d'.report 0x0103 none none (0x100 + p.val) (pay4 1 p.val 0 0) else d'

/-- The reducer whose second result of a chunk is clean: SUSPECT is set and REDUCER_SUSPECT logged with the port (R334). -/
def Device.collCleared (d : Device) (p : PartNo) (port : PortNo) : Device :=
  match (d.parts[p]).coll with
  | none => d
  | some j =>
    if port ∈ j.suspects then
      ((d.modColl p (fun j => { j with suspects := j.suspects.filter (· ≠ port), flags := j.flags ||| 4 })).report 0x0206 (some p) none port
        (pay4 port 0 0 0)).suspectReducer port
    else d

/-- The data of a chunk: the partial sums with this device's values added, what came, or what this device has; and its flags. -/
def CollJob.chunkData (j : CollJob) (c : CChunk) (came : List Byte) : List Byte × Byte × List W32 :=
  let lo := ((c.step.runs.map (·.1)).getD 0 0) + c.off / 4
  if c.kind = .reduce then
    let sum := addChunk ((j.vals.drop lo).take (c.len / 4)) (if c.step.consume then some (wordsOfBytes came) else none)
    (sum.1.flatMap (fun w => leBytes 4 w.toNat), sum.2, j.vals.take lo ++ sum.1 ++ j.vals.drop (lo + c.len / 4))
  else (if c.step.consume then came else outBytes j.out c.runs, 0, j.vals)

/-- What a moved chunk leaves in the job: sums, lists, the stream's staged bytes and credits, and how far the half has come. -/
def CollJob.moved (j : CollJob) (l : Layout) (st : Stream) (i : Nat) (c : CChunk) (data : List Byte × Byte × List W32) (now : W64) : CollJob :=
  let h := j.half l i st.dir
  let last := decide (c.off + c.len ≥ cStepBytes c.kind c.step)
  let h' : CHalf :=
    { step := if last then h.step + 1 else h.step, chunk := if last then 0 else h.chunk + 1,
      pidx := h.pidx + (if c.step.send then (c.len + 255) / 256 else 0) }
  { j with
    lastMove := now, flags := j.flags ||| data.2.1, vals := data.2.2, halves := j.halves.set (2 * i + st.dir.toNat) h',
    lists := if c.kind = .lists && c.step.consume then
        alSet j.lists (c.step.q, st.dir) ((alGet j.lists (c.step.q, st.dir)).getD [] ++ data.1) else j.lists,
    streams := j.streams.map (fun s => if s.level = st.level && s.dir = st.dir then
      { s with staged := if c.step.consume && c.kind = .reduce then s.staged.drop c.len else s.staged,
               spread := if c.step.consume && c.kind ≠ .reduce then s.spread.drop c.len else s.spread,
               credits := if c.step.send then s.credits - 1 else s.credits } else s) }

/-- What the end of a chunk brings about: the last sums are converted and written, data that came is written, the lists of a level that is
done are merged (R331, R332). -/
def Device.collStore (d : Device) (p : PartNo) (l : Layout) (i : Nat) (c : CChunk) (data : List Byte × Byte × List W32) : Device :=
  match (d.parts[p]).coll with
  | none => d
  | some j =>
    match c.kind with
    | .reduce =>
      if i + 1 = (cLevels j.d).length ∧ c.step.send = false then
        c.runs.foldl (fun d r => d.collConvert p j.d r.1 ((data.2.2.drop r.1).take r.2)) d
      else d
    | .spread | .cast => if c.step.consume then d.collPut p j.d c.runs data.1 else d
    | .lists => if j.phaseDone l i then d.modColl p collMerge else d

/-- COLL_CHUNK_REDUCE: the next chunk of a stream is taken from the staging buffer, added or stored, and sent on against a credit. An
uncorrectable error in the staging buffer resets the partition (R363). -/
def Device.collChunk (d : Device) (p : PartNo) (st : Stream) : Device :=
  match (d.parts[p]).coll with
  | none => d
  | some j =>
    let l := d.layoutOf p
    match j.streams.find? (fun s => s.level = st.level && s.dir = st.dir) with
    | none => d
    | some q =>
      match (if j.loaded then j.pick l st q else none) with
      | none => d
      | some (i, c) =>
        if c.step.consume && q.bad then d.resetPartition p .staging
        else
          let data := j.chunkData c ((q.bytes c.kind).take c.len)
          let port := l.port st.level st.dir
          let d := (if st.level = 3 then d else d.collCleared p port).modColl p (fun j => j.moved l st i c data d.devTime)
          let d := if c.step.consume then d.collCtl p st.level (!st.dir) (cId j.d).toNat 1 st.dir 0 0 0 1 else d
          let d := if c.step.send then d.collSendChunk p j st.level st.dir c.kind (j.half l i st.dir).pidx data.1 else d
          (if c.kind = .reduce ∧ st.level ≠ 3 then d.count (some p) 0x031 port 1 else d).collStore p l i c data

def execCollChunkReduce (p : PartNo) (st : Stream) (s : State) : Host.Outcome State Fault Refusal := onLive (fun d => d.collChunk p st) s

/-! ### The end of a collective -/

/-- COLL_COMPLETE (R329): every phase is done and every DST write delivered. -/
def Device.collDone (d : Device) (p : PartNo) : Device :=
  match (d.parts[p]).coll with
  | none => d
  | some j =>
    if j.loaded && j.allDone (d.layoutOf p) then
      let d := if cOp j.d = 4 then d.collPut p j.d [(0, 8 * cK j.d)] (j.out.read 0 (8 * cK j.d)) else d
      (match (d.parts[p]).coll with
       | some j => d.collEnd p j (collWord 0 j.flags d.chipId.toNat 15) true
       | none => d)
    else d

def execCollComplete (p : PartNo) (s : State) : Host.Outcome State Fault Refusal := onLive (fun d => d.collDone p) s

/-- COLL_STALL (R339): no chunk sent or received for coll.stall_us. -/
def Device.collStalled (d : Device) (p : PartNo) : Device :=
  match (d.parts[p]).coll with
  | none => d
  | some j =>
    if d.since j.lastMove ≥ 1000 * (d.layoutOf p).stallUs then d.collAbort p clStall d.chipId.toNat 15 else d

def execCollStall (p : PartNo) (s : State) : Host.Outcome State Fault Refusal := onLive (fun d => d.collStalled p) s

/-- COLL_NET_LOST (R339): an ordinary port the collective uses is down for 100 us, or, while it is up, a queue pair has used up its
7 retries of 256 us. -/
def Device.collNetLost (d : Device) (p : PartNo) (n : NetNo) : Device :=
  match (d.parts[p]).coll with
  | none => d
  | some j =>
    let x := d.net[n]
    let gone := if x.st = 2 then x.unacked.any (fun t => decide (d.since t ≥ 7 * 256000)) else decide (d.since x.downSince ≥ 100000)
    if cLevel j.d 3 && gone then d.collAbort p clNetLost d.chipId.toNat (8 + n.val) else d

def execCollNetLost (p : PartNo) (n : NetNo) (s : State) : Host.Outcome State Fault Refusal := onLive (fun d => d.collNetLost p n) s

/-! ### Layouts and rings (Tables 14.1, 14.2) -/

/-- The fields of a layout record (Table 14.1). A level in use names ports bound to the slice's partition, of its dimension. -/
def Device.layoutOk (d : Device) (k : SliceTab) (g : Nat → Nat) : Bool :=
  let part := (d.tables[k]).part
  let len (i : Nat) : Nat := g i % 64
  let axis (i : Nat) : Bool :=
    decide (1 ≤ len i) && decide (len i ≤ 32) && decide (g i / 64 % 32 < len i) && decide (g i < 2 ^ (if i = 4 then 11 else 17))
      && (i = 4 || len i = 1 || [11, 14].all (fun b =>
            let q : PortNo := fin (g i / 2 ^ b % 8)
            (d.tables[k]).active && d.portPart q = some part && d.portDim q = i - 1))
  [1, 2, 3, 4].all axis && decide (len 1 * len 2 * len 3 ≤ 32768) && decide (len 1 * len 2 * len 3 * len 4 ≤ 131072)
    && decide (500 ≤ g 8) && decide (g 8 ≤ 100000)

/-- A commit of a collective layout (R325). A slice that uses W takes over the addresses and priorities of the ordinary ports (R342). -/
def Device.applyLayout (d : Device) (g : Nat → Nat) (k : SliceTab) (value : Nat) : St × Device :=
  if value ≠ 1 then (.collInvalid, d)
  else if (d.tables[k]).active && ((d.parts[(d.tables[k]).part]).coll.isSome) then (.collBusy, d)
  else if !d.layoutOk k g then (.collInvalid, d)
  else
    let l : Layout := { loaded := true, axes := Vector.ofFn (fun i => BitVec.ofNat 32 (g (i.val + 1))),
                        wPlus := leBytes 16 (g 5), wMinus := leBytes 16 (g 6), rank := 0, stallUs := g 8,
                        addrs := if g 4 % 64 > 1 then Vector.ofFn (fun (i : Fin 2) => d.cfg 0x3500 2 i.val) else (d.layouts[k]).addrs,
                        prios := if g 4 % 64 > 1 then Vector.ofFn (fun (i : Fin 2) => d.cfg 0x3500 4 i.val) else (d.layouts[k]).prios }
    (.ok, d.modLayout k (fun _ => { l with rank := l.rankOf }))

/-- The fields of a ring record, gather or collective (Tables 9.1, 14.2): the base in bound stacked memory. -/
def Device.ringOk (d : Device) (p : PartNo) (g : Nat → Nat) (entry : Nat) : Bool :=
  decide (g 1 % entry = 0) && decide (4 ≤ g 2) && decide (g 2 ≤ 12)
    && (List.range (entry * 2 ^ g 2 / pageSize + 1)).all (fun i => (d.transHbm p (g 1 + i * pageSize)).isSome || i * pageSize ≥ entry * 2 ^ g 2)
    && (d.transHbm p (g 1 + entry * 2 ^ g 2 - 1)).isSome
    && decide (g 3 < 512) && d.owns p (g 3) && decide (g 4 < 48) && decide (g 5 < 48) && decide (g 5 ≠ g 4)
    && decide (g 6 < 256) && decide ((d.ctxs[(fin (g 6) : CtxNo)]).part = some p)

/-- A ring opened: its first job is the VALUE of its tail clasp (R221). -/
def Device.openRing (d : Device) (p : PartNo) (g : Nat → Nat) : Ring :=
  let t : TileNo := fin (g 3)
  { st := 1, ready := false, high := clValue (d.claspWord t (g 5)), part := p, base := g 1, log2 := g 2, tile := t, head := g 4,
    tail := g 5, ctx := fin (g 6), next := clValue (d.claspWord t (g 5)) }

/-- A commit of the collective ring (Table 14.2): 1 opens a closed ring, 0 closes it once the job in progress has ended. -/
def Device.applyCollRing (d : Device) (g : Nat → Nat) (p : PartNo) (value : Nat) : St × Device :=
  let r := (d.parts[p]).collRing
  if value = 1 then
    if r.st ≠ 0 then (.collBusy, d)
    else if !d.ringOk p g 64 then (.collInvalid, d)
    else
      let ring := d.openRing p g
      let d := d.modPart p (fun q => { q with collRing := ring })
      (.ok, d.collWatch p)
  else if value = 0 then
    if r.st ≠ 1 then (.ok, d)
    else
      let d := d.dropWatches (fun w => w.holder = .coll p)
      let busy := (d.parts[p]).coll.isSome
      (.ok, d.modPart p (fun q => { q with collRing := { q.collRing with st := if busy then 2 else 0, ready := false } }))
  else (.collInvalid, d)

end Sys2Proof.Machine
end

