-- ==== Sys2Proof/Machine/Grants.lean ====
section
/-! DEFINITION. Windows (Table 6.5), buffer pools (Table 8.11) and gather job rings (Table 9.1) opened and closed; the end and
the training of table-memory ports (R243). -/

namespace Sys2Proof.Machine

/-! ### Windows (R165, R168) -/

/-- A commit of a window record. A number kept for an image counts as in use (log 26). -/
def Device.applyWindow (d : Device) (g : Nat → Nat) (p : PartNo) (w : WinNo) (value : Nat) : St × Device :=
  let x := (d.parts[p]).windows[w]
  if value = 1 then
    if x.st ≠ 0 || x.reserved then (.windowBusy, d)
    else if !d.owns p (g 1) then (.windowUnbound, d)
    else if !windowFieldsOk g then (.windowInvalid, d)
    else
      (.ok, d.modWindow p w (fun _ =>
        { st := 1, tile := g 1, base := g 2, size := g 3, slice := g 4, chipLo := g 5, chipHi := g 6, rights := BitVec.ofNat 3 (g 7),
          admitted := 0, forCtx := none, reserved := false }))
  else if value = 0 then (.ok, d.modWindow p w (fun x => if x.st = 1 then { x with st := 2 } else x))
  else (.windowInvalid, d)

/-! ### Pools (R212, R213) -/

/-- A commit of a pool record. -/
def Device.applyPool (d : Device) (g : Nat → Nat) (p : PartNo) (n : PoolNo) (value : Nat) : St × Device :=
  let x := (d.parts[p]).pools[n]
  if value = 1 then
    if x.open_ || x.reserved then (.poolBusy, d)
    else if !d.poolFieldsOk g p then (.poolInvalid, d)
    else if d.claspWord (fin (g 1)) (g 2) ≠ 0 || bitOf (d.tiles[(fin (g 1) : TileNo)]).claspLocks (g 2) then (.poolBusy, d)
    else
      (.ok, (d.modPool p n (fun x => { x with open_ := true, tile := g 1, freeClasp := g 2, base := g 3, slots := g 4, rr := 0,
                                              forCtx := none })).poolClaspSet (g 1) (g 2) (2 ^ g 4 - 1))
  else if value = 0 then
    if !x.open_ then (.ok, d)
    else if clValue (d.claspWord (fin x.tile) x.freeClasp) ≠ 2 ^ x.slots - 1 then (.poolBusy, d)
    else (.ok, (d.modPool p n (fun x => { x with open_ := false, forCtx := none })).poolClaspSet x.tile x.freeClasp 0)
  else (.poolInvalid, d)

/-! ### Gather job rings (R220, R221) -/

/-- A commit of a job-ring record: the first job is the VALUE of the tail clasp; closing lets the current job finish. -/
def Device.applyGatherRing (d : Device) (g : Nat → Nat) (p : PartNo) (e : GatherNo) (value : Nat) : St × Device :=
  let q := d.gather[e]
  if value > 1 then (.gatherInvalid, d)
  else if q.bound ≠ some p then (.gatherUnbound, d)
  else if value = 1 then
    if q.ring.st ≠ 0 then (.gatherBusy, d)
    else if !d.ringOk p g 128 then (.gatherInvalid, d)
    else
      let ring := d.openRing p g
      let d := d.modGather e (fun q => { q with ring := ring, job := none, stash := none })
      (.ok, d.ringWatch e)
  else if q.ring.st ≠ 1 then (.ok, d)
  else
    let d := d.dropWatches (fun w => w.holder = .gather e)
    (.ok, d.modGather e (fun q => { q with ring := { q.ring with st := if q.job.isSome then 2 else 0, ready := false } }))

/-! ### Table-memory ports (R242, R243) -/

/-- Partitions that hold a granule on a port. -/
def Device.tmemHolders (d : Device) (n : TmemNo) : List PartNo :=
  (List.finRange 16).filter (fun p => d.granules.any (fun g => decide (granPort g.phys = n) && decide (g.part = p)))

/-- A job ends with TMEM_FAIL: no further bag or group, completion word, tail ADD (R238, R239). -/
def Device.tmemEndJob (d : Device) (g : GatherNo) : Device :=
  match (d.gather[g]).job with
  | some j => if j.done then d.gatherJobEnd g
    else (d.modJob g (fun j => { j with status := gsTmemFail, done := true, released := j.groupsDue })).gatherJobEnd g
  | none => d

/-- Whether an engine's job reads or writes a port. -/
def Device.jobOnPort (d : Device) (g : GatherNo) (n : TmemNo) : Bool :=
  match (d.gather[g]).job with
  | some j => decide (n ∈ j.ports)
  | none => false

/-- TMEM_FAIL (R243): the jobs that read or write the port end, and every partition that holds a granule on it is reset. -/
def Device.tmemFail (d : Device) (n : TmemNo) : Device :=
  if (d.tmem[n]).st ≠ 2 then d
  else
    let ps := d.tmemHolders n
    let d := d.modTmem n (fun k => { k with st := 3 })
    let d := (List.finRange 16).foldl (fun (d : Device) g =>
      if d.jobOnPort g n then d.tmemEndJob g else d) d
    ps.foldl (fun d p => d.resetPartition p .tmemFail) d

def execTmemFail (n : TmemNo) (s : State) : Host.Outcome State Fault Refusal := onLive (fun d => d.tmemFail n) s

/-- TMEM_PORT_TRAINED (R242, Table 9.7): an enabled port that trains comes up at the capacity and link it reports. -/
def Device.tmemTrained (d : Device) (n : TmemNo) (gib : Nat) (fullWidth fullRate : Bool) : Device :=
  if (d.tmem[n]).enabled && (d.tmem[n]).st = 1 then
    d.modTmem n (fun k => { k with st := 2, gib := gib, link := (if fullWidth then 8 else 4) + 16 * (if fullRate then 6 else 5) })
  else d

def execTmemPortTrained (n : TmemNo) (gib : Fin 1025) (fullWidth fullRate : Bool) (s : State) : Host.Outcome State Fault Refusal :=
  onLive (fun d => d.tmemTrained n gib.val fullWidth fullRate) s

end Sys2Proof.Machine
end

