-- ==== Sys2Proof/Machine/HostQueues.lean ====
section
/-! DEFINITION. The host port (R416 to R426): queue and event-queue records, doorbells, queue commands, MSI-X and BAR4. -/

namespace Sys2Proof.Machine

/-! ### Records (R420, R425) -/

/-- A commit of a queue record (Table 18.14): a queue is created off, and deleted with no command
outstanding: none submitted and still to start, none started, none whose completion waits. In the error state none more starts (R424). -/
def Device.applyQueue (d : Device) (g : Nat → Nat) (p : PartNo) (value : Nat) : St × Device :=
  if value > 1 || decide (g 1 > 63) then (.queueInvalid, d)
  else
    let n : QueueNo := fin (g 1)
    let q := (d.parts[p]).queues[n]
    if value = 1 then
      if q.st ≠ 0 then (.queueBusy, d)
      else if g 2 % 4096 ≠ 0 ∨ g 3 % 4096 ≠ 0 ∨ g 4 < 4 ∨ g 4 > 12 ∨ g 5 > 123 then (.queueInvalid, d)
      else
        (.ok, d.modQueue p n (fun _ => { Queue.reset with st := 1, sqBase := BitVec.ofNat 64 (g 2), cqBase := BitVec.ofNat 64 (g 3),
                                                          log2 := g 4, vector := g 5 }))
    else if q.st = 0 then (.ok, d)
    else if !q.started.isEmpty || !q.waiting.isEmpty || q.st = 1 && decide (q.head ≠ q.tail) then (.queueBusy, d)
    else (.ok, d.modQueue p n (fun _ => Queue.reset))

/-- A commit of an event-queue record: 1 starts it empty, also when it is on (log 17). -/
def Device.applyEvq (d : Device) (g : Nat → Nat) (f : Fn) (value : Nat) : St × Device :=
  let top := match f with
    | .pf0 => 63
    | .vf _ => 123
  if value = 1 then
    if g 1 % 4096 ≠ 0 ∨ g 2 < 6 ∨ g 2 > 14 ∨ g 3 > top then (.queueInvalid, d)
    else (.ok, d.setEvq f { Evq.reset with on := true, base := BitVec.ofNat 64 (g 1), log2 := g 2, vector := g 3 })
  else if value = 0 then (.ok, d.setEvq f { d.evqOf f with on := false })
  else (.queueInvalid, d)

/-! ### Doorbells (R417, R419, R424, R425) -/

/-- Index a doorbell carries (R417): bits [31:16] are reserved. -/
def bellIndex (v : W32) : Nat := fld v 0 16

/-- Commands started or completed and not yet posted. -/
def Queue.outstanding (q : Queue) : Nat := q.started.length + q.waiting.length

def Queue.fail (q : Queue) : Queue := { q with st := 2, error := St.queueInvalid.code }

/-- Entries from one ring index up to another. -/
def ringDist (log2 a b : Nat) : Nat := (b + 2 ^ log2 - a) % 2 ^ log2

/-- SQ tail doorbell: more than depth - 1 entries outstanding, or an index outside the ring, is an error (R424). -/
def Queue.bellSq (q : Queue) (v : Nat) : Queue :=
  if q.st ≠ 1 then q
  else if v ≥ 2 ^ q.log2 ∨ ringDist q.log2 q.head v + q.outstanding > 2 ^ q.log2 - 1 then q.fail
  else { q with tail := v }

def execSqTailDoorbell (p : PartNo) (q : QueueNo) (v : W32) (s : State) : Host.Outcome State Fault Refusal :=
  onLive (fun d => d.modQueue p q (fun x => x.bellSq (bellIndex v))) s

/-- CQ head doorbell: room for waiting completions; a head beyond the completions written is an error (R423, R424, log 17). -/
def Device.bellCq (d : Device) (p : PartNo) (n : QueueNo) (v : Nat) : Device :=
  let q := (d.parts[p]).queues[n]
  if q.st = 0 then d
  else if v ≥ 2 ^ q.log2 ∨ ringDist q.log2 q.cqHead v > ringDist q.log2 q.cqHead q.cqTail then d.modQueue p n Queue.fail
  else (d.modQueue p n (fun q => { q with cqHead := v })).drainCq p n

def execCqHeadDoorbell (p : PartNo) (q : QueueNo) (v : W32) (s : State) : Host.Outcome State Fault Refusal :=
  onLive (fun d => d.bellCq p q (bellIndex v)) s

/-- Event queue head doorbell: room, and EVQ_LOST if events were lost (R425). A head beyond the entries is ignored (log 17). -/
def Device.bellEvq (d : Device) (f : Fn) (v : Nat) : Device :=
  let q := d.evqOf f
  if !q.on || decide (v ≥ 2 ^ q.log2) || decide (ringDist q.log2 q.head v > ringDist q.log2 q.head q.tail) then d
  else (d.setEvq f { q with head := v }).flushLost f

def execEvqHeadDoorbell (f : Fn) (v : W32) (s : State) : Host.Outcome State Fault Refusal := onLive (fun d => d.bellEvq f (bellIndex v)) s

/-! ### Queue commands (R421, R422) -/

def qOpc (w : BitVec 512) : Nat := fld w 0 8
def qFence (w : BitVec 512) : Bool := bitOf w 8
def qCid (w : BitVec 512) : W16 := BitVec.ofNat 16 (fld w 16 16)
def qCtx (w : BitVec 512) : CtxNo := fin (fld w 32 8)
def qCount (w : BitVec 512) : Nat := fld w 48 16
def qLblk (w : BitVec 512) : Nat := fld w 64 64
def qTcid (w : BitVec 512) : W16 := BitVec.ofNat 16 (fld w 64 16)

/-- The command at the head of an SQ that may start now: the queue on, bus mastering enabled, the host queue manager running, and
with FENCE every earlier command completed. -/
def Device.sqHead (d : Device) (p : PartNo) (n : QueueNo) : Option (BitVec 512) :=
  let q := (d.parts[p]).queues[n]
  if q.st = 1 && decide (q.head ≠ q.tail) && (d.parts[p]).busMaster && d.up 2 then
    let w : BitVec 512 := BitVec.ofNat 512 (leNat (d.hostMem.read (q.sqBase.toNat + 64 * q.head) 64))
    if qFence w && !q.started.isEmpty then none else some w
  else none

/-- The head command leaves the SQ. -/
def Device.sqPop (d : Device) (p : PartNo) (n : QueueNo) : Device :=
  d.modQueue p n (fun q => { q with head := (q.head + 1) % 2 ^ q.log2 })

/-- A command that completes at once. -/
def Device.sqDone (d : Device) (p : PartNo) (n : QueueNo) (w : BitVec 512) (st : St) : Device :=
  (d.sqPop p n).postCq p n { cid := qCid w, status := st.code, detail := 0 }

/-- The head command when its operation is one of `ops`; before READY every command completes with NOT_READY (R400). -/
def Device.sqRun (d : Device) (p : PartNo) (n : QueueNo) (ops : Nat → Bool) (f : BitVec 512 → Device) : Device :=
  match d.sqHead p n with
  | some w => if !ops (qOpc w) then d else if d.rst.state ≠ 7 then d.sqDone p n w .notReady else f w
  | none => d

/-- NOP; a reserved OPC is taken here and completes with INVALID_CMD. -/
def Device.sqNop (d : Device) (p : PartNo) (n : QueueNo) : Device :=
  d.sqRun p n (fun o => o = 0 || decide (o > 3)) (fun w => d.sqDone p n w (if qOpc w = 0 then .ok else .invalidCmd))

def execNop (p : PartNo) (q : QueueNo) (s : State) : Host.Outcome State Fault Refusal := onLive (fun d => d.sqNop p q) s

/-- STEP_RELEASE: COUNT releases join the context's; the command completes when the last of their steps ends. -/
def Device.sqRelease (d : Device) (p : PartNo) (n : QueueNo) : Device :=
  d.sqRun p n (fun o => o = 1) (fun w =>
    let c := qCtx w
    let x := d.ctxs[c]
    if qCount w = 0 then d.sqDone p n w .invalidCmd
    else if x.part ≠ some p ∨ !x.st.started then d.sqDone p n w .ctxState
    else
      let last := (if x.inStep then x.stepNo.toNat + 1 else x.stepNo.toNat) + x.pendingSteps + qCount w - 1
      let d := (d.sqPop p n).modQueue p n (fun q => { q with started := q.started ++ [.steps (qCid w) c (BitVec.ofNat 64 last)] })
      (d.modCtx c (fun x => { x with releases := x.releases ++ [(qCount w, p, n, qCid w)],
                                     waitSince := if x.wants || x.st = .running then x.waitSince else d.devTime })).schedule)

def execStepRelease (p : PartNo) (q : QueueNo) (s : State) : Host.Outcome State Fault Refusal := onLive (fun d => d.sqRelease p q) s

/-- MOVER_LAUNCH: the launch block is read and the channel takes a slot of its bulk or host/link mover; the command waits at the
head while there is none (R190, R421). -/
def Device.sqLaunch (d : Device) (p : PartNo) (n : QueueNo) : Device :=
  d.sqRun p n (fun o => o = 2) (fun w =>
    let c := qCtx w
    let x := d.ctxs[c]
    let b : BitVec 1024 := BitVec.ofNat 1024 (leNat (d.hostMem.read (qLblk w) 128))
    let desc : BitVec 512 := BitVec.ofNat 512 (fld b 0 512)
    let src : W256 := BitVec.ofNat 256 (fld b 512 256)
    let dst : W256 := BitVec.ofNat 256 (fld b 768 256)
    if qLblk w % 128 ≠ 0 ∨ d.launchBad p true desc src dst then d.sqDone p n w .invalidCmd
    else if x.part ≠ some p ∨ !x.st.admitted_ ∨ x.st = .tearing then d.sqDone p n w .ctxState
    else
      let m := execMover none desc
      let y : Desc := { d := desc, srcRec := src, dstRec := dst, origin := .host p n (qCid w), ctx := c, part := p,
                        e := { word := 0, recs := [], bnd := Vector.replicate 16 0, pcq := 0 } }
      if (d.mover m).arrivals.any (fun z => z.part = p) then d
      else match d.placeDesc m y with
        | none => d
        | some d => (d.sqPop p n).modQueue p n (fun q => { q with started := q.started ++ [.channel (qCid w) c] }))

def execMoverLaunch (p : PartNo) (q : QueueNo) (s : State) : Host.Outcome State Fault Refusal := onLive (fun d => d.sqLaunch p q) s

/-- MOVER_CANCEL: the cancel is applied to the channel of TCID as R208 says; a channel that has ended needs none (log 17). -/
def Device.sqCancel (d : Device) (p : PartNo) (n : QueueNo) : Device :=
  d.sqRun p n (fun o => o = 3) (fun w =>
    let d := (d.slotsWith (fun y => y.origin = .host p n (qTcid w))).foldl (fun d q => d.cancelSlot q.1 q.2) d
    d.sqDone p n w .ok)

def execMoverCancel (p : PartNo) (q : QueueNo) (s : State) : Host.Outcome State Fault Refusal := onLive (fun d => d.sqCancel p q) s

/-! ### MSI-X (R426) -/

/-- The message that waited for the end of its 2 µs. -/
def Msix.sendDeferred (now : W64) (m : Msix) : Msix :=
  if m.deferred && decide (2000 ≤ (now - m.lastSent).toNat) then
    if m.masked then { m with deferred := false, pba := true }
    else { m with deferred := false, lastSent := now, sent := m.sent + 1 }
  else m

def Device.msixLater (d : Device) (f : Fn) (vec : Fin 124) : Device :=
  match f with
  | .pf0 => if h : vec.val < 64 then { d with devMsix := d.devMsix.set vec.val (d.devMsix[vec.val].sendDeferred d.devTime) } else d
  | .vf p => d.modPart p (fun q => { q with msix := q.msix.set vec (q.msix[vec].sendDeferred d.devTime) })

def execMsixDeferredSend (f : Fn) (vec : Fin 124) (s : State) : Host.Outcome State Fault Refusal := onLive (fun d => d.msixLater f vec) s

/-! ### BAR4 (R418) -/

/-- Pieces of a BAR4 access that lie in one pocket or in the aperture: offset, place in the data, length. -/
def barPieces (off n : Nat) : List (Nat × Nat × Nat) :=
  let cut := (off / pocketSize + 1) * pocketSize
  if off + n ≤ cut then [(off, 0, n)] else [(off, 0, cut - off), (cut, cut - off, off + n - cut)]

/-- Bytes of a pocket for the host: clasp words as plain reads (R174). -/
def Device.barPocket (d : Device) (t : TileNo) (off n : Nat) : Got × Device :=
  let r := d.pocketRead t off n 7
  if r.1.st = .ue then ({ st := .poison, bytes := [], at_ := r.1.at_ }, r.2.outsideUe t r.1.at_) else r

/-- BAR4_UNBOUND (R418): offset, length, and whether it was a write. -/
def Device.barUnbound (d : Device) (p : PartNo) (off n : Nat) (write : Bool) : Device :=
  d.report 0x020B (some p) none 0 (pay4 off n write.toNat 0)

/-- Address in SPACE 2 of an offset of the aperture. -/
def Device.aperture (d : Device) (p : PartNo) (off : Nat) : Nat := d.cfg 0x6026 1 p + (off - 0x40000000)

/-- Read one piece. -/
def Device.barReadPiece (d : Device) (p : PartNo) (off n : Nat) : List Byte × Bool × Device :=
  let ones := List.replicate n 0xFF#8
  if off < 0x40000000 then
    if d.owns p (off / pocketSize) then
      let r := d.barPocket (fin (off / pocketSize)) (off % pocketSize) n
      if r.1.st = .ok then (r.1.bytes, false, r.2) else (ones, true, r.2)
    else (ones, false, d.barUnbound p off n false)
  else
    let r := d.hbmRead p (d.aperture p off) n false
    match r.1.st with
    | .ok => (r.1.bytes, false, r.2)
    | .unbound => (ones, false, r.2.barUnbound p off n false)
    | _ => (ones, true, r.2)

/-- BAR4_READ: the answer is held as the last completion; all-ones with the poisoned-data bit where a piece is poisoned. -/
def Device.barRead4 (d : Device) (p : PartNo) (off n : Nat) : Device :=
  let r := (barPieces off n).foldl (fun (acc : List Byte × Bool × Device) (q : Nat × Nat × Nat) =>
    let x := acc.2.2.barReadPiece p q.1 q.2.2
    (acc.1 ++ x.1, acc.2.1 || x.2.1, x.2.2)) ([], false, d)
  r.2.2.modPart p (fun q => { q with barRead := some (if r.2.1 then List.replicate n 0xFF#8 else r.1), barPoison := r.2.1 })

/-- While a reset is held or the part is frozen the host reads all ones (R396, R457, log 17). -/
def execBar4Read (p : PartNo) (offset : BitVec 31) (len : Nat) (s : State) : Host.Outcome State Fault Refusal :=
  if barAccess offset len then
    onDev (fun d => if d.live then d.barRead4 p offset.toNat len
      else d.modPart p (fun q => { q with barRead := some (List.replicate len 0xFF#8), barPoison := false })) s
  else .fault .illFormed

/-- Write one piece: dropped and logged where nothing is bound or the clasp region is touched. -/
def Device.barWritePiece (d : Device) (p : PartNo) (off : Nat) (bs : List Byte) : Device :=
  if off < 0x40000000 then
    if d.owns p (off / pocketSize) && decide (off % pocketSize + bs.length ≤ claspBase) then
      (d.meshWrite (fin (off / pocketSize)) (off % pocketSize) bs).2
    else d.barUnbound p off bs.length true
  else
    let r := d.hbmWrite p (d.aperture p off) bs false
    if r.1.st = .unbound then r.2.barUnbound p off bs.length true else r.2

def Device.barWrite4 (d : Device) (p : PartNo) (off : Nat) (bs : List Byte) : Device :=
  (barPieces off bs.length).foldl (fun d q => d.barWritePiece p q.1 ((bs.drop q.2.1).take q.2.2)) d

def execBar4Write (p : PartNo) (offset : BitVec 31) (data : List Byte) (s : State) : Host.Outcome State Fault Refusal :=
  if barAccess offset data.length then onLive (fun d => d.barWrite4 p offset.toNat data) s else .fault .illFormed

end Sys2Proof.Machine
end

