-- ==== Sys2Proof/Machine/Sentinel.lean ====
section
/-! DEFINITION. The sentinel (10_precision_safeguards.md): reports, figures, promotion and reversal, the step boundary (R259), forced
variants and restored entries. -/

namespace Sys2Proof.Machine

/-! ### Reports (R245, R246) -/

/-- SENTINEL_REPORT: the oldest report on its way reaches the sentinel and is held as pending of its context (R246). -/
def Device.sentReport (d : Device) : Device :=
  match d.sentReports with
  | [] => d
  | r :: rest =>
    let d := { d with sentReports := rest }
    let c := match r with
      | .stat c _ _ _ _ => c
      | .acc c _ _ _ => c
    d.modCtx c (fun x => { x with reports := x.reports ++ [r] })

def execSentinelReport (s : State) : Host.Outcome State Fault Refusal := onLive (fun d => d.sentReport) s

/-- A nonnegative FP32 word in units of 2^-149; none for a NaN or an infinity. -/
def f32units (w : W32) : Option Nat :=
  match ofFP32 (fabs w) with
  | .fin _ m e => some (m <<< (e + 149).toNat)
  | _ => none

/-- One report added to the totals of its entry (R245, R247, R250, R257). -/
def SEntry.fold (e : SEntry) : Report → SEntry
  | .stat _ _ _ r block =>
    let err := f32units (BitVec.ofNat 32 (fld r 128 32))
    let sig := f32units (BitVec.ofNat 32 (fld r 160 32))
    let amax : W32 := BitVec.ofNat 32 (fld r 192 32)
    let w : W32 := BitVec.ofNat 32 (fld r 224 32)
    { e with nStat := e.nStat + 1, n := e.n + fld r 0 32 * block, sat := e.sat + fld r 32 32, unf := e.unf + fld r 64 32,
             errSum := e.errSum + err.getD 0, sigSum := e.sigSum + sig.getD 0, sumBad := e.sumBad || err.isNone || sig.isNone,
             nonfin := e.nonfin + fld r 96 16, amax := if e.amax.toNat < amax.toNat then amax else e.amax,
             wmax := if !isNan32 w && decide (fkey e.wmax < fkey w) then w else e.wmax }
  | .acc _ _ _ f =>
    if bitOf f 0 then { e with accOvf := true } else if bitOf f 1 then { e with nonfin := e.nonfin + 1 } else e

def Report.tensor : Report → BitVec 20
  | .stat _ _ t _ _ => t
  | .acc _ _ o _ => o

/-- One report folded; one that matches no entry is counted in rel.sentinel.unregistered (R245). -/
def Device.foldReport (d : Device) (c : CtxNo) (r : Report) : Device :=
  match firstIdx (fun (e : SEntry) => e.ctx = c && e.tensor = r.tensor) d.sentinel with
  | some i => { d with sentinel := d.sentinel.modify i (fun e => e.fold r) }
  | none => { d with unregistered := d.unregistered + 1 }

/-- A successful commit folds the segment's reports, those still on their way included (R246). -/
def Device.foldReports (d : Device) (c : CtxNo) : Device :=
  let mine (r : Report) : Bool := match r with
    | .stat k _ _ _ _ => k = c
    | .acc k _ _ _ => k = c
  ((d.ctxs[c]).reports ++ d.sentReports.filter mine).foldl (fun d r => d.foldReport c r) (d.dropReports c)

/-! ### Figures and thresholds (R250 to R253) -/

/-- FP64, in which e is formed (R250). -/
def encFP64 : FEnc := ⟨11, 52, 1023, true, false⟩

/-- Whether e of Table 10.2 is strictly greater than a threshold; a sum with a non-finite term exceeds (log 30). -/
def SEntry.errExceeds (e : SEntry) (thr : W32) : Bool :=
  if e.sumBad then true
  else if e.sigSum = 0 then false
  else
    let r (n : Nat) : FV := encFP64.decode (encFP64.roundIeee (.fin false n (-149)))
    decide (encFP64.roundIeee (FV.div (r e.errSum) (r e.sigSum)) > encFP64.roundIeee (ofFP32 thr))

/-- Parts per million of n; 0 where n is 0 (log 30). -/
def ppm (k n : Nat) : Nat := if n = 0 then 0 else k * 1000000 / n

/-- A threshold: the entry's own where nonzero, else the device default (R251). -/
def Device.threshold (d : Device) (own : W32) (sub : Nat) : W32 := if own = 0 then BitVec.ofNat 32 (d.cfg 0x5210 sub 0) else own

/-- The figures that exceed in this step: bit 0 sat, 1 unf, 2 e, 3 w (R250, R251, R258). -/
def Device.figures (d : Device) (e : SEntry) : Nat :=
  (decide (ppm e.sat e.n > (d.threshold e.satPpm 1).toNat)).toNat
    + 2 * (decide (ppm e.unf e.n > (d.threshold e.unfPpm 2).toNat)).toNat
    + 4 * (e.errExceeds (d.threshold e.errRatio 4)).toNat
    + 8 * (decide (fkeyEq e.wmax > fkeyEq (d.threshold e.worst 5))).toNat

/-- Histories, figures, CONSEC and QUIET of one entry at a step boundary (R247, R251, R252, R260); the step totals are cleared
but for what the decision needs, kept in `trigger`. An entry is armed when the step began with FILL = 16. -/
def Device.measure (d : Device) (e : SEntry) : SEntry :=
  let armed := e.hist.length = 16
  let mask := if e.nStat = 0 ∨ !armed then 0 else d.figures e
  let bad := mask ≠ 0 ∨ e.accOvf
  { e with
    hist := if e.nStat = 0 then e.hist else (e.amax :: e.hist).take 16,
    consec := if e.nStat = 0 ∨ !armed then e.consec else if mask ≠ 0 then min (e.consec + 1) 16 else 0,
    quiet := if e.variant = 0 then e.quiet else if bad then 0 else if e.quiet = BitVec.allOnes 32 then e.quiet else e.quiet + 1,
    nonfinCount := e.nonfinCount + BitVec.ofNat 64 e.nonfin,
    trigger := BitVec.ofNat 6 (mask + 16 * e.accOvf.toNat),
    nStat := 0, n := 0, sat := 0, unf := 0, errSum := 0, sigSum := 0, sumBad := false, wmax := 0, amax := 0, nonfin := 0 }

/-- PROMOTE raised for an entry (R254). -/
def Device.promotes (d : Device) (e : SEntry) : Bool := decide (e.consec ≥ d.cfg 0x5210 3 0) || e.accOvf

/-- A demotion decided for an entry (R260). -/
def Device.demotes (d : Device) (e : SEntry) : Bool :=
  e.variant ≠ 0 && decide (e.quiet.toNat ≥ d.cfg 0x5210 6 0 * 2 ^ min e.demotes 6) && d.cfg 0x5210 7 0 = 1 && !e.pinned

/-! ### Applying decisions (R255 to R258, R261) -/

/-- Payload of the sentinel's events (R258; log 14): tensor, old and new VARIANT, trigger mask, step. -/
def sentPay (e : SEntry) (new : BitVec 4) (trig : Nat) (step : W64) : BitVec 128 :=
  BitVec.ofNat 128 (e.tensor.toNat + e.variant.toNat <<< 20 + new.toNat <<< 24 + trig <<< 28 + step.toNat <<< 64)

/-- One entry under the boundary's decisions, with the code reported and its payload. -/
def SEntry.decide_ (e : SEntry) (promote demote : Bool) (step : W64) : SEntry × Option (W16 × BitVec 128) :=
  if promote then
    if e.pinned then (e, some (0x0208, sentPay e e.variant e.trigger.toNat step))
    else if e.variant = e.maxv then ({ e with consec := 0 }, some (0x0100, sentPay e e.variant e.trigger.toNat step))
    else ({ e with variant := e.variant + 1, consec := 0, quiet := 0,
                   promotes := if e.promotes = BitVec.allOnes 32 then e.promotes else e.promotes + 1 },
          some (0x0207, sentPay e (e.variant + 1) e.trigger.toNat step))
  else if demote && e.variant ≠ 0 && !e.pinned then
    ({ e with variant := e.variant - 1, consec := 0, quiet := 0, demotes := min (e.demotes + 1) 255 },
     some (0x020D, sentPay e (e.variant - 1) 32 step))
  else (e, none)

/-- A forced variant prevails (R261). -/
def SEntry.force (e : SEntry) : SEntry :=
  match e.forced with
  | some (v, pin) => { e with variant := v, pinned := pin, forced := none }
  | none => e

/-- The decisions applied to every entry of a context, each reported (R255, R258). -/
def Device.applyDecisions (d : Device) (p : PartNo) (c : CtxNo) (promote demote : List (BitVec 20)) : Device :=
  let step := (d.ctxs[c]).stepNo
  let out := d.sentinel.map (fun e =>
    if e.part = p && e.ctx = c then
      let r := e.decide_ (decide (e.tensor ∈ promote)) (decide (e.tensor ∈ demote)) step
      ({ r.1.force with accOvf := false, trigger := 0 }, r.2)
    else (e, none))
  (out.filterMap (·.2)).foldl (fun d (q : W16 × BitVec 128) => d.report q.1 (some p) (some c.val) c.val q.2)
    { d with sentinel := out.map (·.1) }

/-! ### The step's end -/

/-- Commands whose last step has ended complete (R422); DETAIL is the step. -/
def Device.completeSteps (d : Device) (p : PartNo) (c : CtxNo) (step : W64) : Device :=
  (List.finRange 64).foldl (fun d q =>
    ((d.parts[p]).queues[q]).started.foldl (fun d s =>
      match s with
      | .steps cid k last =>
        if k = c ∧ last = step then
          (d.modQueue p q (fun u => { u with started := u.started.erase s })).postCq p q
            { cid := cid, status := St.ok.code, detail := step }
        else d
      | .channel _ _ => d) d) d

/-- Whether a checkpoint or a fitting keeps a context at the boundary it is at (R383, R389): a checkpoint armed for the step
that ended or holding, a tile under fitting, or one whose grace has ended. -/
def Device.boundaryHeld (d : Device) (p : PartNo) (c : CtxNo) : Bool :=
  let k := (d.parts[p]).ckpt
  (k.ctx = c && (k.st = 2 || (k.st = 1 && k.step + 1 = (d.ctxs[c]).stepNo))) ||
    (!d.realTime c && (d.ctxNames c).any (fun t => (d.health[d.patchMap[t]]).role = 3 || (d.health[d.patchMap[t]]).overdue))

/-- The hold of a context is judged anew; released, the context goes on. -/
def Device.reHold (d : Device) (p : PartNo) (c : CtxNo) : Device :=
  (d.modCtx c (fun x => { x with heldAt := x.heldAt && d.boundaryHeld p c })).schedule

/-- The words are written, then the step ends (Table 10.4): its commands complete, pre-emption and rebinding follow, and the next
step is released. -/
def Device.stepEnd (d : Device) (p : PartNo) (c : CtxNo) : Device :=
  let step := (d.ctxs[c]).stepNo
  let d := d.writeWords p c (fun _ => true)
  let d := (d.kernelTiles c).foldl (fun d t => d.modTile t (fun x => { x with mode := .idle })) d
  let d := d.modCtx c (fun x => { x with inStep := false, atBoundary := false, stepNo := x.stepNo + 1, decided := none,
                                         prio := x.prioSet })
  let d := d.modCtx c (fun x => { x with heldAt := d.boundaryHeld p c })
  (d.completeSteps p c step).schedule

/-- STEP_BOUNDARY (R259): every tile of the running context has ended its kernel. The histories and figures are formed and the
decisions made; with scope 0, or without a slice to agree with, they are applied at once (R256). -/
def Device.stepBoundary (d : Device) (c : CtxNo) : Device :=
  let x := d.ctxs[c]
  match x.part with
  | none => d
  | some p =>
    if d.up 1 && d.up 6 && x.st = .running && x.inStep && !x.atBoundary && !x.saving && !x.replayDue &&
        (d.kernelTiles c).all (fun t => (d.tiles[t]).mode = .ending) then
      let d := d.foldReports c
      let mine (e : SEntry) : Bool := e.part = p && e.ctx = c
      let bad := d.sentinel.find? (fun e => mine e && e.nonfin ≠ 0)
      let d := { d with sentinel := d.sentinel.map (fun e => if mine e then d.measure e else e) }
      let d := match bad with
        | some e => d.report 0x0101 (some p) (some c.val) c.val (sentPay e e.variant 0 x.stepNo)
        | none => d
      let up := (d.sentinel.filter (fun e => mine e && d.promotes e)).map (·.tensor)
      let down := (d.sentinel.filter (fun e => mine e && d.demotes e)).map (·.tensor)
      if d.cfg 0x5210 8 0 = 1 ∧ d.sliceOf p ≠ none then
        d.modCtx c (fun x => { x with atBoundary := true, decided := some (up, down) })
      else (d.applyDecisions p c up down).stepEnd p c
    else d

def execStepBoundary (c : CtxNo) (s : State) : Host.Outcome State Fault Refusal := onLive (fun d => d.stepBoundary c) s

/-- SLICE_DECISION_EXCHANGE (R256): the union of the slice's promotions and the intersection of its demotions are applied. -/
def Device.sliceExchange (d : Device) (c : CtxNo) (promote demote : List (BitVec 20)) : Device :=
  let x := d.ctxs[c]
  match x.part, x.decided with
  | some p, some (up, down) =>
    if x.st = .running && x.atBoundary then
      (d.applyDecisions p c (up ++ promote) (down.filter (fun t => decide (t ∈ demote)))).stepEnd p c
    else d
  | _, _ => d

def execSliceDecisionExchange (c : CtxNo) (promote demote : List (BitVec 20)) (s : State) : Host.Outcome State Fault Refusal :=
  onLive (fun d => d.sliceExchange c promote demote) s

/-! ### Owner control (R261, R262) -/

/-- part.sentinel.commit: a forced variant, taken at the context's next step boundary. -/
def Device.applyForce (d : Device) (g : Nat → Nat) (p : PartNo) (value : Nat) : St × Device :=
  if value ≠ 1 then (.sentinelNoEntry, d)
  else if g 1 ≥ 256 ∨ g 4 > 1 then (.sentinelNoEntry, d)
  else
    match firstIdx (fun (e : SEntry) => e.part = p && e.ctx.val = g 1 && e.tensor.toNat = g 2) d.sentinel with
    | none => (.sentinelNoEntry, d)
    | some i =>
      let maxv := ((d.sentinel[i]?).map (fun e => e.maxv.toNat)).getD 0
      if g 3 > maxv then (.fswRange, d)
      else (.ok, { d with sentinel := d.sentinel.modify i (fun e => { e with forced := some (BitVec.ofNat 4 (g 3), g 4 = 1) }) })

/-- The records of a written DOMAIN. -/
def sentRecords (bs : List Byte) : List (BitVec 768) :=
  (List.range (bs.length / 96)).map (fun i => BitVec.ofNat 768 (leNat ((bs.drop (96 * i)).take 96)))

/-- part.sentinel.entries written: whole records, into entries whose context and tensor match, only while each context has been
admitted and has not started (R262). -/
def Device.sentWrite (d : Device) (p : PartNo) (bs : List Byte) : St × Device :=
  let rs := sentRecords bs
  let target (r : BitVec 768) (e : SEntry) : Bool := e.part = p && e.ctx.val = fld r 20 8 && e.tensor.toNat = fld r 0 20
  let unstarted (c : CtxNo) : Bool := (d.ctxs[c]).part = some p && (d.ctxs[c]).st = .admitted
  if bs.length % 96 ≠ 0 ∨ rs.any (fun r => !unstarted (fin (fld r 20 8))) then (.sentinelBusy, d)
  else (.ok, { d with sentinel := d.sentinel.map (fun e =>
    match rs.reverse.find? (fun r => target r e) with
    | some r => e.restore r
    | none => e) })

end Sys2Proof.Machine
end

