-- ==== Sys2Proof/Machine/ImageForm.lean ====
section
/-! DEFINITION. The program image (R270 to R272): header, sections and their declarations, and the form that admission requires. -/

namespace Sys2Proof.Machine

/-- A bit field of a number. -/
def bits (v lo len : Nat) : Nat := v / 2 ^ lo % 2 ^ len

/-- A little-endian field of a byte list. -/
def leAt (bs : List Byte) (off n : Nat) : Nat := leNat ((bs.drop off).take n)

/-- A section (Table 11.3): type, tile, place in the image, length, pocket offset, place of its entry, contents. -/
structure Sect where
  ty : Nat
  tile : Nat
  off : Nat
  len : Nat
  poff : Nat
  io : Nat
  body : List Byte
deriving DecidableEq, Repr, Inhabited

/-- Section types (Table 11.4). -/
def tyCode : Nat := 0x01
def tyData : Nat := 0x02
def tyEntry : Nat := 0x03
def tyClasp : Nat := 0x04
def tyWatch : Nat := 0x05
def tyChannel : Nat := 0x06
def tyFsw : Nat := 0x07
def tyGuard : Nat := 0x08
def tyHist : Nat := 0x09
def tyMemory : Nat := 0x0A
def tyWindow : Nat := 0x0B
def tyPool : Nat := 0x0C
def tyNeeds : Nat := 0x0D

/-- Whether the length of a section fits its type (log 29): a whole section, or whole entries. -/
def Sect.lenOk (s : Sect) : Bool :=
  if s.ty = tyEntry then s.len = 4
  else if s.ty = tyClasp then s.len = 400
  else if s.ty = tyWatch then s.len = 1
  else if s.ty = tyNeeds then s.len = 16
  else if s.ty = tyChannel ∨ s.ty = tyGuard then s.len % 32 = 0
  else if s.ty = tyFsw ∨ s.ty = tyHist then s.len % 8 = 0
  else if s.ty = tyMemory ∨ s.ty = tyWindow ∨ s.ty = tyPool then s.len % 16 = 0
  else true

/-- Types of which a tile, or for NEEDS the image, has one section. -/
def Sect.single (s : Sect) : Bool := s.ty = tyEntry || s.ty = tyClasp || s.ty = tyWatch || s.ty = tyNeeds

/-- Sections that name a tile the context runs on (R264). -/
def Sect.perTile (s : Sect) : Bool := decide (1 ≤ s.ty) && decide (s.ty ≤ tyWatch)

/-- Entries of `n` bytes with their places in the image. -/
def Sect.entries (s : Sect) (n : Nat) : List (Nat × Nat) :=
  (List.range (s.len / n)).map (fun i => (leAt s.body (n * i) n, s.off + n * i))

/-- Entries with a reserved KIND, or a MEMORY space other than 2 and 3 (R276; log 29): their places. -/
def Sect.badKinds (s : Sect) : List Nat :=
  if s.ty = tyChannel then ((s.entries 32).filter (fun e => bits e.1 111 2 > 1)).map (·.2)
  else if s.ty = tyMemory then ((s.entries 16).filter (fun e => bits e.1 0 3 ≠ 2 && bits e.1 0 3 ≠ 3)).map (·.2)
  else []

/-- Section j of an image. -/
def sectAt (raw : List Byte) (j : Nat) : Sect :=
  let io := 32 + 32 * j
  let e := leAt raw io 32
  let off := bits e 32 32
  let len := bits e 64 32
  { ty := bits e 0 8, tile := bits e 8 10, off := off, len := len, poff := bits e 96 21, io := io, body := (raw.drop off).take len }

def imgSections (raw : List Byte) : List Sect := (List.range (leAt raw 6 2)).map (sectAt raw)

/-- Places of the header's fields that are wrong (R270, R276): MAGIC, CRC over the image with its field as 0, LENGTH, and an NSECT of 0 or
of a table that does not fit. -/
def headerBad (raw : List Byte) (length : Nat) : List Nat :=
  let n := leAt raw 6 2
  (if leAt raw 0 4 = 0x49415A4B then [] else [0]) ++ (if n ≠ 0 && decide (32 + 32 * n ≤ length) then [] else [6])
    ++ (if BitVec.ofNat 32 (leAt raw 8 4) = crc32 (raw.take 8 ++ List.replicate 4 0 ++ raw.drop 12) then [] else [8])
    ++ (if leAt raw 12 4 = length then [] else [12])

/-- Places of what is wrong in the sections, going through the table with the ranges already taken (R276; log 29): one for each section
that is reserved, of a wrong length, one too many, outside the image or over another, and one for each entry with a reserved KIND. -/
def sectsBad (length : Nat) : List Sect → List Sect → List (Nat × Nat) → List Nat
  | _, [], _ => []
  | before, s :: rest, spans =>
    (if s.ty = 0 ∨ s.ty > tyNeeds then [s.io] else [])
      ++ (if s.off + s.len > length ∨ (s.len ≠ 0 ∧ spans.any (fun x => decide (s.off < x.2) && decide (x.1 < s.off + s.len)))
          then [s.io] else [])
      ++ (if !s.lenOk ∨ (s.single ∧ before.any (fun b => b.ty = s.ty && (s.ty = tyNeeds || b.tile = s.tile))) then [s.io] else [])
      ++ s.badKinds
      ++ sectsBad length (before ++ [s]) rest (if s.len = 0 then spans else spans ++ [(s.off, s.off + s.len)])

/-- IMAGE_FORMAT: the places of what is wrong, each reported (R276). The sections are looked at where the header's table fits the image;
a tile with CODE needs its ENTRY (R271). -/
def formatBad (raw : List Byte) (length : Nat) : List Nat :=
  let h := headerBad raw length
  if 6 ∈ h then h
  else
    let ss := imgSections raw
    h ++ sectsBad length [] ss [(0, 32 + 32 * ss.length)] ++
      (ss.filter (fun s => s.ty = tyCode && ss.all (fun e => e.ty ≠ tyEntry || e.tile ≠ s.tile))).map (·.io)

/-! ### Declarations -/

def ofTy (ss : List Sect) (ty : Nat) : List Sect := ss.filter (fun s => s.ty = ty)

/-- All entries of a type. -/
def entriesOf (ss : List Sect) (ty n : Nat) : List (Nat × Nat) := (ofTy ss ty).flatMap (fun s => s.entries n)

/-- A stream channel (Table 11.5). -/
structure Chan where
  ptile : Nat
  pchip : Nat
  ctile : Nat
  cchip : Nat
  head : Nat
  tail : Nat
  base : Nat
  slot : Nat
  q : Nat
  kind : Nat
  at_ : Nat
deriving DecidableEq, Repr, Inhabited

def chanOf (e : Nat × Nat) : Chan :=
  { ptile := bits e.1 0 9, pchip := bits e.1 9 15, ctile := bits e.1 24 9, cchip := bits e.1 33 15, head := bits e.1 48 6,
    tail := bits e.1 54 6, base := bits e.1 60 21, slot := bits e.1 81 24, q := bits e.1 105 6, kind := bits e.1 111 2, at_ := e.2 }

/-- A window entry: the fields of Table 6.5 packed in order, with RIGHTS above the 12 bits of SLICE (log 29). -/
def winOf (v : Nat) : ImgWin :=
  { tile := bits v 0 16, base := bits v 16 32, size := bits v 48 32, slice := bits v 80 12, chipLo := bits v 96 16,
    chipHi := bits v 112 16, rights := bits v 92 3 }

def poolOf (v : Nat) : ImgPool := { tile := bits v 0 16, clasp := bits v 16 8, base := bits v 24 32, slots := bits v 56 8 }

def guardOf (v : Nat) : ImgGuard :=
  { tensor := BitVec.ofNat 20 v, margin := fin (bits v 20 2), sat := BitVec.ofNat 32 (bits v 32 32),
    unf := BitVec.ofNat 32 (bits v 64 32), err := BitVec.ofNat 32 (bits v 96 32), worst := BitVec.ofNat 32 (bits v 128 32) }

/-- Pocket bytes of a tile as admission will load them; zero elsewhere. -/
def peekImg (ss : List Sect) (tile off n : Nat) : Nat :=
  leNat ((List.range n).map (fun i =>
    match ss.find? (fun s => (s.ty = tyCode || s.ty = tyData) && s.tile = tile && decide (s.poff ≤ off + i) && decide (off + i < s.poff + s.len)) with
    | some s => s.body.getD (off + i - s.poff) 0
    | none => 0))

/-- Whether an instruction at a program offset lies in the CODE of a tile. -/
def inCode (ss : List Sect) (tile pc : Nat) : Bool :=
  ss.any (fun s => s.ty = tyCode && s.tile = tile && decide (s.poff ≤ pc) && decide (pc + 16 ≤ s.poff + s.len))

/-- Instruction words of a CODE section: pocket offset, image offset, word. -/
def Sect.words (s : Sect) : List (Nat × Nat × W128) :=
  (List.range (s.len / 16)).map (fun k => (s.poff + 16 * k, s.off + 16 * k, BitVec.ofNat 128 (leAt s.body (16 * k) 16)))

/-- The decode scan (R269, R276 INSTR_INVALID): a reserved CLASS or OP, a reserved format code, or an extent, an offset or another field of
the word itself out of range. What a record or a bound register supplies is checked at issue. -/
def scanBad (w : W128) : Bool :=
  match decodeOp w with
  | none => true
  | some op =>
    let imm (f lo hi : Nat) : Bool := decide (f < 2 ^ 15) && (decide (f < lo) || decide (f > hi))
    let far : Bool := match issueRead op w [] with
      | some (off, n) => decide (off + n > claspBase)
      | none => false
    far || (match op with
    | .mmOpen =>
      imm (moM w) 1 128 || imm (moN w) 1 128 || (Fmt.ofCode (moFa w)).isNone || (Fmt.ofCode (moFb w)).isNone || decide (moRunl w > 4)
        || moInit w = 3
    | .ldb => imm (mlKlen w) 16 256 || (decide (mlKlen w < 2 ^ 15) && mlKlen w % 16 ≠ 0) || msEbase w % 16 ≠ 0 || msEpitch w % 16 ≠ 0
    | .strm => msEbase w % 16 ≠ 0 || msEpitch w % 16 ≠ 0
    | .drain => mdDbase w % 16 ≠ 0 || mdDpitch w % 16 ≠ 0
    | .fill | .touch | .put => ctlBad (ldCvt w) || ldPoff w % 16 ≠ 0
    | .clw => decide (clwClasp w > 47) || decide (clwScope w > 1)
    | .launch => mvDesc w % 64 ≠ 0
    | .inval => !syWhole w && decide (sySpace w > 3)
    | .bld => !(bldFaults w).isEmpty
    | _ =>
      if wClass w = 3 then vxFormatBad op w [] || vxShapeBad op w [] (if vxLen w < 2 ^ 15 then vxLen w else 0)
      else if wClass w = 6 then !(clFaults op w).isEmpty
      else false)

end Sys2Proof.Machine
end

