-- ==== Sys2Proof/Machine/Admission.lean ====
section
/-! DEFINITION. Program admission (11_mapping_admission.md): the checks of Table 11.7, reservation, loading, withdrawal. -/

namespace Sys2Proof.Machine

/-- An entry of the admission report (Table 11.8). -/
structure AdmErr where
  code : Nat
  tile : Nat
  detail : Nat
  required : Nat
  available : Nat
deriving DecidableEq, Repr, Inhabited

def admErr (code : Nat) (tile detail : Nat := 0) (required available : Nat := 0) : AdmErr :=
  { code := code, tile := tile, detail := detail, required := required, available := available }

/-- No tile concerned. -/
def noTile : Nat := 1023

def AdmErr.bytes (e : AdmErr) : List Byte :=
  leBytes 2 e.code ++ leBytes 2 (e.tile % 1024) ++ leBytes 4 e.detail ++ leBytes 4 e.required ++ leBytes 4 e.available

/-- The report (R279): summary, up to 1,023 entries, and REPORT_TRUNCATED with the number omitted. -/
def admReport (es : List AdmErr) (refused : Bool) : List Byte :=
  let shown := if es.length ≤ 1023 then es else es.take 1023 ++ [admErr 0x2F noTile (es.length - 1023)]
  leBytes 4 shown.length ++ leBytes 12 refused.toNat ++ shown.flatMap AdmErr.bytes

/-! ### What the checks share -/

/-- Channels with an end on this device (R272). -/
def Device.ownChans (d : Device) (ss : List Sect) : List Chan :=
  ((entriesOf ss tyChannel 32).map chanOf).filter (fun c => c.pchip = d.chipId.toNat || c.cchip = d.chipId.toNat)

/-- The ends of a channel on this device: tile and clasp. -/
def Device.chanEnds (d : Device) (c : Chan) : List (Nat × Nat) :=
  (if c.pchip = d.chipId.toNat then [(c.ptile, c.tail)] else []) ++ (if c.cchip = d.chipId.toNat then [(c.ctile, c.head)] else [])

def imgWins (ss : List Sect) : List ImgWin := (entriesOf ss tyWindow 16).map (fun e => winOf e.1)
def imgPools (ss : List Sect) : List ImgPool := (entriesOf ss tyPool 16).map (fun e => poolOf e.1)

/-- Every logical tile the image names on this device: the tiles its context runs on (R264). -/
def Device.namedTiles (d : Device) (ss : List Sect) : List Nat :=
  (((ss.filter Sect.perTile).map (·.tile)) ++ (entriesOf ss tyFsw 8).map (fun e => bits e.1 21 9) ++ (entriesOf ss tyHist 8).map (fun e => bits e.1 21 9)
    ++ (imgWins ss).map (·.tile) ++ (imgPools ss).map (·.tile)
    ++ (d.ownChans ss).flatMap (fun c => (d.chanEnds c).map (·.1))).eraseDups

/-- Footprints on a tile: CODE, DATA, channel slots, pool slots (R276). -/
def Device.footprints (d : Device) (ss : List Sect) (tile : Nat) : List (Nat × Nat) :=
  (ss.filter (fun s => (s.ty = tyCode || s.ty = tyData) && s.tile = tile)).map (fun s => (s.poff, s.len))
    ++ ((d.ownChans ss).filter (fun c => c.cchip = d.chipId.toNat && c.ctile = tile)).map (fun c => (c.base, c.q * c.slot))
    ++ ((imgPools ss).filter (fun n => n.tile = tile)).map (fun n => (n.base, 4096 * n.slots))

def sumNat (l : List Nat) : Nat := l.foldl (· + ·) 0

/-- Insert by first component. -/
def insertRange (x : Nat × Nat) : List (Nat × Nat) → List (Nat × Nat)
  | [] => [x]
  | y :: r => if x.1 ≤ y.1 then x :: y :: r else y :: insertRange x r

/-- Offsets of footprints that overlap an earlier one or reach the clasp region; the list is in rising order. -/
def overlapsFrom : Nat → List (Nat × Nat) → List Nat
  | _, [] => []
  | last, (o, n) :: r =>
    (if o < last ∨ o + n > claspBase then [o] else []) ++ overlapsFrom (max last (o + n)) r

/-! ### The checks, in the order of their codes -/

def Device.checkTiles (d : Device) (p : PartNo) (ss : List Sect) : List AdmErr :=
  let named := d.namedTiles ss
  let unbound := named.filter (fun t => !d.owns p t)
  match lowest unbound with
  | none => []
  | some t => [admErr 0x10 noTile t named.length (named.length - unbound.length)]

/-- POCKET_OVERRUN and POCKET_OVERLAP. Footprints that exceed the pocket cannot but overlap or reach its clasp region; of such a tile the
overrun alone is reported, as in the example of R280 (log 29). -/
def Device.checkPockets (d : Device) (ss : List Sect) : List AdmErr :=
  let per (t : Nat) : List (Nat × Nat) := ((d.footprints ss t).filter (fun f => f.2 ≠ 0)).foldl (fun l x => insertRange x l) []
  let tiles := (List.range 1024).filter (fun t => !(per t).isEmpty)
  (tiles.filterMap (fun t =>
    let total := sumNat ((per t).map (·.2))
    if total > claspBase then some (admErr 0x11 t 0 total claspBase) else none))
    ++ (tiles.filter (fun t => decide (sumNat ((per t).map (·.2)) ≤ claspBase))).flatMap (fun t =>
      (overlapsFrom 0 (per t)).map (fun o => admErr 0x12 t o))

def Device.checkAlign (d : Device) (ss : List Sect) : List AdmErr :=
  (ss.filter (fun s => s.off % 16 ≠ 0)).map (fun s => admErr 0x13 noTile s.io)
    ++ ((ofTy ss tyCode).filter (fun s => s.poff % 16 ≠ 0 || s.len % 16 ≠ 0)).map (fun s => admErr 0x13 s.tile s.poff)
    ++ ((ofTy ss tyEntry).filter (fun s => !inCode ss s.tile (16 * leNat s.body))).map (fun s => admErr 0x13 s.tile (16 * leNat s.body))
    ++ ((d.ownChans ss).filter (fun c => c.base % 64 ≠ 0 || c.slot % 64 ≠ 0)).map (fun c => admErr 0x13 noTile c.at_)
    ++ (((entriesOf ss tyFsw 8) ++ entriesOf ss tyHist 8).filter (fun e => bits e.1 0 21 % 8 ≠ 0)).map
        (fun e => admErr 0x13 (bits e.1 21 9) (bits e.1 0 21))
    ++ ((imgPools ss).filter (fun n => n.base % 4096 ≠ 0)).map (fun n => admErr 0x13 n.tile n.base)

def checkInstrs (ss : List Sect) : List AdmErr :=
  (ofTy ss tyCode).flatMap (fun s => (s.words.filter (fun x => scanBad x.2.2)).map (fun x => admErr 0x14 s.tile x.2.1))

/-- Instruction words of a tile's CODE that the scan accepts, with their pocket offsets. -/
def tileWords (ss : List Sect) (tile : Nat) : List (Nat × W128) :=
  ((ofTy ss tyCode).filter (fun s => s.tile = tile)).flatMap (fun s =>
    (s.words.filter (fun x => !scanBad x.2.2)).map (fun x => (x.1, x.2.2)))

/-- Whether an instruction signals a token counter (R278). -/
def signals (w : W128) (n : Nat) : Bool :=
  (wSen w && (wStok w).val = n) || (decodeOp w = some .tokadd && fld w 32 3 = n && fld w 35 8 ≠ 0)
    || (decodeOp w = some .clWatch && clNkind w = 0 && (clNarg w).val = n)

def codeTiles (ss : List Sect) : List Nat := ((ofTy ss tyCode).map (·.tile)).eraseDups

def checkTokens (ss : List Sect) : List AdmErr :=
  (codeTiles ss).flatMap (fun t =>
    let ws := (tileWords ss t).map (·.2)
    ((List.range 8).filter (fun n => ws.any (fun w => wWcnt w ≠ 0 && (wWtok w).val = n) && !ws.any (fun w => signals w n))).map
      (fun n => admErr 0x15 t n))

/-- Clasps that instructions watch on this chip (R276): tile and clasp. -/
def watchedClasps (ss : List Sect) : List (Nat × Nat) :=
  (codeTiles ss).flatMap (fun t => ((tileWords ss t).filter (fun x =>
    (decodeOp x.2 = some .clWatch || decodeOp x.2 = some .clWait) && decide (clScope x.2 < 2))).map (fun x =>
      (if clScope x.2 = 0 then t else clTile x.2, clClasp x.2)))

/-- Used and shared masks of an image's CLASP section for a tile. -/
def claspMasks (ss : List Sect) (tile : Nat) : Nat × Nat :=
  match (ofTy ss tyClasp).find? (fun s => s.tile = tile) with
  | some s => (leAt s.body 0 8 % 2 ^ 48, leAt s.body 8 8 % 2 ^ 48)
  | none => (0, 0)

/-- Images held by other contexts of the device. -/
def Device.otherImages (d : Device) (c : CtxNo) : List (Context × Image) :=
  (d.ctxs.toList.zipIdx.filter (fun (q : Context × Nat) => q.2 ≠ c.val)).filterMap (fun q => q.1.image.map (fun i => (q.1, i)))

/-- Clasps of the open job rings of a context (R221, R326). -/
def Device.ringClasps (d : Device) (p : PartNo) (c : CtxNo) : List (Nat × Nat) :=
  (((d.gather.toList.map (·.ring)).filter (fun (r : Ring) => r.part = p)) ++ [(d.parts[p]).collRing]).flatMap (fun r =>
    if r.st ≠ 0 ∧ r.ctx = c then [(r.tile.val, r.head), (r.tile.val, r.tail)] else [])

def maskOf (l : List Nat) : Nat := sumNat (l.eraseDups.map (2 ^ ·))

def Device.checkClasps (d : Device) (p : PartNo) (c : CtxNo) (ss : List Sect) : List AdmErr :=
  let ends := (d.ownChans ss).flatMap d.chanEnds
  let need := ends ++ watchedClasps ss ++ (imgPools ss).map (fun n => (n.tile, n.clasp)) ++ d.ringClasps p c
  let per (f : Nat → List Nat) : List AdmErr := (List.range 1024).filterMap (fun t =>
    if (f t).isEmpty then none else some (admErr 0x16 t (maskOf (f t) % 2 ^ 32)))
  per (fun t => (need.filter (fun x => x.1 = t && bits (claspMasks ss t).1 x.2 1 = 0)).map (·.2))
    ++ per (fun t => (ends.filter (fun x => x.1 = t && decide ((ends.filter (fun y => y = x)).length > 1))).map (·.2))
    ++ per (fun t => (List.range 48).filter (fun n => bits (claspMasks ss t).1 n 1 = 1 &&
        (d.otherImages c).any (fun o => o.2.tiles.any (fun x => x.tile.val = t && bitOf x.used n &&
          !(bits (claspMasks ss t).2 n 1 = 1 && bitOf x.shared n)))))

/-- Watch slots an image declares for a tile (Table 11.4). -/
def imgWatch (ss : List Sect) (tile : Nat) : Nat :=
  match (ofTy ss tyWatch).find? (fun s => s.tile = tile) with
  | some s => leNat s.body
  | none => 0

def Device.checkWatches (d : Device) (p : PartNo) (c : CtxNo) (ss : List Sect) : List AdmErr :=
  ((List.finRange 512).filter (fun t => (d.tiles[t]).bound = some p)).filterMap (fun (t : TileNo) =>
    let total := d.cfg 0x60D0 6 p + imgWatch ss t + sumNat (((d.otherImages c).filter (fun o => o.1.part = some p)).flatMap (fun o =>
      (o.2.tiles.filter (fun x => x.tile = t)).map (·.watch)))
    if total > 32 then some (admErr 0x17 t 0 total 32) else none)

/-- Units of 2^shift bytes that ranges touch, below `top` and above it, and those of them that are bound. -/
def touched (ranges : List (Nat × Nat)) (shift top : Nat) (bound : Nat → Bool) : Nat × Nat :=
  let rs := ranges.filter (fun r => r.2 ≠ 0)
  let hit (x : Nat) : Bool := rs.any (fun r => decide (r.1 / 2 ^ shift ≤ x) && decide (x ≤ (r.1 + r.2 - 1) / 2 ^ shift))
  let inside := (List.range top).filter hit
  let above := sumNat (rs.map (fun r => (r.1 + r.2 - 1) / 2 ^ shift + 1 - max top (r.1 / 2 ^ shift)))
  (inside.length + above, (inside.filter bound).length)

def imgMem (ss : List Sect) : List (Nat × Nat × Nat) := (entriesOf ss tyMemory 16).map (fun e => (bits e.1 0 3, bits e.1 16 48, bits e.1 64 64))

/-- MEMORY ranges; a context's save area counts as SPACE 2 (R355). -/
def Device.checkMemory (d : Device) (p : PartNo) (c : CtxNo) (ss : List Sect) : List AdmErr :=
  let of_ (space : Nat) : List (Nat × Nat) := ((imgMem ss).filter (fun m => m.1 = space)).map (·.2)
  let h := touched (((d.ctxs[c]).saveBase, saveSize * (d.namedTiles ss).length) :: of_ 2) 21 (2 ^ 19) (fun x => (d.transHbm p (x * pageSize)).isSome)
  let t := touched (of_ 3) 30 4096 (fun x => (d.transTmem p (x * 2 ^ 30)).isSome)
  (if h.2 < h.1 then [admErr 0x18 noTile 0 h.1 h.2] else []) ++ (if t.2 < t.1 then [admErr 0x19 noTile 0 t.1 t.2] else [])

/-- NEEDS of an image: gather engines, bulk movers, host/link slots. -/
def imgNeeds (ss : List Sect) : Nat × Nat × List Nat :=
  match ofTy ss tyNeeds with
  | s :: _ => let v := leNat s.body; (bits v 0 16, bits v 16 16, (List.range 8).map (fun n => bits v (32 + 8 * n) 8))
  | [] => (0, 0, List.replicate 8 0)

def Device.checkEngines (d : Device) (p : PartNo) (c : CtxNo) (ss : List Sect) : List AdmErr :=
  let needs := imgNeeds ss
  let missing (mask : Nat) (bound : Fin 16 → Bool) : List (Fin 16) := (List.finRange 16).filter (fun n => bits mask n 1 = 1 && !bound n)
  let entry (code mask : Nat) (miss : List (Fin 16)) : List AdmErr :=
    let want := ((List.range 16).filter (fun n => bits mask n 1 = 1)).length
    if miss.isEmpty then [] else [admErr code noTile (maskOf (miss.map (·.val))) want (want - miss.length)]
  let cap := d.cfg 0x6090 1 p
  entry 0x1A needs.1 (missing needs.1 (fun n => (d.gather[n]).bound = some p))
    ++ entry 0x1B needs.2.1 (missing needs.2.1 (fun n => match d.bulkBound[n] with
        | some b => b.1 = p
        | none => false))
    ++ needs.2.2.zipIdx.filterMap (fun (q : Nat × Nat) =>
        let total := q.1 + sumNat (((d.otherImages c).filter (fun o => o.1.part = some p)).map (fun o => o.2.hl.getD q.2 0))
        if q.1 ≠ 0 ∧ total > cap then some (admErr 0x1C noTile q.2 total cap) else none)

/-- Slice ID of the partition's slice; 0 without one. -/
def Device.sliceId (d : Device) (p : PartNo) : Nat :=
  match d.sliceOf p with
  | some k => (d.tables[k]).id.toNat
  | none => 0

/-- The windows of R266 for the ends of KIND 1 channels on this device. -/
def Device.chanWins (d : Device) (p : PartNo) (ss : List Sect) : List ImgWin :=
  let chip := d.chipId.toNat
  let one (tile base size peer rights : Nat) : ImgWin :=
    { tile := tile, base := base, size := size, slice := d.sliceId p, chipLo := peer, chipHi := peer, rights := rights }
  ((d.ownChans ss).filter (fun c => c.kind = 1)).flatMap (fun c =>
    (if c.cchip = chip then [one c.ctile c.base (c.q * c.slot) c.pchip 2, one c.ctile (claspOff c.head / 64 * 64) 64 c.pchip 4] else [])
      ++ (if c.pchip = chip then [one c.ptile (claspOff c.tail / 64 * 64) 64 c.cchip 4] else []))

def Device.allWins (d : Device) (p : PartNo) (ss : List Sect) : List ImgWin := imgWins ss ++ d.chanWins p ss

def Device.freeWindows (d : Device) (p : PartNo) : List WinNo :=
  (List.finRange 64).filter (fun w => ((d.parts[p]).windows[w]).st = 0 && !((d.parts[p]).windows[w]).reserved)
def Device.freePools (d : Device) (p : PartNo) : List PoolNo :=
  (List.finRange 8).filter (fun n => !((d.parts[p]).pools[n]).open_ && !((d.parts[p]).pools[n]).reserved)

def imgGuards (ss : List Sect) : List (ImgGuard × Nat) := (entriesOf ss tyGuard 32).map (fun e => (guardOf e.1, e.2))

def Device.checkGrants (d : Device) (p : PartNo) (ss : List Sect) : List AdmErr :=
  let entry (code want have_ : Nat) : List AdmErr := if want > have_ then [admErr code noTile 0 want have_] else []
  entry 0x1D (d.allWins p ss).length (d.freeWindows p).length ++ entry 0x1E (imgPools ss).length (d.freePools p).length
    ++ entry 0x1F (imgGuards ss).length (d.sentCap p - (d.sentinel.filter (fun e => e.part = p)).length)

/-- Format selector words of an image: pocket offset, tile, and the word as it will be loaded. -/
def imgFsw (ss : List Sect) : List (Nat × Nat × Nat) :=
  (entriesOf ss tyFsw 8).map (fun e => (bits e.1 0 21, bits e.1 21 9, peekImg ss (bits e.1 21 9) (bits e.1 0 21) 8))

def checkFsw (ss : List Sect) : List AdmErr :=
  let guarded := (imgGuards ss).map (fun g => g.1.tensor.toNat)
  ((imgFsw ss).filter (fun f => !decide (bits f.2.2 8 20 ∈ guarded) || bits f.2.2 0 4 ≠ 0)).map (fun f => admErr 0x20 f.2.1 f.1)
    ++ (codeTiles ss).flatMap (fun t => ((tileWords ss t).filter (fun x => decodeOp x.2 = some .fsel)).filterMap (fun x =>
      let at_ := fld x.2 32 21
      let ok := (imgFsw ss).any (fun f => f.1 = at_ && f.2.1 = t) &&
        (List.range (bits (peekImg ss t at_ 8) 4 4 + 1)).all (fun v => inCode ss t (16 * peekImg ss t (fld x.2 53 21 + 4 * v) 4))
      if ok then none else some (admErr 0x20 t x.1)))

/-- Whether a guard's thresholds lie in the ranges of Table 10.3, where nonzero. -/
def ImgGuard.ok (g : ImgGuard) : Bool :=
  let inside (v : W32) (lo hi : Nat) : Bool := v = 0 || (decide (lo ≤ v.toNat) && decide (v.toNat ≤ hi))
  inside g.sat 1 1000000 && inside g.unf 1 1000000 && inside g.err 953267991 1065353216 && inside g.worst 981668463 1065353216

def checkGuards (ss : List Sect) : List AdmErr :=
  let gs := imgGuards ss
  (gs.zipIdx.filter (fun (q : (ImgGuard × Nat) × Nat) => !q.1.1.ok || (gs.take q.2).any (fun h => h.1.tensor = q.1.1.tensor))).map
      (fun q => admErr 0x21 noTile q.1.2)
    ++ ((entriesOf ss tyHist 8).filter (fun e => !decide (bits e.1 21 9 ∈ codeTiles ss))).map
      (fun e => admErr 0x21 (bits e.1 21 9) (bits e.1 0 21))

def Device.checkChans (d : Device) (p : PartNo) (ss : List Sect) : List AdmErr :=
  ((d.ownChans ss).filter (fun c => c.q < 2 || c.q > 32 || c.slot < 64 || c.slot > 1048576
      || (d.chanEnds c).any (fun e => !d.owns p e.1) || !((c.kind = 0) = (c.pchip = c.cchip)))).map (fun c => admErr 0x22 noTile c.at_)

/-- Every check after the format (R276). A version that does not match ends them (R274). -/
def Device.admitChecks (d : Device) (p : PartNo) (c : CtxNo) (raw : List Byte) : List AdmErr :=
  let ss := imgSections raw
  let v := Config.ifaceVersion.toNat
  if leAt raw 5 1 ≠ v / 256 ∨ leAt raw 4 1 > v % 256 then [admErr 0x02 noTile]
  else
    d.checkTiles p ss ++ d.checkPockets ss ++ d.checkAlign ss ++ checkInstrs ss ++ checkTokens ss ++ d.checkClasps p c ss
      ++ d.checkWatches p c ss ++ d.checkMemory p c ss ++ d.checkEngines p c ss ++ d.checkGrants p ss ++ checkFsw ss ++ checkGuards ss
      ++ d.checkChans p ss

/-! ### Reservation, loading, withdrawal (R274, R275) -/

/-- What admission keeps of an image. -/
def Device.imageOf (d : Device) (p : PartNo) (ss : List Sect) : Image :=
  let tiles := (List.finRange 512).filter (fun t => decide (t.val ∈ d.namedTiles ss))
  let contents (ty : Nat) (t : TileNo) : List (Nat × List Byte) := ((ofTy ss ty).filter (fun s => s.tile = t.val)).map (fun s => (s.poff, s.body))
  let values (t : TileNo) : List W64 :=
    match (ofTy ss tyClasp).find? (fun s => s.tile = t.val) with
    | some s => (List.range 48).map (fun n => BitVec.ofNat 64 (leAt s.body (16 + 8 * n) 8))
    | none => []
  { tiles := tiles.map (fun t =>
      { tile := t, entry := ((ofTy ss tyEntry).find? (fun s => s.tile = t.val)).map (fun s => leNat s.body), code := contents tyCode t,
        data := contents tyData t, used := BitVec.ofNat 48 (claspMasks ss t).1, shared := BitVec.ofNat 48 (claspMasks ss t).2,
        values := values t, watch := imgWatch ss t }),
    wins := d.allWins p ss, pools := imgPools ss, guards := (imgGuards ss).map (·.1),
    fsw := (imgFsw ss).map (fun f => (f.1, fin f.2.1, BitVec.ofNat 20 (bits f.2.2 8 20))),
    hist := (entriesOf ss tyHist 8).map (fun e => (bits e.1 0 21, fin (bits e.1 21 9), BitVec.ofNat 20 (bits e.1 30 20))),
    mem := imgMem ss, gatherMask := BitVec.ofNat 16 (imgNeeds ss).1, bulkMask := BitVec.ofNat 16 (imgNeeds ss).2.1, hl := (imgNeeds ss).2.2 }

/-- MAXV of a guarded tensor: the smallest of its words (log 29). -/
def maxvOf (ss : List Sect) (tensor : Nat) : Nat :=
  (lowest (((imgFsw ss).filter (fun f => bits f.2.2 8 20 = tensor)).map (fun f => bits f.2.2 4 4))).getD 0

/-- A sentinel entry registered in the lowest set of its partition that has room (log 30). -/
def Device.registerEntry (d : Device) (e : SEntry) : Device :=
  match (List.finRange 32).find? (fun k => d.sentinelSets[k] = some e.part && decide ((d.sentinel.filter (fun x => x.set = k)).length < 1024)) with
  | some k => { d with sentinel := d.sentinel ++ [{ e with set := k }] }
  | none => d

/-- Reserve the windows, pools and sentinel entries of an image (R274 step 4). -/
def Device.reserveImage (d : Device) (p : PartNo) (c : CtxNo) (ss : List Sect) : Device :=
  let i := d.imageOf p ss
  let ws := (d.freeWindows p).take i.wins.length
  let ns := (d.freePools p).take i.pools.length
  let d := ws.foldl (fun d w => d.modWindow p w (fun x => { x with reserved := true, forCtx := some c })) d
  let d := ns.foldl (fun d n => d.modPool p n (fun x => { x with reserved := true, forCtx := some c })) d
  i.guards.foldl (fun d g => d.registerEntry (SEntry.fresh p c g (maxvOf ss g.tensor.toNat)))
    (d.modCtx c (fun x => { x with image := some i }))

def Device.modAdmit (d : Device) (p : PartNo) (f : Admit → Admit) : Device := d.modPart p (fun q => { q with adm := f q.adm })

/-- The admission ends refused, with its report. -/
def Device.admitRefused (d : Device) (p : PartNo) (es : List AdmErr) : Device :=
  d.modAdmit p (fun a => { a with st := 4, report := admReport es true })

/-- Everything a context that has not started holds of its image is released (R275). -/
def Device.dropImage (d : Device) (p : PartNo) (c : CtxNo) : Device :=
  let d := d.dropReserved p c
  { d.modCtx c Context.emptied with sentinel := d.sentinel.filter (fun e => e.part ≠ p || e.ctx ≠ c) }

/-- A commit of 1: the image is read and checked; refused with its report, or reserved and loading. -/
def Device.adm (d : Device) (p : PartNo) (c : CtxNo) (addr length : Nat) : Device :=
  let r := d.loadBytes p addr length
  let d := r.2.2.modAdmit p (fun a => { a with ctx := c, image := addr, length := length })
  let unbound := (pageCuts addr length).any (fun q => (d.transHbm p q.1).isNone)
  let raw := r.2.1.read 0 length
  if unbound then d.admitRefused p [admErr 0x01 noTile]
  else if !r.1 then d.admitRefused p [admErr 0x23 noTile]
  else
    let bad := formatBad raw length
    if bad ≠ [] then d.admitRefused p (bad.map (fun at_ => admErr 0x01 noTile at_))
    else
      let es := d.admitChecks p c raw
      if es.isEmpty then (d.reserveImage p c (imgSections raw)).modAdmit p (fun a => { a with st := 2 }) else d.admitRefused p es

/-- The admission record's commit (R273). -/
def Device.applyAdmit (d : Device) (g : Nat → Nat) (p : PartNo) (value : Nat) : St × Device :=
  let a := (d.parts[p]).adm
  let c : CtxNo := fin (g 1)
  let x := d.ctxs[c]
  if a.st = 1 ∨ a.st = 2 then (.admitBusy, d)
  else if value = 1 then
    if g 1 ≥ 256 ∨ x.part ≠ some p ∨ x.st ≠ .bound ∨ x.image ≠ none then (.contextBusy, d)
    else if g 2 % 4096 ≠ 0 ∨ g 2 ≥ 2 ^ 40 ∨ g 3 < 64 then (.imageFormat, d)
    else (.ok, d.adm p c (g 2) (g 3))
  else if value = 0 then
    if g 1 < 256 ∧ x.part = some p ∧ x.st = .admitted then
      (.ok, (d.dropImage p c).modAdmit p (fun a => { a with st := 0 }))
    else (.admitBusy, d)
  else (.admitBusy, d)

/-- The initial VALUE of every unshared declared clasp of a tile (R274 step 4). -/
def ImgTile.initValues (x : ImgTile) : List (Nat × Nat) :=
  ((List.range 48).filter (fun n => bitOf x.used n && !bitOf x.shared n)).map (fun n => (n, clValue (x.values.getD n 0)))

/-- Whether another context holds a tile, running or loaded there (R354). -/
def Device.heldByOther (d : Device) (c : CtxNo) (t : TileNo) : Bool :=
  (match (d.tiles[t]).ctx with
   | some a => a ≠ c
   | none => false) ||
  (List.finRange 256).any (fun a => a ≠ c && ((d.ctxs[a]).st = .admitted || (d.ctxs[a]).st = .ready) && decide (t ∈ d.ctxNames a)
      && (d.ctxs[a]).saved.all (fun s => s.tile ≠ t))

/-- Load one tile: into its pocket, of which every word that is no clasp is zero first (R145), or into the save area of a context whose tile another one holds (R354). False where a word
cannot be written. -/
def Device.loadTile (d : Device) (c : CtxNo) (p : PartNo) (x : ImgTile) : Bool × Device :=
  if d.heldByOther c x.tile then
    let m := (x.code ++ x.data).foldl (fun (m : Memory) q => m.write q.1 q.2) []
    let m := x.initValues.foldl (fun (m : Memory) q => m.write (claspOff q.1) (leBytes 8 q.2)) m
    let r := d.saveBytes p (d.saveAddr c x.tile) m saveSize
    (r.1, r.2.modCtx c (fun y => { y with saved := y.saved.filter (fun s => s.tile ≠ x.tile) ++
      [({ tile := x.tile, watches := Vector.replicate 32 none, waiting := [], regs := false,
          ended := false, record := none, journal := [], toMatch := none } : SavedTile)] }))
  else
    let d := d.modTile x.tile (fun y =>
      { y with pocket := y.pocket.clear 0 claspBase, pocketBad := y.pocketBad.filter (fun b => decide (claspBase ≤ 8 * b.1)) })
    let r := (x.code ++ x.data).foldl (fun (acc : Bool × Device) q =>
      let w := acc.2.pocketWrite x.tile q.1 q.2 7
      (acc.1 && w.1.isNone, w.2)) (true, d)
    x.initValues.foldl (fun (acc : Bool × Device) q =>
      let w := acc.2.claspApply x.tile (fin q.1) (clArg clSwapOp q.2)
      (acc.1 && w.1.isSome, w.2)) r

/-- ADMIT_LOAD_DONE (R274): CODE, DATA and initial VALUES are loaded; the context is admitted. An uncorrectable error withdraws the
admission with LOAD_FAILED. -/
def Device.admitLoaded (d : Device) (p : PartNo) : Device :=
  let a := (d.parts[p]).adm
  match (d.ctxs[a.ctx]).image with
  | none => d
  | some i =>
    if a.st ≠ 2 ∨ !d.up 3 then d
    else
      let r := i.tiles.foldl (fun (acc : Bool × Device) x =>
        let q := acc.2.loadTile a.ctx p x
        (acc.1 && q.1, q.2)) (true, d)
      if r.1 then
        (r.2.modCtx a.ctx (fun x => { x with st := .admitted })).modAdmit p (fun a => { a with st := 3, report := admReport [] false })
      else (r.2.dropImage p a.ctx).admitRefused p [admErr 0x23 noTile]

def execAdmitLoadDone (p : PartNo) (s : State) : Host.Outcome State Fault Refusal := onLive (fun d => (d.admitLoaded p).bindPump) s

end Sys2Proof.Machine
end

