-- ==== Sys2Proof/Machine/Commit.lean ====
section
/-! DEFINITION. Residue reports (R368, R240, R334), step commit (R369 to R373), replay (R374 to R377) and audits (R379, R380). -/

namespace Sys2Proof.Machine

/-! ### Patch tiles (R375, R386) -/

/-- PATCH_EXHAUSTED, once when a panel comes to have no free patch tile (R386). -/
def Device.patchWatch (d0 d : Device) (p : PanelNo) : Device :=
  if !(d0.patchFree p).isEmpty && (d.patchFree p).isEmpty then d.report 0x0104 none none p (BitVec.ofNat 128 p.val) else d

/-- A physical tile under suspicion once more (R385). -/
def Device.suspectTile (d : Device) (x : PhysNo) (k : Nat) : Device :=
  d.modHealth x (fun h => { h with suspect := fin (min 3 (max k (h.suspect.val + 1))), lastSuspicion := d.devTime })

/-- A gather engine under suspicion; at 3 the alarm UNIT_SUSPECT (R385). -/
def Device.suspectGather (d : Device) (g : GatherNo) : Device :=
  let n := min 3 ((d.gather[g]).suspect.val + 1)
  let d' := d.modGather g (fun q => { q with suspect := fin n })
  if n = 3 ∧ (d.gather[g]).suspect ≠ 3 then d'.report 0x0103 none none g.val (pay4 0 g.val 0 0) else d'

/-- A logical tile moves to physical tile `y`; its old tile becomes a free patch tile (R375). -/
def Device.swapTile (d : Device) (t : TileNo) (y : PhysNo) : Device :=
  let x := d.patchMap[t]
  let d' := (d.modHealth x (fun h => { h with role := 1, ltile := 0 })).patchIn t y
  Device.patchWatch d d' (panelOf t)

/-! ### Residue reports (R368) -/

/-- Unit kind and number of a report (log 14). -/
def resSrc : ResUnit → Nat × Nat
  | .tensor t => (0, t)
  | .vector t => (1, t)
  | .gather g => (2, g)
  | .reducer p => (3, p)

/-- A report against a running context: its next commit is to fail, and it is fenced from now on (R371, R372). -/
def Device.fence (d : Device) (c : CtxNo) (u : ResUnit) (t : TileNo) : Device :=
  if (d.ctxs[c]).st = .running then
    d.modCtx c (fun x => { x with suspectUnit := some (x.suspectUnit.getD u), fenced := true, lastSuspect := t })
  else d

/-- What a mismatch does besides its log entry: a tile's or a forward job's fails the commit; phase A of a backward job runs once
more, and a second mismatch ends the job with RESIDUE and fails the commit (R240); a reducer recomputes its chunk, and a
second mismatch aborts the collective and resets the partition; the comparisons of OP 4 carry no check (R334, R363). -/
def Device.residueEffect (d : Device) (u : ResUnit) : Device :=
  match u with
  | .tensor t | .vector t =>
    let d := d.modTile t (fun x => { x with cntResidue := x.cntResidue + 1 })
    (match (d.tiles[t]).ctx with
     | some c => d.fence c u t
     | none => d)
  | .gather g =>
    let q := d.gather[g]
    (match q.job with
     | none => d
     | some j =>
       if gOp j.d = 0 then d.fence q.ring.ctx u q.ring.tile
       else if gOp j.d = 1 && !j.done && j.urows = 0 then
         if !j.rerun then (d.modJob g (fun j => { j with phaseA := false, rerun := true })).suspectGather g
         else
           (d.modJob g (fun j => { j with phaseA := false, status := gsResidue, done := true, bags := 0 })).fence q.ring.ctx u
             q.ring.tile
       else d)
  | .reducer n =>
    (match d.portPart n with
     | none => d
     | some p =>
       match (d.parts[p]).coll with
       | none => d
       | some j =>
         if cOp j.d = 4 then d
         else if n ∈ j.suspects then (d.collAbort p clResidue d.chipId.toNat n).resetPartition p .collResidue
         else
           d.modPart p (fun q => { q with coll := q.coll.map (fun j => { j with suspects := j.suspects ++ [n] }) }))

/-- The partition and context a unit works for. -/
def Device.unitOwner (d : Device) : ResUnit → Option PartNo × Option CtxNo
  | .tensor t | .vector t => ((d.tiles[t]).bound, (d.tiles[t]).ctx)
  | .gather g => ((d.gather[g]).bound, if (d.gather[g]).job.isSome then some (d.gather[g]).ring.ctx else none)
  | .reducer n => (d.portPart n, none)

/-- RESIDUE_REPORT: a mismatch reaches the reliability block, is logged and counted (R368). -/
def Device.residueReport (d : Device) (u : ResUnit) : Device :=
  let o := d.unitOwner u
  let d := { d with cntResidue := d.cntResidue + 1 }
  (d.report 0x0203 o.1 (o.2.map (·.val)) ((resSrc u).2 + 1024 * (resSrc u).1) (pay4 (resSrc u).1 (resSrc u).2 0 0)).residueEffect u

def execResidueReport (u : ResUnit) (s : State) : Host.Outcome State Fault Refusal := onLive (fun d => d.residueReport u) s

/-! ### Commit (R369, R371) -/

/-- Whether the decision is due: every tile of the context waits at its STEP_COMMIT and an audit has met there, or an audit has
found a difference (R369, R379, R380). -/
def Device.commitDue (d : Device) (c : CtxNo) : Bool :=
  let x := d.ctxs[c]
  let ts := d.kernelTiles c
  d.up 6 && x.st = .running && x.inStep && !x.saving && !x.replayDue && !ts.isEmpty &&
    (x.auditMiss || (ts.all (fun t => (d.tiles[t]).mode = .atCommit) && (x.auditTile.isNone || x.met)))

/-- A replay decides an audit (R380): the result agrees with neither run, with the shadow's or with the original's; which, the
hardware finds (log 9: a free value). -/
def Device.auditVerdict (d : Device) (c : CtxNo) : Device :=
  match (d.ctxs[c]).auditPair with
  | none => d
  | some (a, b) =>
    let f := d.free
    let d := f.2.modCtx c (fun x => { x with auditPair := none })
    let v := f.1.toNat % 3
    if v = 0 then d.suspectTile a 3 else if v = 1 then d.suspectTile b 3 else d.askTeardown c .auditUnresolved

/-- Success (R371): commit records, journals cleared, reports folded, the watchdog restarted, the fence lifted, the next segment
chosen for audit or not. -/
def Device.commitOk (d : Device) (c : CtxNo) : Device :=
  let d := d.foldReports c
  let d := (d.kernelTiles c).foldl (fun d t => d.modTile t (fun x =>
    { x with record := some x.record_, journal := [], toMatch := none, mode := .running })) d
  let ring := d.ringRecord c
  let d := d.modCtx c (fun x =>
    { x with commits := x.commits + 1, fenced := false, jfull := false, attempts := 0, replaying := false, held := [], ringRec := ring,
             dogAt := d.devTime })
  d.auditSelect c

/-- The suspect unit of a failed commit (R374, R375): its count rises; a tile is patched where a patch tile is free. -/
def Device.patchSuspect (d : Device) (p : PartNo) (c : CtxNo) (u : ResUnit) : Device :=
  match u with
  | .tensor t | .vector t =>
    let d := d.suspectTile d.patchMap[t] 0
    (match d.patchFree (panelOf t) with
     | y :: _ => d.swapTile t y
     | [] => d.report 0x020A (some p) (some c.val) t (pay4 t (d.patchMap[t]).val 0 0))
  | .gather g => d.suspectGather g
  | .reducer _ => d

/-- The third tile of an audit that differed (R380): a free patch tile, or the shadow. -/
def Device.patchAudit (d : Device) (c : CtxNo) (t : TileNo) (sh : PhysNo) : Device :=
  let a := d.patchMap[t]
  let d := d.modCtx c (fun x => { x with auditPair := some (a, sh), auditTile := none, audit := false })
  match d.patchFree (panelOf t) with
  | y :: _ => (d.swapTile t y).modCtx c (fun x => { x with shadow := none })
  | [] => (d.modCtx c (fun x => { x with shadow := none })).swapTile t sh

/-- Failure (R374, R377): the context is torn down where it cannot be replayed; else held operations and pending reports are
discarded, the suspect is patched, and the tiles wait for their restart. -/
def Device.commitFail (d : Device) (p : PartNo) (c : CtxNo) : Device :=
  let x := d.ctxs[c]
  let d := if x.replaying then { d with replayFailed := d.replayFailed + 1 } else d
  if x.jfull then d.askTeardown c .journalFull
  else if x.attempts ≥ 2 then d.askTeardown c .replayExhausted
  else
    let d := (d.dropReports c).modCtx c (fun x =>
      { x with held := [], suspectUnit := none, auditMiss := false, replayDue := true, attempts := x.attempts + 1, fenced := true })
    let d := match x.suspectUnit with
      | some u => d.patchSuspect p c u
      | none => d
    match x.auditMiss, x.auditTile, x.shadow with
    | true, some t, some sh => d.patchAudit c t sh
    | _, _, _ => d.modCtx c (fun x => { x with audit := false, auditTile := none, shadow := none, met := false })

/-- COMMIT_DECISION (R371); the replay of an audit that differed is judged first (R380). -/
def Device.commitDecision (d : Device) (c : CtxNo) : Device :=
  let x := d.ctxs[c]
  match x.part with
  | none => d
  | some p =>
    if !d.commitDue c then d
    else if x.suspectUnit.isNone && !x.auditMiss then
      let d := d.auditVerdict c
      if (d.ctxs[c]).st = .running then d.commitOk c else d
    else d.commitFail p c

def execCommitDecision (c : CtxNo) (s : State) : Host.Outcome State Fault Refusal := onLive (fun d => d.commitDecision c) s

/-! ### Replay (R374, R376) -/

/-- A tile restored from its commit record, its journal to be matched. Nothing of the failed run is left in its engines. -/
def Tile.rewind (x : Tile) : Tile :=
  let y := match x.record with
    | some r => x.putRecord r
    | none => x
  { y.liningClear with mode := .running, queues := Vector.replicate 4 [], flight := Vector.replicate 4 [], bld := [], mm := y.mm.discard,
                       toMatch := some x.journal, journal := [], waited := Vector.replicate 5 0 }

/-- A gather ring of the context rewound to its commit record (R374): a running forward job from its first undelivered bag, the
jobs after it anew; a backward job that runs goes on and is met again. -/
def Device.rewindRing (d : Device) (r : GatherNo × Nat × Option Job) : Device :=
  let g := r.1
  let d := (d.dropWatches (fun w => w.holder = .gather g)).modGather g (fun q =>
    { q with stash := match q.job with
               | some j => if gOp j.d = 1 && !j.skip && !j.reading then some j else q.stash
               | none => q.stash,
             job := r.2.2.map (fun j => { j with mapCache := [], ports := [], waitSince := none }), ring := { q.ring with next := r.2.1, ready := false } })
  if r.2.2.isNone then d.ringWatch g else d

/-- REPLAY_RESTART (R374): every tile of the context is restored and runs again. -/
def Device.replayRestart (d : Device) (c : CtxNo) : Device :=
  let x := d.ctxs[c]
  if d.up 6 && x.st = .running && x.replayDue then
    let d := d.stopChannels (fun y => y.ctx = c && (match y.origin with
      | .tile _ _ => true
      | _ => false))
    let d := (d.kernelTiles c).foldl (fun d t => d.modTile t Tile.rewind) d
    let d := x.ringRec.foldl (fun d r => if (d.gather[r.1]).ring.ctx = c then d.rewindRing r else d) d
    { d.modCtx c (fun x => { x with replayDue := false, replaying := true, replays := if x.replays = 255 then 255 else x.replays + 1 }) with
      replayCount := d.replayCount + 1 }
  else d

def execReplayRestart (c : CtxNo) (s : State) : Host.Outcome State Fault Refusal := onLive (fun d => d.replayRestart c) s

/-! ### Audits (R379, R380) -/

/-- Whether the audited tile has come to an operation at which the two meet: a clasp operation, or its commit. -/
def Tile.atMeeting (x : Tile) : Bool :=
  x.mode = .atCommit || x.mover.slots.any (fun s => s.st ≠ .free) ||
    x.flight.toList.any (fun l => l.any (fun f => !f.performed && (wClass f.e.word = 6 || decodeOp f.e.word = some .clw || decodeOp f.e.word = some .launch)))

/-- AUDIT_RENDEZVOUS: original and shadow meet (R379); a difference holds the operation and fails the commit (R380). -/
def Device.auditMeet (d : Device) (c : CtxNo) (agree : Bool) : Device :=
  let x := d.ctxs[c]
  match x.auditTile with
  | none => d
  | some t =>
    if x.st = .running && x.inStep && !x.met && !x.auditMiss && (d.tiles[t]).atMeeting then
      if agree then d.modCtx c (fun x => { x with met := true })
      else { d.modCtx c (fun x => { x with auditMiss := true, lastSuspect := t }) with auditMiss := d.auditMiss + 1 }
    else d

def execAuditRendezvous (c : CtxNo) (agree : Bool) (s : State) : Host.Outcome State Fault Refusal :=
  onLive (fun d => d.auditMeet c agree) s

end Sys2Proof.Machine
end

