-- ==== Sys2Proof/Machine/Fitting.lean ====
section
/-! DEFINITION. Suspicion and retirement (R385, R386), fittings (R387 to R389), the retired lists (R295, R386), checkpoints (R383,
R384) and the registration of peer-repair ranges (R381). -/

namespace Sys2Proof.Machine

/-- Nanoseconds of an hour. -/
def hourNs : Nat := 3600000000000

/-- SUSPICION_DECAY (R385): one count less after rel.patch.decay_h hours without a new suspicion. -/
def Device.decay (d : Device) (x : PhysNo) : Device :=
  let h := d.health[x]
  if h.suspect ≠ 0 ∧ d.since h.lastSuspicion ≥ d.cfg 0x5400 9 0 * hourNs then
    d.modHealth x (fun h => { h with suspect := fin (h.suspect.val - 1), lastSuspicion := d.devTime })
  else d

def execSuspicionDecay (x : PhysNo) (s : State) : Host.Outcome State Fault Refusal := onLive (fun d => d.decay x) s

/-! ### When a tile is fitted (R385, R389) -/

/-- FIT_DUE (R389): rel.fit.interval_h hours after the last fitting. -/
def Device.fitFallsDue (d : Device) (x : PhysNo) : Device :=
  let h := d.health[x]
  if h.role.val < 2 ∧ !isMemStop x ∧ d.since h.lastFit ≥ d.cfg 0x5400 1 0 * hourNs then d.modHealth x (fun h => { h with due := true }) else d

def execFitDue (x : PhysNo) (s : State) : Host.Outcome State Fault Refusal := onLive (fun d => d.fitFallsDue x) s

/-- Contexts in ADMITTED or later whose image names a logical tile. -/
def Device.users (d : Device) (t : TileNo) : List CtxNo :=
  (List.finRange 256).filter (fun c => (d.ctxs[c]).st.admitted_ && decide (t ∈ d.ctxNames c))

/-- Whether a real-time context keeps a tile from being fitted (R360). -/
def Device.fitBarred (d : Device) (t : TileNo) : Bool := (d.users t).any d.realTime

/-- Whether a context's contents lie in a tile: it holds the tile, or is loaded there. -/
def Device.occupied (d : Device) (t : TileNo) : Bool :=
  (d.tiles[t]).ctx.isSome || (d.users t).any (fun c => (d.ctxs[c]).saved.all (fun s => s.tile ≠ t))

/-- FIT_GRACE_EXPIRY (R389): the grace of a due tile that is held has ended; under a real-time context the alarm
FITTING_OVERDUE. -/
def Device.graceExpiry (d : Device) (x : PhysNo) : Device :=
  let h := d.health[x]
  if h.role = 0 ∧ h.due ∧ !h.overdue ∧ d.occupied h.ltile ∧ d.since h.lastFit ≥ (d.cfg 0x5400 1 0 + d.cfg 0x5400 2 0) * hourNs then
    let d := d.modHealth x (fun h => { h with overdue := true })
    if d.fitBarred h.ltile then d.report 0x0105 none none x (pay4 x h.ltile.val 0 0) else d
  else d

def execFitGraceExpiry (x : PhysNo) (s : State) : Host.Outcome State Fault Refusal := onLive (fun d => d.graceExpiry x) s

/-- A fitting begins. -/
def Device.fitStart (d : Device) (x : PhysNo) : Device :=
  d.patchWatch (d.modHealth x (fun h => { h with role := 3, fitStart := d.devTime })) (gridPanel x)

/-- A context whose step boundary this is. -/
def Context.atRest (x : Context) : Bool := x.st = .running && !x.inStep && !x.saving && !x.restoring

/-- TILE_FITTING (R388, R389): at most one tile per panel. A free patch tile, or a tile no context occupies, is fitted when it is
due, and one not bound to a partition when its suspicion count is 3 (R385); what its pocket held is lost (log 7). An overdue tile is swapped with a patch tile at its context's boundary, or, with none free, fitted
while the context waits there. -/
def Device.tileFitting (d : Device) (x : PhysNo) : Device :=
  let h := d.health[x]
  let t := h.ltile
  if !d.up 6 ∨ isMemStop x ∨ (panelStops (gridPanel x)).any (fun y => (d.health[y]).role = 3) then d
  else if h.role = 1 then
    if (h.due ∨ h.suspect = 3) ∧ d.ctxs.toList.all (fun (c : Context) => c.shadow ≠ some x) then d.fitStart x else d
  else if h.role ≠ 0 ∨ (!h.due ∧ ¬(h.suspect = 3 ∧ (d.tiles[t]).bound = none)) ∨ d.fitBarred t then d
  else if !d.occupied t then
    let b := d.freeBytes pocketSize
    (b.2.modTile t (fun y => { y with pocket := Memory.write [] 0 b.1, pocketBad := [] })).fitStart x
  else if !h.overdue then d
  else
    let atRest := match (d.tiles[t]).ctx with
      | some c => (d.ctxs[c]).atRest
      | none => true
    if !atRest then d
    else
      let resume (d : Device) : Device := match (d.tiles[t]).ctx, (d.tiles[t]).bound with
        | some c, some p => d.reHold p c
        | _, _ => d
      match d.patchFree (gridPanel x), (d.tiles[t]).ctx with
      | y :: _, _ => resume ((d.swapTile t y).fitStart x)
      | [], some c =>
        ((d.modCtx c (fun k => { k with heldAt := true })).report 0x0209 (d.tiles[t]).bound (some c.val) t (pay4 t x.val 0 0)).fitStart x
      | [], none => d

def execTileFitting (x : PhysNo) (s : State) : Host.Outcome State Fault Refusal := onLive (fun d => d.tileFitting x) s

/-- A tile that failed its fitting is retired (R386). Its logical tile takes a free patch tile, or loses its physical tile: the
context held at the boundary is torn down and the logical tile is free (R389). -/
def Device.retireTile (d : Device) (x : PhysNo) : Device :=
  let t := (d.health[x]).ltile
  let mine := d.patchMap[t] = x
  let d := d.modHealth x (fun h => { h with role := 2, due := false, overdue := false })
  let d := { d with retiredTiles := d.retiredTiles ++ [x.val] }
  if !mine then d
  else
    match (d.tiles[t]).ctx with
    | some c => ((d.askTeardown c .fittingFailed).freeClock t).modTile t (fun y => { y with bound := none, reserved := false })
    | none =>
      let d := d.mapTile t
      if d.mapped t then d else (d.freeClock t).modTile t (fun y => { y with bound := none, reserved := false })

/-- FITTING_DONE (R386): a pass sets the suspicion count to 0; a failure retires the tile. -/
def Device.fittingDone (d : Device) (x : PhysNo) (pass : Bool) : Device :=
  let h := d.health[x]
  if h.role ≠ 3 then d
  else if pass then
    let mine : Bool := decide (d.patchMap[h.ltile] = x)
    let d := d.modHealth x (fun h =>
      { h with role := if mine then 0 else 1, suspect := 0, due := false, overdue := false, lastFit := d.devTime })
    match mine, (d.tiles[h.ltile]).ctx, (d.tiles[h.ltile]).bound with
    | true, some c, some p => d.reHold p c
    | _, _, _ => d.schedule
  else d.patchWatch (d.retireTile x) (gridPanel x)

def execFittingDone (x : PhysNo) (pass : Bool) (s : State) : Host.Outcome State Fault Refusal := onLive (fun d => d.fittingDone x pass) s

/-! ### Requests of the owner (R387, R388) -/

/-- Whether a physical tile is free: a free patch tile, or one whose logical tile is bound to no partition. -/
def Device.tileFree (d : Device) (x : PhysNo) : Bool :=
  !isMemStop x && ((d.health[x]).role = 1 || ((d.health[x]).role = 0 && (d.tiles[(d.health[x]).ltile]).bound.isNone))

/-- Whether no partition holds a context beyond BOUND. -/
def Device.noContexts (d : Device) : Bool := d.ctxs.toList.all (fun (x : Context) => !x.st.admitted_)

/-- A write to rel.fit.request: one free tile, or the device fitting, in which every tile in service falls due. -/
def Device.fitRequest (d : Device) (value : Nat) : St × Device :=
  if value = 0xFFFF then
    if d.noContexts then
      (.ok, tileStops.foldl (fun d x => if (d.health[x]).role.val < 2 then d.modHealth x (fun h => { h with due := true }) else d) d)
    else (.fitBusy, d)
  else if value < 576 ∧ d.tileFree (fin value) then (.ok, d.modHealth (fin value) (fun h => { h with due := true }))
  else (.fitBusy, d)

/-- Version of the active bundle: the one carried in the firmware image until another is written (R387). -/
def Device.activeBundle (d : Device) : W32 := if d.fw.bundle.isEmpty then Config.bundleVersion [] else d.fw.bundleVer

/-- A write to rel.fit.bundle (R387). -/
def Device.bundleWrite (d : Device) (bs : List Byte) : St × Device :=
  if !Config.bundleSignatureOk bs || !Config.namesOrderingCode bs then (.bundleInvalid, d)
  else if (Config.bundleVersion bs).toNat < d.activeBundle.toNat then (.bundleRollback, d)
  else (.ok, { d with fw := { d.fw with bundle := bs, bundleVer := Config.bundleVersion bs } })

/-! ### Retired lists (R295, R386) -/

/-- Entries of `n` bytes of a written list. -/
def listEntries (n : Nat) (bs : List Byte) : List Nat := (List.range (bs.length / n)).map (fun i => leNat ((bs.drop (n * i)).take n))

/-- Logical tiles on physical ones (R19, R386): each panel's first 128 tiles in service in physical order; the rest are patch tiles;
with fewer, the last logical tiles have none. -/
def Device.assignTiles (d : Device) : Device :=
  let d := tileStops.foldl (fun d x => d.modHealth x (fun h => { h with role := if x.val ∈ d.retiredTiles then 2 else 1, ltile := 0 })) d
  (List.finRange 4).foldl (fun d p =>
    ((panelStops p).filter (fun x => x.val ∉ d.retiredTiles)).zipIdx.foldl (fun (d : Device) (q : PhysNo × Nat) =>
      if q.2 < 128 then d.patchIn (fin (128 * p.val + q.2)) q.1 else d) d) d

/-- A write to rel.patch.retired: the list is replaced, while no tile is bound (R386). -/
def Device.retiredTilesWrite (d : Device) (bs : List Byte) : St × Device :=
  let l := listEntries 2 bs
  if d.tiles.toList.any (fun (x : Tile) => x.bound.isSome) then (.patchBusy, d)
  else if bs.length % 2 ≠ 0 ∨ l.any (fun n => decide (n ≥ 576) || isMemStop (fin n)) then (.valueInvalid, d)
  else
    let d' := { d with retiredTiles := l.eraseDups }.assignTiles
    (.ok, (List.finRange 4).foldl (fun e p => Device.patchWatch d e p) d')

/-- A page entry of hbm.retired_pages: stack in [31:28], page index in [14:0]. -/
def pageEntry (n : Nat) : Nat := n / 2 ^ 28 * pagesPerStack + n % 2 ^ 15

/-- A write to hbm.retired_pages: the list is replaced, while no page is bound (R295). -/
def Device.retiredPagesWrite (d : Device) (bs : List Byte) : St × Device :=
  let l := listEntries 4 bs
  if !d.pages.isEmpty then (.hbmBusy, d)
  else if bs.length % 4 ≠ 0 ∨ l.any (fun n => decide (n / 2 ^ 28 ≥ 12) || decide (n % 2 ^ 28 ≥ pagesPerStack)) then (.valueInvalid, d)
  else (.ok, { d with retiredPages := (l.map pageEntry).eraseDups }.placeExtras)

/-! ### Checkpoints (R383, R384) -/

def Device.modCkpt (d : Device) (p : PartNo) (f : Ckpt → Ckpt) : Device := d.modPart p (fun q => { q with ckpt := f q.ckpt })

/-- The hold of a checkpoint ends. -/
def Device.ckptEnd (d : Device) (p : PartNo) : Device :=
  let k := (d.parts[p]).ckpt
  (d.modCkpt p (fun k => { k with st := 0 })).reHold p k.ctx

/-- The first step of a context that is not yet released. -/
def Context.nextStep (x : Context) : Nat := if x.inStep then x.stepNo.toNat + 1 else x.stepNo.toNat

/-- part.ckpt.commit (Table 16.4): 1 sets the resume step of an ADMITTED context, and arms; 0 releases. -/
def Device.applyCkpt (d : Device) (g : Nat → Nat) (p : PartNo) (value : Nat) : St × Device :=
  let c : CtxNo := fin (g 1)
  let x := d.ctxs[c]
  if value = 0 then (.ok, d.ckptEnd p)
  else if value ≠ 1 ∨ g 1 ≥ 256 ∨ x.part ≠ some p ∨ g 3 < 1 ∨ g 3 > 3600000 then (.ckptInvalid, d)
  else if x.st = .admitted then
    let d := d.modCtx c (fun x => { x with resumeStep := BitVec.ofNat 64 (g 4), stepNo := BitVec.ofNat 64 (g 4) })
    (.ok, d.modCkpt p (fun _ => { st := if g 2 ≥ g 4 ∧ g 2 ≠ 0 then 1 else 0, ctx := c, step := BitVec.ofNat 64 (g 2), since := d.devTime }))
  else if g 4 ≠ x.resumeStep.toNat ∨ g 2 < x.nextStep then (.ckptInvalid, d)
  else (.ok, d.modCkpt p (fun _ => { st := 1, ctx := c, step := BitVec.ofNat 64 (g 2), since := d.devTime }))

/-- CKPT_HOLD (R383): the context is at the boundary after the armed step, its gather jobs and collective have ended. -/
def Device.ckptHold (d : Device) (p : PartNo) : Device :=
  let k := (d.parts[p]).ckpt
  let x := d.ctxs[k.ctx]
  if k.st = 1 ∧ x.part = some p ∧ x.st = .running ∧ !x.inStep ∧ x.stepNo = k.step + 1 ∧ d.enginesQuiet k.ctx then
    (d.modCkpt p (fun k => { k with st := 2, since := d.devTime })).modCtx k.ctx (fun x => { x with heldAt := true })
  else d

def execCkptHold (p : PartNo) (s : State) : Host.Outcome State Fault Refusal := onLive (fun d => d.ckptHold p) s

/-- CKPT_EXPIRED (R383): hold_ms have passed; the next step is released and CKPT_EXPIRED is posted. -/
def Device.ckptExpired (d : Device) (p : PartNo) : Device :=
  let k := (d.parts[p]).ckpt
  if k.st = 2 ∧ d.since k.since ≥ d.cfg 0x60B0 3 p * 1000000 then
    (d.ckptEnd p).report 0x0307 (some p) (some k.ctx.val) 0 (k.step.setWidth 128)
  else d

def execCkptExpired (p : PartNo) (s : State) : Host.Outcome State Fault Refusal := onLive (fun d => d.ckptExpired p) s

/-! ### Peer-repair ranges (R381) -/

/-- Fields of a repair record (Table 16.3). -/
def Device.repairFieldsOk (d : Device) (g : Nat → Nat) (p : PartNo) : Bool :=
  let mib2 := pageSize
  decide (g 1 < 16) && g 2 % mib2 = 0 && g 3 % mib2 = 0 && decide (g 2 + g 3 ≤ 2 ^ 40)
    && (List.range (g 3 / mib2)).all (fun i => (d.transHbm p (g 2 + i * mib2)).isSome)
    && decide (g 4 ≤ 32767) && decide (g 4 ≠ d.chipId.toNat) && g 5 % mib2 = 0
    && decide (g 6 < 2 ^ 15) && d.owns p (g 6 % 512) && decide (g 6 / 512 < 48)
    && decide (g 7 < 2 ^ 24) && d.owns p (g 7 % 512) && decide (g 7 / 512 % 512 ≤ 510) && decide (g 7 / 2 ^ 18 % 64 < 48)

/-- Register a range: its record, two windows for the peer, and the watch on its mailbox clasp (R381, R382). -/
def Device.repairOn (d : Device) (g : Nat → Nat) (p : PartNo) (w0 w1 : WinNo) : Device :=
  let k : Fin 16 := fin (g 1)
  let tile := g 7 % 512
  let clasp := g 7 / 2 ^ 18 % 64
  let win (base size rights : Nat) : Window :=
    { Window.reset with st := 1, tile := tile, base := base, size := size, slice := d.sliceId p, chipLo := g 4, chipHi := g 4,
                        rights := BitVec.ofNat 3 rights }
  let r : Repair := { on := true, base := g 2, length := g 3, peerChip := g 4, peerBase := g 5, version := g 6, mailbox := g 7,
                      windows := [w0, w1] }
  let d := (d.modWindow p w0 (fun _ => win (g 7 / 512 % 512 * 4096) 4096 2)).modWindow p w1 (fun _ => win (claspOff clasp / 64 * 64) 64 4)
  let d := d.modPart p (fun q => { q with repairs := q.repairs.set k r, served := q.served.filter (fun s => s.1.1 ≠ k) })
  (d.registerWatch (fin tile)
    { value := BitVec.ofNat 48 (clValue (d.claspWord (fin tile) clasp)), clasp := fin clasp, cond := 1, nkind := 3, narg := 0,
      remote := false, wait := false, tile := fin tile, chip := d.chipId, ctx := 0, holder := .repair p, inv := false, tag := 0 } none).2.2

/-- Remove a range: its windows close, its watch is freed. -/
def Device.repairOff (d : Device) (p : PartNo) (k : Fin 16) : Device :=
  let r := (d.parts[p]).repairs[k]
  let d := r.windows.foldl (fun d w => d.modWindow p w (fun x => if x.st = 1 then { x with st := 2 } else x)) d
  let d := d.dropWatches (fun w => w.holder = .repair p && w.clasp = r.mailClasp && w.tile = r.mailTile)
  d.modPart p (fun q => { q with repairs := q.repairs.set k Repair.reset, peerWaits := q.peerWaits.filter (fun w => w.range ≠ k) })

/-- part.repair.commit (R381). A slot in use, or a partition without two free windows, is refused (log 23). -/
def Device.applyRepair (d : Device) (g : Nat → Nat) (p : PartNo) (value : Nat) : St × Device :=
  if value = 1 then
    if !d.repairFieldsOk g p || ((d.parts[p]).repairs[(fin (g 1) : Fin 16)]).on then (.repairInvalid, d)
    else
      match d.freeWindows p with
      | w0 :: w1 :: _ => (.ok, d.repairOn g p w0 w1)
      | _ => (.repairInvalid, d)
  else if value = 0 then (if g 1 < 16 then (.ok, d.repairOff p (fin (g 1))) else (.repairInvalid, d))
  else (.repairInvalid, d)

end Sys2Proof.Machine
end

