-- ==== Sys2Proof/Machine/Reset.lean ====
section
/-! DEFINITION. Device reset, its sources and what it keeps (R393 to R398, R459), bring-up (R399 to R402), the collar's components
(R22, R439), the host link and the ordinary-network ports. -/

namespace Sys2Proof.Machine

/-- Codes of Table 17.2. -/
def srcPowerOn : Fin 9 := 0
def srcRstN : Fin 9 := 1
def srcPerst : Fin 9 := 2
def srcHot : Fin 9 := 3
def srcLinkLoss : Fin 9 := 4
def srcWatchdog : Fin 9 := 5
def srcThermal : Fin 9 := 6
def srcCommand : Fin 9 := 7
def srcFatal : Fin 9 := 8

/-- A health record through a device reset: the suspicion count and the times of fitting survive (R385). -/
def Health.kept (h : Health) : Health :=
  { Health.reset with suspect := h.suspect, lastSuspicion := h.lastSuspicion, lastFit := h.lastFit }

/-- The firmware store through a reset: the banks and the bundle stay, an update in progress is lost. -/
def Fw.kept (f : Fw) : Fw := { f with pldm := 0, agent := none, comp := 0, size := 0, image := [], verified := false, reply := [] }

/-- Dictionary values that take effect at the next device reset (route.chip_id, tmem.port.enable). -/
def Device.keptDict (d : Device) : List ((Nat × Nat × Nat) × Nat) :=
  d.dict.filter (fun e => e.1.1 = 0x3000 && e.1.2.1 = 1 || e.1.1 = 0x4100 && e.1.2.1 = 1)

/-- The part after every store but the always-on domain's, the retained lists, the error log, the alarm table and the dumps is
lost (R398, R459). What is no store of the part is as it was: host memory, the memory behind the table-memory ports, the firmware
store, what sensors and pins read. Pages due for retirement lose their binding and are retired (R294). -/
def Device.wipe (d : Device) : Device :=
  let k := Device.reset
  { k with
    devTime := d.devTime, devLatch := d.devLatch, rst := d.rst, retiredPages := (d.retiredPages ++ d.dueRetire).eraseDups, retiredTiles := d.retiredTiles,
    health := d.health.map Health.kept, gather := d.gather.map (fun (g : Gather) => { Gather.reset with suspect := g.suspect }),
    reducerSuspect := d.reducerSuspect, fw := d.fw.kept, errLog := d.errLog, alarms := d.alarms, dumps := d.dumps,
    dumpLost := d.dumpLost, deviceDump := d.deviceDump, hostMem := d.hostMem, tmemBytes := d.tmemBytes, tmemPoison := d.tmemPoison,
    sensors := d.sensors, packageW := d.packageW,
    panels := d.panels.map (fun (p : Panel) => { Panel.reset with railMv := p.railMv }),
    tsync := { Tsync.reset with refOk := d.tsync.refOk }, ibi := d.ibi, freeCount := d.freeCount, dict := d.keptDict }

/-- A device reset starts: its cause is recorded, everything else is lost. While one is held, a source sets its bit of SECONDARY and
extends the hold (R396, R397); `level` marks a source that stays asserted. -/
def Device.startReset (d : Device) (c : Fin 9) (level : Bool) : Device :=
  let bit : BitVec 9 := if level then BitVec.twoPow 9 c.val else 0
  if d.rst.held then
    { d with rst := { d.rst with secondary := if c = d.rst.cause then d.rst.secondary else d.rst.secondary ||| BitVec.twoPow 9 c.val,
                                 asserted := d.rst.asserted ||| bit, released := d.rst.released && !level } }
  else
    { d with rst := { d.rst with cause := c, secondary := 0, count := d.rst.count + 1, held := true, since := d.devTime, asserted := bit,
                                 released := false, frozen := false, linkUp := false, linkDownAt := none, state := 1,
                                 hostReset := false, firstMark := true } }.wipe

/-- The collar's device dump before sources 7 and 8 (R456). A second one overwrites the first. -/
def Device.dumpAll (d : Device) : Device :=
  let u : DevDump := { comps := d.comps.toList, errors := d.errLog, alarms := d.alarms,
                       tiles := d.tiles.toList.map (fun (x : Tile) => (x.record_, x.faultInfo)) }
  { d with deviceDump := some u }

/-- A fatal error of the collar (source 8). -/
def Device.fatal (d : Device) : Device := if d.rst.held then d.startReset srcFatal false else d.dumpAll.startReset srcFatal false

/-- Reset of the host port alone (R395): every VF and PF0 receive their function-level reset; the host link trains anew. -/
def Device.hostPortReset (d : Device) : Device :=
  let d := ((List.finRange 16).foldl (fun d p => d.vfFlr p) d).pf0Flr
  { d with rst := { d.rst with linkUp := false, linkDownAt := none } }

/-- A source 2 to 4: by rst.host_scope a device reset, or a reset of the host port (R394, R395). -/
def Device.hostSource (d : Device) (c : Fin 9) (level : Bool) : Device :=
  if d.rst.held || d.cfg 0x1010 6 0 = 0 then d.startReset c level else d.hostPortReset

/-- POWER_ON: the always-on domain is reset too. The firmware store is not lost; the straps keep their level. -/
def Device.powerOn (d : Device) : Device :=
  let k := Device.reset
  { k with
    fw := { d.fw.kept with bundle := [], bundleVer := 0 }, hostMem := d.hostMem, sensors := d.sensors, freeCount := d.freeCount,
    tsync := { k.tsync with refOk := d.tsync.refOk },
    rst := { Rst.reset with held := true, bootSel := d.rst.bootSel, mgmtAddr := d.rst.mgmtAddr, perst := d.rst.perst, brake := d.rst.brake,
                            asserted := if d.rst.perst then BitVec.twoPow 9 2 else 0 } }

def execPowerOn (s : State) : Host.Outcome State Fault Refusal := onDev Device.powerOn s

/-- RST_N_ASSERT: held low by another driver for 10 µs. While the part itself holds RST_N low the board's hold shows only in a
later RESET_END. -/
def execRstNAssert (s : State) : Host.Outcome State Fault Refusal := onDev (fun d => d.startReset srcRstN false) s

/-- PERST_N_ASSERT. -/
def Device.perstLow (d : Device) : Device :=
  let d := { d with rst := { d.rst with perst := true } }
  if d.rst.held || d.cfg 0x1010 6 0 = 0 then d.startReset srcPerst true
  else { d.hostPortReset with rst := { d.rst with hostReset := true, linkUp := false, linkDownAt := none } }

def execPerstNAssert (s : State) : Host.Outcome State Fault Refusal := onDev Device.perstLow s

/-- PERST_N_DEASSERT: the host port leaves its reset; the source is no longer asserted. -/
def Device.perstHigh (d : Device) : Device :=
  { d with rst := { d.rst with perst := false, hostReset := false, asserted := d.rst.asserted &&& ~~~(BitVec.twoPow 9 2) } }

def execPerstNDeassert (s : State) : Host.Outcome State Fault Refusal := onDev Device.perstHigh s

def execPcieHotReset (s : State) : Host.Outcome State Fault Refusal := onDev (fun d => d.hostSource srcHot false) s

/-- PCIE_LINK_LOSS: the host link has been down for 10 ms after it was up. -/
def Device.linkLoss (d : Device) : Device :=
  match d.rst.linkDownAt with
  | some t =>
    if d.since t ≥ 10000000 then
      { d with rst := { d.rst with linkDownAt := none } }.hostSource srcLinkLoss false
    else d
  | none => d

def execPcieLinkLoss (s : State) : Host.Outcome State Fault Refusal := onDev Device.linkLoss s

def execHostLinkDown (s : State) : Host.Outcome State Fault Refusal :=
  onDev (fun d => if d.rst.linkUp then { d with rst := { d.rst with linkUp := false, linkDownAt := some d.devTime } } else d) s

/-- HOST_LINK_UP: not during device reset, when the link is in electrical idle (Table 20.3). -/
def execHostLinkUp (s : State) : Host.Outcome State Fault Refusal :=
  onDev (fun d => if d.rst.held || d.rst.hostReset then d else { d with rst := { d.rst with linkUp := true, linkDownAt := none } }) s

def execCollarWatchdog (s : State) : Host.Outcome State Fault Refusal := onDev (fun d => d.startReset srcWatchdog false) s

/-- FATAL_ERROR: a rail is watched by the always-on domain, which writes no dump (R456). -/
def Device.fatalError (d : Device) : Fatal → Device
  | .rail => d.startReset srcFatal false
  | _ => d.fatal

def execFatalError (f : Fatal) (s : State) : Host.Outcome State Fault Refusal := onDev (fun d => d.fatalError f) s

/-- STACK_FAILURE: a stack or a channel of one stops responding (R282, R297). -/
def execStackFailure (k : StackNo) (s : State) : Host.Outcome State Fault Refusal :=
  onLive (fun d => if (d.hbmStacks[k]).st = 2 then d else (d.modStack k (fun x => { x with st := 2 })).fatal) s

/-- THERMAL_TRIP (R415): a sensor reaches 115 °C; THERM_TRIP_N low and a device reset that stays held. -/
def Device.trip (d : Device) (n : Fin 64) : Device :=
  ({ d with rst := { d.rst with thermTrip := true },
            sensors := d.sensors.set n (max 920 d.sensors[n]) } : Device).startReset srcThermal true

def execThermalTrip (sensor : Fin 64) (s : State) : Host.Outcome State Fault Refusal := onDev (fun d => d.trip sensor) s

/-- THERMAL_TRIP_CLEAR (R415): every sensor has read below 95 °C for 1 s; what one reads that was above is a free value (log 7). -/
def Device.tripClear (d : Device) : Device :=
  if d.rst.thermTrip then
    { d with rst := { d.rst with thermTrip := false, asserted := d.rst.asserted &&& ~~~(BitVec.twoPow 9 6) },
             sensors := d.sensors.mapIdx (fun i x => if x < 760 then x else (((Config.freeValue (d.freeCount + i)).toNat % 760 : Nat) : Int)),
             freeCount := d.freeCount + 64 }
  else d

def execThermalTripClear (s : State) : Host.Outcome State Fault Refusal := onDev Device.tripClear s

/-- rst.command (Table 17.2 source 7). -/
def Device.applyRst (d : Device) (value : Nat) : St × Device :=
  if value = 1 then (.ok, d.dumpAll.startReset srcCommand false) else (.resetInvalid, d)

/-- RESET_RELEASE (R396): after 20 ms, with no source asserted, RST_N is released. -/
def execResetRelease (s : State) : Host.Outcome State Fault Refusal :=
  onDev (fun d => if d.rst.held && d.rst.asserted = 0 && decide (d.since d.rst.since ≥ 20000000) then
    { d with rst := { d.rst with released := true } } else d) s

/-- RESET_END (R396, R399): RST_N has read high for 10 µs; the ROM starts and the straps are sampled. What the dictionary holds for
the next device reset takes effect. -/
def Device.resetEnd (d : Device) : Device :=
  if d.rst.held && d.rst.released then
    { d with rst := { d.rst with held := false, released := false, state := 1 },
             chipId := BitVec.ofNat 15 (d.cfg 0x3000 1 0),
             tmem := d.tmem.mapIdx (fun i (x : Tmem) => { x with enabled := d.cfg 0x4100 1 i ≠ 0 }) }
  else d

def execResetEnd (s : State) : Host.Outcome State Fault Refusal := onDev Device.resetEnd s

/-! ### Bring-up (R399 to R402) -/

/-- Whether a bank can boot: marked valid, and its security version not below the fused one (R442). -/
def Fw.bootable (f : Fw) (b : Fin 2) : Bool := f.bankValid[b] && decide (f.secVersion.toNat ≤ (f.bankSec[b]).toNat)

/-- The bank BOOT_SEL selects (R401). -/
def Fw.select (f : Fw) (sel : BitVec 2) : Option (Fin 2) :=
  let a := f.bankA
  let b : Fin 2 := if a = 0 then 1 else 0
  (if sel = 0 then [a, b] else [b, a]).find? f.bootable

/-- Whether a delivered firmware image verifies (R442). -/
def Fw.verifies (f : Fw) (image : List Byte) : Bool :=
  Config.fwSignatureOk image && Config.namesOrderingCode image && decide (f.secVersion.toNat ≤ (Config.fwSecurityVersion image).toNat)

def Device.setStage (d : Device) (n : Fin 11) : Device := { d with rst := { d.rst with state := n } }

/-- A stage failed fatally: FAILED, and the alarm with the stage (R402). -/
def Device.bringupFailed (d : Device) : Device := (d.setStage 10).report 0x0106 none none d.rst.state (pay4 d.rst.state 0 0 0)

/-- Stage 2 AUTH: a bank, or in recovery a delivered image: the command's, or the component 0x0001 that PLDM put into a bank since the
reset; while there is none the part waits. One that does not authenticate leaves HOLD_AUTH (R401). -/
def Device.authStage (d : Device) (r : StageResult) : Device :=
  let boot (d : Device) (b : Fin 2) : Device := { d with fw := { d.fw with running := b, bootSecVersion := d.fw.secVersion } }.setStage 3
  if d.rst.bootSel.toNat < 2 then
    match d.fw.select d.rst.bootSel with
    | some b => boot d b
    | none => d.setStage 8
  else
    match r.image with
    | none => if d.fw.verified then boot d (if d.fw.running = 0 then 1 else 0) else d
    | some img =>
      if d.fw.verifies img then
        boot { d with fw := { d.fw with bankVer := d.fw.bankVer.set d.fw.bankA (Config.fwVersion img),
                                        bankSec := d.fw.bankSec.set d.fw.bankA (Config.fwSecurityVersion img),
                                        bankValid := d.fw.bankValid.set d.fw.bankA true } } d.fw.bankA
      else d.setStage 8

/-- Whether a page belongs to a crash-dump region that holds a valid dump (R296, R456). -/
def Device.holdsDump (d : Device) (page : Nat) : Bool :=
  (!d.dumps.isEmpty || d.deviceDump.isSome) && decide (d.pageKind page = .reserved) && decide (d.regionOf page = .crashDump)

/-- Stage 4 HBM: the stacks train, every page is written with zero and tested, but for a region that holds a valid dump (R296, R297,
R402). -/
def Device.hbmStage (d : Device) (r : StageResult) : Device :=
  let d := {
    d with hbm := [], hbmBad := [],
           hbmStacks := d.hbmStacks.mapIdx (fun i (k : Stack) => { k with st := if r.badStacks.any (fun b => b.val = i) then 2 else 1 }) }
  let bad := (r.badPages.map (fun (q : StackNo × Fin 30517) => q.1.val * pagesPerStack + q.2.val)).filter
    (fun g => g ∉ d.retiredPages && !d.holdsDump g)
  ({ d with retiredPages := d.retiredPages ++ bad.eraseDups }).placeExtras.setStage 5

/-- Stage 5 PANELS: pockets zero, tiles checked, the patch map built from the retired list (R145, R386, R402). -/
def Device.panelStage (d : Device) (r : StageResult) : Device :=
  let bad := (r.badTiles.map (·.val)).filter (fun n => n ∉ d.retiredTiles)
  let d' := { d with retiredTiles := d.retiredTiles ++ bad.eraseDups,
                     tiles := d.tiles.map (fun (x : Tile) => { x with pocket := [], pocketBad := [] }) }.assignTiles
  ((List.finRange 4).foldl (fun e p => if (e.patchFree p).isEmpty then e.report 0x0104 none none p (BitVec.ofNat 128 p.val) else e) d').setStage 6

/-- Stage 6 LINKS: table-memory and ordinary ports start training; then READY, the fused security version follows an image that
runs for the first time (R442), and DEVICE_READY is posted. -/
def Device.linkStage (d : Device) : Device :=
  let sec := if d.fw.secVersion.toNat < (d.fw.bankSec[d.fw.running]).toNat then d.fw.bankSec[d.fw.running] else d.fw.secVersion
  ({ d with tmem := d.tmem.map (fun (x : Tmem) => if x.enabled then { x with st := 1 } else x),
            net := d.net.mapIdx (fun i (x : Net) => if d.cfg 0x3500 1 i ≠ 0 then { x with st := 1 } else x),
            fw := { d.fw with secVersion := sec } }.setStage 7).report 0x0300 none none 0 0

/-- BRINGUP_STAGE: the stage of rst.state completes and the next starts (R399), or fails (R402). -/
def Device.bringup (d : Device) (r : StageResult) : Device :=
  let n := d.rst.state.val
  if n = 0 ∨ n ≥ 7 then d
  else if r.fatal && decide (4 ≤ n) then d.bringupFailed
  else if n = 1 then d.setStage 2
  else if n = 2 then d.authStage r
  else if n = 3 then { d with rst := { d.rst with linkUp := d.rst.linkUp || r.hostUp } }.setStage 4
  else if n = 4 then d.hbmStage r
  else if n = 5 then d.panelStage r
  else d.linkStage

def execBringupStage (r : StageResult) (s : State) : Host.Outcome State Fault Refusal := onLive (fun d => d.bringup r) s

/-! ### Components of the collar (R22, R439) -/

/-- A component restarts alone; a fourth restart within 10 minutes is fatal. Sessions end with the dictionary agent (R427). -/
def Device.restartComp (d : Device) (n : Fin 8) : Device :=
  let recent := (d.comps[n]).times.filter (fun t => d.since t < 600000000000)
  if recent.length ≥ 3 then d.fatal
  else
    let d := d.traceRec 4 n none 1 0
    let d := d.modComp n (fun x => { x with restarting := true, restarts := x.restarts + 1, times := recent ++ [d.devTime] })
    if n = 7 then { d with sessions := [], spdm := [] } else d

/-- FW_COMPONENT_RESTART: a fault of the supervisor itself is fatal. -/
def execFwComponentRestart (n : Fin 8) (s : State) : Host.Outcome State Fault Refusal :=
  onLive (fun d => if n = 0 then d.fatal else d.restartComp n) s

/-- COLLAR_CORE_FAIL (R22): the spare core takes the place of the failed one and its component restarts (R439), that of component 0 as
any other: a core that fails its self-check is no fault of the supervisor (DESIGN CHOICE, log 34). A second failure is fatal. -/
def execCollarCoreFail (n : Fin 8) (s : State) : Host.Outcome State Fault Refusal :=
  onLive (fun d => if d.spareUsed then d.fatal else { d with spareUsed := true }.restartComp n) s

/-- FW_RESTART_COMPLETE: the component serves again, and work that waited for it goes on. -/
def Device.compBack (d : Device) (n : Fin 8) : Device :=
  if (d.comps[n]).restarting then
    let d := (d.traceRec 4 n none 0 0).modComp n (fun x => { x with restarting := false })
    if n = 1 then d.schedule else if n = 3 then d.bindPump else d
  else d

def execFwRestartComplete (n : Fin 8) (s : State) : Host.Outcome State Fault Refusal := onLive (fun d => d.compBack n) s

/-! ### Ordinary-network ports (R342, Table 14.7) -/

def execNetPortDown (n : NetNo) (s : State) : Host.Outcome State Fault Refusal :=
  onLive (fun d => d.netDown n) s

def execNetPortUp (n : NetNo) (s : State) : Host.Outcome State Fault Refusal :=
  onLive (fun d => if d.cfg 0x3500 1 n = 0 ∨ d.rst.state.val < 6 then d else d.modNet n (fun x => { x with st := 2 })) s

end Sys2Proof.Machine
end

