-- ==== Sys2Proof/Machine/Observe.lean ====
section
/-! DEFINITION. Counter sets, the alarm table's acknowledgement, trace, freeze and scan (R448 to R458), and the bytes of the stores
that the log objects return (R433, R451, R453, R455, R456, R460). -/

namespace Sys2Proof.Machine

/-! ### Counter sets (R448) -/

/-- Whether a control word is in range: no event, or one of Table 19.3. -/
def csetCtlOk (v : Nat) : Bool :=
  v % 2 ^ 12 ∈ [0x000, 0x001, 0x002, 0x003, 0x004, 0x010, 0x011, 0x012, 0x013, 0x020, 0x021, 0x022, 0x030, 0x031, 0x040, 0x041,
    0x050]

/-- A write of a control word clears its count; reserved bits are ignored (R11). -/
def Device.csetWrite (d : Device) (k : Fin 32) (n : Fin 8) (v : Nat) : St × Device :=
  if csetCtlOk v then
    (.ok, { d with csets := d.csets.set k ((d.csets[k]).set n { ctl := BitVec.ofNat 32 (v % 2 ^ 23), cnt := 0 }) })
  else (.valueInvalid, d)

/-! ### Alarms (R450) -/

/-- A write of a code and a source to log.alarm.ack clears ACTIVE of that record; of no record of the table it is refused. -/
def Device.alarmAck (d : Device) (v : Nat) : St × Device :=
  match firstIdx (fun a => a.code.toNat = v % 2 ^ 16 && a.source.toNat = v / 2 ^ 16) d.alarms with
  | some i => (.ok, { d with alarms := d.alarms.modify i (fun a => { a with active := false }) })
  | none => (.valueInvalid, d)

/-! ### Trace (R453, R454) -/

/-- trace.trigger: 1 is a trigger. -/
def Device.traceTrigger (d : Device) (v : Nat) : St × Device :=
  if v = 1 then (.ok, { d with trace := d.trace.trig }) else (.valueInvalid, d)

/-- trace.arm: 1 clears the buffer, takes over the written settings and restarts recording. -/
def Device.traceArm (d : Device) (v : Nat) : St × Device :=
  if v = 1 then
    let g (sub : Nat) : Nat := d.cfg 0xA200 sub 0
    (.ok, { d with trace := { mode := g 1, sizeMib := g 2, pre := g 3, sources := BitVec.ofNat 6 (g 4), parts := BitVec.ofNat 16 (g 5),
                              trigger := BitVec.ofNat 16 (g 6), st := 0, dropped := d.trace.dropped, late := d.trace.late, buf := [],
                              post := 0, preKept := 0 } })
  else (.valueInvalid, d)

/-- TRACE_FREEZE (R454): the post-trigger part is full. -/
def execTraceFreeze (s : State) : Host.Outcome State Fault Refusal := onLive (fun d => { d with trace := d.trace.fill }) s

/-- Trace at a freeze (R454): it stops at once and keeps what is written; a freeze after a trigger counts as a late one. -/
def Trace.freezeNow (t : Trace) : Trace :=
  let u := if t.mode = 2 ∧ t.st ≠ 0 then { t with late := t.late + 1 } else t
  if t.st = 0 then
    if t.mode = 2 then { u with preKept := min t.buf.length (t.cap * t.pre / 8) }.frozen else { u with st := 2 }
  else if t.st = 1 then u.frozen
  else u

/-! ### Freeze and scan (R457, R458) -/

/-- A freeze: every island stops. During a device reset it is ignored. -/
def Device.freeze (d : Device) : Device :=
  if d.live then { d with rst := { d.rst with frozen := true }, trace := d.trace.freezeNow } else d

def execFreezeNAssert (s : State) : Host.Outcome State Fault Refusal := onDev Device.freeze s

/-- dbg.freeze: 1 freezes. -/
def Device.dbgFreeze (d : Device) (v : Nat) : St × Device := if v = 1 then (.ok, d.freeze) else (.valueInvalid, d)

/-- What the instrument network reads of a tile. -/
def Tile.scanned (x : Tile) : ScanTile :=
  { pocket := x.pocket, lining := x.lining, regs := x.record_, mm := x.mm.stateWord, fault := x.faultInfo, queued := x.queues.toList }

/-- JTAG_SCAN: the freeze status; of a frozen part with the debug-enable fuse set, what the instrument network reads. -/
def Device.jtagScan (d : Device) (instrument : Bool) : Device :=
  { d with scan := { frozen := d.rst.frozen,
                     tiles := if instrument && d.rst.frozen && Config.debugFuse then d.tiles.toList.map Tile.scanned else [] } }

def execJtagScan (instrument : Bool) (s : State) : Host.Outcome State Fault Refusal := onDev (fun d => d.jtagScan instrument) s

/-! ### Bytes of the stores (R460); the layouts the manual does not give are the model's (log 22) -/

/-- An error-log entry (R451). -/
def LogEntry.bytes (e : LogEntry) : List Byte :=
  leBytes 32 (e.time.toNat + e.code.toNat <<< 64 + (e.part.getD 0).val <<< 80 + e.ctx.toNat <<< 84 + e.src.toNat <<< 92
    + e.payload.toNat <<< 128)

/-- An alarm record (Table 19.5). -/
def Alarm.bytes (a : Alarm) : List Byte :=
  leBytes 64 (a.code.toNat + a.source.toNat <<< 16 + a.active.toNat <<< 32 + a.count.toNat <<< 64 + a.first.toNat <<< 128
    + a.last.toNat <<< 192 + a.data.toNat <<< 256)

/-- The alarm table: 128 records; those not used are zero. -/
def alarmTable (l : List Alarm) : List Byte := (l.flatMap Alarm.bytes ++ List.replicate (64 * (128 - l.length)) 0).take 8192

/-- A clamp-log entry: time, index, sub-index, scope (0 OWNER, 1 PART), partition, written and stored value. -/
def ClampEntry.bytes (e : ClampEntry) : List Byte :=
  leBytes 32 (e.time.toNat + e.index.toNat <<< 64 + e.sub.toNat <<< 80 + (if e.owner then 0 else 1) <<< 88 + e.part.val <<< 96
    + e.written.toNat <<< 128 + e.stored.toNat <<< 192)

/-- A trace record: time, source unit, code, partition with bit 7 set where it names one, payload. -/
def TraceRec.bytes (r : TraceRec) : List Byte :=
  leBytes 32 (r.time.toNat + r.unit.toNat <<< 64 + r.code.toNat <<< 80 + (match r.part with
    | some p => 128 + p.val
    | none => 0) <<< 96 + r.payload.toNat <<< 128)

/-- The first `n` bytes of a list, zero-filled. -/
def padBytes (n : Nat) (l : List Byte) : List Byte := (l ++ List.replicate (n - l.length) 0).take n

/-- One tile of a context dump in 4 KiB: tile number, registers, FAULT_INFO, clasp words, watch slots, CLASP_LOCKS, MOVER_SLOT0 to
MOVER_SLOT7, then the queued instruction words. -/
def DumpTile.bytes (x : DumpTile) : List Byte :=
  padBytes 4096 (leBytes 8 x.tile.val ++ x.regs.bytes ++ leBytes 8 x.fault.toNat ++ x.clasps.flatMap (fun w => leBytes 8 w.toNat)
    ++ x.watches.flatMap (fun o => leBytes 16 (watchWord o).toNat) ++ leBytes 8 x.locks.toNat ++ x.slots.flatMap (leBytes 8)
    ++ x.queued.flatMap (fun q => leBytes 8 q.length ++ q.flatMap (fun e => leBytes 16 e.word.toNat)))

/-- CRC-32 header of a dump, written last (R456); its magic value is the model's. -/
def dumpHeader (body : List Byte) : List Byte := leBytes 4 0x504D5544 ++ leBytes 4 (crc32 body).toNat

/-- A context dump: its tiles, then 4 KiB with context, partition, tile count and ring positions, closed by the header. -/
def Dump.bytes (u : Dump) : List Byte :=
  let body := u.tiles.flatMap DumpTile.bytes
    ++ padBytes 4088 (leBytes 2 u.ctx.val ++ leBytes 2 u.part.val ++ leBytes 4 u.tiles.length ++ u.rings.flatMap (leBytes 8))
  body ++ dumpHeader body

/-- The device dump; nothing without one. -/
def DevDump.bytes (u : DevDump) : List Byte :=
  let body := u.comps.flatMap (fun c => leBytes 1 c.restarting.toNat ++ leBytes 4 c.restarts.toNat) ++ u.errors.flatMap LogEntry.bytes
    ++ alarmTable u.alarms ++ u.tiles.flatMap (fun x => x.1.bytes ++ leBytes 8 x.2.toNat)
  body ++ dumpHeader body

end Sys2Proof.Machine
end

