-- ==== Sys2Proof/Machine/RackTime.lean ====
section
/-! DEFINITION. Rack time: RACK_MARK edges, mark epochs, the 1588 exchange (R322 to R324), RACK_REF (R408), reads of
CLK_DEVTIME (R407). -/

namespace Sys2Proof.Machine

/-- Alarms of Table 19.6 that rack time raises. -/
def alMarkMissed : W16 := 0x0108
def alPtpLost : W16 := 0x0109

def Device.modTsync (d : Device) (f : Tsync → Tsync) : Device := { d with tsync := f d.tsync }

/-- Rack master by the value in effect. -/
def Tsync.master (y : Tsync) : Bool := y.eff[(0 : Fin 6)] = 1

/-- State shown while RACK_REF is present (Table 13.13). -/
def Tsync.lockState (y : Tsync) : Fin 4 := if y.master && y.ptpLocked then 3 else 1

/-- The written values take effect at the edge (Table 13.13). -/
def Device.tsyncTake (d : Device) : Device :=
  d.modTsync (fun y => { y with eff := Vector.ofFn (fun (i : Fin 6) => d.cfg 0x3400 (i.val + 1) 0) })

/-- Whether a context runs or has started. -/
def Device.anyStarted (d : Device) : Bool := d.ctxs.toList.any (fun (x : Context) => x.st.started)

/-- RACK_MARK_EDGE (R323): at the first edge after reset device time is set; later it is slewed. An edge that has no epoch, or is not
1 ms +- 1 us after the last, raises TIME_MARK_MISSED, unless the time limit has raised it for this edge already. -/
def Device.markEdge (d : Device) : Device :=
  let y := d.tsync
  let gap := d.since y.lastEdge
  let late := y.missed && decide (gap < 999000)
  let onTime := y.edges = 0 || (decide (999000 ≤ gap) && decide (gap ≤ 1001000))
  let now := d.devTime
  let first := d.rst.firstMark && !d.anyStarted
  let d := (d.modTsync (fun y =>
    { y with lastEdge := now, edges := y.edges + 1, sentMark := false, epoch := none, missed := false })).tsyncTake
  let d := { d with rst := { d.rst with firstMark := false } }
  if late then d
  else
    match y.epoch with
    | none => d.report alMarkMissed none none 0 0
    | some e =>
      let off : Int := (now.toNat : Int) - (e.toNat : Int)
      if first then
        { d.modTsync (fun y => { y with st := y.lockState, offset := off, slew := 0, lastEdge := e, ptpOffset := y.ptpOffset - off }) with
          devTime := e }
      else if !onTime then d.report alMarkMissed none none 0 0
      else d.modTsync (fun y => { y with st := if y.refOk then y.lockState else 2, offset := off, slew := -off })

def execRackMarkEdge (s : State) : Host.Outcome State Fault Refusal := onDev Device.markEdge s

/-- RACK_MARK_TIMEOUT (R323): no edge within 1 ms + 1 us of the last; the epoch of that edge is void and the next is due 1 ms later. -/
def Device.markTimeout (d : Device) : Device :=
  if d.tsync.edges ≠ 0 ∧ d.since d.tsync.lastEdge > 1001000 then
    (d.modTsync (fun y => { y with lastEdge := y.lastEdge + 1000000, epoch := none, missed := true })).report alMarkMissed none none 0 0
  else d

def execRackMarkTimeout (s : State) : Host.Outcome State Fault Refusal := onDev Device.markTimeout s

/-- RACK_REF_LOSS (R408): device time goes on from the crystal; tsync.state is 2. -/
def execRackRefLoss (s : State) : Host.Outcome State Fault Refusal :=
  onDev (fun d => d.modTsync (fun y => { y with refOk := false, st := 2 })) s

/-- RACK_REF_RETURN (R408): device time locks again; the offset is slewed away at the next edges. -/
def execRackRefReturn (s : State) : Host.Outcome State Fault Refusal :=
  onDev (fun d => d.modTsync (fun y =>
    { y with refOk := true, st := if y.refOk then y.st else if y.edges = 0 then 0 else y.lockState })) s

/-- Time of the 1588 time transmitter for a device time (R323): its own device time while none is locked. -/
def Tsync.ptpTime (y : Tsync) (t : W64) : W64 := if y.ptpLocked then BitVec.ofInt 64 ((t.toNat : Int) - y.ptpOffset) else t

/-- MARK_EPOCH_SEND (R323): 200 to 800 us after an edge the rack master sends the epoch of the next one to every chip of the
rack, and keeps it for itself. -/
def Device.epochSend (d : Device) : Device :=
  let y := d.tsync
  let gap := d.since y.lastEdge
  if y.master && y.edges ≠ 0 && !y.sentMark && decide (200000 ≤ gap) && decide (gap ≤ 800000) then
    let e := y.ptpTime y.lastEdge + 1000000
    let chips := ((List.range (y.eff[(4 : Fin 6)] + 1 - y.eff[(3 : Fin 6)])).map (· + y.eff[(3 : Fin 6)])).filter
      (fun c => c ≠ d.chipId.toNat)
    let payload := leBytes 16 (e.toNat + (y.edges.toNat % 2 ^ 32) <<< 64)
    let d := d.modTsync (fun y => { y with epoch := some e, sentMark := true })
    match d.tableOf y.eff[(5 : Fin 6)] with
    | some k => chips.foldl (fun d c => d.inject (d.tables[k]).part collarCuff 0xD c 0 payload) d
    | none => d
  else d

def execMarkEpochSend (s : State) : Host.Outcome State Fault Refusal := onLive Device.epochSend s

/-- TIME (R323, Table 13.13): the epoch of the next edge from the rack master; from any other chip it is dropped as NO_ROUTE. A
member takes the chips of tsync.rack_first to rack_last for its rack (log 31). -/
def Device.servTime (d : Device) (src : PktSrc) : Device :=
  match d.takeHead src true (fun k => k.ty = 13) with
  | none => d
  | some (_, pkt, e) =>
    let y := d.tsync
    let cuff := match src with
      | .port p _ => d.portCuff p
      | .net _ _ => 0
    if !y.master && decide (y.eff[(3 : Fin 6)] ≤ pkt.src) && decide (pkt.src ≤ y.eff[(4 : Fin 6)]) && pkt.slice = y.eff[(5 : Fin 6)] then
      e.modTsync (fun y => { y with epoch := some (BitVec.ofNat 64 (leNat (pkt.payload.take 8))) })
    else e.drop cuff 1 1

def execPktTime (src : PktSrc) (s : State) : Host.Outcome State Fault Refusal :=
  if src.wf then onLive (fun d => d.servTime src) s else .fault .illFormed

/-- TIME_PTP_LOST (R323): the rack master has lost its time transmitter and goes on from its own device time. -/
def Device.ptpLost (d : Device) : Device :=
  if d.tsync.master then
    (d.modTsync (fun y =>
      { y with ptpLocked := false, ptpT1 := none, ptpT3 := none, st := if y.st = 3 then 1 else y.st })).report alPtpLost none none 0 0
  else d

/-- A Delay_Req leaves the time receiver once it knows T1 (delay request-response, Table 13.12). -/
def Tsync.askDelay (y : Tsync) (now : W64) : Tsync := { y with ptpT3 := some now, ptpOut := [.delayReq] }

/-- What one 1588 message does to an ordinary clock (R324, Table 13.12). Time receiver: a Sync arrives at T2 and gives T1, or its Follow_Up
does; the Delay_Req leaves at T3, the Delay_Resp brings T4 and closes the exchange. Time transmitter: a Delay_Req is answered with its
arrival time. -/
def Device.ptpTake (d : Device) (m : PtpMsg) : Device :=
  let now := d.devTime
  let y := d.tsync
  match m with
  | .sync two t1 =>
    if y.ptpTx then d
    else d.modTsync (fun y =>
      let y := { y with ptpT1 := some t1, ptpT3 := none, ptpOffset := (now.toNat : Int) - (t1.toNat : Int) }
      if two then y else y.askDelay now)
  | .followUp t1 =>
    (match y.ptpT1, y.ptpT3, y.ptpTx with
     | some t, none, false => d.modTsync (fun y =>
        ({ y with ptpT1 := some t1, ptpOffset := y.ptpOffset + (t.toNat : Int) - (t1.toNat : Int) } : Tsync).askDelay now)
     | _, _, _ => d)
  | .delayReq => if y.ptpTx then d.modTsync (fun y => { y with ptpOut := [.delayResp now] }) else d
  | .delayResp t4 =>
    (match y.ptpT3 with
     | none => d
     | some t3 => d.modTsync (fun y =>
        { y with ptpT1 := none, ptpT3 := none, ptpLocked := true,
                 ptpOffset := (y.ptpOffset - ((t4.toNat : Int) - (t3.toNat : Int))) / 2 }))
  | .announce better =>
    if better then d.modTsync (fun y => { y with ptpTx := false })
    else if y.ptpLocked then d else d.modTsync (fun y => { y with ptpTx := true, ptpT1 := none, ptpT3 := none })
  | .announceTimeout => (if y.ptpLocked then d.ptpLost else d).modTsync (fun y => { y with ptpTx := true })

/-- PTP_MESSAGE (R324): the rack master takes messages of its domain on its ordinary port, while that port is up. -/
def Device.ptp (d : Device) (m : Ptp) : Device :=
  let y := d.tsync
  if y.master && y.eff[(1 : Fin 6)] = m.port.val && y.eff[(2 : Fin 6)] = m.domain.toNat && (d.net[m.port]).st = 2 then
    (d.modTsync (fun y => { y with ptpOut := [] })).ptpTake m.msg
  else d

def execPtpMessage (m : Ptp) (s : State) : Host.Outcome State Fault Refusal := onLive (fun d => d.ptp m) s

def execTimePtpLost (s : State) : Host.Outcome State Fault Refusal := onLive Device.ptpLost s

/-- CLK_DEVTIME_READ (R407): a read of the lower half latches the upper one. -/
def execClkDevtimeRead (upper : Bool) (s : State) : Host.Outcome State Fault Refusal :=
  onDev (fun d => if upper then d else { d with devLatch := BitVec.ofNat 32 (d.devTime.toNat / 2 ^ 32) }) s

end Sys2Proof.Machine
end

