-- ==== Sys2Proof/Machine/Power.lean ====
section
/-! DEFINITION. Tile clocks and their limits (R404, R405), the load ladder and the governor (R409, R410), the brake (R413), the power
limiter (R412) and the thermal limits (R414). Clocks and levels change timing only (R82, R120). -/

namespace Sys2Proof.Machine

/-- Rail ceiling of Table 17.5 for a measured rail in mV: linear between the points, rounded down to 50 MHz. -/
def railCeiling (mv : Nat) : Nat :=
  let seg (v0 f0 v1 f1 : Nat) : Nat := (f0 + (f1 - f0) * (mv - v0) / (v1 - v0)) / 50 * 50
  if mv < 650 then 600
  else if mv < 700 then seg 650 1000 700 1250
  else if mv < 750 then seg 700 1250 750 1500
  else if mv < 800 then seg 750 1500 800 1650
  else if mv < 850 then seg 800 1650 850 1800 else 1800

/-- The limits of a tile's clock, in the order of CLK_ISLAND.LIMIT (R404, Table 17.7). -/
def Device.clockLimits (d : Device) (t : TileNo) : List Nat :=
  let p := d.panels[panelOf t]
  [d.cfg 0x2000 1 0,
   match (d.tiles[t]).bound with
   | some q => d.cfg 0x6022 1 q
   | none => 1800,
   railCeiling p.railMv, p.thermal, if d.rst.brake then d.cfg 0x2100 2 0 else 1800, d.powerLimit]

/-- The target of a tile island (R404). -/
def Device.target (d : Device) (t : TileNo) : Nat := (d.clockLimits t).foldl min 1800

/-- CLK_ISLAND (Table 17.7). -/
def Device.clkIsland (d : Device) (t : TileNo) : W64 :=
  let x := d.tiles[t]
  let g := d.target t
  let lim := ((d.clockLimits t).zipIdx.map (fun q => if q.1 = g then 2 ^ q.2 else 0)).foldl (· + ·) 0
  BitVec.ofNat 64 (x.mhz + g <<< 11 + x.level.val <<< 22 + lim <<< 25 + x.queued.toNat <<< 31)

/-- PWR_GOV_STATUS (Table 17.8). -/
def Device.govStatus (d : Device) (p : PanelNo) : W64 :=
  let q := d.panels[p]
  BitVec.ofNat 64 (q.wakes.length + d.grantedNow p <<< 9 + d.rst.brake.toNat <<< 15 + (decide (q.thermal < d.cfg 0x2000 1 0)).toNat <<< 16
    + q.delays.toNat <<< 32)

/-- pwr.panel.v_request (R405): the lowest voltage whose ceiling covers the highest target that the other limits allow. -/
def Device.vRequest (d : Device) (p : PanelNo) : Nat :=
  let hi := ((List.finRange 512).filter (fun t => panelOf t = p)).foldl
    (fun m t => max m (((d.clockLimits t).eraseIdx 2).foldl min 1800)) 600
  ((List.range 201).map (· + 650)).find? (fun v => hi ≤ railCeiling v) |>.getD 850

/-- Limits changed (R404): islands above their target fall at once; running ones below it ask for wake events (R410). -/
def Device.reclock (d : Device) : Device :=
  (List.finRange 512).foldl (fun d t =>
    let x := d.tiles[t]
    let g := d.target t
    if x.level = 0 ∨ x.mhz = g then d
    else if x.mhz > g then d.modTile t (fun x => { x with mhz := g })
    else d.askWake t true) d

/-- WAKE_GRANT (R410): the panel grants its oldest request, at most 32 in 4 us and none under the brake: one level of the ladder,
or a rise of the clock by at most 300 MHz; a tile that needs more asks again. -/
def Device.wakeGrant (d : Device) (p : PanelNo) : Device :=
  match (d.panels[p]).wakes with
  | [] => d
  | t :: rest =>
    if d.rst.brake || decide (d.grantedNow p ≥ 32) then d
    else
      let d := d.modPanel p (fun q => { q with wakes := rest, granted := q.granted.filter (fun g => d.since g < 4000) ++ [d.devTime] })
      let g := d.target t
      let held := (d.panels[p]).heldLevel1
      let d := d.modTile t (fun x =>
        if x.level = 0 then { x with queued := false, level := 1, mhz := g }
        else if x.mhz < g then { x with queued := false, mhz := min g (x.mhz + 300) }
        else { x with queued := false, level := if held then x.level else fin (min 4 (x.level.val + 1)) })
      if (d.tiles[t]).mhz < g then d.askWake t true else d

def execWakeGrant (p : PanelNo) (s : State) : Host.Outcome State Fault Refusal := onLive (fun d => d.wakeGrant p) s

/-- LEVEL_DESCEND (R409): 2 us without an array issue; not below level 1. -/
def Device.levelDescend (d : Device) (t : TileNo) : Device :=
  let x := d.tiles[t]
  if x.level.val > 1 ∧ d.since x.lastArray ≥ 2000 then
    d.modTile t (fun x => { x with level := fin (x.level.val - 1), lastArray := d.devTime })
  else d

def execLevelDescend (t : TileNo) (s : State) : Host.Outcome State Fault Refusal := onLive (fun d => d.levelDescend t) s

/-- LEVEL_IDLE (R409): 50 us with every queue empty and every engine idle. -/
def Device.levelIdle (d : Device) (t : TileNo) : Device :=
  let x := d.tiles[t]
  if x.queues.toList.all (·.isEmpty) && x.flight.toList.all (·.isEmpty) && decide (d.since x.lastActive ≥ 50000) then
    d.modTile t (fun x => { x with level := 0, mhz := 0 })
  else d

def execLevelIdle (t : TileNo) (s : State) : Host.Outcome State Fault Refusal := onLive (fun d => d.levelIdle t) s

/-- PWR_BRAKE_ASSERT and PWR_BRAKE_RELEASE (R413). -/
def execPwrBrakeAssert (s : State) : Host.Outcome State Fault Refusal :=
  onDev (fun d =>
    let d := { d with rst := { d.rst with brake := true } }
    if d.live then (List.finRange 512).foldl (fun d t => d.modTile t (fun x => { x with mhz := min x.mhz (d.target t) })) d else d) s

def execPwrBrakeRelease (s : State) : Host.Outcome State Fault Refusal :=
  onDev (fun d =>
    let d := { d with rst := { d.rst with brake := false } }
    if d.live then d.reclock else d) s

/-- POWER_LIMITER_STEP (R412): power of the last second against pwr.cap_w moves the limit by 50 MHz. -/
def Device.limiterStep (d : Device) (w : W16) : Device :=
  let cap := d.cfg 0x2100 1 0
  let lim := if w.toNat > cap then max 600 (d.powerLimit - 50)
    else if 100 * w.toNat ≤ 95 * cap then min 1800 (d.powerLimit + 50) else d.powerLimit
  { d with packageW := w, powerLimit := lim }.reclock

def execPowerLimiterStep (watts : W16) (s : State) : Host.Outcome State Fault Refusal := onLive (fun d => d.limiterStep watts) s

/-- Sensors of a panel: 14 on each, panels first (R414). -/
def panelSensors (p : PanelNo) : List (Fin 64) := (List.range 14).map (fun k => fin (14 * p.val + k))

/-- THERMAL_THROTTLE_STEP (R414): a reading of one sensor. With a sensor above therm.throttle_c the panel's limit falls by 50 MHz
every 20 us down to 600 MHz, and after 10 ms there its tiles are held at level 1; with every sensor 2 degrees below, it rises by
50 MHz every 200 us. -/
def Device.thermalStep (d : Device) (p : PanelNo) (k : Fin 14) (reading : W16) : Device :=
  let d : Device := { d with sensors := d.sensors.set (fin (14 * p.val + k.val) : Fin 64) reading.toInt }
  let lim : Int := 8 * (d.cfg 0x2200 1 0 : Nat)
  let q := d.panels[p]
  let hot := (panelSensors p).any (fun i => d.sensors[i] > lim)
  let cool := (panelSensors p).all (fun i => d.sensors[i] ≤ lim - 16)
  if hot && q.thermal > 600 && decide (d.since q.lastThermal ≥ 20000) then
    (d.modPanel p (fun q => { q with thermal := q.thermal - 50, lastThermal := d.devTime,
                                     hotAt600 := if q.thermal ≤ 650 then some d.devTime else none })).reclock
  else if hot && q.thermal ≤ 600 then
    match q.hotAt600 with
    | some t =>
      if d.since t ≥ 10000000 then
        (List.finRange 512).foldl (fun d t => if panelOf t = p then d.modTile t (fun x => { x with level := fin (min 1 x.level.val) }) else d)
          (d.modPanel p (fun q => { q with heldLevel1 := true }))
      else d
    | none => d.modPanel p (fun q => { q with hotAt600 := some d.devTime })
  else if cool && decide (d.since q.lastThermal ≥ 200000) then
    (d.modPanel p (fun q => { q with thermal := min 1800 (q.thermal + 50), lastThermal := d.devTime, hotAt600 := none,
                                     heldLevel1 := false })).reclock
  else d

def execThermalThrottleStep (p : PanelNo) (sensor : Fin 14) (reading : W16) (s : State) : Host.Outcome State Fault Refusal :=
  onLive (fun d => d.thermalStep p sensor reading) s

/-- THERM_CUFF_HOT (R414): a cuff sensor above therm.throttle_c raises the alarm and changes no clock. How far above is a free value
(log 7). -/
def execThermCuffHot (sensor : Fin 8) (s : State) : Host.Outcome State Fault Refusal :=
  onLive (fun d =>
    let lim := 8 * d.cfg 0x2200 1 0 + 1
    let d := { d.free.2 with sensors := d.sensors.set (fin (56 + sensor.val) : Fin 64) ((lim + d.free.1.toNat % (32768 - lim) : Nat) : Int) }
    d.report 0x0107 none none
      (sensor.val / 4) (BitVec.ofNat 128 sensor.val)) s

/-- PANEL_RAIL_VOLTAGE_CHANGE (R405): the ceiling of the panel's islands follows the measured rail. A rail below its monitor
threshold of 0.60 V is the fatal error of R394 instead. -/
def execPanelRailVoltageChange (p : PanelNo) (mv : W16) (s : State) : Host.Outcome State Fault Refusal :=
  onLive (fun d => if mv.toNat < 600 then d else (d.modPanel p (fun q => { q with railMv := mv.toNat })).reclock) s

end Sys2Proof.Machine
end

