-- ==== Sys2Proof/Machine/Values.lean ====
section
/-! DEFINITION. What a READ of an object returns: the committed value of every object that is no plain parameter (Tables 0.1 to
19.10), and the bytes of TEXT and DOMAIN objects. -/

namespace Sys2Proof.Machine

/-! ### Sessions (R427) -/

/-- The partition of a VF's session. -/
def sesPart : SessId → Option PartNo
  | .vf p => some p
  | _ => none

/-- The function whose mailbox a session uses. -/
def sesFn : SessId → Option Fn
  | .pf0 => some .pf0
  | .vf p => some (.vf p)
  | _ => none

/-- A session of the management paths. -/
def sesMgmt (ses : SessId) : Bool := (sesFn ses).isNone

/-- A session just opened; `owner` is its scope on a management path. -/
def Session.fresh (owner : Bool) (now : W64) : Session :=
  { open_ := true, owner := owner, staged := [], stagedBlob := [], segs := [], stagedAt := [], expired := [], peer := 0, peerOk := false,
    resp := { opc := 0, tag := 0, status := 0, ty := 0, value := [] }, lastMsg := now }

/-- A session as it stands; one that is not listed is closed. -/
def Device.session (d : Device) (ses : SessId) : Session := (alGet d.sessions ses).getD { Session.fresh false 0 with open_ := false }

def Device.modSession (d : Device) (ses : SessId) (f : Session → Session) : Device :=
  { d with sessions := alSet d.sessions ses (f (d.session ses)) }

/-- Whether a session has OWNER scope (Table 18.5). -/
def Device.ownerSes (d : Device) (ses : SessId) : Bool :=
  match ses with
  | .pf0 => true
  | .vf _ => false
  | _ => (d.session ses).owner

/-! ### Numbers -/

/-- Two's complement of an integer in 64 bits. -/
def int64 (x : Int) : Nat := (BitVec.ofInt 64 x).toNat

/-- The hottest sensor in °C (R414); readings are in units of 0.125 °C. -/
def Device.hottest (d : Device) : Nat := ((d.sensors.toList.foldl max 0).toNat / 8) % 256

/-- hbm.allocatable_pages (R295, R297): the pages of working stacks that are neither reserved nor spare, less the retired. -/
def Device.allocatable (d : Device) : Nat :=
  (d.goodStacks.map (fun k => pagesPerStack - 318 - d.reservedPages k)).foldl (· + ·) 0
    - (d.retiredPages.filter (fun g => d.pageKind g = .allocatable && (d.hbmStacks[pageStack g]).st ≠ 2)).length
    - d.extraReserved.length - d.extraSpare.length

def ringField (r : Ring) (sub : Nat) : Nat :=
  match sub with
  | 1 => r.base | 2 => r.log2 | 3 => r.tile.val | 4 => r.head | 5 => r.tail | 6 => r.ctx.val | _ => r.st.val

def evqField (q : Evq) (sub : Nat) : Nat :=
  match sub with
  | 1 => q.base.toNat | 2 => q.log2 | 3 => q.vector | _ => q.on.toNat

/-- Objects of partitions: the fields of their records, and their status (06, 08, 09, 14, 15, 16, 18). `sel` is the item that the
record's selector names (R434). `none` for an object kept in the dictionary. -/
def Device.partValue (d : Device) (base sub item sel : Nat) : Option Nat :=
  let p := objPart base item
  let q := d.parts[p]
  match base with
  | 0x6040 =>
    let w := q.windows[(fin item : WinNo)]
    some (match sub with
      | 1 => w.tile | 2 => w.base | 3 => w.size | 4 => w.slice | 5 => w.chipLo | 6 => w.chipHi | 7 => w.rights.toNat | 8 => w.st.val
      | _ => q.violations.toNat)
  | 0x6080 =>
    let w := q.pools[(fin item : PoolNo)]
    some (match sub with
      | 1 => w.tile | 2 => w.freeClasp | 3 => w.base | 4 => w.slots | 5 => w.open_.toNat | _ => w.emptyCount.toNat)
  | 0x60A0 =>
    let e := d.gather[(fin item : GatherNo)]
    some (ringField (if e.bound = some p then e.ring else Ring.reset) sub)
  | 0x60E0 => some (ringField q.collRing sub)
  | 0x6000 =>
    let b := q.bind
    some (match sub with
      | 1 => b.kind | 2 => b.first | 3 => b.count | 4 => b.addr | 5 => b.action | 6 => b.flags | 7 => b.drainUs | 8 => b.st.val
      | _ => b.result.toNat)
  | 0x6010 =>
    let x := d.ctxs[(fin sel : CtxNo)]
    match sub with
    | 2 => some x.prioSet.val
    | 3 => some x.saveBase
    | 4 => some x.command
    | _ => none
  | 0x6024 =>
    let x := q.queues[(fin sel : QueueNo)]
    match sub with
    | 2 => some x.sqBase.toNat
    | 3 => some x.cqBase.toNat
    | 4 => some (if x.st = 0 then 6 else x.log2)
    | 5 => some x.vector
    | _ => none
  | 0x6025 => some (evqField q.evq sub)
  | 0x60F0 =>
    let r := q.repairs[(fin sel : Fin 16)]
    match sub with
    | 2 => some r.base
    | 3 => some r.length
    | 4 => some r.peerChip
    | 5 => some r.peerBase
    | 6 => some r.version
    | 7 => some r.mailbox
    | 8 => some q.repairCount.toNat
    | _ => none
  | 0x60B0 => if sub = 5 then some q.ckpt.st.val else none
  | 0x60D0 =>
    match sub with
    | 1 => some q.adm.ctx.val
    | 2 => some q.adm.image
    | 3 => some q.adm.length
    | 4 => some q.adm.st.val
    | _ => none
  | _ => none

/-- Objects of the device (00, 09, 10, 12 to 14, 16, 17). -/
def Device.devValue (d : Device) (base sub item : Nat) : Option Nat :=
  match base, sub with
  | 0x1000, 6 => some Config.siliconRev.toNat
  | 0x1000, 7 => some Config.pciVendor.toNat
  | 0x1000, 8 => some Config.pciDevice.toNat
  | 0x1000, 9 => some (d.fw.bankVer[d.fw.running]).toNat
  | 0x1010, 1 => some d.rst.cause.val
  | 0x1010, 2 => some d.rst.secondary.toNat
  | 0x1010, 3 => some d.rst.count.toNat
  | 0x1010, 4 => some d.rst.state.val
  | 0x1100, n => some (evqField d.devEvq n)
  | 0x2100, 3 => some d.govDelays.toNat
  | 0x2100, 4 => some d.packageW.toNat
  | 0x2110, 1 => some (d.vRequest (fin item))
  | 0x2110, 2 => some (d.panels[(fin item : PanelNo)]).railMv
  | 0x2200, 3 => some d.hottest
  | 0x3000, 3 => some d.dropTotal.toNat
  | 0x3100, 7 => some (d.ports[(fin item : PortNo)]).st.val
  | 0x3200, 4 => some (d.tables[(fin item : SliceTab)]).active.toNat
  | 0x3300, n =>
    let l := d.layouts[(fin item : SliceTab)]
    some (match n with
      | 1 => (l.axes[0]).toNat | 2 => (l.axes[1]).toNat | 3 => (l.axes[2]).toNat | 4 => (l.axes[3]).toNat | 5 => leNat l.wPlus
      | 6 => leNat l.wMinus | 7 => l.rank | _ => l.stallUs)
  | 0x3400, 7 => some d.tsync.st.val
  | 0x3400, 8 => some (int64 d.tsync.offset)
  | 0x3500, 3 => some ((Config.mac (fin item)).toNat % 2 ^ 48)
  | 0x3500, 5 => some (d.net[(fin item : NetNo)]).st.val
  | 0x4000, 2 => some d.allocatable
  | 0x4000, 3 => some ((d.goodStacks.map (fun k => (d.spareFree k).length)).foldl (· + ·) 0)
  | 0x4000, 7 => some d.scrubPasses
  | 0x4010, 1 => some (d.hbmStacks[(fin item : StackNo)]).st.val
  | 0x4010, 2 => some (d.spareFree (fin item)).length
  | 0x4010, 3 => some (d.hbmStacks[(fin item : StackNo)]).ueCount.toNat
  | 0x4100, 2 => some (d.tmem[(fin item : TmemNo)]).st.val
  | 0x4100, 3 => some (d.tmem[(fin item : TmemNo)]).gib
  | 0x4100, 4 => some (d.tmem[(fin item : TmemNo)]).link
  | 0x4100, 5 => some (d.tmem[(fin item : TmemNo)]).poison.toNat
  | 0x5100, 2 => some d.replayCount.toNat
  | 0x5100, 3 => some d.replayFailed.toNat
  | 0x5210, 0x0A => some d.unregistered.toNat
  | 0x5300, 2 => some d.auditRuns.toNat
  | 0x5300, 3 => some d.auditSkipped.toNat
  | 0x5300, 4 => some d.auditMiss.toNat
  | 0x5400, 4 => some d.activeBundle.toNat
  | 0x5400, 7 => some (leNat ((List.finRange 4).map (fun p => BitVec.ofNat 8 (d.patchFree p).length)))
  | 0x7000, 1 => some Config.ifaceVersion.toNat
  | 0x7000, 3 => some d.fw.secVersion.toNat
  | _, _ => none

/-- Counters, counter sets, trace and log numbers (19). -/
def Device.obsValue (d : Device) (base sub item : Nat) : Option Nat :=
  match base with
  | 0x8000 =>
    let x := d.tiles[(fin item : TileNo)]
    some (match sub with
      | 1 => x.cntBusy.toNat | 2 => x.cntStall.toNat | 3 => x.cntArray.toNat | 4 => x.cntResidue.toNat | _ => x.cntCorrected.toNat)
  | 0x8200 =>
    let x := d.lanes[(fin item : LaneNo)]
    some (if sub = 1 then x.cntRetries.toNat else x.cntFec.toNat)
  | 0x8300 => some (d.hbmStacks[(fin item : StackNo)]).cntCorrected.toNat
  | 0x8400 => some (match sub with
      | 1 => d.cntResidue.toNat | 2 => d.cntCorrected.toNat | _ => d.cntRetries.toNat)
  | 0x8800 =>
    let k := (d.csets[(fin item : Fin 32)])
    some (if sub < 0x10 then (k[(fin (sub - 1) : Fin 8)]).ctl.toNat else (k[(fin (sub - 0x11) : Fin 8)]).cnt.toNat)
  | 0xA200 => match sub with
    | 9 => some d.trace.st.val
    | 0x0A => some d.trace.dropped.toNat
    | 0x0B => some d.trace.late.toNat
    | _ => none
  | 0xA000 => if sub = 6 then some d.dumpLost.toNat else none
  | _ => none

/-- The committed value of a numeric object. -/
def Device.value (d : Device) (base sub item sel : Nat) : Nat :=
  if 0x6000 ≤ base ∧ base < 0x7000 then (d.partValue base sub item sel).getD (d.cfg base sub item)
  else if base ≥ 0x8000 then (d.obsValue base sub item).getD (d.cfg base sub item)
  else (d.devValue base sub item).getD (d.cfg base sub item)

/-! ### TEXT and DOMAIN objects -/

/-- A map entry of part.bind.map (Table 15.2). -/
def mapEntry (kind flags first count addr : Nat) : List Byte :=
  leBytes 16 (kind + flags <<< 8 + first <<< 16 + count <<< 48 + addr <<< 80)

/-- Numbers in runs of consecutive ones of one tag: first number, count, tag. -/
def runs : List (Nat × Nat) → List (Nat × Nat × Nat)
  | [] => []
  | (n, tag) :: rest =>
    match runs rest with
    | (m, k, t) :: l => if m = n + 1 ∧ t = tag then (n, k + 1, tag) :: l else (n, 1, tag) :: (m, k, t) :: l
    | [] => [(n, 1, tag)]

/-- Insertion into a list that rises by the first component. -/
def insertRise (x : Nat × Nat) : List (Nat × Nat) → List (Nat × Nat)
  | [] => [x]
  | y :: l => if x.1 ≤ y.1 then x :: y :: l else y :: insertRise x l

/-- part.bind.map (R345): what the partition holds, kind by kind, in runs; pages and granules by partition number, granules with
their port in `first`. -/
def Device.bindMap (d : Device) (p : PartNo) : List Byte :=
  let held (kind : Nat) : List (Nat × Nat) :=
    ((List.range (kindCount kind)).filter (fun n => d.holderOf kind n = some p)).map (fun n => (n, (d.isReserved kind n).toNat))
  let plain (kind : Nat) : List Byte := (runs (held kind)).flatMap (fun r => mapEntry kind r.2.2 r.1 r.2.1 0)
  let sorted (l : List Bound) (tag : Bound → Nat) : List (Nat × Nat) :=
    ((l.filter (fun b => b.part = p)).map (fun b => (b.pno, tag b))).foldr insertRise []
  plain 0 ++ plain 1 ++ (runs (sorted d.pages (fun _ => 0))).flatMap (fun r => mapEntry 2 0 0 r.2.1 r.1)
    ++ (runs (sorted d.granules (fun b => (granPort b.phys).val))).flatMap (fun r => mapEntry 3 0 r.2.2 r.2.1 r.1)
    ++ [4, 5, 6, 7, 8].flatMap plain

/-- part.ctx.states (R352). -/
def Device.ctxStates (d : Device) (p : PartNo) : List Byte :=
  (List.finRange 256).map (fun c =>
    let x := d.ctxs[c]
    if x.part = some p then
      let code := match x.st with
        | .free => 0 | .bound => 1 | .admitted => 2 | .ready => 3 | .running => 4 | .saved => 5 | .suspended => 6 | .tearing => 7
      BitVec.ofNat 8 (code + x.prioSet.val <<< 4 + (d.realTime c).toNat <<< 7)
    else 0)

/-- route.slice.entries (R315): 32,768 entries; those not listed are 0x00FF. -/
def Device.tableBytes (d : Device) (k : SliceTab) : List Byte :=
  (List.range 32768).flatMap (fun i => leBytes 2 ((d.tables[k]).entry i).toNat)

/-- The clamp-log entries a session sees (R433): its own scope and partition; OWNER sees all. -/
def Device.clampSeen (d : Device) (ses : SessId) : List Byte :=
  let lost := if d.clampLost = 0 then [] else leBytes 32 (d.clampLost <<< 128)
  lost ++ (d.clampLog.filter (fun e => d.ownerSes ses || (!e.owner && sesPart ses = some e.part))).flatMap ClampEntry.bytes

/-- The bytes of a TEXT or DOMAIN object. -/
def Device.blob (d : Device) (ses : SessId) (base sub item : Nat) : List Byte :=
  let p := objPart base item
  match base, sub with
  | 0x1000, 1 => asciiBytes "Kyozelux Semiconductor"
  | 0x1000, 2 => asciiBytes "Golopa"
  | 0x1000, 3 => asciiBytes "T9"
  | 0x1000, 4 => asciiBytes "KZ9T-4A"
  | 0x1000, 5 => Config.serial
  | 0x1000, 0x0A => Config.certChain
  | 0x2200, 4 => d.sensors.toList.flatMap (fun x => leBytes 2 (int64 x))
  | 0x3200, 3 => d.tableBytes (fin item)
  | 0x4000, 6 => d.retiredPages.flatMap (fun g => leBytes 4 (g / pagesPerStack * 2 ^ 28 + g % pagesPerStack))
  | 0x5400, 6 => d.patchMap.toList.flatMap (fun x => leBytes 2 x.val)
  | 0x5400, 0x0A => d.retiredTiles.flatMap (leBytes 2)
  | 0x6000, 0x0A => d.bindMap p
  | 0x6010, 5 => d.ctxStates p
  | 0x60C0, 5 => d.sentRead p
  | 0x60D0, 5 => padBytes (max 16 (d.parts[p]).adm.report.length) (d.parts[p]).adm.report
  | 0x7000, 4 => [d.fw.bankA, 1 - d.fw.bankA].flatMap (fun (b : Fin 2) =>
      leBytes 4 (d.fw.bankVer[b]).toNat ++ [d.fw.bankSec[b], BitVec.ofNat 8 (d.fw.bankValid[b]).toNat])
  | 0x7000, 5 => d.comps.toList.flatMap (fun c => leBytes 4 c.restarts.toNat)
  | 0xA010, 1 => d.clampSeen ses
  | 0xA000, 1 => d.errLog.flatMap LogEntry.bytes
  | 0xA000, 2 => alarmTable d.alarms
  | 0xA000, 4 => d.dumps.flatMap Dump.bytes
  | 0xA000, 5 => match d.deviceDump with
    | some u => u.bytes
    | none => []
  | 0xA100, 1 => (d.errLog.filter (fun e => e.part.any (fun q => q.val = item))).flatMap LogEntry.bytes
  | 0xA110, 1 => (d.dumps.filter (fun u => u.part.val = item)).flatMap Dump.bytes
  | 0xA200, 0x0C => d.trace.buf.flatMap TraceRec.bytes
  | _, _ => []

/-- A read of the dumps marks those read (R455). -/
def Device.dumpsRead (d : Device) (base sub item : Nat) : Device :=
  if base = 0xA000 ∧ sub = 4 then { d with dumps := d.dumps.map (fun u => { u with unread := false }) }
  else if base = 0xA110 then { d with dumps := d.dumps.map (fun u => if u.part.val = item then { u with unread := false } else u) }
  else d

end Sys2Proof.Machine
end

