-- ==== Sys2Proof/Machine/Dictionary.lean ====
section
/-! DEFINITION. The dictionary agent (R427 to R437, R440): sessions, staging, commits, clamping, responses; READ, WRITE and their
segmented forms, DESCRIBE, ABANDON; and every command that is a write of one object. -/

namespace Sys2Proof.Machine

/-! ### Scope and state of the device (R13, R427, R432, R440) -/

/-- Whether an object belongs to a partition: those of a partition's index range, and counters of resources bound to it (R447). -/
def Device.belongs (d : Device) (p : PartNo) (base item : Nat) : Bool :=
  if base = 0xA010 then true
  else if base = 0x8000 then (d.tiles[(fin item : TileNo)]).bound = some p
  else if base = 0x8200 then (d.lanes[(fin item : LaneNo)]).bound = some p
  else if base = 0x8800 then d.csetBound[(fin item : Fin 32)] = some p
  else if base = 0xA100 || base = 0xA110 then p.val = item
  else objPart base item = p

/-- fw.iface.peer, which every session may write (R427). -/
def isPeer (o : Obj) : Bool := o.at_ = (0x7000, 2)

/-- Whether a session reaches an object (R13, R427). -/
def Device.reaches (d : Device) (ses : SessId) (o : Obj) (item : Nat) (write : Bool) : Bool :=
  isPeer o || d.ownerSes ses || (decide (o.scope = .obs) && !write) ||
    (match sesPart ses with
     | some p => decide (o.scope = .part) && d.belongs p o.at_.1 item
     | none => false)

/-- Identity, rst and firmware-update objects (R432, R440). -/
def freeObject (base : Nat) : Bool := base = 0x1000 || base = 0x1010 || base = 0x7000

/-- The firmware component that serves an object (Table 18.11; windows, pools, rings and mover grants with the binding manager, log 28). -/
def compOf (base : Nat) : Fin 8 :=
  if base = 0x6010 || base = 0x6020 || base = 0x6030 then 1
  else if base = 0x1100 || base = 0x6024 || base = 0x6025 then 2
  else if base = 0x6000 || base = 0x60D0 || base = 0x6040 || base = 0x6080 || base = 0x6090 || base = 0x60A0 || base = 0x6021 then 3
  else if 0x3000 ≤ base && base < 0x4000 || base = 0x60E0 then 4
  else if 0x4000 ≤ base && base < 0x5000 then 5
  else if 0x5000 ≤ base && base < 0x6000 || base = 0x60B0 || base = 0x60C0 || base = 0x60F0 then 6
  else 7

/-- What the state of the device answers before an object is looked at: RESTARTING, HOLD, NOT_READY (R399, R400), VERSION_MISMATCH. -/
def Device.openness (d : Device) (ses : SessId) (base : Nat) : Option St :=
  if !d.up 7 then some .restarting
  else if freeObject base then none
  else if d.rst.state = 8 ∨ d.rst.state = 9 then some .hold
  else if d.rst.state ≠ 7 then some .notReady
  else if !d.up (compOf base) then some .restarting
  else if !(d.session ses).peerOk then some .versionMismatch
  else none

/-! ### Staging (R434, R435) -/

/-- Five seconds without a write. -/
def stageLife : Nat := 5000000000

/-- The staging of one record discarded. -/
def Session.unstage (x : Session) (index : Nat) : Session :=
  { x with staged := x.staged.filter (fun e => e.1.1 ≠ index), stagedBlob := x.stagedBlob.filter (fun e => e.1.1 ≠ index),
           stagedAt := alErase x.stagedAt index }

/-- A staging not written for 5 s is discarded; its next commit will be refused. So is a segmented write. -/
def Session.expireAt (x : Session) (now : W64) (index : Nat) : Session :=
  let y := { x with segs := x.segs.filter (fun e => e.1.1 ≠ index || decide ((now - e.2.2).toNat < stageLife)) }
  match alGet x.stagedAt index with
  | some t => if (now - t).toNat ≥ stageLife then { y.unstage index with expired := index :: y.expired.filter (· ≠ index) } else y
  | none => y

/-- A field held in the session's staging (R434); grants and requests as written (R433). -/
def Session.stage (x : Session) (now : W64) (index sub v : Nat) : Session :=
  { x with staged := alSet x.staged (index, sub) v, stagedAt := alSet x.stagedAt index now }

/-- Whether an index holds a staged record. -/
def isRecord (base : Nat) : Bool := objTable.any (fun o => o.at_ = (base, 0xFF))

/-- Whether a write of an object is staged: an RW field of a record that is no parameter and has no status of its own. -/
def staged (o : Obj) : Bool := isRecord o.at_.1 && o.acc = .rw && (o.oor = .commit || o.oor = .none)

/-- Whether the first field of a record selects an item (R434). -/
def hasSelector (base : Nat) : Bool := base = 0x6010 || base = 0x6024 || base = 0x60F0

/-- The item that a record's selector names: staged or committed. -/
def Device.selected (d : Device) (ses : SessId) (index base item : Nat) : Nat :=
  if hasSelector base then (alGet (d.session ses).staged (index, 1)).getD (d.cfg base 1 item) else 0

/-- A field as a session sees it: its staged value, or the committed one. -/
def Device.field (d : Device) (ses : SessId) (index base item sub : Nat) : Nat :=
  (alGet (d.session ses).staged (index, sub)).getD (d.value base sub item (d.selected ses index base item))

/-! ### Responses (R430, R437) -/

/-- COLLAR_MBX_CTRL of a function (Table 18.10). -/
def Device.mbxOf (d : Device) (f : Fn) : W64 := (alGet d.mbx f).getD 0

/-- The agent has written a response: DONE, RESP_LEN, BUSY and GO clear, and with IRQ_EN the vector's message. -/
def Device.mbxDone (d : Device) (f : Fn) (len : Nat) : Device :=
  let w := d.mbxOf f
  let w' := setFld (setBit (setBit (setBit w 0 false) 1 false) 2 true) 32 16 len
  let d := { d with mbx := alSet d.mbx f w' }
  if bitOf w 5 then d.signal f (fld w 6 7) else d

/-- Answer a request. A part that is held in reset or frozen answers nothing (R457). -/
def Device.respond (d : Device) (ses : SessId) (opc tag : Byte) (st : St) (ty : Byte) (value : List Byte) : Device :=
  if !d.live then d
  else
    let d := d.modSession ses (fun x => { x with resp := { opc := opc, tag := tag, status := st.code, ty := ty, value := value } })
    match sesFn ses with
    | some f => d.mbxDone f (16 + value.length)
    | none => d

/-- Whether the agent takes requests of a session now: a mailbox from stage HOST (Table 17.4), or in recovery over its path (R401);
over the management Ethernet only inside an SPDM session (R427). -/
def Device.serves (d : Device) (ses : SessId) : Bool :=
  let recovery := d.rst.state = 2 && (match ses with
    | .pf0 => d.rst.bootSel = 2
    | .vf _ | .i3c _ => false
    | .eth _ => d.rst.bootSel = 3)
  (decide (d.rst.state.val ≥ 3) || recovery) && (match ses with
    | .eth _ => (d.session ses).open_
    | _ => true)

/-- Open management sessions (R427). -/
def Device.mgmtOpen (d : Device) : Nat := (d.sessions.filter (fun e => sesMgmt e.1 && e.2.open_)).length

/-- The session of a request: opened by its first one, over I3C with the scope of mgmt.i3c_owner; a ninth management session is
refused. -/
def Device.openSes (d : Device) (ses : SessId) : Option Device :=
  if (d.session ses).open_ then some (d.modSession ses (fun x => { x with lastMsg := d.devTime }))
  else if sesMgmt ses && decide (d.mgmtOpen ≥ 8) then none
  else
    let owner := sesMgmt ses && decide (d.cfg 0x1200 1 0 = 1)
    let old := (d.session ses).resp
    some (d.modSession ses (fun _ => { Session.fresh owner d.devTime with resp := old }))

/-- An answer: status, TYPE, value, and the part after the request. -/
structure Answer where
  st : St
  ty : Byte
  value : List Byte
  dev : Device

/-- A request of a session: taken, performed and answered (R427, R430, R437). -/
def Device.request (d : Device) (ses : SessId) (opc tag : Byte) (f : Device → Answer) : Device :=
  if !d.serves ses then d
  else
    match d.openSes ses with
    | none => d.respond ses opc tag .sessionLimit 0 []
    | some d =>
      let a := f d
      a.dev.respond ses opc tag a.st a.ty a.value

/-- Find the object of a request and check what comes before value and range (R429, R432). -/
def Device.checked (d : Device) (ses : SessId) (index sub : Nat) (read write : Bool) (f : Obj → Nat → Answer) : Answer :=
  match objOf index sub with
  | none => ⟨.noObject, 0, [], d⟩
  | some (o, item) =>
    match d.openness ses o.at_.1 with
    | some st => ⟨st, o.ty.code, [], d⟩
    | none =>
      if (read && decide (o.acc = .wo)) || (write && (decide (o.acc = .ro) || decide (o.acc = .konst))) || !d.reaches ses o item write then
        ⟨.accessDenied, o.ty.code, [], d⟩
      else f o item

/-! ### READ, READ_SEG, DESCRIBE, ABANDON -/

/-- The value of a READ. -/
def Device.readVal (d : Device) (ses : SessId) (index : Nat) (o : Obj) (item : Nat) : List Byte :=
  if isPeer o then leBytes 2 (d.session ses).peer.toNat
  else match o.ty.len with
    | some n => leBytes n (d.field ses index o.at_.1 item o.at_.2)
    | none => d.blob ses o.at_.1 o.at_.2 item

/-- A READ of a TEXT or numeric object; a DOMAIN is read in segments (log 28). -/
def Device.readReq (d : Device) (ses : SessId) (index sub : Nat) : Answer :=
  d.checked ses index sub true false (fun o item =>
    if o.ty = .domain then ⟨.typeMismatch, o.ty.code, [], d⟩ else ⟨.ok, o.ty.code, d.readVal ses index o item, d⟩)

def execRead (ses : SessId) (tag : Byte) (index : W16) (sub : Byte) (s : State) : Host.Outcome State Fault Refusal :=
  onLive (fun d => d.request ses 0x01 tag (fun d =>
    let d := d.modSession ses (fun x => x.expireAt d.devTime index.toNat)
    d.readReq ses index.toNat sub.toNat)) s

/-- A DOMAIN's bytes as a session sees them: a staged field, or what is there. -/
def Device.readBlob (d : Device) (ses : SessId) (index : Nat) (o : Obj) (item : Nat) : List Byte :=
  (alGet (d.session ses).stagedBlob (index, o.at_.2)).getD (d.blob ses o.at_.1 o.at_.2 item)

/-- A READ_SEG: up to 4,080 bytes from OFFSET (R435). -/
def Device.readSegReq (d : Device) (ses : SessId) (index sub off : Nat) : Answer :=
  d.checked ses index sub true false (fun o item =>
    if o.ty ≠ .domain then ⟨.typeMismatch, o.ty.code, [], d⟩
    else ⟨.ok, o.ty.code, ((d.readBlob ses index o item).drop off).take 4080, d.dumpsRead o.at_.1 o.at_.2 item⟩)

def execReadSeg (ses : SessId) (tag : Byte) (index : W16) (sub : Byte) (offset : W32) (s : State) : Host.Outcome State Fault Refusal :=
  onLive (fun d => d.request ses 0x03 tag (fun d =>
    let d := d.modSession ses (fun x => x.expireAt d.devTime index.toNat)
    d.readSegReq ses index.toNat sub.toNat offset.toNat)) s

def Acc.code : Acc → Byte
  | .ro => 0 | .rw => 1 | .wo => 2 | .konst => 3
def Scope.code : Scope → Byte
  | .owner => 0 | .part => 1 | .obs => 2

/-- Ranges that the tables print for objects whose range is not clamped: grants, requests, status codes. -/
def printedRange : List ((Nat × Nat) × (Nat × Nat)) :=
  [((0x1010, 1), (0, 8)), ((0x1010, 4), (1, 10)), ((0x1010, 5), (1, 1)), ((0x1100, 1), (0, 2 ^ 64 - 4096)), ((0x1100, 2), (6, 14)),
   ((0x1100, 3), (0, 63)), ((0x1100, 4), (0, 1)), ((0x1100, 0xFF), (0, 1)), ((0x2110, 1), (650, 850)), ((0x3100, 2), (0, 3)),
   ((0x3100, 4), (0, 32767)), ((0x3100, 6), (1, 16)), ((0x3100, 7), (0, 5)), ((0x3100, 0xFF), (0, 1)), ((0x3200, 1), (0, 4095)),
   ((0x3200, 2), (0, 15)), ((0x3200, 4), (0, 1)), ((0x3200, 0xFF), (0, 1)), ((0x3300, 7), (0, 131071)), ((0x3300, 8), (500, 100000)),
   ((0x3300, 0xFF), (1, 1)), ((0x3400, 7), (0, 3)), ((0x3500, 5), (0, 2)), ((0x4000, 3), (0, 3816)), ((0x4010, 1), (0, 2)),
   ((0x4010, 2), (0, 318)), ((0x4100, 2), (0, 3)), ((0x4100, 3), (0, 1024)), ((0x6000, 1), (0, 8)), ((0x6000, 5), (0, 2)),
   ((0x6000, 6), (0, 3)), ((0x6000, 7), (100, 60000000)), ((0x6000, 8), (0, 4)), ((0x6000, 0xFF), (1, 1))] ++
  [((0x6010, 1), (0, 255)), ((0x6010, 2), (0, 7)), ((0x6010, 3), (0, 2 ^ 40 - 4096)), ((0x6010, 4), (0, 2)), ((0x6010, 0xFF), (1, 1)),
   ((0x6021, 1), (1, 1)), ((0x6024, 1), (0, 63)), ((0x6024, 2), (0, 2 ^ 64 - 4096)), ((0x6024, 3), (0, 2 ^ 64 - 4096)),
   ((0x6024, 4), (4, 12)), ((0x6024, 5), (0, 123)), ((0x6024, 0xFF), (0, 1)), ((0x6025, 1), (0, 2 ^ 64 - 4096)), ((0x6025, 2), (6, 14)),
   ((0x6025, 3), (0, 123)), ((0x6025, 0xFF), (0, 1)), ((0x6040, 1), (0, 511)), ((0x6040, 2), (0, 0x1FFFC0)), ((0x6040, 3), (64, 2097152)),
   ((0x6040, 4), (0, 4095)), ((0x6040, 5), (0, 32767)), ((0x6040, 6), (0, 32767)), ((0x6040, 7), (0, 7)), ((0x6040, 8), (0, 2)),
   ((0x6040, 0xFF), (0, 1)), ((0x6080, 1), (0, 511)), ((0x6080, 2), (0, 47)), ((0x6080, 3), (0, 0x1FE000)), ((0x6080, 4), (1, 48)),
   ((0x6080, 5), (0, 1)), ((0x6080, 0xFF), (0, 1)), ((0x6090, 1), (0, 64))] ++
  [((0x60A0, 1), (0, 2 ^ 40 - 128)), ((0x60A0, 2), (4, 12)), ((0x60A0, 3), (0, 511)), ((0x60A0, 4), (0, 47)), ((0x60A0, 5), (0, 47)),
   ((0x60A0, 7), (0, 2)), ((0x60A0, 0xFF), (0, 1)), ((0x60B0, 3), (1, 3600000)), ((0x60B0, 5), (0, 2)), ((0x60B0, 0xFF), (0, 1)),
   ((0x60C0, 2), (0, 0xFFFFF)), ((0x60C0, 3), (0, 15)), ((0x60C0, 4), (0, 1)), ((0x60C0, 0xFF), (1, 1)), ((0x60D0, 2), (0, 2 ^ 40 - 4096)),
   ((0x60D0, 3), (64, 2 ^ 32 - 1)), ((0x60D0, 4), (0, 4)), ((0x60D0, 0xFF), (0, 1)), ((0x60E0, 1), (0, 2 ^ 40 - 64)), ((0x60E0, 2), (4, 12)),
   ((0x60E0, 3), (0, 511)), ((0x60E0, 4), (0, 47)), ((0x60E0, 5), (0, 47)), ((0x60E0, 7), (0, 2)), ((0x60E0, 0xFF), (0, 1)),
   ((0x60F0, 1), (0, 15)), ((0x60F0, 4), (0, 32767)), ((0x60F0, 0xFF), (0, 1)), ((0x7000, 3), (0, 63)), ((0xA200, 7), (1, 1)),
   ((0xA200, 8), (1, 1)), ((0xA200, 9), (0, 4)), ((0xA300, 1), (1, 1))]

/-- Minimum and maximum of an object for DESCRIBE: its range, or that of its type (log 28). -/
def Obj.bounds (o : Obj) (n : Nat) : Nat × Nat :=
  let whole : Nat × Nat := match o.ty with
    | .bool => (0, 1)
    | .i32 => (2 ^ 31, 2 ^ 31 - 1)
    | .i64 => (2 ^ 63, 2 ^ 63 - 1)
    | _ => (0, 2 ^ (8 * n) - 1)
  match o.rng with
  | .any => (alGet printedRange o.at_).getD whole
  | .span lo hi => (lo, hi)
  | .zeroOr _ hi => (0, hi)
  | .multiple lo hi _ => (lo, hi)
  | .pow2 lo hi => (lo, hi)
  | .floats lo hi => (lo, hi)
  | .codes => (0, 0x0308)

/-- The default an object table prints; `none` where it prints none. A value from the fuses is the fuses'. -/
def Device.printedDefault (d : Device) (o : Obj) (item : Nat) : Option Nat :=
  if o.acc = .wo || o.at_ = (0x5400, 4) then none
  else if o.at_.1 = 0x1000 || o.at_ = (0x3500, 3) || o.at_ = (0x7000, 1) || o.at_ = (0x7000, 3) then some (d.value o.at_.1 o.at_.2 item 0)
  else some (objDefault o.at_.1 o.at_.2 item)

/-- A DESCRIBE (R430): type, access and scope codes, value length, default, minimum and maximum at that length, name. A default that
no table prints is a free value (log 7). -/
def Device.describeReq (d : Device) (ses : SessId) (index sub : Nat) : Answer :=
  d.checked ses index sub false false (fun o item =>
    let n := o.ty.len.getD 0
    let b := o.bounds n
    let v := match d.printedDefault o item with
      | some x => (x, d)
      | none => (d.free.1.toNat, d.free.2)
    ⟨.ok, o.ty.code,
      [o.ty.code, o.acc.code, o.scope.code] ++ leBytes 2 n ++ leBytes n v.1 ++ leBytes n b.1 ++ leBytes n b.2 ++ asciiBytes o.name, v.2⟩)

def execDescribe (ses : SessId) (tag : Byte) (index : W16) (sub : Byte) (s : State) : Host.Outcome State Fault Refusal :=
  onLive (fun d => d.request ses 0x05 tag (fun d => d.describeReq ses index.toNat sub.toNat)) s

/-- An ABANDON discards the session's staging of the record at INDEX (R430). -/
def Device.abandonReq (d : Device) (ses : SessId) (index : Nat) : Answer :=
  let d := d.modSession ses (fun x =>
    let y := (x.expireAt d.devTime index).unstage index
    { y with segs := y.segs.filter (fun e => e.1.1 ≠ index) })
  ⟨if d.up 7 then .ok else .restarting, 0, [], d⟩

def execAbandon (ses : SessId) (tag : Byte) (index : W16) (s : State) : Host.Outcome State Fault Refusal :=
  onLive (fun d => d.request ses 0x06 tag (fun d => d.abandonReq ses index.toNat)) s

/-! ### Writes of single objects -/

/-- Descriptors that wait at the host/link movers, and that a new grant lets in (R190, R218). -/
def Device.hlArrivals (d : Device) : Device := (List.finRange 8).foldl (fun d n => d.takeArrivals (.hl n)) d

/-- Host/link grants (R218): no mover over 64 slots in total; no mover reserved twice. -/
def Device.setGrant (d : Device) (sub item v : Nat) : St × Device :=
  let others := (List.range 16).filter (· ≠ item)
  if sub = 1 then
    if v + (others.map (fun p => d.cfg 0x6090 1 p)).foldl (· + ·) 0 ≤ 64 then (.ok, (d.setCfg 0x6090 1 item v).hlArrivals) else (.grantExceeded, d)
  else if others.all (fun p => v &&& d.cfg 0x6090 2 p = 0) then (.ok, (d.setCfg 0x6090 2 item v).hlArrivals) else (.grantConflict, d)

/-- An object written with a value in range. What changes a clock limit reclocks (R404). -/
def Device.setObj (d : Device) (base sub item v : Nat) : St × Device :=
  if base = 0x6090 then d.setGrant sub item v
  else if base = 0x5400 ∧ sub = 5 then d.fitRequest v
  else if base = 0x1010 ∧ sub = 5 then d.applyRst v
  else if base = 0x6021 then (if v = 1 then (.ok, d.resetPartition (fin item) .command) else (.resetInvalid, d))
  else if base = 0x8800 then d.csetWrite (fin item) (fin (sub - 1)) v
  else if base = 0xA000 ∧ sub = 3 then d.alarmAck v
  else if base = 0xA200 ∧ sub = 7 then d.traceTrigger v
  else if base = 0xA200 ∧ sub = 8 then d.traceArm v
  else if base = 0xA300 then d.dbgFreeze v
  else if base = 0x3500 ∧ sub = 1 ∧ v = 0 then (.ok, (d.setCfg base sub item v).netDown (fin item))
  else if base = 0x2000 ∨ base = 0x2100 ∨ base = 0x6022 then (.ok, (d.setCfg base sub item v).reclock)
  else (.ok, d.setCfg base sub item v)

/-- The clamp log (R433): 256 entries; what an overwrite loses is counted in one marker. -/
def Device.logClamp (d : Device) (ses : SessId) (index sub written stored : Nat) : Device :=
  let e : ClampEntry := { owner := d.ownerSes ses, part := (sesPart ses).getD 0, index := BitVec.ofNat 16 index, sub := BitVec.ofNat 8 sub,
                          written := BitVec.ofNat 64 written, stored := BitVec.ofNat 64 stored, time := d.devTime }
  if d.clampLog.length < (if d.clampLost = 0 then 256 else 255) then { d with clampLog := d.clampLog ++ [e] }
  else
    let gone := if d.clampLost = 0 then 2 else 1
    { d with clampLog := d.clampLog.drop gone ++ [e], clampLost := d.clampLost + gone }

/-- A parameter written (R433): stored, or the nearest value in range stored and logged. tsync.rack_last is at least
tsync.rack_first (Table 13.13). -/
def Device.setParam (d : Device) (ses : SessId) (index : Nat) (o : Obj) (item v : Nat) : St × Nat × Device :=
  let c := o.rng.clamp v
  let w := if o.at_ = (0x3400, 5) then max c (d.cfg 0x3400 4 0) else c
  let r := d.setObj o.at_.1 o.at_.2 item w
  if w = v then (r.1, w, r.2) else (.acceptedClamped, w, r.2.logClamp ses index o.at_.2 v w)

/-- Whether bytes are a value of a type (R431): a BOOL is 0 or 1, an F32 no NaN. -/
def Ty.valid : Ty → Nat → Bool
  | .bool, v => v ≤ 1
  | .f32, v => v % 2 ^ 31 ≤ 0x7F800000
  | _, _ => true

/-- Interface versions are compatible: majors equal, the firmware's minor at least the driver's (R440). -/
def ifaceOk (peer : Nat) : Bool :=
  peer / 256 = Config.ifaceVersion.toNat / 256 && peer % 256 ≤ Config.ifaceVersion.toNat % 256

/-- A write of fw.iface.peer (R440): the first OWNER session after a device reset decides for the device; one that already
stays in HOLD_AUTH or FAILED stays there (R401, R402). -/
def Device.setPeer (d : Device) (ses : SessId) (v : Nat) : St × Device :=
  let d := d.modSession ses (fun x => { x with peer := BitVec.ofNat 16 v, peerOk := ifaceOk v })
  let d := if d.ownerSes ses && !d.firstOwner then
      { d with firstOwner := true, rst := { d.rst with state := if ifaceOk v ∨ d.rst.state = 8 ∨ d.rst.state = 10 then d.rst.state else 9 } } else d
  (if ifaceOk v then .ok else .versionMismatch, d)

/-! ### Commits (R434) -/

/-- A record applied whole or refused whole, by what its index holds. -/
def Device.applyRecord (d : Device) (o : Obj) (item : Nat) (g : Nat → Nat) (bs : List Byte) (v : Nat) : St × Device :=
  let p := objPart o.at_.1 item
  let own : St := match o.oor with
    | .refuse c => c
    | _ => .valueInvalid
  match o.at_.1 with
  | 0x6040 => d.applyWindow g p (fin item) v
  | 0x6080 => d.applyPool g p (fin item) v
  | 0x60A0 => d.applyGatherRing g p (fin item) v
  | 0x60E0 => d.applyCollRing g p v
  | 0x60C0 => d.applyForce g p v
  | 0x60D0 => d.applyAdmit g p v
  | 0x60B0 => d.applyCkpt g p v
  | 0x60F0 => d.applyRepair g p v
  | 0x6000 => if v = 1 then d.applyBind g p else (own, d)
  | 0x6010 => if v = 1 then d.applyCtx g p else (own, d)
  | 0x6024 => d.applyQueue g p v
  | 0x6025 => d.applyEvq g (.vf p) v
  | 0x1100 => d.applyEvq g .pf0 v
  | 0x3100 => d.applyPort g (fin item) v
  | 0x3200 => d.applyTable g bs (fin item) v
  | 0x3300 => d.applyLayout g (fin item) v
  | _ => (own, d)

/-- Fields of an accepted record that the dictionary itself keeps: selectors, and the sentinel and checkpoint records. -/
def Device.keepFields (d : Device) (base item : Nat) (g : Nat → Nat) : Device :=
  if hasSelector base then d.setCfg base 1 item (g 1)
  else if base = 0x60C0 ∨ base = 0x60B0 then [1, 2, 3, 4].foldl (fun d i => d.setCfg base i item (g i)) d
  else d

/-- A commit: an expired staging is refused once; otherwise staged and committed fields are combined, checked and applied. Acceptance
clears the staging, a refusal keeps it. -/
def Device.commit (d : Device) (ses : SessId) (index : Nat) (o : Obj) (item v : Nat) : St × Device :=
  if v ≤ 1 && (d.session ses).expired.contains index then
    (.stageExpired, d.modSession ses (fun x => { x with expired := x.expired.filter (· ≠ index) }))
  else
    let base := o.at_.1
    let g (sub : Nat) : Nat := d.field ses index base item sub
    let bs := if base = 0x3200 then (alGet (d.session ses).stagedBlob (index, 3)).getD (d.tableBytes (fin item)) else []
    let r := d.applyRecord o item g bs v
    if r.1 = .ok then
      let d := if v = 1 then r.2.keepFields base item g else r.2
      (.ok, d.modSession ses (fun x => x.unstage index))
    else r

/-! ### WRITE and WRITE_SEG -/

/-- A WRITE of an object whose access has been checked. -/
def Device.writeObj (d : Device) (ses : SessId) (index : Nat) (bytes : List Byte) (o : Obj) (item : Nat) : Answer :=
  let ty := o.ty.code
  let v := leNat bytes
  if o.ty.len ≠ some bytes.length then ⟨.typeMismatch, ty, [], d⟩
  else if !o.ty.valid v then ⟨.valueInvalid, ty, [], d⟩
  else
    let answer (r : St × Device) (out : List Byte) : Answer := ⟨r.1, ty, if r.1 = .ok || r.1 = .acceptedClamped then out else [], r.2⟩
    if isPeer o then answer (d.setPeer ses v) bytes
    else if o.at_.2 = 0xFF && isRecord o.at_.1 then answer (d.commit ses index o item v) bytes
    else if staged o then answer (.ok, d.modSession ses (fun x => x.stage d.devTime index o.at_.2 v)) bytes
    else if o.oor = .clamp then
      let r := d.setParam ses index o item v
      answer (r.1, r.2.2) (leBytes bytes.length r.2.1)
    else answer (d.setObj o.at_.1 o.at_.2 item v) bytes

/-- A WRITE request (R431 to R434): LEN above 4,080 is refused. -/
def Device.writeReq (d : Device) (ses : SessId) (tag : Byte) (index sub : Nat) (bytes : List Byte) : Device :=
  d.request ses 0x02 tag (fun d =>
    if bytes.length > 4080 then ⟨.valueInvalid, 0, [], d⟩
    else
      let d := d.modSession ses (fun x => x.expireAt d.devTime index)
      d.checked ses index sub false true (fun o item => d.writeObj ses index bytes o item))

def execWrite (ses : SessId) (tag : Byte) (index : W16) (sub : Byte) (value : List Byte) (s : State) : Host.Outcome State Fault Refusal :=
  onLive (fun d => d.writeReq ses tag index.toNat sub.toNat value) s

/-- A DOMAIN written whole. -/
def Device.setBlob (d : Device) (ses : SessId) (index : Nat) (o : Obj) (item : Nat) (bs : List Byte) : St × Device :=
  if staged o then
    (.ok, d.modSession ses (fun x =>
      { x with stagedBlob := alSet x.stagedBlob (index, o.at_.2) bs, stagedAt := alSet x.stagedAt index d.devTime }))
  else if o.at_ = (0x60C0, 5) then d.sentWrite (objPart o.at_.1 item) bs
  else if o.at_ = (0x5400, 3) then d.bundleWrite bs
  else if o.at_ = (0x5400, 0x0A) then d.retiredTilesWrite bs
  else if o.at_ = (0x4000, 6) then d.retiredPagesWrite bs
  else (.valueInvalid, d)

/-- A segment written (R435): ascending and contiguous from offset 0, where a write starts anew (log 28); LAST makes it take
effect. -/
def Device.writeSegObj (d : Device) (ses : SessId) (index off : Nat) (bytes : List Byte) (last : Bool) (o : Obj) (item : Nat) : Answer :=
  let ty := o.ty.code
  let key := (index, o.at_.2)
  if o.ty ≠ .domain then ⟨.typeMismatch, ty, [], d⟩
  else
    let sofar : Option (List Byte) := if off = 0 then some [] else (alGet (d.session ses).segs key).map (·.1)
    let drop := d.modSession ses (fun x => { x with segs := alErase x.segs key })
    match sofar with
    | none => ⟨.valueInvalid, ty, [], drop⟩
    | some bs =>
      if bs.length ≠ off then ⟨.valueInvalid, ty, [], drop⟩
      else if last then
        let r := drop.setBlob ses index o item (bs ++ bytes)
        ⟨r.1, ty, [], r.2⟩
      else ⟨.ok, ty, [], d.modSession ses (fun x => { x with segs := alSet x.segs key (bs ++ bytes, d.devTime) })⟩

/-- A WRITE_SEG request. -/
def Device.writeSegReq (d : Device) (ses : SessId) (tag : Byte) (index sub off : Nat) (bytes : List Byte) (last : Bool) : Device :=
  d.request ses 0x04 tag (fun d =>
    if bytes.length > 4080 then ⟨.valueInvalid, 0, [], d⟩
    else
      let d := d.modSession ses (fun x => x.expireAt d.devTime index)
      d.checked ses index sub false true (fun o item => d.writeSegObj ses index off bytes last o item))

def execWriteSeg (ses : SessId) (tag : Byte) (index : W16) (sub : Byte) (offset : W32) (value : List Byte) (last : Bool) (s : State) :
    Host.Outcome State Fault Refusal :=
  onLive (fun d => d.writeSegReq ses tag index.toNat sub.toNat offset.toNat value last) s

/-- A DOMAIN written in as many segments as it takes, all within one command. -/
def Device.writeWhole (d : Device) (ses : SessId) (index sub : Nat) (bs : List Byte) : Device :=
  d.request ses 0x04 0 (fun d =>
    d.checked ses index sub false true (fun o item =>
      let r := d.setBlob ses index o item bs
      ⟨r.1, o.ty.code, [], r.2⟩))

/-- STAGE_EXPIRY (R434): a staging not written for 5 s. -/
def execStageExpiry (ses : SessId) (index : W16) (s : State) : Host.Outcome State Fault Refusal :=
  onLive (fun d => if (d.session ses).open_ then d.modSession ses (fun x => x.expireAt d.devTime index.toNat) else d) s

end Sys2Proof.Machine
end

