-- ==== Sys2Proof/Machine/Commands.lean ====
section
/-! DEFINITION. The commands that are a write of one object of the dictionary: each is that WRITE by its session, with TAG 0. A commit
whose kind a staged field names (bind action, context command) is a command of that kind only; otherwise nothing happens (log 3). -/

namespace Sys2Proof.Machine

/-- Index of an object of a partition. -/
def partIndex (p : PartNo) (o : Nat) : Nat := 0x6000 + 0x100 * p.val + o

/-- A commit of a record. -/
def Device.commitReq (d : Device) (ses : SessId) (index v : Nat) : Device := d.writeReq ses 0 index 0xFF [BitVec.ofNat 8 v]

/-- A commit of 1 of a partition's record when a field of it holds `want`. -/
def Device.commitWhen (d : Device) (ses : SessId) (p : PartNo) (o sub want : Nat) : Device :=
  if d.field ses (partIndex p o) (0x6000 + o) p sub = want then d.commitReq ses (partIndex p o) 1 else d

/-- Commit of 1 of a window record (R165). -/
def execWindowOpen (ses : SessId) (p : PartNo) (w : WinNo) (s : State) : Host.Outcome State Fault Refusal :=
  onLive (fun d => d.commitReq ses (partIndex p (0x40 + w.val)) 1) s

/-- Commit of 0 of a window record (R168). -/
def execWindowClose (ses : SessId) (p : PartNo) (w : WinNo) (s : State) : Host.Outcome State Fault Refusal :=
  onLive (fun d => d.commitReq ses (partIndex p (0x40 + w.val)) 0) s

/-- Commit of 1 of a pool record (R212). -/
def execPoolOpen (ses : SessId) (p : PartNo) (n : PoolNo) (s : State) : Host.Outcome State Fault Refusal :=
  onLive (fun d => d.commitReq ses (partIndex p (0x80 + n.val)) 1) s

/-- Commit of 0 of a pool record (R213). -/
def execPoolClose (ses : SessId) (p : PartNo) (n : PoolNo) (s : State) : Host.Outcome State Fault Refusal :=
  onLive (fun d => d.commitReq ses (partIndex p (0x80 + n.val)) 0) s

/-- Commit of 1 of a job-ring record (R220). -/
def execGatherRingOpen (ses : SessId) (p : PartNo) (g : GatherNo) (s : State) : Host.Outcome State Fault Refusal :=
  onLive (fun d => d.commitReq ses (partIndex p (0xA0 + g.val)) 1) s

/-- Commit of 0 of a job-ring record (R220). -/
def execGatherRingClose (ses : SessId) (p : PartNo) (g : GatherNo) (s : State) : Host.Outcome State Fault Refusal :=
  onLive (fun d => d.commitReq ses (partIndex p (0xA0 + g.val)) 0) s

/-- Commit of 1 of a port record (R305). -/
def execPortEnable (ses : SessId) (p : PortNo) (s : State) : Host.Outcome State Fault Refusal :=
  onLive (fun d => d.commitReq ses (0x3100 + p.val) 1) s

/-- Commit of 0 of a port record (R305). -/
def execPortDisable (ses : SessId) (p : PortNo) (s : State) : Host.Outcome State Fault Refusal :=
  onLive (fun d => d.commitReq ses (0x3100 + p.val) 0) s

/-- Commit of 1 of a slice table (R315). -/
def execSliceTableLoad (ses : SessId) (k : SliceTab) (s : State) : Host.Outcome State Fault Refusal :=
  onLive (fun d => d.commitReq ses (0x3200 + k.val) 1) s

/-- Commit of 0 of a slice table (R315). -/
def execSliceTableRemove (ses : SessId) (k : SliceTab) (s : State) : Host.Outcome State Fault Refusal :=
  onLive (fun d => d.commitReq ses (0x3200 + k.val) 0) s

/-- Commit of 1 of a collective layout (R325). -/
def execCollLayoutLoad (ses : SessId) (k : SliceTab) (s : State) : Host.Outcome State Fault Refusal :=
  onLive (fun d => d.commitReq ses (0x3300 + k.val) 1) s

/-- Commit of 1 of a collective ring (R326). -/
def execCollRingOpen (ses : SessId) (p : PartNo) (s : State) : Host.Outcome State Fault Refusal :=
  onLive (fun d => d.commitReq ses (partIndex p 0xE0) 1) s

/-- Commit of 0 of a collective ring (R326). -/
def execCollRingClose (ses : SessId) (p : PartNo) (s : State) : Host.Outcome State Fault Refusal :=
  onLive (fun d => d.commitReq ses (partIndex p 0xE0) 0) s

/-- Commit of a binding record with action 0 (R345). -/
def execBindRelease (ses : SessId) (p : PartNo) (s : State) : Host.Outcome State Fault Refusal :=
  onLive (fun d => d.commitWhen ses p 0 5 0) s

/-- Commit of a binding record with action 1 (R345). -/
def execBindFreeResources (ses : SessId) (p : PartNo) (s : State) : Host.Outcome State Fault Refusal :=
  onLive (fun d => d.commitWhen ses p 0 5 1) s

/-- Commit of a binding record with action 2 (R345). -/
def execBindTake (ses : SessId) (p : PartNo) (s : State) : Host.Outcome State Fault Refusal :=
  onLive (fun d => d.commitWhen ses p 0 5 2) s

/-- Commit of a context record with command 0 (R358). -/
def execCtxSetPriority (ses : SessId) (p : PartNo) (s : State) : Host.Outcome State Fault Refusal :=
  onLive (fun d => d.commitWhen ses p 0x10 4 0) s

/-- Commit of a context record with command 1 (R355). -/
def execCtxStart (ses : SessId) (p : PartNo) (s : State) : Host.Outcome State Fault Refusal :=
  onLive (fun d => d.commitWhen ses p 0x10 4 1) s

/-- Commit of a context record with command 2 (R361). -/
def execCtxTearDown (ses : SessId) (p : PartNo) (s : State) : Host.Outcome State Fault Refusal :=
  onLive (fun d => d.commitWhen ses p 0x10 4 2) s

/-- A write of part.reset (R363). -/
def execPartitionReset (ses : SessId) (p : PartNo) (value : Byte) (s : State) : Host.Outcome State Fault Refusal :=
  onLive (fun d => d.writeReq ses 0 (partIndex p 0x21) 1 [value]) s

/-- Commit of 1 of an admission record (R273). -/
def execAdmitCommit (ses : SessId) (p : PartNo) (s : State) : Host.Outcome State Fault Refusal :=
  onLive (fun d => d.commitReq ses (partIndex p 0xD0) 1) s

/-- Commit of 0 of an admission record (R273). -/
def execAdmitWithdraw (ses : SessId) (p : PartNo) (s : State) : Host.Outcome State Fault Refusal :=
  onLive (fun d => d.commitReq ses (partIndex p 0xD0) 0) s

/-- Commit of a sentinel record (R261). -/
def execSentinelForceCommit (ses : SessId) (p : PartNo) (s : State) : Host.Outcome State Fault Refusal :=
  onLive (fun d => d.commitReq ses (partIndex p 0xC0) 1) s

/-- part.sentinel.entries written (R262). -/
def execSentinelEntriesWrite (ses : SessId) (p : PartNo) (records : List Byte) (s : State) : Host.Outcome State Fault Refusal :=
  onLive (fun d => d.writeWhole ses (partIndex p 0xC0) 5 records) s

/-- Commit of 1 of a repair record (R381). -/
def execRepairRegister (ses : SessId) (p : PartNo) (s : State) : Host.Outcome State Fault Refusal :=
  onLive (fun d => d.commitReq ses (partIndex p 0xF0) 1) s

/-- Commit of 0 of a repair record (R381). -/
def execRepairRemove (ses : SessId) (p : PartNo) (s : State) : Host.Outcome State Fault Refusal :=
  onLive (fun d => d.commitReq ses (partIndex p 0xF0) 0) s

/-- Commit of 1 of a checkpoint record (R383, R384). -/
def execCkptArm (ses : SessId) (p : PartNo) (s : State) : Host.Outcome State Fault Refusal :=
  onLive (fun d => d.commitReq ses (partIndex p 0xB0) 1) s

/-- Commit of 0 of a checkpoint record (R383). -/
def execCkptRelease (ses : SessId) (p : PartNo) (s : State) : Host.Outcome State Fault Refusal :=
  onLive (fun d => d.commitReq ses (partIndex p 0xB0) 0) s

/-- rel.fit.request of one tile (R388). -/
def execFitRequestTile (ses : SessId) (x : PhysNo) (s : State) : Host.Outcome State Fault Refusal :=
  onLive (fun d => d.writeReq ses 0 0x5400 5 (leBytes 2 x.val)) s

/-- rel.fit.request of 0xFFFF (R388). -/
def execFitRequestDevice (ses : SessId) (s : State) : Host.Outcome State Fault Refusal :=
  onLive (fun d => d.writeReq ses 0 0x5400 5 (leBytes 2 0xFFFF)) s

/-- rel.fit.bundle written (R387). -/
def execFitBundleWrite (ses : SessId) (bundle : List Byte) (s : State) : Host.Outcome State Fault Refusal :=
  onLive (fun d => d.writeWhole ses 0x5400 3 bundle) s

/-- rel.patch.retired written (R386). -/
def execPatchRetiredWrite (ses : SessId) (list : List Byte) (s : State) : Host.Outcome State Fault Refusal :=
  onLive (fun d => d.writeWhole ses 0x5400 0x0A list) s

/-- hbm.retired_pages written (R295). -/
def execHbmRetiredPagesWrite (ses : SessId) (list : List Byte) (s : State) : Host.Outcome State Fault Refusal :=
  onLive (fun d => d.writeWhole ses 0x4000 6 list) s

/-- A write of rst.command (R394). -/
def execRstCommand (ses : SessId) (value : Byte) (s : State) : Host.Outcome State Fault Refusal :=
  onLive (fun d => d.writeReq ses 0 0x1010 5 [value]) s

/-- Commit of 1 of a queue record (R420). -/
def execQueueCreate (ses : SessId) (p : PartNo) (s : State) : Host.Outcome State Fault Refusal :=
  onLive (fun d => d.commitReq ses (partIndex p 0x24) 1) s

/-- Commit of 0 of a queue record (R420). -/
def execQueueDelete (ses : SessId) (p : PartNo) (s : State) : Host.Outcome State Fault Refusal :=
  onLive (fun d => d.commitReq ses (partIndex p 0x24) 0) s

/-- Commit of 1 of an event-queue record (R425). -/
def execEvqOn (ses : SessId) (p : PartNo) (s : State) : Host.Outcome State Fault Refusal :=
  onLive (fun d => d.commitReq ses (partIndex p 0x25) 1) s

/-- Commit of 0 of an event-queue record (R425). -/
def execEvqOff (ses : SessId) (p : PartNo) (s : State) : Host.Outcome State Fault Refusal :=
  onLive (fun d => d.commitReq ses (partIndex p 0x25) 0) s

/-- Commit of 1 of the device event queue (R425). -/
def execDevEvqOn (ses : SessId) (s : State) : Host.Outcome State Fault Refusal :=
  onLive (fun d => d.commitReq ses (0x1100) 1) s

/-- Commit of 0 of the device event queue (R425). -/
def execDevEvqOff (ses : SessId) (s : State) : Host.Outcome State Fault Refusal :=
  onLive (fun d => d.commitReq ses (0x1100) 0) s

/-- A write of a counter control word (R448). -/
def execCounterSetControlWrite (ses : SessId) (k : Fin 32) (n : Fin 8) (v : W32) (s : State) : Host.Outcome State Fault Refusal :=
  onLive (fun d => d.writeReq ses 0 (0x8800 + k.val) (n.val + 1) (leBytes 4 v.toNat)) s

/-- A write of log.alarm.ack (R450). -/
def execAlarmAck (ses : SessId) (code source : W16) (s : State) : Host.Outcome State Fault Refusal :=
  onLive (fun d => d.writeReq ses 0 0xA000 3 (leBytes 2 code.toNat ++ leBytes 2 source.toNat)) s

/-- A write of trace.trigger (R454). -/
def execTraceTrigger (ses : SessId) (value : Byte) (s : State) : Host.Outcome State Fault Refusal :=
  onLive (fun d => d.writeReq ses 0 0xA200 7 [value]) s

/-- A write of trace.arm (R454). -/
def execTraceArm (ses : SessId) (value : Byte) (s : State) : Host.Outcome State Fault Refusal :=
  onLive (fun d => d.writeReq ses 0 0xA200 8 [value]) s

/-- A write of dbg.freeze (R457). -/
def execDbgFreeze (ses : SessId) (value : Byte) (s : State) : Host.Outcome State Fault Refusal :=
  onLive (fun d => d.writeReq ses 0 0xA300 1 [value]) s

end Sys2Proof.Machine
end

