-- ==== Sys2Proof/Machine/Mgmt.lean ====
section
/-! DEFINITION. The management paths: mailbox control and status registers (R10, R437), I3C (R428), ends of sessions (R427), firmware
update (R441, R442), SPDM (R444, R445). Codes and message layouts that the manual takes from PLDM and SPDM are those of the DMTF
specifications it names (log 16). -/

namespace Sys2Proof.Machine

/-! ### Ends of sessions (R427) -/

/-- A session ends with everything it staged; the last response stays. Its SPDM session ends with it. -/
def Device.endSession (d : Device) (ses : SessId) : Device :=
  let d := d.modSession ses (fun x => { Session.fresh false 0 with open_ := false, resp := x.resp })
  match alGet d.spdm ses with
  | some x => { d with spdm := alSet d.spdm ses { x with secured := 0, authOwner := false } }
  | none => d

/-- The session of a function's mailbox. -/
def fnSes : Fn → SessId
  | .pf0 => .pf0
  | .vf p => .vf p

def execSessionEnd (f : Fn) (s : State) : Host.Outcome State Fault Refusal := onLive (fun d => d.endSession (fnSes f)) s

/-- SESSION_TIMEOUT: 60 s without a message. -/
def Device.sessionTimeout (d : Device) (ses : SessId) : Device :=
  let x := d.session ses
  if sesMgmt ses && x.open_ && decide (d.since x.lastMsg ≥ 60000000000) then d.endSession ses else d

def execSessionTimeout (ses : SessId) (s : State) : Host.Outcome State Fault Refusal := onLive (fun d => d.sessionTimeout ses) s

/-! ### I3C (R428) -/

/-- The static address (R428). -/
def Device.staticAddr (d : Device) : Nat := 0x30 + d.rst.mgmtAddr.toNat

def execI3cSetdasa (addr dyn : BitVec 7) (s : State) : Host.Outcome State Fault Refusal :=
  onLive (fun d => if addr.toNat = d.staticAddr && d.i3cDyn.isNone then { d with i3cDyn := some dyn } else d) s

def execI3cEntdaa (dyn : BitVec 7) (s : State) : Host.Outcome State Fault Refusal :=
  onLive (fun d => if d.i3cDyn.isNone then { d with i3cDyn := some dyn } else d) s

/-- The sessions over I3C. -/
def Device.i3cSessions (d : Device) : List SessId :=
  (d.sessions.map (·.1)).filter (fun x => match x with
    | .i3c _ => true
    | _ => false)

def execI3cBusReset (s : State) : Host.Outcome State Fault Refusal :=
  onLive (fun d => d.i3cSessions.foldl (fun d x => d.endSession x) d) s

/-! ### Registers software writes (R10 to R12) -/

/-- A W1C write of an error word with a count in [15:0]: each 1 clears its bit, and a 1 in bit 15 the whole count. -/
def w1cCount {n : Nat} (w v mask : BitVec n) : BitVec n :=
  let x := w1c w v (mask ||| BitVec.ofNat n 0xFFFF)
  if bitOf v 15 then setFld x 0 16 0 else x

/-- A write of COLLAR_MBX_CTRL (Table 18.10): W1C bits, SESSION_END, IRQ_EN and VECTOR; GO is ignored while BUSY, else the agent
takes the request as soon as it serves the mailbox. -/
def Device.mbxWrite (d : Device) (f : Fn) (v : W64) : Device :=
  let w := d.mbxOf f
  let w := setFld (w1c w v 0xC) 5 8 (fld v 5 8)
  let w := if !bitOf v 0 then w
    else if bitOf w 1 then setBit w 3 true
    else if d.serves (fnSes f) && d.up 7 then setBit (setBit w 0 false) 1 true
    else setBit w 0 true
  let d := { d with mbx := alSet d.mbx f w }
  if bitOf v 4 then d.endSession (fnSes f) else d

/-- A vector's mask bit (R426): unmasked with its PBA bit set, it sends its message. -/
def Msix.setMask (now : W64) (m : Msix) (b : Bool) : Msix :=
  let m' := { m with masked := b }
  if !b && m.pba then { m' with pba := false }.signal now else m'

/-- Change one vector of a function's MSI-X table (R417, R426): 64 for PF0, 124 for a VF. -/
def Device.modMsix (d : Device) (f : Fn) (vec : Fin 124) (g : Msix → Msix) : Device :=
  match f with
  | .pf0 => if h : vec.val < 64 then { d with devMsix := d.devMsix.set vec.val (g (d.devMsix[vec.val])) } else d
  | .vf p => d.modPart p (fun q => { q with msix := q.msix.set vec (g (q.msix[vec])) })

/-- A write of a register by its access code: W1C bits clear, RW stores, RO and reserved bits ignore. -/
def Device.registerWrite (d : Device) (r : Reg) (v : W64) : Device :=
  let v32 : W32 := v.setWidth 32
  match r with
  | .cvtStatus t => d.modTile t (fun x => { x with cvtStatus := w1c x.cvtStatus v32 0xFF })
  | .accStatus t => d.modTile t (fun x => { x with accStatus := w1c x.accStatus v32 0x7 })
  | .vxStatus t => d.modTile t (fun x => { x with vxStatus := w1c x.vxStatus v32 0xF })
  | .faultInfo t => d.modTile t (fun x => { x with faultInfo := w1c x.faultInfo v 0x800 })
  | .pocketErr t => d.modTile t (fun x => { x with pocketErr := w1cCount x.pocketErr v 0x30000 })
  | .liningErr t => d.modTile t (fun x => { x with liningErr := w1cCount x.liningErr v32 0 })
  | .claspNote t => d.modTile t (fun x => { x with claspNote := w1c x.claspNote v32 0x1FFF })
  | .moverNote t => d.modTile t (fun x => { x with moverNote := w1c x.moverNote v32 0xFF })
  | .stackErr k => d.modStack k (fun x => { x with err := w1cCount x.err v 0xF0000 })
  | .mbxCtrl f => d.mbxWrite f v
  | .msixMask f vec => d.modMsix f vec (fun m => m.setMask d.devTime (bitOf v 0))
  | .msixAddr f vec => d.modMsix f vec (fun m => { m with addr := v })
  | .msixData f vec => d.modMsix f vec (fun m => { m with data := v32 })
  | .busMaster p => d.modPart p (fun q => { q with busMaster := bitOf v 0 })
  | .readOnly => d

def execRegisterWrite (r : Reg) (v : W64) (s : State) : Host.Outcome State Fault Refusal := onLive (fun d => d.registerWrite r v) s

/-! ### Firmware update (R441, R442) -/

/-- PLDM completion codes. -/
def pcOk : Byte := 0x00
def pcNotInUpdate : Byte := 0x80
def pcAlreadyInUpdate : Byte := 0x81
def pcOutOfRange : Byte := 0x82
def pcInvalidState : Byte := 0x84
def pcIncomplete : Byte := 0x85
def pcNotExpected : Byte := 0x88
def pcUnable : Byte := 0x8A

def Device.modFw (d : Device) (f : Fw → Fw) : Device := { d with fw := f d.fw }

/-- Ask for the next bytes of the image, 64 to 4,096 (Table 18.12): offset and length. -/
def Fw.askData (f : Fw) : Fw :=
  { f with requests := f.requests ++ [[0x15] ++ leBytes 4 f.image.length ++ leBytes 4 (max 64 (min 4096 (f.size - f.image.length)))] }

/-- TransferComplete, VerifyComplete or ApplyComplete with its result. -/
def Fw.tell (f : Fw) (code result : Byte) : Fw := { f with requests := f.requests ++ [[code, result]] }

/-- Descriptors (Table 18.12): PCI vendor ID, PCI device ID, vendor-defined "KZ9T-4A". -/
def pldmDescriptors : List Byte :=
  [0x03] ++ leBytes 2 0x0000 ++ leBytes 2 2 ++ leBytes 2 Config.pciVendor.toNat ++ leBytes 2 0x0100 ++ leBytes 2 2
    ++ leBytes 2 Config.pciDevice.toNat ++ leBytes 2 0xFFFF ++ leBytes 2 7 ++ asciiBytes "KZ9T-4A"

/-- Component parameters: running and pending firmware version, active bundle version. -/
def Device.fwParameters (d : Device) : List Byte :=
  leBytes 2 1 ++ leBytes 4 (d.fw.bankVer[d.fw.running]).toNat ++ leBytes 4 (d.fw.bankVer[d.fw.bankA]).toNat
    ++ leBytes 2 2 ++ leBytes 4 d.activeBundle.toNat

/-- A command that is for the update agent in some states of the update. -/
def Device.asAgent (d : Device) (ses : SessId) (ok : Fin 7 → Bool) (f : List Byte × Device) : List Byte × Device :=
  if d.fw.pldm = 0 then ([pcNotInUpdate], d)
  else if d.fw.agent ≠ some ses then ([pcNotExpected], d)
  else if !ok d.fw.pldm then ([pcInvalidState], d)
  else f

def Device.pldmRequest (d : Device) (ses : SessId) : List Byte × Device :=
  if d.fw.pldm ≠ 0 then ([pcAlreadyInUpdate], d)
  else if !d.ownerSes ses then ([pcUnable], d)
  else ([pcOk], d.modFw (fun f => { f with pldm := 1, agent := some ses, verified := false, image := [], size := 0, comp := 0, requests := [] }))

def Device.pldmTable (d : Device) (ses : SessId) (ids : List W16) : List Byte × Device :=
  d.asAgent ses (fun n => n = 1)
    (if ids.all (fun i => i = 1 || i = 2) && !ids.isEmpty then ([pcOk], d.modFw (fun f => { f with pldm := 2 })) else ([pcOutOfRange], d))

def Device.pldmUpdate (d : Device) (ses : SessId) (id : W16) (size : Nat) : List Byte × Device :=
  d.asAgent ses (fun n => n = 2)
    (if (id = 1 || id = 2) && decide (size > 0) then
      ([pcOk], d.modFw (fun f => { f with pldm := 3, comp := id, size := size, image := [], requests := [] }.askData))
     else ([pcOutOfRange], d))

/-- The bank that is not running. -/
def Fw.spare (f : Fw) : Fin 2 := if f.running = 0 then 1 else 0

/-- A whole component received: verified, and applied. Component 1 goes to the bank that is not running, marked invalid when it does
not verify; component 2 is a write of rel.fit.bundle (R442). -/
def Device.pldmVerify (d : Device) : Device :=
  let d := d.modFw (fun f => f.tell 0x16 0)
  let img := d.fw.image
  if d.fw.comp = 1 then
    let b := d.fw.spare
    if d.fw.verifies img then
      d.modFw (fun f => (({ f with bankVer := f.bankVer.set b (Config.fwVersion img), bankSec := f.bankSec.set b (Config.fwSecurityVersion img),
                                   bankValid := f.bankValid.set b true, verified := true, pldm := 2 } : Fw).tell 0x17 0).tell 0x18 0)
    else d.modFw (fun f => ({ f with bankValid := f.bankValid.set b false, pldm := 2 } : Fw).tell 0x17 1)
  else
    let r := d.bundleWrite img
    if r.1 = .ok then r.2.modFw (fun f => (({ f with pldm := 2 } : Fw).tell 0x17 0).tell 0x18 0)
    else d.modFw (fun f => ({ f with pldm := 2 } : Fw).tell 0x17 1)

/-- Bytes that answer RequestFirmwareData. The bank they go to is no longer valid. -/
def Device.pldmData (d : Device) (ses : SessId) (data : List Byte) : List Byte × Device :=
  d.asAgent ses (fun n => n = 3)
    (if data.isEmpty then ([pcOutOfRange], d)
     else
      let d := d.modFw (fun f =>
        { f with image := f.image ++ data.take (f.size - f.image.length), requests := [],
                 bankValid := if f.comp = 1 then f.bankValid.set f.spare false else f.bankValid,
                 verified := if f.comp = 1 then false else f.verified })
      ([pcOk], if d.fw.image.length ≥ d.fw.size then d.pldmVerify else d.modFw Fw.askData))

/-- ActivateFirmware (R442): the new image becomes bank A, the running one bank B; it runs from the next device reset. -/
def Device.pldmActivate (d : Device) (ses : SessId) : List Byte × Device :=
  d.asAgent ses (fun n => n = 2)
    (if d.fw.verified then ([pcOk], d.modFw (fun f => { f with bankA := f.spare, pldm := 0, agent := none }))
     else ([pcIncomplete], d))

def Device.pldmStatus (d : Device) : List Byte × Device := ([pcOk, BitVec.ofNat 8 d.fw.pldm.val], d)

def Device.pldmCancelComp (d : Device) (ses : SessId) : List Byte × Device :=
  d.asAgent ses (fun n => n = 3 || n = 4 || n = 5) ([pcOk], d.modFw (fun f => { f with pldm := 2, image := [], requests := [] }))

def Device.pldmCancel (d : Device) (ses : SessId) : List Byte × Device :=
  d.asAgent ses (fun _ => true) ([pcOk, 0], d.modFw (fun f => { f with pldm := 0, agent := none, image := [], requests := [], verified := false }))

/-- A PLDM message of a session: PF0's mailbox or a management path (Table 18.12); a VF's mailbox carries none (R428). -/
def Device.pldm (d : Device) (ses : SessId) (f : Device → List Byte × Device) : Device :=
  d.request ses 0x10 0 (fun d =>
    if sesPart ses ≠ none then ⟨.accessDenied, 0, [], d⟩
    else if !d.up 7 then ⟨.restarting, 0, [], d⟩
    else
      let r := f d
      ⟨.ok, 0, r.1, r.2.modFw (fun w => { w with reply := r.1 })⟩)

def execQueryDeviceIdentifiers (ses : SessId) (s : State) : Host.Outcome State Fault Refusal :=
  onLive (fun d => d.pldm ses (fun d => (pcOk :: pldmDescriptors, d))) s

def execGetFirmwareParameters (ses : SessId) (s : State) : Host.Outcome State Fault Refusal :=
  onLive (fun d => d.pldm ses (fun d => (pcOk :: d.fwParameters, d))) s

def execRequestUpdate (ses : SessId) (s : State) : Host.Outcome State Fault Refusal :=
  onLive (fun d => d.pldm ses (fun d => d.pldmRequest ses)) s

def execPassComponentTable (ses : SessId) (ids : List W16) (s : State) : Host.Outcome State Fault Refusal :=
  onLive (fun d => d.pldm ses (fun d => d.pldmTable ses ids)) s

def execUpdateComponent (ses : SessId) (id : W16) (size : W32) (s : State) : Host.Outcome State Fault Refusal :=
  onLive (fun d => d.pldm ses (fun d => d.pldmUpdate ses id size.toNat)) s

def execFirmwareData (ses : SessId) (data : List Byte) (s : State) : Host.Outcome State Fault Refusal :=
  onLive (fun d => d.pldm ses (fun d => d.pldmData ses data)) s

def execActivateFirmware (ses : SessId) (s : State) : Host.Outcome State Fault Refusal :=
  onLive (fun d => d.pldm ses (fun d => d.pldmActivate ses)) s

def execGetStatus (ses : SessId) (s : State) : Host.Outcome State Fault Refusal := onLive (fun d => d.pldm ses Device.pldmStatus) s

def execCancelUpdateComponent (ses : SessId) (s : State) : Host.Outcome State Fault Refusal :=
  onLive (fun d => d.pldm ses (fun d => d.pldmCancelComp ses)) s

def execCancelUpdate (ses : SessId) (s : State) : Host.Outcome State Fault Refusal :=
  onLive (fun d => d.pldm ses (fun d => d.pldmCancel ses)) s

/-- A PLDM firmware-update message by its command code, after the three header bytes (log 16). -/
def Device.pldmMessage (d : Device) (ses : SessId) (code : Byte) (body : List Byte) : List Byte × Device :=
  let num (o n : Nat) : Nat := leNat ((body.drop o).take n)
  if code = 0x01 then (pcOk :: pldmDescriptors, d)
  else if code = 0x02 then (pcOk :: d.fwParameters, d)
  else if code = 0x10 then d.pldmRequest ses
  else if code = 0x13 then d.pldmTable ses [BitVec.ofNat 16 (num 3 2)]
  else if code = 0x14 then d.pldmUpdate ses (BitVec.ofNat 16 (num 2 2)) (num 9 4)
  else if code = 0x15 then d.pldmData ses (body.drop 1)
  else if code = 0x1A then d.pldmActivate ses
  else if code = 0x1B then d.pldmStatus
  else if code = 0x1C then d.pldmCancelComp ses
  else if code = 0x1D then d.pldmCancel ses
  else ([0x05], d)

/-- MCTP_MSG (R428): over the mailbox of PF0, one PLDM message (type 0x01); an empty one takes the oldest pending request of the T9.
Any other type is refused. -/
def Device.mctpMsg (d : Device) (ses : SessId) (msg : List Byte) : Device :=
  if sesMgmt ses then d
  else d.request ses 0x10 0 (fun d =>
    if ses ≠ .pf0 then ⟨.accessDenied, 0, [], d⟩
    else if !d.up 7 then ⟨.restarting, 0, [], d⟩
    else match msg with
      | [] | [0x01] => ⟨.ok, 0, d.fw.requests.head?.getD [], d.modFw (fun f => { f with requests := f.requests.drop 1 })⟩
      | t :: _ :: _ :: code :: body =>
        if t ≠ 0x01 then ⟨.valueInvalid, 0, [], d⟩
        else
          let r := d.pldmMessage ses code body
          ⟨.ok, 0, r.1, r.2.modFw (fun w => { w with reply := r.1 })⟩
      | _ => ⟨.valueInvalid, 0, [], d⟩)

def execMctpMsg (ses : SessId) (msg : List Byte) (s : State) : Host.Outcome State Fault Refusal := onLive (fun d => d.mctpMsg ses msg) s

/-! ### SPDM (R444, R445) -/

def Spdm.reset : Spdm := { st := 0, secured := 0, mutual_ := false, authOwner := false, keyGen := 0, chunk := [], large := [], reply := [] }

def Device.spdmOf (d : Device) (ses : SessId) : Spdm := (alGet d.spdm ses).getD Spdm.reset

/-- An SPDM ERROR with its code: 1 invalid request, 4 unexpected request, 7 unsupported request. -/
def spdmError (code : Byte) : List Byte := [0x7F, code]

/-- Whether the part answers SPDM: while the security agent runs, from stage HOST, and in recovery over the management Ethernet from
the ROM (R401). -/
def Device.spdmServes (d : Device) (ses : SessId) : Bool :=
  d.up 7 && (decide (3 ≤ d.rst.state.val) || (d.rst.state = 2 && d.rst.bootSel = 3 && (match ses with
    | .eth _ => true
    | _ => false)))

/-- An SPDM request that the part answers; it counts as a message of the session (R427). The answer
is also what CHUNK_GET sends in portions. -/
def Device.spdmDo (d : Device) (ses : SessId) (f : Device → Spdm → List Byte × Spdm × Device) : Device :=
  if !d.spdmServes ses then d
  else
    let r := f d (d.spdmOf ses)
    let d := { r.2.2 with spdm := alSet r.2.2.spdm ses { r.2.1 with reply := r.1, large := r.1 } }
    if (d.session ses).open_ then d.modSession ses (fun x => { x with lastMsg := d.devTime }) else d

/-- A request that needs the connection at a stage; earlier it is unexpected. -/
def spdmNeeds (n : Nat) (f : Spdm → List Byte × Spdm) (d : Device) (x : Spdm) : List Byte × Spdm × Device :=
  if x.st.val < n then (spdmError 4, x, d) else ((f x).1, (f x).2, d)

/-- GET_VERSION: 1.2 and 1.3. -/
def execSpdmGetVersion (ses : SessId) (s : State) : Host.Outcome State Fault Refusal :=
  onLive (fun d => d.spdmDo ses (spdmNeeds 0 (fun x => ([0x04, 2] ++ leBytes 2 0x1200 ++ leBytes 2 0x1300, { x with st := 1 })))) s

/-- Capabilities: certificates, challenge, signed measurements, encryption, MAC, mutual authentication, key exchange, heartbeat, key
update, chunks. -/
def execSpdmGetCapabilities (ses : SessId) (s : State) : Host.Outcome State Fault Refusal :=
  onLive (fun d => d.spdmDo ses (spdmNeeds 1 (fun x => ([0x61] ++ leBytes 4 0x000263D6, { x with st := if x.st.val < 2 then 2 else x.st })))) s

/-- NEGOTIATE_ALGORITHMS: ECDSA P-384, SHA-384, ECDHE secp384r1, AES-256-GCM when the requester offers them. -/
def execSpdmNegotiateAlgorithms (ses : SessId) (offered : Bool) (s : State) : Host.Outcome State Fault Refusal :=
  onLive (fun d => d.spdmDo ses (spdmNeeds 2 (fun x =>
    if offered then ([0x63] ++ leBytes 4 0x80 ++ leBytes 4 0x2 ++ leBytes 2 0x10 ++ leBytes 2 0x2, { x with st := 3 }) else (spdmError 1, x)))) s

/-- GET_DIGESTS: slot 0 alone. -/
def execSpdmGetDigests (ses : SessId) (s : State) : Host.Outcome State Fault Refusal :=
  onLive (fun d => d.spdmDo ses (spdmNeeds 3 (fun x => ([0x01, 0x01] ++ Config.sha384 Config.certChain, x)))) s

/-- GET_CERTIFICATE: a portion of the slot 0 chain and the length that remains. -/
def execSpdmGetCertificate (ses : SessId) (slot : Byte) (offset len : W16) (s : State) : Host.Outcome State Fault Refusal :=
  onLive (fun d => d.spdmDo ses (spdmNeeds 3 (fun x =>
    if slot ≠ 0 ∨ offset.toNat > Config.certChain.length then (spdmError 1, x)
    else
      let part := (Config.certChain.drop offset.toNat).take len.toNat
      ([0x02] ++ leBytes 2 part.length ++ leBytes 2 (Config.certChain.length - offset.toNat - part.length) ++ part, x)))) s

/-- A signed answer: body, nonce of the requester covered, Alias signature (R444). -/
def withSig (body nonce : List Byte) : List Byte := body ++ Config.aliasSign (nonce ++ body)

/-- CHALLENGE on slot 0. -/
def execSpdmChallenge (ses : SessId) (slot : Byte) (nonce : List Byte) (s : State) : Host.Outcome State Fault Refusal :=
  onLive (fun d => d.spdmDo ses (spdmNeeds 3 (fun x =>
    if slot ≠ 0 then (spdmError 1, x) else (withSig ([0x03] ++ Config.sha384 Config.certChain) nonce, x)))) s

/-- A measurement block (Table 18.13). -/
def Device.measurement (d : Device) (k : Nat) : List Byte :=
  let body := match k with
    | 4 => Config.sha384 d.fw.bundle
    | 5 => Config.sha384 [BitVec.ofNat 8 Config.debugFuse.toNat, d.rst.bootSel.setWidth 8, d.fw.bootSecVersion]
    | k => Config.imageDigest k (d.fw.bankVer[d.fw.running])
  [BitVec.ofNat 8 k] ++ leBytes 2 body.length ++ body

/-- GET_MEASUREMENTS: 0 the number of blocks, 1 to 5 one block, 0xFF all; signed. -/
def Device.measurements (d : Device) (block : Byte) (nonce : List Byte) : List Byte :=
  let all : List Nat := [1, 2, 3, 4, 5]
  if block = 0 then withSig [0x60, 5] nonce
  else if block = 0xFF then withSig ([0x60, 5] ++ all.flatMap d.measurement) nonce
  else if block.toNat ∈ all then withSig ([0x60, 1] ++ d.measurement block.toNat) nonce
  else spdmError 1

def execSpdmGetMeasurements (ses : SessId) (block : Byte) (nonce : List Byte) (s : State) : Host.Outcome State Fault Refusal :=
  onLive (fun d => d.spdmDo ses (fun d x => spdmNeeds 3 (fun x => (d.measurements block nonce, x)) d x)) s

/-- KEY_EXCHANGE: on the MCTP paths only, with slot 0; the responder's share is a free value (log 7). -/
def execSpdmKeyExchange (ses : SessId) (slot : Byte) (peerKey : List Byte) (wantMutual : Bool) (s : State) :
    Host.Outcome State Fault Refusal :=
  onLive (fun d => d.spdmDo ses (fun d x =>
    if x.st.val < 3 then (spdmError 4, x, d)
    else if !sesMgmt ses then (spdmError 7, x, d)
    else if slot ≠ 0 then (spdmError 1, x, d)
    else (withSig ([0x64] ++ leBytes 8 d.free.1.toNat) peerKey, { x with secured := 1, mutual_ := wantMutual, authOwner := false }, d.free.2))) s

/-- The secured session is established; the dictionary session opens with it, at most eight in all. Its scope is fixed when it opens:
OWNER when the requester authenticates to mgmt.owner_anchor, and over I3C when mgmt.i3c_owner is 1 (Table 18.5). -/
def Device.spdmFinish (d : Device) (ses : SessId) (x : Spdm) (ok : Bool) (peerChain : List Byte) : List Byte × Spdm × Device :=
  let anchor := d.cfg 0x1200 4 0
  let own := x.mutual_ && decide (anchor ≠ 0) && Config.ownerChainOk (leBytes 48 anchor) peerChain
  let scope := own || (match ses with
    | .i3c _ => decide (d.cfg 0x1200 1 0 = 1)
    | _ => false)
  if x.secured ≠ 1 then (spdmError 4, x, d)
  else if !ok then (spdmError 1, { x with secured := 0 }, d)
  else
    let y := { x with secured := 2, authOwner := own, keyGen := 0 }
    if (d.session ses).open_ then ([0x65], y, d)
    else if d.mgmtOpen ≥ 8 then (spdmError 3, { x with secured := 0 }, d)
    else ([0x65], y, d.modSession ses (fun _ => Session.fresh scope d.devTime))

def execSpdmFinish (ses : SessId) (ok : Bool) (peerChain : List Byte) (s : State) : Host.Outcome State Fault Refusal :=
  onLive (fun d => d.spdmDo ses (fun d x => d.spdmFinish ses x ok peerChain)) s

/-- A request inside a secured session. -/
def spdmInside (f : Spdm → List Byte × Spdm) (d : Device) (x : Spdm) : List Byte × Spdm × Device :=
  if x.secured ≠ 2 then (spdmError 4, x, d) else ((f x).1, (f x).2, d)

def execSpdmHeartbeat (ses : SessId) (s : State) : Host.Outcome State Fault Refusal :=
  onLive (fun d => d.spdmDo ses (spdmInside (fun x => ([0x68], x)))) s

def execSpdmKeyUpdate (ses : SessId) (s : State) : Host.Outcome State Fault Refusal :=
  onLive (fun d => d.spdmDo ses (spdmInside (fun x => ([0x69], { x with keyGen := x.keyGen + 1 })))) s

/-- END_SESSION: the dictionary session ends with the secured one (R427). -/
def execSpdmEndSession (ses : SessId) (s : State) : Host.Outcome State Fault Refusal :=
  onLive (fun d => d.spdmDo ses (fun d x =>
    if x.secured ≠ 2 then (spdmError 4, x, d) else ([0x6C], { x with secured := 0, authOwner := false }, d.endSession ses))) s

/-- CHUNK_SEND: a chunk of a large message joins those before it; after the last the message is whole. -/
def execSpdmChunkSend (ses : SessId) (chunk : List Byte) (last : Bool) (s : State) : Host.Outcome State Fault Refusal :=
  onLive (fun d => d.spdmDo ses (spdmNeeds 2 (fun x => ([0x05, BitVec.ofNat 8 last.toNat], { x with chunk := x.chunk ++ chunk })))) s

/-- CHUNK_GET: the next portion of the last answer. -/
def Device.spdmChunkGet (d : Device) (ses : SessId) : Device :=
  let x := d.spdmOf ses
  if !d.spdmServes ses then d
  else
    let part := x.large.take Config.spdmChunk
    let y := if x.st.val < 2 then { x with reply := spdmError 4 } else { x with reply := [0x06] ++ part, large := x.large.drop part.length }
    let d := { d with spdm := alSet d.spdm ses y }
    if (d.session ses).open_ then d.modSession ses (fun z => { z with lastMsg := d.devTime }) else d

def execSpdmChunkGet (ses : SessId) (s : State) : Host.Outcome State Fault Refusal := onLive (fun d => d.spdmChunkGet ses) s

end Sys2Proof.Machine
end

