-- ==== Sys2Proof/Machine/Dispatch.lean ====
section
/-! DEFINITION. The dispatch: one arm per row of the opcode table. -/

namespace Sys2Proof.Machine

def exec (i : Instr) (s : State) : Host.Outcome State Fault Refusal :=
  match i with
  | .seqNop t => Sys2Proof.Machine.execSeqNop t s
  | .seqJmp t => Sys2Proof.Machine.execSeqJmp t s
  | .seqBr t => Sys2Proof.Machine.execSeqBr t s
  | .seqLoop t => Sys2Proof.Machine.execSeqLoop t s
  | .seqLend t => Sys2Proof.Machine.execSeqLend t s
  | .seqBld t => Sys2Proof.Machine.execSeqBld t s
  | .seqBset t => Sys2Proof.Machine.execSeqBset t s
  | .seqBadd t => Sys2Proof.Machine.execSeqBadd t s
  | .seqTokadd t => Sys2Proof.Machine.execSeqTokadd t s
  | .seqFsel t => Sys2Proof.Machine.execSeqFsel t s
  | .ldFill t ph => Sys2Proof.Machine.execLdFill t ph s
  | .ldTouch t ph => Sys2Proof.Machine.execLdTouch t ph s
  | .stPut t ph => Sys2Proof.Machine.execStPut t ph s
  | .stClw t ph => Sys2Proof.Machine.execStClw t ph s
  | .mmOpen t ph => Sys2Proof.Machine.execMmOpen t ph s
  | .mmLdb t ph => Sys2Proof.Machine.execMmLdb t ph s
  | .mmStrm t ph => Sys2Proof.Machine.execMmStrm t ph s
  | .mmDrain t ph => Sys2Proof.Machine.execMmDrain t ph s
  | .mmTileInit t => Sys2Proof.Machine.execMmTileInit t s
  | .vxMov t ph => Sys2Proof.Machine.execVxMov t ph s
  | .vxAdd t ph => Sys2Proof.Machine.execVxAdd t ph s
  | .vxSub t ph => Sys2Proof.Machine.execVxSub t ph s
  | .vxMul t ph => Sys2Proof.Machine.execVxMul t ph s
  | .vxFma t ph => Sys2Proof.Machine.execVxFma t ph s
  | .vxMax t ph => Sys2Proof.Machine.execVxMax t ph s
  | .vxMin t ph => Sys2Proof.Machine.execVxMin t ph s
  | .vxSfu t ph => Sys2Proof.Machine.execVxSfu t ph s
  | .vxRed t ph => Sys2Proof.Machine.execVxRed t ph s
  | .vxAmax t ph => Sys2Proof.Machine.execVxAmax t ph s
  | .vxCvt t ph => Sys2Proof.Machine.execVxCvt t ph s
  | .vxQuant t ph => Sys2Proof.Machine.execVxQuant t ph s
  | .vxRot t ph => Sys2Proof.Machine.execVxRot t ph s
  | .vxTopk t ph => Sys2Proof.Machine.execVxTopk t ph s
  | .vxTopkMerge t ph => Sys2Proof.Machine.execVxTopkMerge t ph s
  | .mvLaunch t ph => Sys2Proof.Machine.execMvLaunch t ph s
  | .mvSetprio t ph => Sys2Proof.Machine.execMvSetprio t ph s
  | .mvCancel t ph => Sys2Proof.Machine.execMvCancel t ph s
  | .clAdd t ph => Sys2Proof.Machine.execClAdd t ph s
  | .clSwap t ph => Sys2Proof.Machine.execClSwap t ph s
  | .clCas t ph => Sys2Proof.Machine.execClCas t ph s
  | .clAnd t ph => Sys2Proof.Machine.execClAnd t ph s
  | .clOr t ph => Sys2Proof.Machine.execClOr t ph s
  | .clMax t ph => Sys2Proof.Machine.execClMax t ph s
  | .clWatch t ph => Sys2Proof.Machine.execClWatch t ph s
  | .clWait t ph => Sys2Proof.Machine.execClWait t ph s
  | .clRead t ph => Sys2Proof.Machine.execClRead t ph s
  | .watchSlotAccept t => Sys2Proof.Machine.execWatchSlotAccept t s
  | .notifyApply t => Sys2Proof.Machine.execNotifyApply t s
  | .syLiningInv t ph => Sys2Proof.Machine.execSyLiningInv t ph s
  | .syFence t => Sys2Proof.Machine.execSyFence t s
  | .syStepCommit t => Sys2Proof.Machine.execSyStepCommit t s
  | .syYield t => Sys2Proof.Machine.execSyYield t s
  | .syEnd t => Sys2Proof.Machine.execSyEnd t s
  | .dispatchResume t => Sys2Proof.Machine.execDispatchResume t s
  | .engineStart t e => Sys2Proof.Machine.execEngineStart t e s
  | .instructionComplete t e k release => Sys2Proof.Machine.execInstructionComplete t e k release s
  | .reqTimeout r => Sys2Proof.Machine.execReqTimeout r s
  | .stepWatchdog c => Sys2Proof.Machine.execStepWatchdog c s
  | .engineStall t e => Sys2Proof.Machine.execEngineStall t e s
  | .kernelStart t => Sys2Proof.Machine.execKernelStart t s
  | .pocketCeWriteback t word => Sys2Proof.Machine.execPocketCeWriteback t word s
  | .liningFill t k => Sys2Proof.Machine.execLiningFill t k s
  | .windowOpen ses p w => Sys2Proof.Machine.execWindowOpen ses p w s
  | .windowClose ses p w => Sys2Proof.Machine.execWindowClose ses p w s
  | .windowClosed p w => Sys2Proof.Machine.execWindowClosed p w s
  | .contextExit c => Sys2Proof.Machine.execContextExit c s
  | .moverSelect m => Sys2Proof.Machine.execMoverSelect m s
  | .descriptorForward m => Sys2Proof.Machine.execDescriptorForward m s
  | .paceTimerStart m slot => Sys2Proof.Machine.execPaceTimerStart m slot s
  | .burstStart m => Sys2Proof.Machine.execBurstStart m s
  | .fillUnit m => Sys2Proof.Machine.execFillUnit m s
  | .channelEnd m slot => Sys2Proof.Machine.execChannelEnd m slot s
  | .channelStopped m slot => Sys2Proof.Machine.execChannelStopped m slot s
  | .channelEndReport t => Sys2Proof.Machine.execChannelEndReport t s
  | .poolOpen ses p n => Sys2Proof.Machine.execPoolOpen ses p n s
  | .poolClose ses p n => Sys2Proof.Machine.execPoolClose ses p n s
  | .gatherRingOpen ses p g => Sys2Proof.Machine.execGatherRingOpen ses p g s
  | .gatherRingClose ses p g => Sys2Proof.Machine.execGatherRingClose ses p g s
  | .gatherFwd g => Sys2Proof.Machine.execGatherFwd g s
  | .gatherBwd g => Sys2Proof.Machine.execGatherBwd g s
  | .gatherRcInv g => Sys2Proof.Machine.execGatherRcInv g s
  | .gatherProgress g => Sys2Proof.Machine.execGatherProgress g s
  | .gatherPhaseB g => Sys2Proof.Machine.execGatherPhaseB g s
  | .gatherJobEnd g => Sys2Proof.Machine.execGatherJobEnd g s
  | .tmemFail n => Sys2Proof.Machine.execTmemFail n s
  | .hbmCeWriteback page line => Sys2Proof.Machine.execHbmCeWriteback page line s
  | .peerRepairServe p range slot => Sys2Proof.Machine.execPeerRepairServe p range slot s
  | .peerRepairReply p => Sys2Proof.Machine.execPeerRepairReply p s
  | .peerRepairTimeout p => Sys2Proof.Machine.execPeerRepairTimeout p s
  | .peerVersionWaitExpiry p => Sys2Proof.Machine.execPeerVersionWaitExpiry p s
  | .scrubRead stk => Sys2Proof.Machine.execScrubRead stk s
  | .pageRemapDone page => Sys2Proof.Machine.execPageRemapDone page s
  | .stackFailure stk => Sys2Proof.Machine.execStackFailure stk s
  | .laneTrained n slow chip far => Sys2Proof.Machine.execLaneTrained n slow chip far s
  | .laneRetry n => Sys2Proof.Machine.execLaneRetry n s
  | .laneFailure n => Sys2Proof.Machine.execLaneFailure n s
  | .lcwReceive p l => Sys2Proof.Machine.execLcwReceive p l s
  | .linkPacketReceive p pkt => Sys2Proof.Machine.execLinkPacketReceive p pkt s
  | .holdWindowExpiry p => Sys2Proof.Machine.execHoldWindowExpiry p s
  | .laneSubstitution p failed spare => Sys2Proof.Machine.execLaneSubstitution p failed spare s
  | .portReturn p => Sys2Proof.Machine.execPortReturn p s
  | .portEnable ses p => Sys2Proof.Machine.execPortEnable ses p s
  | .portDisable ses p => Sys2Proof.Machine.execPortDisable ses p s
  | .sliceTableLoad ses k => Sys2Proof.Machine.execSliceTableLoad ses k s
  | .sliceTableRemove ses k => Sys2Proof.Machine.execSliceTableRemove ses k s
  | .routerForward src => Sys2Proof.Machine.execRouterForward src s
  | .routerStallDrop p reply cls => Sys2Proof.Machine.execRouterStallDrop p reply cls s
  | .pktWrite src => Sys2Proof.Machine.execPktWrite src s
  | .pktWriteF src => Sys2Proof.Machine.execPktWriteF src s
  | .pktRead src => Sys2Proof.Machine.execPktRead src s
  | .pktAtomic src => Sys2Proof.Machine.execPktAtomic src s
  | .pktWatch src => Sys2Proof.Machine.execPktWatch src s
  | .pktReadRsp src => Sys2Proof.Machine.execPktReadRsp src s
  | .pktWriteAck src => Sys2Proof.Machine.execPktWriteAck src s
  | .pktAtomicRsp src => Sys2Proof.Machine.execPktAtomicRsp src s
  | .pktNotify src => Sys2Proof.Machine.execPktNotify src s
  | .pktCollData src => Sys2Proof.Machine.execPktCollData src s
  | .collReady src => Sys2Proof.Machine.execCollReady src s
  | .collCredit src => Sys2Proof.Machine.execCollCredit src s
  | .collAbortReceive src => Sys2Proof.Machine.execCollAbortReceive src s
  | .pktTime src => Sys2Proof.Machine.execPktTime src s
  | .rackMarkEdge => Sys2Proof.Machine.execRackMarkEdge s
  | .rackRefLoss => Sys2Proof.Machine.execRackRefLoss s
  | .rackRefReturn => Sys2Proof.Machine.execRackRefReturn s
  | .ptpMessage m => Sys2Proof.Machine.execPtpMessage m s
  | .timePtpLost => Sys2Proof.Machine.execTimePtpLost s
  | .collLayoutLoad ses k => Sys2Proof.Machine.execCollLayoutLoad ses k s
  | .collRingOpen ses p => Sys2Proof.Machine.execCollRingOpen ses p s
  | .collRingClose ses p => Sys2Proof.Machine.execCollRingClose ses p s
  | .collAllReduce p => Sys2Proof.Machine.execCollAllReduce p s
  | .collReduceScatter p => Sys2Proof.Machine.execCollReduceScatter p s
  | .collAllGather p => Sys2Proof.Machine.execCollAllGather p s
  | .collBroadcast p => Sys2Proof.Machine.execCollBroadcast p s
  | .collTopkMerge p => Sys2Proof.Machine.execCollTopkMerge p s
  | .collChunkReduce p st => Sys2Proof.Machine.execCollChunkReduce p st s
  | .collComplete p => Sys2Proof.Machine.execCollComplete p s
  | .collStall p => Sys2Proof.Machine.execCollStall p s
  | .collNetLost p n => Sys2Proof.Machine.execCollNetLost p n s
  | .bindRelease ses p => Sys2Proof.Machine.execBindRelease ses p s
  | .bindFreeResources ses p => Sys2Proof.Machine.execBindFreeResources ses p s
  | .bindTake ses p => Sys2Proof.Machine.execBindTake ses p s
  | .rebindDrainDone p => Sys2Proof.Machine.execRebindDrainDone p s
  | .drainExpired p => Sys2Proof.Machine.execDrainExpired p s
  | .rebindComplete p => Sys2Proof.Machine.execRebindComplete p s
  | .contextSaveDone c => Sys2Proof.Machine.execContextSaveDone c s
  | .contextRestoreDone c => Sys2Proof.Machine.execContextRestoreDone c s
  | .ctxSetPriority ses p => Sys2Proof.Machine.execCtxSetPriority ses p s
  | .ctxStart ses p => Sys2Proof.Machine.execCtxStart ses p s
  | .ctxTearDown ses p => Sys2Proof.Machine.execCtxTearDown ses p s
  | .contextTeardown c => Sys2Proof.Machine.execContextTeardown c s
  | .partitionReset ses p value => Sys2Proof.Machine.execPartitionReset ses p value s
  | .vfFlr p => Sys2Proof.Machine.execVfFlr p s
  | .pf0Flr => Sys2Proof.Machine.execPf0Flr s
  | .admitCommit ses p => Sys2Proof.Machine.execAdmitCommit ses p s
  | .admitWithdraw ses p => Sys2Proof.Machine.execAdmitWithdraw ses p s
  | .admitLoadDone p => Sys2Proof.Machine.execAdmitLoadDone p s
  | .sentinelReport => Sys2Proof.Machine.execSentinelReport s
  | .commitDecision c => Sys2Proof.Machine.execCommitDecision c s
  | .residueReport u => Sys2Proof.Machine.execResidueReport u s
  | .replayRestart c => Sys2Proof.Machine.execReplayRestart c s
  | .auditRendezvous c agree => Sys2Proof.Machine.execAuditRendezvous c agree s
  | .stepBoundary c => Sys2Proof.Machine.execStepBoundary c s
  | .sliceDecisionExchange c promote demote => Sys2Proof.Machine.execSliceDecisionExchange c promote demote s
  | .sentinelForceCommit ses p => Sys2Proof.Machine.execSentinelForceCommit ses p s
  | .sentinelEntriesWrite ses p records => Sys2Proof.Machine.execSentinelEntriesWrite ses p records s
  | .repairRegister ses p => Sys2Proof.Machine.execRepairRegister ses p s
  | .repairRemove ses p => Sys2Proof.Machine.execRepairRemove ses p s
  | .ckptArm ses p => Sys2Proof.Machine.execCkptArm ses p s
  | .ckptRelease ses p => Sys2Proof.Machine.execCkptRelease ses p s
  | .ckptHold p => Sys2Proof.Machine.execCkptHold p s
  | .ckptExpired p => Sys2Proof.Machine.execCkptExpired p s
  | .suspicionDecay x => Sys2Proof.Machine.execSuspicionDecay x s
  | .tileFitting x => Sys2Proof.Machine.execTileFitting x s
  | .fittingDone x pass => Sys2Proof.Machine.execFittingDone x pass s
  | .fitDue x => Sys2Proof.Machine.execFitDue x s
  | .fitGraceExpiry x => Sys2Proof.Machine.execFitGraceExpiry x s
  | .fitRequestTile ses x => Sys2Proof.Machine.execFitRequestTile ses x s
  | .fitRequestDevice ses => Sys2Proof.Machine.execFitRequestDevice ses s
  | .fitBundleWrite ses bundle => Sys2Proof.Machine.execFitBundleWrite ses bundle s
  | .patchRetiredWrite ses list => Sys2Proof.Machine.execPatchRetiredWrite ses list s
  | .hbmRetiredPagesWrite ses list => Sys2Proof.Machine.execHbmRetiredPagesWrite ses list s
  | .powerOn => Sys2Proof.Machine.execPowerOn s
  | .rstNAssert => Sys2Proof.Machine.execRstNAssert s
  | .perstNAssert => Sys2Proof.Machine.execPerstNAssert s
  | .perstNDeassert => Sys2Proof.Machine.execPerstNDeassert s
  | .pcieHotReset => Sys2Proof.Machine.execPcieHotReset s
  | .pcieLinkLoss => Sys2Proof.Machine.execPcieLinkLoss s
  | .collarWatchdog => Sys2Proof.Machine.execCollarWatchdog s
  | .rstCommand ses value => Sys2Proof.Machine.execRstCommand ses value s
  | .fatalError f => Sys2Proof.Machine.execFatalError f s
  | .resetRelease => Sys2Proof.Machine.execResetRelease s
  | .resetEnd => Sys2Proof.Machine.execResetEnd s
  | .bringupStage r => Sys2Proof.Machine.execBringupStage r s
  | .thermalTrip sensor => Sys2Proof.Machine.execThermalTrip sensor s
  | .thermalTripClear => Sys2Proof.Machine.execThermalTripClear s
  | .collarCoreFail n => Sys2Proof.Machine.execCollarCoreFail n s
  | .fwComponentRestart n => Sys2Proof.Machine.execFwComponentRestart n s
  | .wakeGrant p => Sys2Proof.Machine.execWakeGrant p s
  | .levelDescend t => Sys2Proof.Machine.execLevelDescend t s
  | .levelIdle t => Sys2Proof.Machine.execLevelIdle t s
  | .pwrBrakeAssert => Sys2Proof.Machine.execPwrBrakeAssert s
  | .pwrBrakeRelease => Sys2Proof.Machine.execPwrBrakeRelease s
  | .thermalThrottleStep p sensor reading => Sys2Proof.Machine.execThermalThrottleStep p sensor reading s
  | .powerLimiterStep watts => Sys2Proof.Machine.execPowerLimiterStep watts s
  | .sqTailDoorbell p q v => Sys2Proof.Machine.execSqTailDoorbell p q v s
  | .cqHeadDoorbell p q v => Sys2Proof.Machine.execCqHeadDoorbell p q v s
  | .evqHeadDoorbell f v => Sys2Proof.Machine.execEvqHeadDoorbell f v s
  | .nop p q => Sys2Proof.Machine.execNop p q s
  | .stepRelease p q => Sys2Proof.Machine.execStepRelease p q s
  | .moverLaunch p q => Sys2Proof.Machine.execMoverLaunch p q s
  | .moverCancel p q => Sys2Proof.Machine.execMoverCancel p q s
  | .msixDeferredSend f vec => Sys2Proof.Machine.execMsixDeferredSend f vec s
  | .bar4Read p offset len => Sys2Proof.Machine.execBar4Read p offset len s
  | .bar4Write p offset data => Sys2Proof.Machine.execBar4Write p offset data s
  | .queueCreate ses p => Sys2Proof.Machine.execQueueCreate ses p s
  | .queueDelete ses p => Sys2Proof.Machine.execQueueDelete ses p s
  | .evqOn ses p => Sys2Proof.Machine.execEvqOn ses p s
  | .evqOff ses p => Sys2Proof.Machine.execEvqOff ses p s
  | .devEvqOn ses => Sys2Proof.Machine.execDevEvqOn ses s
  | .devEvqOff ses => Sys2Proof.Machine.execDevEvqOff ses s
  | .read ses tag index sub => Sys2Proof.Machine.execRead ses tag index sub s
  | .write ses tag index sub value => Sys2Proof.Machine.execWrite ses tag index sub value s
  | .readSeg ses tag index sub offset => Sys2Proof.Machine.execReadSeg ses tag index sub offset s
  | .writeSeg ses tag index sub offset value last => Sys2Proof.Machine.execWriteSeg ses tag index sub offset value last s
  | .describe ses tag index sub => Sys2Proof.Machine.execDescribe ses tag index sub s
  | .abandon ses tag index => Sys2Proof.Machine.execAbandon ses tag index s
  | .mctpMsg ses msg => Sys2Proof.Machine.execMctpMsg ses msg s
  | .sessionEnd f => Sys2Proof.Machine.execSessionEnd f s
  | .sessionTimeout ses => Sys2Proof.Machine.execSessionTimeout ses s
  | .stageExpiry ses index => Sys2Proof.Machine.execStageExpiry ses index s
  | .registerWrite r v => Sys2Proof.Machine.execRegisterWrite r v s
  | .i3cSetdasa addr dyn => Sys2Proof.Machine.execI3cSetdasa addr dyn s
  | .i3cEntdaa dyn => Sys2Proof.Machine.execI3cEntdaa dyn s
  | .i3cBusReset => Sys2Proof.Machine.execI3cBusReset s
  | .queryDeviceIdentifiers ses => Sys2Proof.Machine.execQueryDeviceIdentifiers ses s
  | .getFirmwareParameters ses => Sys2Proof.Machine.execGetFirmwareParameters ses s
  | .requestUpdate ses => Sys2Proof.Machine.execRequestUpdate ses s
  | .passComponentTable ses ids => Sys2Proof.Machine.execPassComponentTable ses ids s
  | .updateComponent ses id size => Sys2Proof.Machine.execUpdateComponent ses id size s
  | .firmwareData ses data => Sys2Proof.Machine.execFirmwareData ses data s
  | .activateFirmware ses => Sys2Proof.Machine.execActivateFirmware ses s
  | .getStatus ses => Sys2Proof.Machine.execGetStatus ses s
  | .cancelUpdateComponent ses => Sys2Proof.Machine.execCancelUpdateComponent ses s
  | .cancelUpdate ses => Sys2Proof.Machine.execCancelUpdate ses s
  | .spdmGetVersion ses => Sys2Proof.Machine.execSpdmGetVersion ses s
  | .spdmGetCapabilities ses => Sys2Proof.Machine.execSpdmGetCapabilities ses s
  | .spdmNegotiateAlgorithms ses offered => Sys2Proof.Machine.execSpdmNegotiateAlgorithms ses offered s
  | .spdmGetDigests ses => Sys2Proof.Machine.execSpdmGetDigests ses s
  | .spdmGetCertificate ses slot offset len => Sys2Proof.Machine.execSpdmGetCertificate ses slot offset len s
  | .spdmChallenge ses slot nonce => Sys2Proof.Machine.execSpdmChallenge ses slot nonce s
  | .spdmGetMeasurements ses block nonce => Sys2Proof.Machine.execSpdmGetMeasurements ses block nonce s
  | .spdmKeyExchange ses slot peerKey wantMutual => Sys2Proof.Machine.execSpdmKeyExchange ses slot peerKey wantMutual s
  | .spdmFinish ses ok peerChain => Sys2Proof.Machine.execSpdmFinish ses ok peerChain s
  | .spdmHeartbeat ses => Sys2Proof.Machine.execSpdmHeartbeat ses s
  | .spdmKeyUpdate ses => Sys2Proof.Machine.execSpdmKeyUpdate ses s
  | .spdmEndSession ses => Sys2Proof.Machine.execSpdmEndSession ses s
  | .spdmChunkSend ses chunk last => Sys2Proof.Machine.execSpdmChunkSend ses chunk last s
  | .spdmChunkGet ses => Sys2Proof.Machine.execSpdmChunkGet ses s
  | .counterSetControlWrite ses k n v => Sys2Proof.Machine.execCounterSetControlWrite ses k n v s
  | .alarmAck ses code source => Sys2Proof.Machine.execAlarmAck ses code source s
  | .traceTrigger ses value => Sys2Proof.Machine.execTraceTrigger ses value s
  | .traceArm ses value => Sys2Proof.Machine.execTraceArm ses value s
  | .traceFreeze => Sys2Proof.Machine.execTraceFreeze s
  | .freezeNAssert => Sys2Proof.Machine.execFreezeNAssert s
  | .dbgFreeze ses value => Sys2Proof.Machine.execDbgFreeze ses value s
  | .jtagScan instrument => Sys2Proof.Machine.execJtagScan instrument s
  | .burstDone m => Sys2Proof.Machine.execBurstDone m s
  | .rackMarkTimeout => Sys2Proof.Machine.execRackMarkTimeout s
  | .markEpochSend => Sys2Proof.Machine.execMarkEpochSend s
  | .clkDevtimeRead upper => Sys2Proof.Machine.execClkDevtimeRead upper s
  | .panelRailVoltageChange p mv => Sys2Proof.Machine.execPanelRailVoltageChange p mv s
  | .fwRestartComplete n => Sys2Proof.Machine.execFwRestartComplete n s
  | .tmemPortTrained n gib fullWidth fullRate => Sys2Proof.Machine.execTmemPortTrained n gib fullWidth fullRate s
  | .netPortDown n => Sys2Proof.Machine.execNetPortDown n s
  | .netPortUp n => Sys2Proof.Machine.execNetPortUp n s
  | .hostLinkDown => Sys2Proof.Machine.execHostLinkDown s
  | .hostLinkUp => Sys2Proof.Machine.execHostLinkUp s
  | .thermCuffHot sensor => Sys2Proof.Machine.execThermCuffHot sensor s

end Sys2Proof.Machine
end

