-- ==== Sys2Proof/Safety.lean ====
section
/-! DEFINITION. What counts as a safe machine, and the conditions on a state under which a command does its own work: the
terms the statements are made of. -/

namespace Sys2Proof.Machine

/-! ### Safe machines -/

/-- Every addressed store is in its canonical form: stacked memory, table memory, host memory, every pocket. -/
def Device.storesWf (d : Device) : Prop :=
  d.hbm.wf = true ∧ d.tmemBytes.wf = true ∧ d.hostMem.wf = true ∧ ∀ t : TileNo, (d.tiles[t]).pocket.wf = true

/-- The invariant of a run. -/
def State.safe (s : State) : Prop := s.dev.storesWf

/-! ### Tile programs -/

/-- The instruction word at PC. -/
def Tile.wordAt (x : Tile) : W128 := BitVec.ofNat 128 (x.pocket.word x.pc 16)

/-- The controller of a tile reaches an instruction of the named operation: the islands run, a kernel runs and is not
stalled, PC names a whole word below the clasp region, and no pocket word has an ECC error (R83, R88, R142). -/
def Device.fetches (d : Device) (t : TileNo) (op : TOp) : Bool :=
  let x := d.tiles[t]
  d.live && x.mode = .running && x.ctx.isSome && decide (x.pc + 16 ≤ claspBase) && x.pocketBad.isEmpty
    && decodeOp x.wordAt = some op

/-- The token counters after an instruction's wait clause and its signal (R95, R96). -/
def Tile.tokAfter (x : Tile) (w : W128) : Vector Byte 8 :=
  let a := (x.consume w).tok
  if wSen w then a.set (wStok w) (a[wStok w] + 1) else a

/-- The signal of a word does not overflow its counter (R98). -/
def Tile.tokRoom (x : Tile) (w : W128) : Bool := !wSen w || decide (((x.consume w).tok[wStok w]).toNat < 255)

/-- The controller reaches an instruction that it executes itself, whose wait clause and bound registers hold. -/
def Device.seqReady (d : Device) (t : TileNo) (op : TOp) : Bool :=
  let x := d.tiles[t]
  d.fetches t op && !x.waits x.wordAt && !x.bldPending (issueRegs op x.wordAt []) && x.tokRoom x.wordAt

/-- The part with one tile changed and that instruction's tokens moved. -/
def seqNext (s : State) (t : TileNo) (f : Tile → Tile) : State :=
  { s with dev := s.dev.modTile t (fun x => { f x with tok := x.tokAfter x.wordAt }) }

/-- A SY instruction of the controller may run: no output tile open (but for FENCE) and the named engines drained (R111). -/
def Device.syReady (d : Device) (t : TileNo) (op : TOp) : Bool :=
  let x := d.tiles[t]
  d.seqReady t op && (op = .fence || !x.mm.issueOpen) && x.drained (if op = .fence then syMask x.wordAt else 15)

/-- The rows of loads and stores. -/
def loadStoreRows : List ((TileNo → Phase → Instr) × TOp) := [(.ldFill, .fill), (.ldTouch, .touch), (.stPut, .put), (.stClw, .clw)]

/-- The rows of the tensor array. -/
def tensorRows : List ((TileNo → Phase → Instr) × TOp) := [(.mmOpen, .mmOpen), (.mmLdb, .ldb), (.mmStrm, .strm), (.mmDrain, .drain)]

/-- The rows of the vector engine that compute element by element. -/
def elementRows : List ((TileNo → Phase → Instr) × TOp) :=
  [(.vxMov, .mov), (.vxAdd, .add), (.vxSub, .sub), (.vxMul, .mul), (.vxFma, .fma), (.vxMax, .max), (.vxMin, .min), (.vxSfu, .sfu)]

/-- The rows of the vector engine's other units. -/
def unitRows : List ((TileNo → Phase → Instr) × TOp) :=
  [(.vxRed, .red), (.vxAmax, .amax), (.vxCvt, .cvt), (.vxQuant, .quant), (.vxRot, .rot), (.vxTopk, .topk), (.vxTopkMerge, .topkMerge)]

/-- The rows of the vector engine. -/
def vectorRows : List ((TileNo → Phase → Instr) × TOp) := elementRows ++ unitRows

/-- The rows of the tile mover. -/
def moverRows : List ((TileNo → Phase → Instr) × TOp) := [(.mvLaunch, .launch), (.mvSetprio, .setprio), (.mvCancel, .cancel)]

/-- The rows of clasp operations, and SY LINING_INV. -/
def clRows : List ((TileNo → Phase → Instr) × TOp) :=
  [(.clAdd, .clAdd), (.clSwap, .clSwap), (.clCas, .clCas), (.clAnd, .clAnd), (.clOr, .clOr), (.clMax, .clMax), (.clWatch, .clWatch),
   (.clWait, .clWait), (.clRead, .clRead), (.syLiningInv, .inval)]

/-- Rows that the controller puts into an engine queue, with their operations (Tables 4.2, 4.4 to 4.13). -/
def queuedRows : List ((TileNo → Phase → Instr) × TOp) := loadStoreRows ++ tensorRows ++ vectorRows ++ moverRows ++ clRows

/-- The k-th started instruction of an engine is `f`, of the named operation, and may be performed; its tile belongs to a
partition and a context, and no pocket word of the tile has an ECC error. -/
def Device.performs (d : Device) (t : TileNo) (e : Eng) (k : Nat) (op : TOp) (f : Flight) : Bool :=
  d.live && d.ready t e k op = some f && (d.owner t).isSome && (d.tiles[t]).pocketBad.isEmpty

/-- The started instructions of an engine once the k-th has performed its accesses and awaits `n` replies. -/
def Tile.flightDone (x : Tile) (now : W64) (e : Eng) (k n : Nat) : Vector (List Flight) 4 :=
  x.flight.set e.idx ((x.flight[e.idx]).modify k
    (fun f => { f with performed := true, awaits := n, buf := none, sentAt := now }))

/-- Every range a VX instruction reads or writes lies below the clasp region (R119, R142). -/
def Entry.vxInside (e : Entry) (op : TOp) : Bool :=
  let v := vxRanges op e.word (e.recs.getD 0 0) (vxN e)
  (v.reads ++ v.inplace ++ v.writes).all (fun r => r.2 = 0 || decide (r.1 + r.2 ≤ claspBase))

/-- A started vector instruction that may be performed, was issued without a fault, has elements, and stays inside. -/
def Device.vxPerforms (d : Device) (t : TileNo) (k : Nat) (op : TOp) (f : Flight) : Bool :=
  d.performs t .vx k op f && decide (0 < vxN f.e) && (vxFaults op f.e.word f.e.recs f.e.bnd).isEmpty && f.e.vxInside op

/-- What a vector instruction leaves in the part: bytes in the pocket and flags; nothing else but its own progress. -/
def Device.vxLeaves (d : Device) (t : TileNo) (k : Nat) (off : Nat) (bs : List Byte) (vx : W32) : Device :=
  d.modTile t (fun x => { x with pocket := x.pocket.write off bs, vxStatus := x.vxStatus ||| vx,
                                 flight := x.flightDone d.devTime .vx k 0 })

/-- The source elements of a vector instruction at an offset, decoded (R117). -/
def Tile.vxSrc (x : Tile) (e : Entry) (off : Nat) : List W32 := vxDecode e.word (x.pocket.read off (vxN e * vfBytes e.word))

/-! ### Clasps and movers -/

/-- Rows of the CL atomics and CL.READ, with their operations and the codes of Table 4.12. -/
def claspRows : List ((TileNo → Phase → Instr) × TOp × Nat) :=
  [(.clAdd, .clAdd, 1), (.clSwap, .clSwap, 2), (.clCas, .clCas, 3), (.clAnd, .clAnd, 4), (.clOr, .clOr, 5), (.clMax, .clMax, 6),
   (.clRead, .clRead, 10)]

/-- A clasp operation of context `c` on tile `t` reaches a tile of its own partition directly: the target is bound to it, no
pocket word of either has an ECC error, and no replay, audit or fence stands before it (R164, R372, R376, R379). -/
def Device.clDirect (d : Device) (t : TileNo) (p : PartNo) (c : CtxNo) (u : TileNo) : Bool :=
  (d.tiles[u]).bound = some p && (d.tiles[t]).pocketBad.isEmpty && (d.tiles[u]).pocketBad.isEmpty
    && (d.ctxs[c]).auditTile ≠ some t && (d.tiles[t]).toMatch.isNone && (d.ctxs[c]).suspectUnit.isNone

/-- A started CL instruction that may be performed on a clasp of the partition of its tile. -/
def Device.clPerforms (d : Device) (t : TileNo) (k : Nat) (op : TOp) (e : Eng) (f : Flight) (p : PartNo) (c : CtxNo) (u : TileNo) :
    Bool :=
  d.live && d.readyAny t k op = some (e, f) && d.owner t = some (p, c) && clScope f.e.word ≤ 1
    && d.clTarget t p f.e.word = some (d.chipId.toNat, u.val) && d.clDirect t p c u && decide (clClasp f.e.word < 48)
    && (!clVsrc f.e.word || decide (clPoff f.e.word + 16 ≤ claspBase))

/-- The argument a CL instruction of tile `t` at PC `pc` carries to the clasp unit (R172): VAL, or the operand words of the pocket. -/
def Tile.clArgOf (x : Tile) (w : W128) (code : Nat) (c : CtxNo) (t : TileNo) (pc : Nat) : ClArg :=
  { op := code, vsrc := clVsrc w, own := some c, by_ := some (t, pc),
    w0 := if clVsrc w then (if code = clReadOp then 0 else BitVec.ofNat 64 (x.pocket.word (clPoff w) 8)) else BitVec.ofNat 64 (clVal w),
    w1 := if clVsrc w && code = clCasOp then BitVec.ofNat 64 (x.pocket.word (clPoff w + 8) 8) else 0 }

/-- The slot a mover selects (R200): READY, of the highest priority, and of these the lowest number. -/
def Mover.selects (q : Mover) (k : Nat) : Prop :=
  k < q.slots.length ∧ (q.slot k).st = .ready ∧
    ∀ j < q.slots.length, (q.slot j).st = .ready →
      (q.slot j).prio < (q.slot k).prio ∨ ((q.slot j).prio = (q.slot k).prio ∧ k ≤ j)

/-! ### Gather engines -/

/-- An engine works on a job of the named operation: read, not yet ended and, for a forward job, its context not about
to be replayed (R221, R357, R374). -/
def Device.atWork (d : Device) (g : GatherNo) (j : Job) (op : Nat) : Bool :=
  let x := d.ctxs[(d.gather[g]).ring.ctx]
  d.live && (d.gather[g]).job = some j && gOp j.d = op && !j.done && !j.reading && (op ≠ 0 || !x.replayDue)

/-! ### The parameter dictionary and the management paths -/

/-- The agent runs and takes requests of an open session (R427, R439). -/
def Device.asks (d : Device) (ses : SessId) : Bool := d.live && d.serves ses && (d.session ses).open_ && d.up 7

/-- The part answers SPDM requests, and the connection of a requester stands at `x` (R444). -/
def Device.spdmAt (d : Device) (ses : SessId) (x : Spdm) : Bool :=
  d.live && decide (3 ≤ d.rst.state.val) && d.up 7 && d.spdmOf ses = x

/-- An SPDM request is answered with `reply`, and leaves the connection at `x`. -/
def spdmAnswers (c : Instr) (ses : SessId) (s : State) (reply : List Byte) (x : Spdm) : Prop :=
  ∃ u, exec c s = .next u ∧ u.pending = s.pending ∧ u.dev.spdmOf ses = { x with reply := reply, large := reply }

/-- The agent takes a request of an open session for an object and finds nothing against it before its value is looked at
(R427, R429, R430, R432, R439, R440). -/
def Device.agent (d : Device) (ses : SessId) (index sub : Nat) (write : Bool) : Bool :=
  d.live && d.serves ses && (d.session ses).open_ &&
    (match objOf index sub with
     | some (o, item) => (d.openness ses o.at_.1).isNone && d.reaches ses o item write
     | none => false)

/-- What a session staged for an index, if anything, has not expired (R434). -/
def Device.stagedFresh (d : Device) (ses : SessId) (index : Nat) : Bool :=
  !(d.session ses).expired.contains index &&
    (match alGet (d.session ses).stagedAt index with
     | some t => decide (d.since t < stageLife)
     | none => true)

/-- A commit request that reaches the record of an index: its object, the item, and the fields as the session sees them. -/
def Device.commits (d : Device) (ses : SessId) (index : Nat) (item : Nat) (g : Nat → Nat) : Prop :=
  d.agent ses index 0xFF true = true ∧ d.stagedFresh ses index = true ∧
    ∃ o, objOf index 0xFF = some (o, item) ∧ ∀ sub, g sub = d.field ses index o.at_.1 item sub

/-- The status of the last answer a session was given. -/
def Device.answered (d : Device) (ses : SessId) : W16 := (d.session ses).resp.status

/-- A command is performed and answered OK, and the part it leaves satisfies `post`. -/
def answersOk (c : Instr) (ses : SessId) (s : State) (post : Device → Prop) : Prop :=
  ∃ u, exec c s = .next u ∧ u.pending = s.pending ∧ u.dev.answered ses = 0 ∧ post u.dev

/-- The entry of the binding table for resource `n` of a kind other than pages and granules (Table 15.1). -/
def Device.boundTo (d : Device) (kind n : Nat) : Option PartNo :=
  match kind with
  | 0 => (d.ctxs[(fin n : CtxNo)]).part
  | 1 => (d.tiles[(fin n : TileNo)]).bound
  | 4 => (d.gather[(fin n : GatherNo)]).bound
  | 5 => (d.bulkBound[(fin n : BulkNo)]).map (·.1)
  | 6 => (d.lanes[(fin n : LaneNo)]).bound
  | 7 => d.sentinelSets[(fin n : Fin 32)]
  | 8 => d.csetBound[(fin n : Fin 32)]
  | _ => none

/-- No context runs, or may be started by a change of the binding table. -/
def Device.idleCtxs (d : Device) : Prop :=
  ∀ c : CtxNo, (d.ctxs[c]).st ≠ .ready ∧ (d.ctxs[c]).st ≠ .saved ∧ (d.ctxs[c]).st ≠ .suspended ∧ (d.ctxs[c]).st ≠ .running

/-! ### Collectives, resets, what is always on -/

/-- Rows by which a sequencer takes a collective, with OP of Table 14.3. -/
def collRows : List ((PartNo → Instr) × Nat) :=
  [(.collAllReduce, 0), (.collReduceScatter, 1), (.collAllGather, 2), (.collBroadcast, 3), (.collTopkMerge, 4)]

/-- Commands that start a device reset whatever rst.host_scope says, with their codes of Table 17.2. -/
def resetRows : List (Instr × Fin 9) :=
  [(.rstNAssert, 1), (.collarWatchdog, 5), (.fatalError .rail, 8), (.fatalError .collarCores, 8)] ++
    (List.finRange 64).map (fun n => (.thermalTrip n, 6))

/-- Commands that start one when rst.host_scope is 0. -/
def hostRows : List (Instr × Fin 9) := [(.perstNAssert, 2), (.pcieHotReset, 3), (.pcieLinkLoss, 4)]

/-- The start of a device reset (R395 to R398): its cause recorded, the count advanced, contents lost, the always-on domain's kept, the pages
due for retirement retired; while one is held a further source only sets its bit of SECONDARY. -/
def resetStarts (c : Instr) (k : Fin 9) (s : State) : Prop :=
  ∃ u, exec c s = .next u ∧ u.dev.rst.held = true ∧ u.dev.devTime = s.dev.devTime ∧ u.dev.errLog = s.dev.errLog ∧
    u.dev.retiredTiles = s.dev.retiredTiles ∧ u.dev.hostMem = s.dev.hostMem ∧
    (s.dev.rst.held = false → u.dev.rst.cause = k ∧ u.dev.rst.secondary = 0 ∧ u.dev.rst.count = s.dev.rst.count + 1 ∧
      u.dev.retiredPages = (s.dev.retiredPages ++ s.dev.dueRetire).eraseDups ∧ u.dev.tiles = Device.reset.tiles ∧ u.dev.ctxs = Device.reset.ctxs ∧ u.dev.hbm = []) ∧
    (s.dev.rst.held = true → u.dev.rst.cause = s.dev.rst.cause ∧ u.dev.rst.count = s.dev.rst.count ∧
      u.dev.retiredPages = s.dev.retiredPages ∧ (k ≠ s.dev.rst.cause → u.dev.rst.secondary.getLsbD k.val = true))

/-- Commands that the part takes even while a device reset is held or it is frozen: pins, reset, time, and the host's reads. -/
def alwaysOn : Instr → Bool
  | .powerOn | .rstNAssert | .perstNAssert | .perstNDeassert | .pcieHotReset | .pcieLinkLoss | .collarWatchdog | .fatalError _
  | .resetRelease | .resetEnd | .thermalTrip _ | .thermalTripClear | .hostLinkDown | .hostLinkUp | .pwrBrakeAssert | .pwrBrakeRelease
  | .rackMarkEdge | .rackRefLoss | .rackRefReturn | .rackMarkTimeout | .clkDevtimeRead _ | .freezeNAssert | .jtagScan _
  | .vfFlr _ | .pf0Flr | .bar4Read _ _ _ => true
  | _ => false

/-- A part that stands still: a reset is held or it is frozen, only commands wait that need its islands, and it is `k` but for
the passing of time. -/
def State.standsAs (k : Device) (s : State) : Prop :=
  s.dev.live = false ∧ (∀ c ∈ s.pending, c.wf = true ∧ alwaysOn c = false) ∧
    s.dev = { k with devTime := s.dev.devTime, tsync := s.dev.tsync }

end Sys2Proof.Machine
end

