-- ==== Sys2Proof/Certificates/Slice0/Obligations.lean ====
section
/-! DEFINITION. The statements about the T9 that the provers are asked for. -/

open Sys2Proof Sys2Proof.Machine

/-! ## The machine as a whole -/

/-- A step takes the command at the front of the queue and runs it with the queue's rest. -/
def Obligations.StepRunsFrontCommand : Prop :=
  ∀ (c : Instr) (rest : List Instr) (s : State), s.pending = c :: rest → step s = exec c { s with pending := rest }

/-- Every well-formed command answers a next state with the queue untouched, whatever the state; an ill-formed one stops
with the fault that says so (log 4). -/
def Obligations.WellFormedCommandsComplete : Prop :=
  ∀ (c : Instr) (s : State),
    (c.wf = true → ∃ t, exec c s = .next t ∧ t.pending = s.pending) ∧ (c.wf = false → exec c s = .fault .illFormed)

/-- The invariant: every store keeps its canonical form in every step of every command. -/
def Obligations.StoresStayCanonical : Prop :=
  ∀ s t : State, s.safe → step s = .next t → t.safe

/-! ## The tile controller (R83 to R99, R113) -/

/-- What a ready SEQ instruction that only moves PC, bound registers or loop counters leaves (R85, R95, R96, R99). -/
def Obligations.SeqResults : Prop :=
  ∀ (s : State) (t : TileNo), let x := s.dev.tiles[t]; let w := x.wordAt
    (s.dev.seqReady t .nop = true → exec (.seqNop t) s = .next (seqNext s t (fun x => { x with pc := x.pc + 16 }))) ∧
    (s.dev.seqReady t .jmp = true → exec (.seqJmp t) s = .next (seqNext s t (fun x => { x with pc := 16 * fld w 32 17 }))) ∧
    (s.dev.seqReady t .br = true → ∀ a b : W32, a = x.bnd[(fin (fld w 32 4) : Fin 16)] → b = BitVec.ofNat 32 (fld w 38 32) →
      exec (.seqBr t) s = .next (seqNext s t (fun x => 
        { x with pc := (if (fld w 36 2 = 0 ∧ a = b) ∨ (fld w 36 2 = 1 ∧ a ≠ b) ∨ (fld w 36 2 = 2 ∧ a.toNat < b.toNat) ∨
                           (fld w 36 2 = 3 ∧ b.toNat ≤ a.toNat) then (16 * fld w 70 17) else (x.pc + 16)) }))) ∧
    (s.dev.seqReady t .loop = true → ∀ n : Nat, n = extent (fld w 34 16) x.bnd → n ≤ 65535 →
      exec (.seqLoop t) s = .next (seqNext s t (fun x =>
        { x with lc := x.lc.set (fin (fld w 32 2) : Fin 4) (BitVec.ofNat 32 n),
                 pc := if n = 0 then 16 * fld w 50 17 else x.pc + 16 }))) ∧
    (s.dev.seqReady t .lend = true → ∀ n : W32, n = x.lc[(fin (fld w 32 2) : Fin 4)] - 1 →
      exec (.seqLend t) s = .next (seqNext s t (fun x =>
        { x with lc := x.lc.set (fin (fld w 32 2) : Fin 4) n, pc := if n ≠ 0 then 16 * fld w 34 17 else x.pc + 16 }))) ∧
    (s.dev.seqReady t .bset = true →
      exec (.seqBset t) s = .next (seqNext s t (fun x =>
        { x with bnd := x.bnd.set (fin (fld w 32 4) : Fin 16) (BitVec.ofNat 32 (fld w 36 32)), pc := x.pc + 16 }))) ∧
    (s.dev.seqReady t .badd = true →
      exec (.seqBadd t) s = .next (seqNext s t (fun x =>
        { x with bnd := x.bnd.set (fin (fld w 32 4) : Fin 16)
                   (x.bnd[(fin (fld w 32 4) : Fin 16)] + BitVec.ofNat 32 (fld w 36 32)), pc := x.pc + 16 })))

/-- SEQ.TOKADD adds N to its counter after the wait clause and before the signal; SEQ.FSEL sets a bound register to VARIANT
and takes PC from the jump table (R99, R113). -/
def Obligations.TokaddAndFselResults : Prop :=
  ∀ (s : State) (t : TileNo), let x := s.dev.tiles[t]; let w := x.wordAt
    (∀ (k : Fin 8) (a b : Vector Byte 8), s.dev.fetches t .tokadd = true → x.waits w = false → k = fin (fld w 32 3) →
      a = (x.consume w).tok → (a[k]).toNat + fld w 35 8 ≤ 255 → b = a.set k (BitVec.ofNat 8 ((a[k]).toNat + fld w 35 8)) →
      (wSen w = true → (b[wStok w]).toNat < 255) →
      exec (.seqTokadd t) s = .next { s with dev := s.dev.modTile t (fun x =>
        { x with pc := x.pc + 16, tok := if wSen w then b.set (wStok w) (b[wStok w] + 1) else b }) }) ∧
    (∀ v j : Nat, s.dev.seqReady t .fsel = true → fld w 32 21 % 8 = 0 → fld w 32 21 + 8 ≤ claspBase →
      v = x.pocket.word (fld w 32 21) 8 → v % 16 ≤ v / 16 % 16 → fld w 53 21 + 4 * (v % 16) + 4 ≤ claspBase →
      j = x.pocket.word (fld w 53 21 + 4 * (v % 16)) 4 →
      exec (.seqFsel t) s = .next (seqNext s t (fun x =>
        { x with bnd := x.bnd.set (fin (fld w 74 4) : Fin 16) (BitVec.ofNat 32 (v % 16)), pc := 16 * j })))

/-- Token counters (R98): an increment that would take a counter above 255 faults with TOKEN_OVF, whether it is the signal of an
instruction of the controller, SEQ.TOKADD, the signal of a queued instruction, or a notification; a wait consumes only a count
that the counter holds. -/
def Obligations.TokenCounters : Prop :=
  ∀ (s : State) (t : TileNo), let x := s.dev.tiles[t]; let w := x.wordAt
    let ovf (u : State) : Prop := (u.dev.tiles[t]).mode = .faulted ∧ fld (u.dev.tiles[t]).faultInfo 0 8 = 0x08 ∧
      bitOf (u.dev.tiles[t]).faultInfo 11 = true
    (∀ v : W128, x.waits v = false → ((x.consume v).tok[wWtok v]).toNat + wWcnt v = (x.tok[wWtok v]).toNat ∧
      ∀ k : Fin 8, k ≠ wWtok v → (x.consume v).tok[k] = x.tok[k]) ∧
    (bitOf x.faultInfo 11 = false → s.dev.live = true →
      (s.dev.fetches t .nop = true → x.waits w = false → wSen w = true → ((x.consume w).tok[wStok w]).toNat = 255 →
        ∃ u, exec (.seqNop t) s = .next u ∧ ovf u) ∧
      (s.dev.fetches t .tokadd = true → x.waits w = false →
        255 < ((x.consume w).tok[(fin (fld w 32 3) : Fin 8)]).toNat + fld w 35 8 →
        ∃ u, exec (.seqTokadd t) s = .next u ∧ ovf u) ∧
      (∀ (e : Eng) (k : Nat) (f : Flight), x.engineOn = true → (x.flight[e.idx])[k]? = some f → f.performed = true → f.awaits = 0 →
        wClass f.e.word = 3 → wSen f.e.word = true → f.signalled = false → (x.tok[wStok f.e.word]).toNat = 255 →
        ∃ u, exec (.instructionComplete t (some e) k false) s = .next u ∧ ovf u) ∧
      (∀ (n : Note) (rest : List Note), x.notes = n :: rest → s.dev.noteDue n = true → n.w.remote = false → n.w.tile = t →
        n.w.nkind = 0 → x.ctx = some n.w.ctx → x.mode ≠ .faulted → (x.tok[n.w.narg]).toNat = 255 →
        ∃ u, exec (.notifyApply t) s = .next u ∧ ovf u))

/-- SEQ.BLD from the own pocket or a clasp word: the controller goes on, and the value lands when the read completes, with
the signal (R85, R99). -/
def Obligations.BldReadsAndLands : Prop :=
  ∀ (s : State) (t : TileNo), let x := s.dev.tiles[t]; let w := x.wordAt
    (∀ (a : Nat), s.dev.fetches t .bld = true → x.waits w = false → x.bldPending (issueRegs .bld w []) = false →
      bldFaults w = [] → (fld w 36 2 = 0 ∧ a = fld w 38 48 ∨ fld w 36 2 = 1 ∧ a = claspOff (fld w 38 48 % 64)) →
      exec (.seqBld t) s = .next { s with dev := s.dev.modTile t (fun x => { (x.consume w) with
        pc := x.pc + 16,
        bld := x.bld ++ [{ reg := fin (fld w 32 4), value := some (BitVec.ofNat 32 (x.pocket.word a 4)), e := x.entry w [],
                           sentAt := s.dev.devTime }] }) }) ∧
    (∀ (k : Nat) (b : Bld) (v : W32), s.dev.live = true → x.engineOn = true → x.bld[k]? = some b → b.value = some v →
      wSen b.e.word = false →
      exec (.instructionComplete t none k false) s = .next { s with dev := s.dev.modTile t (fun x =>
        { x with bnd := x.bnd.set b.reg v, bld := x.bld.eraseIdx k }) })

/-- A wait clause that does not hold stalls dispatch, and nothing else happens; a stall ends when its cause is gone (R85, R95). A
word that decodes to no operation faults its tile with ILLEGAL_INSTR, UNIT 0 and the word's PCQ, and stops the tile (R88, R114,
R115, Table 4.16). -/
def Obligations.StallsAndFaults : Prop :=
  (∀ (s : State) (t : TileNo), let x := s.dev.tiles[t]
    (s.dev.fetches t .nop = true → x.waits x.wordAt = true →
      exec (.seqNop t) s = .next { s with dev := s.dev.modTile t (fun x => { x with mode := .stalled }) }) ∧
    (s.dev.live = true → x.mode = .stalled → x.pocketBad = [] → decodeOp x.wordAt = some .nop → x.waits x.wordAt = false →
      exec (.dispatchResume t) s = .next { s with dev := s.dev.modTile t (fun x =>
        { x with mode := .running, waited := x.waited.set 4 0 }) })) ∧
  (∀ (s : State) (t : TileNo) (c : CtxNo), let x := s.dev.tiles[t]
    s.dev.live = true → x.mode = .running → x.ctx = some c → x.pc + 16 ≤ claspBase → x.pocketBad = [] →
    decodeOp x.wordAt = none → bitOf x.faultInfo 11 = false →
    ∃ u, exec (.seqNop t) s = .next u ∧ (u.dev.tiles[t]).mode = .faulted ∧ fld (u.dev.tiles[t]).faultInfo 0 8 = 0x01 ∧
      fld (u.dev.tiles[t]).faultInfo 8 3 = 0 ∧ fld (u.dev.tiles[t]).faultInfo 12 17 = x.pc / 16 ∧
      fld (u.dev.tiles[t]).faultInfo 29 8 = c.val ∧ (u.dev.tiles[t]).pc = x.pc ∧ (u.dev.tiles[t]).pocket = x.pocket ∧
      ∀ v : TileNo, v ≠ t → u.dev.tiles[v] = s.dev.tiles[v])

/-- An instruction without a fault is frozen with its records and bound registers at the tail of its engine's queue, and PC
moves on (R84, R92, R93). -/
def Obligations.QueuedInstructionsIssue : Prop :=
  ∀ row ∈ queuedRows, ∀ (s : State) (t : TileNo) (e : Eng) (recs : List W256), let x := s.dev.tiles[t]; let w := x.wordAt
    s.dev.fetches t row.2 = true → queueFor w = some e → (x.queues[e.idx]).length < 32 →
    s.dev.readRecs t row.2 w 4 [] = (recs, none, s.dev) → x.bldPending (issueRegs row.2 w recs) = false →
    s.dev.issueFaults t row.2 w recs true = [] →
    exec (row.1 t .issue) s = .next { s with dev := s.dev.modTile t (fun x =>
      { x with queues := x.queues.set e.idx (x.queues[e.idx] ++ [{ word := w, recs := recs, bnd := x.bnd, pcq := x.pc / 16 }]),
               pc := x.pc + 16, mm := mmIssued row.2 w x.mm,
               engineSince := if (x.queues[e.idx]).isEmpty && (x.flight[e.idx]).isEmpty
                 then x.engineSince.set e.idx s.dev.devTime else x.engineSince }) }

/-- SY FENCE, STEP_COMMIT, YIELD and END move PC once the engines they name are drained, and leave the tile running, at its
commit, yielding, or ending; when every kernel of the step has yielded or ended, and one has yielded, the save of the context begins
(R111, R161, R353, R369). -/
def Obligations.SyControllerResults : Prop :=
  ∀ (s : State) (t : TileNo),
    (s.dev.syReady t .fence = true → exec (.syFence t) s = .next (seqNext s t (fun x => { x with pc := x.pc + 16 }))) ∧
    (s.dev.syReady t .commit = true →
      exec (.syStepCommit t) s = .next (seqNext s t (fun x => { x with pc := x.pc + 16, mode := .atCommit }))) ∧
    (∀ row ∈ [(Instr.syYield t, TOp.yield, TMode.yielding), (Instr.syEnd t, TOp.end_, TMode.ending)], s.dev.syReady t row.2.1 = true →
      let u := seqNext s t (fun x => { x with pc := x.pc + 16, mode := row.2.2 })
      let midStep (v : TileNo) : Prop := (u.dev.tiles[v]).mode = .yielding ∨ (u.dev.tiles[v]).mode = .ending
      ∀ c : CtxNo, (s.dev.tiles[t]).ctx = some c →
        ((s.dev.ctxs[c]).st ≠ .running ∨ (s.dev.ctxs[c]).inStep = false ∨ (s.dev.ctxs[c]).saving = true ∨
            (∃ v ∈ s.dev.kernelTiles c, ¬ midStep v) ∨ (∀ v ∈ s.dev.kernelTiles c, (u.dev.tiles[v]).mode ≠ .yielding) →
          exec row.1 s = .next u) ∧
        ((s.dev.ctxs[c]).st = .running → (s.dev.ctxs[c]).inStep = true → (s.dev.ctxs[c]).part.isSome = true →
          (∀ v ∈ s.dev.kernelTiles c, midStep v) → (∃ v ∈ s.dev.kernelTiles c, (u.dev.tiles[v]).mode = .yielding) →
          ∃ w, exec row.1 s = .next w ∧ (w.dev.ctxs[c]).saving = true ∧ w.dev.tiles = u.dev.tiles))

/-! ## Engines of a tile -/

/-- A queue head whose wait clause holds starts: its tokens are consumed and it leaves the queue (R84, R95); a performed and
answered instruction completes, leaves, and signals (R96). -/
def Obligations.EnginesStartAndComplete : Prop :=
  ∀ (s : State) (t : TileNo) (e : Eng), let x := s.dev.tiles[t]
    (∀ (h : Entry) (rest : List Entry), s.dev.live = true → x.ctx.isSome = true → x.mode ≠ .faulted → x.level ≠ 0 →
      x.queues[e.idx] = h :: rest → x.mayStart e h = true →
      ∃ u, exec (.engineStart t e) s = .next u ∧ (u.dev.tiles[t]).queues = x.queues.set e.idx rest ∧
        (u.dev.tiles[t]).flight = x.flight.set e.idx (x.flight[e.idx] ++ [h.start]) ∧
        (u.dev.tiles[t]).tok = (x.consume h.word).tok ∧ (u.dev.tiles[t]).pocket = x.pocket) ∧
    (∀ (k : Nat) (f : Flight), s.dev.live = true → x.engineOn = true → (x.flight[e.idx])[k]? = some f →
      f.performed = true → f.awaits = 0 → wClass f.e.word = 3 → wSen f.e.word = true → f.signalled = false →
      (x.tok[wStok f.e.word]).toNat < 255 →
      exec (.instructionComplete t (some e) k false) s = .next { s with dev := s.dev.modTile t (fun x =>
        { x with flight := x.flight.set e.idx ((x.flight[e.idx]).eraseIdx k),
                 engineSince := x.engineSince.set e.idx s.dev.devTime, lastActive := s.dev.devTime,
                 tok := x.tok.set (wStok f.e.word) (x.tok[wStok f.e.word] + 1) }) })

/-- Events of a tile beside its program: a corrected word is written back, a fill is installed or dropped, SY LINING_INV
empties the lining, and an engine without progress for 1 ms is logged (R116, R143, R150, R152, R153). -/
def Obligations.TileEvents : Prop :=
  ∀ (s : State) (t : TileNo), let x := s.dev.tiles[t]
    (∀ word : Fin 262144, s.dev.live = true →
      exec (.pocketCeWriteback t word) s = .next { s with dev := s.dev.modTile t (fun x =>
        { x with pocketBad := x.pocketBad.filter (fun b => b ≠ (word.val, false)) }) }) ∧
    (∀ (k : Nat) (f : LFill), s.dev.live = true → x.fills[k]? = some f → f.cancelled = true →
      exec (.liningFill t k) s = .next { s with dev := s.dev.modTile t (fun x => { x with fills := x.fills.eraseIdx k }) }) ∧
    (∀ (k : Nat) (f : LFill), s.dev.live = true → x.fills[k]? = some f → f.cancelled = false →
      ∃ u, exec (.liningFill t k) s = .next u ∧ (u.dev.tiles[t]).fills = x.fills.eraseIdx k ∧
        { tag := f.tag, data := f.data, parityBad := false } ∈ (u.dev.tiles[t]).lining) ∧
    (∀ (k : Nat) (f : Flight), s.dev.live = true → s.dev.ready t .ld k .inval = some f → syWhole f.e.word = true →
      ∃ u, exec (.syLiningInv t (.perform k)) s = .next u ∧ (u.dev.tiles[t]).lining = [] ∧
        (u.dev.tiles[t]).fills = x.fills.map (fun l => { l with cancelled := true }) ∧
        (u.dev.tiles[t]).flight = x.flightDone s.dev.devTime .ld k 0) ∧
    (∀ e : Eng, s.dev.live = true → x.engineOn = true → x.queues[e.idx] ≠ [] → s.dev.since x.engineSince[e.idx] ≥ 1000000 →
      ∃ u, exec (.engineStall t e) s = .next u ∧ (∃ l ∈ u.dev.errLog, l.code = 0x0200#16) ∧
        (u.dev.tiles[t]).mode = x.mode ∧ (u.dev.tiles[t]).queues = x.queues)

/-- LD.FILL writes the converted elements and scales of its pattern into the pocket; LD.TOUCH writes nothing there; ST.PUT
reads its source, then writes its rows; a row stored to the own pocket lands where the pattern says, and every byte outside it
stays (R100 to R106). -/
def Obligations.LoadStoreResults : Prop :=
  (∀ (s : State) (t : TileNo) (k : Nat) (f : Flight) (p : PartNo) (c : CtxNo), s.dev.owner t = some (p, c) →
    let pr := f.e.recs.getD 0 0
    (∀ (i : LdIn) (d : Device), s.dev.performs t .ld k .fill f = true → s.dev.ldInputs t p f.e = (.ok i, d) →
      (d.tiles[t]).pocketBad = [] →
      let o := ldOutputs t (s.dev.tiles[t]).step f.e i
      let psc := srPsc (f.e.recs.getD 1 0)
      ldPoff f.e.word + o.1.length ≤ claspBase → psc + o.2.1.length ≤ claspBase →
      exec (.ldFill t (.perform k)) s = .next { s with dev := d.modTile t (fun x =>
        { x with pocket := (x.pocket.write (ldPoff f.e.word) o.1).write psc o.2.1, cvtStatus := x.cvtStatus ||| o.2.2,
                 flight := x.flightDone d.devTime .ld k 0 }) }) ∧
    (∀ (l : List (List Byte) × List Byte) (d : Device), s.dev.performs t .ld k .touch f = true →
      s.dev.ldMemory t p f.e = (.ok l, d) →
      exec (.ldTouch t (.perform k)) s = .next { s with dev := d.modTile t (fun x =>
        { x with flight := x.flightDone d.devTime .ld k 0 }) }) ∧
    (∀ (b : List (List Byte) × List (List Byte)) (fl : W32) (d : Device), s.dev.performs t .st k .put f = true →
      f.buf = none → s.dev.putInputs t f.e = (.ok (b, fl), d) →
      exec (.stPut t (.perform k)) s = .next { s with dev := d.modTile t (fun x =>
        { x with cvtStatus := x.cvtStatus ||| fl,
                 flight := x.flight.set 3 ((x.flight[(3 : Fin 4)]).modify k (fun f => { f with buf := some b })) }) }) ∧
    (∀ (rows scales : List (List Byte)) (a : Nat) (d : Device), s.dev.performs t .st k .put f = true →
      f.buf = some (rows, scales) → prPat pr < 2 →
      let l := (elemRows f.e pr []).zip rows ++ (scaleRows f.e pr (f.e.recs.getD 1 0) []).zip scales
      s.dev.putRows t p pr l = ((.ok, a), d) →
      exec (.stPut t (.perform k)) s = .next { s with dev := d.modTile t (fun x =>
        { x with flight := x.flight.set 3 ((x.flight[(3 : Fin 4)]).modify k (fun f =>
          { f with performed := true, awaits := 0, buf := none, sentAt := d.devTime,
                   wrote := l.map (fun r => (r.1, r.2.length)) })) }) })) ∧
  (∀ (d : Device) (t : TileNo) (p : PartNo) (pr : W256) (a : Nat) (bs : List Byte),
    prSpace pr = 0 → (d.tiles[t]).pocketBad = [] → a + bs.length ≤ claspBase →
    ∃ d', d.putRow t p pr a bs = (.ok, d') ∧
      (∀ i (h : i < bs.length), (d'.tiles[t]).pocket.get (a + i) = bs[i]) ∧
      (∀ b, b < a ∨ a + bs.length ≤ b → (d'.tiles[t]).pocket.get b = (d.tiles[t]).pocket.get b) ∧
      ∀ u : TileNo, u ≠ t → d'.tiles[u] = d.tiles[u])

/-! ## The tensor array -/

/-- What the instructions of the tensor array leave (R57 to R61, R66 to R69, R78). -/
def Obligations.TensorResults : Prop :=
  ∀ (s : State) (t : TileNo) (k : Nat) (f : Flight), let x := s.dev.tiles[t]; let m := x.mm
    (s.dev.performs t .mm k .mmOpen f = true → m.opening = none →
      exec (.mmOpen t (.perform k)) s = .next { s with dev := s.dev.modTile t (fun x =>
        { x with mm := { x.mm with opening := some f.e }, flight := x.flightDone s.dev.devTime .mm k 1 }) }) ∧
    (∀ (e : Entry) (el : List (List Elem)) (ta tb : W32) (o : OpenTile), s.dev.live = true → x.engineOn = true → m.opening = some e →
      m.tile = none → s.dev.initElems t e = (.ok el, s.dev) →
      s.dev.tensorScale t (moFa e.word = 10) (mrTa (e.recs.getD 0 0)) = (.ok ta, s.dev) →
      s.dev.tensorScale t (moFb e.word = 10 || moFb e.word = 11) (mrTb (e.recs.getD 0 0)) = (.ok tb, s.dev) →
      o = { m := extent (moM e.word) e.bnd, n := extent (moN e.word) e.bnd, fa := moFa e.word, fb := moFb e.word,
            runl := moRunl e.word, outId := BitVec.ofNat 20 (mrOutId (e.recs.getD 0 0)), ta := ta, tb := tb,
            elems := el, chunks := 0 } →
      exec (.mmTileInit t) s = .next { s with dev := s.dev.modTile t (fun x =>
        { x with cvtStatus := if isFinite32 ta && isFinite32 tb then x.cvtStatus else x.cvtStatus ||| 0x40,
                 mm := { x.mm with opening := none, accCur := 0, tile := some o },
                 flight := x.flight.set 1 ((x.flight[(1 : Fin 4)]).map
                   (fun g => if g.e = e && g.performed && g.awaits == 1 then { g with awaits := 0 } else g)) }) }) ∧
    (∀ (el sc : List (List Nat)), s.dev.performs t .mm k .ldb f = true →
      s.dev.mmOperand t ((Fmt.ofCode m.loadFor.2).getD .bf16) f.e.word m.loadFor.1 (extent (mlKlen f.e.word) f.e.bnd)
        = (.ok (el, sc), s.dev) →
      exec (.mmLdb t (.perform k)) s = .next { s with dev := s.dev.modTile t (fun x =>
        { x with cvtStatus := x.cvtStatus ||| codeFlags ((Fmt.ofCode m.loadFor.2).getD .bf16) el sc (extent (mlKlen f.e.word) f.e.bnd),
                 mm := { x.mm with
                   buf := x.mm.buf.set x.mm.rbNext
                     (some { fb := m.loadFor.2, klen := extent (mlKlen f.e.word) f.e.bnd, elems := el, scales := sc }),
                   rbNext := x.mm.rbNext + 1, rbLoaded := true },
                 flight := x.flightDone s.dev.devTime .mm k 0 }) }) ∧
    (∀ (o : OpenTile) (b : Chunk) (el sc : List (List Nat)), s.dev.performs t .mm k .strm f = true → m.opening = none →
      m.tile = some o → m.buf[m.rbNext + 1] = some b →
      s.dev.mmOperand t ((Fmt.ofCode o.fa).getD .bf16) f.e.word o.m b.klen = (.ok (el, sc), s.dev) →
      let fa := (Fmt.ofCode o.fa).getD .bf16
      let fb := (Fmt.ofCode o.fb).getD .bf16
      let kc := (kcOf o.fa o.fb).getD 32
      let r := if b.serves o kc then o.stream (lanesOf fa el sc) (lanesOf fb b.elems b.scales) kc (groupOf fa fb kc) b.klen
               else o.streamFree s.dev.freeCount
      ∃ u, exec (.mmStrm t (.perform k)) s = .next u ∧
        (u.dev.tiles[t]).cvtStatus = x.cvtStatus ||| strmFlags fb (lanesOf fa el sc) b.klen o.ta o.tb ∧
        (u.dev.tiles[t]).mm.tile = some { o with elems := r.1, chunks := min (o.chunks + 1) 4095 } ∧
        (u.dev.tiles[t]).mm.accCur = m.accCur ||| r.2 ∧ (u.dev.tiles[t]).mm.rbLoaded = false ∧ (u.dev.tiles[t]).pocket = x.pocket ∧
        (u.dev.tiles[t]).flight = x.flightDone s.dev.devTime .mm k 0) ∧
    (∀ o : OpenTile, s.dev.performs t .mm k .drain f = true → m.tile = some o → o.elems.length = o.m →
      (∀ r ∈ o.elems, r.length = o.n) →
      (∀ i < o.m, mdDbase f.e.word + i * mdDpitch f.e.word + (if mdMode f.e.word = 1 then 8 else 4) * o.n ≤ claspBase) →
      ∃ u, exec (.mmDrain t (.perform k)) s = .next u ∧ (u.dev.tiles[t]).mm.tile = some o ∧
        (u.dev.tiles[t]).flight = x.flightDone s.dev.devTime .mm k 0 ∧
        ((if mdMode f.e.word = 1 then 8 else 4) * o.n ≤ mdDpitch f.e.word → ∀ (i : Nat) (r : List (List W32 × W32)),
          (o.drained (mdMode f.e.word = 1) (fmul (fmul o.ta o.tb) (mdOsc f.e.word)))[i]? = some r →
          (u.dev.tiles[t]).pocket.read (mdDbase f.e.word + i * mdDpitch f.e.word) ((if mdMode f.e.word = 1 then 8 else 4) * o.n)
            = drainBytes r) ∧
        (∀ a, (∀ i < o.m, a < mdDbase f.e.word + i * mdDpitch f.e.word ∨
            mdDbase f.e.word + i * mdDpitch f.e.word + (if mdMode f.e.word = 1 then 8 else 4) * o.n ≤ a) →
          (u.dev.tiles[t]).pocket.get a = x.pocket.get a) ∧ ∀ v : TileNo, v ≠ t → u.dev.tiles[v] = s.dev.tiles[v])

/-! ## The vector engine -/

/-- Element-wise results with their flags (R118, R119, R135), for both vector formats. -/
def Obligations.VectorElementResults : Prop :=
  ∀ (s : State) (t : TileNo) (k : Nat) (f : Flight), let x := s.dev.tiles[t]; let e := f.e; let w := e.word
    let A := x.vxSrc e (vxSrc0 w); let B := x.vxSrc e (vxSrc1 w); let C := x.vxSrc e (vxDst w)
    let leaves (rs : List W32) (fl : W32) := Host.Outcome.next (φ := Fault) (ρ := Refusal)
      { s with dev := s.dev.vxLeaves t k (vxDst w) (vxEncode w rs).1 (fl ||| (vxEncode w rs).2) }
    (s.dev.vxPerforms t k .mov f = true → exec (.vxMov t (.perform k)) s =
      .next { s with dev := s.dev.vxLeaves t k (vxDst w) (x.pocket.read (vxSrc0 w) (vxN e * vfBytes w)) (nanInFlag A) }) ∧
    (s.dev.vxPerforms t k .add f = true → exec (.vxAdd t (.perform k)) s = leaves (List.zipWith fadd A B)
      (nanInFlag (A ++ B) ||| orAll (List.zipWith (fun a b => opFlags (fadd a b) [a, b]) A B))) ∧
    (s.dev.vxPerforms t k .sub f = true → exec (.vxSub t (.perform k)) s = leaves (List.zipWith fsub A B)
      (nanInFlag (A ++ B) ||| orAll (List.zipWith (fun a b => opFlags (fsub a b) [a, b]) A B))) ∧
    (s.dev.vxPerforms t k .mul f = true → exec (.vxMul t (.perform k)) s = leaves (List.zipWith fmul A B)
      (nanInFlag (A ++ B) ||| orAll (List.zipWith (fun a b => opFlags (fmul a b) [a, b]) A B))) ∧
    (s.dev.vxPerforms t k .max f = true → exec (.vxMax t (.perform k)) s = leaves (List.zipWith fmax A B)
      (nanInFlag (A ++ B))) ∧
    (s.dev.vxPerforms t k .min f = true → exec (.vxMin t (.perform k)) s = leaves (List.zipWith fmin A B)
      (nanInFlag (A ++ B))) ∧
    (s.dev.vxPerforms t k .fma f = true → exec (.vxFma t (.perform k)) s =
      leaves ((A.zip (B.zip C)).map (fun p => ffma p.1 p.2.1 p.2.2))
        (nanInFlag (A ++ B ++ C) |||
          orAll ((A.zip (B.zip C)).map (fun p => opFlags (ffma p.1 p.2.1 p.2.2) [p.1, p.2.1, p.2.2]))))

/-- Results of the special functions, reductions, amax, rotation and selection (R121 to R124, R130 to R134). -/
def Obligations.VectorUnitResults : Prop :=
  ∀ (s : State) (t : TileNo) (k : Nat) (f : Flight), let x := s.dev.tiles[t]; let e := f.e; let w := e.word
    let A := x.vxSrc e (vxSrc0 w)
    let leaves (bs : List Byte) (fl : W32) := Host.Outcome.next (φ := Fault) (ρ := Refusal)
      { s with dev := s.dev.vxLeaves t k (vxDst w) bs fl }
    (s.dev.vxPerforms t k .sfu f = true →
      let r := A.map (sfu1 (fin (vxFunc w)))
      exec (.vxSfu t (.perform k)) s = leaves (vxEncode w (r.map (·.1))).1
        (nanInFlag A ||| orAll (r.map (·.2)) ||| (vxEncode w (r.map (·.1))).2)) ∧
    (s.dev.vxPerforms t k .red f = true → exec (.vxRed t (.perform k)) s = leaves (redOut (vxFunc w) A).1
      (nanInFlag A ||| (redOut (vxFunc w) A).2)) ∧
    (s.dev.vxPerforms t k .amax f = true → vxFunc w % 4 = 0 → exec (.vxAmax t (.perform k)) s =
      leaves (leBytes 4 (amaxOf (A.filter isFinite32)).toNat)
        (nanInFlag A ||| (if A.any (fun a => !isFinite32 a) then vxNonFin else 0))) ∧
    (s.dev.vxPerforms t k .topk f = true → exec (.vxTopk t (.perform k)) s =
      leaves (selBytes (selectK (vxFunc w / 128 % 2 = 1) (vxFunc w % 128)
        ((A.zipIdx.filter (fun q => !isNan32 q.1)).map (fun q => (q.1, fld (e.recs.getD 0 0) 0 32 + q.2)))))
        (nanInFlag A ||| (if A.any isNan32 then vxNonFin else 0))) ∧
    (s.dev.vxPerforms t k .topkMerge f = true →
      let m := mergeIn (selParse (x.pocket.read (vxSrc0 w) (8 * vxN e)))
      exec (.vxTopkMerge t (.perform k)) s =
        leaves (selBytes (selectK (vxFunc w / 128 % 2 = 1) (vxFunc w % 128) m.1)) (if m.2 then vxNonFin else 0)) ∧
    (s.dev.vxPerforms t k .rot f = true → ∃ rs fl, rs.length = A.length ∧
      exec (.vxRot t (.perform k)) s = leaves (vxEncode w rs).1 fl)

/-- VX.CVT and VX.QUANT without statistics and with a stored scale or none: the encoded elements, and the block scales, in
the pocket, and the conversion flags in TILE_CVT_STATUS (R125 to R127). -/
def Obligations.ConversionResults : Prop :=
  ∀ (s : State) (t : TileNo) (k : Nat) (f : Flight), let x := s.dev.tiles[t]; let e := f.e; let w := e.word
    let r := e.recs.getD 0 0; let c := crCtl r
    ∀ g : Fmt, Fmt.ofCode (ctlFmt c) = some g → e.recs ≠ [] → crTmode r = 0 → ctlMul c = false → crSten r = false →
    let A := x.vxSrc e (vxSrc0 w)
    let rnd := rndOf (ctlRnd c) (seedOf x.step (crTensor r) 0 t.val)
    (s.dev.vxPerforms t k .cvt f = true → g.code ≠ vxFmt w →
      let o := A.zipIdx.map (fun q => cvtScalar g (rnd (64 * crEidx r + q.2)) (ctlSat c) q.1)
      exec (.vxCvt t (.perform k)) s = .next { s with dev := s.dev.modTile t (fun x =>
        { x with pocket := x.pocket.write (vxDst w) (packBytes g.bits (o.map (·.code))),
                 cvtStatus := x.cvtStatus ||| orAll (o.map (·.flags)), flight := x.flightDone s.dev.devTime .vx k 0 }) }) ∧
    (s.dev.vxPerforms t k .quant f = true → g.isMx = true →
      let o := (pieces g.block A).zipIdx.map (fun q =>
        encodeBlock g (ctlScale c = 1) f32one rnd (64 * crEidx r + q.2 * g.block) q.1)
      exec (.vxQuant t (.perform k)) s = .next { s with dev := s.dev.modTile t (fun x =>
        { x with pocket := (x.pocket.write (vxDst w) (packBytes g.bits (o.flatMap (·.codes)))).write (crPsc r)
                   (o.map (fun b => BitVec.ofNat 8 b.scale)),
                 cvtStatus := x.cvtStatus ||| orAll (o.map (·.flags)), flight := x.flightDone s.dev.devTime .vx k 0 }) })

/-- Frame of the vector engine: an instruction is performed, and every byte of the pocket outside the ranges it writes,
every other tile and every memory is as it was (R119, R140). -/
def Obligations.VectorFrame : Prop :=
  ∀ row ∈ vectorRows, ∀ (s : State) (t : TileNo) (k : Nat) (f : Flight), s.dev.vxPerforms t k row.2 f = true →
    (row.2 = .cvt ∨ row.2 = .quant ∨ row.2 = .amax ∨ row.2 = .rot → f.e.recs ≠ []) →
    ∃ u, exec (row.1 t (.perform k)) s = .next u ∧
      (u.dev.tiles[t]).flight = (s.dev.tiles[t]).flightDone s.dev.devTime .vx k 0 ∧
      (∀ a, (∀ q ∈ (vxRanges row.2 f.e.word (f.e.recs.getD 0 0) (vxN f.e)).writes, a < q.1 ∨ q.1 + q.2 ≤ a) →
        (u.dev.tiles[t]).pocket.get a = (s.dev.tiles[t]).pocket.get a) ∧
      (∀ v : TileNo, v ≠ t → u.dev.tiles[v] = s.dev.tiles[v]) ∧ u.dev.hbm = s.dev.hbm ∧
      u.dev.tmemBytes = s.dev.tmemBytes ∧ u.dev.hostMem = s.dev.hostMem ∧
      (u.dev.tiles[t]).pc = (s.dev.tiles[t]).pc ∧ (u.dev.tiles[t]).tok = (s.dev.tiles[t]).tok ∧
      (u.dev.tiles[t]).bnd = (s.dev.tiles[t]).bnd ∧ (u.dev.tiles[t]).watches = (s.dev.tiles[t]).watches

/-! ## Clasps -/

/-- The clasp operations (R172, Table 7.3): what each leaves in VALUE, OWNER, POISON and the HELD bit; CAS and READ with VSRC = 0
fault with SHAPE_INVALID at issue; a CL atomic or CL.READ on a clasp of the own partition leaves that result and returns the
previous word at +8 of a stored operand, and every other pocket byte stays (R171, R173); ST.CLW writes VALUE alone. -/
def Obligations.ClaspOperations : Prop :=
  ((∀ (a : ClArg) (w : W64) (held : Bool), let v := clValue w; let x := fld a.w0 0 48
    let full (n : W64) (o : ClOut) : Prop := fld o.word 0 48 = fld n 0 48 ∧ bitOf o.word 63 = bitOf n 63 ∧ fld o.word 56 7 = 0 ∧
      ∀ c : CtxNo, a.own = some c → (bitOf n 56 = true → fld o.word 48 8 = c.val ∧ o.held = true) ∧
        (bitOf n 56 = false → fld o.word 48 8 = 0 ∧ o.held = false)
    let same := fld w 63 1 = fld a.w0 63 1 ∧ fld w 0 56 = fld a.w0 0 56
    (a.op = clAddOp → clValue (clCompute a w held).word = (v + x) % 2 ^ 48) ∧
    (a.op = clAndOp → clValue (clCompute a w held).word = v &&& x) ∧
    (a.op = clOrOp → clValue (clCompute a w held).word = v ||| x) ∧
    (a.op = clMaxOp → clValue (clCompute a w held).word = max v x) ∧
    (a.op = clSwapOp → a.vsrc = false → clValue (clCompute a w held).word = x) ∧
    (a.op = clAddOp ∨ a.op = clAndOp ∨ a.op = clOrOp ∨ a.op = clMaxOp ∨ (a.op = clSwapOp ∧ a.vsrc = false) →
      fld (clCompute a w held).word 48 16 = fld w 48 16 ∧ (clCompute a w held).held = held ∧ (clCompute a w held).wrote = true) ∧
    (a.op = clSwapOp → a.vsrc = true → full a.w0 (clCompute a w held)) ∧
    (a.op = clCasOp → same → full a.w1 (clCompute a w held)) ∧
    (a.op = clCasOp → ¬ same → clCompute a w held = ⟨w, held, false⟩) ∧
    (a.op = clReadOp → clCompute a w held = ⟨w, held, false⟩)) ∧
  (∀ (s : State) (t : TileNo) (e : Eng), let x := s.dev.tiles[t]; let w := x.wordAt
    ∀ row ∈ [(Instr.clCas t .issue, TOp.clCas), (Instr.clRead t .issue, TOp.clRead)], s.dev.fetches t row.2 = true →
      clVsrc w = false → queueFor w = some e → (x.queues[e.idx]).length < 32 → bitOf x.faultInfo 11 = false →
      ∃ u, exec row.1 s = .next u ∧ (u.dev.tiles[t]).mode = .faulted ∧ fld (u.dev.tiles[t]).faultInfo 0 8 = 0x03 ∧
        (u.dev.tiles[t]).queues = x.queues)) ∧
  (∀ row ∈ claspRows, ∀ (s : State) (t : TileNo) (k : Nat) (e : Eng) (f : Flight) (p : PartNo) (c : CtxNo) (v : TileNo),
    s.dev.clPerforms t k row.2.1 e f p c v = true →
    let n : ClaspNo := fin (clClasp f.e.word)
    let o := clCompute ((s.dev.tiles[t]).clArgOf f.e.word row.2.2 c t f.e.pcq) (s.dev.claspWord v n) (bitOf (s.dev.tiles[v]).claspLocks n)
    ∃ u, exec (row.1 t (.perform k)) s = .next u ∧ u.dev.claspWord v n = o.word ∧ bitOf (u.dev.tiles[v]).claspLocks n = o.held ∧
      (u.dev.tiles[t]).flight = (s.dev.tiles[t]).flightDone s.dev.devTime e k 0 ∧
      (clVsrc f.e.word = true → (u.dev.tiles[t]).pocket.word (clPoff f.e.word + 8) 8 = (s.dev.claspWord v n).toNat) ∧
      (∀ b a, ¬ (b = v ∧ claspOff n ≤ a ∧ a < claspOff n + 8) →
        ¬ (b = t ∧ clVsrc f.e.word = true ∧ clPoff f.e.word + 8 ≤ a ∧ a < clPoff f.e.word + 16) →
        (u.dev.tiles[b]).pocket.get a = (s.dev.tiles[b]).pocket.get a)) ∧
  (∀ (s : State) (t v : TileNo) (k : Nat) (f : Flight) (p : PartNo) (c : CtxNo),
    s.dev.performs t .st k .clw f = true → s.dev.owner t = some (p, c) → s.dev.clDirect t p c v = true →
    v.val = (if clwScope f.e.word = 0 then t.val else clwTile f.e.word) → clwClasp f.e.word < 48 →
    let n : ClaspNo := fin (clwClasp f.e.word)
    ∃ u, exec (.stClw t (.perform k)) s = .next u ∧ clValue (u.dev.claspWord v n) = clwVal f.e.word % 2 ^ 48 ∧
      fld (u.dev.claspWord v n) 48 16 = fld (s.dev.claspWord v n) 48 16 ∧
      (u.dev.tiles[t]).flight = (s.dev.tiles[t]).flightDone s.dev.devTime .st k 0 ∧
      ∀ b a, ¬ (b = v ∧ claspOff n ≤ a ∧ a < claspOff n + 8) → (u.dev.tiles[b]).pocket.get a = (s.dev.tiles[b]).pocket.get a)

/-- CL.WATCH and CL.WAIT on a clasp of the own partition: an unmet condition takes the lowest free slot, or waits behind those that
wait for one; a met one or POISON notifies at once; an accepted CL.WATCH is done, CL.WAIT awaits its notification; the clasp word
goes to +8 of a stored operand (R110, R176, R179, R181). -/
def Obligations.WatchRegistration : Prop :=
  ∀ (s : State) (t v : TileNo) (k : Nat) (e : Eng) (f : Flight) (p : PartNo) (c : CtxNo) (wait : Bool),
    s.dev.clPerforms t k (if wait then .clWait else .clWatch) e f p c v = true →
    let x := s.dev.tiles[t]
    let w := watchOf t e c s.dev.chipId wait f.e.word
      (if clVsrc f.e.word then x.pocket.word (clPoff f.e.word) 8 else clVal f.e.word)
    let word := s.dev.claspWord v w.clasp
    let run := exec (if wait then .clWait t (.perform k) else .clWatch t (.perform k)) s
    let back (u : State) : Prop := clVsrc f.e.word = true → (u.dev.tiles[t]).pocket.word (clPoff f.e.word + 8) 8 = word.toNat
    (∀ i : Fin 32, clPoison word = false → w.holds word = false → (s.dev.tiles[v]).watchWait = [] → (s.dev.tiles[v]).watches[i] = none →
      (∀ j : Fin 32, j < i → (s.dev.tiles[v]).watches[j] ≠ none) →
      ∃ u, run = .next u ∧ back u ∧ (u.dev.tiles[v]).watches = (s.dev.tiles[v]).watches.set i (some w) ∧
        (u.dev.tiles[t]).flight = x.flightDone s.dev.devTime e k wait.toNat) ∧
    (clPoison word = false → w.holds word = false →
      (s.dev.tiles[v]).watchWait ≠ [] ∨ (∀ j : Fin 32, (s.dev.tiles[v]).watches[j] ≠ none) →
      ∃ u, run = .next u ∧ back u ∧ (u.dev.tiles[v]).watches = (s.dev.tiles[v]).watches ∧
        (u.dev.tiles[v]).watchWait = (s.dev.tiles[v]).watchWait ++ [w] ∧ (u.dev.tiles[t]).flight = x.flightDone s.dev.devTime e k 1) ∧
    (w.nkind ≠ 3 → clPoison word = true ∨ w.holds word = true →
      ∃ u m, run = .next u ∧ back u ∧ (u.dev.tiles[t]).notes = (s.dev.tiles[t]).notes ++ [m] ∧ m.w = w ∧ m.abandoned = clPoison word ∧
        m.value = BitVec.ofNat 48 (clValue word) ∧ (u.dev.tiles[v]).watches = (s.dev.tiles[v]).watches ∧
        (u.dev.tiles[t]).flight = x.flightDone s.dev.devTime e k wait.toNat)

/-- A free slot takes the first waiting registration (R181); a notification that is due leaves the reply network and adds 1
to the token counter it names, and one whose context is gone is discarded (R179, R180). -/
def Obligations.WatchSlotsAndNotes : Prop :=
  ∀ (s : State) (t : TileNo), let x := s.dev.tiles[t]
    (∀ (w : Watch) (rest : List Watch) (i : Fin 32) (g : Eng), s.dev.live = true → x.watchWait = w :: rest → w.chip = s.dev.chipId →
      x.pocketBad = [] → clPoison (s.dev.claspWord t w.clasp) = false → w.holds (s.dev.claspWord t w.clasp) = false →
      x.watches[i] = none → (∀ j : Fin 32, j < i → x.watches[j] ≠ none) → w.holder = .tile g →
      (w.wait = true → exec (.watchSlotAccept t) s = .next { s with dev := s.dev.modTile t (fun x =>
        { x with watchWait := rest, watches := x.watches.set i (some w) }) }) ∧
      (w.wait = false → ∃ u, exec (.watchSlotAccept t) s = .next u ∧ (u.dev.tiles[t]).watchWait = rest ∧
        (u.dev.tiles[t]).watches = x.watches.set i (some w) ∧
        ((s.dev.tiles[w.tile]).ctx = some w.ctx → ∀ f rest, (s.dev.tiles[w.tile]).flight[g.idx] = f :: rest → f.waitsAt t w = true →
          (u.dev.tiles[w.tile]).flight[g.idx] = { f with awaits := 0 } :: rest))) ∧
    (∀ (n : Note) (rest : List Note) (c : CtxNo), s.dev.live = true → x.notes = n :: rest → s.dev.noteDue n = true →
      n.w.remote = false → n.w.tile = t → n.w.nkind = 0 → n.abandoned = false → x.ctx = some c → n.w.ctx = c →
      (x.tok[n.w.narg]).toNat < 255 →
      ∃ u, exec (.notifyApply t) s = .next u ∧ (u.dev.tiles[t]).notes = rest ∧
        (u.dev.tiles[t]).tok = x.tok.set n.w.narg (x.tok[n.w.narg] + 1) ∧ (u.dev.tiles[t]).pocket = x.pocket ∧
        (u.dev.tiles[t]).mode = x.mode) ∧
    (∀ (n : Note) (rest : List Note), s.dev.live = true → x.notes = n :: rest → s.dev.noteDue n = true →
      n.w.remote = false → n.w.tile = t → n.w.nkind = 0 → x.ctx ≠ some n.w.ctx →
      exec (.notifyApply t) s = .next { s with dev := s.dev.modTile t (fun x => { x with notes := rest }) })

/-! ## Movers -/

/-- MV.LAUNCH takes a FREE slot: READY with PACE 0, WAITING with another, FORWARDED as a proxy; MV.SETPRIO writes PRIO;
MV.CANCEL ends a channel that has not started as CANCELLED, and stops one that runs, whose end it awaits (R96, R189, R190, R199,
R201, R208). -/
def Obligations.MoverInstructionResults : Prop :=
  ∀ (s : State) (t : TileNo) (k : Nat) (e : Eng) (f : Flight) (p : PartNo) (c : CtxNo),
    s.dev.live = true → s.dev.owner t = some (p, c) →
    let n := mvSlot f.e.word; let m := MoverId.tile t; let z := (s.dev.tiles[t]).mover.slot n
    (s.dev.tiles[t]).mover.slots.length = 8 →
    (∀ (a b r q : W256) (x : Desc), s.dev.readyAny t k .launch = some (e, f) → f.e.recs = [a, b, r, q] → z.st = .free →
      x = { d := b ++ a, srcRec := r, dstRec := q, origin := .tile t n, ctx := c, part := p, e := f.e } →
      (dExec x.d = 0 → 3 ≤ dPace x.d → s.dev.clDirect t p c x.paceTile = true) →
      ∃ u, exec (.mvLaunch t (.perform k)) s = .next u ∧ (u.dev.slot m n).desc = some x ∧
        (u.dev.slot m n).prio = dPrio x.d ∧ (u.dev.slot m n).status = z.status ∧
        (u.dev.slot m n).st = (if dExec x.d ≠ 0 then .forwarded else if dPace x.d = 0 then .ready else .waiting) ∧
        (dExec x.d ≠ 0 → u.dev.forwards = s.dev.forwards ++ [(execMover (some t) x.d, x)]) ∧
        (u.dev.tiles[t]).flight = (s.dev.tiles[t]).flightDone s.dev.devTime e k 0) ∧
    (s.dev.readyAny t k .setprio = some (e, f) → z.st ≠ .forwarded →
      ∃ u, exec (.mvSetprio t (.perform k)) s = .next u ∧ u.dev.slot m n = { z with prio := mvPrio f.e.word } ∧
        (u.dev.tiles[t]).flight = (s.dev.tiles[t]).flightDone s.dev.devTime e k 0 ∧
        ∀ j, j ≠ n.val → u.dev.slot m j = s.dev.slot m j) ∧
    (s.dev.readyAny t k .cancel = some (e, f) → (z.st = .ready ∨ z.st = .waiting) →
      (∃ x : Desc, z.desc = some x ∧ x.origin = .tile t n) →
      ∃ u, exec (.mvCancel t (.perform k)) s = .next u ∧ (u.dev.slot m n).st = .free ∧ (u.dev.slot m n).status = 4 ∧
        (u.dev.slot m n).desc = none ∧ (u.dev.tiles[t]).tok = (s.dev.tiles[t]).tok) ∧
    (s.dev.readyAny t k .cancel = some (e, f) → (z.st = .running ∨ z.st = .paused) → z.desc.isSome = true →
      ∃ u, exec (.mvCancel t (.perform k)) s = .next u ∧ (u.dev.slot m n).st = .stopping ∧ (u.dev.slot m n).status = 4 ∧
        (u.dev.tiles[t]).flight = (s.dev.tiles[t]).flightDone s.dev.devTime e k 1)

/-- A mover selects the READY slot of the highest priority, the lowest number among equals, and its channel runs (R200);
T_START makes a waiting channel READY; a burst begins at its time (R203). -/
def Obligations.MoverSelectionAndPacing : Prop :=
  ∀ (s : State) (m : MoverId) (k : Nat) (x : Desc), s.dev.live = true → (s.dev.slot m k).desc = some x →
    k < (s.dev.mover m).slots.length → let z := s.dev.slot m k
    ((s.dev.mover m).selects k → (∀ q ∈ (s.dev.mover m).slots, q.st ≠ .running ∧ q.st ≠ .paused ∧ q.st ≠ .stopping) →
      dPool x.d = false → z.tag = none → z.poolHeld = false → z.burst = 0 →
      exec (.moverSelect m) s = .next { s with dev :=
        ((s.dev.modSlot m k (fun q => { q with st := .running })).traceSlot m k x 3).startChannel m k x }) ∧
    (z.st = .waiting → z.poolWait = false → dPace x.d = 1 → (dTStart x.d).toNat ≤ s.dev.devTime.toNat →
      exec (.paceTimerStart m k) s = .next { s with dev :=
        (s.dev.modSlot m k (fun q => { q with st := .ready })).traceSlot m k x 2 }) ∧
    (z.st = .paused → (∀ j < k, (s.dev.slot m j).st ≠ .paused) → dPace x.d = 1 → z.nextBurst x ≤ s.dev.devTime.toNat →
      exec (.burstStart m) s = .next { s with dev :=
        ((s.dev.modSlot m k (fun q =>
          { q with st := .running, burst := q.burst + 1,
                   target := min (mpBytes x.srcRec) (q.pos + dBurst x.d) })).traceSlot m k x 3).moveOn m k }) ∧
    (z.st = .running → (∀ j < k, (s.dev.slot m j).st ≠ .running) → dPace x.d = 1 → dTPeriod x.d ≠ 0 → z.pos = z.target →
      z.target < mpBytes x.srcRec → z.awaits = 0 → 0 < z.burst → s.dev.devTime.toNat < z.nextBurst x →
      exec (.burstDone m) s = .next { s with dev :=
        (s.dev.modSlot m k (fun q => { q with st := .paused })).traceSlot m k x 4 }) ∧
    (z.st = .running → (∀ j < k, (s.dev.slot m j).st ≠ .running) → dPace x.d = 4 → z.unitOpen = false → z.pos < mpBytes x.srcRec →
      exec (.fillUnit m) s = .next { s with dev := s.dev.nextUnit m k x })

/-- A forwarded descriptor takes the lowest free slot of a mover that serves it, or waits in arrival order (R190). -/
def Obligations.DescriptorsForward : Prop :=
  ∀ (s : State) (m : MoverId) (x : Desc) (rest : List (MoverId × Desc)),
    s.dev.live = true → s.dev.forwards = (m, x) :: rest → (∀ y ∈ (s.dev.mover m).arrivals, y.part ≠ x.part) →
    let d := { s.dev with forwards := rest }
    (d.moverAccepts m x = false ∨ (∀ q ∈ (s.dev.mover m).slots, q.st ≠ .free) →
      exec (.descriptorForward m) s = .next { s with dev := d.modMover m (fun q => { q with arrivals := q.arrivals ++ [x] }) }) ∧
    (∀ k : Nat, d.moverAccepts m x = true → k < (s.dev.mover m).slots.length → (s.dev.slot m k).st = .free →
      (∀ j < k, (s.dev.slot m j).st ≠ .free) →
      ∃ u, exec (.descriptorForward m) s = .next u ∧ u.dev.forwards = rest ∧ (u.dev.slot m k).st ≠ .free ∧
        (u.dev.slot m k).desc = some x)

/-- A channel whose stream is delivered ends with status OK, its slot FREE, its token given; one that was stopped ends with
the status it was stopped for; a report ends the proxy slot (R190, R206, R208). -/
def Obligations.ChannelsEnd : Prop :=
  ∀ (s : State) (t : TileNo) (n : Fin 8) (x : Desc), s.dev.live = true → (s.dev.tiles[t]).mover.slots.length = 8 →
    (s.dev.slot (.tile t) n).desc = some x → x.origin = .tile t n →
    let z := s.dev.slot (.tile t) n; let w := x.e.word; let tok := (s.dev.tiles[t]).tok
    (z.streamDone x = true → z.tag = none → dDoneOp x.d = 0 → (tok[wStok w]).toNat < 255 →
      ∃ u, exec (.channelEnd (.tile t) n) s = .next u ∧ (u.dev.slot (.tile t) n).st = .free ∧
        (u.dev.slot (.tile t) n).status = 0 ∧ (u.dev.slot (.tile t) n).doneBytes = z.doneBytes ∧
        (u.dev.tiles[t]).tok = (if wSen w && !wSigat w then tok.set (wStok w) (tok[wStok w] + 1) else tok) ∧
        (u.dev.tiles[t]).moverNote = (s.dev.tiles[t]).moverNote) ∧
    (z.st = .stopping → z.awaits = 0 → z.reads = [] → z.tag = none → z.alloc = none → z.status = 1 → wSen w = false →
      ∃ u, exec (.channelStopped (.tile t) n) s = .next u ∧ (u.dev.slot (.tile t) n).st = .free ∧
        (u.dev.slot (.tile t) n).status = 1 ∧ bitOf (u.dev.tiles[t]).moverNote n = true) ∧
    (∀ rest, s.dev.reports = (t, n, 0) :: rest → wSen w = false →
      ∃ u, exec (.channelEndReport t) s = .next u ∧ u.dev.reports = rest ∧ (u.dev.slot (.tile t) n).st = .free ∧
        (u.dev.slot (.tile t) n).status = 0)

/-! ## Contexts, steps and commits -/

/-- KERNEL_START clears the controller's registers and begins at the tile's entry (R161); the step watchdog and a request
unanswered for 2 ms fault their tiles (R114, R116). -/
def Obligations.KernelStartAndTimeLimits : Prop :=
  ∀ (s : State) (c : CtxNo), s.dev.live = true →
    (∀ (t : TileNo) (p : PartNo) (pc : Nat), let x := s.dev.tiles[t]
      x.ctx = some c → x.bound = some p → x.mode = .idle → (s.dev.ctxs[c]).st = .running → (s.dev.ctxs[c]).inStep = true →
      (s.dev.ctxs[c]).restoring = false → s.dev.entryOf c t = some pc →
      ∃ u, exec (.kernelStart t) s = .next u ∧ let y := u.dev.tiles[t]
        y.pc = pc ∧ y.mode = .running ∧ y.step = (s.dev.ctxs[c]).stepNo ∧ y.bnd = Vector.replicate 16 0 ∧
        y.tok = Vector.replicate 8 0 ∧ y.lc = Vector.replicate 4 0 ∧ y.lining = [] ∧ y.vxStatus = 0 ∧ y.cvtStatus = 0 ∧
        y.accStatus = 0 ∧ y.pocket = x.pocket ∧ (∀ v : TileNo, v ≠ t → u.dev.tiles[v] = s.dev.tiles[v])) ∧
    ((s.dev.ctxs[c]).st = .running → (s.dev.ctxs[c]).inStep = true → (s.dev.ctxs[c]).dogLimit ≠ 0 →
      (s.dev.ctxs[c]).dogLimit.toNat ≤ s.dev.since (s.dev.ctxs[c]).dogAt →
      ∃ u, exec (.stepWatchdog c) s = .next u ∧ ∀ t : TileNo, (s.dev.tiles[t]).ctx = some c →
        (s.dev.tiles[t]).mode ≠ .faulted → bitOf (s.dev.tiles[t]).faultInfo 11 = false →
        (u.dev.tiles[t]).mode = .faulted ∧ fld (u.dev.tiles[t]).faultInfo 0 8 = 0x0E) ∧
    (∀ (t : TileNo) (e : Eng) (f : Flight), (s.dev.tiles[t]).ctx = some c → (s.dev.tiles[t]).mode ≠ .faulted →
      s.dev.repairing (.tile t e) = false → ((s.dev.tiles[t]).flight[e.idx]).find? (fun f => s.dev.lateFlight t e f false) = some f →
      bitOf (s.dev.tiles[t]).faultInfo 11 = false →
      ∃ u, exec (.reqTimeout (.tile t e)) s = .next u ∧ (u.dev.tiles[t]).mode = .faulted ∧
        fld (u.dev.tiles[t]).faultInfo 0 8 = 0x0D ∧ ∀ v : TileNo, v ≠ t → u.dev.tiles[v] = s.dev.tiles[v])

/-- A context is saved, restored, or ends: it leaves its tiles SAVED, runs again on them, or is BOUND without an image, and the
scheduler looks anew (R183, R353, R356). -/
def Obligations.ContextMovesComplete : Prop :=
  ∀ (s : State) (c : CtxNo) (p : PartNo), s.dev.live = true → (s.dev.ctxs[c]).part = some p →
    ((s.dev.ctxs[c]).saving = true → (s.dev.ctxs[c]).st = .running → s.dev.enginesQuiet c = true →
      ∃ d : Device, exec (.contextSaveDone c) s = .next { s with dev := d.schedule } ∧ (d.ctxs[c]).saving = false ∧
        ((d.ctxs[c]).st = .saved ∨ ((d.ctxs[c]).st = .tearing ∧ (d.ctxs[c]).teardownCause = some .saveFailed)) ∧
        ∀ t ∈ s.dev.ctxNames c, (d.tiles[t]).ctx = none) ∧
    ((s.dev.ctxs[c]).restoring = true → (s.dev.ctxs[c]).st = .saved → (s.dev.ctxs[c]).image.isSome = true →
      ∃ u, exec (.contextRestoreDone c) s = .next u ∧ (u.dev.ctxs[c]).restoring = false ∧
        ((u.dev.ctxs[c]).st = .running ∨ (u.dev.ctxs[c]).st = .tearing)) ∧
    ((s.dev.ctxs[c]).st = .running → (s.dev.ctxs[c]).inStep = false → (s.dev.ctxs[c]).releases = [] →
      (s.dev.ctxs[c]).saving = false → s.dev.enginesQuiet c = true →
      ∃ d : Device, exec (.contextExit c) s = .next { s with dev := d.schedule } ∧ (d.ctxs[c]).st = .bound ∧
        (d.ctxs[c]).image = none ∧ (d.ctxs[c]).part = some p ∧ ∀ t : TileNo, (d.tiles[t]).ctx ≠ some c)

/-- A residue mismatch of a tile is logged, counted and fences its context (R368, R371, R372); a commit without one counts,
records and runs on (R371); with one the context is to be replayed (R374), and its tiles restart from their commit records
(R374, R376); original and shadow of an audit meet or differ (R379, R380). -/
def Obligations.CommitReplayAudit : Prop :=
  ∀ (s : State) (c : CtxNo) (p : PartNo), s.dev.live = true → (s.dev.ctxs[c]).part = some p → (s.dev.ctxs[c]).st = .running →
    (s.dev.ctxs[c]).inStep = true →
    (∀ t : TileNo, (s.dev.tiles[t]).ctx = some c → (s.dev.ctxs[c]).suspectUnit = none →
      ∃ u, exec (.residueReport (.tensor t)) s = .next u ∧ u.dev.cntResidue = s.dev.cntResidue + 1 ∧
        (u.dev.tiles[t]).cntResidue = (s.dev.tiles[t]).cntResidue + 1 ∧ u.dev.errLog.getLast?.map (·.code) = some 0x0203#16 ∧
        (u.dev.ctxs[c]).suspectUnit = some (.tensor t) ∧ (u.dev.ctxs[c]).fenced = true) ∧
    (s.dev.commitDue c = true → (s.dev.ctxs[c]).suspectUnit = none → (s.dev.ctxs[c]).auditMiss = false → (s.dev.ctxs[c]).auditPair = none →
      ∃ u, exec (.commitDecision c) s = .next u ∧ (u.dev.ctxs[c]).commits = (s.dev.ctxs[c]).commits + 1 ∧
        ∀ t ∈ s.dev.kernelTiles c, (u.dev.tiles[t]).mode = .running ∧ (u.dev.tiles[t]).journal = [] ∧
          (u.dev.tiles[t]).record = some (s.dev.tiles[t]).record_) ∧
    (s.dev.commitDue c = true → (s.dev.ctxs[c]).suspectUnit.isSome = true → (s.dev.ctxs[c]).jfull = false →
      (s.dev.ctxs[c]).attempts < 2 →
      ∃ u, exec (.commitDecision c) s = .next u ∧ (u.dev.ctxs[c]).replayDue = true ∧ (u.dev.ctxs[c]).held = [] ∧
        (u.dev.ctxs[c]).attempts = (s.dev.ctxs[c]).attempts + 1 ∧ (u.dev.ctxs[c]).commits = (s.dev.ctxs[c]).commits) ∧
    (s.dev.up 6 = true → (s.dev.ctxs[c]).replayDue = true → (∀ t : TileNo, (s.dev.tiles[t]).pocketBad = []) →
      ∃ u, exec (.replayRestart c) s = .next u ∧ (u.dev.ctxs[c]).replayDue = false ∧ (u.dev.ctxs[c]).replaying = true ∧
        u.dev.replayCount = s.dev.replayCount + 1 ∧
        ∀ t ∈ s.dev.kernelTiles c, ∀ r, (s.dev.tiles[t]).record = some r →
          (u.dev.tiles[t]).mode = .running ∧ (u.dev.tiles[t]).pc = r.pc ∧ (u.dev.tiles[t]).tok = r.tok ∧
            (u.dev.tiles[t]).bnd = r.bnd) ∧
    (∀ t : TileNo, (s.dev.ctxs[c]).auditTile = some t → (s.dev.ctxs[c]).met = false → (s.dev.ctxs[c]).auditMiss = false →
      (s.dev.tiles[t]).atMeeting = true →
      exec (.auditRendezvous c true) s = .next { s with dev := s.dev.modCtx c (fun x => { x with met := true }) } ∧
      exec (.auditRendezvous c false) s = .next { s with dev :=
        { s.dev.modCtx c (fun x => { x with auditMiss := true, lastSuspect := t }) with auditMiss := s.dev.auditMiss + 1 } })

/-! ## The sentinel, teardown and function resets -/

/-- What a decision does to an entry (R255, R258, R260): a promotion moves VARIANT up by one, at MAXV it does not, and a PIN
suppresses it; a demotion moves it down by one. -/
def Obligations.SentinelDecisions : Prop :=
  ∀ (e : SEntry) (promote demote : Bool) (step : W64), let r := e.decide_ promote demote step
    (promote = true → e.pinned = false → e.variant ≠ e.maxv →
      r.1 = { e with variant := e.variant + 1, consec := 0, quiet := 0,
                     promotes := if e.promotes = BitVec.allOnes 32 then e.promotes else e.promotes + 1 } ∧
      r.2.map (·.1) = some 0x0207#16) ∧
    (promote = true → e.pinned = false → e.variant = e.maxv → r.1 = { e with consec := 0 } ∧ r.2.map (·.1) = some 0x0100#16) ∧
    (promote = true → e.pinned = true → r.1 = e ∧ r.2.map (·.1) = some 0x0208#16) ∧
    (promote = false → demote = true → e.pinned = false → e.variant ≠ 0 →
      r.1 = { e with variant := e.variant - 1, consec := 0, quiet := 0, demotes := min (e.demotes + 1) 255 } ∧
      r.2.map (·.1) = some 0x020D#16) ∧
    (promote = false → (demote = false ∨ e.pinned = true ∨ e.variant = 0) → r = (e, none))

/-- A report becomes pending of its context (R246); the boundary decides at once, or waits for the slice with scope 1, and the
step ends: its number rises, its kernels are idle, a new priority is in effect (R256, R259, R358). -/
def Obligations.StepBoundaries : Prop :=
  ∀ (s : State) (c : CtxNo) (p : PartNo), s.dev.live = true → (s.dev.ctxs[c]).part = some p →
    (∀ (t : TileNo) (o : BitVec 20) (f : BitVec 3) (rest : List Report), s.dev.sentReports = Report.acc c t o f :: rest →
      exec .sentinelReport s = .next { s with dev := { s.dev with sentReports := rest }.modCtx c (fun x =>
        { x with reports := x.reports ++ [Report.acc c t o f] }) }) ∧
    (∀ (t : TileNo) (o : BitVec 20) (r : W256) (b : Nat) (rest : List Report), s.dev.sentReports = Report.stat c t o r b :: rest →
      exec .sentinelReport s = .next { s with dev := { s.dev with sentReports := rest }.modCtx c (fun x =>
        { x with reports := x.reports ++ [Report.stat c t o r b] }) }) ∧
    (let x := s.dev.ctxs[c]
     s.dev.up 1 = true → s.dev.up 6 = true → x.st = .running → x.inStep = true → x.atBoundary = false → x.saving = false →
      x.replayDue = false → (∀ t ∈ s.dev.kernelTiles c, (s.dev.tiles[t]).mode = .ending) →
      (s.dev.cfg 0x5210 8 0 ≠ 1 ∨ s.dev.sliceOf p = none →
        ∃ d : Device, exec (.stepBoundary c) s = .next { s with dev := d.schedule } ∧ (d.ctxs[c]).inStep = false ∧
          (d.ctxs[c]).stepNo = x.stepNo + 1 ∧ (d.ctxs[c]).prio = x.prioSet ∧
          ∀ t ∈ s.dev.kernelTiles c, (d.tiles[t]).mode = .idle) ∧
      (s.dev.cfg 0x5210 8 0 = 1 → s.dev.sliceOf p ≠ none →
        ∃ u, exec (.stepBoundary c) s = .next u ∧ (u.dev.ctxs[c]).atBoundary = true ∧ (u.dev.ctxs[c]).decided.isSome = true ∧
          (u.dev.ctxs[c]).stepNo = x.stepNo)) ∧
    (∀ (up down promote demote : List (BitVec 20)), (s.dev.ctxs[c]).st = .running → (s.dev.ctxs[c]).atBoundary = true →
      (s.dev.ctxs[c]).decided = some (up, down) →
      ∃ d : Device, exec (.sliceDecisionExchange c promote demote) s = .next { s with dev := d.schedule } ∧
        (d.ctxs[c]).stepNo = (s.dev.ctxs[c]).stepNo + 1 ∧ (d.ctxs[c]).inStep = false ∧ (d.ctxs[c]).decided = none ∧
        ∀ t ∈ s.dev.kernelTiles c, (d.tiles[t]).mode = .idle)

/-- CONTEXT_TEARDOWN leaves its context BOUND without an image and off every tile, with an unread dump, once every window that
names a tile only this context uses is closed (R168, R361, R455); a VF's function-level reset clears its host-facing state, PF0's its event queue, vectors and session (R364); a closing window without
admitted accesses is closed (R168). -/
def Obligations.TeardownAndFunctionResets : Prop :=
  ∀ (s : State) (p : PartNo),
    (∀ c : CtxNo, s.dev.live = true → (s.dev.ctxs[c]).part = some p → (s.dev.ctxs[c]).st = .tearing →
      2000000 ≤ s.dev.since (s.dev.ctxs[c]).waitSince → (∀ w ∈ (s.dev.parts[p]).windows.toList, w.st = 0 ∨
        ∀ t ∈ s.dev.lastUsed p c, t.val ≠ w.tile) →
      ∃ d : Device, exec (.contextTeardown c) s = .next { s with dev := d.schedule } ∧ (d.ctxs[c]).st = .bound ∧
        (d.ctxs[c]).image = none ∧ (d.ctxs[c]).part = some p ∧ (∀ t : TileNo, (d.tiles[t]).ctx ≠ some c) ∧
        d.dumps.getLast?.map (fun u => (u.ctx, u.part, u.unread)) = some (c, p, true)) ∧
    (∀ (c : CtxNo) (w : WinNo) (t : TileNo), s.dev.live = true → (s.dev.ctxs[c]).part = some p → (s.dev.ctxs[c]).st = .tearing →
      ((s.dev.parts[p]).windows[w]).st = 1 → ((s.dev.parts[p]).windows[w]).tile = t.val → t ∈ s.dev.lastUsed p c →
      ∃ u, exec (.contextTeardown c) s = .next u ∧ ((u.dev.parts[p]).windows[w]).st = 2 ∧ (u.dev.ctxs[c]).st = .tearing) ∧
    (s.dev.rst.held = false →
      ∃ u, exec (.vfFlr p) s = .next u ∧ (u.dev.parts[p]).queues = Vector.replicate 64 Queue.reset ∧
        (u.dev.parts[p]).msix = Vector.replicate 124 Msix.reset ∧ (u.dev.parts[p]).busMaster = false ∧
        alGet u.dev.sessions (.vf p) = none ∧ (u.dev.parts[p]).windows = (s.dev.parts[p]).windows ∧ u.dev.dict = s.dev.dict) ∧
    (s.dev.rst.held = false →
      exec .pf0Flr s = .next { s with dev :=
        { s.dev with devEvq := Evq.reset, devMsix := Vector.replicate 64 Msix.reset, sessions := alErase s.dev.sessions .pf0,
                     mbx := alErase s.dev.mbx .pf0 } }) ∧
    (∀ w : WinNo, s.dev.live = true → ((s.dev.parts[p]).windows[w]).st = 2 → ((s.dev.parts[p]).windows[w]).admitted = 0 →
      exec (.windowClosed p w) s = .next { s with dev := s.dev.modWindow p w (fun x => { x with st := 0 }) })

/-! ## Stacked memory, table memory, peer repair -/

/-- Write-back of a corrected line, a scrub read, and the end of a page copy (R286, R290, R293). -/
def Obligations.StackedMemoryEvents : Prop :=
  ∀ s : State, s.dev.live = true →
    (∀ (page : Nat) (line : Fin 32768), exec (.hbmCeWriteback page line) s = .next { s with dev :=
      { s.dev with hbmBad := s.dev.hbmBad.filter (fun b => b ≠ (page * 32768 + line.val, LineErr.correctable true)) } }) ∧
    (∀ k : StackNo, let q := s.dev.hbmStacks[k]; let n := k.val * pagesPerStack * 32768 + q.scrubLine
      q.st = 1 → s.dev.up 5 = true →
      ∃ u, exec (.scrubRead k) s = .next u ∧
        (q.scrubLine = 0 → (u.dev.hbmStacks[k]).interval = s.dev.cfg 0x4000 4 0) ∧
        (u.dev.hbmStacks[k]).scrubLine = (if q.scrubLine + 1 = pagesPerStack * 32768 then 0 else q.scrubLine + 1) ∧
        (u.dev.hbmStacks[k]).passes = (if q.scrubLine + 1 = pagesPerStack * 32768 then q.passes + 1 else q.passes) ∧
        (∀ found : Bool, alGet s.dev.hbmBad n = some (.correctable found) → (n, LineErr.correctable true) ∉ u.dev.hbmBad) ∧
        u.dev.hbm = s.dev.hbm) ∧
    (∀ (r : Remap) (rest : List Remap), s.dev.remaps = r :: rest → 32768 ≤ r.ptr → s.dev.up 5 = true →
      ∃ u, exec (.pageRemapDone r.old) s = .next u ∧ (r.again = false → u.dev.remaps = rest) ∧
        (r.again = true → (∃ q ∈ u.dev.remaps, q.old = r.new) ∨ r.new ∈ u.dev.dueRetire) ∧ r.old ∈ u.dev.retiredPages ∧
        u.dev.pages = s.dev.pages.map (fun b => if b.phys = r.old then { b with phys := r.new } else b) ∧ u.dev.hbm = s.dev.hbm)

/-- A peer's repair request is answered with the line, NONE or STALE, or waits for this device's version and is answered STALE after
1 ms; an answer is a write of the line and its status to the requester's mailbox slot and an ADD of 1 to its mailbox clasp; a reply
with OK writes the line, any other gives the access POISON_READ, and so does none within 2 ms (R289, R382). -/
def Obligations.PeerRepair : Prop :=
  ∀ (s : State) (p : PartNo), s.dev.live = true →
    let answered (d : Device) (k slot : Fin 16) (tag status : Nat) (line : List Byte) : Device :=
      let r := (d.parts[p]).repairs[k]
      let d := d.modPart p (fun q => { q with served := alSet q.served (k, slot) tag,
                                              peerWaits := q.peerWaits.filter (fun w => w.range ≠ k || w.slot ≠ slot) })
      let g := d.newTag (.repair p)
      (g.2.inject p collarCuff 0 r.peerChip (midReq r.mailTile (r.slotOff slot + 64) relReq) (line ++ leBytes 8 status)).inject p
        collarCuff 3 r.peerChip (midReq r.mailTile (claspOff r.mailClasp) relReq)
        (leBytes 24 (g.1 + clAddOp <<< 24 + r.mailClasp.val <<< 32 + 1 <<< 64))
    (∀ (k slot : Fin 16), let r := (s.dev.parts[p]).repairs[k]; let m := (s.dev.tiles[r.mailTile]).pocket
      let addr := m.word (r.slotOff slot) 8; let ver := m.word (r.slotOff slot + 8) 8; let tag := m.word (r.slotOff slot + 16) 16
      r.on = true → tag ≠ 0 → alGet (s.dev.parts[p]).served (k, slot) ≠ some tag → (s.dev.tiles[r.mailTile]).pocketBad = [] →
      r.slotOff slot + 32 ≤ claspBase →
      (ver = s.dev.repairVersion r → ∀ (g : Got) (d : Device), s.dev.hbmRead p addr 64 false = (g, d) →
        exec (.peerRepairServe p k slot) s = .next { s with dev := (if g.st = .ok
          then answered d k slot tag prOk (g.bytes ++ List.replicate (64 - g.bytes.length) 0)
          else answered d k slot tag prNone (List.replicate 64 0)) }) ∧
      (ver < s.dev.repairVersion r →
        exec (.peerRepairServe p k slot) s = .next { s with dev := answered s.dev k slot tag prStale (List.replicate 64 0) }) ∧
      (s.dev.repairVersion r < ver → (∀ w ∈ (s.dev.parts[p]).peerWaits, ¬ (w.range = k ∧ w.slot = slot)) →
        exec (.peerRepairServe p k slot) s = .next { s with dev := s.dev.modPart p (fun q =>
          { q with peerWaits := q.peerWaits ++ [{ range := k, slot := slot, addr := addr, version := ver, tag := tag,
                                                  since := s.dev.devTime }] }) })) ∧
    (∀ (w : PeerWait) (rest : List PeerWait), (s.dev.parts[p]).peerWaits = w :: rest → 1000000 ≤ s.dev.since w.since →
      exec (.peerVersionWaitExpiry p) s =
        .next { s with dev := answered s.dev w.range w.slot w.tag prStale (List.replicate 64 0) }) ∧
    (∀ (r : RepairReq) (rest : List RepairReq) (t : TileNo) (e : Eng), (s.dev.parts[p]).repairReqs = r :: rest → r.who = .tile t e →
      let k := (s.dev.parts[p]).repairs[r.range]; let y := s.dev.tiles[k.mailTile]; let a := k.slotOff r.slot + 64
      y.pocketBad = [] → a + 72 ≤ claspBase →
      (∀ page off : Nat, y.pocket.word (a + 64) 8 = prOk → s.dev.transHbm p r.lineAddr = some (page, off) → r.lineAddr % 64 = 0 →
        ∃ u, exec (.peerRepairReply p) s = .next u ∧ (u.dev.parts[p]).repairReqs = rest ∧
          (u.dev.parts[p]).repairCount = (s.dev.parts[p]).repairCount + 1 ∧
          u.dev.hbm = s.dev.hbm.write (page * pageSize + off) (y.pocket.read a 64) ∧
          (u.dev.tiles[k.mailTile]).pocket = y.pocket.write (a + 64) (leBytes 8 0) ∧
          (u.dev.tiles[t]).mode = (s.dev.tiles[t]).mode) ∧
      (∀ (f : Flight) (c : CtxNo), y.pocket.word (a + 64) 8 = prStale ∨ y.pocket.word (a + 64) 8 = prNone →
        (s.dev.tiles[t]).ctx = some c → bitOf (s.dev.tiles[t]).faultInfo 11 = false →
        ((s.dev.tiles[t]).flight[e.idx]).find? (fun f => !f.performed && f.awaits != 0) = some f →
        ∃ u, exec (.peerRepairReply p) s = .next u ∧ (u.dev.parts[p]).repairReqs = rest ∧
          (u.dev.parts[p]).repairCount = (s.dev.parts[p]).repairCount ∧ u.dev.hbm = s.dev.hbm ∧
          (u.dev.tiles[t]).mode = .faulted ∧ fld (u.dev.tiles[t]).faultInfo 0 8 = 0x0B)) ∧
    (∀ (r : RepairReq) (rest : List RepairReq) (t : TileNo) (e : Eng) (f : Flight) (c : CtxNo),
      (s.dev.parts[p]).repairReqs = r :: rest → r.who = .tile t e → reqLimit ≤ s.dev.since r.sentAt →
      (s.dev.tiles[t]).ctx = some c → bitOf (s.dev.tiles[t]).faultInfo 11 = false →
      ((s.dev.tiles[t]).flight[e.idx]).find? (fun f => !f.performed && f.awaits != 0) = some f →
      ∃ u, exec (.peerRepairTimeout p) s = .next u ∧ (u.dev.parts[p]).repairReqs = rest ∧
        (u.dev.tiles[t]).mode = .faulted ∧ fld (u.dev.tiles[t]).faultInfo 0 8 = 0x0B)

/-- A table-memory port trains, or fails: its state, and the contexts of every partition that holds memory on it are torn down
(R242, R243, R363). -/
def Obligations.TableMemoryPorts : Prop :=
  ∀ (s : State) (n : TmemNo), s.dev.live = true →
    (∀ (gib : Fin 1025) (w r : Bool), (s.dev.tmem[n]).enabled = true → (s.dev.tmem[n]).st = 1 →
      exec (.tmemPortTrained n gib w r) s = .next { s with dev := s.dev.modTmem n (fun k =>
        { k with st := 2, gib := gib.val, link := (if w then 8 else 4) + 16 * (if r then 6 else 5) }) }) ∧
    ((s.dev.tmem[n]).st = 2 →
      ∃ u, exec (.tmemFail n) s = .next u ∧ (u.dev.tmem[n]).st = 3 ∧
        ∀ (p : PartNo) (c : CtxNo), p ∈ s.dev.tmemHolders n → (s.dev.ctxs[c]).part = some p → (s.dev.ctxs[c]).st = .running →
          (u.dev.ctxs[c]).st = .tearing)

/-! ## The parameter dictionary -/

/-- Commits of windows and pools (Tables 6.5, 8.11): an open window or pool with the committed fields; a closing window; a closed
pool. -/
def Obligations.WindowAndPoolCommits : Prop :=
  ∀ (s : State) (ses : SessId) (p : PartNo) (item : Nat) (g : Nat → Nat),
    (∀ w : WinNo, s.dev.commits ses (partIndex p (0x40 + w.val)) item g →
      (((s.dev.parts[p]).windows[w]).st = 0 → ((s.dev.parts[p]).windows[w]).reserved = false → s.dev.owns p (g 1) = true →
        windowFieldsOk g = true →
        answersOk (.windowOpen ses p w) ses s (fun d => (d.parts[p]).windows[w] =
          { st := 1, tile := g 1, base := g 2, size := g 3, slice := g 4, chipLo := g 5, chipHi := g 6,
            rights := BitVec.ofNat 3 (g 7), admitted := 0, forCtx := none, reserved := false })) ∧
      (((s.dev.parts[p]).windows[w]).st = 1 →
        answersOk (.windowClose ses p w) ses s (fun d =>
          (d.parts[p]).windows[w] = { (s.dev.parts[p]).windows[w] with st := 2 }))) ∧
    (∀ n : PoolNo, s.dev.commits ses (partIndex p (0x80 + n.val)) item g →
      (((s.dev.parts[p]).pools[n]).open_ = false → ((s.dev.parts[p]).pools[n]).reserved = false → s.dev.poolFieldsOk g p = true →
        s.dev.claspWord (fin (g 1)) (g 2) = 0 → bitOf (s.dev.tiles[(fin (g 1) : TileNo)]).claspLocks (g 2) = false →
        (s.dev.tiles[(fin (g 1) : TileNo)]).pocketBad = [] →
        answersOk (.poolOpen ses p n) ses s (fun d => ((d.parts[p]).pools[n]).open_ = true ∧ ((d.parts[p]).pools[n]).tile = g 1 ∧
          ((d.parts[p]).pools[n]).base = g 3 ∧ ((d.parts[p]).pools[n]).slots = g 4 ∧
          clValue (d.claspWord (fin (g 1)) (g 2)) = 2 ^ g 4 - 1)) ∧
      (let x := (s.dev.parts[p]).pools[n]
       x.open_ = true → x.tile < 512 → x.freeClasp < 48 → (s.dev.tiles[(fin x.tile : TileNo)]).pocketBad = [] →
        clValue (s.dev.claspWord (fin x.tile) x.freeClasp) = 2 ^ x.slots - 1 →
        answersOk (.poolClose ses p n) ses s (fun d => ((d.parts[p]).pools[n]).open_ = false ∧
          clValue (d.claspWord (fin x.tile) x.freeClasp) = 0)))

/-- Commits of gather and collective job rings (Table 9.1, R220, R326): open with the committed fields; closing lets a running
job finish. -/
def Obligations.RingCommits : Prop :=
  ∀ (s : State) (ses : SessId) (p : PartNo) (item : Nat) (g : Nat → Nat),
    (∀ e : GatherNo, s.dev.commits ses (partIndex p (0xA0 + e.val)) item g → (s.dev.gather[e]).bound = some p →
      ((s.dev.gather[e]).ring.st = 0 → s.dev.ringOk p g 128 = true →
        answersOk (.gatherRingOpen ses p e) ses s (fun d => (d.gather[e]).ring.st = 1 ∧ (d.gather[e]).ring.base = g 1 ∧
          (d.gather[e]).ring.log2 = g 2 ∧ (d.gather[e]).job = none)) ∧
      ((s.dev.gather[e]).ring.st = 1 →
        answersOk (.gatherRingClose ses p e) ses s (fun d =>
          (d.gather[e]).ring.st = (if (s.dev.gather[e]).job.isSome then 2 else 0) ∧ (d.gather[e]).job = (s.dev.gather[e]).job))) ∧
    (s.dev.commits ses (partIndex p 0xE0) item g →
      ((s.dev.parts[p]).collRing.st = 0 → s.dev.ringOk p g 64 = true →
        answersOk (.collRingOpen ses p) ses s (fun d => (d.parts[p]).collRing.st = 1 ∧ (d.parts[p]).collRing.base = g 1 ∧
          (d.parts[p]).collRing.log2 = g 2)) ∧
      ((s.dev.parts[p]).collRing.st = 1 →
        answersOk (.collRingClose ses p) ses s (fun d =>
          (d.parts[p]).collRing.st = (if (s.dev.parts[p]).coll.isSome then 2 else 0) ∧ (d.parts[p]).coll = (s.dev.parts[p]).coll)))

/-- Commits of ports, slice tables and collective layouts (R305, R315, R325). -/
def Obligations.LinkRecordCommits : Prop :=
  ∀ (s : State) (ses : SessId) (item : Nat) (g : Nat → Nat),
    (∀ p : PortNo, s.dev.commits ses (0x3100 + p.val) item g →
      ((s.dev.ports[p]).st = 0 → s.dev.portFieldsOk g p = true →
        answersOk (.portEnable ses p) ses s (fun d => (d.ports[p]).enabled = true ∧ (d.ports[p]).st = 1 ∧
          (d.ports[p]).replays = (s.dev.ports[p]).replays)) ∧
      answersOk (.portDisable ses p) ses s (fun d => (d.ports[p]).enabled = false ∧ (d.ports[p]).st = 0 ∧
        (d.ports[p]).out = [] ∧ (d.ports[p]).replay = [])) ∧
    (∀ k : SliceTab, s.dev.commits ses (0x3200 + k.val) item g →
      (∀ bs : List Byte, bs = (alGet (s.dev.session ses).stagedBlob (0x3200 + k.val, 3)).getD (s.dev.tableBytes k) →
        g 1 ≤ 4095 → g 2 ≤ 15 → (bs.length = 0 ∨ bs.length = 65536) →
        (∀ j : SliceTab, j ≠ k → (s.dev.tables[j]).active = true → (s.dev.tables[j]).id.toNat ≠ g 1) →
        (∀ e ∈ tableEntries bs, s.dev.entryBad (fin (g 2)) e.2 = false) → (∃ n : LaneNo, (s.dev.lanes[n]).bound = some (fin (g 2))) →
        answersOk (.sliceTableLoad ses k) ses s (fun d =>
          d.tables[k] = { active := true, id := BitVec.ofNat 12 (g 1), part := fin (g 2), entries := tableEntries bs })) ∧
      answersOk (.sliceTableRemove ses k) ses s (fun d => d.tables[k] = SliceTable.reset)) ∧
    (∀ k : SliceTab, s.dev.commits ses (0x3300 + k.val) item g → s.dev.layoutOk k g = true →
      ((s.dev.tables[k]).active = false ∨ (s.dev.parts[(s.dev.tables[k]).part]).coll = none) →
      answersOk (.collLayoutLoad ses k) ses s (fun d =>
        (d.layouts[k]).loaded = true ∧ (∀ a : Fin 4, (d.layouts[k]).axes[a] = BitVec.ofNat 32 (g (a.val + 1))) ∧
        (d.layouts[k]).wPlus = leBytes 16 (g 5) ∧ (d.layouts[k]).wMinus = leBytes 16 (g 6) ∧ (d.layouts[k]).stallUs = g 8 ∧
        (d.layouts[k]).rank = (d.layouts[k]).rankOf))

/-- Commits of context records (Table 15.5): a priority, a start, a teardown; the context must be the partition's. A write of 1 to
part.reset tears down what runs (R355, R358, R361, R363). -/
def Obligations.ContextCommits : Prop :=
  ∀ (s : State) (ses : SessId) (p : PartNo) (item : Nat) (g : Nat → Nat) (c : CtxNo),
    (s.dev.commits ses (partIndex p 0x10) item g → g 1 = c.val → (s.dev.ctxs[c]).part = some p → g 2 ≤ 7 →
      g 3 = (s.dev.ctxs[c]).saveBase → g 3 % 4096 = 0 → g 3 < 2 ^ 40 →
      (g 4 = 0 → answersOk (.ctxSetPriority ses p) ses s (fun d => (d.ctxs[c]).prioSet = fin (g 2) ∧
        (d.ctxs[c]).prio = (if (s.dev.ctxs[c]).st = .running then (s.dev.ctxs[c]).prio else fin (g 2)))) ∧
      (g 4 = 1 → (s.dev.ctxs[c]).st = .admitted → answersOk (.ctxStart ses p) ses s (fun d =>
        ((d.ctxs[c]).st = .ready ∨ (d.ctxs[c]).st = .running ∨ (d.ctxs[c]).st = .tearing) ∧ (d.ctxs[c]).stepNo = (s.dev.ctxs[c]).resumeStep)) ∧
      (g 4 = 2 → (s.dev.ctxs[c]).st = .running → answersOk (.ctxTearDown ses p) ses s (fun d => (d.ctxs[c]).st = .tearing ∧
        (d.ctxs[c]).teardownCause = some .command))) ∧
    (s.dev.agent ses (partIndex p 0x21) 1 true = true → (s.dev.ctxs[c]).part = some p → (s.dev.ctxs[c]).st = .running →
      answersOk (.partitionReset ses p 1) ses s (fun d => (d.ctxs[c]).st = .tearing ∧ (d.parts[p]).coll = none ∧
        (d.parts[p]).collRing.st = 0 ∧ (d.parts[p]).windows = (s.dev.parts[p]).windows))

/-- Binding (Table 15.2, R345, R346, R348, R350): free resources of every kind are bound at once; a release or a take of resources
that may be moved begins to drain its users; once no user runs every entry names no partition; expiry of the drain time tears running
users down; once what was moved is quiet it is scrubbed, and named to the partition that takes it, and the request is done. -/
def Obligations.BindingCommits : Prop :=
  (∀ (s : State) (ses : SessId) (p : PartNo) (item : Nat) (g : Nat → Nat) (b : BindReq),
    s.dev.commits ses (partIndex p 0) item g → (s.dev.parts[p]).bind.st ≠ 1 → (s.dev.parts[p]).bind.st ≠ 2 → s.dev.bindQueue = [] →
    s.dev.tableHeld p b = false →
    b = { BindReq.reset with kind := g 1, first := g 2, count := g 3, addr := g 4, action := g 5, flags := g 6, drainUs := g 7,
                             st := 1, startedAt := s.dev.devTime } →
    bindFieldsOk b = true → ({ s.dev.modBind p (fun _ => b) with bindQueue := [p] } : Device).judgeBind p b = none →
    (g 5 = 1 → answersOk (.bindFreeResources ses p) ses s (fun d => (d.parts[p]).bind.st = 3 ∧ (d.parts[p]).bind.result = 0 ∧
      (g 1 ≠ 2 → g 1 ≠ 3 → ∀ n : Nat, g 2 ≤ n → n < g 2 + g 3 → d.boundTo (g 1) n = some p) ∧
      (g 1 = 2 → ∀ k : Nat, g 4 ≤ k → k < g 4 + g 3 → heldAt d.pages p k = true) ∧
      (g 1 = 3 → ∀ k : Nat, g 4 ≤ k → k < g 4 + g 3 → heldAt d.granules p k = true))) ∧
    (g 5 = 0 → answersOk (.bindRelease ses p) ses s (fun d => (d.parts[p]).bind.st = 1 ∧ (d.parts[p]).bind.begun = true ∧
      (d.parts[p]).bind.kind = g 1 ∧ (d.parts[p]).bind.action = 0)) ∧
    (g 5 = 2 → answersOk (.bindTake ses p) ses s (fun d => (d.parts[p]).bind.st = 1 ∧ (d.parts[p]).bind.begun = true ∧
      (d.parts[p]).bind.kind = g 1 ∧ (d.parts[p]).bind.action = 2))) ∧
  (∀ (s : State) (p : PartNo), let b := (s.dev.parts[p]).bind
    s.dev.live = true → s.dev.up 3 = true →
    (b.st = 1 → b.begun = true → s.dev.tableHeld p b = false → s.dev.laneCollective b = false →
      (∀ c ∈ s.dev.drainUsers p, (s.dev.ctxs[c]).st ≠ .running ∧ (s.dev.ctxs[c]).saving = false) →
      (b.kind = 1 → ∀ n ∈ b.items, (s.dev.tiles[(fin n : TileNo)]).ctx = none) →
      ∃ u, exec (.rebindDrainDone p) s = .next u ∧ (u.dev.parts[p]).bind.st = 2 ∧
        (b.kind ≠ 2 → b.kind ≠ 3 → ∀ n ∈ b.items, u.dev.boundTo b.kind n = none) ∧
        (b.kind = 2 → ∀ k : Nat, b.addr ≤ k → k < b.addr + b.count → heldAt u.dev.pages p k = false) ∧
        (b.kind = 3 → ∀ k : Nat, b.addr ≤ k → k < b.addr + b.count → heldAt u.dev.granules p k = false)) ∧
    (∀ c : CtxNo, b.st = 1 → b.begun = true → 1000 * b.drainUs ≤ s.dev.since b.startedAt → c ∈ s.dev.drainUsers p →
      (s.dev.ctxs[c]).st = .running → (s.dev.ctxs[c]).saving = false →
      ∃ u, exec (.drainExpired p) s = .next u ∧ (u.dev.ctxs[c]).st = .tearing ∧
        (u.dev.ctxs[c]).teardownCause = some .drainExpired) ∧
    (b.st = 2 → (b.kind = 2 ∨ b.kind = 3 ∨ ∀ n ∈ b.items, s.dev.itemQuiet b.kind n = true) →
      s.dev.tableHeld p { b with owners := [] } = false → s.dev.bindQueue = [p] →
      ∃ u, exec (.rebindComplete p) s = .next u ∧ (u.dev.parts[p]).bind.st = 3 ∧ (u.dev.parts[p]).bind.result = 0 ∧
        u.dev.bindQueue = [] ∧
        (b.action = 2 → b.kind ≠ 2 → b.kind ≠ 3 → ∀ n ∈ b.items, n < kindCount b.kind → b.kind ≤ 8 → u.dev.boundTo b.kind n = some p) ∧
        (b.action = 0 → b.kind = 1 → s.dev.idleCtxs → ∀ n ∈ b.items, (u.dev.tiles[(fin n : TileNo)]).pocket = [] ∧
          (u.dev.tiles[(fin n : TileNo)]).bound = none)))

/-- Commits of an admission record and the end of a load (R273 to R275): an image that passes every check is reserved and loading,
another is refused; a withdrawn context is BOUND again with nothing of its image held; once every tile is loaded the context is
ADMITTED, and an uncorrectable error withdraws the admission. A tile that no other context holds is zeroed and given CODE, DATA and
the initial values of its clasps. -/
def Obligations.AdmissionCommits : Prop :=
  ∀ (s : State) (ses : SessId) (p : PartNo) (item : Nat) (g : Nat → Nat) (c : CtxNo),
    (s.dev.commits ses (partIndex p 0xD0) item g → g 1 = c.val → (s.dev.parts[p]).adm.st ≠ 1 → (s.dev.parts[p]).adm.st ≠ 2 →
      (s.dev.ctxs[c]).part = some p →
      (∀ raw : List Byte, (s.dev.ctxs[c]).st = .bound → (s.dev.ctxs[c]).image = none → g 2 % 4096 = 0 → g 2 < 2 ^ 40 → 64 ≤ g 3 →
        raw = (s.dev.loadBytes p (g 2) (g 3)).2.1.read 0 (g 3) →
        let d0 := s.dev.modPart p (fun q => { q with adm := { q.adm with ctx := c, image := g 2, length := g 3 } })
        answersOk (.admitCommit ses p) ses s (fun d => (d.parts[p]).adm.ctx = c ∧ (d.parts[p]).adm.image = g 2 ∧
          (d.parts[p]).adm.length = g 3 ∧ ((d.parts[p]).adm.st = 2 ∨ (d.parts[p]).adm.st = 4) ∧
          (s.dev.hbmBad = [] → (∀ q ∈ pageCuts (g 2) (g 3) ++ s.dev.copyCuts p (g 2) (g 3), (s.dev.transHbm p q.1).isSome = true) →
            (formatBad raw (g 3) = [] → d0.admitChecks p c raw = [] →
              (d.parts[p]).adm.st = 2 ∧ (d.ctxs[c]).image = some (d0.imageOf p (imgSections raw))) ∧
            (formatBad raw (g 3) ≠ [] ∨ d0.admitChecks p c raw ≠ [] → (d.parts[p]).adm.st = 4 ∧ (d.ctxs[c]).image = none)))) ∧
      ((s.dev.ctxs[c]).st = .admitted →
        answersOk (.admitWithdraw ses p) ses s (fun d => (d.ctxs[c]).st = .bound ∧ (d.ctxs[c]).image = none ∧
          (d.parts[p]).adm.st = 0 ∧ ∀ x ∈ d.sentinel, ¬ (x.part = p ∧ x.ctx = c)))) ∧
    (∀ (i : Image) (ok : Bool) (e : Device), s.dev.live = true → s.dev.up 3 = true → (s.dev.parts[p]).adm.st = 2 →
      (s.dev.parts[p]).adm.ctx = c → (s.dev.ctxs[c]).image = some i → s.dev.bindQueue = [] →
      i.tiles.foldl (fun (acc : Bool × Device) x => let q := acc.2.loadTile c p x; (acc.1 && q.1, q.2)) (true, s.dev) = (ok, e) →
      e.bindQueue = [] →
      (ok = true → exec (.admitLoadDone p) s = .next { s with dev := ((e.modCtx c (fun x => { x with st := .admitted })).modPart p
        (fun q => { q with adm := { q.adm with st := 3, report := admReport [] false } })) }) ∧
      (ok = false → ∃ u, exec (.admitLoadDone p) s = .next u ∧ (u.dev.ctxs[c]).image = none ∧ (u.dev.parts[p]).adm.st = 4)) ∧
    (∀ x : ImgTile, s.dev.heldByOther c x.tile = false → (s.dev.tiles[x.tile]).pocketBad = [] → x.data = [] → x.initValues = [] →
      ∀ (off : Nat) (bs : List Byte), x.code = [(off, bs)] → off + bs.length ≤ claspBase →
        s.dev.loadTile c p x = (true, s.dev.modTile x.tile (fun y =>
          { y with pocket := (y.pocket.clear 0 claspBase).write off bs })))

/-- Commits of the sentinel, repair and checkpoint records (R261, R262, R381, R383, R384); a checkpoint holds its context at the
boundary after the armed step, and lets it go when its time is over. -/
def Obligations.ReliabilityCommits : Prop :=
  (∀ (s : State) (ses : SessId) (p : PartNo) (item : Nat) (g : Nat → Nat),
    (∀ (e : SEntry) (rest : List SEntry), s.dev.commits ses (partIndex p 0xC0) item g → s.dev.sentinel = e :: rest → e.part = p →
      e.ctx.val = g 1 → e.tensor.toNat = g 2 → g 3 ≤ e.maxv.toNat → g 4 ≤ 1 →
      answersOk (.sentinelForceCommit ses p) ses s (fun d =>
        d.sentinel = { e with forced := some (BitVec.ofNat 4 (g 3), decide (g 4 = 1)) } :: rest)) ∧
    (∀ records : List Byte, s.dev.agent ses (partIndex p 0xC0) 5 true = true → (s.dev.sentWrite p records).1 = .ok →
      answersOk (.sentinelEntriesWrite ses p records) ses s (fun d => d.sentinel = (s.dev.sentWrite p records).2.sentinel)) ∧
    (∀ k : Fin 16, s.dev.commits ses (partIndex p 0xF0) item g → g 1 = k.val →
      (((s.dev.parts[p]).repairs[k]).on = false → s.dev.repairFieldsOk g p = true → 2 ≤ (s.dev.freeWindows p).length →
        answersOk (.repairRegister ses p) ses s (fun d => ((d.parts[p]).repairs[k]).on = true ∧
          ((d.parts[p]).repairs[k]).base = g 2 ∧ ((d.parts[p]).repairs[k]).length = g 3 ∧
          ((d.parts[p]).repairs[k]).windows = (s.dev.freeWindows p).take 2)) ∧
      answersOk (.repairRemove ses p) ses s (fun d => (d.parts[p]).repairs[k] = Repair.reset)) ∧
    (∀ c : CtxNo, s.dev.commits ses (partIndex p 0xB0) item g →
      (g 1 = c.val → (s.dev.ctxs[c]).part = some p → 1 ≤ g 3 → g 3 ≤ 3600000 → (s.dev.ctxs[c]).st ≠ .admitted →
        g 4 = (s.dev.ctxs[c]).resumeStep.toNat → (s.dev.ctxs[c]).nextStep ≤ g 2 →
        answersOk (.ckptArm ses p) ses s (fun d => (d.parts[p]).ckpt =
          { st := 1, ctx := c, step := BitVec.ofNat 64 (g 2), since := s.dev.devTime })) ∧
      answersOk (.ckptRelease ses p) ses s (fun d => (d.parts[p]).ckpt.st = 0))) ∧
  (∀ (s : State) (p : PartNo), let k := (s.dev.parts[p]).ckpt; let x := s.dev.ctxs[k.ctx]
    s.dev.live = true →
    (k.st = 1 → x.part = some p → x.st = .running → x.inStep = false → x.stepNo = k.step + 1 → s.dev.enginesQuiet k.ctx = true →
      exec (.ckptHold p) s = .next { s with dev := (s.dev.modPart p (fun q =>
        { q with ckpt := { q.ckpt with st := 2, since := s.dev.devTime } })).modCtx k.ctx (fun x => { x with heldAt := true }) }) ∧
    (k.st = 2 → s.dev.cfg 0x60B0 3 p * 1000000 ≤ s.dev.since k.since →
      ∃ u, exec (.ckptExpired p) s = .next u ∧ (u.dev.parts[p]).ckpt.st = 0))

/-- Suspicion and fittings (R385 to R389): a count decays, a tile falls due; a free patch tile that is due is fitted, and a tile of count 3 once it is not bound; a pass clears its record, a failure retires
it; a fitting falls due and its grace ends. -/
def Obligations.FittingResults : Prop :=
  ∀ (s : State) (x : PhysNo), let h := s.dev.health[x]
    s.dev.live = true →
    (h.suspect ≠ 0 → s.dev.cfg 0x5400 9 0 * hourNs ≤ s.dev.since h.lastSuspicion →
      exec (.suspicionDecay x) s = .next { s with dev := s.dev.modHealth x (fun h =>
        { h with suspect := fin (h.suspect.val - 1), lastSuspicion := s.dev.devTime }) }) ∧
    (h.role.val < 2 → isMemStop x = false → s.dev.cfg 0x5400 1 0 * hourNs ≤ s.dev.since h.lastFit →
      exec (.fitDue x) s = .next { s with dev := s.dev.modHealth x (fun h => { h with due := true }) }) ∧
    (s.dev.up 6 = true → isMemStop x = false → (∀ y ∈ panelStops (gridPanel x), (s.dev.health[y]).role ≠ 3) → h.role = 1 →
      h.due = true → (∀ c ∈ s.dev.ctxs.toList, c.shadow ≠ some x) →
      ∃ u, exec (.tileFitting x) s = .next u ∧ (u.dev.health[x]).role = 3 ∧ (u.dev.health[x]).fitStart = s.dev.devTime ∧
        u.dev.tiles = s.dev.tiles) ∧
    (s.dev.up 6 = true → isMemStop x = false → (∀ y ∈ panelStops (gridPanel x), (s.dev.health[y]).role ≠ 3) → h.role = 0 →
      h.suspect = 3 → (s.dev.tiles[h.ltile]).bound = none → s.dev.fitBarred h.ltile = false → s.dev.occupied h.ltile = false →
      ∃ u, exec (.tileFitting x) s = .next u ∧ (u.dev.health[x]).role = 3 ∧ (u.dev.health[x]).fitStart = s.dev.devTime) ∧
    (h.role = 3 → s.dev.patchMap[h.ltile] ≠ x →
      (∃ d : Device, exec (.fittingDone x true) s = .next { s with dev := d.schedule } ∧ (d.health[x]).role = 1 ∧
        (d.health[x]).suspect = 0 ∧ (d.health[x]).due = false ∧ (d.health[x]).lastFit = s.dev.devTime) ∧
      (∃ u, exec (.fittingDone x false) s = .next u ∧ (u.dev.health[x]).role = 2 ∧ x.val ∈ u.dev.retiredTiles)) ∧
    (h.role = 0 → h.due = true → h.overdue = false → s.dev.occupied h.ltile = true →
      (s.dev.cfg 0x5400 1 0 + s.dev.cfg 0x5400 2 0) * hourNs ≤ s.dev.since h.lastFit →
      ∃ u, exec (.fitGraceExpiry x) s = .next u ∧ (u.dev.health[x]).overdue = true ∧
        (s.dev.fitBarred h.ltile = true → ∃ a ∈ u.dev.alarms, a.code = 0x0105#16))

/-- Owner writes to fitting and retirement objects, and rst.command (R295, R386 to R388, R394). -/
def Obligations.OwnerWrites : Prop :=
  ∀ (s : State) (ses : SessId),
    (∀ x : PhysNo, s.dev.agent ses 0x5400 5 true = true → s.dev.tileFree x = true →
      answersOk (.fitRequestTile ses x) ses s (fun d => (d.health[x]).due = true)) ∧
    (s.dev.agent ses 0x5400 5 true = true → s.dev.noContexts = true →
      answersOk (.fitRequestDevice ses) ses s (fun d => ∀ x ∈ tileStops, (s.dev.health[x]).role.val < 2 → (d.health[x]).due = true)) ∧
    (∀ bundle : List Byte, s.dev.agent ses 0x5400 3 true = true → Config.bundleSignatureOk bundle = true →
      Config.namesOrderingCode bundle = true → s.dev.activeBundle.toNat ≤ (Config.bundleVersion bundle).toNat →
      answersOk (.fitBundleWrite ses bundle) ses s (fun d => d.fw.bundle = bundle ∧ d.fw.bundleVer = Config.bundleVersion bundle)) ∧
    (∀ list : List Byte, s.dev.agent ses 0x5400 0x0A true = true → (∀ t : TileNo, (s.dev.tiles[t]).bound = none) →
      list.length % 2 = 0 → (∀ n ∈ listEntries 2 list, n < 576 ∧ isMemStop (fin n) = false) →
      answersOk (.patchRetiredWrite ses list) ses s (fun d => d.retiredTiles = (listEntries 2 list).eraseDups)) ∧
    (∀ list : List Byte, s.dev.agent ses 0x4000 6 true = true → s.dev.pages = [] → list.length % 4 = 0 →
      (∀ n ∈ listEntries 4 list, n / 2 ^ 28 < 12 ∧ n % 2 ^ 28 < pagesPerStack) →
      answersOk (.hbmRetiredPagesWrite ses list) ses s (fun d =>
        d.retiredPages = ((listEntries 4 list).map pageEntry).eraseDups ∧ d.dueRetire = s.dev.dueRetire)) ∧
    (s.dev.agent ses 0x1010 5 true = true → s.dev.rst.held = false →
      ∃ u, exec (.rstCommand ses 1) s = .next u ∧ u.dev.rst.held = true ∧ u.dev.rst.cause = srcCommand ∧
        u.dev.rst.count = s.dev.rst.count + 1 ∧ u.dev.deviceDump.isSome = true)

/-- Commits of queue and event-queue records (R420, R425): a queue with a command submitted and not started stays as it
is, and answers QUEUE_BUSY to a delete. -/
def Obligations.QueueCommits : Prop :=
  ∀ (s : State) (ses : SessId) (p : PartNo) (item : Nat) (g : Nat → Nat),
    (∀ n : QueueNo, s.dev.commits ses (partIndex p 0x24) item g → g 1 = n.val →
      (((s.dev.parts[p]).queues[n]).st = 0 → g 2 % 4096 = 0 → g 3 % 4096 = 0 → 4 ≤ g 4 → g 4 ≤ 12 → g 5 ≤ 123 →
        answersOk (.queueCreate ses p) ses s (fun d => (d.parts[p]).queues[n] =
          { Queue.reset with st := 1, sqBase := BitVec.ofNat 64 (g 2), cqBase := BitVec.ofNat 64 (g 3), log2 := g 4, vector := g 5 })) ∧
      (((s.dev.parts[p]).queues[n]).st ≠ 0 → ((s.dev.parts[p]).queues[n]).started = [] → ((s.dev.parts[p]).queues[n]).waiting = [] →
        (((s.dev.parts[p]).queues[n]).st = 1 → ((s.dev.parts[p]).queues[n]).head = ((s.dev.parts[p]).queues[n]).tail) →
        answersOk (.queueDelete ses p) ses s (fun d => (d.parts[p]).queues[n] = Queue.reset)) ∧
      (((s.dev.parts[p]).queues[n]).st = 1 → ((s.dev.parts[p]).queues[n]).head ≠ ((s.dev.parts[p]).queues[n]).tail →
        ∃ u, exec (.queueDelete ses p) s = .next u ∧ u.dev.answered ses = 0x0102 ∧
          (u.dev.parts[p]).queues[n] = (s.dev.parts[p]).queues[n])) ∧
    (s.dev.commits ses (partIndex p 0x25) item g →
      (g 1 % 4096 = 0 → 6 ≤ g 2 → g 2 ≤ 14 → g 3 ≤ 123 →
        answersOk (.evqOn ses p) ses s (fun d => (d.parts[p]).evq =
          { Evq.reset with on := true, base := BitVec.ofNat 64 (g 1), log2 := g 2, vector := g 3 })) ∧
      answersOk (.evqOff ses p) ses s (fun d => (d.parts[p]).evq = { (s.dev.parts[p]).evq with on := false })) ∧
    (s.dev.commits ses 0x1100 item g →
      (g 1 % 4096 = 0 → 6 ≤ g 2 → g 2 ≤ 14 → g 3 ≤ 63 →
        answersOk (.devEvqOn ses) ses s (fun d => d.devEvq =
          { Evq.reset with on := true, base := BitVec.ofNat 64 (g 1), log2 := g 2, vector := g 3 })) ∧
      answersOk (.devEvqOff ses) ses s (fun d => d.devEvq = { s.dev.devEvq with on := false }))

/-- Counter sets, alarms, trace, freeze and scan (R448, R450, R454, R457, R458). -/
def Obligations.ObservationWrites : Prop :=
  ∀ (s : State) (ses : SessId),
    (∀ (k : Fin 32) (n : Fin 8) (v : W32), s.dev.agent ses (0x8800 + k.val) (n.val + 1) true = true → csetCtlOk v.toNat = true →
      answersOk (.counterSetControlWrite ses k n v) ses s (fun d => (d.csets[k])[n] =
        { ctl := BitVec.ofNat 32 (v.toNat % 2 ^ 23), cnt := 0 })) ∧
    (∀ (code source : W16) (a : Alarm) (rest : List Alarm), s.dev.agent ses 0xA000 3 true = true → s.dev.alarms = a :: rest →
      a.code = code → a.source = source →
      answersOk (.alarmAck ses code source) ses s (fun d => d.alarms = { a with active := false } :: rest)) ∧
    (s.dev.agent ses 0xA200 7 true = true →
      answersOk (.traceTrigger ses 1) ses s (fun d => d.trace = s.dev.trace.trig)) ∧
    (s.dev.agent ses 0xA200 8 true = true →
      answersOk (.traceArm ses 1) ses s (fun d => d.trace.st = 0 ∧ d.trace.buf = [] ∧ d.trace.mode = s.dev.cfg 0xA200 1 0 ∧
        d.trace.sizeMib = s.dev.cfg 0xA200 2 0 ∧ d.trace.pre = s.dev.cfg 0xA200 3 0)) ∧
    (s.dev.agent ses 0xA300 1 true = true →
      ∃ u, exec (.dbgFreeze ses 1) s = .next u ∧ u.dev.rst.frozen = true ∧ u.dev.tiles = s.dev.tiles ∧ u.dev.live = false) ∧
    (s.dev.live = true →
      exec .freezeNAssert s = .next { s with dev :=
        { s.dev with rst := { s.dev.rst with frozen := true }, trace := s.dev.trace.freezeNow } }) ∧
    (∀ i : Bool, ∃ u, exec (.jtagScan i) s = .next u ∧ u.dev.scan.frozen = s.dev.rst.frozen ∧
      (s.dev.rst.frozen = false → u.dev.scan.tiles = []) ∧
      u.dev.scan.tiles.map (·.mm) = (if i && s.dev.rst.frozen && Config.debugFuse then
        s.dev.tiles.toList.map (fun (x : Tile) => x.mm.stateWord) else []) ∧
      u.dev.tiles = s.dev.tiles) ∧
    (s.dev.live = true → s.dev.trace.st = 1 → s.dev.trace.after ≤ s.dev.trace.post →
      exec .traceFreeze s = .next { s with dev := { s.dev with trace := s.dev.trace.frozen } })

/-! ## Gather engines -/

/-- What the rows of a gather engine leave (R228, R229, R232, R234, R238): an empty bag is +0 in every element, a progress group
raises its clasp, an invalidation drops the lines of its range in all four row caches, phase A stages the new rows in the scratch area,
phase B copies a row and its state from there into place, and the end of a job writes its completion word, performs its done operation
and raises the tail clasp. -/
def Obligations.GatherResults : Prop :=
  ∀ (s : State) (g : GatherNo) (j : Job), let q := s.dev.gather[g]; let r := q.ring; let x := j.d
    (∀ (a v n : Nat), s.dev.atWork g j 0 = true → gIspc x = false → (s.dev.tiles[gItile x]).pocketBad = [] →
      (s.dev.tiles[gDtile x]).pocketBad = [] → j.bags + 1 = gNbags x → a = (gOff x + 4 * j.bags) % 2 ^ 21 → a + 8 ≤ claspBase →
      v = (s.dev.tiles[gItile x]).pocket.word a 8 → v / 2 ^ 32 = v % 2 ^ 32 → n = tD j.table * (if gOfmt x = 0 then 4 else 2) →
      gDoff x + j.bags * gDpitch x + n ≤ claspBase →
      ∃ u, exec (.gatherFwd g) s = .next u ∧
        (u.dev.gather[g]).job = some { j with bags := gNbags x, done := true, waitSince := none } ∧
        (u.dev.tiles[gDtile x]).pocket =
          (s.dev.tiles[gDtile x]).pocket.write (gDoff x + j.bags * gDpitch x) (List.replicate n 0)) ∧
    (∀ (w : W64) (d : Device), s.dev.live = true → q.job = some j → gOp x = 0 → j.released < j.groupsDue →
      s.dev.gatherOp g (gPtile x) (gPclasp x) 1 = (.word w, d) →
      exec (.gatherProgress g) s = .next { s with dev := d.modJob g (fun j => { j with released := j.released + 1 }) }) ∧
    (s.dev.atWork g j 2 = true →
      ∃ u, exec (.gatherRcInv g) s = .next u ∧ (u.dev.gather[g]).job = some { j with done := true } ∧
        ∀ (pn : PanelNo) (l : RLine), l ∈ u.dev.rowCache[pn] ↔ l ∈ s.dev.rowCache[pn] ∧
          ¬ (l.part = r.part ∧ (gIdx x = 0 ∨ (l.space = gRspace x ∧ 64 * l.line < gTdesc x + gIdx x ∧
                gTdesc x < 64 * l.line + 64)))) ∧
    (∀ (st : Staged) (d : Device), s.dev.atWork g j 1 = true → j.phaseA = false →
      s.dev.phaseA g r.part j (s.dev.ctxs[r.ctx]).stepNo = (.ok st, d) →
      exec (.gatherBwd g) s = .next { s with dev := d.modJob g (fun j =>
        { j with phaseA := true, rowsOut := st.rows, nidx := st.nidx, flags := st.flags, urows := 0, waitSince := none }) }) ∧
    (∀ (row space addr : Nat) (a : Got) (d e : Device), s.dev.atWork g j 1 = true → j.phaseA = true →
      j.rowsOut.drop j.urows = [(row, space, addr)] →
      s.dev.hbmRead r.part (scrRow x j.table j.nidx j.urows) (tRowBytes j.table) true = (a, d) → a.st = .ok →
      d.gatherWrite g r.part space addr a.bytes = (none, e) →
      let placed (e : Device) : Device := (e.modJob g (fun k => { k with urows := j.urows + 1 })).modJob g (fun k =>
        { k with bags := gNbags x, done := true, waitSince := none })
      (gOpt x = 0 → exec (.gatherPhaseB g) s = .next { s with dev := placed e }) ∧
      (∀ (b : Got) (d' e' : Device), gOpt x ≠ 0 →
        e.hbmRead r.part (scrState x j.table j.nidx j.urows) (gStateBytes x j.table) true = (b, d') → b.st = .ok →
        d'.gatherWrite g r.part 2 (tState j.table + row * gZ x j.table) b.bytes = (none, e') →
        exec (.gatherPhaseB g) s = .next { s with dev := placed e' })) ∧
    (∀ (w v : W64) (d d' e : Device), s.dev.live = true → q.job = some j → j.done = true → j.groupsDue ≤ j.released →
      j.skip = false → j.stage = 0 → j.status = 0 →
      s.dev.gatherWrite g r.part 2 (j.addr + 120) (leBytes 8 j.cmpl.toNat) = (none, d) →
      gDval x = 0 ∨ (gDclasp x < 48 ∧ d.owns r.part (gCtile x).val = true) →
      (let d1 := d.modJob g (fun j => { j with stage := max 1 j.stage, waitSince := none })
       if gDval x = 0 then (.word 0, d1) else d1.gatherOp g (gCtile x) (gDclasp x) (gDval x)) = (.word w, d') →
      (d'.modJob g (fun j => { j with stage := 2 })).gatherOp g r.tile r.tail 1 = (.word v, e) →
      exec (.gatherJobEnd g) s = .next { s with dev :=
        (let k := e.modGather g (fun q =>
          { q with job := none, ring := { q.ring with next := q.ring.next + 1, st := if q.ring.st = 2 then 0 else q.ring.st } })
         if r.st = 1 then k.ringWatch g else k) })

/-! ## Links and packets -/

/-- Lanes, ports and routers (R299, R303, R304, R307, R308, R316 to R318, R321, R342, Table 13.6): training, failure, retry,
acknowledgement, reception, hold window, substitution and return; the head packet of a class buffer leaves through the port its
table names, or is dropped and counted as SLICE_MISMATCH, NO_ROUTE or STALL; an ordinary port goes down and up. -/
def Obligations.LinkEvents : Prop :=
  (∀ (s : State) (n : LaneNo) (p : PortNo), let x := s.dev.lanes[n]; let q := s.dev.ports[p]
    s.dev.live = true →
    (∀ (slow : Bool) (chip : ChipId) (far : LaneNo), s.dev.portOfLane n = some p → q.enabled = true → x.st = 1 ∨ x.st = 3 →
      let bad : Prop := chip.toNat ≠ s.dev.cfg 0x3100 4 p ∨ (x.st = 1 ∧ 30000 < s.dev.since x.lastTry)
      let taken : Prop := ∃ m : LaneNo, m ≠ n ∧ (s.dev.lanes[m]).st = 2 ∧ (s.dev.lanes[m]).port = p ∧ s.dev.lanePlace m = s.dev.lanePlace n
      ∃ u, exec (.laneTrained n slow chip far) s = .next u ∧ let y := u.dev.lanes[n]
        y.slow = slow ∧ y.peerChip = chip ∧ y.peerLane = far ∧ (bad → y.st = 3) ∧ (¬ bad → taken → y.st = 4 ∧ y.subst = none) ∧
        (¬ bad → ¬ taken → y.st = 2 ∧ y.port = p)) ∧
    (x.st = 1 → 30000 ≤ s.dev.since x.lastTry →
      exec (.laneFailure n) s = .next { s with dev := s.dev.modLane n (fun x => { x with st := 3 }) }) ∧
    (s.dev.portOfLane n = some p → x.st = 3 ∨ x.st = 1 → q.enabled = true → 10000000 ≤ s.dev.since x.lastTry →
      exec (.laneRetry n) s = .next { s with dev := s.dev.modLane n (fun x => { x with st := 1, lastTry := s.dev.devTime }) }) ∧
    (x.st = 2 → x.port = p → q.st = 2 →
      ∃ u, exec (.laneFailure n) s = .next u ∧ (u.dev.lanes[n]).st = 3 ∧ (u.dev.lanes[n]).failedAt = s.dev.devTime ∧
        (u.dev.ports[p]).st = (if (s.dev.activeLanes p).length - 1 < s.dev.cfg 0x3100 6 p then 4 else 3) ∧
        (u.dev.ports[p]).replay = q.replay ∧ (u.dev.ports[p]).out = q.out) ∧
    (∀ (l : Lcw) (k : Nat), q.st = 2 ∨ q.st = 3 → l.crcOk = true → k = (l.ack - q.oldest).toNat → k ≤ q.replay.length →
      ∃ u, exec (.lcwReceive p l) s = .next u ∧ (u.dev.ports[p]).oldest = l.ack ∧ (u.dev.ports[p]).off = l.off ∧
        (u.dev.ports[p]).replay.take (q.replay.length - k) = q.replay.drop k) ∧
    (∀ (again : Bool) (pkt : Packet), pkt.wf = true → q.st = 2 ∨ q.st = 3 →
      (q.nakking = true → again = false →
        exec (.linkPacketReceive p ⟨again, pkt⟩) s = .next { s with dev := s.dev.fecCount p }) ∧
      (pkt.crcOk = true → q.nakking = false ∨ again = true →
        ∃ u, exec (.linkPacketReceive p ⟨again, pkt⟩) s = .next u ∧
          (u.dev.ports[p]).rx = q.rx.set pkt.cls (q.rx[pkt.cls] ++ [(pkt, s.dev.devTime)]) ∧
          (u.dev.ports[p]).rxCount = q.rxCount + 1 ∧ (u.dev.ports[p]).badCrc = 0 ∧ (u.dev.ports[p]).nakking = false) ∧
      (pkt.crcOk = false → q.nakking = false ∨ again = true → q.badCrc < 7 →
        ∃ u, exec (.linkPacketReceive p ⟨again, pkt⟩) s = .next u ∧ (u.dev.ports[p]).rx = q.rx ∧ (u.dev.ports[p]).nakking = true ∧
          (u.dev.ports[p]).badCrc = q.badCrc + 1 ∧ ∃ l ∈ (u.dev.ports[p]).lcwOut, l.nak = some q.rxCount)) ∧
    (∀ t : W64, q.failedAt = some t → 100000 ≤ s.dev.since t →
      (q.st = 3 → exec (.holdWindowExpiry p) s = .next { s with dev := s.dev.modPort p (fun q => { q with failedAt := none }) }) ∧
      (q.st = 4 → (∀ a : PartNo, s.dev.collUses a p = false) →
        ∃ u, exec (.holdWindowExpiry p) s = .next u ∧ (u.dev.ports[p]).st = 5 ∧ (u.dev.ports[p]).out = [] ∧
          (u.dev.ports[p]).replay = [])) ∧
    (∀ (f : LaneNo) (slow : Bool) (chip : ChipId) (far : LaneNo), q.st = 3 → (s.dev.lanes[f]).st = 3 →
      s.dev.lanePlace f ∈ s.dev.portLanes p →
      (∀ m : LaneNo, m ≠ f → (s.dev.lanes[m]).st = 2 → (s.dev.lanes[m]).port = p → s.dev.lanePlace m ≠ s.dev.lanePlace f) →
      (∀ t : W64, q.failedAt = some t → 100000 ≤ s.dev.since t) → (s.dev.idleSpares p).head? = some n →
      (s.dev.activeLanes p).length < (s.dev.portLanes p).length →
      ∃ u, exec (.laneSubstitution p f ⟨n, slow, chip, far⟩) s = .next u ∧
        (u.dev.lanes[n]).peerChip = chip ∧ (u.dev.lanes[n]).peerLane = far ∧ (u.dev.lanes[n]).slow = slow ∧
        (chip.toNat = s.dev.cfg 0x3100 4 p → (u.dev.lanes[n]).st = 2 ∧ (u.dev.lanes[n]).port = p ∧
          (u.dev.lanes[n]).subst = some (s.dev.lanePlace f) ∧ (u.dev.lanes[f]).subst = none ∧
          (u.dev.ports[p]).subst = BitVec.ofNat 8 (min 255 (q.subst.toNat + 1))) ∧
        (chip.toNat ≠ s.dev.cfg 0x3100 4 p → (u.dev.lanes[n]).st = 4 ∧ (u.dev.ports[p]).tried = q.tried ++ [n] ∧
          (u.dev.ports[p]).st = 3)) ∧
    (q.st = 5 → q.enabled = true → s.dev.cfg 0x3100 6 p ≤ (s.dev.activeLanes p).length →
      ∃ u, exec (.portReturn p) s = .next u ∧ (u.dev.ports[p]).rxCount = 0 ∧ (u.dev.ports[p]).nakking = false ∧
        (u.dev.ports[p]).st = (if (s.dev.portLanes p).length ≤ (s.dev.activeLanes p).length then 2 else 3))) ∧
  (∀ (s : State) (p : PortNo) (cls : Bool) (pkt : Packet), let c := clsNo false cls
    s.dev.live = true →
    (s.dev.headOf p c = some pkt → pkt.broken = false →
      (∀ (a : PartNo) (id : Nat) (k : SliceTab), s.dev.portSlice p = some (a, id) → s.dev.sliceOf a = some k →
        (pkt.slice = id → pkt.dst ≠ s.dev.chipId.toNat →
          (∀ (o : PortNo) (dtr : Bool), s.dev.nextHop p pkt ((s.dev.tables[k]).entry pkt.dst) = some (o, dtr) →
            s.dev.outBlocked o false (pkt.dcl && s.dev.portDim o = s.dev.portDim p) = false →
            exec (.routerForward (.port p cls)) s = .next
              { s with dev := (s.dev.popRx p c).sendOn o (setBit pkt.hdr 5 dtr) pkt.payload (pkt.dcl && s.dev.portDim o = s.dev.portDim p) }) ∧
          (s.dev.nextHop p pkt ((s.dev.tables[k]).entry pkt.dst) = none →
            exec (.routerForward (.port p cls)) s = .next { s with dev := (s.dev.popRx p c).drop (s.dev.portCuff p) 1 1 })) ∧
        (pkt.slice ≠ id →
          exec (.routerForward (.port p cls)) s = .next { s with dev := (s.dev.popRx p c).drop (s.dev.portCuff p) 0 1 }))) ∧
    (∀ (reply : Bool) (t : W64), ((s.dev.ports[p]).rx[clsNo reply cls]).head? = some (pkt, t) → s.dev.cfg 0x3000 2 0 ≠ 0 →
      1000 * s.dev.cfg 0x3000 2 0 ≤ s.dev.since t →
      exec (.routerStallDrop p reply cls) s =
        .next { s with dev := (s.dev.popRx p (clsNo reply cls)).drop (s.dev.portCuff p) 2 1 }) ∧
    (∀ n : NetNo,
      ((s.dev.net[n]).st ≠ 0 → exec (.netPortDown n) s = .next { s with dev := s.dev.modNet n (fun x =>
        { x with st := 0, downSince := s.dev.devTime, out := [], unacked := none }) }) ∧
      (s.dev.cfg 0x3500 1 n ≠ 0 → 6 ≤ s.dev.rst.state.val →
        exec (.netPortUp n) s = .next { s with dev := s.dev.modNet n (fun x => { x with st := 2 }) })))

/-- Packets for this chip (R142, R166, R167, R173, R180, R302, Table 13.3): an admitted request is performed and answered OK, a
denied write changes no pocket byte; a reply frees its TAG and reaches its requester; a notification raises its token. -/
def Obligations.PacketResults : Prop :=
  (∀ (s : State) (src : PktSrc) (a : PartNo) (pkt : Packet) (d : Device), let t : TileNo := fin pkt.tile; let n := pkt.payload.length
    s.dev.live = true → src.wf = true →
    (∀ ty : Nat, ty ≤ 1 → s.dev.takeHead src false (fun k => k.ty = ty) = some (a, pkt, d) →
      (d.pktAdmitted a pkt pkt.offset n rightWr = true → pkt.offset + n ≤ claspBase → (d.tiles[t]).pocketBad = [] →
        exec (if ty = 0 then .pktWrite src else .pktWriteF src) s = .next
          { s with dev := (d.modTile t (fun x => { x with pocket := x.pocket.write pkt.offset pkt.payload })).answer a pkt 9 pkt.req rsOk [] }) ∧
      (d.pktAdmitted a pkt pkt.offset n rightWr = false →
        ∃ u, exec (if ty = 0 then .pktWrite src else .pktWriteF src) s = .next u ∧
          ∀ v : TileNo, (u.dev.tiles[v]).pocket = (s.dev.tiles[v]).pocket)) ∧
    (∀ w k : Nat, s.dev.takeHead src false (fun k => k.ty = 2) = some (a, pkt, d) → w = leNat pkt.payload → k = w / 2 ^ 23 % 512 →
      1 ≤ k → k ≤ 256 → d.pktAdmitted a pkt pkt.offset k rightRd = true → pkt.offset + k ≤ claspBase → (d.tiles[t]).pocketBad = [] →
      exec (.pktRead src) s = .next
        { s with dev := d.answer a pkt 8 (w % 2 ^ 23) rsOk ((d.tiles[t]).pocket.read pkt.offset k) }) ∧
    (∀ w : BitVec 192, w = BitVec.ofNat 192 (leNat pkt.payload) →
      (s.dev.takeHead src false (fun k => k.ty = 3) = some (a, pkt, d) → fld w 24 6 ≠ clAllocOp → fld w 32 6 < 48 →
        d.pktAdmitted a pkt (claspOff (fld w 32 6)) 8 rightCl = true →
        ∀ (r : Option W64) (e : Device), d.claspApply t (fin (fld w 32 6))
          { op := fld w 24 6, vsrc := bitOf w 30, w0 := BitVec.ofNat 64 (fld w 64 64), w1 := BitVec.ofNat 64 (fld w 128 64),
            own := none, by_ := none } = (r, e) →
        (∀ word : W64, r = some word →
          exec (.pktAtomic src) s = .next { s with dev := e.answer a pkt 10 (fld w 0 23) rsOk (leBytes 8 word.toNat) }) ∧
        (r = none → exec (.pktAtomic src) s = .next { s with dev := e.answer a pkt 10 (fld w 0 23) rsPoison [] })) ∧
      (s.dev.takeHead src false (fun k => k.ty = 4) = some (a, pkt, d) → fld w 30 6 < 48 →
        d.pktAdmitted a pkt (claspOff (fld w 30 6)) 8 rightCl = true →
        ∀ (res : RegRes) (word : W64) (e : Device), d.registerWatch t
          { value := BitVec.ofNat 48 (fld w 64 48), clasp := fin (fld w 30 6), cond := fin (fld w 23 2), nkind := fin (fld w 25 2),
            narg := fin (fld w 27 3), remote := true, wait := fld w 25 2 = 1, tile := fin pkt.req, chip := BitVec.ofNat 15 pkt.src,
            ctx := fin (fld w 36 8), holder := .tile .ld, inv := false, tag := fld w 0 23 } none = (res, word, e) →
        (res = .accepted →
          exec (.pktWatch src) s = .next { s with dev := e.answer a pkt 10 (fld w 0 23) rsOk (leBytes 8 word.toNat) }) ∧
        (res = .queued → exec (.pktWatch src) s = .next { s with dev := e }) ∧
        (res = .poison → exec (.pktWatch src) s = .next { s with dev := e.answer a pkt 10 (fld w 0 23) rsPoison [] })))) ∧
  (∀ (s : State) (src : PktSrc) (a : PartNo) (pkt : Packet) (d e : Device), s.dev.live = true → src.wf = true →
    (∀ (m : MoverId) (k : Nat) (x : Desc) (r : Nat × Nat × Nat),
      s.dev.takeHead src true (fun k => k.ty = 8) = some (a, pkt, d) → d.claimTag pkt.tag = (some (.mover m k), e) →
      (e.slot m k).desc = some x → (e.slot m k).reads.find? (fun r => r.1 = pkt.tag) = some r → (e.slot m k).st ≠ .stopping →
      pkt.status = 0 →
      exec (.pktReadRsp src) s = .next { s with dev := ((e.modSlot m k (fun s =>
        { s with reads := s.reads.filter (fun q => q.1 ≠ pkt.tag) })).modSlot m k (fun s =>
        { s with buf := s.buf ++ pkt.payload })).moveOn m k }) ∧
    (∀ (m : MoverId) (k : Nat) (x : Desc), s.dev.takeHead src true (fun k => k.ty = 9) = some (a, pkt, d) →
      reqMover pkt.tag = some m →
      firstIdx (fun (s : Slot) => s.awaits ≠ 0 && (s.desc.map (fun x => d.epFar (x.ep true))).getD false) (d.mover m).slots = some k →
      (d.slot m k).desc = some x → (d.slot m k).st ≠ .stopping → pkt.status = 0 →
      exec (.pktWriteAck src) s = .next
        { s with dev := ((d.modSlot m k (fun s => { s with awaits := s.awaits - 1 })).delivered m k).moveOn m k }) ∧
    (∀ (t : TileNo) (g : Eng) (f : Flight) (word : W64), s.dev.takeHead src true (fun k => k.ty = 10) = some (a, pkt, d) →
      d.claimTag pkt.tag = (some (.tile t g), e) → ((e.tiles[t]).flight[g.idx]).find? (fun f => f.tag = some pkt.tag) = some f →
      decodeOp f.e.word ≠ some .clWait → pkt.status = 0 → word = BitVec.ofNat 64 (leNat pkt.payload) →
      let answered := (e.journalAnswer t pkt.tag 0 word).modFlightWhere t g (fun h => h.tag == some pkt.tag)
        (fun h => { h with tag := none, awaits := 0 })
      alGet answered.tags pkt.tag = none ∧
      (clVsrc f.e.word = false → exec (.pktAtomicRsp src) s = .next { s with dev := answered }) ∧
      (clVsrc f.e.word = true → clPoff f.e.word + 16 ≤ claspBase → (s.dev.tiles[t]).pocketBad = [] →
        exec (.pktAtomicRsp src) s = .next { s with dev := answered.modTile t (fun x =>
          { x with pocket := x.pocket.write (clPoff f.e.word + 8) (leBytes 8 word.toNat) }) })) ∧
    (∀ (w : W128) (f : FarWatch) (t : TileNo) (c : CtxNo) (k : Fin 8), s.dev.takeHead src true (fun k => k.ty = 11) = some (a, pkt, d) →
      w = BitVec.ofNat 128 (leNat pkt.payload) → d.farFor pkt w = some f → f.w.nkind = 0 → t = f.w.tile → c = f.w.ctx → k = f.w.narg →
      ((s.dev.tiles[t]).ctx = some c → ((s.dev.tiles[t]).tok[k]).toNat < 255 →
        ∃ u, exec (.pktNotify src) s = .next u ∧ (u.dev.tiles[t]).tok = (s.dev.tiles[t]).tok.set k ((s.dev.tiles[t]).tok[k] + 1) ∧
          (u.dev.tiles[t]).claspNote = (if bitOf w 22 then setBit (s.dev.tiles[t]).claspNote k.val true
            else (s.dev.tiles[t]).claspNote)) ∧
      ((s.dev.tiles[t]).ctx ≠ some c →
        ∃ u, exec (.pktNotify src) s = .next u ∧ (u.dev.tiles[t]).tok = (s.dev.tiles[t]).tok ∧
          (u.dev.tiles[t]).claspNote = (s.dev.tiles[t]).claspNote)))

/-! ## Collectives -/

/-- Taking, moving and ending collectives (R326 to R329, R335, R339): a good descriptor sends READY to both neighbours of every level
named and reads its inputs, one that breaks Table 14.3 ends with BAD_DESC; READY, CREDIT and COLL_DATA reach their stream; a chunk uses
what came and a credit, and an uncorrectable error in a staging buffer resets the partition; the end writes the completion word and moves
the ring on; ABORT, a stall and a lost ordinary port abort, and the ABORT of a collective that has ended is forwarded once. -/
def Obligations.CollectiveResults : Prop :=
  ∀ (s : State) (p : PartNo), let r := (s.dev.parts[p]).collRing; let l := s.dev.layoutOf p
    s.dev.live = true →
    (∀ row ∈ collRows, ∀ (w : Got) (d : Device) (x : BitVec 512) (addr : Nat), (s.dev.parts[p]).coll = none → r.st = 1 → r.ready = true →
      (s.dev.ctxs[r.ctx]).ringsTake = true → s.dev.noNewJobs r.ctx = false → addr = r.base + 64 * (r.next % 2 ^ r.log2) →
      s.dev.hbmRead p addr 64 true = (w, d) → w.st = .ok → x = BitVec.ofNat 512 (leNat w.bytes) → cOp x = row.2 →
      (d.collBad p x = true → ∃ u, exec (row.1 p) s = .next u ∧ (u.dev.parts[p]).coll = none ∧
        (u.dev.parts[p]).collRing.next = r.next + 1 ∧ (u.dev.parts[p]).collPrev = some (cId x)) ∧
      (d.collBad p x = false → (s.dev.parts[p]).collEarly = [] →
        let j : CollJob :=
          { addr := addr, d := x, loaded := false, vals := [], out := [], lists := [],
            halves := List.replicate (2 * (cPhases x).length) ⟨0, 0, 0⟩,
            streams := (cLevels x).flatMap (fun v => [false, true].map (fun m =>
              ({ level := v, dir := m, staged := [], spread := [], bad := false, credits := 0, ready := false } : CStream))),
            lastMove := d.devTime, flags := 0, suspects := [] }
        let e := (cLevels x).foldl (fun e v => [false, true].foldl (fun e m =>
            e.collCtl p v (!m) (cId x).toNat 0 m 0 0 0 (cDigest x).toNat) e)
          (d.modPart p (fun q => { q with coll := some j, collRing := { q.collRing with ready := false } }))
        exec (row.1 p) s = .next { s with dev := e.collLoad p j })) ∧
    (∀ row ∈ collRows, ∀ (j : CollJob) (w : Got) (bss : List (List Byte)) (d : Device), let x := j.d
      (s.dev.parts[p]).coll = some j → j.loaded = false → cOp x = row.2 → w.st = .ok →
      let bs := bss.getD 0 []
      (row.2 ≤ 1 → cLevels x ≠ [] →
        s.dev.readMany p ((List.range (2 ^ cLlog x)).map (fun i => (cSrc x + i * cLstride x, cInBytes x * cCount x))) = (w, bss, d) →
        ∀ vs : List (W32 × Byte), vs = (List.range (cCount x)).map (fun i =>
          localValue (cIsc x) (bss.map (fun b => (cDecode x b).getD i 0))) →
        exec (row.1 p) s = .next { s with dev := d.modColl p (fun k =>
          { k with loaded := true, vals := vs.map (·.1), flags := k.flags ||| orBytes (vs.map (·.2)) }) }) ∧
      (row.2 = 2 → s.dev.readMany p [(cSrc x, cCount x)] = (w, bss, d) →
        exec (row.1 p) s = .next { s with dev :=
          (d.modColl p (fun k => { k with loaded := true })).collPut p x [(l.rankOf * cCount x, cCount x)] bs }) ∧
      (row.2 = 3 → l.rankOf = cRoot x → s.dev.readMany p [(cSrc x, cCount x)] = (w, bss, d) →
        exec (row.1 p) s = .next { s with dev := (d.modColl p (fun k => { k with loaded := true })).collPut p x [(0, cCount x)] bs }) ∧
      (row.2 = 3 → l.rankOf ≠ cRoot x →
        exec (row.1 p) s = .next { s with dev := s.dev.modColl p (fun k => { k with loaded := true }) }) ∧
      (row.2 = 4 → s.dev.readMany p [(cSrc x, 8 * cK x)] = (w, bss, d) →
        exec (row.1 p) s = .next { s with dev := d.modColl p (fun k => { k with loaded := true, out := k.out.write 0 bs }) })) ∧
    (∀ (src : PktSrc) (pkt : Packet) (d : Device) (j : CollJob), src.wf = true → (d.parts[p]).coll = some j →
      (s.dev.collPacket src false (fun k => k.ty = 5) = some (p, pkt, d) → fld pkt.hdr 56 8 = (cId j.d).toNat % 256 →
        exec (.pktCollData src) s = .next { s with dev := d.modColl p (fun j =>
          { j with lastMove := d.devTime, streams := j.streams.map (fun q =>
              if q.level.val = fld pkt.hdr 64 2 ∧ q.dir = bitOf pkt.hdr 66 then
                (if bitOf pkt.hdr 67 then { q with spread := q.spread ++ pkt.payload } else { q with staged := q.staged ++ pkt.payload })
              else q) }) }) ∧
      (∀ m : CollCtl, m = ctlOf pkt →
        (s.dev.collPacket src true (ctlIs [0]) = some (p, pkt, d) →
          (∀ q ∈ j.streams, q.level = m.level → q.dir = m.dir → q.ready = false) →
          let agrees : Prop := (m.level = 3 ∨ m.src = d.cfg 0x3100 4 ((d.layoutOf p).port m.level m.dir)) ∧ m.id = cId j.d ∧
            m.data = cDigest j.d
          (agrees →
            exec (.collReady src) s = .next { s with dev := d.modColl p (fun j => { j with streams := j.streams.map (fun q =>
              if q.level = m.level ∧ q.dir = m.dir then { q with ready := true, credits := q.credits + 2 } else q) }) }) ∧
          (¬ agrees →
            ∃ u, exec (.collReady src) s = .next u ∧ (u.dev.parts[p]).coll = none ∧ (u.dev.parts[p]).collPrev = some (cId j.d))) ∧
        (s.dev.collPacket src true (ctlIs [1]) = some (p, pkt, d) → m.id = cId j.d →
          exec (.collCredit src) s = .next { s with dev := d.modColl p (fun j => { j with streams := j.streams.map (fun q =>
            if q.level = m.level ∧ q.dir = m.dir then { q with credits := q.credits + m.data.toNat } else q) }) }) ∧
        (s.dev.collPacket src true (ctlIs [2, 3]) = some (p, pkt, d) → m.kind = 2 →
          (m.id = cId j.d → ∃ u, exec (.collAbortReceive src) s = .next u ∧ (u.dev.parts[p]).coll = none ∧
            (u.dev.parts[p]).collPrev = some (cId j.d) ∧ (u.dev.parts[p]).collCut = true) ∧
          (m.id ≠ cId j.d → (d.parts[p]).collPrev = some m.id → (d.parts[p]).collCut = false →
            exec (.collAbortReceive src) s = .next { s with dev :=
              (d.modPart p (fun q => { q with collCut := true })).sendAborts p m.id.toNat m.status m.origin m.port })))) ∧
    (∀ j : CollJob, (s.dev.parts[p]).coll = some j →
      (∀ (st : Stream) (i : Nat) (c : CChunk) (q : CStream), j.loaded = true →
        j.streams.find? (fun q => q.level = st.level && q.dir = st.dir) = some q → j.pick l st q = some (i, c) →
        (c.step.consume = true → q.bad = true →
          exec (.collChunkReduce p st) s = .next { s with dev := s.dev.resetPartition p .staging }) ∧
        (c.kind = .reduce → (c.step.send = true ∨ i + 1 ≠ (cLevels j.d).length) → (c.step.consume = true → q.bad = false) →
          ∀ (lo n : Nat) (own : List W32), lo = ((c.step.runs.map (·.1)).getD 0 0) + c.off / 4 → n = c.len / 4 →
          own = (j.vals.drop lo).take n →
          ∃ (u : State) (k : CollJob), exec (.collChunkReduce p st) s = .next u ∧ (u.dev.parts[p]).coll = some k ∧
            k.lastMove = s.dev.devTime ∧
            k.vals = j.vals.take lo ++ (if c.step.consume then ((wordsOfBytes (q.staged.take c.len)).zip own).map (fun z => fadd z.1 z.2)
              else own) ++ j.vals.drop (lo + n) ∧
            ∃ q' ∈ k.streams, q'.level = st.level ∧ q'.dir = st.dir ∧
              q'.staged = (if c.step.consume then q.staged.drop c.len else q.staged) ∧
              q'.credits = (if c.step.send then q.credits - 1 else q.credits))) ∧
      (j.loaded = true → j.allDone l = true →
        ∃ u, exec (.collComplete p) s = .next u ∧ (u.dev.parts[p]).coll = none ∧ (u.dev.parts[p]).collRing.next = r.next + 1 ∧
          (u.dev.parts[p]).collPrev = some (cId j.d) ∧
          (cOp j.d ≠ 4 → u.dev.hbm = (s.dev.hbmWrite p (j.addr + 56)
            (leBytes 8 (collWord 0 j.flags s.dev.chipId.toNat 15).toNat) false).2.hbm)) ∧
      (1000 * l.stallUs ≤ s.dev.since j.lastMove →
        ∃ u, exec (.collStall p) s = .next u ∧ (u.dev.parts[p]).coll = none ∧ (u.dev.parts[p]).collPrev = some (cId j.d)) ∧
      (∀ n : NetNo, cLevel j.d 3 = true →
        ((s.dev.net[n]).st = 2 ∧ ∃ t : W64, (s.dev.net[n]).unacked = some t ∧ 7 * 256000 ≤ s.dev.since t) ∨
          ((s.dev.net[n]).st ≠ 2 ∧ 100000 ≤ s.dev.since (s.dev.net[n]).downSince) →
        ∃ u, exec (.collNetLost p n) s = .next u ∧ (u.dev.parts[p]).coll = none ∧ (u.dev.parts[p]).collPrev = some (cId j.d)))

/-! ## Time -/

/-- Device time (R407): the counter counts on an empty queue, a slew adds or omits single nanoseconds, every device reset keeps
it, power-on starts it from 0, the first edge after reset sets it, and a read of the lower half latches the upper one. -/
def Obligations.DeviceTime : Prop :=
  (∀ s : State, s.pending = [] → ∃ u, step s = .next u ∧ u.pending = [] ∧
    (u.dev.devTime = s.dev.devTime ∨ u.dev.devTime = s.dev.devTime + 1 ∨ u.dev.devTime = s.dev.devTime + 2) ∧
    (s.dev.tsync.slew = 0 → u.dev.devTime = s.dev.devTime + 1)) ∧
  (∀ (s : State) (c : Fin 9) (level : Bool), (s.dev.startReset c level).devTime = s.dev.devTime) ∧
  State.reset.dev.devTime = 0 ∧ (∀ s : State, ∃ u, exec .powerOn s = .next u ∧ u.dev.devTime = 0) ∧
  (∀ (s : State) (e : W64), s.dev.tsync.epoch = some e →
    (s.dev.rst.firstMark = true → s.dev.tsync.missed = false → (∀ c : CtxNo, (s.dev.ctxs[c]).st.started = false) →
      ∃ u, exec .rackMarkEdge s = .next u ∧ u.dev.devTime = e ∧ u.dev.rst.firstMark = false) ∧
    (s.dev.rst.firstMark = false → ∃ u, exec .rackMarkEdge s = .next u ∧ u.dev.devTime = s.dev.devTime)) ∧
  (∀ s : State, exec (.clkDevtimeRead false) s =
      .next { s with dev := { s.dev with devLatch := BitVec.ofNat 32 (s.dev.devTime.toNat / 2 ^ 32) } } ∧
    exec (.clkDevtimeRead true) s = .next s)

/-- Rack time (R323, R324, R408, Table 13.13): missed edges raise TIME_MARK_MISSED, the reference comes and goes, the rack master
sends the epoch of the next edge to every other chip of its rack and follows its time transmitter through the delay request-response
exchange, or answers as one, and a member takes the epoch of a TIME packet. -/
def Obligations.RackTimeResults : Prop :=
  ∀ s : State, let y := s.dev.tsync
    (y.edges ≠ 0 → 1001000 < s.dev.since y.lastEdge →
      ∃ u, exec .rackMarkTimeout s = .next u ∧ u.dev.tsync.lastEdge = y.lastEdge + 1000000 ∧ u.dev.devTime = s.dev.devTime ∧
        ∃ a ∈ u.dev.alarms, a.code = 0x0108#16) ∧
    exec .rackRefLoss s = .next { s with dev := { s.dev with tsync := { y with refOk := false, st := 2 } } } ∧
    (y.refOk = false → ∃ u, exec .rackRefReturn s = .next u ∧ u.dev.tsync.refOk = true ∧
      u.dev.tsync.st = (if y.edges = 0 then 0 else y.lockState) ∧ u.dev.devTime = s.dev.devTime) ∧
    (s.dev.live = true → y.master = true →
      (∀ (e : W64) (k : SliceTab), y.edges ≠ 0 → y.sentMark = false → 200000 ≤ s.dev.since y.lastEdge →
        s.dev.since y.lastEdge ≤ 800000 → e = y.ptpTime y.lastEdge + 1000000 → s.dev.tableOf y.eff[(5 : Fin 6)] = some k →
        exec .markEpochSend s = .next { s with dev := (
          (((List.range (y.eff[(4 : Fin 6)] + 1 - y.eff[(3 : Fin 6)])).map (· + y.eff[(3 : Fin 6)])).filter
            (fun c => c ≠ s.dev.chipId.toNat)).foldl
            (fun d c => d.inject (s.dev.tables[k]).part collarCuff 0xD c 0 (leBytes 16 (e.toNat + (y.edges.toNat % 2 ^ 32) <<< 64)))
            { s.dev with tsync := { y with epoch := some e, sentMark := true } }) }) ∧
      (∀ (port : NetNo) (domain : Byte), y.eff[(1 : Fin 6)] = port.val → y.eff[(2 : Fin 6)] = domain.toNat → (s.dev.net[port]).st = 2 →
        (∀ t1 : W64, y.ptpTx = false →
          exec (.ptpMessage ⟨port, domain, .sync true t1⟩) s = .next { s with dev := { s.dev with tsync :=
            { y with ptpOut := [], ptpT1 := some t1, ptpT3 := none,
                     ptpOffset := (s.dev.devTime.toNat : Int) - (t1.toNat : Int) } } } ∧
          exec (.ptpMessage ⟨port, domain, .sync false t1⟩) s = .next { s with dev := { s.dev with tsync :=
            { y with ptpOut := [.delayReq], ptpT1 := some t1, ptpT3 := some s.dev.devTime,
                     ptpOffset := (s.dev.devTime.toNat : Int) - (t1.toNat : Int) } } }) ∧
        (∀ t3 t4 : W64, y.ptpT3 = some t3 →
          exec (.ptpMessage ⟨port, domain, .delayResp t4⟩) s = .next { s with dev := { s.dev with tsync :=
            { y with ptpOut := [], ptpT1 := none, ptpT3 := none, ptpLocked := true,
                     ptpOffset := (y.ptpOffset - ((t4.toNat : Int) - (t3.toNat : Int))) / 2 } } }) ∧
        (y.ptpTx = true →
          exec (.ptpMessage ⟨port, domain, .delayReq⟩) s = .next { s with dev := { s.dev with tsync :=
            { y with ptpOut := [.delayResp s.dev.devTime] } } })) ∧
      (∃ u, exec .timePtpLost s = .next u ∧ u.dev.tsync.ptpLocked = false ∧ (y.st = 3 → u.dev.tsync.st = 1) ∧
        ∃ a ∈ u.dev.alarms, a.code = 0x0109#16)) ∧
    (∀ (src : PktSrc) (a : PartNo) (pkt : Packet) (d : Device), s.dev.live = true → src.wf = true →
      s.dev.takeHead src true (fun k => k.ty = 13) = some (a, pkt, d) → y.master = false → y.eff[(3 : Fin 6)] ≤ pkt.src →
      pkt.src ≤ y.eff[(4 : Fin 6)] → pkt.slice = y.eff[(5 : Fin 6)] →
      exec (.pktTime src) s = .next { s with dev := d.modTsync (fun y =>
        { y with epoch := some (BitVec.ofNat 64 (leNat (pkt.payload.take 8))) }) })

/-! ## Reset, bring-up, components -/

/-- What State.reset holds: every store in its canonical form, no command waiting, and the values the spec gives after power-on
(Tables 17.3, 17.6, R145, R399). -/
def Obligations.ResetState : Prop :=
  State.reset.safe ∧ State.reset.pending = [] ∧ State.reset.dev.devTime = 0 ∧ State.reset.dev.rst.cause = 0 ∧
    State.reset.dev.rst.secondary = 0 ∧ State.reset.dev.rst.count = 1 ∧ State.reset.dev.rst.state = 1 ∧
    ∀ t : TileNo, let x := State.reset.dev.tiles[t]
      x.pocket = [] ∧ x.cvtStatus = 0 ∧ x.accStatus = 0 ∧ x.vxStatus = 0 ∧ x.faultInfo = 0 ∧ x.pocketErr = 0 ∧ x.liningErr = 0 ∧
      x.claspNote = 0 ∧ x.moverNote = 0 ∧ x.ctx = none ∧ x.bound = none

/-- Reset sources, the host port, the end of a reset (R394 to R398, R415). -/
def Obligations.ResetSources : Prop :=
  ∀ s : State,
    (∀ row ∈ resetRows, resetStarts row.1 row.2 s) ∧
    (∀ row ∈ hostRows, s.dev.cfg 0x1010 6 0 = 0 →
      (row.1 = .pcieLinkLoss → ∃ t : W64, s.dev.rst.linkDownAt = some t ∧ 10000000 ≤ s.dev.since t) →
      resetStarts row.1 row.2 s) ∧
    (∀ k : StackNo, s.dev.live = true → (s.dev.hbmStacks[k]).st ≠ 2 → resetStarts (.stackFailure k) 8 s) ∧
    (s.dev.cfg 0x1010 6 0 ≠ 0 → s.dev.rst.held = false → exec .pcieHotReset s = .next { s with dev := s.dev.hostPortReset }) ∧
    (∃ u, exec .powerOn s = .next u ∧ u.dev.rst.held = true ∧ u.dev.rst.cause = 0 ∧ u.dev.rst.secondary = 0 ∧ u.dev.rst.count = 1 ∧
      u.dev.devTime = 0) ∧
    (∃ u, exec .perstNDeassert s = .next u ∧ u.dev.rst.perst = false ∧ u.dev.rst.hostReset = false ∧
      u.dev.rst.asserted.getLsbD 2 = false ∧ u.dev.tiles = s.dev.tiles) ∧
    (s.dev.rst.linkUp = true → exec .hostLinkDown s = .next
      { s with dev := { s.dev with rst := { s.dev.rst with linkUp := false, linkDownAt := some s.dev.devTime } } }) ∧
    (s.dev.rst.held = false → s.dev.rst.hostReset = false → exec .hostLinkUp s = .next
      { s with dev := { s.dev with rst := { s.dev.rst with linkUp := true, linkDownAt := none } } }) ∧
    (s.dev.rst.held = true → s.dev.rst.asserted = 0 → 20000000 ≤ s.dev.since s.dev.rst.since →
      exec .resetRelease s = .next { s with dev := { s.dev with rst := { s.dev.rst with released := true } } }) ∧
    (s.dev.rst.held = true → s.dev.rst.released = true → ∃ u, exec .resetEnd s = .next u ∧ u.dev.rst.held = false ∧
      u.dev.rst.state = 1 ∧ u.dev.chipId = BitVec.ofNat 15 (s.dev.cfg 0x3000 1 0) ∧ u.dev.tiles = s.dev.tiles) ∧
    (s.dev.rst.thermTrip = true → ∃ u, exec .thermalTripClear s = .next u ∧ u.dev.rst.thermTrip = false ∧
      u.dev.rst.asserted.getLsbD 6 = false ∧ ∀ i : Fin 64, u.dev.sensors[i] < 760)

/-- The stages of bring-up (Table 17.4, R401, R402) and the collar's components (R22, R439). -/
def Obligations.BringupAndComponents : Prop :=
  ∀ s : State, s.dev.live = true →
    (∀ r : StageResult,
      (s.dev.rst.state = 1 → ∃ u, exec (.bringupStage r) s = .next u ∧ u.dev.rst.state = 2) ∧
      (∀ b : Fin 2, s.dev.rst.state = 2 → s.dev.rst.bootSel.toNat < 2 → s.dev.fw.select s.dev.rst.bootSel = some b →
        ∃ u, exec (.bringupStage r) s = .next u ∧ u.dev.rst.state = 3 ∧ u.dev.fw.running = b) ∧
      (s.dev.rst.state = 2 → s.dev.rst.bootSel.toNat < 2 → s.dev.fw.select s.dev.rst.bootSel = none →
        ∃ u, exec (.bringupStage r) s = .next u ∧ u.dev.rst.state = 8) ∧
      (s.dev.rst.state = 2 → 2 ≤ s.dev.rst.bootSel.toNat → r.image = none →
        (s.dev.fw.verified = false → exec (.bringupStage r) s = .next s) ∧
        (s.dev.fw.verified = true → ∃ u, exec (.bringupStage r) s = .next u ∧ u.dev.rst.state = 3 ∧
          u.dev.fw.running = s.dev.fw.spare)) ∧
      (s.dev.rst.state = 3 → ∃ u, exec (.bringupStage r) s = .next u ∧ u.dev.rst.state = 4) ∧
      (r.fatal = false →
        (s.dev.rst.state = 4 → ∃ u, exec (.bringupStage r) s = .next u ∧ u.dev.rst.state = 5 ∧ u.dev.hbm = []) ∧
        (s.dev.rst.state = 5 → ∃ u, exec (.bringupStage r) s = .next u ∧ u.dev.rst.state = 6 ∧
          ∀ t : TileNo, (u.dev.tiles[t]).pocket = []) ∧
        (s.dev.rst.state = 6 → ∃ u, exec (.bringupStage r) s = .next u ∧ u.dev.rst.state = 7)) ∧
      (r.fatal = true → 4 ≤ s.dev.rst.state.val → s.dev.rst.state.val < 7 →
        ∃ u, exec (.bringupStage r) s = .next u ∧ u.dev.rst.state = 10 ∧ ∃ a ∈ u.dev.alarms, a.code = 0x0106#16)) ∧
    (∀ n : Fin 8, let recent := (s.dev.comps[n]).times.filter (fun t => s.dev.since t < 600000000000)
      (recent.length < 3 →
        (n ≠ 0 → ∃ u, exec (.fwComponentRestart n) s = .next u ∧ (u.dev.comps[n]).restarting = true ∧
          (u.dev.comps[n]).restarts = (s.dev.comps[n]).restarts + 1 ∧ (n = 7 → u.dev.sessions = [])) ∧
        (s.dev.spareUsed = false → ∃ u, exec (.collarCoreFail n) s = .next u ∧ u.dev.spareUsed = true ∧
          (u.dev.comps[n]).restarting = true)) ∧
      (n = 0 ∨ 3 ≤ recent.length → ∃ u, exec (.fwComponentRestart n) s = .next u ∧ u.dev.rst.held = true ∧ u.dev.rst.cause = 8) ∧
      (s.dev.spareUsed = true → ∃ u, exec (.collarCoreFail n) s = .next u ∧ u.dev.rst.held = true ∧ u.dev.rst.cause = 8) ∧
      ((s.dev.comps[n]).restarting = true → ∃ u, exec (.fwRestartComplete n) s = .next u ∧ (u.dev.comps[n]).restarting = false))

/-- While a device reset is held, or the part is frozen, no island acts (R396, R457): every other command changes nothing, and
that is an invariant of the run: as long as only such commands come, every step leaves everything but time as it was. -/
def Obligations.HeldOrFrozenPart : Prop :=
  (∀ (s : State) (c : Instr), s.dev.live = false → c.wf = true → alwaysOn c = false → exec c s = .next s) ∧
  (∀ (k : Device) (s t : State), s.standsAs k → step s = .next t → t.standsAs k)

/-! ## Clocks and power -/

/-- The brake (R413): islands fall to pwr.brake.floor_mhz at once, no wake event is granted while it is low, requests stay queued,
descents continue, nothing but clocks changes; after its release every running island below its target has asked to climb.
Then wake events, descents and limits (R404, R405, R409, R410, R412, R414). -/
def Obligations.PowerResults : Prop :=
  (∀ s : State, s.dev.live = true →
    (∃ u, exec .pwrBrakeAssert s = .next u ∧ u.dev.rst.brake = true ∧ u.dev.panels = s.dev.panels ∧ ∀ t : TileNo,
      (u.dev.tiles[t]).mhz ≤ s.dev.cfg 0x2100 2 0 ∧ u.dev.tiles[t] = { s.dev.tiles[t] with mhz := (u.dev.tiles[t]).mhz }) ∧
    (s.dev.rst.brake = true →
      (∀ p : PanelNo, exec (.wakeGrant p) s = .next s) ∧
      (∀ t : TileNo, 1 < (s.dev.tiles[t]).level.val → 2000 ≤ s.dev.since (s.dev.tiles[t]).lastArray →
        ∃ u, exec (.levelDescend t) s = .next u ∧ (u.dev.tiles[t]).level.val + 1 = (s.dev.tiles[t]).level.val) ∧
      (∃ u, exec .pwrBrakeRelease s = .next u ∧ u.dev.rst.brake = false ∧ ∀ t : TileNo,
        (u.dev.tiles[t]).pocket = (s.dev.tiles[t]).pocket ∧ (u.dev.tiles[t]).flight = (s.dev.tiles[t]).flight ∧
        ((u.dev.tiles[t]).level ≠ 0 → (u.dev.tiles[t]).mhz ≤ u.dev.target t ∧
          ((u.dev.tiles[t]).mhz < u.dev.target t → (u.dev.tiles[t]).queued = true)))) ∧
    (s.dev.rst.brake = false → ∃ u, exec .pwrBrakeRelease s = .next u ∧ u.dev.rst.brake = false)) ∧
  (∀ s : State, s.dev.live = true →
    (∀ (p : PanelNo) (t : TileNo) (rest : List TileNo), (s.dev.panels[p]).wakes = t :: rest → s.dev.rst.brake = false →
      s.dev.grantedNow p < 32 → (s.dev.tiles[t]).level = 0 →
      ∃ u, exec (.wakeGrant p) s = .next u ∧ (u.dev.tiles[t]).level = 1 ∧ (u.dev.tiles[t]).mhz = s.dev.target t ∧
        (u.dev.panels[p]).wakes = rest ∧ (u.dev.tiles[t]).queued = false ∧ u.dev.grantedNow p = s.dev.grantedNow p + 1) ∧
    (∀ t : TileNo, 1 < (s.dev.tiles[t]).level.val → 2000 ≤ s.dev.since (s.dev.tiles[t]).lastArray →
      exec (.levelDescend t) s = .next { s with dev := s.dev.modTile t (fun x =>
        { x with level := fin (x.level.val - 1), lastArray := s.dev.devTime }) }) ∧
    (∀ t : TileNo, (∀ e : Fin 4, (s.dev.tiles[t]).queues[e] = [] ∧ (s.dev.tiles[t]).flight[e] = []) →
      50000 ≤ s.dev.since (s.dev.tiles[t]).lastActive →
      exec (.levelIdle t) s = .next { s with dev := s.dev.modTile t (fun x => { x with level := 0, mhz := 0 }) }) ∧
    (∀ (p : PanelNo) (k : Fin 14) (r : W16), let q := s.dev.panels[p]; let lim : Int := 8 * (s.dev.cfg 0x2200 1 0 : Nat)
      (lim < r.toInt → 600 < q.thermal → 20000 ≤ s.dev.since q.lastThermal →
        ∃ u, exec (.thermalThrottleStep p k r) s = .next u ∧ (u.dev.panels[p]).thermal = q.thermal - 50 ∧
          ∀ t : TileNo, panelOf t = p → (u.dev.tiles[t]).level ≠ 0 → (u.dev.tiles[t]).mhz ≤ q.thermal - 50) ∧
      (r.toInt ≤ lim - 16 → (∀ i ∈ panelSensors p, s.dev.sensors[i] ≤ lim - 16) → 200000 ≤ s.dev.since q.lastThermal →
        ∃ u, exec (.thermalThrottleStep p k r) s = .next u ∧ (u.dev.panels[p]).thermal = min 1800 (q.thermal + 50) ∧
          (u.dev.panels[p]).heldLevel1 = false)) ∧
    (∀ w : W16, ∃ u, exec (.powerLimiterStep w) s = .next u ∧ u.dev.packageW = w ∧
      (s.dev.cfg 0x2100 1 0 < w.toNat → u.dev.powerLimit = max 600 (s.dev.powerLimit - 50)) ∧
      (100 * w.toNat ≤ 95 * s.dev.cfg 0x2100 1 0 → w.toNat ≤ s.dev.cfg 0x2100 1 0 →
        u.dev.powerLimit = min 1800 (s.dev.powerLimit + 50))) ∧
    (∀ (p : PanelNo) (mv : W16), 600 ≤ mv.toNat →
      ∃ u, exec (.panelRailVoltageChange p mv) s = .next u ∧ (u.dev.panels[p]).railMv = mv.toNat ∧
        ∀ t : TileNo, panelOf t = p → (u.dev.tiles[t]).level ≠ 0 → (u.dev.tiles[t]).mhz ≤ railCeiling mv.toNat) ∧
    (∀ k : Fin 8, ∃ u, exec (.thermCuffHot k) s = .next u ∧ u.dev.tiles = s.dev.tiles ∧ ∃ a ∈ u.dev.alarms, a.code = 0x0107#16))

/-! ## The host port -/

/-- Doorbells (R417, R424, R425): a tail or head in range is taken; one that makes more than depth - 1 entries outstanding puts
the queue into the error state with QUEUE_INVALID. Queue commands at the head of an SQ (R421, R422, Table 18.3), and the
message of a vector held back for 2 us (R426). -/
def Obligations.QueueCommands : Prop :=
  (∀ (s : State) (p : PartNo) (n : QueueNo) (v : W32), let q := (s.dev.parts[p]).queues[n]; let i := fld v 0 16
    s.dev.live = true →
    (q.st = 1 → i < 2 ^ q.log2 → ringDist q.log2 q.head i + q.outstanding ≤ 2 ^ q.log2 - 1 →
      exec (.sqTailDoorbell p n v) s = .next { s with dev := s.dev.modQueue p n (fun q => { q with tail := i }) }) ∧
    (q.st = 1 → 2 ^ q.log2 ≤ i ∨ 2 ^ q.log2 - 1 < ringDist q.log2 q.head i + q.outstanding →
      exec (.sqTailDoorbell p n v) s = .next { s with dev := s.dev.modQueue p n (fun q => { q with st := 2, error := 0x0101 }) }) ∧
    (q.st ≠ 0 → i < 2 ^ q.log2 → ringDist q.log2 q.cqHead i ≤ ringDist q.log2 q.cqHead q.cqTail →
      ∃ u, exec (.cqHeadDoorbell p n v) s = .next u ∧ ((u.dev.parts[p]).queues[n]).cqHead = i ∧
        ((u.dev.parts[p]).queues[n]).tail = q.tail ∧ ((u.dev.parts[p]).queues[n]).st = q.st) ∧
    (∀ f : Fn, (s.dev.evqOf f).on = true → i < 2 ^ (s.dev.evqOf f).log2 →
      ringDist (s.dev.evqOf f).log2 (s.dev.evqOf f).head i ≤ ringDist (s.dev.evqOf f).log2 (s.dev.evqOf f).head (s.dev.evqOf f).tail →
      ∃ u, exec (.evqHeadDoorbell f v) s = .next u ∧ (u.dev.evqOf f).head = i ∧ (u.dev.evqOf f).on = true)) ∧
  (∀ (s : State) (p : PartNo) (n : QueueNo) (w : BitVec 512), let q := (s.dev.parts[p]).queues[n]; let c := qCtx w
    s.dev.live = true → s.dev.sqHead p n = some w → s.dev.rst.state = 7 →
    (qOpc w = 0 → exec (.nop p n) s = .next
      { s with dev := (s.dev.sqPop p n).postCq p n { cid := qCid w, status := 0, detail := 0 } }) ∧
    (qOpc w = 1 → qCount w ≠ 0 → (s.dev.ctxs[c]).part = some p → (s.dev.ctxs[c]).st.started = true →
      ∃ d : Device, exec (.stepRelease p n) s = .next { s with dev := d.schedule } ∧
        (d.ctxs[c]).releases = (s.dev.ctxs[c]).releases ++ [(qCount w, p, n, qCid w)] ∧
        ((d.parts[p]).queues[n]).head = (q.head + 1) % 2 ^ q.log2 ∧ ∃ x, ((d.parts[p]).queues[n]).started = q.started ++ [x]) ∧
    (∀ (b : BitVec 1024) (e : Desc) (d : Device), b = BitVec.ofNat 1024 (leNat (s.dev.hostMem.read (qLblk w) 128)) → qOpc w = 2 →
      qLblk w % 128 = 0 →
      s.dev.launchBad p true (BitVec.ofNat 512 (fld b 0 512)) (BitVec.ofNat 256 (fld b 512 256)) (BitVec.ofNat 256 (fld b 768 256))
        = false → (s.dev.ctxs[c]).part = some p → (s.dev.ctxs[c]).st.admitted_ = true → (s.dev.ctxs[c]).st ≠ .tearing →
      e = { d := BitVec.ofNat 512 (fld b 0 512), srcRec := BitVec.ofNat 256 (fld b 512 256), dstRec := BitVec.ofNat 256 (fld b 768 256),
            origin := .host p n (qCid w), ctx := c, part := p, e := { word := 0, recs := [], bnd := Vector.replicate 16 0, pcq := 0 } } →
      (∀ z ∈ (s.dev.mover (execMover none e.d)).arrivals, z.part ≠ p) → s.dev.placeDesc (execMover none e.d) e = some d →
      exec (.moverLaunch p n) s = .next
        { s with dev := (d.sqPop p n).modQueue p n (fun q => { q with started := q.started ++ [.channel (qCid w) c] }) }) ∧
    (qOpc w = 3 → exec (.moverCancel p n) s = .next { s with dev := (((s.dev.slotsWith (fun y => y.origin = .host p n (qTcid w))).foldl
        (fun d q => d.cancelSlot q.1 q.2) s.dev).sqPop p n).postCq p n { cid := qCid w, status := 0, detail := 0 } }) ∧
    (∀ vec : Fin 124, let m := (s.dev.parts[p]).msix[vec]
      m.deferred = true → 2000 ≤ (s.dev.devTime - m.lastSent).toNat →
      let m' : Msix := if m.masked then { m with deferred := false, pba := true }
        else { m with deferred := false, lastSent := s.dev.devTime, sent := m.sent + 1 }
      exec (.msixDeferredSend (.vf p) vec) s =
        .next { s with dev := s.dev.modPart p (fun q => { q with msix := q.msix.set vec m' }) }))

/-- BAR4 (R418): what the host writes into a bound pocket it reads back; a tile that is not bound reads all ones and takes no
write, and neither does the clasp region; both are logged as BAR4_UNBOUND. Registers software writes (R10): a 1 clears a W1C
bit, a 0 leaves it; RO bits stay. -/
def Obligations.BarAndRegisters : Prop :=
  (∀ (s : State) (p : PartNo) (off : BitVec 31) (bs : List Byte), let t : TileNo := fin (off.toNat / pocketSize)
    let o := off.toNat % pocketSize
    s.dev.live = true → barAccess off bs.length = true → off.toNat + bs.length ≤ 0x40000000 → o + bs.length ≤ pocketSize →
    ((s.dev.tiles[t]).bound = some p → o + bs.length ≤ claspBase → (s.dev.tiles[t]).pocketBad = [] →
      ∃ u v, exec (.bar4Write p off bs) s = .next u ∧ (u.dev.tiles[t]).pocket = (s.dev.tiles[t]).pocket.write o bs ∧
        exec (.bar4Read p off bs.length) u = .next v ∧ (v.dev.parts[p]).barRead = some bs ∧ (v.dev.parts[p]).barPoison = false ∧
        v.dev.tiles = u.dev.tiles) ∧
    ((s.dev.tiles[t]).bound ≠ some p →
      (∃ u, exec (.bar4Write p off bs) s = .next u ∧ u.dev.tiles = s.dev.tiles ∧ ∃ l ∈ u.dev.errLog, l.code = 0x020B#16) ∧
      (∃ u, exec (.bar4Read p off bs.length) s = .next u ∧ (u.dev.parts[p]).barRead = some (List.replicate bs.length 0xFF) ∧
        ∃ l ∈ u.dev.errLog, l.code = 0x020B#16)) ∧
    ((s.dev.tiles[t]).bound = some p → claspBase < o + bs.length →
      ∃ u, exec (.bar4Write p off bs) s = .next u ∧ u.dev.tiles = s.dev.tiles ∧ ∃ l ∈ u.dev.errLog, l.code = 0x020B#16)) ∧
  (∀ (s : State) (t : TileNo) (v : W64), let x := s.dev.tiles[t]
    s.dev.live = true →
    exec (.registerWrite (.vxStatus t) v) s =
      .next { s with dev := s.dev.modTile t (fun x => { x with vxStatus := x.vxStatus &&& ~~~(v.setWidth 32 &&& 0xF) }) } ∧
    exec (.registerWrite (.cvtStatus t) v) s =
      .next { s with dev := s.dev.modTile t (fun x => { x with cvtStatus := x.cvtStatus &&& ~~~(v.setWidth 32 &&& 0xFF) }) } ∧
    exec (.registerWrite (.accStatus t) v) s =
      .next { s with dev := s.dev.modTile t (fun x => { x with accStatus := x.accStatus &&& ~~~(v.setWidth 32 &&& 0x7) }) } ∧
    exec (.registerWrite (.faultInfo t) v) s =
      .next { s with dev := s.dev.modTile t (fun x => { x with faultInfo := x.faultInfo &&& ~~~(v &&& 0x800) }) } ∧
    (bitOf v 15 = true → ∃ u, exec (.registerWrite (.pocketErr t) v) s = .next u ∧ fld (u.dev.tiles[t]).pocketErr 0 16 = 0 ∧
      fld (u.dev.tiles[t]).pocketErr 18 46 = fld x.pocketErr 18 46) ∧
    (bitOf v 15 = false → ∃ u, exec (.registerWrite (.pocketErr t) v) s = .next u ∧
      fld (u.dev.tiles[t]).pocketErr 0 16 = fld (x.pocketErr &&& ~~~v) 0 16 ∧
      fld (u.dev.tiles[t]).pocketErr 18 46 = fld x.pocketErr 18 46) ∧
    (∀ p : PartNo, exec (.registerWrite (.busMaster p) v) s =
      .next { s with dev := s.dev.modPart p (fun q => { q with busMaster := bitOf v 0 }) }) ∧
    (∀ f : Fn, bitOf v 0 = false → bitOf v 4 = false → ∃ u, exec (.registerWrite (.mbxCtrl f) v) s = .next u ∧
      fld (u.dev.mbxOf f) 5 8 = fld v 5 8 ∧ bitOf (u.dev.mbxOf f) 2 = (bitOf (s.dev.mbxOf f) 2 && !bitOf v 2) ∧
      bitOf (u.dev.mbxOf f) 1 = bitOf (s.dev.mbxOf f) 1) ∧
    exec (.registerWrite .readOnly v) s = .next s)

/-! ## The dictionary and the management paths -/

/-- Dictionary requests (R430 to R435), shown on rel.audit.n and rel.patch.retired: a READ answers the value, a WRITE stores it or
the nearest in range with a clamp-log entry, DESCRIBE answers the record of its table, DOMAINs move in segments, ABANDON, expiry
and the end of a session discard what is staged. -/
def Obligations.DictionaryRequests : Prop :=
  ∀ (s : State) (ses : SessId) (tag : Byte), let x := s.dev.session ses
    (s.dev.agent ses 0x5300 1 false = true → x.staged = [] → answersOk (.read ses tag 0x5300 1) ses s (fun d =>
      (d.session ses).resp = { opc := 1, tag := tag, status := 0, ty := 4, value := leBytes 4 (s.dev.cfg 0x5300 1 0) })) ∧
    (s.dev.agent ses 0x5300 1 true = true → ∀ v : W32,
      (v = 0 ∨ (16 ≤ v.toNat ∧ v.toNat ≤ 1048576) → answersOk (.write ses tag 0x5300 1 (leBytes 4 v.toNat)) ses s (fun d =>
        d.cfg 0x5300 1 0 = v.toNat ∧ (d.session ses).resp.value = leBytes 4 v.toNat ∧ d.clampLog = s.dev.clampLog)) ∧
      (1048576 < v.toNat → ∃ u, exec (.write ses tag 0x5300 1 (leBytes 4 v.toNat)) s = .next u ∧ u.dev.answered ses = 1 ∧
        u.dev.cfg 0x5300 1 0 = 1048576 ∧ (u.dev.session ses).resp.value = leBytes 4 1048576 ∧
        ∃ e ∈ u.dev.clampLog, e.written = v.setWidth 64 ∧ e.stored = 1048576)) ∧
    (s.dev.agent ses 0x5300 1 false = true → answersOk (.describe ses tag 0x5300 1) ses s (fun d =>
      (d.session ses).resp.value = [0x04, 0x01, 0x00] ++ leBytes 2 4 ++ leBytes 4 4096 ++ leBytes 4 0 ++ leBytes 4 1048576 ++
        asciiBytes "rel.audit.n")) ∧
    (s.dev.agent ses 0x5400 0x0A false = true → x.stagedBlob = [] → ∀ off : W32,
      answersOk (.readSeg ses tag 0x5400 0x0A off) ses s (fun d =>
        (d.session ses).resp.value = ((s.dev.retiredTiles.flatMap (leBytes 2)).drop off.toNat).take 4080)) ∧
    (s.dev.agent ses 0x5400 0x0A true = true → ∀ bs : List Byte, bs.length ≤ 4080 →
      answersOk (.writeSeg ses tag 0x5400 0x0A 0 bs false) ses s (fun d =>
        alGet (d.session ses).segs (0x5400, 0x0A) = some (bs, s.dev.devTime) ∧ d.retiredTiles = s.dev.retiredTiles)) ∧
    (∀ i : W16, s.dev.asks ses = true → answersOk (.abandon ses tag i) ses s (fun d =>
      (∀ e ∈ (d.session ses).staged, e.1.1 ≠ i.toNat) ∧ (∀ e ∈ (d.session ses).stagedBlob, e.1.1 ≠ i.toNat))) ∧
    (∀ (i : W16) (t : W64), s.dev.live = true → x.open_ = true → alGet x.stagedAt i.toNat = some t →
      stageLife ≤ (s.dev.devTime - t).toNat → ∃ u, exec (.stageExpiry ses i) s = .next u ∧
        i.toNat ∈ (u.dev.session ses).expired ∧ ∀ e ∈ (u.dev.session ses).staged, e.1.1 ≠ i.toNat) ∧
    (∀ f : Fn, s.dev.live = true → ∃ u, exec (.sessionEnd f) s = .next u ∧ (u.dev.session (fnSes f)).open_ = false ∧
      (u.dev.session (fnSes f)).staged = []) ∧
    (s.dev.live = true → sesMgmt ses = true → x.open_ = true → 60000000000 ≤ s.dev.since x.lastMsg →
      ∃ u, exec (.sessionTimeout ses) s = .next u ∧ (u.dev.session ses).open_ = false ∧ (u.dev.session ses).staged = [])

/-- The I3C target and firmware update (R428, R441, R442): the addresses are taken, each PLDM command moves the update on for its
agent, and an activated image becomes bank A. SPDM requests (R444, R445): each is answered from its stage of the connection on,
and moves the connection as the protocol says; slot 0 alone has a chain, and secured sessions are for the MCTP paths. -/
def Obligations.ManagementResults : Prop :=
  (∀ (s : State) (ses : SessId), let f := s.dev.fw
    (s.dev.live = true → ∀ a b : BitVec 7,
      (s.dev.i3cDyn = none → exec (.i3cEntdaa b) s = .next { s with dev := { s.dev with i3cDyn := some b } } ∧
        (a.toNat = 0x30 + s.dev.rst.mgmtAddr.toNat →
          exec (.i3cSetdasa a b) s = .next { s with dev := { s.dev with i3cDyn := some b } })) ∧
      (∃ u, exec .i3cBusReset s = .next u ∧ ∀ e : Byte, (u.dev.session (.i3c e)).open_ = false)) ∧
    (s.dev.asks .pf0 = true → ∀ (r : List Byte) (rest : List (List Byte)), f.requests = r :: rest →
      answersOk (.mctpMsg .pf0 []) .pf0 s (fun d => (d.session .pf0).resp.value = r ∧ d.fw.requests = rest)) ∧
    (s.dev.asks ses = true → sesPart ses = none →
      answersOk (.queryDeviceIdentifiers ses) ses s (fun d => d.fw.reply = pcOk :: pldmDescriptors) ∧
      answersOk (.getFirmwareParameters ses) ses s (fun d => d.fw.reply = pcOk :: s.dev.fwParameters) ∧
      answersOk (.getStatus ses) ses s (fun d => d.fw.reply = [pcOk, BitVec.ofNat 8 f.pldm.val]) ∧
      (f.pldm = 0 → s.dev.ownerSes ses = true → answersOk (.requestUpdate ses) ses s (fun d =>
        d.fw.pldm = 1 ∧ d.fw.agent = some ses ∧ d.fw.reply = [pcOk])) ∧
      (f.pldm ≠ 0 → answersOk (.requestUpdate ses) ses s (fun d => d.fw.reply = [pcAlreadyInUpdate] ∧ d.fw.pldm = f.pldm)) ∧
      (f.agent = some ses →
        (∀ ids : List W16, f.pldm = 1 → ids ≠ [] → (∀ i ∈ ids, i = 1 ∨ i = 2) →
          answersOk (.passComponentTable ses ids) ses s (fun d => d.fw.pldm = 2 ∧ d.fw.reply = [pcOk])) ∧
        (∀ (id : W16) (size : W32), f.pldm = 2 → id = 1 ∨ id = 2 → 0 < size.toNat →
          answersOk (.updateComponent ses id size) ses s (fun d => d.fw.pldm = 3 ∧ d.fw.comp = id ∧ d.fw.size = size.toNat ∧
            d.fw.image = [])) ∧
        (∀ data : List Byte, f.pldm = 3 → data ≠ [] → f.image.length + data.length < f.size →
          answersOk (.firmwareData ses data) ses s (fun d => d.fw.image = f.image ++ data ∧ d.fw.pldm = 3)) ∧
        (f.pldm = 2 → f.verified = true → answersOk (.activateFirmware ses) ses s (fun d =>
          d.fw.bankA = f.spare ∧ d.fw.pldm = 0 ∧ d.fw.running = f.running ∧ d.fw.bankVer = f.bankVer)) ∧
        (f.pldm = 3 → answersOk (.cancelUpdateComponent ses) ses s (fun d => d.fw.pldm = 2 ∧ d.fw.image = [])) ∧
        (f.pldm ≠ 0 → answersOk (.cancelUpdate ses) ses s (fun d => d.fw.pldm = 0 ∧ d.fw.agent = none ∧ d.fw.bankA = f.bankA))))) ∧
  (∀ (s : State) (ses : SessId) (x : Spdm), s.dev.spdmAt ses x = true →
    spdmAnswers (.spdmGetVersion ses) ses s ([0x04, 2] ++ leBytes 2 0x1200 ++ leBytes 2 0x1300) { x with st := 1 } ∧
    (1 ≤ x.st.val → ∃ r, spdmAnswers (.spdmGetCapabilities ses) ses s r { x with st := if x.st.val < 2 then 2 else x.st }) ∧
    (2 ≤ x.st.val → ∃ r, spdmAnswers (.spdmNegotiateAlgorithms ses true) ses s r { x with st := 3 }) ∧
    (2 ≤ x.st.val → ∀ (c : List Byte) (last : Bool), ∃ r,
      spdmAnswers (.spdmChunkSend ses c last) ses s r { x with chunk := x.chunk ++ c }) ∧
    (2 ≤ x.st.val → ∃ u, exec (.spdmChunkGet ses) s = .next u ∧ (u.dev.spdmOf ses).reply = 0x06 :: x.large.take Config.spdmChunk) ∧
    (3 ≤ x.st.val →
      spdmAnswers (.spdmGetDigests ses) ses s ([0x01, 0x01] ++ Config.sha384 Config.certChain) x ∧
      (∀ o n : W16, o.toNat ≤ Config.certChain.length → ∃ r, spdmAnswers (.spdmGetCertificate ses 0 o n) ses s r x ∧
        r.drop 5 = (Config.certChain.drop o.toNat).take n.toNat) ∧
      (∀ nonce : List Byte, spdmAnswers (.spdmChallenge ses 0 nonce) ses s
        (withSig ([0x03] ++ Config.sha384 Config.certChain) nonce) x) ∧
      (∀ nonce : List Byte, spdmAnswers (.spdmGetMeasurements ses 4 nonce) ses s
        (withSig ([0x60, 1] ++ s.dev.measurement 4) nonce) x) ∧
      (∀ (k : List Byte) (m : Bool), sesMgmt ses = true → ∃ r, spdmAnswers (.spdmKeyExchange ses 0 k m) ses s r
        { x with secured := 1, mutual_ := m, authOwner := false })) ∧
    (x.secured = 1 → (s.dev.session ses).open_ = false → s.dev.mgmtOpen < 8 →
      ∃ u, exec (.spdmFinish ses true []) s = .next u ∧ (u.dev.session ses).open_ = true ∧ (u.dev.spdmOf ses).secured = 2) ∧
    (x.secured = 2 →
      spdmAnswers (.spdmHeartbeat ses) ses s [0x68] x ∧
      spdmAnswers (.spdmKeyUpdate ses) ses s [0x69] { x with keyGen := x.keyGen + 1 } ∧
      (∃ u, exec (.spdmEndSession ses) s = .next u ∧ (u.dev.spdmOf ses).secured = 0 ∧ (u.dev.session ses).open_ = false)))
end

