-- ==== Sys2Proof/Laws/Memory.lean ====
section
/-! SUPPORT. Laws of addressed stores: every operation keeps the canonical form, a read after a write gives what was written, and a
write leaves every other byte alone. -/

namespace Sys2Proof.Machine

/-- Every listed address is above `a`, and the rest is canonical: the form of a tail. -/
theorem Memory.wf_cons {a : Nat} {b : Byte} {m : Memory} :
    Memory.wf ((a, b) :: m) = true ↔ b ≠ 0 ∧ (∀ c ∈ m, a < c.1) ∧ Memory.wf m = true := by
  induction m generalizing a b with
  | nil => simp [Memory.wf]
  | cons c m ih =>
    obtain ⟨a', b'⟩ := c
    simp only [Memory.wf, Bool.and_eq_true, bne_iff_ne, decide_eq_true_eq, List.mem_cons, ne_eq] at ih ⊢
    constructor
    · rintro ⟨⟨hb, hlt⟩, hw⟩
      refine ⟨hb, ?_, hw⟩
      rintro c (rfl | hc)
      · exact hlt
      · exact lt_trans hlt ((ih.mp hw).2.1 c hc)
    · rintro ⟨hb, hlt, hw⟩
      exact ⟨⟨hb, hlt _ (Or.inl rfl)⟩, hw⟩

@[simp] theorem Memory.wf_nil : Memory.wf [] = true := rfl

/-- A canonical store lists no byte below a bound that all its addresses exceed. -/
theorem Memory.get_of_lt {m : Memory} {x : Nat} (h : ∀ c ∈ m, x < c.1) : m.get x = 0 := by
  induction m with
  | nil => rfl
  | cons c m ih =>
    obtain ⟨a, b⟩ := c
    have : a ≠ x := by have := h (a, b) (by simp); simp at this; omega
    simp only [Memory.get, if_neg this]
    exact ih (fun c hc => h c (by simp [hc]))

theorem Memory.put_mem {m : Memory} {x : Nat} {v : Byte} {c : Host.Cell} (h : c ∈ m.put x v) : c ∈ m ∨ c.1 = x := by
  induction m with
  | nil => simp only [Memory.put] at h; split at h <;> simp_all
  | cons e m ih =>
    obtain ⟨a, b⟩ := e
    simp only [Memory.put] at h
    split at h
    · split at h <;> simp_all
      rcases h with rfl | h <;> simp_all
    · split at h
      · split at h <;> simp_all
        rcases h with rfl | h <;> simp_all
      · simp only [List.mem_cons] at h ⊢
        rcases h with rfl | h
        · simp
        · rcases ih h with h | h <;> simp [h]

/-- A written byte keeps the canonical form. -/
theorem Memory.wf_put {m : Memory} (x : Nat) (v : Byte) (h : m.wf = true) : (m.put x v).wf = true := by
  induction m with
  | nil => simp only [Memory.put]; split <;> simp_all [Memory.wf]
  | cons e m ih =>
    obtain ⟨a, b⟩ := e
    have hc := Memory.wf_cons.mp h
    simp only [Memory.put]
    split
    · split
      · exact h
      · refine Memory.wf_cons.mpr ⟨by assumption, ?_, h⟩
        intro c hc'
        rcases List.mem_cons.mp hc' with rfl | hm
        · assumption
        · have := hc.2.1 c hm; omega
    · split
      · split
        · exact hc.2.2
        · exact Memory.wf_cons.mpr ⟨by assumption, hc.2⟩
      · refine Memory.wf_cons.mpr ⟨hc.1, ?_, ih hc.2.2⟩
        intro c hm
        rcases Memory.put_mem hm with hm | hm
        · exact hc.2.1 c hm
        · omega

/-- A range of bytes written keeps the canonical form. -/
theorem Memory.wf_write {m : Memory} (a : Nat) (bs : List Byte) (h : m.wf = true) : (m.write a bs).wf = true := by
  induction bs generalizing m a with
  | nil => exact h
  | cons b bs ih => exact ih (a + 1) (Memory.wf_put a b h)

theorem Memory.wf_putWord {m : Memory} (a n v : Nat) (h : m.wf = true) : (m.putWord a n v).wf = true := Memory.wf_write a _ h

/-- Cells taken away keep the canonical form. -/
theorem Memory.wf_filter {m : Memory} (f : Host.Cell → Bool) (h : m.wf = true) : Memory.wf (m.filter f) = true := by
  induction m with
  | nil => rfl
  | cons e m ih =>
    obtain ⟨a, b⟩ := e
    have hc := Memory.wf_cons.mp h
    simp only [List.filter_cons]
    split
    · exact Memory.wf_cons.mpr ⟨hc.1, fun c hm => hc.2.1 c (List.mem_filter.mp hm).1, ih hc.2.2⟩
    · exact ih hc.2.2

theorem Memory.wf_clear {m : Memory} (a n : Nat) (h : m.wf = true) : (m.clear a n).wf = true := Memory.wf_filter _ h

/-- A range renumbered from 0 is canonical. -/
theorem Memory.wf_slice {m : Memory} (a n : Nat) (h : m.wf = true) : (m.slice a n).wf = true := by
  have hf := Memory.wf_filter (fun c => decide (a ≤ c.1) && decide (c.1 < a + n)) h
  have hlo : ∀ c ∈ m.filter (fun c => decide (a ≤ c.1) && decide (c.1 < a + n)), a ≤ c.1 := by
    intro c hc; have := (List.mem_filter.mp hc).2; simp at this; omega
  unfold Memory.slice
  generalize m.filter (fun c => decide (a ≤ c.1) && decide (c.1 < a + n)) = l at hf hlo
  induction l with
  | nil => rfl
  | cons e l ih =>
    obtain ⟨x, b⟩ := e
    have hc := Memory.wf_cons.mp hf
    refine Memory.wf_cons.mpr ⟨hc.1, ?_, ih hc.2.2 (fun c hm => hlo c (by simp [hm]))⟩
    intro c hm
    obtain ⟨c', hm', rfl⟩ := List.mem_map.mp hm
    have h1 := hc.2.1 c' hm'
    have h2 := hlo (x, b) (by simp)
    simp only at *
    omega

/-- A range copied from one store to another keeps the canonical form of the one written. -/
theorem Memory.wf_copyTo {dst : Memory} (a : Nat) (src : Memory) (so n : Nat) (h : dst.wf = true) :
    (dst.copyTo a src so n).wf = true := by
  unfold Memory.copyTo
  have hc := Memory.wf_clear a n h
  generalize dst.clear a n = m at hc
  generalize src.slice so n = l
  induction l generalizing m with
  | nil => exact hc
  | cons c l ih => exact ih _ (Memory.wf_put _ _ hc)

/-- A byte written is read back, and every other byte is as it was. -/
theorem Memory.get_put {m : Memory} (h : m.wf = true) (x y : Nat) (v : Byte) :
    (m.put x v).get y = if y = x then v else m.get y := by
  induction m with
  | nil =>
    simp only [Memory.put]
    split
    · rename_i hv
      rw [hv]; simp [Memory.get]
    · by_cases hy : y = x
      · simp [Memory.get, hy]
      · simp [Memory.get, hy, Ne.symm hy]
  | cons e m ih =>
    obtain ⟨a, b⟩ := e
    have hc := Memory.wf_cons.mp h
    have hz : ∀ z, z ≤ a → Memory.get m z = 0 := fun z hz => Memory.get_of_lt (fun c hm => lt_of_le_of_lt hz (hc.2.1 c hm))
    simp only [Memory.put]
    split
    · rename_i hxa
      split
      · rename_i hv
        by_cases hy : y = x
        · subst hy
          have : a ≠ y := by omega
          simp [Memory.get, this, hv, hz y (by omega)]
        · simp [hy]
      · by_cases hy : y = x
        · simp [Memory.get, hy]
        · simp [Memory.get, hy, Ne.symm hy]
    · split
      · rename_i hxa
        subst hxa
        split
        · rename_i hv
          by_cases hy : y = x
          · subst hy; simp [hv, hz y (le_refl _)]
          · simp [Memory.get, hy, Ne.symm hy]
        · by_cases hy : y = x
          · simp [Memory.get, hy]
          · simp [Memory.get, hy, Ne.symm hy]
      · by_cases ha : a = y
        · subst ha
          have : a ≠ x := by omega
          simp [Memory.get, this]
        · simp only [Memory.get, if_neg ha]
          exact ih hc.2.2

/-- A range written is read back byte by byte, and every byte outside it is as it was. -/
theorem Memory.get_write {m : Memory} (h : m.wf = true) (a x : Nat) (bs : List Byte) :
    (m.write a bs).get x = if a ≤ x ∧ x < a + bs.length then bs.getD (x - a) 0 else m.get x := by
  induction bs generalizing m a with
  | nil => simp only [Memory.write, List.length_nil]; rw [if_neg (by omega)]
  | cons b bs ih =>
    rw [Memory.write, ih (Memory.wf_put a b h), Memory.get_put h, List.length_cons]
    by_cases hx : x = a
    · subst hx
      rw [if_neg (by omega), if_pos rfl, if_pos (by omega)]
      simp
    · rw [if_neg hx]
      by_cases hr : a + 1 ≤ x ∧ x < a + 1 + bs.length
      · rw [if_pos hr, if_pos (by omega)]
        obtain ⟨k, hk⟩ : ∃ k, x = a + 1 + k := ⟨x - (a + 1), by omega⟩
        subst hk
        have h1 : a + 1 + k - (a + 1) = k := by omega
        have h2 : a + 1 + k - a = k + 1 := by omega
        rw [h1, h2, List.getD_cons_succ]
      · rw [if_neg hr, if_neg (by omega)]

@[simp] theorem Memory.length_read (m : Memory) (a n : Nat) : (m.read a n).length = n := by simp [Memory.read]

/-- A range just written reads as what was written. -/
theorem Memory.read_write {m : Memory} (h : m.wf = true) (a : Nat) (bs : List Byte) : (m.write a bs).read a bs.length = bs := by
  apply List.ext_getElem (by simp)
  intro i h1 h2
  simp only [Memory.read, List.getElem_map, List.getElem_range]
  rw [Memory.get_write h, if_pos (by omega)]
  have : a + i - a = i := by omega
  rw [this, List.getD_eq_getElem _ _ h2]

/-- A range that a write does not meet reads as before. -/
theorem Memory.read_write_of_disjoint {m : Memory} (h : m.wf = true) (a b n : Nat) (bs : List Byte)
    (hd : b + n ≤ a ∨ a + bs.length ≤ b) : (m.write a bs).read b n = m.read b n := by
  apply List.ext_getElem (by simp)
  intro i h1 h2
  simp only [Memory.length_read] at h1
  simp only [Memory.read, List.getElem_map, List.getElem_range]
  rw [Memory.get_write h, if_neg (by omega)]

/-- Two canonical stores that read alike everywhere are equal data. -/
theorem Memory.ext {m n : Memory} (hm : m.wf = true) (hn : n.wf = true) (h : ∀ x, m.get x = n.get x) : m = n := by
  induction m generalizing n with
  | nil =>
    cases n with
    | nil => rfl
    | cons e n =>
      obtain ⟨a, b⟩ := e
      have := h a
      simp only [Memory.get, if_pos] at this
      exact absurd this.symm (Memory.wf_cons.mp hn).1
  | cons e m ih =>
    obtain ⟨a, b⟩ := e
    have hm' := Memory.wf_cons.mp hm
    cases n with
    | nil =>
      have := h a
      simp only [Memory.get, if_pos] at this
      exact absurd this hm'.1
    | cons e' n =>
      obtain ⟨a', b'⟩ := e'
      have hn' := Memory.wf_cons.mp hn
      have haa : a = a' := by
        rcases lt_trichotomy a a' with hl | he | hl
        · have := h a
          rw [Memory.get_of_lt (m := (a', b') :: n) (x := a)] at this
          · simp only [Memory.get, if_pos] at this
            exact absurd this hm'.1
          · intro c hc
            rcases List.mem_cons.mp hc with rfl | hc
            · exact hl
            · exact lt_trans hl (hn'.2.1 c hc)
        · exact he
        · have := h a'
          rw [Memory.get_of_lt (m := (a, b) :: m) (x := a')] at this
          · simp only [Memory.get, if_pos] at this
            exact absurd this.symm hn'.1
          · intro c hc
            rcases List.mem_cons.mp hc with rfl | hc
            · exact hl
            · exact lt_trans hl (hm'.2.1 c hc)
      subst haa
      have hb : b = b' := by have := h a; simpa [Memory.get] using this
      subst hb
      congr 1
      refine ih hm'.2.2 hn'.2.2 (fun x => ?_)
      by_cases hx : a = x
      · subst hx
        rw [Memory.get_of_lt hm'.2.1, Memory.get_of_lt hn'.2.1]
      · have := h x
        simpa only [Memory.get, if_neg hx] using this

end Sys2Proof.Machine
end

