-- ==== Sys2Proof/Laws/State.lean ====
section
/-! SUPPORT. Laws of State: what each edit of one item leaves in each field. An edit changes its own item and no other field. -/

namespace Sys2Proof.Machine

/-! ### The item edited, and the others -/

theorem modTile_get (d : Device) (t : TileNo) (f : Tile → Tile) : (d.modTile t f).tiles[t] = f d.tiles[t] := by
  simp [Device.modTile]
@[simp] theorem modTile_getN (d : Device) (t : TileNo) (f : Tile → Tile) : (d.modTile t f).tiles[(t : Nat)]'t.isLt = f d.tiles[t] := by
  simp [Device.modTile]
theorem modTile_get_ne (d : Device) (t u : TileNo) (f : Tile → Tile) (h : u ≠ t) : (d.modTile t f).tiles[u] = d.tiles[u] := by
  simp only [Device.modTile, Fin.getElem_fin]
  exact Vector.getElem_set_ne _ _ (fun e => h (Fin.ext e.symm))

theorem modHealth_get (d : Device) (x : PhysNo) (f : Health → Health) : (d.modHealth x f).health[x] = f d.health[x] := by
  simp [Device.modHealth]
@[simp] theorem modHealth_getN (d : Device) (x : PhysNo) (f : Health → Health) : (d.modHealth x f).health[(x : Nat)]'x.isLt = f d.health[x] := by
  simp [Device.modHealth]
theorem modHealth_get_ne (d : Device) (x u : PhysNo) (f : Health → Health) (h : u ≠ x) : (d.modHealth x f).health[u] = d.health[u] := by
  simp only [Device.modHealth, Fin.getElem_fin]
  exact Vector.getElem_set_ne _ _ (fun e => h (Fin.ext e.symm))

theorem modPart_get (d : Device) (p : PartNo) (f : Partition → Partition) : (d.modPart p f).parts[p] = f d.parts[p] := by
  simp [Device.modPart]
@[simp] theorem modPart_getN (d : Device) (p : PartNo) (f : Partition → Partition) : (d.modPart p f).parts[(p : Nat)]'p.isLt = f d.parts[p] := by
  simp [Device.modPart]
theorem modPart_get_ne (d : Device) (p u : PartNo) (f : Partition → Partition) (h : u ≠ p) : (d.modPart p f).parts[u] = d.parts[u] := by
  simp only [Device.modPart, Fin.getElem_fin]
  exact Vector.getElem_set_ne _ _ (fun e => h (Fin.ext e.symm))

theorem modCtx_get (d : Device) (c : CtxNo) (f : Context → Context) : (d.modCtx c f).ctxs[c] = f d.ctxs[c] := by
  simp [Device.modCtx]
@[simp] theorem modCtx_getN (d : Device) (c : CtxNo) (f : Context → Context) : (d.modCtx c f).ctxs[(c : Nat)]'c.isLt = f d.ctxs[c] := by
  simp [Device.modCtx]
theorem modCtx_get_ne (d : Device) (c u : CtxNo) (f : Context → Context) (h : u ≠ c) : (d.modCtx c f).ctxs[u] = d.ctxs[u] := by
  simp only [Device.modCtx, Fin.getElem_fin]
  exact Vector.getElem_set_ne _ _ (fun e => h (Fin.ext e.symm))

theorem modGather_get (d : Device) (g : GatherNo) (f : Gather → Gather) : (d.modGather g f).gather[g] = f d.gather[g] := by
  simp [Device.modGather]
@[simp] theorem modGather_getN (d : Device) (g : GatherNo) (f : Gather → Gather) : (d.modGather g f).gather[(g : Nat)]'g.isLt = f d.gather[g] := by
  simp [Device.modGather]
theorem modGather_get_ne (d : Device) (g u : GatherNo) (f : Gather → Gather) (h : u ≠ g) : (d.modGather g f).gather[u] = d.gather[u] := by
  simp only [Device.modGather, Fin.getElem_fin]
  exact Vector.getElem_set_ne _ _ (fun e => h (Fin.ext e.symm))

theorem modStack_get (d : Device) (k : StackNo) (f : Stack → Stack) : (d.modStack k f).hbmStacks[k] = f d.hbmStacks[k] := by
  simp [Device.modStack]
@[simp] theorem modStack_getN (d : Device) (k : StackNo) (f : Stack → Stack) : (d.modStack k f).hbmStacks[(k : Nat)]'k.isLt = f d.hbmStacks[k] := by
  simp [Device.modStack]
theorem modStack_get_ne (d : Device) (k u : StackNo) (f : Stack → Stack) (h : u ≠ k) : (d.modStack k f).hbmStacks[u] = d.hbmStacks[u] := by
  simp only [Device.modStack, Fin.getElem_fin]
  exact Vector.getElem_set_ne _ _ (fun e => h (Fin.ext e.symm))

theorem modTmem_get (d : Device) (k : TmemNo) (f : Tmem → Tmem) : (d.modTmem k f).tmem[k] = f d.tmem[k] := by
  simp [Device.modTmem]
@[simp] theorem modTmem_getN (d : Device) (k : TmemNo) (f : Tmem → Tmem) : (d.modTmem k f).tmem[(k : Nat)]'k.isLt = f d.tmem[k] := by
  simp [Device.modTmem]
theorem modTmem_get_ne (d : Device) (k u : TmemNo) (f : Tmem → Tmem) (h : u ≠ k) : (d.modTmem k f).tmem[u] = d.tmem[u] := by
  simp only [Device.modTmem, Fin.getElem_fin]
  exact Vector.getElem_set_ne _ _ (fun e => h (Fin.ext e.symm))

theorem modPort_get (d : Device) (p : PortNo) (f : Port → Port) : (d.modPort p f).ports[p] = f d.ports[p] := by
  simp [Device.modPort]
@[simp] theorem modPort_getN (d : Device) (p : PortNo) (f : Port → Port) : (d.modPort p f).ports[(p : Nat)]'p.isLt = f d.ports[p] := by
  simp [Device.modPort]
theorem modPort_get_ne (d : Device) (p u : PortNo) (f : Port → Port) (h : u ≠ p) : (d.modPort p f).ports[u] = d.ports[u] := by
  simp only [Device.modPort, Fin.getElem_fin]
  exact Vector.getElem_set_ne _ _ (fun e => h (Fin.ext e.symm))

theorem modLane_get (d : Device) (n : LaneNo) (f : Lane → Lane) : (d.modLane n f).lanes[n] = f d.lanes[n] := by
  simp [Device.modLane]
@[simp] theorem modLane_getN (d : Device) (n : LaneNo) (f : Lane → Lane) : (d.modLane n f).lanes[(n : Nat)]'n.isLt = f d.lanes[n] := by
  simp [Device.modLane]
theorem modLane_get_ne (d : Device) (n u : LaneNo) (f : Lane → Lane) (h : u ≠ n) : (d.modLane n f).lanes[u] = d.lanes[u] := by
  simp only [Device.modLane, Fin.getElem_fin]
  exact Vector.getElem_set_ne _ _ (fun e => h (Fin.ext e.symm))

theorem modTable_get (d : Device) (k : SliceTab) (f : SliceTable → SliceTable) : (d.modTable k f).tables[k] = f d.tables[k] := by
  simp [Device.modTable]
@[simp] theorem modTable_getN (d : Device) (k : SliceTab) (f : SliceTable → SliceTable) : (d.modTable k f).tables[(k : Nat)]'k.isLt = f d.tables[k] := by
  simp [Device.modTable]
theorem modTable_get_ne (d : Device) (k u : SliceTab) (f : SliceTable → SliceTable) (h : u ≠ k) : (d.modTable k f).tables[u] = d.tables[u] := by
  simp only [Device.modTable, Fin.getElem_fin]
  exact Vector.getElem_set_ne _ _ (fun e => h (Fin.ext e.symm))

theorem modLayout_get (d : Device) (k : SliceTab) (f : Layout → Layout) : (d.modLayout k f).layouts[k] = f d.layouts[k] := by
  simp [Device.modLayout]
@[simp] theorem modLayout_getN (d : Device) (k : SliceTab) (f : Layout → Layout) : (d.modLayout k f).layouts[(k : Nat)]'k.isLt = f d.layouts[k] := by
  simp [Device.modLayout]
theorem modLayout_get_ne (d : Device) (k u : SliceTab) (f : Layout → Layout) (h : u ≠ k) : (d.modLayout k f).layouts[u] = d.layouts[u] := by
  simp only [Device.modLayout, Fin.getElem_fin]
  exact Vector.getElem_set_ne _ _ (fun e => h (Fin.ext e.symm))

theorem modNet_get (d : Device) (n : NetNo) (f : Net → Net) : (d.modNet n f).net[n] = f d.net[n] := by
  simp [Device.modNet]
@[simp] theorem modNet_getN (d : Device) (n : NetNo) (f : Net → Net) : (d.modNet n f).net[(n : Nat)]'n.isLt = f d.net[n] := by
  simp [Device.modNet]
theorem modNet_get_ne (d : Device) (n u : NetNo) (f : Net → Net) (h : u ≠ n) : (d.modNet n f).net[u] = d.net[u] := by
  simp only [Device.modNet, Fin.getElem_fin]
  exact Vector.getElem_set_ne _ _ (fun e => h (Fin.ext e.symm))

theorem modPanel_get (d : Device) (p : PanelNo) (f : Panel → Panel) : (d.modPanel p f).panels[p] = f d.panels[p] := by
  simp [Device.modPanel]
@[simp] theorem modPanel_getN (d : Device) (p : PanelNo) (f : Panel → Panel) : (d.modPanel p f).panels[(p : Nat)]'p.isLt = f d.panels[p] := by
  simp [Device.modPanel]
theorem modPanel_get_ne (d : Device) (p u : PanelNo) (f : Panel → Panel) (h : u ≠ p) : (d.modPanel p f).panels[u] = d.panels[u] := by
  simp only [Device.modPanel, Fin.getElem_fin]
  exact Vector.getElem_set_ne _ _ (fun e => h (Fin.ext e.symm))

theorem modComp_get (d : Device) (n : Fin 8) (f : Component → Component) : (d.modComp n f).comps[n] = f d.comps[n] := by
  simp [Device.modComp]
@[simp] theorem modComp_getN (d : Device) (n : Fin 8) (f : Component → Component) : (d.modComp n f).comps[(n : Nat)]'n.isLt = f d.comps[n] := by
  simp [Device.modComp]
theorem modComp_get_ne (d : Device) (n u : Fin 8) (f : Component → Component) (h : u ≠ n) : (d.modComp n f).comps[u] = d.comps[u] := by
  simp only [Device.modComp, Fin.getElem_fin]
  exact Vector.getElem_set_ne _ _ (fun e => h (Fin.ext e.symm))

/-! ### The other fields -/

section
variable (d : Device) (t : TileNo) (f : Tile → Tile)
@[simp] theorem modTile_patchMap : (d.modTile t f).patchMap = d.patchMap := rfl
@[simp] theorem modTile_health : (d.modTile t f).health = d.health := rfl
@[simp] theorem modTile_bulk : (d.modTile t f).bulk = d.bulk := rfl
@[simp] theorem modTile_bulkBound : (d.modTile t f).bulkBound = d.bulkBound := rfl
@[simp] theorem modTile_hl : (d.modTile t f).hl = d.hl := rfl
@[simp] theorem modTile_forwards : (d.modTile t f).forwards = d.forwards := rfl
@[simp] theorem modTile_reports : (d.modTile t f).reports = d.reports := rfl
@[simp] theorem modTile_parts : (d.modTile t f).parts = d.parts := rfl
@[simp] theorem modTile_ctxs : (d.modTile t f).ctxs = d.ctxs := rfl
@[simp] theorem modTile_gather : (d.modTile t f).gather = d.gather := rfl
@[simp] theorem modTile_rowCache : (d.modTile t f).rowCache = d.rowCache := rfl
@[simp] theorem modTile_tmem : (d.modTile t f).tmem = d.tmem := rfl
@[simp] theorem modTile_hbm : (d.modTile t f).hbm = d.hbm := rfl
@[simp] theorem modTile_hbmBad : (d.modTile t f).hbmBad = d.hbmBad := rfl
@[simp] theorem modTile_pageCe : (d.modTile t f).pageCe = d.pageCe := rfl
@[simp] theorem modTile_hbmStacks : (d.modTile t f).hbmStacks = d.hbmStacks := rfl
@[simp] theorem modTile_pages : (d.modTile t f).pages = d.pages := rfl
@[simp] theorem modTile_granules : (d.modTile t f).granules = d.granules := rfl
@[simp] theorem modTile_remaps : (d.modTile t f).remaps = d.remaps := rfl
@[simp] theorem modTile_retiredPages : (d.modTile t f).retiredPages = d.retiredPages := rfl
@[simp] theorem modTile_dueRetire : (d.modTile t f).dueRetire = d.dueRetire := rfl
@[simp] theorem modTile_retiredTiles : (d.modTile t f).retiredTiles = d.retiredTiles := rfl
@[simp] theorem modTile_usedSpares : (d.modTile t f).usedSpares = d.usedSpares := rfl
@[simp] theorem modTile_extraReserved : (d.modTile t f).extraReserved = d.extraReserved := rfl
@[simp] theorem modTile_extraSpare : (d.modTile t f).extraSpare = d.extraSpare := rfl
@[simp] theorem modTile_tmemBytes : (d.modTile t f).tmemBytes = d.tmemBytes := rfl
@[simp] theorem modTile_tmemPoison : (d.modTile t f).tmemPoison = d.tmemPoison := rfl
@[simp] theorem modTile_hostMem : (d.modTile t f).hostMem = d.hostMem := rfl
@[simp] theorem modTile_ports : (d.modTile t f).ports = d.ports := rfl
@[simp] theorem modTile_lanes : (d.modTile t f).lanes = d.lanes := rfl
@[simp] theorem modTile_tables : (d.modTile t f).tables = d.tables := rfl
@[simp] theorem modTile_layouts : (d.modTile t f).layouts = d.layouts := rfl
@[simp] theorem modTile_drops : (d.modTile t f).drops = d.drops := rfl
@[simp] theorem modTile_dropTotal : (d.modTile t f).dropTotal = d.dropTotal := rfl
@[simp] theorem modTile_chipId : (d.modTile t f).chipId = d.chipId := rfl
@[simp] theorem modTile_net : (d.modTile t f).net = d.net := rfl
@[simp] theorem modTile_tags : (d.modTile t f).tags = d.tags := rfl
@[simp] theorem modTile_farWatches : (d.modTile t f).farWatches = d.farWatches := rfl
@[simp] theorem modTile_nextTag : (d.modTile t f).nextTag = d.nextTag := rfl
@[simp] theorem modTile_sentinel : (d.modTile t f).sentinel = d.sentinel := rfl
@[simp] theorem modTile_sentinelSets : (d.modTile t f).sentinelSets = d.sentinelSets := rfl
@[simp] theorem modTile_unregistered : (d.modTile t f).unregistered = d.unregistered := rfl
@[simp] theorem modTile_sentReports : (d.modTile t f).sentReports = d.sentReports := rfl
@[simp] theorem modTile_replayCount : (d.modTile t f).replayCount = d.replayCount := rfl
@[simp] theorem modTile_replayFailed : (d.modTile t f).replayFailed = d.replayFailed := rfl
@[simp] theorem modTile_auditRuns : (d.modTile t f).auditRuns = d.auditRuns := rfl
@[simp] theorem modTile_auditSkipped : (d.modTile t f).auditSkipped = d.auditSkipped := rfl
@[simp] theorem modTile_auditMiss : (d.modTile t f).auditMiss = d.auditMiss := rfl
@[simp] theorem modTile_reducerSuspect : (d.modTile t f).reducerSuspect = d.reducerSuspect := rfl
@[simp] theorem modTile_rst : (d.modTile t f).rst = d.rst := rfl
@[simp] theorem modTile_devTime : (d.modTile t f).devTime = d.devTime := rfl
@[simp] theorem modTile_devLatch : (d.modTile t f).devLatch = d.devLatch := rfl
@[simp] theorem modTile_panels : (d.modTile t f).panels = d.panels := rfl
@[simp] theorem modTile_powerLimit : (d.modTile t f).powerLimit = d.powerLimit := rfl
@[simp] theorem modTile_packageW : (d.modTile t f).packageW = d.packageW := rfl
@[simp] theorem modTile_sensors : (d.modTile t f).sensors = d.sensors := rfl
@[simp] theorem modTile_govDelays : (d.modTile t f).govDelays = d.govDelays := rfl
@[simp] theorem modTile_tsync : (d.modTile t f).tsync = d.tsync := rfl
@[simp] theorem modTile_collarCores : (d.modTile t f).collarCores = d.collarCores := rfl
@[simp] theorem modTile_spareUsed : (d.modTile t f).spareUsed = d.spareUsed := rfl
@[simp] theorem modTile_comps : (d.modTile t f).comps = d.comps := rfl
@[simp] theorem modTile_sessions : (d.modTile t f).sessions = d.sessions := rfl
@[simp] theorem modTile_mbx : (d.modTile t f).mbx = d.mbx := rfl
@[simp] theorem modTile_dict : (d.modTile t f).dict = d.dict := rfl
@[simp] theorem modTile_devEvq : (d.modTile t f).devEvq = d.devEvq := rfl
@[simp] theorem modTile_devMsix : (d.modTile t f).devMsix = d.devMsix := rfl
@[simp] theorem modTile_firstOwner : (d.modTile t f).firstOwner = d.firstOwner := rfl
@[simp] theorem modTile_clampLog : (d.modTile t f).clampLog = d.clampLog := rfl
@[simp] theorem modTile_clampLost : (d.modTile t f).clampLost = d.clampLost := rfl
@[simp] theorem modTile_errLog : (d.modTile t f).errLog = d.errLog := rfl
@[simp] theorem modTile_alarms : (d.modTile t f).alarms = d.alarms := rfl
@[simp] theorem modTile_i3cDyn : (d.modTile t f).i3cDyn = d.i3cDyn := rfl
@[simp] theorem modTile_ibi : (d.modTile t f).ibi = d.ibi := rfl
@[simp] theorem modTile_fw : (d.modTile t f).fw = d.fw := rfl
@[simp] theorem modTile_spdm : (d.modTile t f).spdm = d.spdm := rfl
@[simp] theorem modTile_csets : (d.modTile t f).csets = d.csets := rfl
@[simp] theorem modTile_csetBound : (d.modTile t f).csetBound = d.csetBound := rfl
@[simp] theorem modTile_cntResidue : (d.modTile t f).cntResidue = d.cntResidue := rfl
@[simp] theorem modTile_cntCorrected : (d.modTile t f).cntCorrected = d.cntCorrected := rfl
@[simp] theorem modTile_cntRetries : (d.modTile t f).cntRetries = d.cntRetries := rfl
@[simp] theorem modTile_trace : (d.modTile t f).trace = d.trace := rfl
@[simp] theorem modTile_dumps : (d.modTile t f).dumps = d.dumps := rfl
@[simp] theorem modTile_dumpLost : (d.modTile t f).dumpLost = d.dumpLost := rfl
@[simp] theorem modTile_deviceDump : (d.modTile t f).deviceDump = d.deviceDump := rfl
@[simp] theorem modTile_scan : (d.modTile t f).scan = d.scan := rfl
@[simp] theorem modTile_bindQueue : (d.modTile t f).bindQueue = d.bindQueue := rfl
@[simp] theorem modTile_freeCount : (d.modTile t f).freeCount = d.freeCount := rfl
end

section
variable (d : Device) (x : PhysNo) (f : Health → Health)
@[simp] theorem modHealth_tiles : (d.modHealth x f).tiles = d.tiles := rfl
@[simp] theorem modHealth_patchMap : (d.modHealth x f).patchMap = d.patchMap := rfl
@[simp] theorem modHealth_bulk : (d.modHealth x f).bulk = d.bulk := rfl
@[simp] theorem modHealth_bulkBound : (d.modHealth x f).bulkBound = d.bulkBound := rfl
@[simp] theorem modHealth_hl : (d.modHealth x f).hl = d.hl := rfl
@[simp] theorem modHealth_forwards : (d.modHealth x f).forwards = d.forwards := rfl
@[simp] theorem modHealth_reports : (d.modHealth x f).reports = d.reports := rfl
@[simp] theorem modHealth_parts : (d.modHealth x f).parts = d.parts := rfl
@[simp] theorem modHealth_ctxs : (d.modHealth x f).ctxs = d.ctxs := rfl
@[simp] theorem modHealth_gather : (d.modHealth x f).gather = d.gather := rfl
@[simp] theorem modHealth_rowCache : (d.modHealth x f).rowCache = d.rowCache := rfl
@[simp] theorem modHealth_tmem : (d.modHealth x f).tmem = d.tmem := rfl
@[simp] theorem modHealth_hbm : (d.modHealth x f).hbm = d.hbm := rfl
@[simp] theorem modHealth_hbmBad : (d.modHealth x f).hbmBad = d.hbmBad := rfl
@[simp] theorem modHealth_pageCe : (d.modHealth x f).pageCe = d.pageCe := rfl
@[simp] theorem modHealth_hbmStacks : (d.modHealth x f).hbmStacks = d.hbmStacks := rfl
@[simp] theorem modHealth_pages : (d.modHealth x f).pages = d.pages := rfl
@[simp] theorem modHealth_granules : (d.modHealth x f).granules = d.granules := rfl
@[simp] theorem modHealth_remaps : (d.modHealth x f).remaps = d.remaps := rfl
@[simp] theorem modHealth_retiredPages : (d.modHealth x f).retiredPages = d.retiredPages := rfl
@[simp] theorem modHealth_dueRetire : (d.modHealth x f).dueRetire = d.dueRetire := rfl
@[simp] theorem modHealth_retiredTiles : (d.modHealth x f).retiredTiles = d.retiredTiles := rfl
@[simp] theorem modHealth_usedSpares : (d.modHealth x f).usedSpares = d.usedSpares := rfl
@[simp] theorem modHealth_extraReserved : (d.modHealth x f).extraReserved = d.extraReserved := rfl
@[simp] theorem modHealth_extraSpare : (d.modHealth x f).extraSpare = d.extraSpare := rfl
@[simp] theorem modHealth_tmemBytes : (d.modHealth x f).tmemBytes = d.tmemBytes := rfl
@[simp] theorem modHealth_tmemPoison : (d.modHealth x f).tmemPoison = d.tmemPoison := rfl
@[simp] theorem modHealth_hostMem : (d.modHealth x f).hostMem = d.hostMem := rfl
@[simp] theorem modHealth_ports : (d.modHealth x f).ports = d.ports := rfl
@[simp] theorem modHealth_lanes : (d.modHealth x f).lanes = d.lanes := rfl
@[simp] theorem modHealth_tables : (d.modHealth x f).tables = d.tables := rfl
@[simp] theorem modHealth_layouts : (d.modHealth x f).layouts = d.layouts := rfl
@[simp] theorem modHealth_drops : (d.modHealth x f).drops = d.drops := rfl
@[simp] theorem modHealth_dropTotal : (d.modHealth x f).dropTotal = d.dropTotal := rfl
@[simp] theorem modHealth_chipId : (d.modHealth x f).chipId = d.chipId := rfl
@[simp] theorem modHealth_net : (d.modHealth x f).net = d.net := rfl
@[simp] theorem modHealth_tags : (d.modHealth x f).tags = d.tags := rfl
@[simp] theorem modHealth_farWatches : (d.modHealth x f).farWatches = d.farWatches := rfl
@[simp] theorem modHealth_nextTag : (d.modHealth x f).nextTag = d.nextTag := rfl
@[simp] theorem modHealth_sentinel : (d.modHealth x f).sentinel = d.sentinel := rfl
@[simp] theorem modHealth_sentinelSets : (d.modHealth x f).sentinelSets = d.sentinelSets := rfl
@[simp] theorem modHealth_unregistered : (d.modHealth x f).unregistered = d.unregistered := rfl
@[simp] theorem modHealth_sentReports : (d.modHealth x f).sentReports = d.sentReports := rfl
@[simp] theorem modHealth_replayCount : (d.modHealth x f).replayCount = d.replayCount := rfl
@[simp] theorem modHealth_replayFailed : (d.modHealth x f).replayFailed = d.replayFailed := rfl
@[simp] theorem modHealth_auditRuns : (d.modHealth x f).auditRuns = d.auditRuns := rfl
@[simp] theorem modHealth_auditSkipped : (d.modHealth x f).auditSkipped = d.auditSkipped := rfl
@[simp] theorem modHealth_auditMiss : (d.modHealth x f).auditMiss = d.auditMiss := rfl
@[simp] theorem modHealth_reducerSuspect : (d.modHealth x f).reducerSuspect = d.reducerSuspect := rfl
@[simp] theorem modHealth_rst : (d.modHealth x f).rst = d.rst := rfl
@[simp] theorem modHealth_devTime : (d.modHealth x f).devTime = d.devTime := rfl
@[simp] theorem modHealth_devLatch : (d.modHealth x f).devLatch = d.devLatch := rfl
@[simp] theorem modHealth_panels : (d.modHealth x f).panels = d.panels := rfl
@[simp] theorem modHealth_powerLimit : (d.modHealth x f).powerLimit = d.powerLimit := rfl
@[simp] theorem modHealth_packageW : (d.modHealth x f).packageW = d.packageW := rfl
@[simp] theorem modHealth_sensors : (d.modHealth x f).sensors = d.sensors := rfl
@[simp] theorem modHealth_govDelays : (d.modHealth x f).govDelays = d.govDelays := rfl
@[simp] theorem modHealth_tsync : (d.modHealth x f).tsync = d.tsync := rfl
@[simp] theorem modHealth_collarCores : (d.modHealth x f).collarCores = d.collarCores := rfl
@[simp] theorem modHealth_spareUsed : (d.modHealth x f).spareUsed = d.spareUsed := rfl
@[simp] theorem modHealth_comps : (d.modHealth x f).comps = d.comps := rfl
@[simp] theorem modHealth_sessions : (d.modHealth x f).sessions = d.sessions := rfl
@[simp] theorem modHealth_mbx : (d.modHealth x f).mbx = d.mbx := rfl
@[simp] theorem modHealth_dict : (d.modHealth x f).dict = d.dict := rfl
@[simp] theorem modHealth_devEvq : (d.modHealth x f).devEvq = d.devEvq := rfl
@[simp] theorem modHealth_devMsix : (d.modHealth x f).devMsix = d.devMsix := rfl
@[simp] theorem modHealth_firstOwner : (d.modHealth x f).firstOwner = d.firstOwner := rfl
@[simp] theorem modHealth_clampLog : (d.modHealth x f).clampLog = d.clampLog := rfl
@[simp] theorem modHealth_clampLost : (d.modHealth x f).clampLost = d.clampLost := rfl
@[simp] theorem modHealth_errLog : (d.modHealth x f).errLog = d.errLog := rfl
@[simp] theorem modHealth_alarms : (d.modHealth x f).alarms = d.alarms := rfl
@[simp] theorem modHealth_i3cDyn : (d.modHealth x f).i3cDyn = d.i3cDyn := rfl
@[simp] theorem modHealth_ibi : (d.modHealth x f).ibi = d.ibi := rfl
@[simp] theorem modHealth_fw : (d.modHealth x f).fw = d.fw := rfl
@[simp] theorem modHealth_spdm : (d.modHealth x f).spdm = d.spdm := rfl
@[simp] theorem modHealth_csets : (d.modHealth x f).csets = d.csets := rfl
@[simp] theorem modHealth_csetBound : (d.modHealth x f).csetBound = d.csetBound := rfl
@[simp] theorem modHealth_cntResidue : (d.modHealth x f).cntResidue = d.cntResidue := rfl
@[simp] theorem modHealth_cntCorrected : (d.modHealth x f).cntCorrected = d.cntCorrected := rfl
@[simp] theorem modHealth_cntRetries : (d.modHealth x f).cntRetries = d.cntRetries := rfl
@[simp] theorem modHealth_trace : (d.modHealth x f).trace = d.trace := rfl
@[simp] theorem modHealth_dumps : (d.modHealth x f).dumps = d.dumps := rfl
@[simp] theorem modHealth_dumpLost : (d.modHealth x f).dumpLost = d.dumpLost := rfl
@[simp] theorem modHealth_deviceDump : (d.modHealth x f).deviceDump = d.deviceDump := rfl
@[simp] theorem modHealth_scan : (d.modHealth x f).scan = d.scan := rfl
@[simp] theorem modHealth_bindQueue : (d.modHealth x f).bindQueue = d.bindQueue := rfl
@[simp] theorem modHealth_freeCount : (d.modHealth x f).freeCount = d.freeCount := rfl
end

section
variable (d : Device) (p : PartNo) (f : Partition → Partition)
@[simp] theorem modPart_tiles : (d.modPart p f).tiles = d.tiles := rfl
@[simp] theorem modPart_patchMap : (d.modPart p f).patchMap = d.patchMap := rfl
@[simp] theorem modPart_health : (d.modPart p f).health = d.health := rfl
@[simp] theorem modPart_bulk : (d.modPart p f).bulk = d.bulk := rfl
@[simp] theorem modPart_bulkBound : (d.modPart p f).bulkBound = d.bulkBound := rfl
@[simp] theorem modPart_hl : (d.modPart p f).hl = d.hl := rfl
@[simp] theorem modPart_forwards : (d.modPart p f).forwards = d.forwards := rfl
@[simp] theorem modPart_reports : (d.modPart p f).reports = d.reports := rfl
@[simp] theorem modPart_ctxs : (d.modPart p f).ctxs = d.ctxs := rfl
@[simp] theorem modPart_gather : (d.modPart p f).gather = d.gather := rfl
@[simp] theorem modPart_rowCache : (d.modPart p f).rowCache = d.rowCache := rfl
@[simp] theorem modPart_tmem : (d.modPart p f).tmem = d.tmem := rfl
@[simp] theorem modPart_hbm : (d.modPart p f).hbm = d.hbm := rfl
@[simp] theorem modPart_hbmBad : (d.modPart p f).hbmBad = d.hbmBad := rfl
@[simp] theorem modPart_pageCe : (d.modPart p f).pageCe = d.pageCe := rfl
@[simp] theorem modPart_hbmStacks : (d.modPart p f).hbmStacks = d.hbmStacks := rfl
@[simp] theorem modPart_pages : (d.modPart p f).pages = d.pages := rfl
@[simp] theorem modPart_granules : (d.modPart p f).granules = d.granules := rfl
@[simp] theorem modPart_remaps : (d.modPart p f).remaps = d.remaps := rfl
@[simp] theorem modPart_retiredPages : (d.modPart p f).retiredPages = d.retiredPages := rfl
@[simp] theorem modPart_dueRetire : (d.modPart p f).dueRetire = d.dueRetire := rfl
@[simp] theorem modPart_retiredTiles : (d.modPart p f).retiredTiles = d.retiredTiles := rfl
@[simp] theorem modPart_usedSpares : (d.modPart p f).usedSpares = d.usedSpares := rfl
@[simp] theorem modPart_extraReserved : (d.modPart p f).extraReserved = d.extraReserved := rfl
@[simp] theorem modPart_extraSpare : (d.modPart p f).extraSpare = d.extraSpare := rfl
@[simp] theorem modPart_tmemBytes : (d.modPart p f).tmemBytes = d.tmemBytes := rfl
@[simp] theorem modPart_tmemPoison : (d.modPart p f).tmemPoison = d.tmemPoison := rfl
@[simp] theorem modPart_hostMem : (d.modPart p f).hostMem = d.hostMem := rfl
@[simp] theorem modPart_ports : (d.modPart p f).ports = d.ports := rfl
@[simp] theorem modPart_lanes : (d.modPart p f).lanes = d.lanes := rfl
@[simp] theorem modPart_tables : (d.modPart p f).tables = d.tables := rfl
@[simp] theorem modPart_layouts : (d.modPart p f).layouts = d.layouts := rfl
@[simp] theorem modPart_drops : (d.modPart p f).drops = d.drops := rfl
@[simp] theorem modPart_dropTotal : (d.modPart p f).dropTotal = d.dropTotal := rfl
@[simp] theorem modPart_chipId : (d.modPart p f).chipId = d.chipId := rfl
@[simp] theorem modPart_net : (d.modPart p f).net = d.net := rfl
@[simp] theorem modPart_tags : (d.modPart p f).tags = d.tags := rfl
@[simp] theorem modPart_farWatches : (d.modPart p f).farWatches = d.farWatches := rfl
@[simp] theorem modPart_nextTag : (d.modPart p f).nextTag = d.nextTag := rfl
@[simp] theorem modPart_sentinel : (d.modPart p f).sentinel = d.sentinel := rfl
@[simp] theorem modPart_sentinelSets : (d.modPart p f).sentinelSets = d.sentinelSets := rfl
@[simp] theorem modPart_unregistered : (d.modPart p f).unregistered = d.unregistered := rfl
@[simp] theorem modPart_sentReports : (d.modPart p f).sentReports = d.sentReports := rfl
@[simp] theorem modPart_replayCount : (d.modPart p f).replayCount = d.replayCount := rfl
@[simp] theorem modPart_replayFailed : (d.modPart p f).replayFailed = d.replayFailed := rfl
@[simp] theorem modPart_auditRuns : (d.modPart p f).auditRuns = d.auditRuns := rfl
@[simp] theorem modPart_auditSkipped : (d.modPart p f).auditSkipped = d.auditSkipped := rfl
@[simp] theorem modPart_auditMiss : (d.modPart p f).auditMiss = d.auditMiss := rfl
@[simp] theorem modPart_reducerSuspect : (d.modPart p f).reducerSuspect = d.reducerSuspect := rfl
@[simp] theorem modPart_rst : (d.modPart p f).rst = d.rst := rfl
@[simp] theorem modPart_devTime : (d.modPart p f).devTime = d.devTime := rfl
@[simp] theorem modPart_devLatch : (d.modPart p f).devLatch = d.devLatch := rfl
@[simp] theorem modPart_panels : (d.modPart p f).panels = d.panels := rfl
@[simp] theorem modPart_powerLimit : (d.modPart p f).powerLimit = d.powerLimit := rfl
@[simp] theorem modPart_packageW : (d.modPart p f).packageW = d.packageW := rfl
@[simp] theorem modPart_sensors : (d.modPart p f).sensors = d.sensors := rfl
@[simp] theorem modPart_govDelays : (d.modPart p f).govDelays = d.govDelays := rfl
@[simp] theorem modPart_tsync : (d.modPart p f).tsync = d.tsync := rfl
@[simp] theorem modPart_collarCores : (d.modPart p f).collarCores = d.collarCores := rfl
@[simp] theorem modPart_spareUsed : (d.modPart p f).spareUsed = d.spareUsed := rfl
@[simp] theorem modPart_comps : (d.modPart p f).comps = d.comps := rfl
@[simp] theorem modPart_sessions : (d.modPart p f).sessions = d.sessions := rfl
@[simp] theorem modPart_mbx : (d.modPart p f).mbx = d.mbx := rfl
@[simp] theorem modPart_dict : (d.modPart p f).dict = d.dict := rfl
@[simp] theorem modPart_devEvq : (d.modPart p f).devEvq = d.devEvq := rfl
@[simp] theorem modPart_devMsix : (d.modPart p f).devMsix = d.devMsix := rfl
@[simp] theorem modPart_firstOwner : (d.modPart p f).firstOwner = d.firstOwner := rfl
@[simp] theorem modPart_clampLog : (d.modPart p f).clampLog = d.clampLog := rfl
@[simp] theorem modPart_clampLost : (d.modPart p f).clampLost = d.clampLost := rfl
@[simp] theorem modPart_errLog : (d.modPart p f).errLog = d.errLog := rfl
@[simp] theorem modPart_alarms : (d.modPart p f).alarms = d.alarms := rfl
@[simp] theorem modPart_i3cDyn : (d.modPart p f).i3cDyn = d.i3cDyn := rfl
@[simp] theorem modPart_ibi : (d.modPart p f).ibi = d.ibi := rfl
@[simp] theorem modPart_fw : (d.modPart p f).fw = d.fw := rfl
@[simp] theorem modPart_spdm : (d.modPart p f).spdm = d.spdm := rfl
@[simp] theorem modPart_csets : (d.modPart p f).csets = d.csets := rfl
@[simp] theorem modPart_csetBound : (d.modPart p f).csetBound = d.csetBound := rfl
@[simp] theorem modPart_cntResidue : (d.modPart p f).cntResidue = d.cntResidue := rfl
@[simp] theorem modPart_cntCorrected : (d.modPart p f).cntCorrected = d.cntCorrected := rfl
@[simp] theorem modPart_cntRetries : (d.modPart p f).cntRetries = d.cntRetries := rfl
@[simp] theorem modPart_trace : (d.modPart p f).trace = d.trace := rfl
@[simp] theorem modPart_dumps : (d.modPart p f).dumps = d.dumps := rfl
@[simp] theorem modPart_dumpLost : (d.modPart p f).dumpLost = d.dumpLost := rfl
@[simp] theorem modPart_deviceDump : (d.modPart p f).deviceDump = d.deviceDump := rfl
@[simp] theorem modPart_scan : (d.modPart p f).scan = d.scan := rfl
@[simp] theorem modPart_bindQueue : (d.modPart p f).bindQueue = d.bindQueue := rfl
@[simp] theorem modPart_freeCount : (d.modPart p f).freeCount = d.freeCount := rfl
end

section
variable (d : Device) (c : CtxNo) (f : Context → Context)
@[simp] theorem modCtx_tiles : (d.modCtx c f).tiles = d.tiles := rfl
@[simp] theorem modCtx_patchMap : (d.modCtx c f).patchMap = d.patchMap := rfl
@[simp] theorem modCtx_health : (d.modCtx c f).health = d.health := rfl
@[simp] theorem modCtx_bulk : (d.modCtx c f).bulk = d.bulk := rfl
@[simp] theorem modCtx_bulkBound : (d.modCtx c f).bulkBound = d.bulkBound := rfl
@[simp] theorem modCtx_hl : (d.modCtx c f).hl = d.hl := rfl
@[simp] theorem modCtx_forwards : (d.modCtx c f).forwards = d.forwards := rfl
@[simp] theorem modCtx_reports : (d.modCtx c f).reports = d.reports := rfl
@[simp] theorem modCtx_parts : (d.modCtx c f).parts = d.parts := rfl
@[simp] theorem modCtx_gather : (d.modCtx c f).gather = d.gather := rfl
@[simp] theorem modCtx_rowCache : (d.modCtx c f).rowCache = d.rowCache := rfl
@[simp] theorem modCtx_tmem : (d.modCtx c f).tmem = d.tmem := rfl
@[simp] theorem modCtx_hbm : (d.modCtx c f).hbm = d.hbm := rfl
@[simp] theorem modCtx_hbmBad : (d.modCtx c f).hbmBad = d.hbmBad := rfl
@[simp] theorem modCtx_pageCe : (d.modCtx c f).pageCe = d.pageCe := rfl
@[simp] theorem modCtx_hbmStacks : (d.modCtx c f).hbmStacks = d.hbmStacks := rfl
@[simp] theorem modCtx_pages : (d.modCtx c f).pages = d.pages := rfl
@[simp] theorem modCtx_granules : (d.modCtx c f).granules = d.granules := rfl
@[simp] theorem modCtx_remaps : (d.modCtx c f).remaps = d.remaps := rfl
@[simp] theorem modCtx_retiredPages : (d.modCtx c f).retiredPages = d.retiredPages := rfl
@[simp] theorem modCtx_dueRetire : (d.modCtx c f).dueRetire = d.dueRetire := rfl
@[simp] theorem modCtx_retiredTiles : (d.modCtx c f).retiredTiles = d.retiredTiles := rfl
@[simp] theorem modCtx_usedSpares : (d.modCtx c f).usedSpares = d.usedSpares := rfl
@[simp] theorem modCtx_extraReserved : (d.modCtx c f).extraReserved = d.extraReserved := rfl
@[simp] theorem modCtx_extraSpare : (d.modCtx c f).extraSpare = d.extraSpare := rfl
@[simp] theorem modCtx_tmemBytes : (d.modCtx c f).tmemBytes = d.tmemBytes := rfl
@[simp] theorem modCtx_tmemPoison : (d.modCtx c f).tmemPoison = d.tmemPoison := rfl
@[simp] theorem modCtx_hostMem : (d.modCtx c f).hostMem = d.hostMem := rfl
@[simp] theorem modCtx_ports : (d.modCtx c f).ports = d.ports := rfl
@[simp] theorem modCtx_lanes : (d.modCtx c f).lanes = d.lanes := rfl
@[simp] theorem modCtx_tables : (d.modCtx c f).tables = d.tables := rfl
@[simp] theorem modCtx_layouts : (d.modCtx c f).layouts = d.layouts := rfl
@[simp] theorem modCtx_drops : (d.modCtx c f).drops = d.drops := rfl
@[simp] theorem modCtx_dropTotal : (d.modCtx c f).dropTotal = d.dropTotal := rfl
@[simp] theorem modCtx_chipId : (d.modCtx c f).chipId = d.chipId := rfl
@[simp] theorem modCtx_net : (d.modCtx c f).net = d.net := rfl
@[simp] theorem modCtx_tags : (d.modCtx c f).tags = d.tags := rfl
@[simp] theorem modCtx_farWatches : (d.modCtx c f).farWatches = d.farWatches := rfl
@[simp] theorem modCtx_nextTag : (d.modCtx c f).nextTag = d.nextTag := rfl
@[simp] theorem modCtx_sentinel : (d.modCtx c f).sentinel = d.sentinel := rfl
@[simp] theorem modCtx_sentinelSets : (d.modCtx c f).sentinelSets = d.sentinelSets := rfl
@[simp] theorem modCtx_unregistered : (d.modCtx c f).unregistered = d.unregistered := rfl
@[simp] theorem modCtx_sentReports : (d.modCtx c f).sentReports = d.sentReports := rfl
@[simp] theorem modCtx_replayCount : (d.modCtx c f).replayCount = d.replayCount := rfl
@[simp] theorem modCtx_replayFailed : (d.modCtx c f).replayFailed = d.replayFailed := rfl
@[simp] theorem modCtx_auditRuns : (d.modCtx c f).auditRuns = d.auditRuns := rfl
@[simp] theorem modCtx_auditSkipped : (d.modCtx c f).auditSkipped = d.auditSkipped := rfl
@[simp] theorem modCtx_auditMiss : (d.modCtx c f).auditMiss = d.auditMiss := rfl
@[simp] theorem modCtx_reducerSuspect : (d.modCtx c f).reducerSuspect = d.reducerSuspect := rfl
@[simp] theorem modCtx_rst : (d.modCtx c f).rst = d.rst := rfl
@[simp] theorem modCtx_devTime : (d.modCtx c f).devTime = d.devTime := rfl
@[simp] theorem modCtx_devLatch : (d.modCtx c f).devLatch = d.devLatch := rfl
@[simp] theorem modCtx_panels : (d.modCtx c f).panels = d.panels := rfl
@[simp] theorem modCtx_powerLimit : (d.modCtx c f).powerLimit = d.powerLimit := rfl
@[simp] theorem modCtx_packageW : (d.modCtx c f).packageW = d.packageW := rfl
@[simp] theorem modCtx_sensors : (d.modCtx c f).sensors = d.sensors := rfl
@[simp] theorem modCtx_govDelays : (d.modCtx c f).govDelays = d.govDelays := rfl
@[simp] theorem modCtx_tsync : (d.modCtx c f).tsync = d.tsync := rfl
@[simp] theorem modCtx_collarCores : (d.modCtx c f).collarCores = d.collarCores := rfl
@[simp] theorem modCtx_spareUsed : (d.modCtx c f).spareUsed = d.spareUsed := rfl
@[simp] theorem modCtx_comps : (d.modCtx c f).comps = d.comps := rfl
@[simp] theorem modCtx_sessions : (d.modCtx c f).sessions = d.sessions := rfl
@[simp] theorem modCtx_mbx : (d.modCtx c f).mbx = d.mbx := rfl
@[simp] theorem modCtx_dict : (d.modCtx c f).dict = d.dict := rfl
@[simp] theorem modCtx_devEvq : (d.modCtx c f).devEvq = d.devEvq := rfl
@[simp] theorem modCtx_devMsix : (d.modCtx c f).devMsix = d.devMsix := rfl
@[simp] theorem modCtx_firstOwner : (d.modCtx c f).firstOwner = d.firstOwner := rfl
@[simp] theorem modCtx_clampLog : (d.modCtx c f).clampLog = d.clampLog := rfl
@[simp] theorem modCtx_clampLost : (d.modCtx c f).clampLost = d.clampLost := rfl
@[simp] theorem modCtx_errLog : (d.modCtx c f).errLog = d.errLog := rfl
@[simp] theorem modCtx_alarms : (d.modCtx c f).alarms = d.alarms := rfl
@[simp] theorem modCtx_i3cDyn : (d.modCtx c f).i3cDyn = d.i3cDyn := rfl
@[simp] theorem modCtx_ibi : (d.modCtx c f).ibi = d.ibi := rfl
@[simp] theorem modCtx_fw : (d.modCtx c f).fw = d.fw := rfl
@[simp] theorem modCtx_spdm : (d.modCtx c f).spdm = d.spdm := rfl
@[simp] theorem modCtx_csets : (d.modCtx c f).csets = d.csets := rfl
@[simp] theorem modCtx_csetBound : (d.modCtx c f).csetBound = d.csetBound := rfl
@[simp] theorem modCtx_cntResidue : (d.modCtx c f).cntResidue = d.cntResidue := rfl
@[simp] theorem modCtx_cntCorrected : (d.modCtx c f).cntCorrected = d.cntCorrected := rfl
@[simp] theorem modCtx_cntRetries : (d.modCtx c f).cntRetries = d.cntRetries := rfl
@[simp] theorem modCtx_trace : (d.modCtx c f).trace = d.trace := rfl
@[simp] theorem modCtx_dumps : (d.modCtx c f).dumps = d.dumps := rfl
@[simp] theorem modCtx_dumpLost : (d.modCtx c f).dumpLost = d.dumpLost := rfl
@[simp] theorem modCtx_deviceDump : (d.modCtx c f).deviceDump = d.deviceDump := rfl
@[simp] theorem modCtx_scan : (d.modCtx c f).scan = d.scan := rfl
@[simp] theorem modCtx_bindQueue : (d.modCtx c f).bindQueue = d.bindQueue := rfl
@[simp] theorem modCtx_freeCount : (d.modCtx c f).freeCount = d.freeCount := rfl
end

section
variable (d : Device) (g : GatherNo) (f : Gather → Gather)
@[simp] theorem modGather_tiles : (d.modGather g f).tiles = d.tiles := rfl
@[simp] theorem modGather_patchMap : (d.modGather g f).patchMap = d.patchMap := rfl
@[simp] theorem modGather_health : (d.modGather g f).health = d.health := rfl
@[simp] theorem modGather_bulk : (d.modGather g f).bulk = d.bulk := rfl
@[simp] theorem modGather_bulkBound : (d.modGather g f).bulkBound = d.bulkBound := rfl
@[simp] theorem modGather_hl : (d.modGather g f).hl = d.hl := rfl
@[simp] theorem modGather_forwards : (d.modGather g f).forwards = d.forwards := rfl
@[simp] theorem modGather_reports : (d.modGather g f).reports = d.reports := rfl
@[simp] theorem modGather_parts : (d.modGather g f).parts = d.parts := rfl
@[simp] theorem modGather_ctxs : (d.modGather g f).ctxs = d.ctxs := rfl
@[simp] theorem modGather_rowCache : (d.modGather g f).rowCache = d.rowCache := rfl
@[simp] theorem modGather_tmem : (d.modGather g f).tmem = d.tmem := rfl
@[simp] theorem modGather_hbm : (d.modGather g f).hbm = d.hbm := rfl
@[simp] theorem modGather_hbmBad : (d.modGather g f).hbmBad = d.hbmBad := rfl
@[simp] theorem modGather_pageCe : (d.modGather g f).pageCe = d.pageCe := rfl
@[simp] theorem modGather_hbmStacks : (d.modGather g f).hbmStacks = d.hbmStacks := rfl
@[simp] theorem modGather_pages : (d.modGather g f).pages = d.pages := rfl
@[simp] theorem modGather_granules : (d.modGather g f).granules = d.granules := rfl
@[simp] theorem modGather_remaps : (d.modGather g f).remaps = d.remaps := rfl
@[simp] theorem modGather_retiredPages : (d.modGather g f).retiredPages = d.retiredPages := rfl
@[simp] theorem modGather_dueRetire : (d.modGather g f).dueRetire = d.dueRetire := rfl
@[simp] theorem modGather_retiredTiles : (d.modGather g f).retiredTiles = d.retiredTiles := rfl
@[simp] theorem modGather_usedSpares : (d.modGather g f).usedSpares = d.usedSpares := rfl
@[simp] theorem modGather_extraReserved : (d.modGather g f).extraReserved = d.extraReserved := rfl
@[simp] theorem modGather_extraSpare : (d.modGather g f).extraSpare = d.extraSpare := rfl
@[simp] theorem modGather_tmemBytes : (d.modGather g f).tmemBytes = d.tmemBytes := rfl
@[simp] theorem modGather_tmemPoison : (d.modGather g f).tmemPoison = d.tmemPoison := rfl
@[simp] theorem modGather_hostMem : (d.modGather g f).hostMem = d.hostMem := rfl
@[simp] theorem modGather_ports : (d.modGather g f).ports = d.ports := rfl
@[simp] theorem modGather_lanes : (d.modGather g f).lanes = d.lanes := rfl
@[simp] theorem modGather_tables : (d.modGather g f).tables = d.tables := rfl
@[simp] theorem modGather_layouts : (d.modGather g f).layouts = d.layouts := rfl
@[simp] theorem modGather_drops : (d.modGather g f).drops = d.drops := rfl
@[simp] theorem modGather_dropTotal : (d.modGather g f).dropTotal = d.dropTotal := rfl
@[simp] theorem modGather_chipId : (d.modGather g f).chipId = d.chipId := rfl
@[simp] theorem modGather_net : (d.modGather g f).net = d.net := rfl
@[simp] theorem modGather_tags : (d.modGather g f).tags = d.tags := rfl
@[simp] theorem modGather_farWatches : (d.modGather g f).farWatches = d.farWatches := rfl
@[simp] theorem modGather_nextTag : (d.modGather g f).nextTag = d.nextTag := rfl
@[simp] theorem modGather_sentinel : (d.modGather g f).sentinel = d.sentinel := rfl
@[simp] theorem modGather_sentinelSets : (d.modGather g f).sentinelSets = d.sentinelSets := rfl
@[simp] theorem modGather_unregistered : (d.modGather g f).unregistered = d.unregistered := rfl
@[simp] theorem modGather_sentReports : (d.modGather g f).sentReports = d.sentReports := rfl
@[simp] theorem modGather_replayCount : (d.modGather g f).replayCount = d.replayCount := rfl
@[simp] theorem modGather_replayFailed : (d.modGather g f).replayFailed = d.replayFailed := rfl
@[simp] theorem modGather_auditRuns : (d.modGather g f).auditRuns = d.auditRuns := rfl
@[simp] theorem modGather_auditSkipped : (d.modGather g f).auditSkipped = d.auditSkipped := rfl
@[simp] theorem modGather_auditMiss : (d.modGather g f).auditMiss = d.auditMiss := rfl
@[simp] theorem modGather_reducerSuspect : (d.modGather g f).reducerSuspect = d.reducerSuspect := rfl
@[simp] theorem modGather_rst : (d.modGather g f).rst = d.rst := rfl
@[simp] theorem modGather_devTime : (d.modGather g f).devTime = d.devTime := rfl
@[simp] theorem modGather_devLatch : (d.modGather g f).devLatch = d.devLatch := rfl
@[simp] theorem modGather_panels : (d.modGather g f).panels = d.panels := rfl
@[simp] theorem modGather_powerLimit : (d.modGather g f).powerLimit = d.powerLimit := rfl
@[simp] theorem modGather_packageW : (d.modGather g f).packageW = d.packageW := rfl
@[simp] theorem modGather_sensors : (d.modGather g f).sensors = d.sensors := rfl
@[simp] theorem modGather_govDelays : (d.modGather g f).govDelays = d.govDelays := rfl
@[simp] theorem modGather_tsync : (d.modGather g f).tsync = d.tsync := rfl
@[simp] theorem modGather_collarCores : (d.modGather g f).collarCores = d.collarCores := rfl
@[simp] theorem modGather_spareUsed : (d.modGather g f).spareUsed = d.spareUsed := rfl
@[simp] theorem modGather_comps : (d.modGather g f).comps = d.comps := rfl
@[simp] theorem modGather_sessions : (d.modGather g f).sessions = d.sessions := rfl
@[simp] theorem modGather_mbx : (d.modGather g f).mbx = d.mbx := rfl
@[simp] theorem modGather_dict : (d.modGather g f).dict = d.dict := rfl
@[simp] theorem modGather_devEvq : (d.modGather g f).devEvq = d.devEvq := rfl
@[simp] theorem modGather_devMsix : (d.modGather g f).devMsix = d.devMsix := rfl
@[simp] theorem modGather_firstOwner : (d.modGather g f).firstOwner = d.firstOwner := rfl
@[simp] theorem modGather_clampLog : (d.modGather g f).clampLog = d.clampLog := rfl
@[simp] theorem modGather_clampLost : (d.modGather g f).clampLost = d.clampLost := rfl
@[simp] theorem modGather_errLog : (d.modGather g f).errLog = d.errLog := rfl
@[simp] theorem modGather_alarms : (d.modGather g f).alarms = d.alarms := rfl
@[simp] theorem modGather_i3cDyn : (d.modGather g f).i3cDyn = d.i3cDyn := rfl
@[simp] theorem modGather_ibi : (d.modGather g f).ibi = d.ibi := rfl
@[simp] theorem modGather_fw : (d.modGather g f).fw = d.fw := rfl
@[simp] theorem modGather_spdm : (d.modGather g f).spdm = d.spdm := rfl
@[simp] theorem modGather_csets : (d.modGather g f).csets = d.csets := rfl
@[simp] theorem modGather_csetBound : (d.modGather g f).csetBound = d.csetBound := rfl
@[simp] theorem modGather_cntResidue : (d.modGather g f).cntResidue = d.cntResidue := rfl
@[simp] theorem modGather_cntCorrected : (d.modGather g f).cntCorrected = d.cntCorrected := rfl
@[simp] theorem modGather_cntRetries : (d.modGather g f).cntRetries = d.cntRetries := rfl
@[simp] theorem modGather_trace : (d.modGather g f).trace = d.trace := rfl
@[simp] theorem modGather_dumps : (d.modGather g f).dumps = d.dumps := rfl
@[simp] theorem modGather_dumpLost : (d.modGather g f).dumpLost = d.dumpLost := rfl
@[simp] theorem modGather_deviceDump : (d.modGather g f).deviceDump = d.deviceDump := rfl
@[simp] theorem modGather_scan : (d.modGather g f).scan = d.scan := rfl
@[simp] theorem modGather_bindQueue : (d.modGather g f).bindQueue = d.bindQueue := rfl
@[simp] theorem modGather_freeCount : (d.modGather g f).freeCount = d.freeCount := rfl
end

section
variable (d : Device) (k : StackNo) (f : Stack → Stack)
@[simp] theorem modStack_tiles : (d.modStack k f).tiles = d.tiles := rfl
@[simp] theorem modStack_patchMap : (d.modStack k f).patchMap = d.patchMap := rfl
@[simp] theorem modStack_health : (d.modStack k f).health = d.health := rfl
@[simp] theorem modStack_bulk : (d.modStack k f).bulk = d.bulk := rfl
@[simp] theorem modStack_bulkBound : (d.modStack k f).bulkBound = d.bulkBound := rfl
@[simp] theorem modStack_hl : (d.modStack k f).hl = d.hl := rfl
@[simp] theorem modStack_forwards : (d.modStack k f).forwards = d.forwards := rfl
@[simp] theorem modStack_reports : (d.modStack k f).reports = d.reports := rfl
@[simp] theorem modStack_parts : (d.modStack k f).parts = d.parts := rfl
@[simp] theorem modStack_ctxs : (d.modStack k f).ctxs = d.ctxs := rfl
@[simp] theorem modStack_gather : (d.modStack k f).gather = d.gather := rfl
@[simp] theorem modStack_rowCache : (d.modStack k f).rowCache = d.rowCache := rfl
@[simp] theorem modStack_tmem : (d.modStack k f).tmem = d.tmem := rfl
@[simp] theorem modStack_hbm : (d.modStack k f).hbm = d.hbm := rfl
@[simp] theorem modStack_hbmBad : (d.modStack k f).hbmBad = d.hbmBad := rfl
@[simp] theorem modStack_pageCe : (d.modStack k f).pageCe = d.pageCe := rfl
@[simp] theorem modStack_pages : (d.modStack k f).pages = d.pages := rfl
@[simp] theorem modStack_granules : (d.modStack k f).granules = d.granules := rfl
@[simp] theorem modStack_remaps : (d.modStack k f).remaps = d.remaps := rfl
@[simp] theorem modStack_retiredPages : (d.modStack k f).retiredPages = d.retiredPages := rfl
@[simp] theorem modStack_dueRetire : (d.modStack k f).dueRetire = d.dueRetire := rfl
@[simp] theorem modStack_retiredTiles : (d.modStack k f).retiredTiles = d.retiredTiles := rfl
@[simp] theorem modStack_usedSpares : (d.modStack k f).usedSpares = d.usedSpares := rfl
@[simp] theorem modStack_extraReserved : (d.modStack k f).extraReserved = d.extraReserved := rfl
@[simp] theorem modStack_extraSpare : (d.modStack k f).extraSpare = d.extraSpare := rfl
@[simp] theorem modStack_tmemBytes : (d.modStack k f).tmemBytes = d.tmemBytes := rfl
@[simp] theorem modStack_tmemPoison : (d.modStack k f).tmemPoison = d.tmemPoison := rfl
@[simp] theorem modStack_hostMem : (d.modStack k f).hostMem = d.hostMem := rfl
@[simp] theorem modStack_ports : (d.modStack k f).ports = d.ports := rfl
@[simp] theorem modStack_lanes : (d.modStack k f).lanes = d.lanes := rfl
@[simp] theorem modStack_tables : (d.modStack k f).tables = d.tables := rfl
@[simp] theorem modStack_layouts : (d.modStack k f).layouts = d.layouts := rfl
@[simp] theorem modStack_drops : (d.modStack k f).drops = d.drops := rfl
@[simp] theorem modStack_dropTotal : (d.modStack k f).dropTotal = d.dropTotal := rfl
@[simp] theorem modStack_chipId : (d.modStack k f).chipId = d.chipId := rfl
@[simp] theorem modStack_net : (d.modStack k f).net = d.net := rfl
@[simp] theorem modStack_tags : (d.modStack k f).tags = d.tags := rfl
@[simp] theorem modStack_farWatches : (d.modStack k f).farWatches = d.farWatches := rfl
@[simp] theorem modStack_nextTag : (d.modStack k f).nextTag = d.nextTag := rfl
@[simp] theorem modStack_sentinel : (d.modStack k f).sentinel = d.sentinel := rfl
@[simp] theorem modStack_sentinelSets : (d.modStack k f).sentinelSets = d.sentinelSets := rfl
@[simp] theorem modStack_unregistered : (d.modStack k f).unregistered = d.unregistered := rfl
@[simp] theorem modStack_sentReports : (d.modStack k f).sentReports = d.sentReports := rfl
@[simp] theorem modStack_replayCount : (d.modStack k f).replayCount = d.replayCount := rfl
@[simp] theorem modStack_replayFailed : (d.modStack k f).replayFailed = d.replayFailed := rfl
@[simp] theorem modStack_auditRuns : (d.modStack k f).auditRuns = d.auditRuns := rfl
@[simp] theorem modStack_auditSkipped : (d.modStack k f).auditSkipped = d.auditSkipped := rfl
@[simp] theorem modStack_auditMiss : (d.modStack k f).auditMiss = d.auditMiss := rfl
@[simp] theorem modStack_reducerSuspect : (d.modStack k f).reducerSuspect = d.reducerSuspect := rfl
@[simp] theorem modStack_rst : (d.modStack k f).rst = d.rst := rfl
@[simp] theorem modStack_devTime : (d.modStack k f).devTime = d.devTime := rfl
@[simp] theorem modStack_devLatch : (d.modStack k f).devLatch = d.devLatch := rfl
@[simp] theorem modStack_panels : (d.modStack k f).panels = d.panels := rfl
@[simp] theorem modStack_powerLimit : (d.modStack k f).powerLimit = d.powerLimit := rfl
@[simp] theorem modStack_packageW : (d.modStack k f).packageW = d.packageW := rfl
@[simp] theorem modStack_sensors : (d.modStack k f).sensors = d.sensors := rfl
@[simp] theorem modStack_govDelays : (d.modStack k f).govDelays = d.govDelays := rfl
@[simp] theorem modStack_tsync : (d.modStack k f).tsync = d.tsync := rfl
@[simp] theorem modStack_collarCores : (d.modStack k f).collarCores = d.collarCores := rfl
@[simp] theorem modStack_spareUsed : (d.modStack k f).spareUsed = d.spareUsed := rfl
@[simp] theorem modStack_comps : (d.modStack k f).comps = d.comps := rfl
@[simp] theorem modStack_sessions : (d.modStack k f).sessions = d.sessions := rfl
@[simp] theorem modStack_mbx : (d.modStack k f).mbx = d.mbx := rfl
@[simp] theorem modStack_dict : (d.modStack k f).dict = d.dict := rfl
@[simp] theorem modStack_devEvq : (d.modStack k f).devEvq = d.devEvq := rfl
@[simp] theorem modStack_devMsix : (d.modStack k f).devMsix = d.devMsix := rfl
@[simp] theorem modStack_firstOwner : (d.modStack k f).firstOwner = d.firstOwner := rfl
@[simp] theorem modStack_clampLog : (d.modStack k f).clampLog = d.clampLog := rfl
@[simp] theorem modStack_clampLost : (d.modStack k f).clampLost = d.clampLost := rfl
@[simp] theorem modStack_errLog : (d.modStack k f).errLog = d.errLog := rfl
@[simp] theorem modStack_alarms : (d.modStack k f).alarms = d.alarms := rfl
@[simp] theorem modStack_i3cDyn : (d.modStack k f).i3cDyn = d.i3cDyn := rfl
@[simp] theorem modStack_ibi : (d.modStack k f).ibi = d.ibi := rfl
@[simp] theorem modStack_fw : (d.modStack k f).fw = d.fw := rfl
@[simp] theorem modStack_spdm : (d.modStack k f).spdm = d.spdm := rfl
@[simp] theorem modStack_csets : (d.modStack k f).csets = d.csets := rfl
@[simp] theorem modStack_csetBound : (d.modStack k f).csetBound = d.csetBound := rfl
@[simp] theorem modStack_cntResidue : (d.modStack k f).cntResidue = d.cntResidue := rfl
@[simp] theorem modStack_cntCorrected : (d.modStack k f).cntCorrected = d.cntCorrected := rfl
@[simp] theorem modStack_cntRetries : (d.modStack k f).cntRetries = d.cntRetries := rfl
@[simp] theorem modStack_trace : (d.modStack k f).trace = d.trace := rfl
@[simp] theorem modStack_dumps : (d.modStack k f).dumps = d.dumps := rfl
@[simp] theorem modStack_dumpLost : (d.modStack k f).dumpLost = d.dumpLost := rfl
@[simp] theorem modStack_deviceDump : (d.modStack k f).deviceDump = d.deviceDump := rfl
@[simp] theorem modStack_scan : (d.modStack k f).scan = d.scan := rfl
@[simp] theorem modStack_bindQueue : (d.modStack k f).bindQueue = d.bindQueue := rfl
@[simp] theorem modStack_freeCount : (d.modStack k f).freeCount = d.freeCount := rfl
end

section
variable (d : Device) (k : TmemNo) (f : Tmem → Tmem)
@[simp] theorem modTmem_tiles : (d.modTmem k f).tiles = d.tiles := rfl
@[simp] theorem modTmem_patchMap : (d.modTmem k f).patchMap = d.patchMap := rfl
@[simp] theorem modTmem_health : (d.modTmem k f).health = d.health := rfl
@[simp] theorem modTmem_bulk : (d.modTmem k f).bulk = d.bulk := rfl
@[simp] theorem modTmem_bulkBound : (d.modTmem k f).bulkBound = d.bulkBound := rfl
@[simp] theorem modTmem_hl : (d.modTmem k f).hl = d.hl := rfl
@[simp] theorem modTmem_forwards : (d.modTmem k f).forwards = d.forwards := rfl
@[simp] theorem modTmem_reports : (d.modTmem k f).reports = d.reports := rfl
@[simp] theorem modTmem_parts : (d.modTmem k f).parts = d.parts := rfl
@[simp] theorem modTmem_ctxs : (d.modTmem k f).ctxs = d.ctxs := rfl
@[simp] theorem modTmem_gather : (d.modTmem k f).gather = d.gather := rfl
@[simp] theorem modTmem_rowCache : (d.modTmem k f).rowCache = d.rowCache := rfl
@[simp] theorem modTmem_hbm : (d.modTmem k f).hbm = d.hbm := rfl
@[simp] theorem modTmem_hbmBad : (d.modTmem k f).hbmBad = d.hbmBad := rfl
@[simp] theorem modTmem_pageCe : (d.modTmem k f).pageCe = d.pageCe := rfl
@[simp] theorem modTmem_hbmStacks : (d.modTmem k f).hbmStacks = d.hbmStacks := rfl
@[simp] theorem modTmem_pages : (d.modTmem k f).pages = d.pages := rfl
@[simp] theorem modTmem_granules : (d.modTmem k f).granules = d.granules := rfl
@[simp] theorem modTmem_remaps : (d.modTmem k f).remaps = d.remaps := rfl
@[simp] theorem modTmem_retiredPages : (d.modTmem k f).retiredPages = d.retiredPages := rfl
@[simp] theorem modTmem_dueRetire : (d.modTmem k f).dueRetire = d.dueRetire := rfl
@[simp] theorem modTmem_retiredTiles : (d.modTmem k f).retiredTiles = d.retiredTiles := rfl
@[simp] theorem modTmem_usedSpares : (d.modTmem k f).usedSpares = d.usedSpares := rfl
@[simp] theorem modTmem_extraReserved : (d.modTmem k f).extraReserved = d.extraReserved := rfl
@[simp] theorem modTmem_extraSpare : (d.modTmem k f).extraSpare = d.extraSpare := rfl
@[simp] theorem modTmem_tmemBytes : (d.modTmem k f).tmemBytes = d.tmemBytes := rfl
@[simp] theorem modTmem_tmemPoison : (d.modTmem k f).tmemPoison = d.tmemPoison := rfl
@[simp] theorem modTmem_hostMem : (d.modTmem k f).hostMem = d.hostMem := rfl
@[simp] theorem modTmem_ports : (d.modTmem k f).ports = d.ports := rfl
@[simp] theorem modTmem_lanes : (d.modTmem k f).lanes = d.lanes := rfl
@[simp] theorem modTmem_tables : (d.modTmem k f).tables = d.tables := rfl
@[simp] theorem modTmem_layouts : (d.modTmem k f).layouts = d.layouts := rfl
@[simp] theorem modTmem_drops : (d.modTmem k f).drops = d.drops := rfl
@[simp] theorem modTmem_dropTotal : (d.modTmem k f).dropTotal = d.dropTotal := rfl
@[simp] theorem modTmem_chipId : (d.modTmem k f).chipId = d.chipId := rfl
@[simp] theorem modTmem_net : (d.modTmem k f).net = d.net := rfl
@[simp] theorem modTmem_tags : (d.modTmem k f).tags = d.tags := rfl
@[simp] theorem modTmem_farWatches : (d.modTmem k f).farWatches = d.farWatches := rfl
@[simp] theorem modTmem_nextTag : (d.modTmem k f).nextTag = d.nextTag := rfl
@[simp] theorem modTmem_sentinel : (d.modTmem k f).sentinel = d.sentinel := rfl
@[simp] theorem modTmem_sentinelSets : (d.modTmem k f).sentinelSets = d.sentinelSets := rfl
@[simp] theorem modTmem_unregistered : (d.modTmem k f).unregistered = d.unregistered := rfl
@[simp] theorem modTmem_sentReports : (d.modTmem k f).sentReports = d.sentReports := rfl
@[simp] theorem modTmem_replayCount : (d.modTmem k f).replayCount = d.replayCount := rfl
@[simp] theorem modTmem_replayFailed : (d.modTmem k f).replayFailed = d.replayFailed := rfl
@[simp] theorem modTmem_auditRuns : (d.modTmem k f).auditRuns = d.auditRuns := rfl
@[simp] theorem modTmem_auditSkipped : (d.modTmem k f).auditSkipped = d.auditSkipped := rfl
@[simp] theorem modTmem_auditMiss : (d.modTmem k f).auditMiss = d.auditMiss := rfl
@[simp] theorem modTmem_reducerSuspect : (d.modTmem k f).reducerSuspect = d.reducerSuspect := rfl
@[simp] theorem modTmem_rst : (d.modTmem k f).rst = d.rst := rfl
@[simp] theorem modTmem_devTime : (d.modTmem k f).devTime = d.devTime := rfl
@[simp] theorem modTmem_devLatch : (d.modTmem k f).devLatch = d.devLatch := rfl
@[simp] theorem modTmem_panels : (d.modTmem k f).panels = d.panels := rfl
@[simp] theorem modTmem_powerLimit : (d.modTmem k f).powerLimit = d.powerLimit := rfl
@[simp] theorem modTmem_packageW : (d.modTmem k f).packageW = d.packageW := rfl
@[simp] theorem modTmem_sensors : (d.modTmem k f).sensors = d.sensors := rfl
@[simp] theorem modTmem_govDelays : (d.modTmem k f).govDelays = d.govDelays := rfl
@[simp] theorem modTmem_tsync : (d.modTmem k f).tsync = d.tsync := rfl
@[simp] theorem modTmem_collarCores : (d.modTmem k f).collarCores = d.collarCores := rfl
@[simp] theorem modTmem_spareUsed : (d.modTmem k f).spareUsed = d.spareUsed := rfl
@[simp] theorem modTmem_comps : (d.modTmem k f).comps = d.comps := rfl
@[simp] theorem modTmem_sessions : (d.modTmem k f).sessions = d.sessions := rfl
@[simp] theorem modTmem_mbx : (d.modTmem k f).mbx = d.mbx := rfl
@[simp] theorem modTmem_dict : (d.modTmem k f).dict = d.dict := rfl
@[simp] theorem modTmem_devEvq : (d.modTmem k f).devEvq = d.devEvq := rfl
@[simp] theorem modTmem_devMsix : (d.modTmem k f).devMsix = d.devMsix := rfl
@[simp] theorem modTmem_firstOwner : (d.modTmem k f).firstOwner = d.firstOwner := rfl
@[simp] theorem modTmem_clampLog : (d.modTmem k f).clampLog = d.clampLog := rfl
@[simp] theorem modTmem_clampLost : (d.modTmem k f).clampLost = d.clampLost := rfl
@[simp] theorem modTmem_errLog : (d.modTmem k f).errLog = d.errLog := rfl
@[simp] theorem modTmem_alarms : (d.modTmem k f).alarms = d.alarms := rfl
@[simp] theorem modTmem_i3cDyn : (d.modTmem k f).i3cDyn = d.i3cDyn := rfl
@[simp] theorem modTmem_ibi : (d.modTmem k f).ibi = d.ibi := rfl
@[simp] theorem modTmem_fw : (d.modTmem k f).fw = d.fw := rfl
@[simp] theorem modTmem_spdm : (d.modTmem k f).spdm = d.spdm := rfl
@[simp] theorem modTmem_csets : (d.modTmem k f).csets = d.csets := rfl
@[simp] theorem modTmem_csetBound : (d.modTmem k f).csetBound = d.csetBound := rfl
@[simp] theorem modTmem_cntResidue : (d.modTmem k f).cntResidue = d.cntResidue := rfl
@[simp] theorem modTmem_cntCorrected : (d.modTmem k f).cntCorrected = d.cntCorrected := rfl
@[simp] theorem modTmem_cntRetries : (d.modTmem k f).cntRetries = d.cntRetries := rfl
@[simp] theorem modTmem_trace : (d.modTmem k f).trace = d.trace := rfl
@[simp] theorem modTmem_dumps : (d.modTmem k f).dumps = d.dumps := rfl
@[simp] theorem modTmem_dumpLost : (d.modTmem k f).dumpLost = d.dumpLost := rfl
@[simp] theorem modTmem_deviceDump : (d.modTmem k f).deviceDump = d.deviceDump := rfl
@[simp] theorem modTmem_scan : (d.modTmem k f).scan = d.scan := rfl
@[simp] theorem modTmem_bindQueue : (d.modTmem k f).bindQueue = d.bindQueue := rfl
@[simp] theorem modTmem_freeCount : (d.modTmem k f).freeCount = d.freeCount := rfl
end

section
variable (d : Device) (p : PortNo) (f : Port → Port)
@[simp] theorem modPort_tiles : (d.modPort p f).tiles = d.tiles := rfl
@[simp] theorem modPort_patchMap : (d.modPort p f).patchMap = d.patchMap := rfl
@[simp] theorem modPort_health : (d.modPort p f).health = d.health := rfl
@[simp] theorem modPort_bulk : (d.modPort p f).bulk = d.bulk := rfl
@[simp] theorem modPort_bulkBound : (d.modPort p f).bulkBound = d.bulkBound := rfl
@[simp] theorem modPort_hl : (d.modPort p f).hl = d.hl := rfl
@[simp] theorem modPort_forwards : (d.modPort p f).forwards = d.forwards := rfl
@[simp] theorem modPort_reports : (d.modPort p f).reports = d.reports := rfl
@[simp] theorem modPort_parts : (d.modPort p f).parts = d.parts := rfl
@[simp] theorem modPort_ctxs : (d.modPort p f).ctxs = d.ctxs := rfl
@[simp] theorem modPort_gather : (d.modPort p f).gather = d.gather := rfl
@[simp] theorem modPort_rowCache : (d.modPort p f).rowCache = d.rowCache := rfl
@[simp] theorem modPort_tmem : (d.modPort p f).tmem = d.tmem := rfl
@[simp] theorem modPort_hbm : (d.modPort p f).hbm = d.hbm := rfl
@[simp] theorem modPort_hbmBad : (d.modPort p f).hbmBad = d.hbmBad := rfl
@[simp] theorem modPort_pageCe : (d.modPort p f).pageCe = d.pageCe := rfl
@[simp] theorem modPort_hbmStacks : (d.modPort p f).hbmStacks = d.hbmStacks := rfl
@[simp] theorem modPort_pages : (d.modPort p f).pages = d.pages := rfl
@[simp] theorem modPort_granules : (d.modPort p f).granules = d.granules := rfl
@[simp] theorem modPort_remaps : (d.modPort p f).remaps = d.remaps := rfl
@[simp] theorem modPort_retiredPages : (d.modPort p f).retiredPages = d.retiredPages := rfl
@[simp] theorem modPort_dueRetire : (d.modPort p f).dueRetire = d.dueRetire := rfl
@[simp] theorem modPort_retiredTiles : (d.modPort p f).retiredTiles = d.retiredTiles := rfl
@[simp] theorem modPort_usedSpares : (d.modPort p f).usedSpares = d.usedSpares := rfl
@[simp] theorem modPort_extraReserved : (d.modPort p f).extraReserved = d.extraReserved := rfl
@[simp] theorem modPort_extraSpare : (d.modPort p f).extraSpare = d.extraSpare := rfl
@[simp] theorem modPort_tmemBytes : (d.modPort p f).tmemBytes = d.tmemBytes := rfl
@[simp] theorem modPort_tmemPoison : (d.modPort p f).tmemPoison = d.tmemPoison := rfl
@[simp] theorem modPort_hostMem : (d.modPort p f).hostMem = d.hostMem := rfl
@[simp] theorem modPort_lanes : (d.modPort p f).lanes = d.lanes := rfl
@[simp] theorem modPort_tables : (d.modPort p f).tables = d.tables := rfl
@[simp] theorem modPort_layouts : (d.modPort p f).layouts = d.layouts := rfl
@[simp] theorem modPort_drops : (d.modPort p f).drops = d.drops := rfl
@[simp] theorem modPort_dropTotal : (d.modPort p f).dropTotal = d.dropTotal := rfl
@[simp] theorem modPort_chipId : (d.modPort p f).chipId = d.chipId := rfl
@[simp] theorem modPort_net : (d.modPort p f).net = d.net := rfl
@[simp] theorem modPort_tags : (d.modPort p f).tags = d.tags := rfl
@[simp] theorem modPort_farWatches : (d.modPort p f).farWatches = d.farWatches := rfl
@[simp] theorem modPort_nextTag : (d.modPort p f).nextTag = d.nextTag := rfl
@[simp] theorem modPort_sentinel : (d.modPort p f).sentinel = d.sentinel := rfl
@[simp] theorem modPort_sentinelSets : (d.modPort p f).sentinelSets = d.sentinelSets := rfl
@[simp] theorem modPort_unregistered : (d.modPort p f).unregistered = d.unregistered := rfl
@[simp] theorem modPort_sentReports : (d.modPort p f).sentReports = d.sentReports := rfl
@[simp] theorem modPort_replayCount : (d.modPort p f).replayCount = d.replayCount := rfl
@[simp] theorem modPort_replayFailed : (d.modPort p f).replayFailed = d.replayFailed := rfl
@[simp] theorem modPort_auditRuns : (d.modPort p f).auditRuns = d.auditRuns := rfl
@[simp] theorem modPort_auditSkipped : (d.modPort p f).auditSkipped = d.auditSkipped := rfl
@[simp] theorem modPort_auditMiss : (d.modPort p f).auditMiss = d.auditMiss := rfl
@[simp] theorem modPort_reducerSuspect : (d.modPort p f).reducerSuspect = d.reducerSuspect := rfl
@[simp] theorem modPort_rst : (d.modPort p f).rst = d.rst := rfl
@[simp] theorem modPort_devTime : (d.modPort p f).devTime = d.devTime := rfl
@[simp] theorem modPort_devLatch : (d.modPort p f).devLatch = d.devLatch := rfl
@[simp] theorem modPort_panels : (d.modPort p f).panels = d.panels := rfl
@[simp] theorem modPort_powerLimit : (d.modPort p f).powerLimit = d.powerLimit := rfl
@[simp] theorem modPort_packageW : (d.modPort p f).packageW = d.packageW := rfl
@[simp] theorem modPort_sensors : (d.modPort p f).sensors = d.sensors := rfl
@[simp] theorem modPort_govDelays : (d.modPort p f).govDelays = d.govDelays := rfl
@[simp] theorem modPort_tsync : (d.modPort p f).tsync = d.tsync := rfl
@[simp] theorem modPort_collarCores : (d.modPort p f).collarCores = d.collarCores := rfl
@[simp] theorem modPort_spareUsed : (d.modPort p f).spareUsed = d.spareUsed := rfl
@[simp] theorem modPort_comps : (d.modPort p f).comps = d.comps := rfl
@[simp] theorem modPort_sessions : (d.modPort p f).sessions = d.sessions := rfl
@[simp] theorem modPort_mbx : (d.modPort p f).mbx = d.mbx := rfl
@[simp] theorem modPort_dict : (d.modPort p f).dict = d.dict := rfl
@[simp] theorem modPort_devEvq : (d.modPort p f).devEvq = d.devEvq := rfl
@[simp] theorem modPort_devMsix : (d.modPort p f).devMsix = d.devMsix := rfl
@[simp] theorem modPort_firstOwner : (d.modPort p f).firstOwner = d.firstOwner := rfl
@[simp] theorem modPort_clampLog : (d.modPort p f).clampLog = d.clampLog := rfl
@[simp] theorem modPort_clampLost : (d.modPort p f).clampLost = d.clampLost := rfl
@[simp] theorem modPort_errLog : (d.modPort p f).errLog = d.errLog := rfl
@[simp] theorem modPort_alarms : (d.modPort p f).alarms = d.alarms := rfl
@[simp] theorem modPort_i3cDyn : (d.modPort p f).i3cDyn = d.i3cDyn := rfl
@[simp] theorem modPort_ibi : (d.modPort p f).ibi = d.ibi := rfl
@[simp] theorem modPort_fw : (d.modPort p f).fw = d.fw := rfl
@[simp] theorem modPort_spdm : (d.modPort p f).spdm = d.spdm := rfl
@[simp] theorem modPort_csets : (d.modPort p f).csets = d.csets := rfl
@[simp] theorem modPort_csetBound : (d.modPort p f).csetBound = d.csetBound := rfl
@[simp] theorem modPort_cntResidue : (d.modPort p f).cntResidue = d.cntResidue := rfl
@[simp] theorem modPort_cntCorrected : (d.modPort p f).cntCorrected = d.cntCorrected := rfl
@[simp] theorem modPort_cntRetries : (d.modPort p f).cntRetries = d.cntRetries := rfl
@[simp] theorem modPort_trace : (d.modPort p f).trace = d.trace := rfl
@[simp] theorem modPort_dumps : (d.modPort p f).dumps = d.dumps := rfl
@[simp] theorem modPort_dumpLost : (d.modPort p f).dumpLost = d.dumpLost := rfl
@[simp] theorem modPort_deviceDump : (d.modPort p f).deviceDump = d.deviceDump := rfl
@[simp] theorem modPort_scan : (d.modPort p f).scan = d.scan := rfl
@[simp] theorem modPort_bindQueue : (d.modPort p f).bindQueue = d.bindQueue := rfl
@[simp] theorem modPort_freeCount : (d.modPort p f).freeCount = d.freeCount := rfl
end

section
variable (d : Device) (n : LaneNo) (f : Lane → Lane)
@[simp] theorem modLane_tiles : (d.modLane n f).tiles = d.tiles := rfl
@[simp] theorem modLane_patchMap : (d.modLane n f).patchMap = d.patchMap := rfl
@[simp] theorem modLane_health : (d.modLane n f).health = d.health := rfl
@[simp] theorem modLane_bulk : (d.modLane n f).bulk = d.bulk := rfl
@[simp] theorem modLane_bulkBound : (d.modLane n f).bulkBound = d.bulkBound := rfl
@[simp] theorem modLane_hl : (d.modLane n f).hl = d.hl := rfl
@[simp] theorem modLane_forwards : (d.modLane n f).forwards = d.forwards := rfl
@[simp] theorem modLane_reports : (d.modLane n f).reports = d.reports := rfl
@[simp] theorem modLane_parts : (d.modLane n f).parts = d.parts := rfl
@[simp] theorem modLane_ctxs : (d.modLane n f).ctxs = d.ctxs := rfl
@[simp] theorem modLane_gather : (d.modLane n f).gather = d.gather := rfl
@[simp] theorem modLane_rowCache : (d.modLane n f).rowCache = d.rowCache := rfl
@[simp] theorem modLane_tmem : (d.modLane n f).tmem = d.tmem := rfl
@[simp] theorem modLane_hbm : (d.modLane n f).hbm = d.hbm := rfl
@[simp] theorem modLane_hbmBad : (d.modLane n f).hbmBad = d.hbmBad := rfl
@[simp] theorem modLane_pageCe : (d.modLane n f).pageCe = d.pageCe := rfl
@[simp] theorem modLane_hbmStacks : (d.modLane n f).hbmStacks = d.hbmStacks := rfl
@[simp] theorem modLane_pages : (d.modLane n f).pages = d.pages := rfl
@[simp] theorem modLane_granules : (d.modLane n f).granules = d.granules := rfl
@[simp] theorem modLane_remaps : (d.modLane n f).remaps = d.remaps := rfl
@[simp] theorem modLane_retiredPages : (d.modLane n f).retiredPages = d.retiredPages := rfl
@[simp] theorem modLane_dueRetire : (d.modLane n f).dueRetire = d.dueRetire := rfl
@[simp] theorem modLane_retiredTiles : (d.modLane n f).retiredTiles = d.retiredTiles := rfl
@[simp] theorem modLane_usedSpares : (d.modLane n f).usedSpares = d.usedSpares := rfl
@[simp] theorem modLane_extraReserved : (d.modLane n f).extraReserved = d.extraReserved := rfl
@[simp] theorem modLane_extraSpare : (d.modLane n f).extraSpare = d.extraSpare := rfl
@[simp] theorem modLane_tmemBytes : (d.modLane n f).tmemBytes = d.tmemBytes := rfl
@[simp] theorem modLane_tmemPoison : (d.modLane n f).tmemPoison = d.tmemPoison := rfl
@[simp] theorem modLane_hostMem : (d.modLane n f).hostMem = d.hostMem := rfl
@[simp] theorem modLane_ports : (d.modLane n f).ports = d.ports := rfl
@[simp] theorem modLane_tables : (d.modLane n f).tables = d.tables := rfl
@[simp] theorem modLane_layouts : (d.modLane n f).layouts = d.layouts := rfl
@[simp] theorem modLane_drops : (d.modLane n f).drops = d.drops := rfl
@[simp] theorem modLane_dropTotal : (d.modLane n f).dropTotal = d.dropTotal := rfl
@[simp] theorem modLane_chipId : (d.modLane n f).chipId = d.chipId := rfl
@[simp] theorem modLane_net : (d.modLane n f).net = d.net := rfl
@[simp] theorem modLane_tags : (d.modLane n f).tags = d.tags := rfl
@[simp] theorem modLane_farWatches : (d.modLane n f).farWatches = d.farWatches := rfl
@[simp] theorem modLane_nextTag : (d.modLane n f).nextTag = d.nextTag := rfl
@[simp] theorem modLane_sentinel : (d.modLane n f).sentinel = d.sentinel := rfl
@[simp] theorem modLane_sentinelSets : (d.modLane n f).sentinelSets = d.sentinelSets := rfl
@[simp] theorem modLane_unregistered : (d.modLane n f).unregistered = d.unregistered := rfl
@[simp] theorem modLane_sentReports : (d.modLane n f).sentReports = d.sentReports := rfl
@[simp] theorem modLane_replayCount : (d.modLane n f).replayCount = d.replayCount := rfl
@[simp] theorem modLane_replayFailed : (d.modLane n f).replayFailed = d.replayFailed := rfl
@[simp] theorem modLane_auditRuns : (d.modLane n f).auditRuns = d.auditRuns := rfl
@[simp] theorem modLane_auditSkipped : (d.modLane n f).auditSkipped = d.auditSkipped := rfl
@[simp] theorem modLane_auditMiss : (d.modLane n f).auditMiss = d.auditMiss := rfl
@[simp] theorem modLane_reducerSuspect : (d.modLane n f).reducerSuspect = d.reducerSuspect := rfl
@[simp] theorem modLane_rst : (d.modLane n f).rst = d.rst := rfl
@[simp] theorem modLane_devTime : (d.modLane n f).devTime = d.devTime := rfl
@[simp] theorem modLane_devLatch : (d.modLane n f).devLatch = d.devLatch := rfl
@[simp] theorem modLane_panels : (d.modLane n f).panels = d.panels := rfl
@[simp] theorem modLane_powerLimit : (d.modLane n f).powerLimit = d.powerLimit := rfl
@[simp] theorem modLane_packageW : (d.modLane n f).packageW = d.packageW := rfl
@[simp] theorem modLane_sensors : (d.modLane n f).sensors = d.sensors := rfl
@[simp] theorem modLane_govDelays : (d.modLane n f).govDelays = d.govDelays := rfl
@[simp] theorem modLane_tsync : (d.modLane n f).tsync = d.tsync := rfl
@[simp] theorem modLane_collarCores : (d.modLane n f).collarCores = d.collarCores := rfl
@[simp] theorem modLane_spareUsed : (d.modLane n f).spareUsed = d.spareUsed := rfl
@[simp] theorem modLane_comps : (d.modLane n f).comps = d.comps := rfl
@[simp] theorem modLane_sessions : (d.modLane n f).sessions = d.sessions := rfl
@[simp] theorem modLane_mbx : (d.modLane n f).mbx = d.mbx := rfl
@[simp] theorem modLane_dict : (d.modLane n f).dict = d.dict := rfl
@[simp] theorem modLane_devEvq : (d.modLane n f).devEvq = d.devEvq := rfl
@[simp] theorem modLane_devMsix : (d.modLane n f).devMsix = d.devMsix := rfl
@[simp] theorem modLane_firstOwner : (d.modLane n f).firstOwner = d.firstOwner := rfl
@[simp] theorem modLane_clampLog : (d.modLane n f).clampLog = d.clampLog := rfl
@[simp] theorem modLane_clampLost : (d.modLane n f).clampLost = d.clampLost := rfl
@[simp] theorem modLane_errLog : (d.modLane n f).errLog = d.errLog := rfl
@[simp] theorem modLane_alarms : (d.modLane n f).alarms = d.alarms := rfl
@[simp] theorem modLane_i3cDyn : (d.modLane n f).i3cDyn = d.i3cDyn := rfl
@[simp] theorem modLane_ibi : (d.modLane n f).ibi = d.ibi := rfl
@[simp] theorem modLane_fw : (d.modLane n f).fw = d.fw := rfl
@[simp] theorem modLane_spdm : (d.modLane n f).spdm = d.spdm := rfl
@[simp] theorem modLane_csets : (d.modLane n f).csets = d.csets := rfl
@[simp] theorem modLane_csetBound : (d.modLane n f).csetBound = d.csetBound := rfl
@[simp] theorem modLane_cntResidue : (d.modLane n f).cntResidue = d.cntResidue := rfl
@[simp] theorem modLane_cntCorrected : (d.modLane n f).cntCorrected = d.cntCorrected := rfl
@[simp] theorem modLane_cntRetries : (d.modLane n f).cntRetries = d.cntRetries := rfl
@[simp] theorem modLane_trace : (d.modLane n f).trace = d.trace := rfl
@[simp] theorem modLane_dumps : (d.modLane n f).dumps = d.dumps := rfl
@[simp] theorem modLane_dumpLost : (d.modLane n f).dumpLost = d.dumpLost := rfl
@[simp] theorem modLane_deviceDump : (d.modLane n f).deviceDump = d.deviceDump := rfl
@[simp] theorem modLane_scan : (d.modLane n f).scan = d.scan := rfl
@[simp] theorem modLane_bindQueue : (d.modLane n f).bindQueue = d.bindQueue := rfl
@[simp] theorem modLane_freeCount : (d.modLane n f).freeCount = d.freeCount := rfl
end

section
variable (d : Device) (k : SliceTab) (f : SliceTable → SliceTable)
@[simp] theorem modTable_tiles : (d.modTable k f).tiles = d.tiles := rfl
@[simp] theorem modTable_patchMap : (d.modTable k f).patchMap = d.patchMap := rfl
@[simp] theorem modTable_health : (d.modTable k f).health = d.health := rfl
@[simp] theorem modTable_bulk : (d.modTable k f).bulk = d.bulk := rfl
@[simp] theorem modTable_bulkBound : (d.modTable k f).bulkBound = d.bulkBound := rfl
@[simp] theorem modTable_hl : (d.modTable k f).hl = d.hl := rfl
@[simp] theorem modTable_forwards : (d.modTable k f).forwards = d.forwards := rfl
@[simp] theorem modTable_reports : (d.modTable k f).reports = d.reports := rfl
@[simp] theorem modTable_parts : (d.modTable k f).parts = d.parts := rfl
@[simp] theorem modTable_ctxs : (d.modTable k f).ctxs = d.ctxs := rfl
@[simp] theorem modTable_gather : (d.modTable k f).gather = d.gather := rfl
@[simp] theorem modTable_rowCache : (d.modTable k f).rowCache = d.rowCache := rfl
@[simp] theorem modTable_tmem : (d.modTable k f).tmem = d.tmem := rfl
@[simp] theorem modTable_hbm : (d.modTable k f).hbm = d.hbm := rfl
@[simp] theorem modTable_hbmBad : (d.modTable k f).hbmBad = d.hbmBad := rfl
@[simp] theorem modTable_pageCe : (d.modTable k f).pageCe = d.pageCe := rfl
@[simp] theorem modTable_hbmStacks : (d.modTable k f).hbmStacks = d.hbmStacks := rfl
@[simp] theorem modTable_pages : (d.modTable k f).pages = d.pages := rfl
@[simp] theorem modTable_granules : (d.modTable k f).granules = d.granules := rfl
@[simp] theorem modTable_remaps : (d.modTable k f).remaps = d.remaps := rfl
@[simp] theorem modTable_retiredPages : (d.modTable k f).retiredPages = d.retiredPages := rfl
@[simp] theorem modTable_dueRetire : (d.modTable k f).dueRetire = d.dueRetire := rfl
@[simp] theorem modTable_retiredTiles : (d.modTable k f).retiredTiles = d.retiredTiles := rfl
@[simp] theorem modTable_usedSpares : (d.modTable k f).usedSpares = d.usedSpares := rfl
@[simp] theorem modTable_extraReserved : (d.modTable k f).extraReserved = d.extraReserved := rfl
@[simp] theorem modTable_extraSpare : (d.modTable k f).extraSpare = d.extraSpare := rfl
@[simp] theorem modTable_tmemBytes : (d.modTable k f).tmemBytes = d.tmemBytes := rfl
@[simp] theorem modTable_tmemPoison : (d.modTable k f).tmemPoison = d.tmemPoison := rfl
@[simp] theorem modTable_hostMem : (d.modTable k f).hostMem = d.hostMem := rfl
@[simp] theorem modTable_ports : (d.modTable k f).ports = d.ports := rfl
@[simp] theorem modTable_lanes : (d.modTable k f).lanes = d.lanes := rfl
@[simp] theorem modTable_layouts : (d.modTable k f).layouts = d.layouts := rfl
@[simp] theorem modTable_drops : (d.modTable k f).drops = d.drops := rfl
@[simp] theorem modTable_dropTotal : (d.modTable k f).dropTotal = d.dropTotal := rfl
@[simp] theorem modTable_chipId : (d.modTable k f).chipId = d.chipId := rfl
@[simp] theorem modTable_net : (d.modTable k f).net = d.net := rfl
@[simp] theorem modTable_tags : (d.modTable k f).tags = d.tags := rfl
@[simp] theorem modTable_farWatches : (d.modTable k f).farWatches = d.farWatches := rfl
@[simp] theorem modTable_nextTag : (d.modTable k f).nextTag = d.nextTag := rfl
@[simp] theorem modTable_sentinel : (d.modTable k f).sentinel = d.sentinel := rfl
@[simp] theorem modTable_sentinelSets : (d.modTable k f).sentinelSets = d.sentinelSets := rfl
@[simp] theorem modTable_unregistered : (d.modTable k f).unregistered = d.unregistered := rfl
@[simp] theorem modTable_sentReports : (d.modTable k f).sentReports = d.sentReports := rfl
@[simp] theorem modTable_replayCount : (d.modTable k f).replayCount = d.replayCount := rfl
@[simp] theorem modTable_replayFailed : (d.modTable k f).replayFailed = d.replayFailed := rfl
@[simp] theorem modTable_auditRuns : (d.modTable k f).auditRuns = d.auditRuns := rfl
@[simp] theorem modTable_auditSkipped : (d.modTable k f).auditSkipped = d.auditSkipped := rfl
@[simp] theorem modTable_auditMiss : (d.modTable k f).auditMiss = d.auditMiss := rfl
@[simp] theorem modTable_reducerSuspect : (d.modTable k f).reducerSuspect = d.reducerSuspect := rfl
@[simp] theorem modTable_rst : (d.modTable k f).rst = d.rst := rfl
@[simp] theorem modTable_devTime : (d.modTable k f).devTime = d.devTime := rfl
@[simp] theorem modTable_devLatch : (d.modTable k f).devLatch = d.devLatch := rfl
@[simp] theorem modTable_panels : (d.modTable k f).panels = d.panels := rfl
@[simp] theorem modTable_powerLimit : (d.modTable k f).powerLimit = d.powerLimit := rfl
@[simp] theorem modTable_packageW : (d.modTable k f).packageW = d.packageW := rfl
@[simp] theorem modTable_sensors : (d.modTable k f).sensors = d.sensors := rfl
@[simp] theorem modTable_govDelays : (d.modTable k f).govDelays = d.govDelays := rfl
@[simp] theorem modTable_tsync : (d.modTable k f).tsync = d.tsync := rfl
@[simp] theorem modTable_collarCores : (d.modTable k f).collarCores = d.collarCores := rfl
@[simp] theorem modTable_spareUsed : (d.modTable k f).spareUsed = d.spareUsed := rfl
@[simp] theorem modTable_comps : (d.modTable k f).comps = d.comps := rfl
@[simp] theorem modTable_sessions : (d.modTable k f).sessions = d.sessions := rfl
@[simp] theorem modTable_mbx : (d.modTable k f).mbx = d.mbx := rfl
@[simp] theorem modTable_dict : (d.modTable k f).dict = d.dict := rfl
@[simp] theorem modTable_devEvq : (d.modTable k f).devEvq = d.devEvq := rfl
@[simp] theorem modTable_devMsix : (d.modTable k f).devMsix = d.devMsix := rfl
@[simp] theorem modTable_firstOwner : (d.modTable k f).firstOwner = d.firstOwner := rfl
@[simp] theorem modTable_clampLog : (d.modTable k f).clampLog = d.clampLog := rfl
@[simp] theorem modTable_clampLost : (d.modTable k f).clampLost = d.clampLost := rfl
@[simp] theorem modTable_errLog : (d.modTable k f).errLog = d.errLog := rfl
@[simp] theorem modTable_alarms : (d.modTable k f).alarms = d.alarms := rfl
@[simp] theorem modTable_i3cDyn : (d.modTable k f).i3cDyn = d.i3cDyn := rfl
@[simp] theorem modTable_ibi : (d.modTable k f).ibi = d.ibi := rfl
@[simp] theorem modTable_fw : (d.modTable k f).fw = d.fw := rfl
@[simp] theorem modTable_spdm : (d.modTable k f).spdm = d.spdm := rfl
@[simp] theorem modTable_csets : (d.modTable k f).csets = d.csets := rfl
@[simp] theorem modTable_csetBound : (d.modTable k f).csetBound = d.csetBound := rfl
@[simp] theorem modTable_cntResidue : (d.modTable k f).cntResidue = d.cntResidue := rfl
@[simp] theorem modTable_cntCorrected : (d.modTable k f).cntCorrected = d.cntCorrected := rfl
@[simp] theorem modTable_cntRetries : (d.modTable k f).cntRetries = d.cntRetries := rfl
@[simp] theorem modTable_trace : (d.modTable k f).trace = d.trace := rfl
@[simp] theorem modTable_dumps : (d.modTable k f).dumps = d.dumps := rfl
@[simp] theorem modTable_dumpLost : (d.modTable k f).dumpLost = d.dumpLost := rfl
@[simp] theorem modTable_deviceDump : (d.modTable k f).deviceDump = d.deviceDump := rfl
@[simp] theorem modTable_scan : (d.modTable k f).scan = d.scan := rfl
@[simp] theorem modTable_bindQueue : (d.modTable k f).bindQueue = d.bindQueue := rfl
@[simp] theorem modTable_freeCount : (d.modTable k f).freeCount = d.freeCount := rfl
end

section
variable (d : Device) (k : SliceTab) (f : Layout → Layout)
@[simp] theorem modLayout_tiles : (d.modLayout k f).tiles = d.tiles := rfl
@[simp] theorem modLayout_patchMap : (d.modLayout k f).patchMap = d.patchMap := rfl
@[simp] theorem modLayout_health : (d.modLayout k f).health = d.health := rfl
@[simp] theorem modLayout_bulk : (d.modLayout k f).bulk = d.bulk := rfl
@[simp] theorem modLayout_bulkBound : (d.modLayout k f).bulkBound = d.bulkBound := rfl
@[simp] theorem modLayout_hl : (d.modLayout k f).hl = d.hl := rfl
@[simp] theorem modLayout_forwards : (d.modLayout k f).forwards = d.forwards := rfl
@[simp] theorem modLayout_reports : (d.modLayout k f).reports = d.reports := rfl
@[simp] theorem modLayout_parts : (d.modLayout k f).parts = d.parts := rfl
@[simp] theorem modLayout_ctxs : (d.modLayout k f).ctxs = d.ctxs := rfl
@[simp] theorem modLayout_gather : (d.modLayout k f).gather = d.gather := rfl
@[simp] theorem modLayout_rowCache : (d.modLayout k f).rowCache = d.rowCache := rfl
@[simp] theorem modLayout_tmem : (d.modLayout k f).tmem = d.tmem := rfl
@[simp] theorem modLayout_hbm : (d.modLayout k f).hbm = d.hbm := rfl
@[simp] theorem modLayout_hbmBad : (d.modLayout k f).hbmBad = d.hbmBad := rfl
@[simp] theorem modLayout_pageCe : (d.modLayout k f).pageCe = d.pageCe := rfl
@[simp] theorem modLayout_hbmStacks : (d.modLayout k f).hbmStacks = d.hbmStacks := rfl
@[simp] theorem modLayout_pages : (d.modLayout k f).pages = d.pages := rfl
@[simp] theorem modLayout_granules : (d.modLayout k f).granules = d.granules := rfl
@[simp] theorem modLayout_remaps : (d.modLayout k f).remaps = d.remaps := rfl
@[simp] theorem modLayout_retiredPages : (d.modLayout k f).retiredPages = d.retiredPages := rfl
@[simp] theorem modLayout_dueRetire : (d.modLayout k f).dueRetire = d.dueRetire := rfl
@[simp] theorem modLayout_retiredTiles : (d.modLayout k f).retiredTiles = d.retiredTiles := rfl
@[simp] theorem modLayout_usedSpares : (d.modLayout k f).usedSpares = d.usedSpares := rfl
@[simp] theorem modLayout_extraReserved : (d.modLayout k f).extraReserved = d.extraReserved := rfl
@[simp] theorem modLayout_extraSpare : (d.modLayout k f).extraSpare = d.extraSpare := rfl
@[simp] theorem modLayout_tmemBytes : (d.modLayout k f).tmemBytes = d.tmemBytes := rfl
@[simp] theorem modLayout_tmemPoison : (d.modLayout k f).tmemPoison = d.tmemPoison := rfl
@[simp] theorem modLayout_hostMem : (d.modLayout k f).hostMem = d.hostMem := rfl
@[simp] theorem modLayout_ports : (d.modLayout k f).ports = d.ports := rfl
@[simp] theorem modLayout_lanes : (d.modLayout k f).lanes = d.lanes := rfl
@[simp] theorem modLayout_tables : (d.modLayout k f).tables = d.tables := rfl
@[simp] theorem modLayout_drops : (d.modLayout k f).drops = d.drops := rfl
@[simp] theorem modLayout_dropTotal : (d.modLayout k f).dropTotal = d.dropTotal := rfl
@[simp] theorem modLayout_chipId : (d.modLayout k f).chipId = d.chipId := rfl
@[simp] theorem modLayout_net : (d.modLayout k f).net = d.net := rfl
@[simp] theorem modLayout_tags : (d.modLayout k f).tags = d.tags := rfl
@[simp] theorem modLayout_farWatches : (d.modLayout k f).farWatches = d.farWatches := rfl
@[simp] theorem modLayout_nextTag : (d.modLayout k f).nextTag = d.nextTag := rfl
@[simp] theorem modLayout_sentinel : (d.modLayout k f).sentinel = d.sentinel := rfl
@[simp] theorem modLayout_sentinelSets : (d.modLayout k f).sentinelSets = d.sentinelSets := rfl
@[simp] theorem modLayout_unregistered : (d.modLayout k f).unregistered = d.unregistered := rfl
@[simp] theorem modLayout_sentReports : (d.modLayout k f).sentReports = d.sentReports := rfl
@[simp] theorem modLayout_replayCount : (d.modLayout k f).replayCount = d.replayCount := rfl
@[simp] theorem modLayout_replayFailed : (d.modLayout k f).replayFailed = d.replayFailed := rfl
@[simp] theorem modLayout_auditRuns : (d.modLayout k f).auditRuns = d.auditRuns := rfl
@[simp] theorem modLayout_auditSkipped : (d.modLayout k f).auditSkipped = d.auditSkipped := rfl
@[simp] theorem modLayout_auditMiss : (d.modLayout k f).auditMiss = d.auditMiss := rfl
@[simp] theorem modLayout_reducerSuspect : (d.modLayout k f).reducerSuspect = d.reducerSuspect := rfl
@[simp] theorem modLayout_rst : (d.modLayout k f).rst = d.rst := rfl
@[simp] theorem modLayout_devTime : (d.modLayout k f).devTime = d.devTime := rfl
@[simp] theorem modLayout_devLatch : (d.modLayout k f).devLatch = d.devLatch := rfl
@[simp] theorem modLayout_panels : (d.modLayout k f).panels = d.panels := rfl
@[simp] theorem modLayout_powerLimit : (d.modLayout k f).powerLimit = d.powerLimit := rfl
@[simp] theorem modLayout_packageW : (d.modLayout k f).packageW = d.packageW := rfl
@[simp] theorem modLayout_sensors : (d.modLayout k f).sensors = d.sensors := rfl
@[simp] theorem modLayout_govDelays : (d.modLayout k f).govDelays = d.govDelays := rfl
@[simp] theorem modLayout_tsync : (d.modLayout k f).tsync = d.tsync := rfl
@[simp] theorem modLayout_collarCores : (d.modLayout k f).collarCores = d.collarCores := rfl
@[simp] theorem modLayout_spareUsed : (d.modLayout k f).spareUsed = d.spareUsed := rfl
@[simp] theorem modLayout_comps : (d.modLayout k f).comps = d.comps := rfl
@[simp] theorem modLayout_sessions : (d.modLayout k f).sessions = d.sessions := rfl
@[simp] theorem modLayout_mbx : (d.modLayout k f).mbx = d.mbx := rfl
@[simp] theorem modLayout_dict : (d.modLayout k f).dict = d.dict := rfl
@[simp] theorem modLayout_devEvq : (d.modLayout k f).devEvq = d.devEvq := rfl
@[simp] theorem modLayout_devMsix : (d.modLayout k f).devMsix = d.devMsix := rfl
@[simp] theorem modLayout_firstOwner : (d.modLayout k f).firstOwner = d.firstOwner := rfl
@[simp] theorem modLayout_clampLog : (d.modLayout k f).clampLog = d.clampLog := rfl
@[simp] theorem modLayout_clampLost : (d.modLayout k f).clampLost = d.clampLost := rfl
@[simp] theorem modLayout_errLog : (d.modLayout k f).errLog = d.errLog := rfl
@[simp] theorem modLayout_alarms : (d.modLayout k f).alarms = d.alarms := rfl
@[simp] theorem modLayout_i3cDyn : (d.modLayout k f).i3cDyn = d.i3cDyn := rfl
@[simp] theorem modLayout_ibi : (d.modLayout k f).ibi = d.ibi := rfl
@[simp] theorem modLayout_fw : (d.modLayout k f).fw = d.fw := rfl
@[simp] theorem modLayout_spdm : (d.modLayout k f).spdm = d.spdm := rfl
@[simp] theorem modLayout_csets : (d.modLayout k f).csets = d.csets := rfl
@[simp] theorem modLayout_csetBound : (d.modLayout k f).csetBound = d.csetBound := rfl
@[simp] theorem modLayout_cntResidue : (d.modLayout k f).cntResidue = d.cntResidue := rfl
@[simp] theorem modLayout_cntCorrected : (d.modLayout k f).cntCorrected = d.cntCorrected := rfl
@[simp] theorem modLayout_cntRetries : (d.modLayout k f).cntRetries = d.cntRetries := rfl
@[simp] theorem modLayout_trace : (d.modLayout k f).trace = d.trace := rfl
@[simp] theorem modLayout_dumps : (d.modLayout k f).dumps = d.dumps := rfl
@[simp] theorem modLayout_dumpLost : (d.modLayout k f).dumpLost = d.dumpLost := rfl
@[simp] theorem modLayout_deviceDump : (d.modLayout k f).deviceDump = d.deviceDump := rfl
@[simp] theorem modLayout_scan : (d.modLayout k f).scan = d.scan := rfl
@[simp] theorem modLayout_bindQueue : (d.modLayout k f).bindQueue = d.bindQueue := rfl
@[simp] theorem modLayout_freeCount : (d.modLayout k f).freeCount = d.freeCount := rfl
end

section
variable (d : Device) (n : NetNo) (f : Net → Net)
@[simp] theorem modNet_tiles : (d.modNet n f).tiles = d.tiles := rfl
@[simp] theorem modNet_patchMap : (d.modNet n f).patchMap = d.patchMap := rfl
@[simp] theorem modNet_health : (d.modNet n f).health = d.health := rfl
@[simp] theorem modNet_bulk : (d.modNet n f).bulk = d.bulk := rfl
@[simp] theorem modNet_bulkBound : (d.modNet n f).bulkBound = d.bulkBound := rfl
@[simp] theorem modNet_hl : (d.modNet n f).hl = d.hl := rfl
@[simp] theorem modNet_forwards : (d.modNet n f).forwards = d.forwards := rfl
@[simp] theorem modNet_reports : (d.modNet n f).reports = d.reports := rfl
@[simp] theorem modNet_parts : (d.modNet n f).parts = d.parts := rfl
@[simp] theorem modNet_ctxs : (d.modNet n f).ctxs = d.ctxs := rfl
@[simp] theorem modNet_gather : (d.modNet n f).gather = d.gather := rfl
@[simp] theorem modNet_rowCache : (d.modNet n f).rowCache = d.rowCache := rfl
@[simp] theorem modNet_tmem : (d.modNet n f).tmem = d.tmem := rfl
@[simp] theorem modNet_hbm : (d.modNet n f).hbm = d.hbm := rfl
@[simp] theorem modNet_hbmBad : (d.modNet n f).hbmBad = d.hbmBad := rfl
@[simp] theorem modNet_pageCe : (d.modNet n f).pageCe = d.pageCe := rfl
@[simp] theorem modNet_hbmStacks : (d.modNet n f).hbmStacks = d.hbmStacks := rfl
@[simp] theorem modNet_pages : (d.modNet n f).pages = d.pages := rfl
@[simp] theorem modNet_granules : (d.modNet n f).granules = d.granules := rfl
@[simp] theorem modNet_remaps : (d.modNet n f).remaps = d.remaps := rfl
@[simp] theorem modNet_retiredPages : (d.modNet n f).retiredPages = d.retiredPages := rfl
@[simp] theorem modNet_dueRetire : (d.modNet n f).dueRetire = d.dueRetire := rfl
@[simp] theorem modNet_retiredTiles : (d.modNet n f).retiredTiles = d.retiredTiles := rfl
@[simp] theorem modNet_usedSpares : (d.modNet n f).usedSpares = d.usedSpares := rfl
@[simp] theorem modNet_extraReserved : (d.modNet n f).extraReserved = d.extraReserved := rfl
@[simp] theorem modNet_extraSpare : (d.modNet n f).extraSpare = d.extraSpare := rfl
@[simp] theorem modNet_tmemBytes : (d.modNet n f).tmemBytes = d.tmemBytes := rfl
@[simp] theorem modNet_tmemPoison : (d.modNet n f).tmemPoison = d.tmemPoison := rfl
@[simp] theorem modNet_hostMem : (d.modNet n f).hostMem = d.hostMem := rfl
@[simp] theorem modNet_ports : (d.modNet n f).ports = d.ports := rfl
@[simp] theorem modNet_lanes : (d.modNet n f).lanes = d.lanes := rfl
@[simp] theorem modNet_tables : (d.modNet n f).tables = d.tables := rfl
@[simp] theorem modNet_layouts : (d.modNet n f).layouts = d.layouts := rfl
@[simp] theorem modNet_drops : (d.modNet n f).drops = d.drops := rfl
@[simp] theorem modNet_dropTotal : (d.modNet n f).dropTotal = d.dropTotal := rfl
@[simp] theorem modNet_chipId : (d.modNet n f).chipId = d.chipId := rfl
@[simp] theorem modNet_tags : (d.modNet n f).tags = d.tags := rfl
@[simp] theorem modNet_farWatches : (d.modNet n f).farWatches = d.farWatches := rfl
@[simp] theorem modNet_nextTag : (d.modNet n f).nextTag = d.nextTag := rfl
@[simp] theorem modNet_sentinel : (d.modNet n f).sentinel = d.sentinel := rfl
@[simp] theorem modNet_sentinelSets : (d.modNet n f).sentinelSets = d.sentinelSets := rfl
@[simp] theorem modNet_unregistered : (d.modNet n f).unregistered = d.unregistered := rfl
@[simp] theorem modNet_sentReports : (d.modNet n f).sentReports = d.sentReports := rfl
@[simp] theorem modNet_replayCount : (d.modNet n f).replayCount = d.replayCount := rfl
@[simp] theorem modNet_replayFailed : (d.modNet n f).replayFailed = d.replayFailed := rfl
@[simp] theorem modNet_auditRuns : (d.modNet n f).auditRuns = d.auditRuns := rfl
@[simp] theorem modNet_auditSkipped : (d.modNet n f).auditSkipped = d.auditSkipped := rfl
@[simp] theorem modNet_auditMiss : (d.modNet n f).auditMiss = d.auditMiss := rfl
@[simp] theorem modNet_reducerSuspect : (d.modNet n f).reducerSuspect = d.reducerSuspect := rfl
@[simp] theorem modNet_rst : (d.modNet n f).rst = d.rst := rfl
@[simp] theorem modNet_devTime : (d.modNet n f).devTime = d.devTime := rfl
@[simp] theorem modNet_devLatch : (d.modNet n f).devLatch = d.devLatch := rfl
@[simp] theorem modNet_panels : (d.modNet n f).panels = d.panels := rfl
@[simp] theorem modNet_powerLimit : (d.modNet n f).powerLimit = d.powerLimit := rfl
@[simp] theorem modNet_packageW : (d.modNet n f).packageW = d.packageW := rfl
@[simp] theorem modNet_sensors : (d.modNet n f).sensors = d.sensors := rfl
@[simp] theorem modNet_govDelays : (d.modNet n f).govDelays = d.govDelays := rfl
@[simp] theorem modNet_tsync : (d.modNet n f).tsync = d.tsync := rfl
@[simp] theorem modNet_collarCores : (d.modNet n f).collarCores = d.collarCores := rfl
@[simp] theorem modNet_spareUsed : (d.modNet n f).spareUsed = d.spareUsed := rfl
@[simp] theorem modNet_comps : (d.modNet n f).comps = d.comps := rfl
@[simp] theorem modNet_sessions : (d.modNet n f).sessions = d.sessions := rfl
@[simp] theorem modNet_mbx : (d.modNet n f).mbx = d.mbx := rfl
@[simp] theorem modNet_dict : (d.modNet n f).dict = d.dict := rfl
@[simp] theorem modNet_devEvq : (d.modNet n f).devEvq = d.devEvq := rfl
@[simp] theorem modNet_devMsix : (d.modNet n f).devMsix = d.devMsix := rfl
@[simp] theorem modNet_firstOwner : (d.modNet n f).firstOwner = d.firstOwner := rfl
@[simp] theorem modNet_clampLog : (d.modNet n f).clampLog = d.clampLog := rfl
@[simp] theorem modNet_clampLost : (d.modNet n f).clampLost = d.clampLost := rfl
@[simp] theorem modNet_errLog : (d.modNet n f).errLog = d.errLog := rfl
@[simp] theorem modNet_alarms : (d.modNet n f).alarms = d.alarms := rfl
@[simp] theorem modNet_i3cDyn : (d.modNet n f).i3cDyn = d.i3cDyn := rfl
@[simp] theorem modNet_ibi : (d.modNet n f).ibi = d.ibi := rfl
@[simp] theorem modNet_fw : (d.modNet n f).fw = d.fw := rfl
@[simp] theorem modNet_spdm : (d.modNet n f).spdm = d.spdm := rfl
@[simp] theorem modNet_csets : (d.modNet n f).csets = d.csets := rfl
@[simp] theorem modNet_csetBound : (d.modNet n f).csetBound = d.csetBound := rfl
@[simp] theorem modNet_cntResidue : (d.modNet n f).cntResidue = d.cntResidue := rfl
@[simp] theorem modNet_cntCorrected : (d.modNet n f).cntCorrected = d.cntCorrected := rfl
@[simp] theorem modNet_cntRetries : (d.modNet n f).cntRetries = d.cntRetries := rfl
@[simp] theorem modNet_trace : (d.modNet n f).trace = d.trace := rfl
@[simp] theorem modNet_dumps : (d.modNet n f).dumps = d.dumps := rfl
@[simp] theorem modNet_dumpLost : (d.modNet n f).dumpLost = d.dumpLost := rfl
@[simp] theorem modNet_deviceDump : (d.modNet n f).deviceDump = d.deviceDump := rfl
@[simp] theorem modNet_scan : (d.modNet n f).scan = d.scan := rfl
@[simp] theorem modNet_bindQueue : (d.modNet n f).bindQueue = d.bindQueue := rfl
@[simp] theorem modNet_freeCount : (d.modNet n f).freeCount = d.freeCount := rfl
end

section
variable (d : Device) (p : PanelNo) (f : Panel → Panel)
@[simp] theorem modPanel_tiles : (d.modPanel p f).tiles = d.tiles := rfl
@[simp] theorem modPanel_patchMap : (d.modPanel p f).patchMap = d.patchMap := rfl
@[simp] theorem modPanel_health : (d.modPanel p f).health = d.health := rfl
@[simp] theorem modPanel_bulk : (d.modPanel p f).bulk = d.bulk := rfl
@[simp] theorem modPanel_bulkBound : (d.modPanel p f).bulkBound = d.bulkBound := rfl
@[simp] theorem modPanel_hl : (d.modPanel p f).hl = d.hl := rfl
@[simp] theorem modPanel_forwards : (d.modPanel p f).forwards = d.forwards := rfl
@[simp] theorem modPanel_reports : (d.modPanel p f).reports = d.reports := rfl
@[simp] theorem modPanel_parts : (d.modPanel p f).parts = d.parts := rfl
@[simp] theorem modPanel_ctxs : (d.modPanel p f).ctxs = d.ctxs := rfl
@[simp] theorem modPanel_gather : (d.modPanel p f).gather = d.gather := rfl
@[simp] theorem modPanel_rowCache : (d.modPanel p f).rowCache = d.rowCache := rfl
@[simp] theorem modPanel_tmem : (d.modPanel p f).tmem = d.tmem := rfl
@[simp] theorem modPanel_hbm : (d.modPanel p f).hbm = d.hbm := rfl
@[simp] theorem modPanel_hbmBad : (d.modPanel p f).hbmBad = d.hbmBad := rfl
@[simp] theorem modPanel_pageCe : (d.modPanel p f).pageCe = d.pageCe := rfl
@[simp] theorem modPanel_hbmStacks : (d.modPanel p f).hbmStacks = d.hbmStacks := rfl
@[simp] theorem modPanel_pages : (d.modPanel p f).pages = d.pages := rfl
@[simp] theorem modPanel_granules : (d.modPanel p f).granules = d.granules := rfl
@[simp] theorem modPanel_remaps : (d.modPanel p f).remaps = d.remaps := rfl
@[simp] theorem modPanel_retiredPages : (d.modPanel p f).retiredPages = d.retiredPages := rfl
@[simp] theorem modPanel_dueRetire : (d.modPanel p f).dueRetire = d.dueRetire := rfl
@[simp] theorem modPanel_retiredTiles : (d.modPanel p f).retiredTiles = d.retiredTiles := rfl
@[simp] theorem modPanel_usedSpares : (d.modPanel p f).usedSpares = d.usedSpares := rfl
@[simp] theorem modPanel_extraReserved : (d.modPanel p f).extraReserved = d.extraReserved := rfl
@[simp] theorem modPanel_extraSpare : (d.modPanel p f).extraSpare = d.extraSpare := rfl
@[simp] theorem modPanel_tmemBytes : (d.modPanel p f).tmemBytes = d.tmemBytes := rfl
@[simp] theorem modPanel_tmemPoison : (d.modPanel p f).tmemPoison = d.tmemPoison := rfl
@[simp] theorem modPanel_hostMem : (d.modPanel p f).hostMem = d.hostMem := rfl
@[simp] theorem modPanel_ports : (d.modPanel p f).ports = d.ports := rfl
@[simp] theorem modPanel_lanes : (d.modPanel p f).lanes = d.lanes := rfl
@[simp] theorem modPanel_tables : (d.modPanel p f).tables = d.tables := rfl
@[simp] theorem modPanel_layouts : (d.modPanel p f).layouts = d.layouts := rfl
@[simp] theorem modPanel_drops : (d.modPanel p f).drops = d.drops := rfl
@[simp] theorem modPanel_dropTotal : (d.modPanel p f).dropTotal = d.dropTotal := rfl
@[simp] theorem modPanel_chipId : (d.modPanel p f).chipId = d.chipId := rfl
@[simp] theorem modPanel_net : (d.modPanel p f).net = d.net := rfl
@[simp] theorem modPanel_tags : (d.modPanel p f).tags = d.tags := rfl
@[simp] theorem modPanel_farWatches : (d.modPanel p f).farWatches = d.farWatches := rfl
@[simp] theorem modPanel_nextTag : (d.modPanel p f).nextTag = d.nextTag := rfl
@[simp] theorem modPanel_sentinel : (d.modPanel p f).sentinel = d.sentinel := rfl
@[simp] theorem modPanel_sentinelSets : (d.modPanel p f).sentinelSets = d.sentinelSets := rfl
@[simp] theorem modPanel_unregistered : (d.modPanel p f).unregistered = d.unregistered := rfl
@[simp] theorem modPanel_sentReports : (d.modPanel p f).sentReports = d.sentReports := rfl
@[simp] theorem modPanel_replayCount : (d.modPanel p f).replayCount = d.replayCount := rfl
@[simp] theorem modPanel_replayFailed : (d.modPanel p f).replayFailed = d.replayFailed := rfl
@[simp] theorem modPanel_auditRuns : (d.modPanel p f).auditRuns = d.auditRuns := rfl
@[simp] theorem modPanel_auditSkipped : (d.modPanel p f).auditSkipped = d.auditSkipped := rfl
@[simp] theorem modPanel_auditMiss : (d.modPanel p f).auditMiss = d.auditMiss := rfl
@[simp] theorem modPanel_reducerSuspect : (d.modPanel p f).reducerSuspect = d.reducerSuspect := rfl
@[simp] theorem modPanel_rst : (d.modPanel p f).rst = d.rst := rfl
@[simp] theorem modPanel_devTime : (d.modPanel p f).devTime = d.devTime := rfl
@[simp] theorem modPanel_devLatch : (d.modPanel p f).devLatch = d.devLatch := rfl
@[simp] theorem modPanel_powerLimit : (d.modPanel p f).powerLimit = d.powerLimit := rfl
@[simp] theorem modPanel_packageW : (d.modPanel p f).packageW = d.packageW := rfl
@[simp] theorem modPanel_sensors : (d.modPanel p f).sensors = d.sensors := rfl
@[simp] theorem modPanel_govDelays : (d.modPanel p f).govDelays = d.govDelays := rfl
@[simp] theorem modPanel_tsync : (d.modPanel p f).tsync = d.tsync := rfl
@[simp] theorem modPanel_collarCores : (d.modPanel p f).collarCores = d.collarCores := rfl
@[simp] theorem modPanel_spareUsed : (d.modPanel p f).spareUsed = d.spareUsed := rfl
@[simp] theorem modPanel_comps : (d.modPanel p f).comps = d.comps := rfl
@[simp] theorem modPanel_sessions : (d.modPanel p f).sessions = d.sessions := rfl
@[simp] theorem modPanel_mbx : (d.modPanel p f).mbx = d.mbx := rfl
@[simp] theorem modPanel_dict : (d.modPanel p f).dict = d.dict := rfl
@[simp] theorem modPanel_devEvq : (d.modPanel p f).devEvq = d.devEvq := rfl
@[simp] theorem modPanel_devMsix : (d.modPanel p f).devMsix = d.devMsix := rfl
@[simp] theorem modPanel_firstOwner : (d.modPanel p f).firstOwner = d.firstOwner := rfl
@[simp] theorem modPanel_clampLog : (d.modPanel p f).clampLog = d.clampLog := rfl
@[simp] theorem modPanel_clampLost : (d.modPanel p f).clampLost = d.clampLost := rfl
@[simp] theorem modPanel_errLog : (d.modPanel p f).errLog = d.errLog := rfl
@[simp] theorem modPanel_alarms : (d.modPanel p f).alarms = d.alarms := rfl
@[simp] theorem modPanel_i3cDyn : (d.modPanel p f).i3cDyn = d.i3cDyn := rfl
@[simp] theorem modPanel_ibi : (d.modPanel p f).ibi = d.ibi := rfl
@[simp] theorem modPanel_fw : (d.modPanel p f).fw = d.fw := rfl
@[simp] theorem modPanel_spdm : (d.modPanel p f).spdm = d.spdm := rfl
@[simp] theorem modPanel_csets : (d.modPanel p f).csets = d.csets := rfl
@[simp] theorem modPanel_csetBound : (d.modPanel p f).csetBound = d.csetBound := rfl
@[simp] theorem modPanel_cntResidue : (d.modPanel p f).cntResidue = d.cntResidue := rfl
@[simp] theorem modPanel_cntCorrected : (d.modPanel p f).cntCorrected = d.cntCorrected := rfl
@[simp] theorem modPanel_cntRetries : (d.modPanel p f).cntRetries = d.cntRetries := rfl
@[simp] theorem modPanel_trace : (d.modPanel p f).trace = d.trace := rfl
@[simp] theorem modPanel_dumps : (d.modPanel p f).dumps = d.dumps := rfl
@[simp] theorem modPanel_dumpLost : (d.modPanel p f).dumpLost = d.dumpLost := rfl
@[simp] theorem modPanel_deviceDump : (d.modPanel p f).deviceDump = d.deviceDump := rfl
@[simp] theorem modPanel_scan : (d.modPanel p f).scan = d.scan := rfl
@[simp] theorem modPanel_bindQueue : (d.modPanel p f).bindQueue = d.bindQueue := rfl
@[simp] theorem modPanel_freeCount : (d.modPanel p f).freeCount = d.freeCount := rfl
end

section
variable (d : Device) (n : Fin 8) (f : Component → Component)
@[simp] theorem modComp_tiles : (d.modComp n f).tiles = d.tiles := rfl
@[simp] theorem modComp_patchMap : (d.modComp n f).patchMap = d.patchMap := rfl
@[simp] theorem modComp_health : (d.modComp n f).health = d.health := rfl
@[simp] theorem modComp_bulk : (d.modComp n f).bulk = d.bulk := rfl
@[simp] theorem modComp_bulkBound : (d.modComp n f).bulkBound = d.bulkBound := rfl
@[simp] theorem modComp_hl : (d.modComp n f).hl = d.hl := rfl
@[simp] theorem modComp_forwards : (d.modComp n f).forwards = d.forwards := rfl
@[simp] theorem modComp_reports : (d.modComp n f).reports = d.reports := rfl
@[simp] theorem modComp_parts : (d.modComp n f).parts = d.parts := rfl
@[simp] theorem modComp_ctxs : (d.modComp n f).ctxs = d.ctxs := rfl
@[simp] theorem modComp_gather : (d.modComp n f).gather = d.gather := rfl
@[simp] theorem modComp_rowCache : (d.modComp n f).rowCache = d.rowCache := rfl
@[simp] theorem modComp_tmem : (d.modComp n f).tmem = d.tmem := rfl
@[simp] theorem modComp_hbm : (d.modComp n f).hbm = d.hbm := rfl
@[simp] theorem modComp_hbmBad : (d.modComp n f).hbmBad = d.hbmBad := rfl
@[simp] theorem modComp_pageCe : (d.modComp n f).pageCe = d.pageCe := rfl
@[simp] theorem modComp_hbmStacks : (d.modComp n f).hbmStacks = d.hbmStacks := rfl
@[simp] theorem modComp_pages : (d.modComp n f).pages = d.pages := rfl
@[simp] theorem modComp_granules : (d.modComp n f).granules = d.granules := rfl
@[simp] theorem modComp_remaps : (d.modComp n f).remaps = d.remaps := rfl
@[simp] theorem modComp_retiredPages : (d.modComp n f).retiredPages = d.retiredPages := rfl
@[simp] theorem modComp_dueRetire : (d.modComp n f).dueRetire = d.dueRetire := rfl
@[simp] theorem modComp_retiredTiles : (d.modComp n f).retiredTiles = d.retiredTiles := rfl
@[simp] theorem modComp_usedSpares : (d.modComp n f).usedSpares = d.usedSpares := rfl
@[simp] theorem modComp_extraReserved : (d.modComp n f).extraReserved = d.extraReserved := rfl
@[simp] theorem modComp_extraSpare : (d.modComp n f).extraSpare = d.extraSpare := rfl
@[simp] theorem modComp_tmemBytes : (d.modComp n f).tmemBytes = d.tmemBytes := rfl
@[simp] theorem modComp_tmemPoison : (d.modComp n f).tmemPoison = d.tmemPoison := rfl
@[simp] theorem modComp_hostMem : (d.modComp n f).hostMem = d.hostMem := rfl
@[simp] theorem modComp_ports : (d.modComp n f).ports = d.ports := rfl
@[simp] theorem modComp_lanes : (d.modComp n f).lanes = d.lanes := rfl
@[simp] theorem modComp_tables : (d.modComp n f).tables = d.tables := rfl
@[simp] theorem modComp_layouts : (d.modComp n f).layouts = d.layouts := rfl
@[simp] theorem modComp_drops : (d.modComp n f).drops = d.drops := rfl
@[simp] theorem modComp_dropTotal : (d.modComp n f).dropTotal = d.dropTotal := rfl
@[simp] theorem modComp_chipId : (d.modComp n f).chipId = d.chipId := rfl
@[simp] theorem modComp_net : (d.modComp n f).net = d.net := rfl
@[simp] theorem modComp_tags : (d.modComp n f).tags = d.tags := rfl
@[simp] theorem modComp_farWatches : (d.modComp n f).farWatches = d.farWatches := rfl
@[simp] theorem modComp_nextTag : (d.modComp n f).nextTag = d.nextTag := rfl
@[simp] theorem modComp_sentinel : (d.modComp n f).sentinel = d.sentinel := rfl
@[simp] theorem modComp_sentinelSets : (d.modComp n f).sentinelSets = d.sentinelSets := rfl
@[simp] theorem modComp_unregistered : (d.modComp n f).unregistered = d.unregistered := rfl
@[simp] theorem modComp_sentReports : (d.modComp n f).sentReports = d.sentReports := rfl
@[simp] theorem modComp_replayCount : (d.modComp n f).replayCount = d.replayCount := rfl
@[simp] theorem modComp_replayFailed : (d.modComp n f).replayFailed = d.replayFailed := rfl
@[simp] theorem modComp_auditRuns : (d.modComp n f).auditRuns = d.auditRuns := rfl
@[simp] theorem modComp_auditSkipped : (d.modComp n f).auditSkipped = d.auditSkipped := rfl
@[simp] theorem modComp_auditMiss : (d.modComp n f).auditMiss = d.auditMiss := rfl
@[simp] theorem modComp_reducerSuspect : (d.modComp n f).reducerSuspect = d.reducerSuspect := rfl
@[simp] theorem modComp_rst : (d.modComp n f).rst = d.rst := rfl
@[simp] theorem modComp_devTime : (d.modComp n f).devTime = d.devTime := rfl
@[simp] theorem modComp_devLatch : (d.modComp n f).devLatch = d.devLatch := rfl
@[simp] theorem modComp_panels : (d.modComp n f).panels = d.panels := rfl
@[simp] theorem modComp_powerLimit : (d.modComp n f).powerLimit = d.powerLimit := rfl
@[simp] theorem modComp_packageW : (d.modComp n f).packageW = d.packageW := rfl
@[simp] theorem modComp_sensors : (d.modComp n f).sensors = d.sensors := rfl
@[simp] theorem modComp_govDelays : (d.modComp n f).govDelays = d.govDelays := rfl
@[simp] theorem modComp_tsync : (d.modComp n f).tsync = d.tsync := rfl
@[simp] theorem modComp_collarCores : (d.modComp n f).collarCores = d.collarCores := rfl
@[simp] theorem modComp_spareUsed : (d.modComp n f).spareUsed = d.spareUsed := rfl
@[simp] theorem modComp_sessions : (d.modComp n f).sessions = d.sessions := rfl
@[simp] theorem modComp_mbx : (d.modComp n f).mbx = d.mbx := rfl
@[simp] theorem modComp_dict : (d.modComp n f).dict = d.dict := rfl
@[simp] theorem modComp_devEvq : (d.modComp n f).devEvq = d.devEvq := rfl
@[simp] theorem modComp_devMsix : (d.modComp n f).devMsix = d.devMsix := rfl
@[simp] theorem modComp_firstOwner : (d.modComp n f).firstOwner = d.firstOwner := rfl
@[simp] theorem modComp_clampLog : (d.modComp n f).clampLog = d.clampLog := rfl
@[simp] theorem modComp_clampLost : (d.modComp n f).clampLost = d.clampLost := rfl
@[simp] theorem modComp_errLog : (d.modComp n f).errLog = d.errLog := rfl
@[simp] theorem modComp_alarms : (d.modComp n f).alarms = d.alarms := rfl
@[simp] theorem modComp_i3cDyn : (d.modComp n f).i3cDyn = d.i3cDyn := rfl
@[simp] theorem modComp_ibi : (d.modComp n f).ibi = d.ibi := rfl
@[simp] theorem modComp_fw : (d.modComp n f).fw = d.fw := rfl
@[simp] theorem modComp_spdm : (d.modComp n f).spdm = d.spdm := rfl
@[simp] theorem modComp_csets : (d.modComp n f).csets = d.csets := rfl
@[simp] theorem modComp_csetBound : (d.modComp n f).csetBound = d.csetBound := rfl
@[simp] theorem modComp_cntResidue : (d.modComp n f).cntResidue = d.cntResidue := rfl
@[simp] theorem modComp_cntCorrected : (d.modComp n f).cntCorrected = d.cntCorrected := rfl
@[simp] theorem modComp_cntRetries : (d.modComp n f).cntRetries = d.cntRetries := rfl
@[simp] theorem modComp_trace : (d.modComp n f).trace = d.trace := rfl
@[simp] theorem modComp_dumps : (d.modComp n f).dumps = d.dumps := rfl
@[simp] theorem modComp_dumpLost : (d.modComp n f).dumpLost = d.dumpLost := rfl
@[simp] theorem modComp_deviceDump : (d.modComp n f).deviceDump = d.deviceDump := rfl
@[simp] theorem modComp_scan : (d.modComp n f).scan = d.scan := rfl
@[simp] theorem modComp_bindQueue : (d.modComp n f).bindQueue = d.bindQueue := rfl
@[simp] theorem modComp_freeCount : (d.modComp n f).freeCount = d.freeCount := rfl
end

/-! ### Outcomes -/

/-- What a command of the islands does while they run. -/
theorem onLive_live (f : Device → Device) (s : State) (h : s.dev.live = true) : onLive f s = .next { s with dev := f s.dev } := by
  simp [onLive, onDev, h]
/-- What it does while a reset is held or the part is frozen. -/
theorem onLive_dead (f : Device → Device) (s : State) (h : s.dev.live = false) : onLive f s = .next s := by
  simp [onLive, onDev, h]
theorem onDev_eq (f : Device → Device) (s : State) : onDev f s = .next { s with dev := f s.dev } := rfl

/-- Whether islands run depends on the reset state alone. -/
theorem live_of_rst {d e : Device} (h : d.rst = e.rst) : d.live = e.live := by simp [Device.live, h]

end Sys2Proof.Machine
end

