-- ==== Sys2Proof/Laws/Ops.lean ====
section
/-! SUPPORT. Laws of the shared operations: one lemma for each that says what it does, so that a proof need not unfold it. -/

namespace Sys2Proof.Machine

/-! ### Pockets -/

/-- A read of a pocket without ECC errors answers its bytes and changes nothing (R143). -/
theorem pocketRead_clean (d : Device) (t : TileNo) (off n u : Nat) (h : (d.tiles[t]).pocketBad = []) :
    d.pocketRead t off n u = ({ st := .ok, bytes := (d.tiles[t]).pocket.read off n, at_ := 0 }, d) := by
  unfold Device.pocketRead
  simp only [h, if_true]

/-- A write to a pocket without ECC errors writes its bytes and nothing else (R140, R143). -/
theorem pocketWrite_clean (d : Device) (t : TileNo) (off : Nat) (bs : List Byte) (u : Nat) (h : (d.tiles[t]).pocketBad = []) :
    d.pocketWrite t off bs u = (none, d.modTile t (fun x => { x with pocket := x.pocket.write off bs })) := by
  unfold Device.pocketWrite
  simp only [h, if_true]

/-- All that recording uncorrectable words changes (R144): nothing, or the tile's error register. -/
theorem pocketUes_cases (d : Device) (t : TileNo) (ws : List Nat) (u : Nat) :
    d.pocketUes t ws u = d ∨ ∃ e : W64 → W64, d.pocketUes t ws u = d.modTile t (fun x => { x with pocketErr := e x.pocketErr }) := by
  cases ws with
  | nil => exact .inl rfl
  | cons w more =>
    right
    exact ⟨fun e => if more = [] then pocketErrUe e u (8 * w) else setBit (pocketErrUe e u (8 * w)) 17 true, rfl⟩

/-- Recording uncorrectable words leaves every store alone (R144). -/
theorem pocketUes_pocket (d : Device) (t v : TileNo) (ws : List Nat) (u : Nat) :
    ((d.pocketUes t ws u).tiles[v]).pocket = (d.tiles[v]).pocket := by
  by_cases h : v = t
  · subst h
    rcases pocketUes_cases d v ws u with h | ⟨e, h⟩ <;> rw [h]
    simp only [modTile_get]
  · rcases pocketUes_cases d t ws u with h' | ⟨e, h'⟩ <;> rw [h']
    simp only [modTile_get_ne _ _ _ _ h]

/-- All that a read of a pocket changes (R143, R144): nothing; an error register; or an error register and two counters. -/
theorem pocketRead_cases (d : Device) (t : TileNo) (off n u : Nat) :
    (d.pocketRead t off n u).2 = d ∨
    (∃ e : W64 → W64, (d.pocketRead t off n u).2 = d.modTile t (fun x => { x with pocketErr := e x.pocketErr })) ∨
    ∃ ce a, (d.pocketRead t off n u).2 =
      { d.modTile t (fun x => { x with pocketErr := satFld x.pocketErr 0 16 ce, cntCorrected := x.cntCorrected + a }) with
        cntCorrected := d.cntCorrected + a } := by
  unfold Device.pocketRead
  by_cases h : (d.tiles[t]).pocketBad = []
  · left; simp only [h, if_true]
  · right
    simp only [h, if_false]
    split
    · left
      rename_i w more _
      exact ⟨fun e => if more = [] then pocketErrUe e u (8 * w) else setBit (pocketErrUe e u (8 * w)) 17 true, rfl⟩
    · right
      generalize (List.filter (fun w => decide ((w, false) ∈ (d.tiles[t]).pocketBad)) (wordsOf off n)).length = k
      exact ⟨k, BitVec.ofNat 64 k, rfl⟩

/-- Whatever a read of a pocket meets, every pocket keeps its bytes (R143, R144). -/
theorem pocketRead_pocket (d : Device) (t v : TileNo) (off n u : Nat) :
    ((d.pocketRead t off n u).2.tiles[v]).pocket = (d.tiles[v]).pocket := by
  by_cases h : v = t
  · subst h
    rcases pocketRead_cases d v off n u with h | ⟨e, h⟩ | ⟨ce, a, h⟩ <;> rw [h] <;> simp only [modTile_get]
  · rcases pocketRead_cases d t off n u with h' | ⟨e, h'⟩ | ⟨ce, a, h'⟩ <;> rw [h'] <;> simp only [modTile_get_ne _ _ _ _ h]

/-- A read by an engine of its own pocket (R142, R144). -/
theorem ownRead_clean (d : Device) (t : TileNo) (e : Eng) (off n : Nat) (h : (d.tiles[t]).pocketBad = [])
    (hr : off + n ≤ claspBase) :
    d.ownRead t e off n = ({ st := .ok, bytes := (d.tiles[t]).pocket.read off n, at_ := 0 }, d) := by
  unfold Device.ownRead
  by_cases hn : n = 0
  · subst hn; simp [Memory.read]
  · rw [if_neg hn, if_neg (by omega), pocketRead_clean _ _ _ _ _ h]

theorem ownWrite_clean (d : Device) (t : TileNo) (e : Eng) (off : Nat) (bs : List Byte) (h : (d.tiles[t]).pocketBad = [])
    (hb : bs ≠ []) (hr : off + bs.length ≤ claspBase) :
    d.ownWrite t e off bs = (.ok, d.modTile t (fun x => { x with pocket := x.pocket.write off bs })) := by
  unfold Device.ownWrite
  rw [if_neg hb, if_neg (by omega), pocketWrite_clean _ _ _ _ _ h]
  rfl

theorem meshRead_clean (d : Device) (t : TileNo) (off n : Nat) (h : (d.tiles[t]).pocketBad = []) (hr : off + n ≤ claspBase) :
    d.meshRead t off n = ({ st := .ok, bytes := (d.tiles[t]).pocket.read off n, at_ := 0 }, d) := by
  unfold Device.meshRead
  rw [if_neg (by omega), pocketRead_clean _ _ _ _ _ h]
  rfl

theorem meshWrite_clean (d : Device) (t : TileNo) (off : Nat) (bs : List Byte) (h : (d.tiles[t]).pocketBad = [])
    (hr : off + bs.length ≤ claspBase) :
    d.meshWrite t off bs = (.ok, d.modTile t (fun x => { x with pocket := x.pocket.write off bs })) := by
  unfold Device.meshWrite
  rw [if_neg (by omega), pocketWrite_clean _ _ _ _ _ h]

/-! ### Faults and tokens -/

/-- A first fault of a running tile (R115, Table 4.16): its record, the tile stops, and an open drain is discarded (R62). -/
theorem faultTile_first (d : Device) (t : TileNo) (c : CtxNo) (code unit pcq detail : Nat) (hc : (d.tiles[t]).ctx = some c)
    (hv : bitOf (d.tiles[t]).faultInfo 11 = false) (hm : (d.tiles[t]).mode ≠ .faulted) :
    d.faultTile t code unit pcq detail =
      (d.modTile t (fun x => { x with faultInfo := faultWord code unit pcq c.val detail, mode := .faulted, mm := x.mm.discard })).askTeardown c
        (.tileFault (BitVec.ofNat 8 code)) := by
  simp only [Device.faultTile, hc, hv, if_neg hm, Bool.false_eq_true, if_false]

/-- Asking for a teardown changes one context and nothing else. -/
theorem askTeardown_frame (d : Device) (c : CtxNo) (k : Cause) :
    (d.askTeardown c k).tiles = d.tiles ∧ (d.askTeardown c k).hbm = d.hbm ∧ (d.askTeardown c k).tmemBytes = d.tmemBytes ∧
      (d.askTeardown c k).hostMem = d.hostMem ∧ (d.askTeardown c k).rst = d.rst ∧ (d.askTeardown c k).devTime = d.devTime := by
  unfold Device.askTeardown
  simp only
  split <;> simp

/-- A running context asked to be torn down is (R361). -/
theorem askTeardown_running (d : Device) (c : CtxNo) (k : Cause) (h : (d.ctxs[c]).st = .running) :
    (d.askTeardown c k).ctxs[c] = { (d.ctxs[c]) with st := .tearing, teardownCause := some k, waitSince := d.devTime } := by
  unfold Device.askTeardown
  simp only [h, reduceCtorEq, decide_false, Bool.or_self, Bool.false_eq_true, if_false, modCtx_get]

theorem addTok_ok (d : Device) (t : TileNo) (k : Fin 8) (n unit pcq : Nat) (h : ((d.tiles[t]).tok[k]).toNat + n ≤ 255) :
    d.addTok t k n unit pcq =
      d.modTile t (fun x => { x with tok := x.tok.set k (BitVec.ofNat 8 ((x.tok[k]).toNat + n)) }) := by
  unfold Device.addTok
  rw [if_neg (by omega)]

theorem addTok_overflow (d : Device) (t : TileNo) (k : Fin 8) (n unit pcq : Nat) (h : 255 < ((d.tiles[t]).tok[k]).toNat + n) :
    d.addTok t k n unit pcq = d.faultTile t fcTokenOvf unit pcq k := by
  unfold Device.addTok
  rw [if_pos h]

/-! ### Fetch and issue -/

/-- What `fetches` says, clause by clause. -/
theorem fetches_iff (d : Device) (t : TileNo) (op : TOp) :
    d.fetches t op = true ↔ d.live = true ∧ (d.tiles[t]).mode = .running ∧ (d.tiles[t]).ctx.isSome = true ∧
      (d.tiles[t]).pc + 16 ≤ claspBase ∧ (d.tiles[t]).pocketBad = [] ∧ decodeOp (d.tiles[t]).wordAt = some op := by
  simp [Device.fetches, and_assoc]

/-- The controller finds the word at PC (R83, R88). -/
theorem fetch_of_fetches (d : Device) (t : TileNo) (op : TOp) (h : d.fetches t op = true) :
    d.fetch t op = .word (d.tiles[t]).wordAt d := by
  obtain ⟨-, hm, hc, hp, hb, ho⟩ := (fetches_iff d t op).mp h
  unfold Device.fetch
  have hc' : (d.tiles[t]).ctx.isNone = false := by
    rw [← Option.not_isSome, hc]; rfl
  rw [if_neg (by rw [hm, hc']; decide), if_neg (by omega), pocketRead_clean _ _ _ _ _ hb]
  simp only [reduceCtorEq, if_false]
  have : BitVec.ofNat 128 (leNat ((d.tiles[t]).pocket.read (d.tiles[t]).pc 16)) = (d.tiles[t]).wordAt := rfl
  rw [this, ho]
  simp

/-- A ready instruction of the controller is performed and signals (R85, R95, R96). -/
theorem seqRun_ready (d : Device) (t : TileNo) (op : TOp) (faults : W128 → Tile → List Nat) (act : W128 → Tile → Tile)
    (h : d.seqReady t op = true) (hf : faults (d.tiles[t]).wordAt (d.tiles[t]) = []) :
    d.seqRun t op faults act =
      (d.modTile t (fun x => act (d.tiles[t]).wordAt (x.consume (d.tiles[t]).wordAt))).signalSeq t (d.tiles[t]).wordAt
        ((d.tiles[t]).pc / 16) := by
  simp only [Device.seqReady, Bool.and_eq_true, Bool.not_eq_true'] at h
  obtain ⟨⟨⟨hfe, hw⟩, hb⟩, -⟩ := h
  unfold Device.seqRun
  rw [fetch_of_fetches d t op hfe]
  simp only [hw, hb, hf, lowest, Bool.false_eq_true, if_false, Bool.or_self, List.foldl_nil]

/-- A wait clause that does not hold stalls dispatch (R85). -/
theorem seqRun_waits (d : Device) (t : TileNo) (op : TOp) (faults : W128 → Tile → List Nat) (act : W128 → Tile → Tile)
    (h : d.fetches t op = true) (hw : (d.tiles[t]).waits (d.tiles[t]).wordAt = true) :
    d.seqRun t op faults act = d.stall t := by
  unfold Device.seqRun
  rw [fetch_of_fetches d t op h]
  simp only [hw, Bool.true_or, if_true]

/-- Records read from a pocket without ECC errors change nothing. -/
theorem readRecs_clean (d : Device) (t : TileNo) (op : TOp) (w : W128) (n : Nat) (got : List W256)
    (h : (d.tiles[t]).pocketBad = []) : (d.readRecs t op w n got).2.2 = d := by
  induction n generalizing got with
  | zero => rfl
  | succ n ih =>
    unfold Device.readRecs
    split
    · rfl
    · split
      · rfl
      · rw [pocketRead_clean _ _ _ _ _ h]
        simp only [reduceCtorEq, if_false]
        exact ih _

/-- An instruction for an engine with room, without a fault, is frozen at the tail of the queue (R84, R92, R93). -/
theorem issueQ_ok (d : Device) (t : TileNo) (op : TOp) (e : Eng) (recs : List W256) (h : d.fetches t op = true)
    (hq : queueFor (d.tiles[t]).wordAt = some e) (hl : ((d.tiles[t]).queues[e.idx]).length < 32)
    (hr : d.readRecs t op (d.tiles[t]).wordAt 4 [] = (recs, none, d))
    (hb : (d.tiles[t]).bldPending (issueRegs op (d.tiles[t]).wordAt recs) = false)
    (hf : d.issueFaults t op (d.tiles[t]).wordAt recs true = []) :
    d.issueQ t op = (d.modQueueOf t e (fun q => q ++ [(d.tiles[t]).entry (d.tiles[t]).wordAt recs])).modTile t (fun y =>
      { y.nextPc with mm := mmIssued op (d.tiles[t]).wordAt y.mm,
                      engineSince := if ((d.tiles[t]).queues[e.idx]).isEmpty && ((d.tiles[t]).flight[e.idx]).isEmpty
                        then y.engineSince.set e.idx d.devTime else y.engineSince }) := by
  unfold Device.issueQ
  rw [fetch_of_fetches d t op h]
  simp only [hq, if_neg (Nat.not_le.mpr hl), hr, hb, Bool.false_eq_true, if_false]
  simp only [Option.toList_none, Option.isNone_none, List.nil_append, hf, lowest, List.foldl_nil]
  rfl

/-! ### Started instructions -/

/-- What `ready` answers is the k-th started instruction of the engine, of the named operation, not yet performed (R84). -/
theorem ready_some {d : Device} {t : TileNo} {e : Eng} {k : Nat} {op : TOp} {f : Flight} (h : d.ready t e k op = some f) :
    (d.tiles[t]).flight[e.idx][k]? = some f ∧ f.performed = false ∧ decodeOp f.e.word = some op ∧ (d.tiles[t]).mode ≠ .faulted ∧
      (d.tiles[t]).ctx.isSome = true := by
  unfold Device.ready at h
  simp only at h
  split at h
  · cases h
  · rename_i hm
    split at h
    · rename_i g hg
      split at h
      · rename_i hp
        cases h
        simp only [Bool.and_eq_true, Bool.not_eq_true', decide_eq_true_eq] at hp
        simp only [Bool.or_eq_true, decide_eq_true_eq, not_or] at hm
        refine ⟨hg, hp.1.1, hp.1.2, hm.1, ?_⟩
        cases hx : (d.tiles[t]).ctx <;> simp_all
      · cases h
    · cases h

/-- The part with its k-th started instruction performed and awaiting `n` replies. -/
theorem performed_flight (d : Device) (t : TileNo) (e : Eng) (k n : Nat) :
    d.performed t e k n = d.modTile t (fun x => { x with flight := x.flightDone d.devTime e k n }) := rfl

/-! ### Stores -/

/-- The invariant of the stores, from its four parts. -/
theorem storesWf_intro {d : Device} (h1 : d.hbm.wf = true) (h2 : d.tmemBytes.wf = true) (h3 : d.hostMem.wf = true)
    (h4 : ∀ t : TileNo, (d.tiles[t]).pocket.wf = true) : d.storesWf := ⟨h1, h2, h3, h4⟩

/-- An edit of a tile that keeps its pocket canonical keeps every store canonical. -/
theorem storesWf_modTile {d : Device} (t : TileNo) (f : Tile → Tile) (h : d.storesWf)
    (hf : (f (d.tiles[t])).pocket.wf = true) : (d.modTile t f).storesWf := by
  refine ⟨h.1, h.2.1, h.2.2.1, fun v => ?_⟩
  by_cases hv : v = t
  · subst hv; rw [modTile_get]; exact hf
  · rw [modTile_get_ne _ _ _ _ hv]; exact h.2.2.2 v

/-- An edit that leaves the stores alone keeps them canonical. -/
theorem storesWf_of_eq {d e : Device} (h : d.storesWf) (h1 : e.hbm = d.hbm) (h2 : e.tmemBytes = d.tmemBytes)
    (h3 : e.hostMem = d.hostMem) (h4 : ∀ t : TileNo, (e.tiles[t]).pocket = (d.tiles[t]).pocket) : e.storesWf :=
  ⟨h1 ▸ h.1, h2 ▸ h.2.1, h3 ▸ h.2.2.1, fun t => h4 t ▸ h.2.2.2 t⟩

theorem storesWf_pocketRead {d : Device} (t : TileNo) (off n u : Nat) (h : d.storesWf) : (d.pocketRead t off n u).2.storesWf := by
  refine storesWf_of_eq h ?_ ?_ ?_ (fun v => pocketRead_pocket d t v off n u) <;>
  · rcases pocketRead_cases d t off n u with h | ⟨e, h⟩ | ⟨ce, a, h⟩ <;> rw [h] <;> rfl

theorem storesWf_pocketWrite {d : Device} (t : TileNo) (off : Nat) (bs : List Byte) (u : Nat) (h : d.storesWf) :
    (d.pocketWrite t off bs u).2.storesWf := by
  unfold Device.pocketWrite
  simp only
  split
  · exact storesWf_modTile t _ h (Memory.wf_write _ _ (h.2.2.2 t))
  · refine storesWf_of_eq (d := d.modTile t _) (storesWf_modTile t _ h ?_) ?_ ?_ ?_ (fun v => pocketUes_pocket _ t v _ u)
    rotate_left
    iterate 3
      · generalize d.modTile t _ = d'
        generalize List.filter _ _ = ws
        rcases pocketUes_cases d' t ws u with h' | ⟨e, h'⟩ <;> rw [h'] <;> rfl
    have : ∀ (l : List Nat) (m : Memory), m.wf = true → Memory.wf (l.foldl (fun m i => m.put (off + i) (bs.getD i 0)) m) = true := by
      intro l
      induction l with
      | nil => exact fun m hm => hm
      | cons i l ih => exact fun m hm => ih _ (Memory.wf_put _ _ hm)
    exact this _ _ (h.2.2.2 t)

theorem storesWf_hostWrite {d : Device} (p : PartNo) (a : Nat) (bs : List Byte) (h : d.storesWf) :
    (d.hostWrite p a bs).2.storesWf := by
  unfold Device.hostWrite
  split
  · exact ⟨h.1, h.2.1, Memory.wf_write _ _ h.2.2.1, h.2.2.2⟩
  · exact h

end Sys2Proof.Machine
end

