-- ==== Sys2Proof/Laws/Reads.lean ====
section
/-! SUPPORT. Laws of reads from a pocket without ECC errors: they change nothing in the part. -/

namespace Sys2Proof.Machine

theorem pocketRead_snd (d : Device) (t : TileNo) (off n u : Nat) (h : (d.tiles[t]).pocketBad = []) :
    (d.pocketRead t off n u).2 = d := by
  rw [pocketRead_clean _ _ _ _ _ h]

theorem ownRead_snd (d : Device) (t : TileNo) (e : Eng) (off n : Nat) (h : (d.tiles[t]).pocketBad = []) :
    (d.ownRead t e off n).2 = d := by
  unfold Device.ownRead
  split
  · rfl
  · split
    · rfl
    · exact pocketRead_snd _ _ _ _ _ h

/-- Rows read by the array (R58). -/
theorem mmRows_snd (d : Device) (t : TileNo) (base pitch n len : Nat) (h : (d.tiles[t]).pocketBad = []) :
    (d.mmRows t base pitch n len).2 = d := by
  unfold Device.mmRows
  generalize (Except.ok ([] : List (List Byte)) : Except Got (List (List Byte))) = a
  generalize List.range n = l
  induction l generalizing a with
  | nil => rfl
  | cons i l ih =>
    rw [List.foldl_cons]
    cases a with
    | error g => exact ih _
    | ok r =>
      dsimp only
      split
      · rw [ownRead_snd d t .mm _ _ h]; exact ih _
      · rw [ownRead_snd d t .mm _ _ h]; exact ih _

theorem mmOperand_snd (d : Device) (t : TileNo) (f : Fmt) (w : W128) (n klen : Nat) (h : (d.tiles[t]).pocketBad = []) :
    (d.mmOperand t f w n klen).2 = d := by
  unfold Device.mmOperand
  dsimp only
  split
  · exact mmRows_snd _ _ _ _ _ _ h
  · rw [mmRows_snd _ _ _ _ _ _ h]
    split <;> exact mmRows_snd _ _ _ _ _ _ h

theorem mmWord_snd (d : Device) (t : TileNo) (off : Nat) (h : (d.tiles[t]).pocketBad = []) : (d.mmWord t off).2 = d := by
  unfold Device.mmWord
  dsimp only
  split <;> exact ownRead_snd _ _ _ _ _ h

theorem tensorScale_snd (d : Device) (t : TileNo) (need : Bool) (off : Nat) (h : (d.tiles[t]).pocketBad = []) :
    (d.tensorScale t need off).2 = d := by
  unfold Device.tensorScale
  split
  · exact mmWord_snd _ _ _ h
  · rfl

/-- Initial values of an opening output tile (R57, R69). -/
theorem initElems_snd (d : Device) (t : TileNo) (e : Entry) (h : (d.tiles[t]).pocketBad = []) : (d.initElems t e).2 = d := by
  unfold Device.initElems
  dsimp only
  split
  · rfl
  · split
    · exact mmRows_snd _ _ _ _ _ _ h
    · exact mmRows_snd _ _ _ _ _ _ h

/-- What an ST.PUT reads (R104, R105). -/
theorem putInputs_snd (d : Device) (t : TileNo) (e : Entry) (h : (d.tiles[t]).pocketBad = []) : (d.putInputs t e).2 = d := by
  unfold Device.putInputs
  simp only [ownRead_snd _ _ _ _ _ h]
  repeat' split
  all_goals rfl

end Sys2Proof.Machine
end

