-- ==== Sys2Proof/Tests/Slice0.lean ====
section
/-! SUPPORT. Tests: ill-formed terms, and single steps on small states. Each theorem about a statement's hypotheses is its witness:
the state and the operands meet all hypotheses of one clause. Words are written from the tables named. -/

namespace Sys2Proof.Tests

set_option Elab.async false

open Sys2Proof.Machine

/-- The state a command answers. -/
def after (c : Instr) (s : State) : State :=
  match exec c s with
  | .next u => u
  | _ => State.reset

/-- Whether a command answers a next state. -/
def runs (c : Instr) (s : State) : Bool :=
  match exec c s with
  | .next _ => true
  | _ => false

def isFault (c : Instr) (s : State) : Bool :=
  match exec c s with
  | .fault .illFormed => true
  | _ => false

/-- Tile 0 runs context 1 of partition 0. -/
def dev0 : Device :=
  (Device.reset.modTile 0 (fun x => { x with bound := some 0, ctx := some 1, mode := .running, level := 1, mhz := 1500 })).modCtx 1
    (fun x => { x with part := some 0, st := .running, inStep := true })

def st (d : Device) : State := { dev := d, pending := [] }

/-- Tile 0 at PC 0 with an instruction word there. -/
def atWord (w : Nat) (f : Tile → Tile) : State :=
  st (dev0.modTile 0 (fun x => f { x with pocket := Memory.write [] 0 (leBytes 16 w) }))

/-- CLASS, OP and the operand fields of an instruction word (Table 4.1). -/
def ins (cls op operands : Nat) : Nat := cls + op <<< 4 + operands

/-- SEN with STOK, and WTOK with WCNT. -/
def sig (k : Nat) : Nat := 1 <<< 11 + k <<< 12
def wait (k n : Nat) : Nat := k <<< 15 + n <<< 18

def t0 (s : State) : Tile := s.dev.tiles[(0 : TileNo)]

/-! ### Well-formedness: each check refuses a term -/

def longPacket : Packet := { hdr := 0, payload := List.replicate 257 0 }

theorem test_packet_of_257_bytes_refused : (Instr.linkPacketReceive 0 ⟨false, longPacket⟩).wf = false := by decide +kernel
theorem test_packet_of_256_bytes_allowed :
    (Instr.linkPacketReceive 0 ⟨false, { hdr := 0, payload := List.replicate 256 0 }⟩).wf = true := by decide +kernel
theorem test_message_of_257_bytes_refused :
    ([Instr.routerForward, .pktWrite, .pktWriteF, .pktRead, .pktAtomic, .pktWatch, .pktReadRsp, .pktWriteAck, .pktAtomicRsp,
      .pktNotify, .pktCollData, .collReady, .collCredit, .collAbortReceive, .pktTime].all
        (fun c => !(c (.net 0 longPacket)).wf && (c (.port 0 true)).wf)) = true := by decide +kernel
theorem test_bar4_access_bounds :
    (Instr.bar4Read 0 0 0).wf = false ∧ (Instr.bar4Read 0 0 4097).wf = false ∧ (Instr.bar4Read 0 0x7FFFFFFF 2).wf = false ∧
      (Instr.bar4Write 0 0 []).wf = false ∧ (Instr.bar4Read 0 0x7FFFFFFF 1).wf = true := by decide +kernel
theorem test_ill_formed_command_stops : isFault (.linkPacketReceive 0 ⟨false, longPacket⟩) State.reset = true := by decide +kernel
theorem test_well_formed_command_completes : (Instr.seqNop 0).wf = true ∧ runs (.seqNop 0) State.reset = true := by decide +kernel

/-! ### The machine -/

theorem test_step_front_command :
    ∃ s : State, s.pending = [.seqJmp 0, .seqNop 0] ∧ (t0 (match step s with | .next u => u | _ => s)).pc = 80 :=
  ⟨{ (atWord (ins 0 1 (5 <<< 32)) id) with pending := [.seqJmp 0, .seqNop 0] }, rfl, by decide +kernel⟩
theorem test_reset_is_safe_store : Device.reset.hbm.wf = true ∧ (t0 State.reset).pocket.wf = true := by decide +kernel
theorem test_idle_step_counts_a_nanosecond :
    (match step State.reset with | .next u => u | _ => State.reset).dev.devTime = 1 := by decide +kernel
theorem test_frozen_part_stands_still :
    let s := st { dev0 with rst := { dev0.rst with frozen := true } }
    s.dev.live = false ∧ alwaysOn (.seqNop 0) = false ∧ (t0 (after (.seqNop 0) s)).pc = 0 := by decide +kernel

/-! ### SEQ (Table 4.4) -/

theorem test_seq_nop_waits_and_signals :
    let s := atWord (ins 0 0 (sig 3 + wait 2 5)) (fun x => { x with tok := x.tok.set 2 5 })
    s.dev.seqReady 0 .nop = true ∧ (t0 (after (.seqNop 0) s)).pc = 16 ∧ (t0 (after (.seqNop 0) s)).tok[(2 : Fin 8)] = 0 ∧
      (t0 (after (.seqNop 0) s)).tok[(3 : Fin 8)] = 1 := by decide +kernel
theorem test_seq_jmp : let s := atWord (ins 0 1 (5 <<< 32)) id
    s.dev.seqReady 0 .jmp = true ∧ (t0 (after (.seqJmp 0) s)).pc = 80 := by decide +kernel
/-- BR on BND2 below 7 (COND LT) to 3. -/
def brWord : Nat := ins 0 2 (2 <<< 32 + 2 <<< 36 + 7 <<< 38 + 3 <<< 70)
theorem test_seq_br_taken : let s := atWord brWord (fun x => { x with bnd := x.bnd.set 2 6 })
    s.dev.seqReady 0 .br = true ∧ (t0 (after (.seqBr 0) s)).pc = 48 := by decide +kernel
theorem test_seq_br_not_taken : let s := atWord brWord (fun x => { x with bnd := x.bnd.set 2 7 })
    s.dev.seqReady 0 .br = true ∧ (t0 (after (.seqBr 0) s)).pc = 16 := by decide +kernel
theorem test_seq_loop_zero : let s := atWord (ins 0 3 (1 <<< 32 + 9 <<< 50)) id
    s.dev.seqReady 0 .loop = true ∧ extent (fld (t0 s).wordAt 34 16) (t0 s).bnd = 0 ∧ (t0 (after (.seqLoop 0) s)).pc = 144 := by
  decide +kernel
theorem test_seq_loop_bound_register :
    let s := atWord (ins 0 3 (1 <<< 32 + (2 ^ 15 + 4) <<< 34)) (fun x => { x with bnd := x.bnd.set 4 65535 })
    s.dev.seqReady 0 .loop = true ∧ extent (fld (t0 s).wordAt 34 16) (t0 s).bnd = 65535 ∧
      (t0 (after (.seqLoop 0) s)).lc[(1 : Fin 4)] = 65535 ∧ (t0 (after (.seqLoop 0) s)).pc = 16 := by decide +kernel
theorem test_seq_lend_falls_through : let s := atWord (ins 0 4 (3 <<< 32 + 2 <<< 34)) (fun x => { x with lc := x.lc.set 3 1 })
    s.dev.seqReady 0 .lend = true ∧ (t0 (after (.seqLend 0) s)).pc = 16 ∧ (t0 (after (.seqLend 0) s)).lc[(3 : Fin 4)] = 0 := by
  decide +kernel
theorem test_seq_lend_wraps : let s := atWord (ins 0 4 (3 <<< 32 + 2 <<< 34)) id
    (t0 (after (.seqLend 0) s)).pc = 32 ∧ (t0 (after (.seqLend 0) s)).lc[(3 : Fin 4)] = 0xFFFFFFFF := by decide +kernel
theorem test_seq_bset : let s := atWord (ins 0 9 (15 <<< 32 + 0xDEADBEEF <<< 36)) id
    s.dev.seqReady 0 .bset = true ∧ (t0 (after (.seqBset 0) s)).bnd[(15 : Fin 16)] = 0xDEADBEEF := by decide +kernel
theorem test_seq_badd_wraps : let s := atWord (ins 0 10 (1 <<< 32 + 3 <<< 36)) (fun x => { x with bnd := x.bnd.set 1 0xFFFFFFFE })
    s.dev.seqReady 0 .badd = true ∧ (t0 (after (.seqBadd 0) s)).bnd[(1 : Fin 16)] = 1 := by decide +kernel
theorem test_seq_tokadd_to_255 : let s := atWord (ins 0 12 (6 <<< 32 + 250 <<< 35)) (fun x => { x with tok := x.tok.set 6 5 })
    s.dev.fetches 0 .tokadd = true ∧ (t0 s).waits (t0 s).wordAt = false ∧ wSen (t0 s).wordAt = false ∧
      (t0 (after (.seqTokadd 0) s)).tok[(6 : Fin 8)] = 255 := by decide +kernel
theorem test_seq_tokadd_overflows : let s := atWord (ins 0 12 (6 <<< 32 + 251 <<< 35)) (fun x => { x with tok := x.tok.set 6 5 })
    s.dev.fetches 0 .tokadd = true ∧ bitOf (t0 s).faultInfo 11 = false ∧ (t0 (after (.seqTokadd 0) s)).mode = .faulted ∧
      fld (t0 (after (.seqTokadd 0) s)).faultInfo 0 8 = 8 := by decide +kernel
/-- FSEL on the format selector word at 64 (VARIANT 2, MAXV 3), jump table at 128, BND 5. -/
theorem test_seq_fsel :
    let s := atWord (ins 0 16 (64 <<< 32 + 128 <<< 53 + 5 <<< 74)) (fun x =>
      { x with pocket := (x.pocket.putWord 64 8 0x32).putWord 136 4 7 })
    s.dev.seqReady 0 .fsel = true ∧ (t0 s).pocket.word 64 8 = 0x32 ∧ (t0 s).pocket.word 136 4 = 7 ∧
      (t0 (after (.seqFsel 0) s)).pc = 112 ∧ (t0 (after (.seqFsel 0) s)).bnd[(5 : Fin 16)] = 2 := by decide +kernel
/-- A signal on a counter at 255, and a wait of the same counter that makes room. -/
theorem test_signal_overflow : let s := atWord (ins 0 0 (sig 1)) (fun x => { x with tok := x.tok.set 1 255 })
    s.dev.fetches 0 .nop = true ∧ (t0 s).waits (t0 s).wordAt = false ∧ wSen (t0 s).wordAt = true ∧
      (((t0 s).consume (t0 s).wordAt).tok[wStok (t0 s).wordAt]).toNat = 255 ∧ (t0 (after (.seqNop 0) s)).mode = .faulted := by
  decide +kernel
/-- BLD of the pocket word at 256 into BND 3 (SRC 0), and of clasp 47 (SRC 1). -/
theorem test_seq_bld_pocket : let s := atWord (ins 0 8 (3 <<< 32 + 256 <<< 38)) (fun x => { x with pocket := x.pocket.putWord 256 4 77 })
    s.dev.fetches 0 .bld = true ∧ (t0 s).waits (t0 s).wordAt = false ∧ bldFaults (t0 s).wordAt = [] ∧
      (t0 (after (.seqBld 0) s)).bld.map (·.value) = [some 77] ∧
      (t0 (after (.instructionComplete 0 none 0 false) (after (.seqBld 0) s))).bnd[(3 : Fin 16)] = 77 := by decide +kernel
theorem test_seq_bld_clasp : let s := atWord (ins 0 8 (3 <<< 32 + 1 <<< 36 + 47 <<< 38)) (fun x => { x with pocket := x.pocket.putWord (claspOff 47) 8 9 })
    s.dev.fetches 0 .bld = true ∧ bldFaults (t0 s).wordAt = [] ∧ (t0 (after (.seqBld 0) s)).bld.map (·.value) = [some 9] := by
  decide +kernel
theorem test_wait_stalls_and_resumes : let s := atWord (ins 0 0 (wait 2 1)) id
    s.dev.fetches 0 .nop = true ∧ (t0 s).waits (t0 s).wordAt = true ∧ (t0 (after (.seqNop 0) s)).mode = .stalled ∧
      (let u := st ((after (.seqNop 0) s).dev.modTile 0 (fun x => { x with tok := x.tok.set 2 1 }))
       (t0 u).waits (t0 u).wordAt = false ∧ (t0 (after (.dispatchResume 0) u)).mode = .running) := by decide +kernel
/-- The 65th tc of a token wait is seen in its nanosecond (Table 19.3, EVENT 0x004); the clock runs at 1,000 MHz. -/
theorem test_long_token_wait :
    let x := t0 (atWord (ins 0 0 (wait 2 1)) (fun x => { x with mode := .stalled, mhz := 1000, waited := Vector.replicate 5 64 }))
    x.tokenWait 4 = true ∧ x.longWaits 0 = 1 ∧ ((x.tick 0).waited)[(4 : Fin 5)] = 65 ∧ ((x.tick 0).waited)[(0 : Fin 5)] = 0 := by
  decide +kernel
theorem test_reserved_class_faults : let s := atWord (ins 15 0 0) id
    decodeOp (t0 s).wordAt = none ∧ fld (t0 (after (.seqNop 0) s)).faultInfo 0 8 = 1 ∧ (t0 (after (.seqNop 0) s)).pc = 0 := by
  decide +kernel

end Sys2Proof.Tests
end

