-- ==== Sys2Proof/Tests/Engines.lean ====
section
/-! SUPPORT. Tests and witnesses of the tile's engines: SY, starts and completions, LD, ST, MM, VX. -/

namespace Sys2Proof.Tests

set_option Elab.async false

open Sys2Proof.Machine

/-- A started instruction. -/
def flown (w : Nat) (recs : List W256) : Flight :=
  { e := { word := BitVec.ofNat 128 w, recs := recs, bnd := Vector.replicate 16 0, pcq := 0 },
    performed := false, signalled := false, awaits := 0, sentAt := 0, tag := none, buf := none }

/-- Tile 0 with one started instruction on an engine. -/
def flying (e : Eng) (w : Nat) (recs : List W256) (f : Tile → Tile) : State :=
  st (dev0.modTile 0 (fun x => f { x with flight := x.flight.set e.idx [flown w recs] }))

/-- Tile 0 with one performed instruction on an engine. -/
def landed (e : Eng) (w : Nat) (f : Tile → Tile) : State :=
  st (dev0.modTile 0 (fun x => f { x with flight := x.flight.set e.idx [{ flown w [] with performed := true }] }))

def done (s : State) (e : Eng) : Bool := ((t0 s).flight[e.idx]).map (fun f => (f.performed, f.awaits)) = [(true, 0)]
def word (s : State) (a : Nat) : Nat := (t0 s).pocket.word a 4

/-! ### SY (Table 4.13) -/

theorem test_sy_fence : let s := atWord (ins 7 1 (15 <<< 32)) id
    s.dev.syReady 0 .fence = true ∧ (t0 (after (.syFence 0) s)).pc = 16 := by decide +kernel
theorem test_sy_fence_of_an_idle_engine :
    let s := atWord (ins 7 1 (2 <<< 32)) (fun x => { x with flight := x.flight.set Eng.ld.idx [flown (ins 1 0 0) []] })
    s.dev.syReady 0 .fence = true ∧ (t0 (after (.syFence 0) s)).pc = 16 := by decide +kernel
theorem test_sy_step_commit : let s := atWord (ins 7 2 0) id
    s.dev.syReady 0 .commit = true ∧ (t0 (after (.syStepCommit 0) s)).mode = .atCommit := by decide +kernel
theorem test_sy_yield : let s := atWord (ins 7 3 0) id
    s.dev.syReady 0 .yield = true ∧ (t0 (after (.syYield 0) s)).mode = .yielding := by decide +kernel
theorem test_sy_end : let s := atWord (ins 7 4 (sig 7)) id
    s.dev.syReady 0 .end_ = true ∧ (t0 (after (.syEnd 0) s)).mode = .ending ∧
      (t0 (after (.syEnd 0) s)).tok[(7 : Fin 8)] = 1 := by decide +kernel

/-! ### Starts and completions -/

/-- VX.NOP-like VX.MOV of no elements, waiting for 3 tokens of counter 4. -/
def queuedMov : State := st (dev0.modTile 0 (fun x =>
  { x with queues := x.queues.set Eng.vx.idx [(flown (ins 3 0 (wait 4 3)) []).e], tok := x.tok.set 4 3 }))
theorem test_engine_start :
    (t0 queuedMov).ctx.isSome = true ∧ (t0 queuedMov).level ≠ 0 ∧ (t0 queuedMov).mayStart .vx (flown (ins 3 0 (wait 4 3)) []).e = true ∧
      let x := t0 (after (.engineStart 0 .vx) queuedMov)
      x.tok[(4 : Fin 8)] = 0 ∧ x.queues[Eng.vx.idx] = [] ∧ (x.flight[Eng.vx.idx]).length = 1 := by decide +kernel
theorem test_completion_signals : let s := landed .vx (ins 3 0 (sig 5)) (fun x => { x with tok := x.tok.set 5 254 })
    (t0 s).engineOn = true ∧ (t0 (after (.instructionComplete 0 (some .vx) 0 false) s)).tok[(5 : Fin 8)] = 255 ∧
      (t0 (after (.instructionComplete 0 (some .vx) 0 false) s)).flight[Eng.vx.idx] = [] := by decide +kernel
theorem test_completion_overflows : let s := landed .vx (ins 3 0 (sig 5)) (fun x => { x with tok := x.tok.set 5 255 })
    (t0 s).engineOn = true ∧ bitOf (t0 s).faultInfo 11 = false ∧
      fld (t0 (after (.instructionComplete 0 (some .vx) 0 false) s)).faultInfo 0 8 = 8 := by decide +kernel

/-! ### Events of a tile -/

theorem test_pocket_ce_writeback : let s := st (dev0.modTile 0 (fun x => { x with pocketBad := [(5, false), (6, true)] }))
    (t0 (after (.pocketCeWriteback 0 5) s)).pocketBad = [(6, true)] := by decide +kernel
def fillOf (b : Bool) : LFill := { tag := { space := 2, tile := 0, line := 3 }, data := List.replicate 64 9, cancelled := b }
theorem test_lining_fill :
    (t0 (after (.liningFill 0 0) (st (dev0.modTile 0 (fun x => { x with fills := [fillOf true] }))))).lining = [] ∧
    ((t0 (after (.liningFill 0 0) (st (dev0.modTile 0 (fun x => { x with fills := [fillOf false] }))))).lining.map (·.tag)) =
      [(fillOf false).tag] := by decide +kernel
theorem test_sy_lining_inv : let s := flying .ld (ins 7 0 (1 <<< 32)) [] (fun x => { x with fills := [fillOf false] })
    s.dev.ready 0 .ld 0 .inval = some (flown (ins 7 0 (1 <<< 32)) []) ∧
      ((t0 (after (.syLiningInv 0 (.perform 0)) s)).fills.map (·.cancelled)) = [true] ∧
      done (after (.syLiningInv 0 (.perform 0)) s) .ld = true := by decide +kernel
theorem test_engine_stall :
    let s := st ({ queuedMov.dev with devTime := 1000000 }.modTile 0 (fun x => { x with tok := x.tok.set 4 2 }))
    (t0 s).engineOn = true ∧ s.dev.since (t0 s).engineSince[Eng.vx.idx] = 1000000 ∧
      (after (.engineStall 0 .vx) s).dev.errLog.map (·.code) = [0x0200#16] := by decide +kernel

/-! ### LD and ST (Tables 4.5, 4.6) -/

/-- A pattern of 2 rows of 4 FP32 elements at 4096 in the own pocket, 64 bytes apart (E0 = 4, E1 = 2, E2 = E3 = 1, S1 = 64). -/
def twoRows : W256 := BitVec.ofNat 256 (4096 + 4 <<< 80 + 2 <<< 96 + 1 <<< 112 + 1 <<< 128 + 64 <<< 144)

/-- LD.FILL to 8192 converting to BF16 (CVT 1). -/
def fillState : State := flying .ld (ins 1 0 (8192 <<< 32 + 1 <<< 69)) [twoRows] (fun x =>
  { x with pocket := ((x.pocket.putWord 4096 4 0x3F800000).putWord 4108 4 0x40490FDB).putWord 4160 4 0xC0000000 })
theorem test_ld_fill :
    fillState.dev.owner 0 = some (0, 1) ∧ fillState.dev.performs 0 .ld 0 .fill ((t0 fillState).flight[Eng.ld.idx].headD (flown 0 [])) = true ∧
    (match (fillState.dev.ldInputs 0 0 ((t0 fillState).flight[Eng.ld.idx].headD (flown 0 [])).e).1 with
      | .ok i => i.rows.length | _ => 0) = 2 ∧
    let s := after (.ldFill 0 (.perform 0)) fillState
    done s .ld = true ∧ word s 8192 = 0x3F80 ∧ word s 8196 = 0x40490000 ∧ word s 8200 = 0xC000 := by decide +kernel
theorem test_ld_touch : let s := flying .ld (ins 1 1 0) [twoRows] id
    s.dev.owner 0 = some (0, 1) ∧ s.dev.performs 0 .ld 0 .touch (flown (ins 1 1 0) [twoRows]) = true ∧ 
      (match (s.dev.ldMemory 0 0 (flown (ins 1 1 0) [twoRows]).e).1 with
        | .ok l => l.1.length | _ => 0) = 2 ∧
      done (after (.ldTouch 0 (.perform 0)) s) .ld = true ∧ (t0 (after (.ldTouch 0 (.perform 0)) s)).pocket = [] := by
  decide +kernel
/-- ST.PUT of 8 FP32 at 8192 to the same pattern: first the read, then the rows. -/
def putWord1 : Nat := ins 4 0 (8192 <<< 32)
def putState : State := flying .st putWord1 [twoRows] (fun x => { x with pocket := (x.pocket.putWord 8192 4 5).putWord 8208 4 6 })
theorem test_st_put_reads :
    putState.dev.performs 0 .st 0 .put (flown putWord1 [twoRows]) = true ∧
    (match (putState.dev.putInputs 0 (flown putWord1 [twoRows]).e).1 with | .ok b => b.1.1.length | _ => 0) = 2 ∧
    (((t0 (after (.stPut 0 (.perform 0)) putState)).flight[Eng.st.idx]).map (fun f => (f.performed, f.buf.isSome))) = [(false, true)] := by
  decide +kernel
theorem test_st_put_writes : let s := after (.stPut 0 (.perform 0)) putState; let u := after (.stPut 0 (.perform 0)) s
    s.dev.performs 0 .st 0 .put (((t0 s).flight[Eng.st.idx]).headD (flown 0 [])) = true ∧
      done u .st = true ∧ word u 4096 = 5 ∧ word u 4160 = 6 ∧ word u 4112 = 0 := by decide +kernel
/-- The first byte of the clasp region is no part of a row. -/
theorem test_put_row_bounds : (dev0.putRow 0 0 0 (claspBase - 1) [7]).1 = .ok ∧ (dev0.putRow 0 0 0 (claspBase - 1) [7, 8]).1 = .clasp := by
  decide +kernel

/-! ### MM (Tables 4.8, 4.9): one output element, BF16 -/

def mm0 : MM := (t0 State.reset).mm
def open1 : OpenTile := { m := 1, n := 1, fa := 1, fb := 1, runl := 0, outId := 0, ta := 0x3F800000, tb := 0x3F800000,
                          elems := [[Elem.init 0 0]], chunks := 0 }
/-- 16 elements 1.0 of BF16. -/
def ones16 : List Byte := (List.replicate 16 [0x80#8, 0x3F#8]).flatten

def openWord : Nat := ins 2 0 (1 <<< 32 + 1 <<< 48 + 1 <<< 64 + 1 <<< 69)
theorem test_mm_open : let s := flying .mm openWord [0] id
    s.dev.performs 0 .mm 0 .mmOpen (flown openWord [0]) = true ∧ (t0 s).mm.opening = none ∧
      (t0 (after (.mmOpen 0 (.perform 0)) s)).mm.opening = some (flown openWord [0]).e := by decide +kernel
theorem test_mm_tile_init : let s := st (dev0.modTile 0 (fun x => { x with mm := { mm0 with opening := some (flown openWord [0]).e } }))
    (t0 s).engineOn = true ∧ (t0 s).mm.tile = none ∧ (t0 s).pocketBad = [] ∧
      (t0 (after (.mmTileInit 0) s)).mm.tile = some open1 ∧ (t0 (after (.mmTileInit 0) s)).mm.opening = none := by decide +kernel
/-- What the array reads for that tile. -/
theorem test_mm_tile_init_reads (d : Device) (h : (d.tiles[(0 : TileNo)]).pocketBad = []) :
    d.initElems 0 (flown openWord [0]).e = (.ok [[Elem.init 0 0]], d) ∧ d.tensorScale 0 false 0 = (.ok f32one, d) :=
  ⟨Prod.ext rfl (initElems_snd d 0 _ h), Prod.ext rfl (tensorScale_snd d 0 _ _ h)⟩

/-- MM.LDB and MM.STRM of 16 elements at 4096. -/
def ldbWord : Nat := ins 2 1 (4096 <<< 32 + 16 <<< 106)
def strmWord : Nat := ins 2 2 (4096 <<< 32)
def mmState (w : Nat) (m : MM) : State :=
  flying .mm w [] (fun x => { x with mm := m, pocket := x.pocket.write 4096 ones16 })
def isOk {α β : Type} (x : Except α β) : Bool := match x with | .ok _ => true | _ => false
theorem test_mm_ldb : let s := mmState ldbWord { mm0 with tile := some open1 }
    s.dev.performs 0 .mm 0 .ldb (flown ldbWord []) = true ∧ isOk (s.dev.mmOperand 0 .bf16 (flown ldbWord []).e.word 1 16).1 = true ∧
      (t0 s).mm.loadFor = (1, 1) ∧
      ((t0 (after (.mmLdb 0 (.perform 0)) s)).mm.buf[(t0 s).mm.rbNext]).map (fun c => c.elems) = some [List.replicate 16 0x3F80] := by
  decide +kernel
def loaded : MM := { mm0 with tile := some open1, rbNext := 1,
                              buf := mm0.buf.set 0 (some { fb := 1, klen := 16, elems := [List.replicate 16 0x3F80], scales := [[]] }) }
theorem test_mm_strm : let s := mmState strmWord loaded
    s.dev.performs 0 .mm 0 .strm (flown strmWord []) = true ∧ isOk (s.dev.mmOperand 0 .bf16 (flown strmWord []).e.word 1 16).1 = true ∧
      (((t0 (after (.mmStrm 0 (.perform 0)) s)).mm.tile).map (fun o => (o.chunks, o.elems.map (fun r => r.map (·.hi))))) =
        some (1, [[0x41800000]]) := by decide +kernel
/-- Drain at the last place below the clasp region. -/
def drainWord : Nat := ins 2 3 ((claspBase - 16) <<< 33 + 0x3F800000 <<< 70)
theorem test_mm_drain : let s := mmState drainWord { mm0 with tile := some { open1 with elems := [[Elem.init 0x41800000 0]] } }
    s.dev.performs 0 .mm 0 .drain (flown drainWord []) = true ∧ word (after (.mmDrain 0 (.perform 0)) s) (claspBase - 16) = 0x41800000 ∧
      done (after (.mmDrain 0 (.perform 0)) s) .mm = true := by decide +kernel

/-! ### VX (Tables 4.10, 4.11) -/

/-- LEN 2, FP32, SRC0 4096, SRC1 8192, DST 12288. -/
def vxWord (op func : Nat) : Nat := ins 3 op (4096 <<< 32 + 8192 <<< 53 + 12288 <<< 74 + 2 <<< 95 + func <<< 116)
/-- 1.0 and -4.0; 3.0 and +infinity; 0.5 and 2.0 at the destination. -/
def vxState (w : Nat) (recs : List W256) : State := flying .vx w recs (fun x =>
  { x with pocket := [(4096, 0x3F800000), (4100, 0xC0800000), (8192, 0x40400000), (8196, 0x7F800000), (12288, 0x3F000000),
                      (12292, 0x40000000)].foldl (fun m q => Memory.putWord m q.1 4 q.2) x.pocket })
def vxRun (c : TileNo → Phase → Instr) (op : TOp) (w : Nat) (recs : List W256) : Bool × Nat × Nat × Nat :=
  let s := vxState w recs
  let u := after (c 0 (.perform 0)) s
  (s.dev.vxPerforms 0 0 op (flown w recs) && done u .vx, word u 12288, word u 12292, (t0 u).vxStatus.toNat)

theorem test_vx_mov : vxRun .vxMov .mov (vxWord 0 0) [] = (true, 0x3F800000, 0xC0800000, 0) := by decide +kernel
theorem test_vx_add : vxRun .vxAdd .add (vxWord 1 0) [] = (true, 0x40800000, 0x7F800000, 0) := by decide +kernel
theorem test_vx_sub : vxRun .vxSub .sub (vxWord 2 0) [] = (true, 0xC0000000, 0xFF800000, 0) := by decide +kernel
theorem test_vx_mul : vxRun .vxMul .mul (vxWord 3 0) [] = (true, 0x40400000, 0xFF800000, 0) := by decide +kernel
theorem test_vx_fma : vxRun .vxFma .fma (vxWord 4 0) [] = (true, 0x40600000, 0xFF800000, 0) := by decide +kernel
theorem test_vx_max : vxRun .vxMax .max (vxWord 5 0) [] = (true, 0x40400000, 0x7F800000, 0) := by decide +kernel
theorem test_vx_min : vxRun .vxMin .min (vxWord 6 0) [] = (true, 0x3F800000, 0xC0800000, 0) := by decide +kernel
theorem test_vx_sfu : (vxRun .vxSfu .sfu (vxWord 8 0) []).1 = true := by decide +kernel
theorem test_vx_red_sum : vxRun .vxRed .red (vxWord 9 0) [] = (true, 0xC0400000, 0x40000000, 0) := by decide +kernel
theorem test_vx_amax : vxRun .vxAmax .amax (vxWord 0xA 0) [0] = (true, 0x40800000, 0x40000000, 0) := by decide +kernel
/-- Conversion of 1.0 and -4.0 to BF16: 0x3F80, 0xC080. -/
theorem test_vx_cvt : (vxRun .vxCvt .cvt (vxWord 0xC 0) [1]).1 = true ∧ (vxRun .vxCvt .cvt (vxWord 0xC 0) [1]).2.1 = 0xC0803F80 ∧
    Fmt.ofCode (ctlFmt (crCtl 1)) = some .bf16 ∧ crTmode 1 = 0 ∧ ctlMul (crCtl 1) = false ∧ crSten 1 = false := by decide +kernel
/-- TOPK of the largest (FUNC K = 1): value 1.0, index 0. -/
theorem test_vx_topk : vxRun .vxTopk .topk (vxWord 0x10 1) [0] = (true, 0x3F800000, 0, 0) := by decide +kernel
/-- The pairs (1.0, index 7) and (3.0, index 2) merged with K = 1. -/
theorem test_vx_topk_merge :
    let w := vxWord 0x11 1
    let s := flying .vx w [] (fun x => { x with pocket :=
      [(4096, 0x3F800000), (4100, 7), (4104, 0x40400000), (4108, 2)].foldl (fun m q => Memory.putWord m q.1 4 q.2) x.pocket })
    let u := after (.vxTopkMerge 0 (.perform 0)) s
    s.dev.vxPerforms 0 0 .topkMerge (flown w []) = true ∧ word u 12288 = 0x40400000 ∧ word u 12292 = 2 := by decide +kernel
/-- QUANT of 32 zeros to mxE4M3 (record: FMT 5, PSC 16384). -/
def quantRec : W256 := BitVec.ofNat 256 (5 + 16384 <<< 64)
def quantWord : Nat := ins 3 0xD (4096 <<< 32 + 8192 <<< 53 + 12288 <<< 74 + 32 <<< 95)
theorem test_vx_quant : let s := flying .vx quantWord [quantRec] (fun x => { x with pocket := x.pocket.putWord 4096 4 0x3F800000 })
    s.dev.vxPerforms 0 0 .quant (flown quantWord [quantRec]) = true ∧ Fmt.ofCode (ctlFmt (crCtl quantRec)) = some .mxE4M3 ∧
      crTmode quantRec = 0 ∧ ctlMul (crCtl quantRec) = false ∧ crSten quantRec = false ∧
      done (after (.vxQuant 0 (.perform 0)) s) .vx = true ∧ word (after (.vxQuant 0 (.perform 0)) s) 12288 ≠ 0 ∧
      word (after (.vxQuant 0 (.perform 0)) s) 16384 ≠ 0 := by decide +kernel
/-- ROT in blocks of 16 (FUNC 4) of sixteen zeros. -/
def rotWord : Nat := ins 3 0xE (4096 <<< 32 + 8192 <<< 53 + 12288 <<< 74 + 16 <<< 95 + 4 <<< 116)
theorem test_vx_rot : let s := flying .vx rotWord [0] id
    s.dev.vxPerforms 0 0 .rot (flown rotWord [0]) = true ∧ done (after (.vxRot 0 (.perform 0)) s) .vx = true := by decide +kernel

end Sys2Proof.Tests
end

