-- ==== Sys2Proof/Tests/Clasps.lean ====
section
/-! SUPPORT. Tests and witnesses of clasps, watches and tile movers. -/

namespace Sys2Proof.Tests

set_option Elab.async false

open Sys2Proof.Machine

/-! ### Clasp operations (Tables 4.12, 7.1 to 7.4) -/

/-- Clasp 47 of tile 0 holds 5, its owner 9; a CL instruction of the engine ST names it. VSRC 1: the words at 64 and 72 are
`a` and `b`. -/
def clWord (op rest : Nat) : Nat := ins 6 op (3 <<< 32 + 47 <<< 34 + rest)
def vsrc64 : Nat := 1 <<< 66 + 64 <<< 80
def clState (w a b : Nat) : State := flying .st w [] (fun x =>
  { x with pocket := ((x.pocket.putWord 64 8 a).putWord 72 8 b).putWord (claspOff 47) 8 (5 + 9 <<< 48) })
def clRun (c : TileNo → Phase → Instr) (op : TOp) (w a b : Nat) : Bool × Nat × Nat :=
  let s := clState w a b
  let u := after (c 0 (.perform 0)) s
  (s.dev.clPerforms 0 0 op .st (flown w []) 0 1 0 && done u .st, (u.dev.claspWord 0 47).toNat, (t0 u).pocket.word 72 8)

def own9 : Nat := 9 <<< 48
theorem test_cl_add_wraps : clRun .clAdd .clAdd (clWord 1 ((2 ^ 48 - 4) <<< 80)) 0 0 = (true, 1 + own9, 0) := by decide +kernel
theorem test_cl_and_or_max : clRun .clAnd .clAnd (clWord 4 (4 <<< 80)) 0 0 = (true, 4 + own9, 0) ∧
    clRun .clOr .clOr (clWord 5 (2 <<< 80)) 0 0 = (true, 7 + own9, 0) ∧
    clRun .clMax .clMax (clWord 6 (6 <<< 80)) 0 0 = (true, 6 + own9, 0) := by decide +kernel
theorem test_cl_swap_value : clRun .clSwap .clSwap (clWord 2 (77 <<< 80)) 0 0 = (true, 77 + own9, 0) := by decide +kernel
/-- A full word with OWN: the owner is context 1; the previous word comes back at +8. -/
theorem test_cl_swap_full_word : clRun .clSwap .clSwap (clWord 2 vsrc64) (2 ^ 63 + 2 ^ 56 + 6) 0 =
    (true, 2 ^ 63 + 1 <<< 48 + 6, 5 + own9) := by decide +kernel
theorem test_cl_cas_equal : clRun .clCas .clCas (clWord 3 vsrc64) (5 + own9) (2 ^ 56 + 8) = (true, 1 <<< 48 + 8, 5 + own9) := by
  decide +kernel
theorem test_cl_cas_unequal : clRun .clCas .clCas (clWord 3 vsrc64) 5 8 = (true, 5 + own9, 5 + own9) := by decide +kernel
theorem test_cl_read : clRun .clRead .clRead (clWord 10 vsrc64) 0 0 = (true, 5 + own9, 5 + own9) := by decide +kernel
theorem test_cl_cas_without_operand_faults : let s := atWord (clWord 3 0) id
    s.dev.fetches 0 .clCas = true ∧ clVsrc (t0 s).wordAt = false ∧ queueFor (t0 s).wordAt = some .st ∧
      bitOf (t0 s).faultInfo 11 = false ∧ fld (t0 (after (.clCas 0 .issue) s)).faultInfo 0 8 = 3 := by decide +kernel
theorem test_cl_read_without_operand_faults : let s := atWord (clWord 10 0) id
    s.dev.fetches 0 .clRead = true ∧ clVsrc (t0 s).wordAt = false ∧ fld (t0 (after (.clRead 0 .issue) s)).faultInfo 0 8 = 3 := by
  decide +kernel
theorem test_st_clw : let w := ins 4 1 (47 <<< 32 + (2 ^ 48 - 1) <<< 49); let s := clState w 0 0
    s.dev.performs 0 .st 0 .clw (flown w []) = true ∧ s.dev.owner 0 = some (0, 1) ∧ s.dev.clDirect 0 0 1 0 = true ∧
      clwScope (flown w []).e.word = 0 ∧ clwClasp (flown w []).e.word = 47 ∧
      ((after (.stClw 0 (.perform 0)) s).dev.claspWord 0 47).toNat = 2 ^ 48 - 1 + own9 := by decide +kernel

/-! ### Watches (R176 to R181) -/

def nine (n : Nat) : Watch :=
  { value := 6, clasp := 47, cond := 0, nkind := 0, narg := 3, remote := false, wait := true, tile := 0, chip := Device.reset.chipId,
    ctx := 1, holder := .tile .st, inv := false, tag := n }

/-- CL.WATCH and CL.WAIT for 6 (unmet) and for 5 (met), notifying token counter 3. -/
def watchWord (op v : Nat) : Nat := clWord op (3 <<< 71 + v <<< 80)
theorem test_cl_watch_registers : let s := clState (watchWord 8 6) 0 0
    s.dev.clPerforms 0 0 .clWatch .st (flown (watchWord 8 6) []) 0 1 0 = true ∧ (t0 s).watches[(0 : Fin 32)] = none ∧
      let u := after (.clWatch 0 (.perform 0)) s
      (t0 u).watches[(0 : Fin 32)].map (fun w => (w.value, w.narg)) = some (6, 3) ∧ done u .st = true := by decide +kernel
theorem test_cl_watch_met_at_once : let s := clState (watchWord 8 5) 0 0
    s.dev.clPerforms 0 0 .clWatch .st (flown (watchWord 8 5) []) 0 1 0 = true ∧
      (t0 (after (.clWatch 0 (.perform 0)) s)).notes.map (fun n => (n.value, n.abandoned)) = [(5, false)] := by decide +kernel
theorem test_cl_wait_in_the_last_slot :
    let s := st ((clState (watchWord 9 6) 0 0).dev.modTile 0 (fun x => { x with watches := (Vector.replicate 32 (some (nine 0))).set 31 none }))
    s.dev.clPerforms 0 0 .clWait .st (flown (watchWord 9 6) []) 0 1 0 = true ∧ (t0 s).watches[(31 : Fin 32)] = none ∧
      let u := after (.clWait 0 (.perform 0)) s
      ((t0 u).watches[(31 : Fin 32)]).isSome = true ∧ ((t0 u).flight[Eng.st.idx]).map (·.awaits) = [1] := by decide +kernel
/-- One registration waits already: this one waits behind it, and its word comes back at +8. -/
theorem test_cl_watch_waits_behind : let w := clWord 8 (3 <<< 71 + vsrc64)
    let s := st ((clState w 6 0).dev.modTile 0 (fun x => { x with watchWait := [nine 0] }))
    s.dev.clPerforms 0 0 .clWatch .st (flown w []) 0 1 0 = true ∧ (t0 s).watchWait ≠ [] ∧
      let u := after (.clWatch 0 (.perform 0)) s
      (t0 u).watchWait.length = 2 ∧ (t0 u).pocket.word 72 8 = 5 + own9 ∧ ((t0 u).flight[Eng.st.idx]).map (·.awaits) = [1] := by
  decide +kernel
theorem test_cl_wait_met_at_once : let s := clState (watchWord 9 5) 0 0
    s.dev.clPerforms 0 0 .clWait .st (flown (watchWord 9 5) []) 0 1 0 = true ∧
      (t0 (after (.clWait 0 (.perform 0)) s)).notes.length = 1 := by decide +kernel
theorem test_watch_slot_accept :
    let s := st ((clState 0 0 0).dev.modTile 0 (fun x => { x with watchWait := [nine 0, nine 1] }))
    (nine 0).holds (s.dev.claspWord 0 47) = false ∧ clPoison (s.dev.claspWord 0 47) = false ∧
      let u := after (.watchSlotAccept 0) s
      (t0 u).watches[(0 : Fin 32)] = some (nine 0) ∧ (t0 u).watchWait = [nine 1] := by decide +kernel
/-- The registration of a CL.WATCH that waits: accepted, its instruction is done. -/
theorem test_watch_slot_accept_of_cl_watch :
    let w : Watch := { nine 0 with wait := false }
    let f : Flight := { flown (clWord 8 (3 <<< 71 + 6 <<< 80)) [] with performed := true, awaits := 1 }
    let s := st ((clState 0 0 0).dev.modTile 0 (fun x => { x with watchWait := [w], flight := x.flight.set Eng.st.idx [f] }))
    f.waitsAt 0 w = true ∧ (t0 s).ctx = some w.ctx ∧
      ((t0 (after (.watchSlotAccept 0) s)).flight[Eng.st.idx]).map (·.awaits) = [0] := by decide +kernel
def note9 : Note := { w := nine 0, abandoned := false, value := 6, fromChip := Device.reset.chipId, from_ := 0, by_ := none }
theorem test_notify_adds_a_token : let s := st (dev0.modTile 0 (fun x => { x with notes := [note9], tok := x.tok.set 3 254 }))
    s.dev.noteDue note9 = true ∧ (t0 (after (.notifyApply 0) s)).tok[(3 : Fin 8)] = 255 ∧
      (t0 (after (.notifyApply 0) s)).notes = [] := by decide +kernel
theorem test_notify_overflows : let s := st (dev0.modTile 0 (fun x => { x with notes := [note9], tok := x.tok.set 3 255 }))
    s.dev.noteDue note9 = true ∧ (t0 s).mode ≠ .faulted ∧ bitOf (t0 s).faultInfo 11 = false ∧
      fld (t0 (after (.notifyApply 0) s)).faultInfo 0 8 = 8 := by decide +kernel
theorem test_notify_of_a_gone_context : let s := st (dev0.modTile 0 (fun x => { x with notes := [note9], ctx := some 2 }))
    s.dev.noteDue note9 = true ∧ (t0 s).ctx ≠ some note9.w.ctx ∧ (t0 (after (.notifyApply 0) s)).notes = [] ∧
      (t0 (after (.notifyApply 0) s)).tok = (t0 s).tok := by decide +kernel

/-! ### Movers (Tables 8.1 to 8.8) -/

/-- Pattern record of one row of 64 bytes. -/
def row64 : W256 := BitVec.ofNat 256 (64 <<< 8 + 1 <<< 32 + 1 <<< 48 + 1 <<< 64)
def descOf (d : Nat) : Desc :=
  { d := BitVec.ofNat 512 d, srcRec := row64, dstRec := row64, origin := .tile 0 7, ctx := 1, part := 0, e := (flown (ins 5 0 (7 <<< 55)) []).e }
/-- Tile 0 with slot 7 of its mover edited. -/
def moving (f : Slot → Slot) : State := st (dev0.modSlot (.tile 0) 7 f)
def slot7 (s : State) : Slot := s.dev.slot (.tile 0) 7

theorem test_mover_slots : (t0 State.reset).mover.slots.length = 8 ∧ dev0.owner 0 = some (0, 1) := by decide +kernel
/-- Launched into slot 7: PACE 0, PACE 1, and as a proxy of bulk mover 0 (EXEC 1). -/
def launchRecs (d : Nat) : List W256 := [BitVec.ofNat 256 d, 0, row64, row64]
def launchWord : Nat := ins 5 0 (7 <<< 55)
def launchRun (d : Nat) : Bool × SlotSt × Nat :=
  let s := flying .ld launchWord (launchRecs d) id
  let u := after (.mvLaunch 0 (.perform 0)) s
  (s.dev.readyAny 0 0 .launch = some (.ld, flown launchWord (launchRecs d)) && (slot7 s).st = .free && done u .ld, (slot7 u).st,
    u.dev.forwards.length)
theorem test_mv_launch : launchRun 0 = (true, .ready, 0) ∧ launchRun (1 <<< 11) = (true, .waiting, 0) ∧ launchRun 1 = (true, .forwarded, 1) := by
  decide +kernel
/-- PACE 3 on a clasp of the own tile. -/
theorem test_mv_launch_paced : launchRun (3 <<< 11) = (true, .waiting, 0) ∧
    dev0.clDirect 0 0 1 (descOf (3 <<< 11)).paceTile = true := by decide +kernel
theorem test_mv_setprio : let w := ins 5 1 (7 <<< 55 + 5 <<< 58)
    let s := st ((flying .ld w [] id).dev.modSlot (.tile 0) 7 (fun z => { z with st := .waiting, desc := some (descOf 0) }))
    s.dev.readyAny 0 0 .setprio = some (.ld, flown w []) ∧ (slot7 (after (.mvSetprio 0 (.perform 0)) s)).prio = 5 := by decide +kernel
theorem test_mv_cancel_premises : let w := ins 5 2 (7 <<< 55)
    let s := st ((flying .ld w [] id).dev.modSlot (.tile 0) 7 (fun z => { z with st := .ready, desc := some (descOf 0) }))
    s.dev.readyAny 0 0 .cancel = some (.ld, flown w []) ∧ (slot7 s).st = .ready ∧ (slot7 s).desc = some (descOf 0) := by decide +kernel
theorem test_mv_cancel_of_a_running_channel : let w := ins 5 2 (7 <<< 55)
    let s := st ((flying .ld w [] id).dev.modSlot (.tile 0) 7 (fun z => { z with st := .running, desc := some (descOf 0) }))
    s.dev.readyAny 0 0 .cancel = some (.ld, flown w []) ∧ (slot7 (after (.mvCancel 0 (.perform 0)) s)).st = .stopping := by
  decide +kernel
def readyState : State := moving (fun z => { z with st := .ready, prio := 3, desc := some (descOf 0) })
theorem test_mover_select : (slot7 readyState).desc = some (descOf 0) ∧ (slot7 readyState).tag = none ∧ (slot7 readyState).burst = 0 ∧
    dPool (descOf 0).d = false ∧ ((readyState.dev.mover (.tile 0)).slots.map (·.st)) = List.replicate 7 .free ++ [.ready] ∧
    (slot7 (after (.moverSelect (.tile 0)) readyState)).st = .running := by decide +kernel
/-- PACE 1: T_START 1000, T_PERIOD 500, BURST 64 of 128 bytes. -/
def paced : Desc := { descOf (1 <<< 11 + 1000 <<< 384 + 500 <<< 448 + 64 <<< 480) with
  srcRec := BitVec.ofNat 256 (128 <<< 8 + 1 <<< 32 + 1 <<< 48 + 1 <<< 64) }
theorem test_pace_timer_start :
    let s := st ({ dev0 with devTime := 1000 }.modSlot (.tile 0) 7 (fun z => { z with st := .waiting, desc := some paced }))
    dPace paced.d = 1 ∧ (dTStart paced.d).toNat ≤ s.dev.devTime.toNat ∧ (slot7 (after (.paceTimerStart (.tile 0) 7) s)).st = .ready := by
  decide +kernel
theorem test_burst_start :
    let s := st ({ dev0 with devTime := 1500 }.modSlot (.tile 0) 7 (fun z => { z with st := .paused, burst := 1, pos := 64, target := 64, desc := some paced }))
    (slot7 s).nextBurst paced ≤ s.dev.devTime.toNat ∧ (slot7 (after (.burstStart (.tile 0)) s)).st = .running ∧
      (slot7 (after (.burstStart (.tile 0)) s)).target = 128 := by decide +kernel
theorem test_burst_done :
    let s := st ({ dev0 with devTime := 1499 }.modSlot (.tile 0) 7 (fun z => { z with st := .running, burst := 1, pos := 64, target := 64, desc := some paced }))
    dTPeriod paced.d = 500 ∧ (slot7 s).awaits = 0 ∧ mpBytes paced.srcRec = 128 ∧ s.dev.devTime.toNat < (slot7 s).nextBurst paced ∧
      (slot7 (after (.burstDone (.tile 0)) s)).st = .paused := by decide +kernel
/-- PACE 4: a unit of the ring at clasps 0 and 1 of tile 0 (HIGH 4, LOW 2, UNIT 64). -/
def ringed : Desc := descOf (4 <<< 11 + 1 <<< 390 + 4 <<< 405 + 2 <<< 429 + 64 <<< 453)
theorem test_fill_unit_premises : let s := moving (fun z => { z with st := .running, desc := some ringed })
    dPace ringed.d = 4 ∧ (slot7 s).unitOpen = false ∧ (slot7 s).pos < mpBytes ringed.srcRec ∧ (slot7 s).desc = some ringed := by
  decide +kernel
theorem test_descriptor_forward : let s := st { dev0 with forwards := [(.bulk 3, descOf (1 + 3 <<< 2))] }
    (s.dev.mover (.bulk 3)).arrivals = [] ∧
      (s.dev.moverAccepts (.bulk 3) (descOf (1 + 3 <<< 2)) = false ∧
        ((after (.descriptorForward (.bulk 3)) s).dev.mover (.bulk 3)).arrivals.length = 1) ∧
      (let u := st { s.dev with bulkBound := s.dev.bulkBound.set 3 (some (0, false)) }
       (u.dev.slot (.bulk 3) 0).st = .free ∧ u.dev.moverAccepts (.bulk 3) (descOf (1 + 3 <<< 2)) = true ∧
        ((after (.descriptorForward (.bulk 3)) u).dev.slot (.bulk 3) 0).desc.isSome = true) := by decide +kernel
theorem test_channel_end : let s := moving (fun z => { z with st := .running, desc := some { descOf 0 with e := (flown (ins 5 0 (7 <<< 55 + sig 2)) []).e }, pos := 64, target := 64 })
    (slot7 s).streamDone (descOf 0) = true ∧ dDoneOp (descOf 0).d = 0 ∧
      let u := after (.channelEnd (.tile 0) 7) s
      (slot7 u).st = .free ∧ (slot7 u).status = 0 ∧ (t0 u).tok[(2 : Fin 8)] = 1 := by decide +kernel
theorem test_channel_stopped : let s := moving (fun z => { z with st := .stopping, status := 1, desc := some (descOf 0) })
    (slot7 s).awaits = 0 ∧ (slot7 s).reads = [] ∧ (slot7 s).alloc = none ∧ wSen (descOf 0).e.word = false ∧
      let u := after (.channelStopped (.tile 0) 7) s
      (slot7 u).st = .free ∧ (slot7 u).status = 1 ∧ bitOf (t0 u).moverNote 7 = true := by decide +kernel
theorem test_channel_end_report :
    let s := st { (moving (fun z => { z with st := .forwarded, desc := some (descOf 1) })).dev with reports := [(0, 7, 0)] }
    (slot7 s).desc = some (descOf 1) ∧ (slot7 (after (.channelEndReport 0) s)).st = .free ∧
      (after (.channelEndReport 0) s).dev.reports = [] := by decide +kernel

end Sys2Proof.Tests
end

