-- ==== Sys2Proof/Tests/Commits.lean ====
section
/-! SUPPORT. Tests and witnesses of commits of dictionary records, by an OWNER session of PF0 on an operating device.
Where the kernel would take long over every tile or context, the witness of the premises alone stands. -/

namespace Sys2Proof.Tests

set_option Elab.async false

open Sys2Proof.Machine

/-- The device operates, and PF0's OWNER session has staged fields of one record. -/
def owned (d : Device) (index : Nat) (fs : List (Nat × Nat)) : State :=
  st { d with rst := { d.rst with state := 7 },
              sessions := [(.pf0, { Session.fresh true 0 with open_ := true, peerOk := true, staged := fs.map (fun q => ((index, q.1), q.2)) })] }

/-- A commit reaches its record: the hypothesis `commits` of the statements, for the fields as the session sees them. -/
def ready (s : State) (index : Nat) : Bool :=
  s.dev.agent .pf0 index 0xFF true && s.dev.stagedFresh .pf0 index && (objOf index 0xFF).isSome
def g (s : State) (index sub : Nat) : Nat :=
  match objOf index 0xFF with
  | some (o, item) => s.dev.field .pf0 index o.at_.1 item sub
  | none => 0

theorem ready_commits (s : State) (index : Nat) (h : ready s index = true) : ∃ item, s.dev.commits .pf0 index item (g s index) := by
  unfold ready at h
  simp only [Bool.and_eq_true] at h
  obtain ⟨⟨ha, hf⟩, ho⟩ := h
  obtain ⟨⟨o, item⟩, he⟩ := Option.isSome_iff_exists.mp ho
  exact ⟨item, ha, hf, o, he, fun sub => by unfold g; rw [he]⟩

def ok (c : Instr) (s : State) : Bool := (after c s).dev.answered .pf0 = 0
def p0 (s : State) : Partition := s.dev.parts[(0 : PartNo)]

/-! ### Windows, pools, rings -/

def winIdx : Nat := partIndex 0 0x7F
def winState : State := owned dev0 winIdx [(1, 0), (2, 4096), (3, 4096), (4, 5), (5, 2), (6, 3), (7, 3)]
theorem test_window_open : ready winState winIdx = true ∧ ((p0 winState).windows[(63 : WinNo)]).st = 0 ∧
    ((p0 winState).windows[(63 : WinNo)]).reserved = false ∧ winState.dev.owns 0 (g winState winIdx 1) = true ∧
    windowFieldsOk (g winState winIdx) = true ∧ ok (.windowOpen .pf0 0 63) winState = true ∧
    ((p0 (after (.windowOpen .pf0 0 63) winState)).windows[(63 : WinNo)]).chipHi = 3 := by decide +kernel

theorem test_window_close : let s := owned (dev0.modWindow 0 63 (fun w => { w with st := 1, size := 64 })) winIdx []
    ready s winIdx = true ∧ ((p0 s).windows[(63 : WinNo)]).st = 1 ∧ ok (.windowClose .pf0 0 63) s = true ∧
      ((p0 (after (.windowClose .pf0 0 63) s)).windows[(63 : WinNo)]).st = 2 := by decide +kernel

def poolIdx : Nat := partIndex 0 0x87
def poolState : State := owned dev0 poolIdx [(1, 0), (2, 47), (3, 8192), (4, 48)]
theorem test_pool_open : ready poolState poolIdx = true ∧ ((p0 poolState).pools[(7 : PoolNo)]).open_ = false ∧
    ((p0 poolState).pools[(7 : PoolNo)]).reserved = false ∧ poolState.dev.poolFieldsOk (g poolState poolIdx) 0 = true ∧
    poolState.dev.claspWord 0 47 = 0 ∧ bitOf (t0 poolState).claspLocks 47 = false ∧ (t0 poolState).pocketBad = [] ∧
    ok (.poolOpen .pf0 0 7) poolState = true ∧
    clValue ((after (.poolOpen .pf0 0 7) poolState).dev.claspWord 0 47) = 2 ^ 48 - 1 := by decide +kernel
theorem test_pool_close : let s := owned (after (.poolOpen .pf0 0 7) poolState).dev poolIdx []
    ready s poolIdx = true ∧ ((p0 s).pools[(7 : PoolNo)]).tile < 512 ∧ ((p0 s).pools[(7 : PoolNo)]).slots = 48 ∧
      ok (.poolClose .pf0 0 7) s = true ∧ clValue ((after (.poolClose .pf0 0 7) s).dev.claspWord 0 47) = 0 := by decide +kernel

def ringFields : List (Nat × Nat) := [(1, 0), (2, 4), (3, 0), (4, 1), (5, 2), (6, 1)]
def ringDev : Device := ({ dev0 with pages := [{ phys := 0, part := 0, pno := 0 }] } : Device).modGather 15 (fun q => { q with bound := some 0 })
def gatherIdx : Nat := partIndex 0 0xAF
theorem test_gather_ring_open : let s := owned ringDev gatherIdx ringFields
    ready s gatherIdx = true ∧ (s.dev.gather[(15 : GatherNo)]).bound = some 0 ∧ (s.dev.gather[(15 : GatherNo)]).ring.st = 0 ∧
      s.dev.ringOk 0 (g s gatherIdx) 128 = true ∧ ok (.gatherRingOpen .pf0 0 15) s = true ∧
      ((after (.gatherRingOpen .pf0 0 15) s).dev.gather[(15 : GatherNo)]).ring.st = 1 := by decide +kernel
theorem test_gather_ring_close :
    let s := owned (ringDev.modGather 15 (fun q => { q with ring := { q.ring with st := 1 } })) gatherIdx []
    ready s gatherIdx = true ∧ ok (.gatherRingClose .pf0 0 15) s = true ∧
      ((after (.gatherRingClose .pf0 0 15) s).dev.gather[(15 : GatherNo)]).ring.st = 0 := by decide +kernel
def collIdx : Nat := partIndex 0 0xE0
theorem test_coll_ring_open : let s := owned ringDev collIdx ringFields
    ready s collIdx = true ∧ (p0 s).collRing.st = 0 ∧ s.dev.ringOk 0 (g s collIdx) 64 = true ∧
      ok (.collRingOpen .pf0 0) s = true ∧ (p0 (after (.collRingOpen .pf0 0) s)).collRing.log2 = 4 := by decide +kernel
theorem test_coll_ring_close :
    let s := owned (ringDev.modPart 0 (fun q => { q with collRing := { q.collRing with st := 1 } })) collIdx []
    ready s collIdx = true ∧ (p0 s).collRing.st = 1 ∧ ok (.collRingClose .pf0 0) s = true ∧
      (p0 (after (.collRingClose .pf0 0) s)).collRing.st = 0 := by decide +kernel

/-! ### Ports, tables, layouts -/

/-- Lanes 0 and 1 belong to partition 0. -/
def laneDev : Device := (dev0.modLane 0 (fun x => { x with bound := some 0 })).modLane 1 (fun x => { x with bound := some 0 })
def portDev : Device :=
  (List.finRange 8).foldl (fun (d : Device) k => if k = 0 then d else { d with dict := alSet d.dict (0x3100, 1, k.val) 0 }) laneDev
theorem test_port_enable : let s := owned portDev 0x3100 [(1, 3), (2, 0), (3, 1), (4, 9), (5, 0), (6, 2)]
    ready s 0x3100 = true ∧ (s.dev.ports[(0 : PortNo)]).st = 0 ∧ s.dev.portFieldsOk (g s 0x3100) 0 = true ∧
      ok (.portEnable .pf0 0) s = true ∧ ((after (.portEnable .pf0 0) s).dev.ports[(0 : PortNo)]).st = 1 := by decide +kernel
theorem test_port_disable : let s := owned (portDev.modPort 0 (fun q => { q with enabled := true, st := 1 })) 0x3100 []
    ready s 0x3100 = true ∧ ok (.portDisable .pf0 0) s = true ∧
      ((after (.portDisable .pf0 0) s).dev.ports[(0 : PortNo)]).enabled = false := by decide +kernel
/-- The table's entries staged, none of them. -/
def tableState : State :=
  st ((owned laneDev 0x320F [(1, 4095), (2, 0)]).dev.modSession .pf0 (fun x => { x with stagedBlob := [((0x320F, 3), [])] }))
theorem test_slice_table_load : let s := tableState
    ready s 0x320F = true ∧ (alGet (s.dev.session .pf0).stagedBlob (0x320F, 3)) = some [] ∧
      (s.dev.applyTable (g s 0x320F) [] 15 1).1 = .ok ∧ ok (.sliceTableLoad .pf0 15) s = true ∧
      ((after (.sliceTableLoad .pf0 15) s).dev.tables[(15 : SliceTab)]).id = 4095 := by decide +kernel
theorem test_slice_table_remove : let s := owned (laneDev.modTable 15 (fun k => { k with active := true })) 0x320F []
    ready s 0x320F = true ∧ ok (.sliceTableRemove .pf0 15) s = true ∧
      ((after (.sliceTableRemove .pf0 15) s).dev.tables[(15 : SliceTab)]).active = false := by decide +kernel
theorem test_coll_layout_load : let s := owned dev0 0x3302 [(1, 1), (2, 1), (3, 1), (4, 2), (8, 500)]
    ready s 0x3302 = true ∧ s.dev.layoutOk 2 (g s 0x3302) = true ∧ (s.dev.tables[(2 : SliceTab)]).active = false ∧
      ok (.collLayoutLoad .pf0 2) s = true ∧ ((after (.collLayoutLoad .pf0 2) s).dev.layouts[(2 : SliceTab)]).stallUs = 500 := by
  decide +kernel

/-! ### Contexts, binding, admission -/

def ctxIdx : Nat := partIndex 0 0x10
def ctxState (f : Context → Context) (cmd : Nat) : State := owned (dev0.modCtx 1 f) ctxIdx [(1, 1), (2, 7), (3, 0), (4, cmd)]
theorem test_ctx_set_priority_premises : let s := ctxState id 0
    ready s ctxIdx = true ∧ g s ctxIdx 1 = 1 ∧ g s ctxIdx 3 = (s.dev.ctxs[(1 : CtxNo)]).saveBase ∧ g s ctxIdx 2 = 7 := by decide +kernel
theorem test_ctx_start_premises : let s := ctxState (fun x => { x with st := .admitted }) 1
    ready s ctxIdx = true ∧ g s ctxIdx 4 = 1 ∧ g s ctxIdx 3 = (s.dev.ctxs[(1 : CtxNo)]).saveBase := by decide +kernel
theorem test_ctx_tear_down_premises : let s := ctxState id 2
    ready s ctxIdx = true ∧ g s ctxIdx 4 = 2 ∧ (s.dev.ctxs[(1 : CtxNo)]).st = .running := by decide +kernel
theorem test_partition_reset_premises : let s := owned dev0 0 []
    s.dev.agent .pf0 (partIndex 0 0x21) 1 true = true ∧ (s.dev.ctxs[(1 : CtxNo)]).part = some 0 := by decide +kernel

def bindIdx : Nat := partIndex 0 0
def bindState (d : Device) (kind first action : Nat) : State :=
  owned d bindIdx [(1, kind), (2, first), (3, 1), (4, 0), (5, action), (6, 0), (7, 100)]
def bindOf (s : State) : BindReq :=
  { BindReq.reset with kind := g s bindIdx 1, first := g s bindIdx 2, count := g s bindIdx 3, addr := g s bindIdx 4, action := g s bindIdx 5,
                       flags := g s bindIdx 6, drainUs := g s bindIdx 7, st := 1, startedAt := s.dev.devTime }
def bindPremises (s : State) : Bool :=
  ready s bindIdx && (p0 s).bind.st ≠ 1 && (p0 s).bind.st ≠ 2 && s.dev.bindQueue.isEmpty && !s.dev.tableHeld 0 (bindOf s) &&
    bindFieldsOk (bindOf s) && (({ s.dev.modBind 0 (fun _ => bindOf s) with bindQueue := [0] } : Device).judgeBind 0 (bindOf s)).isNone
/-- Bulk mover 15, free, held by partition 0, held by partition 1. -/
def bulkAt (o : Option (PartNo × Bool)) : Device := { dev0 with bulkBound := dev0.bulkBound.set 15 o }
theorem test_bind_free_resources_premises : let s := bindState (bulkAt none) 5 15 1
    bindPremises s = true ∧ g s bindIdx 5 = 1 := by decide +kernel
/-- A free granule of table-memory port 3, for granule 9 of the partition; the release of its page 9. -/
theorem test_bind_granule_premises :
    let s := owned (dev0.modTmem 3 (fun k => { k with enabled := true, st := 2, gib := 2 })) bindIdx
      [(1, 3), (2, 3), (3, 1), (4, 9), (5, 1), (6, 0), (7, 100)]
    bindPremises s = true ∧ heldAt s.dev.granules 0 9 = false ∧ g s bindIdx 1 = 3 := by decide +kernel
theorem test_bind_page_release_premises :
    let s := owned ({ dev0 with pages := [{ phys := 4, part := 0, pno := 9 }] }) bindIdx
      [(1, 2), (2, 0), (3, 1), (4, 9), (5, 0), (6, 0), (7, 100)]
    bindPremises s = true ∧ heldAt s.dev.pages 0 9 = true ∧ g s bindIdx 5 = 0 := by decide +kernel
theorem test_bind_release_premises : let s := bindState (bulkAt (some (0, false))) 5 15 0
    bindPremises s = true ∧ g s bindIdx 5 = 0 := by decide +kernel
theorem test_bind_take_premises : let s := bindState (bulkAt (some (1, false))) 5 15 2
    bindPremises s = true ∧ g s bindIdx 5 = 2 := by decide +kernel
def binding (b : BindReq) (n : Nat) : State :=
  st { (bulkAt (some (0, false))).modBind 0 (fun _ => b) with bindQueue := [0], devTime := BitVec.ofNat 64 n }
def req : BindReq := { BindReq.reset with kind := 5, first := 15, count := 1, action := 0, drainUs := 100, st := 1, begun := true }
theorem test_rebind_drain_done : let s := binding req 0
    s.dev.up 3 = true ∧ s.dev.tableHeld 0 (p0 s).bind = false ∧ s.dev.drainUsers 0 = [] ∧ s.dev.laneCollective (p0 s).bind = false ∧
      (p0 (after (.rebindDrainDone 0) s)).bind.st = 2 ∧
      (after (.rebindDrainDone 0) s).dev.bulkBound[(15 : BulkNo)] = none := by decide +kernel
theorem test_drain_expired : let s := binding { req with users := [1] } 100000
    1000 * (p0 s).bind.drainUs ≤ s.dev.since (p0 s).bind.startedAt ∧ (s.dev.ctxs[(1 : CtxNo)]).st = .running ∧ (s.dev.ctxs[(1 : CtxNo)]).saving = false ∧
      ((after (.drainExpired 0) s).dev.ctxs[(1 : CtxNo)]).st = .tearing := by decide +kernel
theorem test_rebind_complete_premises : let s := binding { req with st := 2 } 0
    s.dev.itemQuiet 5 15 = true ∧ (p0 s).bind.items = [15] ∧ s.dev.bindQueue = [0] ∧
      s.dev.tableHeld 0 { (p0 s).bind with owners := [] } = false := by decide +kernel
/-- The release of tile 511, with no context that could start. -/
theorem test_rebind_complete_tile_premises :
    let s := st { (Device.reset.modTile 511 (fun x => { x with pocket := [(8, 1)] })).modBind 0 (fun _ => { req with kind := 1, first := 511, st := 2 })
      with bindQueue := [0] }
    s.dev.itemQuiet 1 511 = true ∧ (p0 s).bind.items = [511] ∧ (p0 s).bind.action = 0 ∧
      s.dev.ctxs.toList.all (fun c => c.st ≠ .ready && c.st ≠ .saved && c.st ≠ .suspended && c.st ≠ .running) = true := by decide +kernel

def admIdx : Nat := partIndex 0 0xD0
def admState (c : CtxSt) : State :=
  owned (dev0.modCtx 1 (fun x => { x with st := c, inStep := false })) admIdx [(1, 1), (2, 0), (3, 64)]
theorem test_admit_commit_premises : let s := admState .bound
    ready s admIdx = true ∧ g s admIdx 1 = 1 ∧ (p0 s).adm.st = 0 ∧ (s.dev.ctxs[(1 : CtxNo)]).image = none := by decide +kernel
/-- The image lies on page 0 of clean memory: every page and piece of it translates. -/
theorem test_admit_image_premises :
    let s := st { (admState .bound).dev with pages := [{ phys := 0, part := 0, pno := 0 }] }
    s.dev.hbmBad = [] ∧ (pageCuts 0 64 ++ s.dev.copyCuts 0 0 64).all (fun q => (s.dev.transHbm 0 q.1).isSome) = true := by decide +kernel
theorem test_admit_withdraw : let s := admState .admitted
    ready s admIdx = true ∧ ok (.admitWithdraw .pf0 0) s = true ∧ ((after (.admitWithdraw .pf0 0) s).dev.ctxs[(1 : CtxNo)]).st = .bound := by
  decide +kernel
def img0 : Image :=
  { tiles := [], wins := [], pools := [], guards := [], fsw := [], hist := [], mem := [], gatherMask := 0, bulkMask := 0, hl := [] }
theorem test_admit_load_done :
    let s := st ((dev0.modCtx 1 (fun x => { x with st := .bound, image := some img0 })).modPart 0 (fun q => { q with adm := { q.adm with st := 2, ctx := 1 } }))
    s.dev.up 3 = true ∧ s.dev.bindQueue = [] ∧ (p0 (after (.admitLoadDone 0) s)).adm.st = 3 ∧
      ((after (.admitLoadDone 0) s).dev.ctxs[(1 : CtxNo)]).st = .admitted := by decide +kernel

/-- One tile with its CODE at 16, and one whose clasp 3 cannot take its value. -/
def codeTile : ImgTile :=
  { tile := 0, entry := some 1, code := [(16, [7])], data := [], used := 0, shared := 0, values := [], watch := 0 }
theorem test_load_tile : let s := st (dev0.modTile 0 (fun x => { x with pocket := [(8, 1)] }))
    s.dev.heldByOther 1 0 = false ∧ codeTile.initValues = [] ∧ (s.dev.loadTile 1 0 codeTile).1 = true ∧
      ((s.dev.loadTile 1 0 codeTile).2.tiles[(0 : TileNo)]).pocket = [(16, 7)] := by decide +kernel
theorem test_load_fails : let s := st (dev0.modTile 0 (fun x => { x with pocketBad := [(claspOff 3 / 8, true)] }))
    let x := { codeTile with used := 8, values := [0, 0, 0, 5] }
    x.initValues = [(3, 5)] ∧ (s.dev.loadTile 1 0 x).1 = false := by decide +kernel

/-! ### Reliability records -/

def forceIdx : Nat := partIndex 0 0xC0
def entry1 : SEntry := { (default : SEntry) with part := 0, ctx := 1, tensor := 5, maxv := 3 }
theorem test_sentinel_force_commit :
    let s := owned { dev0 with sentinel := [entry1] } forceIdx [(1, 1), (2, 5), (3, 3), (4, 1)]
    ready s forceIdx = true ∧ g s forceIdx 3 = 3 ∧ ok (.sentinelForceCommit .pf0 0) s = true ∧
      (after (.sentinelForceCommit .pf0 0) s).dev.sentinel.map (·.forced) = [some (3, true)] := by decide +kernel
theorem test_sentinel_entries_write : let s := owned dev0 0 []
    s.dev.agent .pf0 forceIdx 5 true = true ∧ (s.dev.sentWrite 0 []).1 = .ok ∧ ok (.sentinelEntriesWrite .pf0 0 []) s = true := by
  decide +kernel
def repIdx : Nat := partIndex 0 0xF0
theorem test_repair_register :
    let s := owned ({ dev0 with pages := [{ phys := 0, part := 0, pno := 0 }] }) repIdx
      [(1, 15), (2, 0), (3, pageSize), (4, 9), (5, 0), (6, 6 * 512), (7, 2 ^ 18)]
    ready s repIdx = true ∧ ((p0 s).repairs[(15 : Fin 16)]).on = false ∧ s.dev.repairFieldsOk (g s repIdx) 0 = true ∧
      2 ≤ (s.dev.freeWindows 0).length ∧ ok (.repairRegister .pf0 0) s = true ∧
      ((p0 (after (.repairRegister .pf0 0) s)).repairs[(15 : Fin 16)]).windows = [0, 1] := by decide +kernel
theorem test_repair_remove : let s := owned dev0 repIdx [(1, 15)]
    ready s repIdx = true ∧ g s repIdx 1 = 15 ∧ ok (.repairRemove .pf0 0) s = true := by decide +kernel
def ckIdx : Nat := partIndex 0 0xB0
theorem test_ckpt_arm : let s := owned dev0 ckIdx [(1, 1), (2, 1), (3, 3600000), (4, 0)]
    ready s ckIdx = true ∧ (s.dev.ctxs[(1 : CtxNo)]).nextStep ≤ g s ckIdx 2 ∧ (s.dev.ctxs[(1 : CtxNo)]).resumeStep.toNat = g s ckIdx 4 ∧
      ok (.ckptArm .pf0 0) s = true ∧ (p0 (after (.ckptArm .pf0 0) s)).ckpt.st = 1 := by decide +kernel
theorem test_ckpt_release_premises : let s := owned (dev0.modPart 0 (fun q => { q with ckpt := { q.ckpt with st := 1 } })) ckIdx []
    ready s ckIdx = true ∧ (p0 s).ckpt.st = 1 := by decide +kernel
def ckDev (n : Fin 3) : State :=
  st { (dev0.modCtx 1 (fun x => { x with inStep := false, stepNo := 8 })).modPart 0 (fun q => { q with ckpt := { q.ckpt with st := n, ctx := 1, step := 7 } })
    with devTime := 3600000000000 }
theorem test_ckpt_hold : let s := ckDev 1
    s.dev.enginesQuiet 1 = true ∧ (p0 (after (.ckptHold 0) s)).ckpt.st = 2 ∧
      ((after (.ckptHold 0) s).dev.ctxs[(1 : CtxNo)]).heldAt = true := by decide +kernel
theorem test_ckpt_expired_premises : let s := ckDev 2
    s.dev.cfg 0x60B0 3 0 * 1000000 ≤ s.dev.since (p0 s).ckpt.since ∧ (p0 s).ckpt.st = 2 := by decide +kernel

/-! ### Fittings and the owner's writes -/

def h0 (s : State) (x : PhysNo) : Health := s.dev.health[x]
def hours (d : Device) (n : Nat) : Device := { d with devTime := BitVec.ofNat 64 (n * hourNs) }
/-- A stop that is a tile. -/
def stop1 : PhysNo := tileStops.headD 0
theorem test_suspicion_decay : let s := st (hours (dev0.modHealth stop1 (fun h => { h with suspect := 3 })) 100000)
    s.dev.cfg 0x5400 9 0 * hourNs ≤ s.dev.since (h0 s stop1).lastSuspicion ∧ (h0 (after (.suspicionDecay stop1) s) stop1).suspect = 2 := by
  decide +kernel
theorem test_fit_due : let s := st (hours dev0 100000)
    (h0 s stop1).role.val < 2 ∧ isMemStop stop1 = false ∧ s.dev.cfg 0x5400 1 0 * hourNs ≤ s.dev.since (h0 s stop1).lastFit ∧
      (h0 (after (.fitDue stop1) s) stop1).due = true := by decide +kernel
theorem test_tile_fitting_premises : let s := st (dev0.modHealth stop1 (fun h => { h with role := 1, due := true }))
    s.dev.up 6 = true ∧ isMemStop stop1 = false ∧ (panelStops (gridPanel stop1)).all (fun y => (h0 s y).role ≠ 3) = true ∧
      s.dev.ctxs.toList.all (fun c => c.shadow.isNone) = true := by decide +kernel
set_option maxRecDepth 20000 in
theorem test_tile_fitting_suspect_premises :
    let s := st (dev0.modHealth stop1 (fun h => { h with role := 0, suspect := 3, ltile := 5 }))
    let h := s.dev.health[stop1]
    s.dev.up 6 = true ∧ isMemStop stop1 = false ∧ (panelStops (gridPanel stop1)).all (fun y => (h0 s y).role ≠ 3) = true ∧ h.role = 0 ∧
      h.suspect = 3 ∧ (s.dev.tiles[h.ltile]).bound = none ∧ s.dev.fitBarred h.ltile = false ∧ s.dev.occupied h.ltile = false := by
  decide +kernel
theorem test_fitting_done_premises :
    let s := st { (dev0.modHealth stop1 (fun h => { h with role := 3, ltile := 7 })) with patchMap := dev0.patchMap.set 7 5 }
    (h0 s stop1).role = 3 ∧ ((h0 s stop1).ltile = 7) ∧ stop1 ≠ 5 ∧ (s.dev.patchMap[(7 : TileNo)]) = 5 := by decide +kernel
theorem test_fit_grace_expiry_premises : let s := st (hours (dev0.modHealth stop1 (fun h => { h with role := 0, due := true, ltile := 0 })) 1000000)
    s.dev.occupied (h0 s stop1).ltile = true ∧
      (s.dev.cfg 0x5400 1 0 + s.dev.cfg 0x5400 2 0) * hourNs ≤ s.dev.since (h0 s stop1).lastFit := by decide +kernel
def owner0 (d : Device) : State := owned d 0 []
theorem test_fit_request_tile : let s := owner0 (dev0.modTile 0 (fun x => { x with bound := none, ctx := none, mode := .idle }))
    let y : PhysNo := fin (tileStops.getLastD 0)
    s.dev.agent .pf0 0x5400 5 true = true ∧ s.dev.tileFree y = true ∧ ok (.fitRequestTile .pf0 y) s = true ∧
      (h0 (after (.fitRequestTile .pf0 y) s) y).due = true := by decide +kernel
theorem test_fit_request_device_premises : let s := owner0 Device.reset
    s.dev.agent .pf0 0x5400 5 true = true ∧ s.dev.noContexts = true := by decide +kernel
theorem test_patch_retired_write_premises : let s := owner0 Device.reset
    s.dev.agent .pf0 0x5400 0x0A true = true ∧ listEntries 2 (leBytes 2 stop1.val) = [stop1.val] ∧
      s.dev.tiles.toList.all (fun x => x.bound.isNone) = true := by decide +kernel
theorem test_hbm_retired_pages_write : let s := owner0 Device.reset
    s.dev.agent .pf0 0x4000 6 true = true ∧ s.dev.pages = [] ∧ ok (.hbmRetiredPagesWrite .pf0 (leBytes 4 (2 ^ 28 + 5))) s = true ∧
      (after (.hbmRetiredPagesWrite .pf0 (leBytes 4 (2 ^ 28 + 5))) s).dev.retiredPages = [pageEntry (2 ^ 28 + 5)] := by decide +kernel
theorem test_rst_command_premises : let s := owner0 dev0
    s.dev.agent .pf0 0x1010 5 true = true ∧ s.dev.rst.held = false := by decide +kernel

/-! ### Queues, counter sets, alarms, trace -/

def qIdx : Nat := partIndex 0 0x24
theorem test_queue_create : let s := owned dev0 qIdx [(1, 63), (2, 4096), (3, 8192), (4, 12), (5, 123)]
    ready s qIdx = true ∧ ((p0 s).queues[(63 : QueueNo)]).st = 0 ∧ ok (.queueCreate .pf0 0) s = true ∧
      ((p0 (after (.queueCreate .pf0 0) s)).queues[(63 : QueueNo)]).log2 = 12 := by decide +kernel
theorem test_queue_delete_busy : let s := owned (dev0.modQueue 0 63 (fun q => { q with st := 1, tail := 1 })) qIdx [(1, 63)]
    ready s qIdx = true ∧ g s qIdx 1 = 63 ∧ ((p0 s).queues[(63 : QueueNo)]).head ≠ ((p0 s).queues[(63 : QueueNo)]).tail ∧
      (after (.queueDelete .pf0 0) s).dev.answered .pf0 = 0x0102 := by decide +kernel
theorem test_queue_delete : let s := owned (dev0.modQueue 0 63 (fun q => { q with st := 2 })) qIdx [(1, 63)]
    ready s qIdx = true ∧ g s qIdx 1 = 63 ∧ ok (.queueDelete .pf0 0) s = true ∧
      ((p0 (after (.queueDelete .pf0 0) s)).queues[(63 : QueueNo)]).st = 0 := by decide +kernel
def evIdx : Nat := partIndex 0 0x25
theorem test_evq_on : let s := owned dev0 evIdx [(1, 4096), (2, 14), (3, 123)]
    ready s evIdx = true ∧ ok (.evqOn .pf0 0) s = true ∧ (p0 (after (.evqOn .pf0 0) s)).evq.log2 = 14 := by decide +kernel
theorem test_evq_off : let s := owned (dev0.modPart 0 (fun q => { q with evq := { q.evq with on := true } })) evIdx []
    ready s evIdx = true ∧ ok (.evqOff .pf0 0) s = true ∧ (p0 (after (.evqOff .pf0 0) s)).evq.on = false := by decide +kernel
theorem test_dev_evq_on : let s := owned dev0 0x1100 [(1, 4096), (2, 6), (3, 63)]
    ready s 0x1100 = true ∧ ok (.devEvqOn .pf0) s = true ∧ (after (.devEvqOn .pf0) s).dev.devEvq.vector = 63 := by decide +kernel
theorem test_dev_evq_off : let s := owned { dev0 with devEvq := { dev0.devEvq with on := true } } 0x1100 []
    ready s 0x1100 = true ∧ ok (.devEvqOff .pf0) s = true ∧ (after (.devEvqOff .pf0) s).dev.devEvq.on = false := by decide +kernel
theorem test_counter_set_control_write : let s := owner0 dev0
    s.dev.agent .pf0 0x881F 8 true = true ∧ csetCtlOk 1 = true ∧ ok (.counterSetControlWrite .pf0 31 7 1) s = true ∧
      ((after (.counterSetControlWrite .pf0 31 7 1) s).dev.csets[(31 : Fin 32)])[(7 : Fin 8)] = { ctl := 1, cnt := 0 } := by decide +kernel
def alarm5 : Alarm := { (default : Alarm) with code := 5, source := 6, active := true }
theorem test_alarm_ack : let s := owner0 { dev0 with alarms := [alarm5] }
    s.dev.agent .pf0 0xA000 3 true = true ∧ ok (.alarmAck .pf0 5 6) s = true ∧
      (after (.alarmAck .pf0 5 6) s).dev.alarms.map (·.active) = [false] := by decide +kernel
theorem test_trace_trigger : let s := owner0 dev0
    s.dev.agent .pf0 0xA200 7 true = true ∧ ok (.traceTrigger .pf0 1) s = true := by decide +kernel
theorem test_trace_arm : let s := owner0 dev0
    s.dev.agent .pf0 0xA200 8 true = true ∧ ok (.traceArm .pf0 1) s = true ∧ (after (.traceArm .pf0 1) s).dev.trace.buf = [] := by
  decide +kernel
theorem test_dbg_freeze : let s := owner0 dev0
    s.dev.agent .pf0 0xA300 1 true = true ∧ (after (.dbgFreeze .pf0 1) s).dev.rst.frozen = true := by decide +kernel
theorem test_freeze_n_assert : (after .freezeNAssert (st dev0)).dev.rst.frozen = true ∧ dev0.live = true := by decide +kernel
theorem test_jtag_scan : (after (.jtagScan true) (st dev0)).dev.scan.frozen = false ∧ (after (.jtagScan true) (st dev0)).dev.scan.tiles = [] := by
  decide +kernel
theorem test_trace_freeze : let s := st { dev0 with trace := { dev0.trace with st := 1, post := dev0.trace.after } }
    s.dev.trace.after ≤ s.dev.trace.post ∧ (after .traceFreeze s).dev.trace.st ∈ [2, 4] := by decide +kernel

end Sys2Proof.Tests
end

