-- ==== Sys2Proof/Tests/Contexts.lean ====
section
/-! SUPPORT. Tests and witnesses of contexts, commits, the sentinel, memories and peer repair. Where the kernel would take long over
every tile or context, the witness alone stands. -/

namespace Sys2Proof.Tests

set_option Elab.async false

open Sys2Proof.Machine

/-! ### Kernels and time limits -/

/-- An image of tile 0, entry at word 4. -/
def img1 : Image :=
  { tiles := [{ tile := 0, entry := some 4, code := [], data := [], used := 0, shared := 0, values := [], watch := 0 }], wins := [],
    pools := [], guards := [], fsw := [], hist := [], mem := [], gatherMask := 0, bulkMask := 0, hl := [] }
/-- Context 1 with that image, edited, and tile 0, edited. -/
def ctxDev (f : Context → Context) (g : Tile → Tile) : State :=
  st ((dev0.modCtx 1 (fun x => f { x with image := some img1 })).modTile 0 g)
def c1 (s : State) : Context := s.dev.ctxs[(1 : CtxNo)]
def at_ (s : State) (n : Nat) : State := { s with dev := { s.dev with devTime := BitVec.ofNat 64 n } }
def logged (s : State) : List W16 := s.dev.errLog.map (·.code)

theorem test_kernel_start : let s := ctxDev id (fun x => { x with mode := .idle, tok := x.tok.set 2 9 })
    s.dev.entryOf 1 0 = some 64 ∧ (c1 s).restoring = false ∧ (t0 (after (.kernelStart 0) s)).pc = 64 ∧
      (t0 (after (.kernelStart 0) s)).mode = .running ∧ (t0 (after (.kernelStart 0) s)).tok[(2 : Fin 8)] = 0 := by decide +kernel
theorem test_step_watchdog : let s := at_ (ctxDev (fun x => { x with dogLimit := 1000 }) id) 1000
    (c1 s).inStep = true ∧ (c1 s).dogLimit.toNat ≤ s.dev.since (c1 s).dogAt ∧ bitOf (t0 s).faultInfo 11 = false := by decide +kernel
/-- An LD.FILL that awaits a reply for 2 ms. -/
def lateFill : Flight :=
  { e := { word := 1#128, recs := [], bnd := Vector.replicate 16 0, pcq := 0 }, performed := false, signalled := false, awaits := 1,
    sentAt := 0, tag := none, buf := none }
theorem test_req_timeout : let s := at_ (ctxDev id (fun x => { x with flight := x.flight.set 0 [lateFill] })) 2000000
    s.dev.lateFlight 0 .ld lateFill false = true ∧ s.dev.repairing (.tile 0 .ld) = false ∧
      fld (t0 (after (.reqTimeout (.tile 0 .ld)) s)).faultInfo 0 8 = 0x0D := by decide +kernel

/-! ### Saves, restores, ends -/

theorem test_context_save_done : let s := ctxDev (fun x => { x with saving := true }) id
    s.dev.enginesQuiet 1 = true ∧ s.dev.ctxNames 1 = [0] := by decide +kernel
theorem test_context_restore_done : let s := ctxDev (fun x => { x with st := .saved, restoring := true }) (fun x => { x with ctx := none })
    (c1 s).image.isSome = true ∧ (c1 (after (.contextRestoreDone 1) s)).restoring = false := by decide +kernel
theorem test_context_exit : let s := ctxDev (fun x => { x with inStep := false }) id
    s.dev.enginesQuiet 1 = true ∧ (c1 s).releases = [] := by decide +kernel

/-- The only kernel of a step yields: its save begins. -/
theorem test_sy_yield_saves :
    let s := ctxDev id (fun x => { x with pocket := Memory.write [] 0 (leBytes 16 (ins 7 3 0)) })
    s.dev.syReady 0 .yield = true ∧ s.dev.kernelTiles 1 = [0] ∧ (c1 s).inStep = true ∧ (c1 s).part.isSome = true ∧
      (c1 (after (.syYield 0) s)).saving = true := by decide +kernel

/-! ### Residue, commits, replay, audit -/

theorem test_residue_report : let s := ctxDev id id
    (c1 s).suspectUnit = none ∧ (c1 (after (.residueReport (.tensor 0)) s)).fenced = true ∧
      logged (after (.residueReport (.tensor 0)) s) = [0x0203#16] := by decide +kernel
/-- At a commit, without audits (rel.audit.n 0). -/
def committing (f : Context → Context) : State :=
  let s := ctxDev f (fun x => { x with mode := .atCommit, pc := 48 })
  { s with dev := { s.dev with dict := alSet s.dev.dict (0x5300, 1, 0) 0 } }
theorem test_commit_succeeds : let s := committing id
    s.dev.commitDue 1 = true ∧ (c1 s).suspectUnit = none ∧ (c1 s).auditMiss = false ∧
      (c1 (after (.commitDecision 1) s)).commits = 1 ∧ (t0 (after (.commitDecision 1) s)).mode = .running ∧
      ((t0 (after (.commitDecision 1) s)).record).map (·.pc) = some 48 := by decide +kernel
theorem test_commit_fails : let s := committing (fun x => { x with suspectUnit := some (.tensor 0), attempts := 1 })
    s.dev.commitDue 1 = true ∧ (c1 s).jfull = false ∧ (c1 (after (.commitDecision 1) s)).replayDue = true ∧
      (c1 (after (.commitDecision 1) s)).attempts = 2 := by decide +kernel
theorem test_replay_restart :
    let s := ctxDev (fun x => { x with replayDue := true }) (fun x => { x with record := some { x.record_ with pc := 16 }, pc := 480 })
    s.dev.up 6 = true ∧ s.dev.kernelTiles 1 = [0] ∧ ((t0 s).record).map (·.pc) = some 16 ∧ (∀ t : TileNo, (s.dev.tiles[t]).pocketBad = []) := by decide +kernel
theorem test_audit_rendezvous : let s := ctxDev (fun x => { x with auditTile := some 0 }) (fun x => { x with mode := .atCommit })
    (t0 s).atMeeting = true ∧ (c1 s).met = false ∧ (c1 (after (.auditRendezvous 1 true) s)).met = true ∧
      (c1 (after (.auditRendezvous 1 false) s)).auditMiss = true := by decide +kernel

/-! ### The sentinel and boundaries -/

def sent (v m : BitVec 4) (pin : Bool) : SEntry := { (default : SEntry) with variant := v, maxv := m, pinned := pin, consec := 3 }
theorem test_promotion : (((sent 2 3 false).decide_ true true 9).1.variant = 3) ∧ (((sent 3 3 false).decide_ true false 9).1.variant = 3) ∧
    ((sent 3 3 false).decide_ true false 9).2.map (·.1) = some 0x0100#16 ∧
    ((sent 2 3 true).decide_ true false 9).2.map (·.1) = some 0x0208#16 := by decide +kernel
theorem test_demotion : (((sent 1 3 false).decide_ false true 9).1.variant = 0) ∧
    ((sent 0 3 false).decide_ false true 9) = (sent 0 3 false, none) := by decide +kernel
theorem test_sentinel_report : let s := st { dev0 with sentReports := [.acc 1 0 5 7, .stat 1 0 5 0 32] }
    (c1 (after .sentinelReport s)).reports = [.acc 1 0 5 7] ∧ (after .sentinelReport s).dev.sentReports = [.stat 1 0 5 0 32] := by
  decide +kernel
def ending (f : Device → Device) : State :=
  let s := ctxDev (fun x => { x with prioSet := 5 }) (fun x => { x with mode := .ending })
  { s with dev := f s.dev }
theorem test_step_boundary : let s := ending id
    s.dev.up 1 = true ∧ s.dev.up 6 = true ∧ (c1 s).atBoundary = false ∧ s.dev.kernelTiles 1 = [0] ∧ s.dev.sliceOf 0 = none := by decide +kernel
/-- With the scope of decisions 1 and a slice table of partition 0. -/
theorem test_slice_boundary :
    let s := ending (fun d => ({ d with dict := alSet d.dict (0x5210, 8, 0) 1 } : Device).modTable 2 (fun k => { k with active := true, part := 0 }))
    s.dev.cfg 0x5210 8 0 = 1 ∧ s.dev.sliceOf 0 = some 2 ∧ (c1 (after (.stepBoundary 1) s)).atBoundary = true ∧
      (c1 (after (.stepBoundary 1) s)).stepNo = 0 := by decide +kernel
theorem test_slice_decision_exchange :
    let s := st ((ending id).dev.modCtx 1 (fun x => { x with atBoundary := true, decided := some ([], []) }))
    (c1 s).decided = some ([], []) := by decide +kernel

/-! ### Teardown and function resets -/

theorem test_context_teardown : let s := at_ (ctxDev (fun x => { x with st := .tearing, teardownCause := some .command }) id) 2000000
    2000000 ≤ s.dev.since (c1 s).waitSince := by decide +kernel
theorem test_context_teardown_closes_the_windows :
    let s := ctxDev (fun x => { x with st := .tearing, teardownCause := some .command }) id
    let s := st (s.dev.modWindow 0 9 (fun x => { x with st := 1, tile := 0 }))
    (0 : TileNo) ∈ s.dev.lastUsed 0 1 ∧ ((s.dev.parts[(0 : PartNo)]).windows[(9 : WinNo)]).st = 1 ∧ (c1 s).st = .tearing := by
  decide +kernel
theorem test_vf_flr : let s := st (dev0.modPart 3 (fun q => { q with busMaster := true }))
    s.dev.rst.held = false := by decide +kernel
theorem test_pf0_flr : let s := st { dev0 with devEvq := { dev0.devEvq with on := true } }
    s.dev.rst.held = false ∧ (after .pf0Flr s).dev.devEvq.on = false := by decide +kernel
theorem test_window_closed : let s := st (dev0.modWindow 0 63 (fun x => { x with st := 2 }))
    ((s.dev.parts[(0 : PartNo)]).windows[(63 : WinNo)]).admitted = 0 ∧
      (((after (.windowClosed 0 63) s).dev.parts[(0 : PartNo)]).windows[(63 : WinNo)]).st = 0 := by decide +kernel

/-! ### Memories -/

theorem test_hbm_ce_writeback : let s := st { dev0 with hbmBad := [(32768 + 5, .correctable true), (7, .poison)] }
    (after (.hbmCeWriteback 1 5) s).dev.hbmBad = [(7, .poison)] := by decide +kernel
theorem test_scrub_read_at_the_last_line :
    let s := st (dev0.modStack 3 (fun q => { q with st := 1, scrubLine := pagesPerStack * 32768 - 1 }))
    s.dev.up 5 = true ∧ ((after (.scrubRead 3) s).dev.hbmStacks[(3 : StackNo)]).scrubLine = 0 ∧
      ((after (.scrubRead 3) s).dev.hbmStacks[(3 : StackNo)]).passes = 1 := by decide +kernel
theorem test_scrub_read_starts_a_pass :
    let n := 3 * pagesPerStack * 32768
    let s := st ({ dev0 with hbmBad := [(n, .correctable false)] }.modStack 3 (fun q => { q with st := 1, interval := 7 }))
    s.dev.up 5 = true ∧ ((after (.scrubRead 3) s).dev.hbmStacks[(3 : StackNo)]).interval = 24 ∧
      (after (.scrubRead 3) s).dev.hbmBad = [] := by decide +kernel
theorem test_page_remap_done : let s (again : Bool) := st { dev0 with remaps := [{ old := 4, new := 9, again, ptr := 32768 }] }
    (s true).dev.up 5 = true ∧ (after (.pageRemapDone 4) (s false)).dev.remaps = [] ∧
      4 ∈ (after (.pageRemapDone 4) (s false)).dev.retiredPages ∧ (after (.pageRemapDone 4) (s true)).dev.remaps.map (·.old) = [9] := by
  decide +kernel
theorem test_tmem_port_trained : let s := st (dev0.modTmem 3 (fun k => { k with enabled := true, st := 1 }))
    ((after (.tmemPortTrained 3 1024 true false) s).dev.tmem[(3 : TmemNo)]).gib = 1024 ∧
      ((after (.tmemPortTrained 3 1024 true false) s).dev.tmem[(3 : TmemNo)]).link = 0x58 := by decide +kernel
theorem test_tmem_fail : let s := st (({ dev0 with granules := [{ phys := 0, part := 0, pno := 0 }] } : Device).modTmem 0 (fun k => { k with st := 2 }))
    s.dev.tmemHolders 0 = [0] ∧ ((after (.tmemFail 0) s).dev.tmem[(0 : TmemNo)]).st = 3 ∧ (c1 (after (.tmemFail 0) s)).st = .tearing := by
  decide +kernel

/-! ### Peer repair: record 1 of partition 0, mailbox in tile 2 at page 3, version in clasp 6 of tile 2 -/

def repairRec (q : Repair) : Repair :=
  { q with on := true, base := 0, length := 4096, version := 2 + 6 * 512, mailbox := 2 + 3 * 512, windows := [0, 1] }
/-- A request in slot 4 for version `v`. -/
def asked (v : Nat) : State :=
  st ((({ dev0 with pages := [{ phys := 4, part := 0, pno := 0 }] } : Device).modPart 0 (fun q => { q with repairs := q.repairs.set 1 (repairRec q.repairs[1]) })).modTile 2 (fun x =>
    { x with bound := some 0, pocket := ((x.pocket.putWord (12288 + 1024 + 8) 8 v).putWord (12288 + 1024 + 16) 8 77).putWord (claspOff 6) 8 5 }))
theorem test_peer_repair_serve :
    (let r := (asked 5).dev.parts[(0 : PartNo)].repairs[(1 : Fin 16)]
     r.on = true ∧ r.mailTile = 2 ∧ r.slotOff 4 = 12288 + 1024 ∧ (asked 5).dev.repairVersion r = 5) ∧
    ((asked 5).dev.hbmRead 0 0 64 false).1.st = .ok ∧ ((asked 5).dev.tiles[(2 : TileNo)]).pocketBad = [] ∧
    alGet ((after (.peerRepairServe 0 1 4) (asked 5)).dev.parts[(0 : PartNo)]).served ((1 : Fin 16), (4 : Fin 16)) = some 77 := by
  decide +kernel
theorem test_peer_repair_stale_and_waiting :
    alGet ((after (.peerRepairServe 0 1 4) (asked 4)).dev.parts[(0 : PartNo)]).served ((1 : Fin 16), (4 : Fin 16)) = some 77 ∧
    ((after (.peerRepairServe 0 1 4) (asked 6)).dev.parts[(0 : PartNo)]).peerWaits.map (fun w => (w.version, w.tag)) = [(6, 77)] := by
  decide +kernel
theorem test_peer_version_wait_expiry :
    let s := at_ (st ((asked 6).dev.modPart 0 (fun q => { q with peerWaits := [{ range := 1, slot := 4, addr := 0, version := 6, tag := 77, since := 0 }] }))) 1000000
    s.dev.since 0 = 1000000 ∧ ((after (.peerVersionWaitExpiry 0) s).dev.parts[(0 : PartNo)]).peerWaits = [] := by decide +kernel
def waiting1 : RepairReq := { range := 1, slot := 4, part := 0, lineAddr := 0, sentAt := 0, who := .tile 0 .ld }
def waitState (n : Nat) : State :=
  at_ (st (((asked 5).dev.modPart 0 (fun q => { q with repairReqs := [waiting1] })).modTile 0 (fun x => { x with flight := x.flight.set 0 [lateFill] }))) n
theorem test_peer_repair_reply :
    let s := st ((waitState 0).dev.modTile 2 (fun x => { x with pocket := x.pocket.putWord (12288 + 1024 + 128) 8 1 }))
    (s.dev.tiles[(2 : TileNo)]).pocket.word (12288 + 1024 + 128) 8 = 1 ∧
      ((after (.peerRepairReply 0) s).dev.parts[(0 : PartNo)]).repairReqs = [] ∧
      ((after (.peerRepairReply 0) s).dev.parts[(0 : PartNo)]).repairCount = 1 := by decide +kernel
theorem test_peer_repair_reply_stale :
    let s := st ((waitState 0).dev.modTile 2 (fun x => { x with pocket := x.pocket.putWord (12288 + 1024 + 128) 8 prStale }))
    (((s.dev.tiles[(0 : TileNo)]).flight[Eng.ld.idx]).find? (fun f => !f.performed && f.awaits != 0)).isSome = true ∧
      fld (t0 (after (.peerRepairReply 0) s)).faultInfo 0 8 = 0x0B ∧
      ((after (.peerRepairReply 0) s).dev.parts[(0 : PartNo)]).repairReqs = [] := by decide +kernel
theorem test_peer_repair_timeout : let s := waitState 2000000
    reqLimit ≤ s.dev.since waiting1.sentAt ∧ bitOf (t0 s).faultInfo 11 = false ∧
      fld (t0 (after (.peerRepairTimeout 0) s)).faultInfo 0 8 = 0x0B := by decide +kernel

end Sys2Proof.Tests
end

