-- ==== Sys2Proof/Tests/Fabric.lean ====
section
/-! SUPPORT. Tests and witnesses of gather engines, links, packets and collectives. Where the kernel would take long over every tile
or context, the witness of the premises alone stands. -/

namespace Sys2Proof.Tests

set_option Elab.async false

open Sys2Proof.Machine

/-! ### Gather engines: engine 15 of partition 0, its ring of context 1 on tile 0 (head clasp 1, tail clasp 2) -/

def page0 : Device := { dev0 with pages := [{ phys := 0, part := 0, pno := 0 }] }
def gatherAt (st : Fin 3) (j : Job) : Device :=
  page0.modGather 15 (fun q => { q with bound := some 0, job := some j, ring := { q.ring with st := st, part := 0, base := 0, log2 := 4, tile := 0, head := 1, tail := 2, ctx := 1 } })
def job (d : Nat) : Job := { (default : Job) with d := BitVec.ofNat 1024 d }
def job15 (s : State) : Job := ((s.dev.gather[(15 : GatherNo)]).job).getD default
/-- A forward job of one bag, indices and rows in the pocket of tile 0 (OFF 64, DOFF 4096), rows of 4 FP32 elements; the bag is empty. -/
def fwdJob : Job := { job (1 <<< 19 + 64 <<< 192 + 4096 <<< 320) with table := 4 }
theorem test_gather_fwd : let s := st (gatherAt 1 fwdJob)
    s.dev.atWork 15 fwdJob 0 = true ∧ gIspc fwdJob.d = false ∧ fwdJob.bags + 1 = gNbags fwdJob.d ∧ tD fwdJob.table = 4 ∧
      (t0 s).pocket.word 64 8 = 0 ∧ (job15 (after (.gatherFwd 15) s)).done = true ∧ (t0 (after (.gatherFwd 15) s)).pocket = [] := by
  decide +kernel
def isWord : ClRes → Bool
  | .word _ => true
  | _ => false
/-- A progress group of one bag is due (PBAGS 1, PCLASP 3). -/
def progJob : Job := { job (1 <<< 19 + 3 <<< 384 + 1 <<< 399) with bags := 1 }
theorem test_gather_progress_premises : let s := st (gatherAt 1 progJob)
    gOp progJob.d = 0 ∧ progJob.released < progJob.groupsDue ∧ isWord (s.dev.gatherOp 15 0 3 1).1 = true := by decide +kernel
def invJob : Job := job 2
theorem test_gather_rc_inv : let s := st (gatherAt 1 invJob)
    s.dev.atWork 15 invJob 2 = true ∧ (job15 (after (.gatherRcInv 15) s)).done = true := by decide +kernel
/-- A backward job without entries. -/
def bwdJob : Job := { job 1 with table := 4 }
theorem test_gather_bwd : let s := st (gatherAt 1 bwdJob)
    s.dev.atWork 15 bwdJob 1 = true ∧ bwdJob.phaseA = false ∧
      (match (s.dev.phaseA 15 0 bwdJob 0).1 with | .ok _ => true | .error _ => false) = true ∧
      (job15 (after (.gatherBwd 15) s)).phaseA = true := by decide +kernel
/-- One row of 16 bytes for address 4096 of the partition, its new bytes in SCR at 8192. -/
def stagedJob : Job := { job (1 + 8192 <<< 832) with table := 4, phaseA := true, rowsOut := [(0, 2, 4096)], nidx := 0, urows := 0 }
theorem test_gather_phase_b :
    let d := gatherAt 1 stagedJob
    let s := st { d with hbm := Memory.write [] (scrRow stagedJob.d stagedJob.table 0 0) [1, 2, 3, 4] }
    s.dev.atWork 15 stagedJob 1 = true ∧ gOpt stagedJob.d = 0 ∧
      (let a := s.dev.hbmRead 0 (scrRow stagedJob.d stagedJob.table 0 0) (tRowBytes stagedJob.table) true
       a.1.st = .ok ∧ (a.2.gatherWrite 15 0 2 4096 a.1.bytes).1 = none) ∧
      (job15 (after (.gatherPhaseB 15) s)).done = true ∧ (after (.gatherPhaseB 15) s).dev.hbm.read 4096 4 = [1, 2, 3, 4] := by decide +kernel
def endJob : Job := { job (1 <<< 19) with done := true, bags := 1 }
theorem test_gather_job_end_premises : let s := st (gatherAt 2 endJob)
    endJob.groupsDue ≤ endJob.released ∧ gDval endJob.d = 0 ∧
      (s.dev.gatherWrite 15 0 2 120 (leBytes 8 endJob.cmpl.toNat)).1 = none ∧
      isWord ((s.dev.gatherWrite 15 0 2 120 (leBytes 8 endJob.cmpl.toNat)).2.gatherOp 15 0 2 1).1 = true := by decide +kernel

/-! ### Links: port 0 has lanes 0 and 1, partition 0, slice 7 of table 2; the far chip is 9, this chip 100 -/

def fabDict : List ((Nat × Nat × Nat) × Nat) :=
  ((List.range 8).map (fun k => ((0x3100, 1, k), if k = 0 then 3 else 0))) ++
    [((0x3100, 4, 0), 9), ((0x3100, 5, 0), 2 ^ 30), ((0x3100, 6, 0), 2)]
def entry9 : W16 := 0x00F0
def fab : Device :=
  ((({ dev0 with dict := fabDict.foldl (fun m q => alSet m q.1 q.2) dev0.dict, chipId := 100 } : Device).modLane 0 (fun x =>
    { x with bound := some 0 })).modLane 1 (fun x => { x with bound := some 0 })).modTable 2 (fun k =>
    { k with active := true, id := 7, part := 0, entries := [(9, entry9)] })
def port0 (s : State) : Port := s.dev.ports[(0 : PortNo)]
def lane0 (s : State) : Lane := s.dev.lanes[(0 : LaneNo)]
def up0 (f : Port → Port) : Device := (fab.modPort 0 (fun q => f { q with enabled := true, st := 2 })).modLane 1 (fun x => { x with st := 2 })

theorem test_lane_trained : let s := st ((up0 id).modLane 0 (fun x => { x with st := 1 }))
    s.dev.portOfLane 0 = some 0 ∧ (port0 s).enabled = true ∧ s.dev.cfg 0x3100 4 0 = 9 ∧
      (lane0 (after (.laneTrained 0 true 9 5) s)).st = 2 ∧ (lane0 (after (.laneTrained 0 true 8 5) s)).st = 3 := by decide +kernel
theorem test_lane_trained_late_or_taken :
    (let s := st { (up0 id).modLane 0 (fun x => { x with st := 1 }) with devTime := 30001 }
     (lane0 (after (.laneTrained 0 true 9 5) s)).st = 3) ∧
    (let s := st (((up0 id).modLane 0 (fun x => { x with st := 3 })).modLane 30 (fun x => { x with st := 2, port := 0, subst := some 0 }))
     s.dev.lanePlace 30 = s.dev.lanePlace 0 ∧ (lane0 (after (.laneTrained 0 true 9 5) s)).st = 4) := by decide +kernel
theorem test_lane_training_limit : let s := st { (up0 id).modLane 0 (fun x => { x with st := 1 }) with devTime := 30000 }
    30000 ≤ s.dev.since (lane0 s).lastTry ∧ (lane0 (after (.laneFailure 0) s)).st = 3 := by decide +kernel
theorem test_lane_retry : let s := st { (up0 id).modLane 0 (fun x => { x with st := 3 }) with devTime := 10000000 }
    10000000 ≤ s.dev.since (lane0 s).lastTry ∧ (lane0 (after (.laneRetry 0) s)).st = 1 := by decide +kernel
theorem test_lane_failure : let s := st ((up0 id).modLane 0 (fun x => { x with st := 2 }))
    (s.dev.activeLanes 0).length = 2 ∧ (lane0 s).port = 0 ∧ (port0 (after (.laneFailure 0) s)).st = 4 := by decide +kernel
def lcw3 : Lcw := { ack := 3, nak := none, off := 5, crcOk := true }
def somePkt (ty : Nat) (dst : Nat) (payload : List Byte) (mid : Nat) : Packet :=
  sealPacket (header ty 7 dst 9 payload.length mid) payload
theorem test_lcw_receive : let s := st (up0 (fun q => { q with oldest := 1, replay := [somePkt 0 9 [1] 0, somePkt 0 9 [2] 0] }))
    (3#16 - (port0 s).oldest).toNat = 2 ∧ (port0 (after (.lcwReceive 0 lcw3) s)).oldest = 3 ∧
      (port0 (after (.lcwReceive 0 lcw3) s)).replay = [] := by decide +kernel
theorem test_link_packet_receive : let s := st (up0 id); let k := somePkt 0 100 [1] 0; let bad := { k with payload := [2] }
    k.wf = true ∧ k.crcOk = true ∧ bad.crcOk = false ∧ (port0 s).nakking = false ∧
      (port0 (after (.linkPacketReceive 0 ⟨false, k⟩) s)).rxCount = 1 ∧
      (port0 (after (.linkPacketReceive 0 ⟨false, bad⟩) s)).nakking = true := by decide +kernel
theorem test_link_packet_of_a_replay : let s := st (up0 (fun q => { q with nakking := true, badCrc := 6 })); let k := somePkt 0 100 [1] 0
    (port0 (after (.linkPacketReceive 0 ⟨false, k⟩) s)).rxCount = 0 ∧ (port0 (after (.linkPacketReceive 0 ⟨true, k⟩) s)).rxCount = 1 ∧
      (port0 (after (.linkPacketReceive 0 ⟨true, { k with payload := [2] }⟩) s)).badCrc = 7 := by decide +kernel
theorem test_hold_window_expiry : let s := st { up0 (fun q => { q with st := 4, failedAt := some 0 }) with devTime := 100000 }
    (List.finRange 16).all (fun a => !s.dev.collUses a 0) = true ∧ (port0 (after (.holdWindowExpiry 0) s)).st = 5 ∧
      (port0 (after (.holdWindowExpiry 0) (st { up0 (fun q => { q with st := 3, failedAt := some 0 }) with devTime := 100000 }))).failedAt = none := by
  decide +kernel
theorem test_lane_substitution :
    let s := st { (up0 (fun q => { q with st := 3 })).modLane 0 (fun x => { x with st := 3 }) with devTime := 100000 }
    s.dev.lanePlace 0 ∈ s.dev.portLanes 0 ∧ s.dev.placeLost 0 0 = true ∧ (s.dev.idleSpares 0).head? = some 30 ∧
      s.dev.cfg 0x3100 4 0 = 9 ∧
      ((after (.laneSubstitution 0 0 ⟨30, false, 9, 12⟩) s).dev.lanes[(30 : LaneNo)]).subst = some 0 ∧
      (port0 (after (.laneSubstitution 0 0 ⟨30, false, 8, 12⟩) s)).tried = [30] := by decide +kernel
theorem test_port_return : let s := st ((up0 (fun q => { q with st := 5 })).modLane 0 (fun x => { x with st := 2 }))
    s.dev.cfg 0x3100 6 0 = 2 ∧ (s.dev.activeLanes 0).length = 2 ∧ (port0 (after (.portReturn 0) s)).st = 2 := by decide +kernel
/-- A packet that waits in the request buffer of class 0, since 0. -/
def holding (k : Packet) (c : Fin 4) : Device := up0 (fun q => { q with rx := q.rx.set c [(k, 0)] })
theorem test_router_forward : let s := st (holding (somePkt 0 9 [1] 0) 0)
    s.dev.headOf 0 0 = some (somePkt 0 9 [1] 0) ∧ (somePkt 0 9 [1] 0).broken = false ∧ s.dev.portSlice 0 = some (0, 7) ∧
      s.dev.sliceOf 0 = some 2 ∧ s.dev.nextHop 0 (somePkt 0 9 [1] 0) ((s.dev.tables[(2 : SliceTab)]).entry 9) = some (0, false) ∧
      s.dev.outBlocked 0 false false = false ∧
      (port0 (after (.routerForward (.port 0 false)) s)).replay.length = 1 := by decide +kernel
theorem test_router_drops :
    (let s := st (holding (somePkt 0 55 [1] 0) 0)
     s.dev.nextHop 0 (somePkt 0 55 [1] 0) ((s.dev.tables[(2 : SliceTab)]).entry 55) = none ∧
       (after (.routerForward (.port 0 false)) s).dev.dropTotal = 1) ∧
    (let k := sealPacket (header 0 8 9 9 1 0) [1]
     k.broken = false ∧ k.slice ≠ 7 ∧ (after (.routerForward (.port 0 false)) (st (holding k 0))).dev.dropTotal = 1) := by decide +kernel
theorem test_router_stall_drop :
    let d := holding (somePkt 0 9 [1] 0) 0
    let s := st { d with dict := alSet d.dict (0x3000, 2, 0) 100, devTime := 100000 }
    s.dev.cfg 0x3000 2 0 = 100 ∧ (after (.routerStallDrop 0 false false) s).dev.dropTotal = 1 := by decide +kernel
theorem test_net_port : let s := st { dev0 with rst := { dev0.rst with state := 6 }, dict := alSet dev0.dict (0x3500, 1, 0) 1 }
    s.dev.cfg 0x3500 1 0 ≠ 0 ∧ ((after (.netPortUp 0) s).dev.net[(0 : NetNo)]).st = 2 ∧
      ((after (.netPortDown 0) (after (.netPortUp 0) s)).dev.net[(0 : NetNo)]).st = 0 := by decide +kernel

/-! ### Packets: a window of partition 0 over tile 0 for chip 9 of slice 7 -/

def open0 (d : Device) : Device :=
  (d.modWindow 0 0 (fun w => { w with st := 1, tile := 0, base := 0, size := 8192, slice := 7, chipLo := 9, chipHi := 9, rights := 3 })).modWindow 0 1
    (fun w => { w with st := 1, tile := 0, base := claspBase, size := pocketSize - claspBase, slice := 7, chipLo := 9, chipHi := 9, rights := 4 })
def src0 : PktSrc := .port 0 false
/-- WRITE of 1 byte at offset 8191 of tile 0, from requester 5. -/
def writeAt (off : Nat) : Packet := somePkt 0 100 [0xAB] (midReq 0 off 5)
def arrived (k : Packet) (c : Fin 4) : State := st (open0 (holding k c))
def takes (s : State) (reply : Bool) (ty : Nat) : Bool := (s.dev.takeHead src0 reply (fun k => k.ty = ty)).isSome
theorem test_pkt_write : let s := arrived (writeAt 8191) 0
    takes s false 0 = true ∧ s.dev.pktAdmitted 0 (writeAt 8191) 8191 1 rightWr = true ∧
      (t0 (after (.pktWrite src0) s)).pocket = [(8191, 0xAB)] := by decide +kernel
theorem test_pkt_write_denied : let s := arrived (writeAt 8192) 0
    takes s false 0 = true ∧ s.dev.pktAdmitted 0 (writeAt 8192) 8192 1 rightWr = false ∧ (t0 (after (.pktWrite src0) s)).pocket = [] := by
  decide +kernel
theorem test_pkt_write_f : let k := somePkt 1 100 [0xAB] (midReq 0 0 5); let s := arrived k 0
    takes s false 1 = true ∧ (t0 (after (.pktWriteF src0) s)).pocket = [(0, 0xAB)] := by decide +kernel
theorem test_pkt_read : let k := somePkt 2 100 (leBytes 8 (77 + 8 <<< 23)) (midReq 0 0 5); let s := arrived k 0
    takes s false 2 = true ∧ s.dev.pktAdmitted 0 k 0 8 rightRd = true ∧
      ((port0 (after (.pktRead src0) s)).replay.map (fun k => (k.ty, k.tag, k.payload.length))) = [(8, 77, 8)] := by decide +kernel
/-- ADD of 6 to clasp 4 (OP 1). -/
theorem test_pkt_atomic : let k := somePkt 3 100 (leBytes 24 (77 + 1 <<< 24 + 4 <<< 32 + 6 <<< 64)) (midReq 0 0 5); let s := arrived k 0
    takes s false 3 = true ∧ s.dev.pktAdmitted 0 k (claspOff 4) 8 rightCl = true ∧
      clValue ((after (.pktAtomic src0) s).dev.claspWord 0 4) = 6 := by decide +kernel
/-- A watch of clasp 4 for 1 (COND 0). -/
theorem test_pkt_watch : let k := somePkt 4 100 (leBytes 24 (77 + 4 <<< 30 + 1 <<< 64)) (midReq 0 0 5); let s := arrived k 0
    takes s false 4 = true ∧ s.dev.pktAdmitted 0 k (claspOff 4) 8 rightCl = true ∧
      ((t0 (after (.pktWatch src0) s)).watches[(0 : Fin 32)]).map (·.value) = some 1 := by decide +kernel
/-- The mover of tile 0, slot 0, awaits a read from chip 9 (TAG 77) of one byte to its pocket at 64. -/
def farDesc : Desc :=
  { d := BitVec.ofNat 512 (1 <<< 176 + 9 <<< 188 + 64 <<< 256), srcRec := BitVec.ofNat 256 (1 <<< 8 + 1 <<< 32 + 1 <<< 48 + 1 <<< 64),
    dstRec := BitVec.ofNat 256 (1 <<< 8 + 1 <<< 32 + 1 <<< 48 + 1 <<< 64), origin := .tile 0 0, ctx := 1, part := 0,
    e := { word := 0x5, recs := [], bnd := Vector.replicate 16 0, pcq := 0 } }
theorem test_pkt_read_rsp : let k := somePkt 8 100 [0xCD] (midRsp 77 0)
    let s := st { (holding k 2).modSlot (.tile 0) 0 (fun z => { z with st := .running, desc := some farDesc, reads := [(77, 0, 1)], target := 1 })
      with tags := [(77, .mover (.tile 0) 0)] }
    takes s true 8 = true ∧ (s.dev.claimTag 77).1 = some (.mover (.tile 0) 0) ∧ k.status = 0 ∧
      (t0 (after (.pktReadRsp src0) s)).pocket = [(64, 0xCD)] := by decide +kernel
/-- The mover of tile 0 awaits one acknowledgement of a write to chip 9. -/
def toFar : Desc := { farDesc with d := BitVec.ofNat 512 (1 <<< 304 + 9 <<< 316) }
theorem test_pkt_write_ack : let k := somePkt 9 100 [] (midRsp 0 0)
    let s := st ((holding k 2).modSlot (.tile 0) 0 (fun z => { z with st := .running, desc := some toFar, awaits := 1, pos := 1, target := 1 }))
    takes s true 9 = true ∧ reqMover k.tag = some (.tile 0) ∧ s.dev.epFar (toFar.ep true) = true ∧
      ((after (.pktWriteAck src0) s).dev.slot (.tile 0) 0).awaits = 0 := by decide +kernel
/-- A CL ADD of tile 0 on another chip's clasp, with VSRC (pocket offset 64). -/
def farWatch : Flight :=
  { e := { word := BitVec.ofNat 128 (ins 6 1 (1 <<< 66 + 64 <<< 80)), recs := [], bnd := Vector.replicate 16 0, pcq := 0 }, performed := true, signalled := false,
    awaits := 1, sentAt := 0, tag := some 77, buf := none }
theorem test_pkt_atomic_rsp : let k := somePkt 10 100 (leBytes 8 0xAB) (midRsp 77 0)
    let s := st { (holding k 2).modTile 0 (fun x => { x with flight := x.flight.set 0 [farWatch] }) with tags := [(77, .tile 0 .ld)] }
    takes s true 10 = true ∧ decodeOp farWatch.e.word = some .clAdd ∧ clVsrc farWatch.e.word = true ∧
      (after (.pktAtomicRsp src0) s).dev.tags = [] ∧ ((t0 (after (.pktAtomicRsp src0) s)).flight[(0 : Fin 4)]).map (·.tag) = [none] ∧
      (t0 (after (.pktAtomicRsp src0) s)).pocket = [(72, 0xAB)] := by decide +kernel
/-- A notification of token counter 3 of context `c` on tile 0 (NKIND 0), abandoned, and the watch on chip 9 that it answers. -/
def notice (c : Nat) : Packet := somePkt 11 100 (leBytes 16 (c <<< 9 + 3 <<< 19 + 1 <<< 22)) 0
def farW (c : CtxNo) : FarWatch :=
  { tag := 0, holds := 9, at_ := 4,
    w := { value := 1, clasp := 6, cond := 0, nkind := 0, narg := 3, remote := true, wait := false, tile := 0, chip := 100, ctx := c,
           holder := .tile .ld, inv := false, tag := 0 } }
def noticed (c : CtxNo) : State := st { holding (notice c.val) 2 with farWatches := [farW c] }
theorem test_pkt_notify : takes (noticed 1) true 11 = true ∧
    ((noticed 1).dev.farFor (notice 1) (BitVec.ofNat 128 (leNat (notice 1).payload))).isSome = true ∧
    (t0 (after (.pktNotify src0) (noticed 1))).tok[(3 : Fin 8)] = 1 ∧
    bitOf (t0 (after (.pktNotify src0) (noticed 1))).claspNote 3 = true ∧
    (t0 (after (.pktNotify src0) (noticed 2))).tok[(3 : Fin 8)] = 0 := by decide +kernel

/-! ### Collectives: a ring of partition 0, the collective over level Y with layout 2 of two devices -/

def collDev (op : Nat) : Device :=
  let d := (({ fab with pages := [{ phys := 0, part := 0, pno := 0 }], hbm := Memory.write [] 0 (leBytes 8 (op + 12 <<< 14 + 2 <<< 8)) } : Device).modPart 0 (fun q =>
    { q with collRing := { q.collRing with st := 1, ready := true, base := 0, log2 := 4, ctx := 1, tile := 0, head := 1, tail := 2 } }))
  d.modLayout 2 (fun l => { l with loaded := true })
theorem test_coll_bad_descriptor :
    let s := st (collDev 5)
    collRows.map (·.2) = [0, 1, 2, 3, 4] ∧ (s.dev.hbmRead 0 0 64 true).1.st = .ok ∧ (s.dev.parts[(0 : PartNo)]).coll = none := by decide +kernel
/-- Each row finds a descriptor of its own, refused: COUNT over a level of one device. -/
theorem test_coll_rows_refused : (collRows.all (fun row =>
    let s := st (collDev row.2)
    let x : BitVec 512 := BitVec.ofNat 512 (leNat (s.dev.hbmRead 0 0 64 true).1.bytes)
    decide (cOp x = row.2) && s.dev.collBad 0 x &&
      (match exec (row.1 0) s with
       | .next u => (u.dev.parts[(0 : PartNo)]).coll.isNone && decide ((u.dev.parts[(0 : PartNo)]).collRing.next = 1)
       | _ => false))) = true := by decide +kernel
/-- A good descriptor: no level used, CLOG 12, COUNT 0. -/
def goodColl (op : Nat) : State := st { collDev 0 with hbm := Memory.write [] 0 (leBytes 8 (op + 12 <<< 14 + (if op = 4 then 1 <<< 19 else 0))) }
theorem test_coll_rows_taken : (collRows.all (fun row =>
    let s := goodColl row.2
    let x : BitVec 512 := BitVec.ofNat 512 (leNat (s.dev.hbmRead 0 0 64 true).1.bytes)
    decide (cOp x = row.2) && !s.dev.collBad 0 x && (s.dev.parts[(0 : PartNo)]).collEarly.isEmpty)) = true := by decide +kernel

/-- A running collective with ID 6 and one stream of level 0, direction minus. -/
def stream0 (c : Nat) (r : Bool) : CStream := { level := 0, dir := false, staged := [], spread := [], bad := false, credits := c, ready := r }
def cjob (q : CStream) : CollJob := { (default : CollJob) with d := BitVec.ofNat 512 (6 <<< 32 + 12 <<< 14), streams := [q], loaded := true }
def running (k : Packet) (c : Fin 4) (q : CStream) : State :=
  let d := (holding k c).modPart 0 (fun x => { x with coll := some (cjob q) })
  st { d with dict := alSet d.dict (0x3100, 4, ((d.layoutOf 0).port 0 false).val) 9 }
def coll0 (s : State) : Option CollJob := (s.dev.parts[(0 : PartNo)]).coll
def staged0 (s : State) : List Byte := (coll0 s).elim [] (fun j => j.streams.flatMap (·.staged))
theorem test_coll_data : let k := somePkt 5 100 [1, 2, 3] 6; let s := running k 0 (stream0 2 true)
    (s.dev.collPacket src0 false (fun k => k.ty = 5)).isSome = true ∧ fld k.hdr 56 8 = 6 ∧ (cId (cjob (stream0 2 true)).d).toNat % 256 = 6 ∧
      staged0 (after (.pktCollData src0) s) = [1, 2, 3] := by decide +kernel
/-- COLL_CTL of ID 6, level 0, direction minus: kind and data. -/
def ctl (kind : Nat) (data : Nat) : Packet := somePkt 12 100 (leBytes 16 (6 + kind <<< 32 + data <<< 96)) 0
def credits0 (s : State) : Nat := (coll0 s).elim 99 (fun j => (j.streams.map (·.credits)).sum)
theorem test_coll_ready : let k := ctl 0 (cDigest (cjob (stream0 0 false)).d).toNat; let s := running k 2 (stream0 0 false)
    (s.dev.collPacket src0 true (ctlIs [0])).isSome = true ∧ (ctlOf k).src = s.dev.cfg 0x3100 4 ((s.dev.layoutOf 0).port 0 false) ∧
      credits0 (after (.collReady src0) s) = 2 := by decide +kernel
theorem test_coll_ready_of_another_premises : let k := ctl 0 0; let s := running k 2 (stream0 0 false)
    (s.dev.collPacket src0 true (ctlIs [0])).isSome = true ∧ (ctlOf k).data ≠ cDigest (cjob (stream0 0 false)).d := by decide +kernel
theorem test_coll_credit : let k := ctl 1 3; let s := running k 2 (stream0 1 true)
    (s.dev.collPacket src0 true (ctlIs [1])).isSome = true ∧ credits0 (after (.collCredit src0) s) = 4 := by decide +kernel
theorem test_coll_abort_receive_premises : let k := ctl 2 0; let s := running k 2 (stream0 1 true)
    (s.dev.collPacket src0 true (ctlIs [2, 3])).isSome = true ∧ (ctlOf k).kind = 2 ∧ (ctlOf k).id = cId (cjob (stream0 1 true)).d := by
  decide +kernel
/-- An ABORT of collective 5, which ended before the running collective 6 was taken. -/
theorem test_coll_abort_of_the_previous_premises :
    let k := somePkt 12 100 (leBytes 16 (5 + 2 <<< 32)) 0
    let s := st ((running k 2 (stream0 1 true)).dev.modPart 0 (fun q => { q with collPrev := some 5 }))
    ((s.dev.collPacket src0 true (ctlIs [2, 3])).map (fun x => ((x.2.2.parts[(0 : PartNo)]).collPrev, (x.2.2.parts[(0 : PartNo)]).collCut)))
      = some (some 5, false) ∧ (ctlOf k).kind = 2 ∧ (ctlOf k).id = 5 := by decide +kernel
/-- A reduction over level X of two devices: COUNT 2048 FP32 elements. -/
def redJob (f : CStream → CStream) : CollJob :=
  { cjob (stream0 1 true) with d := BitVec.ofNat 512 (6 <<< 32 + 12 <<< 14 + 1 <<< 8 + 2048 <<< 64),
                               vals := List.replicate 2048 0, halves := List.replicate 4 ⟨0, 0, 0⟩, streams := [f (stream0 1 true)] }
def lay2 : Layout := (((up0 id).modLayout 2 (fun l => { l with loaded := true, axes := l.axes.set 0 2 })).layoutOf 0)
theorem test_coll_chunk_reduce_premises : let j := redJob id
    (cPhases j.d)[0]? = some (.reduce, 0) ∧ (j.pick lay2 ⟨0, false⟩ (stream0 1 true)).map (fun c =>
      decide (c.1 = 0 ∧ c.2.kind = .reduce) && !c.2.step.consume && c.2.step.send) = some true := by decide +kernel
/-- Step 1 of the ring consumes what came; its staging buffer has an uncorrectable error. -/
theorem test_coll_bad_staging_premises : let q : CStream := { stream0 1 true with staged := List.replicate 4096 0, bad := true }
    let j := { redJob (fun _ => q) with halves := [⟨1, 0, 0⟩, ⟨1, 0, 0⟩, ⟨0, 0, 0⟩, ⟨0, 0, 0⟩] }
    (j.pick lay2 ⟨0, false⟩ q).map (fun c => c.2.step.consume) = some true := by decide +kernel
theorem test_coll_complete_premises : let j := { redJob id with halves := List.replicate 4 ⟨2, 0, 0⟩ }
    j.allDone lay2 = true ∧ (redJob id).allDone lay2 = false ∧ cOp j.d ≠ 4 ∧ j.loaded = true := by decide +kernel
theorem test_coll_stall_premises : let s := st { (running (ctl 1 3) 2 (stream0 1 true)).dev with devTime := 10000000000 }
    1000 * (s.dev.layoutOf 0).stallUs ≤ s.dev.since ((coll0 s).elim 0 (·.lastMove)) ∧ (coll0 s).isSome = true := by decide +kernel
theorem test_coll_net_lost_premises :
    let s := st { (fab.modNet 1 (fun x => { x with st := 2, unacked := some 0 })) with devTime := 1792000 }
    cLevel (BitVec.ofNat 512 (1 <<< 11)) 3 = true ∧ (s.dev.net[(1 : NetNo)]).unacked = some 0 ∧ 7 * 256000 ≤ s.dev.since 0 ∧
      (s.dev.net[(0 : NetNo)]).st ≠ 2 ∧ 100000 ≤ s.dev.since (s.dev.net[(0 : NetNo)]).downSince := by decide +kernel

end Sys2Proof.Tests
end

