-- ==== Sys2Proof/Tests/Device.lean ====
section
/-! SUPPORT. Tests and witnesses of time, resets, bring-up, power, queues, BAR4, registers, dictionary requests and the management
paths. Where the kernel would take long over every tile or context, the witness of the premises alone stands. -/

namespace Sys2Proof.Tests

set_option Elab.async false

open Sys2Proof.Machine

/-! ### Time -/

theorem test_tick_slews : let s := st { dev0 with tsync := { dev0.tsync with slew := 0 } }
    s.pending = [] ∧ s.dev.tsync.slew = 0 ∧ (match step s with | .next u => u.dev.devTime | _ => 0) = 1 := by decide +kernel
theorem test_first_mark_sets_time :
    let s := st { Device.reset with tsync := { Device.reset.tsync with epoch := some 5000000 }, rst := { Device.reset.rst with firstMark := true } }
    (after .rackMarkEdge s).dev.devTime = 5000000 := by decide +kernel
theorem test_first_mark_premises :
    (List.finRange 256).all (fun (c : CtxNo) => !(Device.reset.ctxs[c]).st.started) = true ∧ Device.reset.tsync.missed = false := by
  decide +kernel
theorem test_later_mark_keeps_time :
    let s := st { Device.reset with tsync := { Device.reset.tsync with epoch := some 5000000 }, devTime := 77,
                                    rst := { Device.reset.rst with firstMark := false } }
    s.dev.rst.firstMark = false ∧ (after .rackMarkEdge s).dev.devTime = 77 := by decide +kernel
theorem test_devtime_latch : let s := st { dev0 with devTime := BitVec.ofNat 64 (3 <<< 32 + 9) }
    (after (.clkDevtimeRead false) s).dev.devLatch = 3 := by decide +kernel
def synced : Device := { dev0 with devTime := 2000000, tsync := { dev0.tsync with edges := 4, lastEdge := 998999, refOk := true, st := 1 } }
theorem test_mark_timeout : let s := st synced
    s.dev.tsync.edges ≠ 0 ∧ 1001000 < s.dev.since s.dev.tsync.lastEdge ∧
      (after .rackMarkTimeout s).dev.tsync.lastEdge = 1998999 := by decide +kernel
theorem test_ref_return : let s := st { synced with tsync := { synced.tsync with refOk := false, st := 2 } }
    s.dev.tsync.refOk = false ∧ (after .rackRefReturn s).dev.tsync.st = 1 := by decide +kernel
def rackMaster : Device :=
  { synced with devTime := 1198999, tsync := { synced.tsync with eff := synced.tsync.eff.set 0 1, ptpLocked := true, st := 3, sentMark := false } }
theorem test_rack_master : let s := st rackMaster
    s.dev.live = true ∧ s.dev.tsync.master = true ∧ 200000 ≤ s.dev.since s.dev.tsync.lastEdge ∧
      s.dev.since s.dev.tsync.lastEdge ≤ 800000 ∧ (after .markEpochSend s).dev.tsync.sentMark = true ∧
      (after .timePtpLost s).dev.tsync.st = 1 := by decide +kernel
/-- The rack master with ordinary port 1 up, in domain 24: one exchange as time receiver, one answer as time transmitter. -/
def ptpMaster (f : Tsync → Tsync) : State :=
  st ({ rackMaster with tsync := f { rackMaster.tsync with eff := (rackMaster.tsync.eff.set 1 1).set 2 24, ptpTx := false } }.modNet 1
    (fun x => { x with st := 2 }))
theorem test_ptp_receiver : let s := ptpMaster id
    s.dev.tsync.master = true ∧ (s.dev.net[(1 : NetNo)]).st = 2 ∧
      (after (.ptpMessage ⟨1, 24, .sync false 1000000⟩) s).dev.tsync.ptpOffset = 198999 ∧
      (after (.ptpMessage ⟨1, 24, .sync false 1000000⟩) s).dev.tsync.ptpOut = [.delayReq] ∧
      (after (.ptpMessage ⟨0, 24, .sync false 1000000⟩) s).dev.tsync.ptpOut = [] ∧
      (after (.ptpMessage ⟨1, 24, .delayResp 1000100⟩) (ptpMaster (fun y => { y with ptpT3 := some 1198999, ptpOffset := 199099 }))).dev.tsync.ptpOffset
        = 198999 := by decide +kernel
theorem test_ptp_transmitter : let s := ptpMaster (fun y => { y with ptpTx := true })
    (after (.ptpMessage ⟨1, 24, .delayReq⟩) s).dev.tsync.ptpOut = [.delayResp 1198999] := by decide +kernel

/-- A TIME packet from chip 9 of slice 7, which this device follows (Table 13.13). -/
theorem test_pkt_time_premises :
    let k := somePkt 13 100 (leBytes 16 5000000) 0
    let s := arrived k 2
    let y := { s.dev.tsync with eff := s.dev.tsync.eff.set 3 9 |>.set 4 9 |>.set 5 7 }
    takes s true 13 = true ∧ y.master = false ∧ y.eff[(3 : Fin 6)] ≤ k.src ∧ k.src ≤ y.eff[(4 : Fin 6)] ∧ k.slice = y.eff[(5 : Fin 6)] ∧
      (after (.pktTime src0) (st { s.dev with tsync := y })).dev.tsync.epoch = some 5000000 := by decide +kernel

/-! ### Resets -/

theorem test_reset_sources_premises : let s := st dev0
    s.dev.rst.held = false ∧ s.dev.cfg 0x1010 6 0 = 0 ∧ s.dev.live = true ∧ (s.dev.hbmStacks[(0 : StackNo)]).st ≠ 2 := by decide +kernel
theorem test_second_source_is_recorded :
    let s := st { dev0 with rst := { dev0.rst with held := true, cause := 2 } }
    s.dev.rst.held = true ∧ (after .rstNAssert s).dev.rst.cause = 2 ∧ (after .rstNAssert s).dev.rst.secondary.getLsbD 1 = true := by
  decide +kernel
theorem test_link_loss_premises : let s := st { dev0 with devTime := 10000000, rst := { dev0.rst with linkUp := false, linkDownAt := some 0 } }
    s.dev.rst.linkDownAt = some 0 ∧ 10000000 ≤ s.dev.since 0 ∧ s.dev.cfg 0x1010 6 0 = 0 := by decide +kernel
theorem test_host_scope_premises : let s := st { dev0 with dict := alSet dev0.dict (0x1010, 6, 0) 1 }
    s.dev.cfg 0x1010 6 0 ≠ 0 ∧ s.dev.rst.held = false := by decide +kernel
theorem test_host_link : let s := st { dev0 with rst := { dev0.rst with linkUp := true } }
    s.dev.rst.linkUp = true ∧ (after .hostLinkDown s).dev.rst.linkDownAt = some 0 ∧
      s.dev.rst.hostReset = false ∧ (after .hostLinkUp (after .hostLinkDown s)).dev.rst.linkUp = true := by decide +kernel
def heldDev : Device := { dev0 with devTime := 20000000, rst := { dev0.rst with held := true, asserted := 0, since := 0 } }
theorem test_reset_release : let s := st heldDev
    s.dev.rst.asserted = 0 ∧ 20000000 ≤ s.dev.since s.dev.rst.since ∧ (after .resetRelease s).dev.rst.released = true ∧
      (after .resetEnd (after .resetRelease s)).dev.rst.state = 1 ∧ (after .resetEnd (after .resetRelease s)).dev.rst.held = false := by
  decide +kernel
theorem test_reset_waits_for_its_source : let s := st { heldDev with rst := { heldDev.rst with asserted := 2 } }
    (after .resetRelease s).dev.rst.released = false := by decide +kernel
theorem test_perst_deassert : let s := st { heldDev with rst := { heldDev.rst with perst := true, hostReset := true, asserted := 4 } }
    (after .perstNDeassert s).dev.rst.perst = false ∧ (after .perstNDeassert s).dev.rst.asserted = 0 := by decide +kernel
theorem test_thermal_trip_clear : let s := st { heldDev with rst := { heldDev.rst with thermTrip := true, asserted := 64 }, sensors := dev0.sensors.set 3 920 }
    s.dev.rst.thermTrip = true ∧ (after .thermalTripClear s).dev.rst.asserted = 0 := by decide +kernel
/-- Commands of the always-on domain act on a frozen part; the others do not. -/
theorem test_held_part_takes_no_command :
    let s := { st { dev0 with rst := { dev0.rst with frozen := true } } with pending := [.seqNop 0, .registerWrite (.vxStatus 0) 15] }
    s.dev.live = false ∧ s.pending.all (fun c => c.wf && !alwaysOn c) = true := by decide +kernel

/-! ### Bring-up and components -/

def stageOk : StageResult := { (default : StageResult) with badStacks := [], badTiles := [], badPages := [], fatal := false, image := none }
def atStage (n : Fin 11) (f : Device → Device) : State := st (f { dev0 with rst := { dev0.rst with state := n, bootSel := 0 } })
def stage (s : State) : Fin 11 := s.dev.rst.state
theorem test_bringup_rom : stage (after (.bringupStage stageOk) (atStage 1 id)) = 2 := by decide +kernel
theorem test_bringup_auth : let s := atStage 2 (fun d => { d with fw := { d.fw with bankValid := d.fw.bankValid.set 0 false |>.set 1 true, bankA := 0, secVersion := 0 } })
    s.dev.live = true ∧ s.dev.fw.select s.dev.rst.bootSel = some 1 ∧ stage (after (.bringupStage stageOk) s) = 3 ∧
      (after (.bringupStage stageOk) s).dev.fw.running = 1 := by decide +kernel
theorem test_bringup_hold_auth : let s := atStage 2 (fun d => { d with fw := { d.fw with bankValid := Vector.replicate 2 false } })
    s.dev.fw.select s.dev.rst.bootSel = none ∧ stage (after (.bringupStage stageOk) s) = 8 := by decide +kernel
theorem test_bringup_recovery :
    let s := atStage 2 (fun d => { d with rst := { d.rst with bootSel := 2 }, fw := { d.fw with verified := true, running := 0 } })
    s.dev.live = true ∧ stageOk.image = none ∧ stage (after (.bringupStage stageOk) s) = 3 ∧
      (after (.bringupStage stageOk) s).dev.fw.running = 1 := by decide +kernel
theorem test_bringup_host : stage (after (.bringupStage stageOk) (atStage 3 id)) = 4 := by decide +kernel
theorem test_bringup_hbm : let u := after (.bringupStage stageOk) (atStage 4 (fun d => { d with hbm := [(5, 1)] }))
    stage u = 5 ∧ u.dev.hbm = [] := by decide +kernel
theorem test_bringup_fails : let u := after (.bringupStage { stageOk with fatal := true }) (atStage 5 id)
    stage u = 10 ∧ u.dev.alarms.map (·.code) = [0x0106] := by decide +kernel
theorem test_bringup_links : stage (after (.bringupStage stageOk) (atStage 6 id)) = 7 := by decide +kernel
theorem test_component_restart : let s := st dev0
    ((s.dev.comps[(4 : Fin 8)]).times.filter (fun t => s.dev.since t < 600000000000)).length < 3 ∧
      ((after (.fwComponentRestart 4) s).dev.comps[(4 : Fin 8)]).restarting = true ∧
      ((after (.fwRestartComplete 4) (after (.fwComponentRestart 4) s)).dev.comps[(4 : Fin 8)]).restarting = false := by decide +kernel
theorem test_spare_core : let s := st dev0
    s.dev.spareUsed = false ∧ (after (.collarCoreFail 3) s).dev.spareUsed = true ∧
      ((after (.collarCoreFail 3) s).dev.comps[(3 : Fin 8)]).restarting = true := by decide +kernel
theorem test_fourth_restart_premises : let s := st { dev0 with comps := dev0.comps.set 4 { dev0.comps[(4 : Fin 8)] with times := [0, 0, 0] } }
    3 ≤ ((s.dev.comps[(4 : Fin 8)]).times.filter (fun t => s.dev.since t < 600000000000)).length ∧ s.dev.live = true := by decide +kernel

/-! ### Power -/

theorem test_brake_premises : let s := st ({ dev0 with devTime := 2000, rst := { dev0.rst with brake := true } }.modTile 0 (fun x => { x with level := 3, lastArray := 0 }))
    s.dev.live = true ∧ s.dev.rst.brake = true ∧ 1 < (t0 s).level.val ∧ 2000 ≤ s.dev.since (t0 s).lastArray ∧
      (t0 (after (.levelDescend 0) s)).level = 2 := by decide +kernel
def waking (brake : Bool) : State :=
  st (({ dev0 with rst := { dev0.rst with brake := brake } }.modTile 0 (fun x => { x with level := 0, mhz := 0, queued := true })).modPanel (panelOf 0)
    (fun q => { q with wakes := [0, 1], granted := [] }))
theorem test_wake_grant : let s := waking false
    (s.dev.panels[panelOf 0]).wakes = [0, 1] ∧ s.dev.grantedNow (panelOf 0) < 32 ∧ (t0 s).level = 0 ∧
      (t0 (after (.wakeGrant (panelOf 0)) s)).level = 1 ∧ (t0 (after (.wakeGrant (panelOf 0)) s)).queued = false ∧
      ((after (.wakeGrant (panelOf 0)) s).dev.panels[panelOf 0]).wakes = [1] := by decide +kernel
theorem test_no_wake_while_braked : (t0 (after (.wakeGrant (panelOf 0)) (waking true))).level = 0 := by decide +kernel
theorem test_level_idle : let s := st { dev0 with devTime := 50000 }
    ((List.finRange 4).all (fun e => (t0 s).queues[e].isEmpty && (t0 s).flight[e].isEmpty)) = true ∧
      50000 ≤ s.dev.since (t0 s).lastActive ∧ (t0 (after (.levelIdle 0) s)).level = 0 := by decide +kernel
def warm : State := st { dev0 with devTime := 200000, sensors := Vector.replicate 64 (-400), dict := alSet dev0.dict (0x2200, 1, 0) 85 }
theorem test_thermal_premises : let q := warm.dev.panels[(0 : PanelNo)]
    (8 * (warm.dev.cfg 0x2200 1 0 : Nat) : Int) = 680 ∧ 600 < q.thermal ∧ 200000 ≤ warm.dev.since q.lastThermal ∧
      (681#16).toInt = 681 ∧ ((panelSensors 0).all (fun i => decide (warm.dev.sensors[i] ≤ 664))) = true := by decide +kernel
theorem test_power_limit_premises : let s := st { dev0 with dict := alSet dev0.dict (0x2100, 1, 0) 1000 }
    s.dev.live = true ∧ s.dev.cfg 0x2100 1 0 < (1001#16).toNat ∧ 100 * (950#16).toNat ≤ 95 * s.dev.cfg 0x2100 1 0 ∧
      600 ≤ (600#16).toNat := by decide +kernel

/-! ### Host queues: queue 0 of partition 0, 4 entries, commands at 4096 of host memory -/

def qState (w : Nat) (f : Queue → Queue) : State :=
  st (({ dev0 with rst := { dev0.rst with state := 7 }, hostMem := Memory.write dev0.hostMem 4096 (leBytes 64 w) }.modPart 0
    (fun q => { q with busMaster := true })).modQueue 0 0
    (fun q => f { q with st := 1, log2 := 2, sqBase := 4096, cqBase := 8192, head := 0, tail := 1, cqHead := 0, cqTail := 0, started := [], waiting := [], phase := true }))
def q0 (s : State) : Queue := (p0 s).queues[(0 : QueueNo)]
theorem test_tail_doorbell : let s := qState 0 (fun q => { q with tail := 0 })
    ringDist (q0 s).log2 (q0 s).head 3 + (q0 s).outstanding ≤ 3 ∧ (q0 (after (.sqTailDoorbell 0 0 3) s)).tail = 3 := by decide +kernel
theorem test_tail_doorbell_out_of_range : let s := qState 0 (fun q => { q with tail := 0 })
    (q0 (after (.sqTailDoorbell 0 0 4) s)).st = 2 ∧ (q0 (after (.sqTailDoorbell 0 0 4) s)).error = 0x0101 := by decide +kernel
theorem test_cq_head_doorbell : let s := qState 0 (fun q => { q with cqTail := 2 })
    ringDist 2 (q0 s).cqHead 2 ≤ ringDist 2 (q0 s).cqHead (q0 s).cqTail ∧ (q0 (after (.cqHeadDoorbell 0 0 2) s)).cqHead = 2 := by
  decide +kernel
theorem test_evq_head_doorbell :
    let s := st (dev0.setEvq (.vf 0) { dev0.evqOf (.vf 0) with on := true, base := 4096, log2 := 2, head := 0, tail := 1, lost := 0 })
    (s.dev.evqOf (.vf 0)).on = true ∧ ((after (.evqHeadDoorbell (.vf 0) 1) s).dev.evqOf (.vf 0)).head = 1 := by decide +kernel
theorem test_queue_nop : let s := qState (7 <<< 16) id
    s.dev.sqHead 0 0 = some (BitVec.ofNat 512 (7 <<< 16)) ∧ (q0 (after (.nop 0 0) s)).head = 1 ∧ (q0 (after (.nop 0 0) s)).cqTail = 1 := by
  decide +kernel
theorem test_step_release_premises : let w := 1 + 7 <<< 16 + 1 <<< 32 + 3 <<< 48; let s := qState w id
    s.dev.sqHead 0 0 = some (BitVec.ofNat 512 w) ∧ qOpc (BitVec.ofNat 512 w) = 1 ∧ qCount (BitVec.ofNat 512 w) = 3 ∧
      (s.dev.ctxs[qCtx (BitVec.ofNat 512 w)]).part = some 0 ∧ (s.dev.ctxs[qCtx (BitVec.ofNat 512 w)]).st.started = true := by decide +kernel
theorem test_mover_cancel_premises : let w := 3 + 7 <<< 16; let s := qState w id
    s.dev.sqHead 0 0 = some (BitVec.ofNat 512 w) ∧ qOpc (BitVec.ofNat 512 w) = 3 := by decide +kernel
/-- A launch block at 16384: EXEC 1 (bulk mover 0), from tile 0 at 0 to tile 0 at 4096. -/
def launchDesc : BitVec 512 := BitVec.ofNat 512 (1 + 1 <<< 176 + 4096 <<< 256 + 1 <<< 304)
def launchState : State :=
  let s := qState (2 + 7 <<< 16 + 1 <<< 32 + 16384 <<< 64) id
  st { s.dev with hostMem := s.dev.hostMem.write 16384 (leBytes 128 (launchDesc.toNat + row64.toNat <<< 512 + row64.toNat <<< 768)),
                  bulkBound := s.dev.bulkBound.set 0 (some (0, false)) }
theorem test_mover_launch_premises : let s := launchState; let b := BitVec.ofNat 1024 (leNat (s.dev.hostMem.read 16384 128))
    (s.dev.sqHead 0 0).map qOpc = some 2 ∧ (s.dev.sqHead 0 0).map qLblk = some 16384 ∧
      s.dev.launchBad 0 true (BitVec.ofNat 512 (fld b 0 512)) (BitVec.ofNat 256 (fld b 512 256)) (BitVec.ofNat 256 (fld b 768 256)) = false ∧
      (s.dev.ctxs[(1 : CtxNo)]).part = some 0 ∧ (s.dev.ctxs[(1 : CtxNo)]).st.admitted_ = true ∧
      (s.dev.mover (execMover none launchDesc)).arrivals = [] ∧ s.dev.moverAccepts (execMover none launchDesc) (descOf launchDesc.toNat) = true := by
  decide +kernel
theorem test_msix_deferred :
    let s := st { (dev0.modPart 0 (fun q => { q with msix := q.msix.set 5 { q.msix[(5 : Fin 124)] with masked := false, deferred := true, lastSent := 0, sent := 0 } })) with devTime := 2000 }
    let m := (p0 s).msix[(5 : Fin 124)]
    m.deferred = true ∧ 2000 ≤ (s.dev.devTime - m.lastSent).toNat ∧
      ((p0 (after (.msixDeferredSend (.vf 0) 5) s)).msix[(5 : Fin 124)]).sent = 1 := by decide +kernel

/-! ### BAR4 and registers -/

theorem test_bar4_write_reads_back : let s := st dev0
    barAccess 4094 4 = true ∧ (t0 s).pocketBad = [] ∧ (t0 s).bound = some 0 ∧
      (p0 (after (.bar4Read 0 4094 4) (after (.bar4Write 0 4094 [1, 2, 3, 4]) s))).barRead = some [1, 2, 3, 4] := by decide +kernel
theorem test_bar4_unbound : let s := st dev0
    (t0 s).bound ≠ some 1 ∧ (t0 (after (.bar4Write 1 4094 [1]) s)).pocket = [] ∧
      ((after (.bar4Read 1 4094 2) s).dev.parts[(1 : PartNo)]).barRead = some [0xFF, 0xFF] ∧
      (after (.bar4Write 1 4094 [1]) s).dev.errLog.map (·.code) = [0x020B] := by decide +kernel
theorem test_bar4_clasps : let s := st dev0; let off := BitVec.ofNat 31 (claspOff 0)
    claspBase < off.toNat + 1 ∧ (after (.bar4Write 0 off [1]) s).dev.errLog.map (·.code) = [0x020B] := by decide +kernel
theorem test_register_w1c : let s := st (dev0.modTile 0 (fun x => { x with vxStatus := 0xF, accStatus := 7, cvtStatus := 0xFF, faultInfo := 0x8FF }))
    (t0 (after (.registerWrite (.vxStatus 0) 5) s)).vxStatus = 0xA ∧ (t0 (after (.registerWrite (.accStatus 0) 1) s)).accStatus = 6 ∧
      (t0 (after (.registerWrite (.cvtStatus 0) 0x1FF) s)).cvtStatus = 0 ∧
      (t0 (after (.registerWrite (.faultInfo 0) (BitVec.allOnes 64)) s)).faultInfo = 0xFF := by decide +kernel
theorem test_pocket_err_clear : let v : W64 := BitVec.ofNat 64 (1 <<< 15)
    let s := st (dev0.modTile 0 (fun x => { x with pocketErr := BitVec.ofNat 64 (1 <<< 20 + 0x8003) }))
    bitOf v 15 = true ∧ fld (t0 (after (.registerWrite (.pocketErr 0) v) s)).pocketErr 0 16 = 0 ∧
      fld (t0 (after (.registerWrite (.pocketErr 0) 0x8001) s)).pocketErr 0 16 = 0 ∧
      fld (t0 (after (.registerWrite (.pocketErr 0) 1) s)).pocketErr 0 16 = 0x8002 ∧
      (p0 (after (.registerWrite (.busMaster 0) 1) s)).busMaster = true := by decide +kernel
theorem test_mailbox_control : let v : W64 := BitVec.ofNat 64 (3 <<< 5)
    bitOf v 0 = false ∧ bitOf v 4 = false ∧ fld ((after (.registerWrite (.mbxCtrl .pf0) v) (st dev0)).dev.mbxOf .pf0) 5 8 = 3 := by
  decide +kernel

/-! ### Dictionary requests -/

def asking : State := owned dev0 0 []
theorem test_dictionary_read : let s := { asking with dev := { asking.dev with dict := alSet asking.dev.dict (0x5300, 1, 0) 4096 } }
    s.dev.agent .pf0 0x5300 1 false = true ∧ (s.dev.session .pf0).staged = [] ∧
      ((after (.read .pf0 9 0x5300 1) s).dev.session .pf0).resp.value = leBytes 4 4096 := by decide +kernel
theorem test_dictionary_write_clamps : let s := asking
    s.dev.agent .pf0 0x5300 1 true = true ∧
      (after (.write .pf0 9 0x5300 1 (leBytes 4 16)) s).dev.cfg 0x5300 1 0 = 16 ∧
      (after (.write .pf0 9 0x5300 1 (leBytes 4 1048577)) s).dev.cfg 0x5300 1 0 = 1048576 ∧
      (after (.write .pf0 9 0x5300 1 (leBytes 4 1048577)) s).dev.clampLog.length = 1 := by decide +kernel
theorem test_dictionary_describe :
    ((after (.describe .pf0 9 0x5300 1) asking).dev.session .pf0).resp.value.length = 28 := by decide +kernel
theorem test_dictionary_segments : let s := asking
    s.dev.agent .pf0 0x5400 0x0A false = true ∧ (s.dev.session .pf0).stagedBlob = [] ∧ s.dev.agent .pf0 0x5400 0x0A true = true ∧
      ((after (.readSeg .pf0 9 0x5400 0x0A 0) { s with dev := { s.dev with retiredTiles := [3, 258] } }).dev.session .pf0).resp.value
        = [3, 0, 2, 1] := by decide +kernel
theorem test_dictionary_segment_write : let u := after (.writeSeg .pf0 9 0x5400 0x0A 0 [3, 0] false) asking
    alGet (u.dev.session .pf0).segs (0x5400, 0x0A) = some ([3, 0], 0) ∧ u.dev.answered .pf0 = 0 := by decide +kernel
def staging : State := owned dev0 winIdx [(1, 0)]
theorem test_dictionary_abandon : let u := after (.abandon .pf0 9 (BitVec.ofNat 16 winIdx)) staging
    staging.dev.asks .pf0 = true ∧ (u.dev.session .pf0).staged = [] ∧ u.dev.answered .pf0 = 0 := by decide +kernel
theorem test_stage_expiry :
    let x := { staging.dev.session .pf0 with stagedAt := [(winIdx, 0)] }
    let s := st { staging.dev with sessions := [(.pf0, x)], devTime := BitVec.ofNat 64 stageLife }
    (s.dev.session .pf0).open_ = true ∧ alGet (s.dev.session .pf0).stagedAt winIdx = some 0 ∧ stageLife ≤ (s.dev.devTime - 0).toNat ∧
      ((after (.stageExpiry .pf0 (BitVec.ofNat 16 winIdx)) s).dev.session .pf0).staged = [] := by decide +kernel
theorem test_session_end : ((after (.sessionEnd .pf0) staging).dev.session .pf0).open_ = false := by decide +kernel
theorem test_session_timeout :
    let s := st { dev0 with sessions := [(.i3c 0, Session.fresh true 0)], devTime := 60000000000 }
    sesMgmt (.i3c 0) = true ∧ (s.dev.session (.i3c 0)).open_ = true ∧ 60000000000 ≤ s.dev.since (s.dev.session (.i3c 0)).lastMsg ∧
      ((after (.sessionTimeout (.i3c 0)) s).dev.session (.i3c 0)).open_ = false := by decide +kernel

/-! ### Management paths -/

theorem test_i3c_address : let s := st { dev0 with i3cDyn := none, rst := { dev0.rst with mgmtAddr := 2 } }
    s.dev.live = true ∧ (after (.i3cEntdaa 0x11) s).dev.i3cDyn = some 0x11 ∧ (after (.i3cSetdasa 0x32 0x12) s).dev.i3cDyn = some 0x12 := by
  decide +kernel
theorem test_i3c_bus_reset : let s := st { dev0 with sessions := [(.i3c 4, Session.fresh true 0)] }
    (s.dev.session (.i3c 4)).open_ = true ∧ ((after .i3cBusReset s).dev.session (.i3c 4)).open_ = false := by decide +kernel
def updating (f : Fw → Fw) : State := { asking with dev := { asking.dev with fw := f asking.dev.fw } }
theorem test_mctp_request : let s := updating (fun f => { f with requests := [[1, 2], [3]] })
    s.dev.asks .pf0 = true ∧ ((after (.mctpMsg .pf0 []) s).dev.session .pf0).resp.value = [1, 2] ∧
      (after (.mctpMsg .pf0 []) s).dev.fw.requests = [[3]] := by decide +kernel
theorem test_pldm_request_update : let s := updating (fun f => { f with pldm := 0 })
    sesPart .pf0 = none ∧ s.dev.ownerSes .pf0 = true ∧ (after (.requestUpdate .pf0) s).dev.fw.pldm = 1 ∧
      (after (.requestUpdate .pf0) s).dev.fw.agent = some .pf0 := by decide +kernel
theorem test_pldm_components : let s := updating (fun f => { f with pldm := 1, agent := some .pf0 })
    (after (.passComponentTable .pf0 [1, 2]) s).dev.fw.pldm = 2 ∧
      (after (.updateComponent .pf0 1 4) (after (.passComponentTable .pf0 [1, 2]) s)).dev.fw.pldm = 3 := by decide +kernel
theorem test_pldm_data : let s := updating (fun f => { f with pldm := 3, agent := some .pf0, comp := 1, size := 4, image := [9] })
    (after (.firmwareData .pf0 [8, 7]) s).dev.fw.image = [9, 8, 7] ∧ (after (.cancelUpdateComponent .pf0) s).dev.fw.pldm = 2 ∧
      (after (.cancelUpdate .pf0) s).dev.fw.agent = none := by decide +kernel
theorem test_pldm_activate : let s := updating (fun f => { f with pldm := 2, agent := some .pf0, verified := true, bankA := 0, running := 0 })
    (after (.activateFirmware .pf0) s).dev.fw.bankA = s.dev.fw.spare ∧ (after (.activateFirmware .pf0) s).dev.fw.pldm = 0 := by decide +kernel
def spdmState (n : Fin 4) (sec : Fin 3) : State := st { dev0 with rst := { dev0.rst with state := 7 }, spdm := [(.i3c 0, { Spdm.reset with st := n, secured := sec })] }
def spdm0 (s : State) : Spdm := s.dev.spdmOf (.i3c 0)
theorem test_spdm_connection :
    (spdmState 0 0).dev.spdmAt (.i3c 0) Spdm.reset = true ∧ (spdm0 (after (.spdmGetVersion (.i3c 0)) (spdmState 0 0))).st = 1 ∧
      (spdm0 (after (.spdmGetCapabilities (.i3c 0)) (spdmState 1 0))).st = 2 ∧
      (spdm0 (after (.spdmNegotiateAlgorithms (.i3c 0) true) (spdmState 2 0))).st = 3 ∧
      (spdm0 (after (.spdmChunkSend (.i3c 0) [5] false) (spdmState 2 0))).chunk = [5] := by decide +kernel
theorem test_spdm_session : let s := spdmState 3 1
    (spdm0 s).secured = 1 ∧ (s.dev.session (.i3c 0)).open_ = false ∧ s.dev.mgmtOpen < 8 ∧
      (spdm0 (after (.spdmFinish (.i3c 0) true []) s)).secured = 2 ∧
      ((after (.spdmFinish (.i3c 0) true []) s).dev.session (.i3c 0)).open_ = true := by decide +kernel
theorem test_spdm_secured :
    (spdm0 (after (.spdmHeartbeat (.i3c 0)) (spdmState 3 2))).reply = [0x68] ∧
      (spdm0 (after (.spdmKeyUpdate (.i3c 0)) (spdmState 3 2))).keyGen = (spdm0 (spdmState 3 2)).keyGen + 1 ∧
      (spdm0 (after (.spdmEndSession (.i3c 0)) (spdmState 3 2))).secured = 0 := by decide +kernel

end Sys2Proof.Tests
end

