-- ==== Sys2Proof/Tests/Issue.lean ====
section
/-! SUPPORT. Witnesses of the statement about instructions put into engine queues: one word for each row, on tile 0. -/

namespace Sys2Proof.Tests

set_option Elab.async false

open Sys2Proof.Machine

/-- Tile 0 at PC 0 with an instruction word there, its output tile open, and records: MOVER descriptor at 64, its pattern records at
512 and 544, a conversion record naming mxe4m3 at 608. -/
def issueDev (w : Nat) : State :=
  atWord w (fun x => { x with
    mm := { x.mm with issueOpen := true, issueLoaded := true, issueFA := 1, issueFB := 1 },
    pocket := ((((x.pocket.putWord 64 16 (16 <<< 203 % 2 ^ 128)).putWord 80 16 (16 <<< 75)).putWord 96 16 (17 <<< 75)).putWord 512 16
      (64 <<< 8 + 1 <<< 32 + 1 <<< 48 + 1 <<< 64)).putWord 544 16 (64 <<< 8 + 1 <<< 32 + 1 <<< 48 + 1 <<< 64) |>.putWord 608 1 5 })

/-- An instruction with its row and the index of its row in `queuedRows`. -/
def issueCases : List (Nat × Nat) :=
  [(0, ins 1 0 (8 <<< 53)), (1, ins 1 1 (8 <<< 53)), (2, ins 4 0 (8 <<< 53)), (3, ins 4 1 (47 <<< 32)),
   (5, ins 2 1 (16 <<< 106)), (6, ins 2 2 0), (7, ins 2 3 0),
   (8, ins 3 0 0), (9, ins 3 1 0), (10, ins 3 2 0), (11, ins 3 3 0), (12, ins 3 4 0), (13, ins 3 5 0), (14, ins 3 6 0), (15, ins 3 8 (5 <<< 116)),
   (16, ins 3 9 (5 <<< 116)), (17, ins 3 0xA 0), (18, ins 3 0xC (256 <<< 53)), (19, ins 3 0xD (608 <<< 53)),
   (20, ins 3 0xE (256 <<< 53 + 4 <<< 116)), (21, ins 3 0x10 (256 <<< 53 + 64 <<< 116)), (22, ins 3 0x11 (1 <<< 116)),
   (23, ins 5 0 (64 <<< 34)), (24, ins 5 1 0), (25, ins 5 2 (3 <<< 32)),
   (26, ins 6 1 0), (27, ins 6 2 0), (28, ins 6 3 (1 <<< 66)), (29, ins 6 4 0), (30, ins 6 5 0), (31, ins 6 6 (47 <<< 34)), (32, ins 6 8 0),
   (33, ins 6 9 (3 <<< 69)), (34, ins 6 0xA (1 <<< 66)), (35, ins 7 0 (1 <<< 32))]

def issueReady (row : (TileNo → Phase → Instr) × TOp) (s : State) : Bool :=
  let x := t0 s
  match queueFor x.wordAt with
  | none => false
  | some e =>
    let r := s.dev.readRecs 0 row.2 x.wordAt 4 []
    s.dev.fetches 0 row.2 && decide ((x.queues[e.idx]).length < 32) && r.2.1.isNone && !x.bldPending (issueRegs row.2 x.wordAt r.1)
      && (s.dev.issueFaults 0 row.2 x.wordAt r.1 true).isEmpty

/-- The row is issued: its queue has its word, and PC is the next word's. -/
def issued (row : (TileNo → Phase → Instr) × TOp) (s : State) : Bool :=
  let y := t0 (after (row.1 0 .issue) s)
  y.pc = 16 && (y.queues.toList.flatten.map (·.word)) = [(t0 s).wordAt]

theorem test_issue_rows : issueCases.length = 35 ∧ (issueCases.all (fun q => match queuedRows[q.1]? with
    | some row => issueReady row (issueDev q.2) && issued row (issueDev q.2)
    | none => false)) = true := by decide +kernel

/-- MM.OPEN of M = 1, N = 128, FA = FB = BF16, with no tile open; and M = 129 faults with MM_SHAPE. -/
def openDev (m : Nat) : State := atWord (ins 2 0 (m <<< 32 + 128 <<< 48 + 1 <<< 64 + 1 <<< 69 + 8 <<< 79)) id
theorem test_issue_mm_open : issueReady (.mmOpen, .mmOpen) (openDev 1) = true ∧ issued (.mmOpen, .mmOpen) (openDev 1) = true ∧
    (t0 (after (.mmOpen 0 .issue) (openDev 1))).mm.issueOpen = true ∧
    fld (t0 (after (.mmOpen 0 .issue) (openDev 129))).faultInfo 0 8 = fcMmShape := by decide +kernel

/-- What `issueReady` checks are the hypotheses of the statement. -/
theorem test_issue_hypotheses (row : (TileNo → Phase → Instr) × TOp) (s : State) (h : issueReady row s = true) :
    ∃ (e : Eng) (recs : List W256), let x := s.dev.tiles[(0 : TileNo)]; let w := x.wordAt
      s.dev.fetches 0 row.2 = true ∧ queueFor w = some e ∧ (x.queues[e.idx]).length < 32 ∧
      s.dev.readRecs 0 row.2 w 4 [] = (recs, none, s.dev) ∧ x.bldPending (issueRegs row.2 w recs) = false ∧
      s.dev.issueFaults 0 row.2 w recs true = [] := by
  unfold issueReady at h
  simp only [t0] at h
  split at h
  · cases h
  · rename_i e he
    simp only [Bool.and_eq_true, Bool.not_eq_true', Option.isNone_iff_eq_none, List.isEmpty_iff] at h
    obtain ⟨⟨⟨⟨hf, hl⟩, hn⟩, hb⟩, hi⟩ := h
    have hc := ((fetches_iff _ _ _).mp hf).2.2.2.2.1
    refine ⟨e, _, hf, he, of_decide_eq_true hl, ?_, hb, hi⟩
    have hd := readRecs_clean s.dev 0 row.2 (s.dev.tiles[(0 : TileNo)]).wordAt 4 [] hc
    exact Prod.ext rfl (Prod.ext hn hd)

end Sys2Proof.Tests
end

/-! Token counters (R94 to R98): what a wait consumes, and how a tile stands once an increment has overflowed. -/

namespace Sys2Proof.Machine

/-! ### The record of a fault -/

/-- A first record's code lies in bits 7:0 and its VALID in bit 11 (Table 4.16): the fields below and above stay out of them. -/
theorem faultWord_code_valid (code unit pcq ctx detail : Nat) (hc : code < 256) (hu : unit < 8) :
    fld (faultWord code unit pcq ctx detail) 0 8 = code ∧ bitOf (faultWord code unit pcq ctx detail) 11 = true := by
  constructor
  · simp only [fld, faultWord, BitVec.toNat_ofNat, Nat.shiftLeft_eq, Nat.shiftRight_zero]
    omega
  · simp only [bitOf, faultWord, BitVec.getLsbD_ofNat, Nat.shiftLeft_eq, Nat.testBit_eq_decide_div_mod_eq,
      Bool.and_eq_true, decide_eq_true_eq]
    omega

/-- Counting in MORE, bits 39:37, leaves the code and VALID as they are (R115). -/
theorem satFld_more_code_valid (w : W64) (n : Nat) :
    fld (satFld w 37 3 n) 0 8 = fld w 0 8 ∧ bitOf (satFld w 37 3 n) 11 = bitOf w 11 := by
  have hw := w.isLt
  constructor
  · simp only [fld, satFld, setFld, BitVec.toNat_ofNat, Nat.shiftLeft_eq, Nat.shiftRight_eq_div_pow]
    omega
  · simp only [bitOf, satFld, setFld, fld, BitVec.getLsbD, BitVec.toNat_ofNat, Nat.shiftLeft_eq, Nat.shiftRight_eq_div_pow,
      Nat.testBit_eq_decide_div_mod_eq, decide_eq_decide]
    omega

/-- The tile has stopped and its record holds TOKEN_OVF (R98, R115). -/
def Tile.showsTokenOvf (x : Tile) : Prop :=
  x.mode = .faulted ∧ fld x.faultInfo 0 8 = fcTokenOvf ∧ bitOf x.faultInfo 11 = true

/-- A kernel runs on the tile and no fault is recorded: the next fault is its first. -/
def Tile.mayRecord (x : Tile) : Prop := x.ctx.isSome = true ∧ x.mode ≠ .faulted ∧ bitOf x.faultInfo 11 = false

/-- A further fault of any code leaves TOKEN_OVF recorded (R115: it counts in MORE). -/
theorem faultTile_keeps_tokenOvf (d : Device) (t : TileNo) (code unit pcq detail : Nat) (h : (d.tiles[t]).showsTokenOvf) :
    ((d.faultTile t code unit pcq detail).tiles[t]).showsTokenOvf := by
  obtain ⟨hm, hc, hv⟩ := h
  unfold Device.faultTile
  cases hx : (d.tiles[t]).ctx with
  | none =>
    simp only [hx]
    exact ⟨hm, hc, hv⟩
  | some c =>
    simp only [hx, hm, hv, if_true]
    rw [modTile_get]
    obtain ⟨hcode, hvalid⟩ := satFld_more_code_valid (d.tiles[t]).faultInfo 1
    exact ⟨hm, hcode.trans hc, hvalid.trans hv⟩

/-! ### Increments -/

/-- An increment above 255 of a tile without a recorded fault stops it with TOKEN_OVF (R98). -/
theorem addTok_overflow_shows (d : Device) (t : TileNo) (k : Fin 8) (n unit pcq : Nat) (h : (d.tiles[t]).mayRecord)
    (hu : unit < 8) (ho : 255 < ((d.tiles[t]).tok[k]).toNat + n) :
    ((d.addTok t k n unit pcq).tiles[t]).showsTokenOvf := by
  obtain ⟨hx, hm, hv⟩ := h
  obtain ⟨c, hc⟩ := Option.isSome_iff_exists.mp hx
  rw [addTok_overflow _ _ _ _ _ _ ho, faultTile_first _ _ c _ _ _ _ hc hv hm, (askTeardown_frame _ _ _).1, modTile_get]
  exact ⟨rfl, faultWord_code_valid fcTokenOvf unit pcq c.val k (by decide) hu⟩

/-- Whatever an increment does, TOKEN_OVF stays recorded. -/
theorem addTok_keeps_tokenOvf (d : Device) (t : TileNo) (k : Fin 8) (n unit pcq : Nat) (h : (d.tiles[t]).showsTokenOvf) :
    ((d.addTok t k n unit pcq).tiles[t]).showsTokenOvf := by
  by_cases ho : 255 < ((d.tiles[t]).tok[k]).toNat + n
  · rw [addTok_overflow _ _ _ _ _ _ ho]
    exact faultTile_keeps_tokenOvf d t _ _ _ _ h
  · rw [addTok_ok _ _ _ _ _ _ (Nat.le_of_not_lt ho), modTile_get]
    exact h

/-- So does the signal of an instruction of the controller (R96). -/
theorem signalSeq_keeps_tokenOvf (d : Device) (t : TileNo) (w : W128) (pcq : Nat) (h : (d.tiles[t]).showsTokenOvf) :
    ((d.signalSeq t w pcq).tiles[t]).showsTokenOvf := by
  unfold Device.signalSeq
  split
  · exact addTok_keeps_tokenOvf d t _ _ _ _ h
  · exact h

/-- A tile whose next increment of the counter overflows, and would be its first fault (R98). -/
def Tile.tokFull (x : Tile) (k : Fin 8) : Prop := x.mayRecord ∧ (x.tok[k]).toNat = 255

/-- An edit of the tile that leaves a full counter full. -/
theorem modTile_tokFull (d : Device) (t : TileNo) (f : Tile → Tile) (k : Fin 8) (hf : ∀ x : Tile, x.tokFull k → (f x).tokFull k)
    (h : (d.tiles[t]).tokFull k) : ((d.modTile t f).tiles[t]).tokFull k := by
  rw [modTile_get]
  exact hf _ h

/-- One token for a full counter stops the tile with TOKEN_OVF (R98). -/
theorem addTok_full_shows (d : Device) (t : TileNo) (k : Fin 8) (unit pcq : Nat) (h : (d.tiles[t]).tokFull k) (hu : unit < 8) :
    ((d.addTok t k 1 unit pcq).tiles[t]).showsTokenOvf :=
  addTok_overflow_shows d t k 1 unit pcq h.1 hu (by rw [h.2]; decide)

/-- So does the signal of an instruction of the controller (R96). -/
theorem signalSeq_full_shows (d : Device) (t : TileNo) (w : W128) (pcq : Nat) (hs : wSen w = true)
    (h : (d.tiles[t]).tokFull (wStok w)) : ((d.signalSeq t w pcq).tiles[t]).showsTokenOvf := by
  unfold Device.signalSeq
  rw [if_pos hs]
  exact addTok_full_shows d t _ 0 pcq h (by decide)

/-- And that of an engine's instruction (R96). -/
theorem signal4_full_shows (d : Device) (t : TileNo) (e : Eng) (f : Flight) (hs : wSen f.e.word = true)
    (h : (d.tiles[t]).tokFull (wStok f.e.word)) : ((d.signal4 t e f).tiles[t]).showsTokenOvf := by
  unfold Device.signal4
  rw [if_pos hs]
  exact addTok_full_shows d t _ _ _ h (by unfold unitOf; omega)

/-! ### Waits -/

/-- A wait clause that holds takes exactly its count, which the counter held (R95, R98). -/
theorem consume_tok_add (x : Tile) (w : W128) (h : x.waits w = false) :
    ((x.consume w).tok[wWtok w]).toNat + wWcnt w = (x.tok[wWtok w]).toNat := by
  have hheld : wWcnt w ≤ (x.tok[wWtok w]).toNat := by
    simp only [Tile.waits, Bool.and_eq_false_iff, decide_eq_false_iff_not, not_not, Nat.not_lt] at h
    omega
  have hbyte := (x.tok[wWtok w]).isLt
  have hleft : ((x.consume w).tok[wWtok w]).toNat = ((x.tok[wWtok w]).toNat - wWcnt w) % 2 ^ 8 := by
    simp only [Tile.consume, Fin.getElem_fin, Vector.getElem_set_self, BitVec.toNat_ofNat]
  omega

/-- The other counters stay as they are. -/
theorem consume_tok_ne (x : Tile) (w : W128) (k : Fin 8) (h : k ≠ wWtok w) : (x.consume w).tok[k] = x.tok[k] :=
  Vector.getElem_set_ne (wWtok w).isLt k.isLt (fun e => h (Fin.ext e.symm))

/-! ### Instructions of the controller -/

/-- A word of class 3 is not SEQ.NOP, nor ST.PUT, MM.DRAIN or MV.LAUNCH, whose completion does more than signal. -/
theorem decodeOp_of_class_three {w : W128} (h : wClass w = 3) :
    decodeOp w ≠ some .nop ∧ decodeOp w ≠ some .put ∧ decodeOp w ≠ some .drain ∧ decodeOp w ≠ some .launch := by
  unfold decodeOp
  rw [h]
  split <;> simp_all

/-- A tile whose controller reaches an instruction, without a recorded fault, records the next one. -/
theorem mayRecord_of_fetches {d : Device} {t : TileNo} {op : TOp} (h : d.fetches t op = true)
    (hv : bitOf (d.tiles[t]).faultInfo 11 = false) : (d.tiles[t]).mayRecord := by
  obtain ⟨-, hm, hc, -⟩ := (fetches_iff d t op).mp h
  exact ⟨hc, by rw [hm]; decide, hv⟩

/-- SEQ.NOP names no bound register. -/
theorem issueRegs_nop (w : W128) (recs : List W256) (h : decodeOp w = some .nop) : issueRegs .nop w recs = [] := by
  have hclass : wClass w ≠ 3 := fun h3 => (decodeOp_of_class_three h3).1 h
  simp only [issueRegs, hclass, if_false]

/-- SEQ.NOP moves PC and then signals, whether or not its counter has room (R96, R99). -/
theorem seqRun_nop (d : Device) (t : TileNo) (h : d.fetches t .nop = true) (hw : (d.tiles[t]).waits (d.tiles[t]).wordAt = false) :
    d.seqRun t .nop (fun _ _ => []) seqNopAct =
      (d.modTile t (fun x => (x.consume (d.tiles[t]).wordAt).nextPc)).signalSeq t (d.tiles[t]).wordAt ((d.tiles[t]).pc / 16) := by
  obtain ⟨-, -, -, -, -, hop⟩ := (fetches_iff _ _ _).mp h
  unfold Device.seqRun
  simp only [fetch_of_fetches _ _ _ h, hw, issueRegs_nop _ _ hop, Tile.bldPending, List.any_nil, Bool.or_self, lowest, List.foldl_nil,
    Bool.false_eq_true, if_false, seqNopAct]

/-- SEQ.TOKADD moves PC, adds N and signals, in this order (R99). -/
theorem seqTokadd_of_fetches (d : Device) (t : TileNo) (h : d.fetches t .tokadd = true)
    (hw : (d.tiles[t]).waits (d.tiles[t]).wordAt = false) :
    d.seqTokadd t =
      ((d.modTile t (fun x => (x.consume (d.tiles[t]).wordAt).nextPc)).addTok t (fin (fld (d.tiles[t]).wordAt 32 3))
        (fld (d.tiles[t]).wordAt 35 8) 0 ((d.tiles[t]).pc / 16)).signalSeq t (d.tiles[t]).wordAt ((d.tiles[t]).pc / 16) := by
  unfold Device.seqTokadd
  simp only [fetch_of_fetches _ _ _ h, hw, Bool.false_eq_true, if_false]

/-- A SEQ.NOP whose signal meets a counter left at 255 by its wait overflows it (R95, R96, R98). -/
theorem seqRun_nop_overflow (d : Device) (t : TileNo) (hv : bitOf (d.tiles[t]).faultInfo 11 = false)
    (h : d.fetches t .nop = true) (hw : (d.tiles[t]).waits (d.tiles[t]).wordAt = false) (hs : wSen (d.tiles[t]).wordAt = true)
    (hk : (((d.tiles[t]).consume (d.tiles[t]).wordAt).tok[wStok (d.tiles[t]).wordAt]).toNat = 255) :
    ((d.seqRun t .nop (fun _ _ => []) seqNopAct).tiles[t]).showsTokenOvf := by
  rw [seqRun_nop d t h hw]
  refine signalSeq_full_shows _ t _ _ hs ?_
  rw [modTile_get]
  exact ⟨mayRecord_of_fetches h hv, hk⟩

/-- A SEQ.TOKADD past 255 overflows its counter; its own signal, given afterwards, leaves the fault recorded (R98, R99). -/
theorem seqTokadd_overflow (d : Device) (t : TileNo) (hv : bitOf (d.tiles[t]).faultInfo 11 = false)
    (h : d.fetches t .tokadd = true) (hw : (d.tiles[t]).waits (d.tiles[t]).wordAt = false)
    (ho : 255 < (((d.tiles[t]).consume (d.tiles[t]).wordAt).tok[(fin (fld (d.tiles[t]).wordAt 32 3) : Fin 8)]).toNat +
      fld (d.tiles[t]).wordAt 35 8) : ((d.seqTokadd t).tiles[t]).showsTokenOvf := by
  rw [seqTokadd_of_fetches d t h hw]
  refine signalSeq_keeps_tokenOvf _ t _ _ (addTok_overflow_shows _ t _ _ 0 _ ?_ (by decide) ?_)
  · rw [modTile_get]
    exact mayRecord_of_fetches h hv
  · rw [modTile_get]
    exact ho

/-! ### Completions -/

/-- What `engineOn` says (R115). -/
theorem engineOn_iff (x : Tile) : x.engineOn = true ↔ x.ctx.isSome = true ∧ x.mode ≠ .faulted := by
  simp only [Tile.engineOn, Bool.and_eq_true, decide_eq_true_eq]

/-- The tile once the k-th started instruction of an engine has left it (R96). -/
def Tile.left (x : Tile) (e : Eng) (k : Nat) (now : W64) : Tile :=
  { x with flight := x.flight.set e.idx ((x.flight[e.idx]).eraseIdx k), engineSince := x.engineSince.set e.idx now, lastActive := now }

/-- A VX instruction that has not signalled leaves its engine and signals (R96). -/
theorem complete_of_class_three (d : Device) (t : TileNo) (e : Eng) (k : Nat) (f : Flight)
    (hf : ((d.tiles[t]).flight[e.idx])[k]? = some f) (hp : f.performed = true) (ha : f.awaits = 0) (h3 : wClass f.e.word = 3)
    (hs : f.signalled = false) : d.complete t e k = (d.modTile t (fun x => x.left e k d.devTime)).signal4 t e f := by
  obtain ⟨-, hput, hdrain, hlaunch⟩ := decodeOp_of_class_three h3
  unfold Device.complete
  simp only [hf, hp, ha, hs, hput, hdrain, hlaunch, BEq.rfl, Bool.and_self, decide_false, Bool.false_and, Bool.or_self,
    Bool.false_eq_true, if_true, if_false, Tile.left]

/-- A VX instruction whose signal meets a counter at 255 overflows it when it completes (R96, R98). -/
theorem complete_overflow (d : Device) (t : TileNo) (e : Eng) (k : Nat) (f : Flight)
    (hf : ((d.tiles[t]).flight[e.idx])[k]? = some f) (hp : f.performed = true) (ha : f.awaits = 0) (h3 : wClass f.e.word = 3)
    (hs : f.signalled = false) (hsen : wSen f.e.word = true) (h : (d.tiles[t]).tokFull (wStok f.e.word)) :
    ((d.complete t e k).tiles[t]).showsTokenOvf := by
  rw [complete_of_class_three d t e k f hf hp ha h3 hs]
  exact signal4_full_shows _ t e f hsen (modTile_tokFull d t _ _ (fun _ hx => hx) h)

/-! ### Notifications -/

/-- Counting an event changes no tile (R448). -/
@[simp] theorem count_tiles (d : Device) (p : Option PartNo) (event unit n : Nat) : (d.count p event unit n).tiles = d.tiles := by
  unfold Device.count
  split <;> rfl

/-- Recording a notification in the journal leaves a full counter full (R373). -/
theorem journalNote_tokFull (d : Device) (t : TileNo) (eng : Fin 64) (n : Note) (k : Fin 8) (h : (d.tiles[t]).tokFull k) :
    ((d.journalNote t eng n).tiles[t]).tokFull k :=
  modTile_tokFull d t _ k (fun _ hx => hx) h

/-- A notification of NKIND 0 for a counter at 255 overflows it, with LOCK_ABANDONED or without (R98, R179, R180). -/
theorem applyAtTile_overflow (d : Device) (n : Note) (hc : (d.tiles[n.w.tile]).ctx = some n.w.ctx) (hk : n.w.nkind = 0)
    (h : (d.tiles[n.w.tile]).tokFull n.w.narg) : ((d.applyAtTile n).tiles[n.w.tile]).showsTokenOvf := by
  have hcount : ((d.count (d.tiles[n.w.tile]).bound 0x013 n.w.tile.val 1).tiles[n.w.tile]).tokFull n.w.narg := by
    rw [count_tiles]
    exact h
  unfold Device.applyAtTile
  simp only [hc, hk, ne_eq, not_true_eq_false, if_false, if_true]
  refine addTok_full_shows _ _ _ _ _ ?_ (by decide)
  split
  on_goal 1 => refine modTile_tokFull _ _ _ _ (fun _ hx => hx) ?_
  all_goals
    split
    · exact journalNote_tokFull _ _ _ _ _ hcount
    · exact hcount

/-- A due notification of this chip at the front leaves the list and takes effect (R180). -/
theorem notifyApply_front (d : Device) (t : TileNo) (n : Note) (rest : List Note) (hn : (d.tiles[t]).notes = n :: rest)
    (hd : d.noteDue n = true) (hr : n.w.remote = false) :
    d.notifyApply t = (d.modTile t (fun x => { x with notes := x.notes.eraseIdx 0 })).applyNote n := by
  unfold Device.notifyApply
  simp only [hn, firstIdx, List.findIdx?_cons, hd, if_true, List.getElem?_cons_zero, hr, Bool.false_and, Bool.false_eq_true, if_false]

theorem notifyApply_overflow (d : Device) (t : TileNo) (n : Note) (rest : List Note) (hn : (d.tiles[t]).notes = n :: rest)
    (hd : d.noteDue n = true) (hr : n.w.remote = false) (ht : n.w.tile = t) (hk : n.w.nkind = 0)
    (hc : (d.tiles[t]).ctx = some n.w.ctx) (h : (d.tiles[t]).tokFull n.w.narg) :
    ((d.notifyApply t).tiles[t]).showsTokenOvf := by
  subst ht
  rw [notifyApply_front d _ n rest hn hd hr]
  unfold Device.applyNote
  rw [hk, if_neg (by decide)]
  refine applyAtTile_overflow _ n ?_ hk ?_
  · rw [modTile_get]
    exact hc
  · exact modTile_tokFull d _ _ _ (fun _ hx => hx) h

/-! ### The commands -/

/-- While the islands run, SEQ.NOP edits the part; so do the three other commands below (R396, R457). -/
theorem exec_seqNop (t : TileNo) (s : State) (h : s.dev.live = true) :
    exec (.seqNop t) s = .next { s with dev := s.dev.seqRun t .nop (fun _ _ => []) seqNopAct } := by
  change execSeqNop t s = _
  exact onLive_live _ s h

theorem exec_seqTokadd (t : TileNo) (s : State) (h : s.dev.live = true) :
    exec (.seqTokadd t) s = .next { s with dev := s.dev.seqTokadd t } := by
  change execSeqTokadd t s = _
  exact onLive_live _ s h

theorem exec_notifyApply (t : TileNo) (s : State) (h : s.dev.live = true) :
    exec (.notifyApply t) s = .next { s with dev := s.dev.notifyApply t } := by
  change execNotifyApply t s = _
  exact onLive_live _ s h

theorem exec_instructionComplete (t : TileNo) (e : Eng) (k : Nat) (s : State) (h : s.dev.live = true)
    (hon : (s.dev.tiles[t]).engineOn = true) :
    exec (.instructionComplete t (some e) k false) s = .next { s with dev := s.dev.complete t e k } := by
  change execInstructionComplete t (some e) k false s = _
  refine (onLive_live _ s h).trans ?_
  simp only [hon, Bool.not_true, Bool.false_eq_true, if_false]

/-- Settles O6: every increment past 255 ends in `Tile.showsTokenOvf`, and a wait that holds takes what its counter held. -/
theorem tokenCounters : Obligations.TokenCounters := by
  unfold Obligations.TokenCounters
  intro s t
  refine ⟨fun v hv => ⟨consume_tok_add _ v hv, consume_tok_ne _ v⟩, fun hv hl => ⟨?_, ?_, ?_, ?_⟩⟩
  · intro hf hw hs hk
    exact ⟨_, exec_seqNop t s hl, seqRun_nop_overflow s.dev t hv hf hw hs hk⟩
  · intro hf hw ho
    exact ⟨_, exec_seqTokadd t s hl, seqTokadd_overflow s.dev t hv hf hw ho⟩
  · intro e k f hon hf hp ha h3 hsen hs hk
    have hrec : (s.dev.tiles[t]).mayRecord := by
      obtain ⟨hc, hm⟩ := (engineOn_iff _).mp hon
      exact ⟨hc, hm, hv⟩
    exact ⟨_, exec_instructionComplete t e k s hl hon, complete_overflow s.dev t e k f hf hp ha h3 hs hsen ⟨hrec, hk⟩⟩
  · intro n rest hn hd hr ht hkind hc hm hk
    have hrec : (s.dev.tiles[t]).mayRecord := ⟨by rw [hc]; rfl, hm, hv⟩
    exact ⟨_, exec_notifyApply t s hl, notifyApply_overflow s.dev t n rest hn hd hr ht hkind hc ⟨hrec, hk⟩⟩

end Sys2Proof.Machine

/-! Clasp operations (R172, Table 7.3) on a pocket that is not in canonical form: a byte listed twice is not cleared by one write, so the
clasp does not hold what the operation left. Canonical stores are the invariant of a run (`State.safe`), which O19 does not assume. -/

namespace Sys2Proof.Machine

/-- A store that lists the lowest byte of clasp 0 twice. -/
def claspTwice : Memory := [(claspOff 0, 1), (claspOff 0, 1)]

/-- It is not in canonical form, and writing 0 takes away the first of the two cells only. -/
theorem claspTwice_write_zero :
    claspTwice.wf = false ∧ (claspTwice.write (claspOff 0) (leBytes 8 0)).word (claspOff 0) 8 = 1 := by decide

/-- A started CL.SWAP of VAL 0 into clasp 0 of its own tile, with VSRC 0 (CLASS 6, OP 2; Tables 4.1, 4.12). -/
def swapZero : Flight :=
  { e := { word := 0x26, recs := [], bnd := Vector.replicate 16 0, pcq := 0 },
    performed := false, signalled := false, awaits := 0, sentAt := 0, tag := none, buf := none }

/-- The part after reset, but for tile 0: bound to partition 0, it runs context 0, its load queue has started `swapZero`, and its
pocket is `claspTwice`. -/
def swapState : State :=
  { dev := Device.reset.modTile 0 (fun x =>
      { x with bound := some 0, ctx := some 0, mode := .running, pocket := claspTwice,
               flight := x.flight.set Eng.ld.idx [swapZero] }),
    pending := [] }

/-- The word of clasp 0 of tile 0 after a command. -/
def claspAfter (c : Instr) (s : State) : Option W64 :=
  match exec c s with
  | .next u => some (u.dev.claspWord 0 0)
  | _ => none

theorem claspAfter_of_next {c : Instr} {s u : State} (h : exec c s = .next u) : claspAfter c s = some (u.dev.claspWord 0 0) := by
  simp only [claspAfter, h]

/-- `swapState` meets every hypothesis of the clause on CL atomics. -/
theorem swapState_performs : swapState.dev.clPerforms 0 0 .clSwap .ld swapZero 0 0 0 = true := by decide +kernel

/-- Table 7.3 makes the swapped word 0. -/
theorem swapState_computes_zero :
    (clCompute ((swapState.dev.tiles[(0 : TileNo)]).clArgOf swapZero.e.word clSwapOp 0 0 swapZero.e.pcq)
      (swapState.dev.claspWord 0 0) (bitOf (swapState.dev.tiles[(0 : TileNo)]).claspLocks 0)).word = 0 := by decide +kernel

/-- The clasp reads 1 all the same. -/
theorem swapState_leaves_one : claspAfter (.clSwap 0 (.perform 0)) swapState = some 1 := by decide +kernel

/-- Refutes O19: the clause on CL atomics does not ask for canonical stores. A CL.SWAP of 0 on a clasp whose byte the pocket lists twice
leaves VALUE at 1. -/
theorem not_claspOperations : ¬ Obligations.ClaspOperations := by
  unfold Obligations.ClaspOperations
  rintro ⟨-, hperform, -⟩
  obtain ⟨u, hu, hword, -⟩ := hperform (.clSwap, .clSwap, 2) (.tail _ (.head _)) swapState 0 0 .ld swapZero 0 0 0 swapState_performs
  have hleft : u.dev.claspWord 0 0 = 1 := Option.some.inj ((claspAfter_of_next hu).symm.trans swapState_leaves_one)
  have hzero : u.dev.claspWord 0 0 = 0 := hword.trans swapState_computes_zero
  exact absurd (hleft.symm.trans hzero) (by decide)

end Sys2Proof.Machine

/-! Clocks and power (R404, R405, R409, R410, R412 to R414): what a change of the limits does to the islands, and what leaves them alone. -/

namespace Sys2Proof.Machine

/-! ### Folds over the tiles -/

/-- What the step of `a` establishes and every step keeps holds at the end of a fold that meets `a`. -/
theorem foldl_of_mem {α β : Type} {P : β → Prop} {f : β → α → β} {l : List α} {a : α} (ha : a ∈ l) (b : β)
    (hset : ∀ b, P (f b a)) (hkeep : ∀ b c, P b → P (f b c)) : P (l.foldl f b) := by
  induction l generalizing b with
  | nil => exact absurd ha List.not_mem_nil
  | cons c l ih =>
    rcases List.mem_cons.mp ha with rfl | hl
    · exact List.foldlRecOn l f (hset b) (fun b hb c _ => hkeep b c hb)
    · exact ih hl (f b c)

/-- A relation every step of a fold stands in relates the fold's ends. -/
theorem foldl_related {α β : Type} {R : β → β → Prop} {f : β → α → β} (refl : ∀ b, R b b)
    (trans : ∀ {a b c}, R a b → R b c → R a c) (hstep : ∀ b a, R b (f b a)) (l : List α) (b : β) : R b (l.foldl f b) :=
  List.foldlRecOn l f (refl b) (fun _ hb a _ => trans hb (hstep _ a))

/-! ### What clocks and wake requests may change -/

/-- `e` is `d` but for clocks of tiles, and what the governor holds of wake events (R410). -/
structure Device.Governed (d e : Device) : Prop where
  rst : e.rst = d.rst
  dict : e.dict = d.dict
  powerLimit : e.powerLimit = d.powerLimit
  packageW : e.packageW = d.packageW
  panel : ∀ p : PanelNo, e.panels[p] =
    { d.panels[p] with wakes := (e.panels[p]).wakes, granted := (e.panels[p]).granted, delays := (e.panels[p]).delays }
  tile : ∀ t : TileNo, e.tiles[t] =
    { d.tiles[t] with mhz := (e.tiles[t]).mhz, queued := (e.tiles[t]).queued, askedAt := (e.tiles[t]).askedAt }

/-- `e` is `d` but for clocks of tiles. -/
structure Device.Clocked (d e : Device) : Prop where
  rest : e = { d with tiles := e.tiles }
  tile : ∀ t : TileNo, e.tiles[t] = { d.tiles[t] with mhz := (e.tiles[t]).mhz }

namespace Device.Governed
variable {a b c d e : Device}

theorem refl (d : Device) : d.Governed d := ⟨rfl, rfl, rfl, rfl, fun _ => rfl, fun _ => rfl⟩

theorem trans (h : a.Governed b) (k : b.Governed c) : a.Governed c where
  rst := k.rst.trans h.rst
  dict := k.dict.trans h.dict
  powerLimit := k.powerLimit.trans h.powerLimit
  packageW := k.packageW.trans h.packageW
  panel p := by rw [k.panel p, h.panel p]
  tile t := by rw [k.tile t, h.tile t]

variable (h : d.Governed e)
include h

theorem thermal (p : PanelNo) : (e.panels[p]).thermal = (d.panels[p]).thermal := by rw [h.panel p]
theorem railMv (p : PanelNo) : (e.panels[p]).railMv = (d.panels[p]).railMv := by rw [h.panel p]
theorem heldLevel1 (p : PanelNo) : (e.panels[p]).heldLevel1 = (d.panels[p]).heldLevel1 := by rw [h.panel p]
theorem bound (t : TileNo) : (e.tiles[t]).bound = (d.tiles[t]).bound := by rw [h.tile t]
theorem level (t : TileNo) : (e.tiles[t]).level = (d.tiles[t]).level := by rw [h.tile t]
theorem pocket (t : TileNo) : (e.tiles[t]).pocket = (d.tiles[t]).pocket := by rw [h.tile t]
theorem flight (t : TileNo) : (e.tiles[t]).flight = (d.tiles[t]).flight := by rw [h.tile t]
theorem cfg (base sub item : Nat) : e.cfg base sub item = d.cfg base sub item := by rw [Device.cfg, h.dict, Device.cfg]

/-- Clocks and wake requests are no limit of a clock (R404). -/
theorem target (t : TileNo) : e.target t = d.target t := by
  simp only [Device.target, Device.clockLimits, h.cfg, h.bound, h.railMv, h.thermal, h.rst, h.powerLimit]

end Device.Governed

namespace Device.Clocked
variable {a b c d e : Device}

theorem refl (d : Device) : d.Clocked d := ⟨rfl, fun _ => rfl⟩

theorem trans (h : a.Clocked b) (k : b.Clocked c) : a.Clocked c where
  rest := by rw [k.rest, h.rest]
  tile t := by rw [k.tile t, h.tile t]

theorem governed (h : d.Clocked e) : d.Governed e where
  rst := by rw [h.rest]
  dict := by rw [h.rest]
  powerLimit := by rw [h.rest]
  packageW := by rw [h.rest]
  panel p := by rw [h.rest]
  tile t := by rw [h.tile t]

theorem panels (h : d.Clocked e) : e.panels = d.panels := by rw [h.rest]

end Device.Clocked

/-- Setting the clock of one tile. -/
theorem modTile_clocked (d : Device) (t : TileNo) (g : Tile → Nat) : d.Clocked (d.modTile t (fun x => { x with mhz := g x })) where
  rest := rfl
  tile u := by
    by_cases hu : u = t
    · subst hu; rw [modTile_get]
    · rw [modTile_get_ne _ _ _ _ hu]

/-- A change of what a panel's governor holds of wake events. -/
theorem modPanel_governed (d : Device) (p : PanelNo) (f : Panel → Panel)
    (hf : ∀ q, f q = { q with wakes := (f q).wakes, granted := (f q).granted, delays := (f q).delays }) :
    d.Governed (d.modPanel p f) where
  rst := rfl
  dict := rfl
  powerLimit := rfl
  packageW := rfl
  panel q := by
    by_cases hq : q = p
    · subst hq; rw [modPanel_get]; exact hf _
    · rw [modPanel_get_ne _ _ _ _ hq]
  tile _ := rfl

/-- Marking a tile as waiting for a wake event. -/
theorem modTile_queued_governed (d : Device) (t : TileNo) (now : W64) :
    d.Governed (d.modTile t (fun x => { x with queued := true, askedAt := now })) where
  rst := rfl
  dict := rfl
  powerLimit := rfl
  packageW := rfl
  panel _ := rfl
  tile u := by
    by_cases hu : u = t
    · subst hu; rw [modTile_get]
    · rw [modTile_get_ne _ _ _ _ hu]

/-- Counting an event changes the counter sets alone (R448). -/
theorem count_governed (d : Device) (n : Nat) (p : Option PartNo) (event unit k : Nat) :
    d.Governed (({ d with govDelays := n } : Device).count p event unit k) := by
  cases p <;> exact ⟨rfl, rfl, rfl, rfl, fun _ => rfl, fun _ => rfl⟩

/-! ### Wake requests (R410) -/

/-- The part once tile `t` has joined its panel's queue, the delay of its request uncounted. -/
def Device.joined (d : Device) (t : TileNo) (delays : W32) : Device :=
  (d.modTile t (fun x => { x with queued := true, askedAt := d.devTime })).modPanel (panelOf t)
    (fun q => { q with wakes := (d.modTile t (fun x => { x with queued := true, askedAt := d.devTime })).joinWakes t q.wakes,
                       delays := delays })

theorem joined_governed (d : Device) (t : TileNo) (delays : W32) : d.Governed (d.joined t delays) :=
  (modTile_queued_governed d t d.devTime).trans (modPanel_governed _ _ _ (fun _ => rfl))

/-- All that asking for a rise of the clock can do: nothing where the tile waits already; else it joins its panel's queue, and a
request that has to wait is counted. -/
theorem askWake_rise_cases (d : Device) (t : TileNo) :
    ((d.tiles[t]).queued = true ∧ d.askWake t true = d) ∨
    ∃ delays, d.askWake t true = d.joined t delays ∨
      d.askWake t true = ({ d.joined t delays with govDelays := d.govDelays + 1 } : Device).count (d.tiles[t]).bound 0x050 t.val 1 := by
  by_cases hq : (d.tiles[t]).queued = true
  · left
    refine ⟨hq, ?_⟩
    simp only [Device.askWake, hq, Bool.true_or, if_true]
  · right
    simp only [Device.askWake, Bool.not_eq_true _ ▸ hq, Bool.not_true, Bool.and_false, Bool.or_self, Bool.false_eq_true, if_false]
    split
    · exact ⟨_, .inr rfl⟩
    · exact ⟨_, .inl rfl⟩

theorem askWake_rise_governed (d : Device) (t : TileNo) : d.Governed (d.askWake t true) := by
  rcases askWake_rise_cases d t with ⟨-, h⟩ | ⟨delays, h | h⟩ <;> rw [h]
  · exact .refl d
  · exact joined_governed d t delays
  · exact (joined_governed d t delays).trans (count_governed _ _ _ _ _ _)

theorem joined_tile (d : Device) (t : TileNo) (delays : W32) :
    (d.joined t delays).tiles[t] = { d.tiles[t] with queued := true, askedAt := d.devTime } := by
  simp only [Device.joined, modPanel_tiles, modTile_get]

theorem joined_other (d : Device) (t u : TileNo) (delays : W32) (hu : u ≠ t) : (d.joined t delays).tiles[u] = d.tiles[u] := by
  simp only [Device.joined, modPanel_tiles, modTile_get_ne _ _ _ _ hu]

/-- A tile that has asked waits at the governor, its clock as it was. -/
theorem askWake_rise_own (d : Device) (t : TileNo) :
    ((d.askWake t true).tiles[t]).queued = true ∧ ((d.askWake t true).tiles[t]).mhz = (d.tiles[t]).mhz := by
  rcases askWake_rise_cases d t with ⟨hq, h⟩ | ⟨delays, h | h⟩ <;> rw [h]
  · exact ⟨hq, rfl⟩
  · simp only [joined_tile, and_self]
  · simp only [count_tiles, joined_tile, and_self]

theorem askWake_rise_other (d : Device) (t u : TileNo) (hu : u ≠ t) : (d.askWake t true).tiles[u] = d.tiles[u] := by
  rcases askWake_rise_cases d t with ⟨-, h⟩ | ⟨delays, h | h⟩ <;> rw [h]
  · exact joined_other d t u delays hu
  · rw [count_tiles]
    exact joined_other d t u delays hu

/-! ### Targets (R404) -/

/-- A target is at or below each limit of the clock. -/
theorem target_le {d : Device} {t : TileNo} {g : Nat} (h : g ∈ d.clockLimits t) : d.target t ≤ g :=
  foldl_of_mem (P := (· ≤ g)) h 1800 (fun _ => min_le_right _ _) (fun _ _ hb => (min_le_left _ _).trans hb)

theorem target_le_rail (d : Device) (t : TileNo) : d.target t ≤ railCeiling (d.panels[panelOf t]).railMv :=
  target_le (by simp [Device.clockLimits])

theorem target_le_thermal (d : Device) (t : TileNo) : d.target t ≤ (d.panels[panelOf t]).thermal :=
  target_le (by simp [Device.clockLimits])

/-- Under the brake a target is at or below pwr.brake.floor_mhz (R413). -/
theorem target_le_floor (d : Device) (t : TileNo) (h : d.rst.brake = true) : d.target t ≤ d.cfg 0x2100 2 0 :=
  target_le (by simp [Device.clockLimits, h])

/-! ### Limits that changed (R404) -/

/-- What a change of the limits does to one tile. -/
def Device.reclockTile (d : Device) (t : TileNo) : Device :=
  if (d.tiles[t]).level = 0 ∨ (d.tiles[t]).mhz = d.target t then d
  else if (d.tiles[t]).mhz > d.target t then d.modTile t (fun x => { x with mhz := d.target t })
  else d.askWake t true

theorem reclock_eq (d : Device) : d.reclock = (List.finRange 512).foldl Device.reclockTile d := rfl

/-- A running island is at or below its target, and below it only while its request waits at the governor. -/
def Device.settled (d : Device) (t : TileNo) : Prop :=
  (d.tiles[t]).level ≠ 0 → (d.tiles[t]).mhz ≤ d.target t ∧ ((d.tiles[t]).mhz < d.target t → (d.tiles[t]).queued = true)

theorem reclockTile_governed (d : Device) (t : TileNo) : d.Governed (d.reclockTile t) := by
  unfold Device.reclockTile
  split
  · exact .refl d
  · split
    · exact (modTile_clocked d t _).governed
    · exact askWake_rise_governed d t

theorem reclockTile_other (d : Device) (t u : TileNo) (hu : u ≠ t) : (d.reclockTile t).tiles[u] = d.tiles[u] := by
  unfold Device.reclockTile
  split
  · rfl
  · split
    · exact modTile_get_ne _ _ _ _ hu
    · exact askWake_rise_other d t u hu

theorem reclockTile_settles (d : Device) (t : TileNo) : (d.reclockTile t).settled t := by
  intro hl
  rw [(reclockTile_governed d t).level] at hl
  rw [(reclockTile_governed d t).target]
  unfold Device.reclockTile
  simp only [hl, false_or]
  split_ifs with heq hgt
  · exact ⟨heq.le, fun h => absurd heq h.ne⟩
  · simp only [modTile_get, le_refl, lt_self_iff_false, false_imp_iff, and_self]
  · obtain ⟨hq, hm⟩ := askWake_rise_own d t
    exact ⟨hm.trans_le (not_lt.mp hgt), fun _ => hq⟩

theorem reclockTile_keeps_settled (d : Device) (t u : TileNo) (h : d.settled t) : (d.reclockTile u).settled t := by
  by_cases hu : t = u
  · subst hu
    exact reclockTile_settles d t
  · unfold Device.settled
    rw [reclockTile_other d u t hu, (reclockTile_governed d u).target]
    exact h

/-- A change of the limits changes clocks and wake requests alone. -/
theorem reclock_governed (d : Device) : d.Governed d.reclock := by
  rw [reclock_eq]
  exact foldl_related .refl .trans reclockTile_governed _ d

/-- After a change of the limits every running island is settled. -/
theorem reclock_settled (d : Device) (t : TileNo) : d.reclock.settled t := by
  rw [reclock_eq]
  exact foldl_of_mem (P := fun e => e.settled t) (List.mem_finRange t) d (fun e => reclockTile_settles e t)
    (fun e u => reclockTile_keeps_settled e t u)

/-! ### The brake (R413) -/

/-- The fall of one tile's clock to its target. -/
def Device.slowTile (d : Device) (t : TileNo) : Device := d.modTile t (fun x => { x with mhz := min x.mhz (d.target t) })

/-- The fall of every clock to its target. -/
def Device.slowed (d : Device) : Device := (List.finRange 512).foldl Device.slowTile d

theorem slowTile_clocked (d : Device) (t : TileNo) : d.Clocked (d.slowTile t) := modTile_clocked d t _

theorem slowed_clocked (d : Device) : d.Clocked d.slowed := foldl_related .refl .trans slowTile_clocked _ d

theorem slowTile_mhz_le_target (d : Device) (t : TileNo) : ((d.slowTile t).tiles[t]).mhz ≤ (d.slowTile t).target t := by
  rw [(slowTile_clocked d t).governed.target, Device.slowTile, modTile_get]
  exact min_le_right _ _

theorem slowTile_keeps_mhz_le_target (d : Device) (t u : TileNo) (h : (d.tiles[t]).mhz ≤ d.target t) :
    ((d.slowTile u).tiles[t]).mhz ≤ (d.slowTile u).target t := by
  by_cases hu : t = u
  · subst hu
    exact slowTile_mhz_le_target d t
  · rw [(slowTile_clocked d u).governed.target, Device.slowTile, modTile_get_ne _ _ _ _ hu]
    exact h

theorem slowed_mhz_le_target (d : Device) (t : TileNo) : (d.slowed.tiles[t]).mhz ≤ d.slowed.target t :=
  foldl_of_mem (P := fun e : Device => (e.tiles[t]).mhz ≤ e.target t) (List.mem_finRange t) d
    (fun e => slowTile_mhz_le_target e t) (fun e u => slowTile_keeps_mhz_le_target e t u)

/-- The part with PWR_BRAKE_N low or high, no clock changed yet. -/
def Device.withBrake (d : Device) (low : Bool) : Device := { d with rst := { d.rst with brake := low } }

/-- The low edge of PWR_BRAKE_N slows every island, where no reset is held and the part is not frozen (R396, R457). -/
theorem exec_pwrBrakeAssert (s : State) (h : s.dev.live = true) :
    exec .pwrBrakeAssert s = .next { s with dev := (s.dev.withBrake true).slowed } := by
  change execPwrBrakeAssert s = _
  refine (onDev_eq _ s).trans ?_
  have hl : (s.dev.withBrake true).live = true := h
  simp only [Device.withBrake] at hl
  simp only [hl, if_true]
  rfl

/-- Its high edge lets every island climb back (R410). -/
theorem exec_pwrBrakeRelease (s : State) (h : s.dev.live = true) :
    exec .pwrBrakeRelease s = .next { s with dev := (s.dev.withBrake false).reclock } := by
  change execPwrBrakeRelease s = _
  refine (onDev_eq _ s).trans ?_
  have hl : (s.dev.withBrake false).live = true := h
  simp only [Device.withBrake] at hl
  simp only [hl, if_true]
  rfl

theorem slowed_brake (d : Device) : (d.withBrake true).slowed.rst.brake = true := by
  rw [(slowed_clocked _).governed.rst]
  rfl

theorem reclock_brake (d : Device) : (d.withBrake false).reclock.rst.brake = false := by
  rw [(reclock_governed _).rst]
  rfl

/-- Under the brake every island runs at or below the floor. -/
theorem withBrake_slowed_mhz_le_floor (d : Device) (t : TileNo) :
    (((d.withBrake true).slowed).tiles[t]).mhz ≤ d.cfg 0x2100 2 0 := by
  have hg : (d.withBrake true).Governed (d.withBrake true).slowed := (slowed_clocked _).governed
  calc (((d.withBrake true).slowed).tiles[t]).mhz
      ≤ (d.withBrake true).slowed.target t := slowed_mhz_le_target _ t
    _ = (d.withBrake true).target t := hg.target t
    _ ≤ (d.withBrake true).cfg 0x2100 2 0 := target_le_floor _ t rfl

/-! ### Wake events (R410) -/

theorem exec_wakeGrant (p : PanelNo) (s : State) (h : s.dev.live = true) :
    exec (.wakeGrant p) s = .next { s with dev := s.dev.wakeGrant p } := by
  change execWakeGrant p s = _
  exact onLive_live _ s h

/-- No wake event is granted under the brake, and the requests stay queued (R413). -/
theorem wakeGrant_braked (d : Device) (p : PanelNo) (h : d.rst.brake = true) : d.wakeGrant p = d := by
  unfold Device.wakeGrant
  split
  · rfl
  · simp only [h, Bool.true_or, if_true]

/-- A panel once its oldest request is granted. -/
def Device.granting (d : Device) (p : PanelNo) (rest : List TileNo) : Device :=
  d.modPanel p (fun q => { q with wakes := rest, granted := q.granted.filter (fun g => d.since g < 4000) ++ [d.devTime] })

theorem granting_governed (d : Device) (p : PanelNo) (rest : List TileNo) : d.Governed (d.granting p rest) :=
  modPanel_governed d p _ (fun _ => rfl)

theorem since_now (d : Device) : d.since d.devTime = 0 := by
  simp only [Device.since, BitVec.sub_self, BitVec.toNat_zero]

theorem granting_grantedNow (d : Device) (p : PanelNo) (rest : List TileNo) :
    (d.granting p rest).grantedNow p = d.grantedNow p + 1 := by
  have hs (g : W64) : (d.granting p rest).since g = d.since g := rfl
  simp only [Device.grantedNow, hs]
  simp only [Device.granting, modPanel_get, List.filter_append, List.filter_filter, Bool.and_self, List.length_append]
  simp [since_now]

/-- A tile whose wake event is granted: it leaves level 0 at its target; else its clock rises by at most 300 MHz; else, unless its
panel is held at level 1, it climbs one level. -/
def Tile.granted (x : Tile) (target : Nat) (held : Bool) : Tile :=
  if x.level = 0 then { x with queued := false, level := 1, mhz := target }
  else if x.mhz < target then { x with queued := false, mhz := min target (x.mhz + 300) }
  else { x with queued := false, level := if held then x.level else fin (min 4 (x.level.val + 1)) }

/-- The part once the oldest request of a panel, that of `t`, is granted, before the tile asks again. -/
def Device.grantedTo (d : Device) (p : PanelNo) (t : TileNo) (rest : List TileNo) : Device :=
  (d.granting p rest).modTile t (fun x =>
    x.granted ((d.granting p rest).target t) (((d.granting p rest).panels[p]).heldLevel1))

/-- A grant without the brake and below 32 in 4 us: the tile takes it, and asks again while below its target. -/
theorem wakeGrant_takes (d : Device) (p : PanelNo) (t : TileNo) (rest : List TileNo) (hw : (d.panels[p]).wakes = t :: rest)
    (hb : d.rst.brake = false) (hn : d.grantedNow p < 32) :
    d.wakeGrant p = if ((d.grantedTo p t rest).tiles[t]).mhz < (d.granting p rest).target t then (d.grantedTo p t rest).askWake t true
      else d.grantedTo p t rest := by
  unfold Device.wakeGrant
  simp only [hw, hb, Bool.false_or, decide_eq_true_eq, ge_iff_le, Nat.not_le.mpr hn, if_false]
  rfl

theorem grantedTo_tile (d : Device) (p : PanelNo) (t : TileNo) (rest : List TileNo) (hl : (d.tiles[t]).level = 0) :
    (d.grantedTo p t rest).tiles[t] = { d.tiles[t] with queued := false, level := 1, mhz := d.target t } := by
  rw [Device.grantedTo, modTile_get, Tile.granted, (granting_governed d p rest).target, (granting_governed d p rest).level, if_pos hl]
  rfl

/-- A tile at level 0 that is granted its wake event has no need to ask again. -/
theorem wakeGrant_stopped (d : Device) (p : PanelNo) (t : TileNo) (rest : List TileNo) (hw : (d.panels[p]).wakes = t :: rest)
    (hb : d.rst.brake = false) (hn : d.grantedNow p < 32) (hl : (d.tiles[t]).level = 0) : d.wakeGrant p = d.grantedTo p t rest := by
  rw [wakeGrant_takes d p t rest hw hb hn, grantedTo_tile d p t rest hl, (granting_governed d p rest).target]
  exact if_neg (lt_irrefl _)

theorem grantedTo_wakes (d : Device) (p : PanelNo) (t : TileNo) (rest : List TileNo) :
    ((d.grantedTo p t rest).panels[p]).wakes = rest := by
  simp only [Device.grantedTo, modTile_panels, Device.granting, modPanel_get]

/-! ### Descents (R409) -/

theorem exec_levelDescend (t : TileNo) (s : State) (h : s.dev.live = true) (hl : 1 < (s.dev.tiles[t]).level.val)
    (ha : 2000 ≤ s.dev.since (s.dev.tiles[t]).lastArray) :
    exec (.levelDescend t) s = .next { s with dev := s.dev.modTile t (fun x =>
      { x with level := fin (x.level.val - 1), lastArray := s.dev.devTime }) } := by
  change execLevelDescend t s = _
  refine (onLive_live _ s h).trans ?_
  simp only [Device.levelDescend, gt_iff_lt, hl, ge_iff_le, ha, and_self, if_true]

theorem exec_levelIdle (t : TileNo) (s : State) (h : s.dev.live = true)
    (he : ∀ e : Fin 4, (s.dev.tiles[t]).queues[e] = [] ∧ (s.dev.tiles[t]).flight[e] = [])
    (ha : 50000 ≤ s.dev.since (s.dev.tiles[t]).lastActive) :
    exec (.levelIdle t) s = .next { s with dev := s.dev.modTile t (fun x => { x with level := 0, mhz := 0 }) } := by
  have hq : (s.dev.tiles[t]).queues.toList.all (·.isEmpty) = true := by
    rw [Vector.all_toList, Vector.all_eq_true]
    exact fun i hi => List.isEmpty_iff.mpr (he ⟨i, hi⟩).1
  have hf : (s.dev.tiles[t]).flight.toList.all (·.isEmpty) = true := by
    rw [Vector.all_toList, Vector.all_eq_true]
    exact fun i hi => List.isEmpty_iff.mpr (he ⟨i, hi⟩).2
  change execLevelIdle t s = _
  refine (onLive_live _ s h).trans ?_
  simp only [Device.levelIdle, hq, hf, ge_iff_le, ha, decide_true, Bool.and_self, if_true]

theorem fin_pred_val {l : Fin 5} (h : 1 < l.val) : (fin (l.val - 1) : Fin 5).val + 1 = l.val := by
  simp only [fin, Fin.ofNat]
  omega

/-! ### Temperature (R414) -/

/-- The part once a sensor of a panel has been read. -/
def Device.sensed (d : Device) (p : PanelNo) (k : Fin 14) (r : W16) : Device :=
  { d with sensors := d.sensors.set (fin (14 * p.val + k.val) : Fin 64) r.toInt }

theorem sensed_mem (p : PanelNo) (k : Fin 14) : (fin (14 * p.val + k.val) : Fin 64) ∈ panelSensors p :=
  List.mem_map.mpr ⟨k.val, List.mem_range.mpr k.isLt, rfl⟩

theorem sensed_read (d : Device) (p : PanelNo) (k : Fin 14) (r : W16) :
    (d.sensed p k r).sensors[(fin (14 * p.val + k.val) : Fin 64)] = r.toInt := by
  simp [Device.sensed]

/-- Every sensor reads as before, or what was just read. -/
theorem sensed_cases (d : Device) (p : PanelNo) (k : Fin 14) (r : W16) (i : Fin 64) :
    (d.sensed p k r).sensors[i] = r.toInt ∨ (d.sensed p k r).sensors[i] = d.sensors[i] := by
  by_cases hi : i = fin (14 * p.val + k.val)
  · left; rw [hi, sensed_read]
  · right
    simp only [Device.sensed, Fin.getElem_fin]
    exact Vector.getElem_set_ne _ _ (fun e => hi (Fin.ext e.symm))

theorem exec_thermalThrottleStep (p : PanelNo) (k : Fin 14) (r : W16) (s : State) (h : s.dev.live = true) :
    exec (.thermalThrottleStep p k r) s = .next { s with dev := s.dev.thermalStep p k r } := by
  change execThermalThrottleStep p k r s = _
  exact onLive_live _ s h

/-- A sensor of the panel reads above therm.throttle_c. -/
def Device.hot (d : Device) (p : PanelNo) : Bool := (panelSensors p).any (fun i => d.sensors[i] > 8 * (d.cfg 0x2200 1 0 : Nat))

/-- Every sensor of the panel reads at least 2 degrees below therm.throttle_c. -/
def Device.cool (d : Device) (p : PanelNo) : Bool := (panelSensors p).all (fun i => d.sensors[i] ≤ 8 * (d.cfg 0x2200 1 0 : Nat) - 16)

theorem hot_eq_false_of_cool {d : Device} {p : PanelNo} (h : d.cool p = true) : d.hot p = false := by
  simp only [Device.cool, List.all_eq_true, decide_eq_true_eq] at h
  simp only [Device.hot, List.any_eq_false, decide_eq_true_eq]
  intro i hi
  have := h i hi
  omega

theorem sensed_hot (d : Device) (p : PanelNo) (k : Fin 14) (r : W16) (hr : 8 * (d.cfg 0x2200 1 0 : Nat) < r.toInt) :
    (d.sensed p k r).hot p = true :=
  List.any_eq_true.mpr ⟨_, sensed_mem p k, by rw [sensed_read]; exact decide_eq_true hr⟩

theorem sensed_cool (d : Device) (p : PanelNo) (k : Fin 14) (r : W16) (hr : r.toInt ≤ 8 * (d.cfg 0x2200 1 0 : Nat) - 16)
    (hs : ∀ i ∈ panelSensors p, d.sensors[i] ≤ 8 * (d.cfg 0x2200 1 0 : Nat) - 16) : (d.sensed p k r).cool p = true := by
  refine List.all_eq_true.mpr (fun i hi => decide_eq_true ?_)
  rcases sensed_cases d p k r i with h | h <;> rw [h]
  · exact hr
  · exact hs i hi

/-- The part once a panel's thermal limit has fallen by 50 MHz, no clock changed yet. -/
def Device.throttled (d : Device) (p : PanelNo) : Device :=
  d.modPanel p (fun q => { q with thermal := q.thermal - 50, lastThermal := d.devTime,
                                  hotAt600 := if q.thermal ≤ 650 then some d.devTime else none })

/-- The part once a panel's thermal limit has risen by 50 MHz, no clock changed yet. -/
def Device.relaxed (d : Device) (p : PanelNo) : Device :=
  d.modPanel p (fun q => { q with thermal := min 1800 (q.thermal + 50), lastThermal := d.devTime, hotAt600 := none,
                                  heldLevel1 := false })

/-- Every 20 us a hot panel's limit falls, down to 600 MHz. -/
theorem thermalStep_falls (d : Device) (p : PanelNo) (k : Fin 14) (r : W16) (hot : (d.sensed p k r).hot p = true)
    (ht : 600 < (d.panels[p]).thermal) (hs : 20000 ≤ d.since (d.panels[p]).lastThermal) :
    d.thermalStep p k r = ((d.sensed p k r).throttled p).reclock := by
  refine if_pos ?_
  change ((d.sensed p k r).hot p && decide (600 < (d.panels[p]).thermal) && decide (20000 ≤ d.since (d.panels[p]).lastThermal)) = true
  simp only [hot, ht, hs, decide_true, Bool.and_self]

/-- Every 200 us a cool panel's limit rises. -/
theorem thermalStep_rises (d : Device) (p : PanelNo) (k : Fin 14) (r : W16) (cool : (d.sensed p k r).cool p = true)
    (hs : 200000 ≤ d.since (d.panels[p]).lastThermal) : d.thermalStep p k r = ((d.sensed p k r).relaxed p).reclock := by
  have hot : (d.sensed p k r).hot p = false := hot_eq_false_of_cool cool
  have hfall : ¬ ((d.sensed p k r).hot p && decide (600 < (d.panels[p]).thermal) &&
      decide (20000 ≤ d.since (d.panels[p]).lastThermal)) = true := by simp [hot]
  have hstay : ¬ ((d.sensed p k r).hot p && decide ((d.panels[p]).thermal ≤ 600)) = true := by simp [hot]
  refine (if_neg hfall).trans ((if_neg hstay).trans (if_pos ?_))
  change ((d.sensed p k r).cool p && decide (200000 ≤ d.since (d.panels[p]).lastThermal)) = true
  simp only [cool, hs, decide_true, Bool.and_self]

theorem throttled_thermal (d : Device) (p : PanelNo) :
    ((d.throttled p).reclock.panels[p]).thermal = (d.panels[p]).thermal - 50 := by
  rw [(reclock_governed _).thermal, Device.throttled, modPanel_get]

theorem relaxed_thermal (d : Device) (p : PanelNo) :
    ((d.relaxed p).reclock.panels[p]).thermal = min 1800 ((d.panels[p]).thermal + 50) := by
  rw [(reclock_governed _).thermal, Device.relaxed, modPanel_get]

theorem relaxed_heldLevel1 (d : Device) (p : PanelNo) : ((d.relaxed p).reclock.panels[p]).heldLevel1 = false := by
  rw [(reclock_governed _).heldLevel1, Device.relaxed, modPanel_get]

/-- A running island is at or below its panel's thermal limit once the limits have been applied. -/
theorem reclock_mhz_le_thermal (d : Device) {t : TileNo} {p : PanelNo} (hp : panelOf t = p) (h : (d.reclock.tiles[t]).level ≠ 0) :
    (d.reclock.tiles[t]).mhz ≤ (d.reclock.panels[p]).thermal :=
  hp ▸ (reclock_settled d t h).1.trans (target_le_thermal _ t)

/-! ### The power limiter (R412) and the rails (R405) -/

theorem exec_powerLimiterStep (w : W16) (s : State) (h : s.dev.live = true) :
    exec (.powerLimiterStep w) s = .next { s with dev := s.dev.limiterStep w } := by
  change execPowerLimiterStep w s = _
  exact onLive_live _ s h

theorem limiterStep_packageW (d : Device) (w : W16) : (d.limiterStep w).packageW = w := (reclock_governed _).packageW

/-- Above pwr.cap_w the limit falls by 50 MHz, down to 600 MHz. -/
theorem limiterStep_falls (d : Device) (w : W16) (h : d.cfg 0x2100 1 0 < w.toNat) :
    (d.limiterStep w).powerLimit = max 600 (d.powerLimit - 50) :=
  (reclock_governed _).powerLimit.trans (if_pos h)

/-- At least 5% below pwr.cap_w the limit rises by 50 MHz, up to 1,800 MHz. -/
theorem limiterStep_rises (d : Device) (w : W16) (h : 100 * w.toNat ≤ 95 * d.cfg 0x2100 1 0) (hc : w.toNat ≤ d.cfg 0x2100 1 0) :
    (d.limiterStep w).powerLimit = min 1800 (d.powerLimit + 50) :=
  (reclock_governed _).powerLimit.trans ((if_neg (not_lt.mpr hc)).trans (if_pos h))

/-- The part once a panel's rail has been measured, no clock changed yet. -/
def Device.measured (d : Device) (p : PanelNo) (mv : W16) : Device := d.modPanel p (fun q => { q with railMv := mv.toNat })

theorem exec_panelRailVoltageChange (p : PanelNo) (mv : W16) (s : State) (h : s.dev.live = true) (hm : 600 ≤ mv.toNat) :
    exec (.panelRailVoltageChange p mv) s = .next { s with dev := (s.dev.measured p mv).reclock } := by
  change execPanelRailVoltageChange p mv s = _
  refine (onLive_live _ s h).trans ?_
  simp only [Nat.not_lt.mpr hm, if_false, Device.measured]

theorem measured_railMv (d : Device) (p : PanelNo) (mv : W16) : ((d.measured p mv).reclock.panels[p]).railMv = mv.toNat := by
  rw [(reclock_governed _).railMv, Device.measured, modPanel_get]

theorem reclock_mhz_le_rail (d : Device) {t : TileNo} {p : PanelNo} (hp : panelOf t = p) (h : (d.reclock.tiles[t]).level ≠ 0) :
    (d.reclock.tiles[t]).mhz ≤ railCeiling (d.reclock.panels[p]).railMv :=
  hp ▸ (reclock_settled d t h).1.trans (target_le_rail _ t)

/-! ### Alarms (R450) -/

theorem mem_set_of_firstIdx {l : List Alarm} {p : Alarm → Bool} {i : Nat} (h : firstIdx p l = some i) (a : Alarm) : a ∈ l.set i a := by
  obtain ⟨hi, -⟩ := List.findIdx?_eq_some_iff_getElem.mp h
  exact List.mem_set hi a

theorem exists_mem_modify_of_firstIdx {l : List Alarm} {p : Alarm → Bool} {i : Nat} {f : Alarm → Alarm} {code : W16}
    (h : firstIdx p l = some i) (hf : ∀ a, p a = true → (f a).code = code) : ∃ a ∈ l.modify i f, a.code = code := by
  obtain ⟨hi, hp, -⟩ := List.findIdx?_eq_some_iff_getElem.mp h
  refine ⟨f l[i], List.mem_iff_getElem.mpr ⟨i, ?_, List.getElem_modify_eq ..⟩, hf _ hp⟩
  rwa [List.length_modify]

/-- An occurrence recorded is in the alarm table. -/
theorem alarmRecord_mem (l : List Alarm) (code source : W16) (now : W64) (data : BitVec 128) :
    ∃ a ∈ alarmRecord l code source now data, a.code = code := by
  unfold alarmRecord
  simp only
  split
  · rename_i i h
    refine exists_mem_modify_of_firstIdx h (fun a ha => ?_)
    simp only [Bool.and_eq_true, decide_eq_true_eq] at ha
    exact ha.1.1
  split
  · rename_i i h
    exact ⟨_, mem_set_of_firstIdx h _, rfl⟩
  split
  · exact ⟨_, List.mem_append_right _ (List.mem_singleton_self _), rfl⟩
  split
  · rename_i i h
    exact ⟨_, mem_set_of_firstIdx h _, rfl⟩
  split
  · rename_i i h
    refine exists_mem_modify_of_firstIdx h (fun a ha => ?_)
    simp only [Bool.and_eq_true, decide_eq_true_eq] at ha
    split
    · exact ha.1
    · rfl
  · exact ⟨_, List.mem_append_right _ (List.mem_singleton_self _), rfl⟩

/-- `e` holds the tiles and the alarms of `d`. -/
def Device.keepsAlarms (d e : Device) : Prop := e.tiles = d.tiles ∧ e.alarms = d.alarms

theorem postEvent_keepsAlarms (d : Device) (f : Fn) (code : W16) (ctx : Option Nat) (payload : BitVec 128) :
    d.keepsAlarms (d.postEvent f code ctx payload) := by
  unfold Device.postEvent Device.keepsAlarms
  cases f <;> simp only [Device.signal, Device.setEvq] <;> split_ifs <;> exact ⟨rfl, rfl⟩

theorem trigOn_keepsAlarms (d : Device) (code : W16) : d.keepsAlarms (d.trigOn code) := by
  unfold Device.trigOn
  split <;> exact ⟨rfl, rfl⟩

theorem traceRec_keepsAlarms (d : Device) (src unit : Nat) (p : Option PartNo) (code : W16) (payload : BitVec 128) :
    d.keepsAlarms (d.traceRec src unit p code payload) := by
  unfold Device.traceRec
  cases p <;> simp only <;> split <;> exact ⟨rfl, rfl⟩

/-- Raising an alarm records it and changes no tile. -/
theorem raiseAlarm_spec (d : Device) (code source : W16) (data : BitVec 128) :
    (d.raiseAlarm code source data).tiles = d.tiles ∧ ∃ a ∈ (d.raiseAlarm code source data).alarms, a.code = code := by
  obtain ⟨htiles, halarms⟩ := postEvent_keepsAlarms
    { d with alarms := alarmRecord d.alarms code source d.devTime data, ibi := d.ibi + 1 } .pf0 code none data
  refine ⟨htiles, ?_⟩
  rw [Device.raiseAlarm, halarms]
  exact alarmRecord_mem ..

/-- THERM_CUFF_HOT is an alarm that names no partition: it is traced and raised, and nothing else happens (Table 19.6). -/
theorem report_cuffHot (d : Device) (src : Nat) (payload : BitVec 128) :
    d.report 0x0107 none none src payload =
      ((d.trigOn 0x0107).traceRec 5 src none 0x0107 payload).raiseAlarm 0x0107 (BitVec.ofNat 16 src) payload := by
  have ha : isAlarm 0x0107 = true := by decide
  have hl : isLogged 0x0107 = false := by decide
  simp only [Device.report, ha, hl, Bool.true_or, if_true, Bool.false_eq_true, if_false]
  rfl

theorem report_cuffHot_spec (d : Device) (src : Nat) (payload : BitVec 128) :
    (d.report 0x0107 none none src payload).tiles = d.tiles ∧
      ∃ a ∈ (d.report 0x0107 none none src payload).alarms, a.code = 0x0107#16 := by
  rw [report_cuffHot]
  obtain ⟨htiles, halarm⟩ := raiseAlarm_spec ((d.trigOn 0x0107).traceRec 5 src none 0x0107 payload) 0x0107 (BitVec.ofNat 16 src) payload
  exact ⟨htiles.trans ((traceRec_keepsAlarms _ _ _ _ _ _).1.trans (trigOn_keepsAlarms _ _).1), halarm⟩

/-- A cuff sensor that is too hot raises THERM_CUFF_HOT and changes no tile (R414). -/
theorem exec_thermCuffHot (k : Fin 8) (s : State) (h : s.dev.live = true) :
    ∃ u, exec (.thermCuffHot k) s = .next u ∧ u.dev.tiles = s.dev.tiles ∧ ∃ a ∈ u.dev.alarms, a.code = 0x0107#16 := by
  change ∃ u, execThermCuffHot k s = .next u ∧ _
  exact ⟨_, onLive_live _ s h, report_cuffHot_spec _ _ _⟩

/-! ### The statement -/

/-- Settles O56: every change of the limits leaves each running island settled (`reclock_settled`) and changes clocks and wake
requests alone (`reclock_governed`). -/
theorem powerResults : Obligations.PowerResults := by
  unfold Obligations.PowerResults
  refine ⟨fun s hl => ⟨?_, fun hb => ⟨?_, ?_, ?_⟩, fun _ => ?_⟩, fun s hl => ⟨?_, ?_, ?_, ?_, ?_, ?_, ?_⟩⟩
  · have hc := slowed_clocked (s.dev.withBrake true)
    refine ⟨_, exec_pwrBrakeAssert s hl, ?_⟩
    dsimp only
    exact ⟨slowed_brake s.dev, hc.panels, fun t => ⟨withBrake_slowed_mhz_le_floor s.dev t, hc.tile t⟩⟩
  · intro p
    rw [exec_wakeGrant p s hl, wakeGrant_braked s.dev p hb]
  · intro t hlev ha
    refine ⟨_, exec_levelDescend t s hl hlev ha, ?_⟩
    rw [modTile_get]
    exact fin_pred_val hlev
  · have hg := reclock_governed (s.dev.withBrake false)
    refine ⟨_, exec_pwrBrakeRelease s hl, ?_⟩
    dsimp only
    exact ⟨reclock_brake s.dev, fun t => ⟨hg.pocket t, hg.flight t, reclock_settled _ t⟩⟩
  · refine ⟨_, exec_pwrBrakeRelease s hl, ?_⟩
    dsimp only
    exact reclock_brake s.dev
  · intro p t rest hw hb hn hlev
    refine ⟨_, exec_wakeGrant p s hl, ?_⟩
    rw [wakeGrant_stopped s.dev p t rest hw hb hn hlev, grantedTo_tile s.dev p t rest hlev]
    exact ⟨rfl, rfl, grantedTo_wakes s.dev p t rest, rfl, granting_grantedNow s.dev p rest⟩
  · exact fun t hlev ha => exec_levelDescend t s hl hlev ha
  · exact fun t he ha => exec_levelIdle t s hl he ha
  · intro p k r q lim
    refine ⟨fun hr ht hs => ?_, fun hr hcool hs => ?_⟩
    · have hthermal := throttled_thermal (s.dev.sensed p k r) p
      refine ⟨_, exec_thermalThrottleStep p k r s hl, ?_⟩
      rw [thermalStep_falls s.dev p k r (sensed_hot s.dev p k r hr) ht hs]
      dsimp only
      exact ⟨hthermal, fun t hp hlev => (reclock_mhz_le_thermal _ hp hlev).trans_eq hthermal⟩
    · refine ⟨_, exec_thermalThrottleStep p k r s hl, ?_⟩
      rw [thermalStep_rises s.dev p k r (sensed_cool s.dev p k r hr hcool) hs]
      exact ⟨relaxed_thermal (s.dev.sensed p k r) p, relaxed_heldLevel1 (s.dev.sensed p k r) p⟩
  · exact fun w => ⟨_, exec_powerLimiterStep w s hl, limiterStep_packageW s.dev w, limiterStep_falls s.dev w, limiterStep_rises s.dev w⟩
  · intro p mv hm
    have hrail := measured_railMv s.dev p mv
    refine ⟨_, exec_panelRailVoltageChange p mv s hl hm, ?_⟩
    dsimp only
    exact ⟨hrail, fun t hp hlev => (reclock_mhz_le_rail _ hp hlev).trans_eq (congrArg railCeiling hrail)⟩
  · exact fun k => exec_thermCuffHot k s hl

end Sys2Proof.Machine

/-! The machine as a whole: what a command answers, a part that stands still, and the state after power-on. -/

namespace Sys2Proof.Machine

/-- A well-formed command answers a next state and leaves the queue. -/
theorem exec_next (c : Instr) (s : State) (hw : c.wf = true) : ∃ t, exec c s = .next t ∧ t.pending = s.pending := by
  cases c
  case linkPacketReceive | routerForward | pktWrite | pktWriteF | pktRead | pktAtomic | pktWatch | pktReadRsp | pktWriteAck |
      pktAtomicRsp | pktNotify | pktCollData | collReady | collCredit | collAbortReceive | pktTime | bar4Read | bar4Write =>
    exact ⟨_, if_pos hw, rfl⟩
  all_goals exact ⟨_, rfl, rfl⟩

/-- The rows of the vector engine, and those of the clasp unit, are commands of the islands. -/
theorem vxRow_dead (t : TileNo) (ph : Phase) (op : TOp) (f : Entry → CtxNo → Device → Except (ASt × Nat) VOut × Device) (s : State)
    (h : s.dev.live = false) : vxRow t ph op f s = .next s := onLive_dead _ s h

theorem clRow_dead (t : TileNo) (ph : Phase) (op : TOp) (code : Nat) (s : State) (h : s.dev.live = false) :
    clRow t ph op code s = .next s := onLive_dead _ s h

/-- While a reset is held or the part is frozen, a command that is not always on changes nothing (R396, R457). -/
theorem exec_dead (c : Instr) (s : State) (hl : s.dev.live = false) (hw : c.wf = true) (ha : alwaysOn c = false) :
    exec c s = .next s := by
  unfold exec
  cases c
  case powerOn | rstNAssert | perstNAssert | perstNDeassert | pcieHotReset | pcieLinkLoss | collarWatchdog | fatalError |
      resetRelease | resetEnd | thermalTrip | thermalTripClear | hostLinkDown | hostLinkUp | pwrBrakeAssert | pwrBrakeRelease |
      rackMarkEdge | rackRefLoss | rackRefReturn | rackMarkTimeout | clkDevtimeRead | freezeNAssert | jtagScan | vfFlr | pf0Flr |
      bar4Read => cases ha
  case linkPacketReceive | routerForward | pktWrite | pktWriteF | pktRead | pktAtomic | pktWatch | pktReadRsp | pktWriteAck |
      pktAtomicRsp | pktNotify | pktCollData | collReady | collCredit | collAbortReceive | pktTime | bar4Write =>
    exact (if_pos hw).trans (onLive_dead _ s hl)
  case vxMov | vxAdd | vxSub | vxMul | vxFma | vxMax | vxMin | vxSfu | vxRed | vxAmax | vxCvt | vxQuant | vxRot | vxTopk |
      vxTopkMerge => exact vxRow_dead _ _ _ _ s hl
  case clAdd | clSwap | clCas | clAnd | clOr | clMax | clRead => exact clRow_dead _ _ _ _ s hl
  all_goals exact onLive_dead _ s hl

/-- An ill-formed command stops. -/
theorem exec_illFormed (c : Instr) (s : State) (hw : c.wf = false) : exec c s = .fault .illFormed := by
  cases c
  case linkPacketReceive | routerForward | pktWrite | pktWriteF | pktRead | pktAtomic | pktWatch | pktReadRsp | pktWriteAck |
      pktAtomicRsp | pktNotify | pktCollData | collReady | collCredit | collAbortReceive | pktTime | bar4Read | bar4Write =>
    exact if_neg (fun h => Bool.noConfusion (h.symm.trans hw))
  all_goals cases hw

/-- Settles O2: each arm of `exec` is an edit of the part, behind the check of its operands where it has one. -/
theorem wellFormedCommandsComplete : Obligations.WellFormedCommandsComplete := by
  unfold Obligations.WellFormedCommandsComplete
  exact fun c s => ⟨exec_next c s, exec_illFormed c s⟩

/-- Then a nanosecond changes time alone. -/
theorem tick_dead (d : Device) (h : d.live = false) :
    tick d = { d with devTime := d.devTime + BitVec.ofNat 64 d.tsync.tick.1, tsync := d.tsync.tick.2 } := by
  simp only [tick, h, Bool.false_eq_true, if_false]

/-- A step runs the front command with the queue's rest; on an empty queue it is a nanosecond of device time. -/
theorem step_cons {c : Instr} {rest : List Instr} {s : State} (h : s.pending = c :: rest) :
    step s = exec c { s with pending := rest } := by simp only [step, h]

theorem step_nil {s : State} (h : s.pending = []) : step s = .next { s with dev := tick s.dev } := by simp only [step, h]

/-- A step of a part that stands still takes a command that changes nothing, or lets time pass. -/
theorem step_standsAs {k : Device} {s t : State} (h : s.standsAs k) (hstep : step s = .next t) : t.standsAs k := by
  obtain ⟨hl, hc, hk⟩ := h
  cases hp : s.pending with
  | nil =>
    rw [step_nil hp] at hstep
    injection hstep with hstep
    subst hstep
    refine ⟨?_, hc, ?_⟩
    · rw [tick_dead _ hl]
      exact hl
    · rw [tick_dead _ hl]
      dsimp only
      rw [hk]
  | cons c rest =>
    rw [hp] at hc
    obtain ⟨hw, ha⟩ := hc c List.mem_cons_self
    rw [step_cons hp, exec_dead c { s with pending := rest } hl hw ha] at hstep
    injection hstep with hstep
    subst hstep
    exact ⟨hl, fun e he => hc e (List.mem_cons_of_mem c he), hk⟩

/-- Settles O55: `exec_dead` for one command, `step_standsAs` for a run. -/
theorem heldOrFrozenPart : Obligations.HeldOrFrozenPart := by
  unfold Obligations.HeldOrFrozenPart
  exact ⟨fun s c => exec_dead c s, fun _ _ _ => step_standsAs⟩

/-- Settles O1: the front command is the one of `step_cons`. -/
theorem stepRunsFrontCommand : Obligations.StepRunsFrontCommand := by
  unfold Obligations.StepRunsFrontCommand
  exact fun _ _ _ => step_cons

/-- Every tile after power-on is `Tile.reset`. -/
theorem reset_tile (t : TileNo) : State.reset.dev.tiles[t] = Tile.reset := by
  simp only [State.reset, Device.reset, Fin.getElem_fin, Vector.getElem_replicate]

/-- Settles O52: every store is empty, every tile `Tile.reset`. -/
theorem resetState : Obligations.ResetState := by
  unfold Obligations.ResetState
  refine ⟨⟨rfl, rfl, rfl, fun t => ?_⟩, rfl, rfl, rfl, rfl, rfl, rfl, fun t => ?_⟩
  · rw [reset_tile]; rfl
  · rw [reset_tile]
    exact ⟨rfl, rfl, rfl, rfl, rfl, rfl, rfl, rfl, rfl, rfl, rfl⟩
end Sys2Proof.Machine

/-! The controller of a tile: SEQ, SY and the dispatch into an engine's queue (R83 to R99, R111, R113). -/

namespace Sys2Proof.Machine

/-! ### Edits of one tile -/

/-- Two edits of a tile are one. -/
@[simp] theorem modTile_modTile (d : Device) (t : TileNo) (f g : Tile → Tile) :
    (d.modTile t f).modTile t g = d.modTile t (fun x => g (f x)) := by
  simp only [Device.modTile, Fin.getElem_fin, Vector.getElem_set_self, Vector.set_set]

/-- An edit of a tile is what it makes of that tile. -/
theorem modTile_congr {d : Device} {t : TileNo} {f g : Tile → Tile} (h : f d.tiles[t] = g d.tiles[t]) :
    d.modTile t f = d.modTile t g := by
  simp only [Device.modTile, h]

/-- An edit that leaves the tile as it is leaves the part. -/
theorem modTile_self {d : Device} {t : TileNo} {f : Tile → Tile} (h : f d.tiles[t] = d.tiles[t]) : d.modTile t f = d := by
  have htiles : d.tiles.set t (f d.tiles[t]) = d.tiles := by
    rw [h]
    exact Vector.set_getElem_self t.isLt
  unfold Device.modTile
  rw [htiles]

/-! ### The signal of the controller (R96, R98) -/

/-- An increment of 1 with room adds 1. -/
theorem addTok_one (d : Device) (t : TileNo) (k : Fin 8) (unit pcq : Nat) (h : ((d.tiles[t]).tok[k]).toNat < 255) :
    d.addTok t k 1 unit pcq = d.modTile t (fun x => { x with tok := x.tok.set k (x.tok[k] + 1) }) := by
  rw [addTok_ok d t k 1 unit pcq (by omega)]
  refine modTile_congr ?_
  have hadd : BitVec.ofNat 8 (((d.tiles[t]).tok[k]).toNat + 1) = (d.tiles[t]).tok[k] + 1 := by
    apply BitVec.eq_of_toNat_eq
    simp only [BitVec.toNat_ofNat, BitVec.toNat_add]
    rfl
  rw [hadd]

/-- A signal with room adds 1 where the word asks for it. -/
theorem signalSeq_room (d : Device) (t : TileNo) (w : W128) (pcq : Nat)
    (h : wSen w = true → ((d.tiles[t]).tok[wStok w]).toNat < 255) :
    d.signalSeq t w pcq =
      d.modTile t (fun x => { x with tok := if wSen w then x.tok.set (wStok w) (x.tok[wStok w] + 1) else x.tok }) := by
  unfold Device.signalSeq
  by_cases hs : wSen w = true
  · simp only [hs, if_true, addTok_one d t _ 0 pcq (h hs)]
  · simp only [hs, Bool.false_eq_true, if_false]
    exact (modTile_self rfl).symm

/-- What `seqReady` says, clause by clause. -/
theorem seqReady_iff (d : Device) (t : TileNo) (op : TOp) :
    d.seqReady t op = true ↔ d.fetches t op = true ∧ (d.tiles[t]).waits (d.tiles[t]).wordAt = false ∧
      (d.tiles[t]).bldPending (issueRegs op (d.tiles[t]).wordAt []) = false ∧ (d.tiles[t]).tokRoom (d.tiles[t]).wordAt = true := by
  simp only [Device.seqReady, Bool.and_eq_true, Bool.not_eq_true', and_assoc]

/-- A signal that has room after the wait clause. -/
theorem room_of_tokRoom {x : Tile} {w : W128} (h : x.tokRoom w = true) (hs : wSen w = true) :
    ((x.consume w).tok[wStok w]).toNat < 255 := by
  simpa only [Tile.tokRoom, hs, Bool.not_true, Bool.false_or, decide_eq_true_eq] using h

/-- An edit of the tile behind its wait clause, followed by the signal of its word, is that edit and the tokens moved. -/
theorem signalSeq_next (d : Device) (t : TileNo) (f g : Tile → Tile) (pcq : Nat)
    (hroom : (d.tiles[t]).tokRoom (d.tiles[t]).wordAt = true)
    (hg : g (d.tiles[t]) = { f (d.tiles[t]) with tok := ((d.tiles[t]).consume (d.tiles[t]).wordAt).tok }) :
    (d.modTile t g).signalSeq t (d.tiles[t]).wordAt pcq =
      d.modTile t (fun x => { f x with tok := x.tokAfter x.wordAt }) := by
  rw [signalSeq_room, modTile_modTile]
  · refine modTile_congr ?_
    rw [hg]
    rfl
  · intro hs
    rw [modTile_get, hg]
    exact room_of_tokRoom hroom hs

/-! ### SEQ (R85, R95, R96, R99) -/

theorem live_of_fetches {d : Device} {t : TileNo} {op : TOp} (h : d.fetches t op = true) : d.live = true :=
  ((fetches_iff d t op).mp h).1

/-- A ready SEQ instruction makes its edit, and the tokens move. -/
theorem onLive_seqRun (s : State) (t : TileNo) (op : TOp) (faults : W128 → Tile → List Nat) (act : W128 → Tile → Tile)
    (f : Tile → Tile) (h : s.dev.seqReady t op = true)
    (hf : faults (s.dev.tiles[t]).wordAt (s.dev.tiles[t]) = [])
    (ha : act (s.dev.tiles[t]).wordAt ((s.dev.tiles[t]).consume (s.dev.tiles[t]).wordAt) =
      { f (s.dev.tiles[t]) with tok := ((s.dev.tiles[t]).consume (s.dev.tiles[t]).wordAt).tok }) :
    onLive (fun d => d.seqRun t op faults act) s = .next (seqNext s t f) := by
  obtain ⟨hfe, -, -, hroom⟩ := (seqReady_iff _ _ _).mp h
  rw [onLive_live _ _ (live_of_fetches hfe), seqRun_ready _ _ _ _ _ h hf, signalSeq_next s.dev t f _ _ hroom ha]
  rfl

/-- COND of SEQ.BR, as Table 4.4 gives it. -/
theorem brHolds_iff (c : Nat) (hc : c < 4) (a b : W32) :
    brHolds c a b = true ↔ (c = 0 ∧ a = b) ∨ (c = 1 ∧ a ≠ b) ∨ (c = 2 ∧ a.toNat < b.toNat) ∨ (c = 3 ∧ b.toNat ≤ a.toNat) := by
  have hcases : c = 0 ∨ c = 1 ∨ c = 2 ∨ c = 3 := by omega
  rcases hcases with rfl | rfl | rfl | rfl <;> simp [brHolds, BitVec.ult]

theorem fld_lt {n : Nat} (w : BitVec n) (lo len : Nat) : fld w lo len < 2 ^ len := Nat.mod_lt _ (Nat.two_pow_pos len)

/-- What the branching operations leave, PC chosen by their condition. -/
theorem seqBrAct_eq (w : W128) (x : Tile) : seqBrAct w x = { x with
    pc := if brHolds (fld w 36 2) (x.bnd[(fin (fld w 32 4) : Fin 16)]) (BitVec.ofNat 32 (fld w 38 32)) = true then 16 * fld w 70 17
      else x.pc + 16 } := by
  unfold seqBrAct
  split <;> rfl

theorem seqLoopAct_eq (w : W128) (x : Tile) : seqLoopAct w x = { x with
    lc := x.lc.set (fin (fld w 32 2) : Fin 4) (BitVec.ofNat 32 (loopCount w x)),
    pc := if loopCount w x = 0 then 16 * fld w 50 17 else x.pc + 16 } := by
  unfold seqLoopAct
  dsimp only
  split <;> rfl

theorem seqLendAct_eq (w : W128) (x : Tile) : seqLendAct w x = { x with
    lc := x.lc.set (fin (fld w 32 2) : Fin 4) (x.lc[(fin (fld w 32 2) : Fin 4)] - 1),
    pc := if x.lc[(fin (fld w 32 2) : Fin 4)] - 1 ≠ 0 then 16 * fld w 34 17 else x.pc + 16 } := by
  unfold seqLendAct
  dsimp only
  split <;> rfl

/-- Settles O4: `onLive_seqRun` for the edit of each operation. -/
theorem seqResults : Obligations.SeqResults := by
  unfold Obligations.SeqResults
  intro s t
  refine ⟨fun h => ?_, fun h => ?_, fun h a b ha hb => ?_, fun h n hn hle => ?_, fun h n hn => ?_, fun h => ?_, fun h => ?_⟩
  · exact onLive_seqRun s t _ _ seqNopAct _ h rfl rfl
  · exact onLive_seqRun s t _ _ seqJmpAct _ h rfl rfl
  · refine onLive_seqRun s t _ _ seqBrAct _ h rfl ?_
    subst ha hb
    simp only [← brHolds_iff _ (fld_lt _ 36 2)]
    exact seqBrAct_eq _ _
  · refine onLive_seqRun s t _ _ seqLoopAct _ h (if_neg (by rw [loopCount, ← hn]; exact Nat.not_lt.mpr hle)) ?_
    subst hn
    exact seqLoopAct_eq _ _
  · refine onLive_seqRun s t _ _ seqLendAct _ h rfl ?_
    subst hn
    exact seqLendAct_eq _ _
  · exact onLive_seqRun s t _ _ seqBsetAct _ h rfl rfl
  · exact onLive_seqRun s t _ _ seqBaddAct _ h rfl rfl

/-! ### SEQ.TOKADD and SEQ.FSEL (R99, R113) -/

/-- SEQ.TOKADD with room moves PC and leaves N more in its counter, and then signals. -/
theorem seqTokadd_ok (d : Device) (t : TileNo) (b : Vector Byte 8) (h : d.fetches t .tokadd = true)
    (hw : (d.tiles[t]).waits (d.tiles[t]).wordAt = false)
    (hroom : (((d.tiles[t]).consume (d.tiles[t]).wordAt).tok[(fin (fld (d.tiles[t]).wordAt 32 3) : Fin 8)]).toNat +
      fld (d.tiles[t]).wordAt 35 8 ≤ 255)
    (hb : b = ((d.tiles[t]).consume (d.tiles[t]).wordAt).tok.set (fin (fld (d.tiles[t]).wordAt 32 3) : Fin 8) (BitVec.ofNat 8
      ((((d.tiles[t]).consume (d.tiles[t]).wordAt).tok[(fin (fld (d.tiles[t]).wordAt 32 3) : Fin 8)]).toNat +
        fld (d.tiles[t]).wordAt 35 8)))
    (hs : wSen (d.tiles[t]).wordAt = true → (b[wStok (d.tiles[t]).wordAt]).toNat < 255) :
    d.seqTokadd t = d.modTile t (fun x => { x with
      pc := x.pc + 16,
      tok := if wSen (d.tiles[t]).wordAt then b.set (wStok (d.tiles[t]).wordAt) (b[wStok (d.tiles[t]).wordAt] + 1) else b }) := by
  have htok : ∀ x : Tile, (Tile.nextPc x).tok = x.tok := fun _ => rfl
  rw [seqTokadd_of_fetches d t h hw, addTok_ok, modTile_modTile, signalSeq_room, modTile_modTile]
  · refine modTile_congr ?_
    simp only [htok, ← hb]
    rfl
  · intro hsen
    rw [modTile_get]
    simp only [htok, ← hb]
    exact hs hsen
  · rw [modTile_get]
    exact hroom

/-- A read of the controller of a pocket without ECC errors. -/
theorem ctlRead_clean (d : Device) (t : TileNo) (off n : Nat) (hb : (d.tiles[t]).pocketBad = []) (hr : off + n ≤ claspBase) :
    d.ctlRead t off n = (.ok ((d.tiles[t]).pocket.word off n), d) := by
  unfold Device.ctlRead
  rw [if_neg (Nat.not_lt.mpr hr), pocketRead_clean _ _ _ _ _ hb]
  rfl

/-- SEQ.FSEL of a selector word whose VARIANT is at most MAXV. -/
theorem seqFsel_ok (d : Device) (t : TileNo) (v j : Nat) (h : d.seqReady t .fsel = true)
    (halign : fld (d.tiles[t]).wordAt 32 21 % 8 = 0) (hfsw : fld (d.tiles[t]).wordAt 32 21 + 8 ≤ claspBase)
    (hv : v = (d.tiles[t]).pocket.word (fld (d.tiles[t]).wordAt 32 21) 8) (hmax : v % 16 ≤ v / 16 % 16)
    (htab : fld (d.tiles[t]).wordAt 53 21 + 4 * (v % 16) + 4 ≤ claspBase)
    (hj : j = (d.tiles[t]).pocket.word (fld (d.tiles[t]).wordAt 53 21 + 4 * (v % 16)) 4) :
    d.seqFsel t = (d.modTile t (fun y => { y.consume (d.tiles[t]).wordAt with
      bnd := y.bnd.set (fin (fld (d.tiles[t]).wordAt 74 4) : Fin 16) (BitVec.ofNat 32 (v % 16)),
      pc := 16 * j })).signalSeq t (d.tiles[t]).wordAt ((d.tiles[t]).pc / 16) := by
  obtain ⟨hfe, hw, hbld, -⟩ := (seqReady_iff _ _ _).mp h
  have hbad := ((fetches_iff _ _ _).mp hfe).2.2.2.2.1
  unfold Device.seqFsel
  simp only [fetch_of_fetches _ _ _ hfe, hw, hbld, halign, ctlRead_clean d t _ 8 hbad hfsw, ← hv, Nat.not_lt.mpr hmax,
    ctlRead_clean d t _ 4 hbad htab, ← hj, Bool.or_self, Bool.false_eq_true, if_false, ne_eq, not_true_eq_false]

/-- Settles O5: `seqTokadd_ok` and `seqFsel_ok`, each with its signal. -/
theorem tokaddAndFselResults : Obligations.TokaddAndFselResults := by
  unfold Obligations.TokaddAndFselResults
  intro s t
  refine ⟨fun k a b hf hw hk ha hroom hb hs => ?_, fun v j h halign hfsw hv hmax htab hj => ?_⟩
  · subst hk ha
    rw [exec_seqTokadd t s (live_of_fetches hf), seqTokadd_ok s.dev t b hf hw hroom hb hs]
  · obtain ⟨hfe, -, -, hroom⟩ := (seqReady_iff _ _ _).mp h
    change onLive (fun d => d.seqFsel t) s = _
    rw [onLive_live _ _ (live_of_fetches hfe), seqFsel_ok s.dev t v j h halign hfsw hv hmax htab hj,
      signalSeq_next s.dev t (fun x => { x with
        bnd := x.bnd.set (fin (fld (s.dev.tiles[t]).wordAt 74 4) : Fin 16) (BitVec.ofNat 32 (v % 16)), pc := 16 * j }) _ _ hroom rfl]
    rfl

/-! ### Stalls, and words that decode to nothing (R85, R88, R114, R115) -/

/-- The word of SEQ.NOP is the controller's own, and no SY word. -/
theorem class_of_nop {w : W128} (h : decodeOp w = some .nop) : wClass w = 0 := by
  unfold decodeOp at h
  split at h
  case h_1 hclass _ => exact hclass
  all_goals cases h

/-- A stalled SEQ.NOP whose wait clause holds may proceed. -/
theorem mayResume_nop (d : Device) (t : TileNo) (h : decodeOp (d.tiles[t]).wordAt = some .nop)
    (hw : (d.tiles[t]).waits (d.tiles[t]).wordAt = false) : d.mayResume t = true := by
  have hclass := class_of_nop h
  have hq : queueFor (d.tiles[t]).wordAt = none := by simp only [queueFor, hclass]
  have hword : BitVec.ofNat 128 ((d.tiles[t]).pocket.word (d.tiles[t]).pc 16) = (d.tiles[t]).wordAt := rfl
  unfold Device.mayResume
  simp only [hword, h, issueRegs_nop _ _ h, hq, hw, hclass, Tile.bldPending, List.any_nil, Bool.not_false, ne_eq,
    OfNat.zero_ne_ofNat, not_false_eq_true, decide_true, Bool.true_or, Bool.and_self]

/-- The fields of a first record (Table 4.16). -/
theorem faultWord_fields (code unit pcq ctx detail : Nat) (hc : code < 256) (hu : unit < 8) (hp : pcq < 2 ^ 17) (hx : ctx < 256) :
    fld (faultWord code unit pcq ctx detail) 0 8 = code ∧ fld (faultWord code unit pcq ctx detail) 8 3 = unit ∧
      fld (faultWord code unit pcq ctx detail) 12 17 = pcq ∧ fld (faultWord code unit pcq ctx detail) 29 8 = ctx := by
  simp only [fld, faultWord, BitVec.toNat_ofNat, Nat.shiftLeft_eq, Nat.shiftRight_eq_div_pow]
  omega

/-- A word that decodes to no operation faults (R88). -/
theorem fetch_illegal (d : Device) (t : TileNo) (op : TOp) (hm : (d.tiles[t]).mode = .running) (hc : (d.tiles[t]).ctx.isSome = true)
    (hp : (d.tiles[t]).pc + 16 ≤ claspBase) (hb : (d.tiles[t]).pocketBad = []) (ho : decodeOp (d.tiles[t]).wordAt = none) :
    d.fetch t op = .fault (d.issueFault t fcIllegalInstr) := by
  unfold Device.fetch
  have hc' : (d.tiles[t]).ctx.isNone = false := by rw [← Option.not_isSome, hc]; rfl
  have hw : decodeOp (BitVec.ofNat 128 (leNat ((d.tiles[t]).pocket.read (d.tiles[t]).pc 16))) = none := ho
  rw [if_neg (by rw [hm, hc']; decide), if_neg (by omega), pocketRead_clean _ _ _ _ _ hb]
  simp only [hw, reduceCtorEq, if_false]

/-- Settles O8: the stall and its end through `seqRun_waits` and `mayResume_nop`, the record of an undecodable word through
`faultWord_fields`. -/
theorem stallsAndFaults : Obligations.StallsAndFaults := by
  unfold Obligations.StallsAndFaults
  refine ⟨fun s t => ⟨fun hf hw => ?_, fun hl hm hb ho hw => ?_⟩, fun s t c hl hm hc hp hb ho hv => ?_⟩
  · rw [exec_seqNop t s (live_of_fetches hf), seqRun_waits _ _ _ _ _ hf hw]
    rfl
  · change onLive (fun d => d.dispatchResume t) s = _
    rw [onLive_live _ _ hl]
    simp only [Device.dispatchResume, hm, mayResume_nop s.dev t ho hw, decide_true, Bool.and_self, if_true]
  · have hstep : s.dev.seqRun t .nop (fun _ _ => []) seqNopAct = s.dev.issueFault t fcIllegalInstr := by
      unfold Device.seqRun
      rw [fetch_illegal s.dev t .nop hm (by rw [hc]; rfl) hp hb ho]
    have hpcq : (s.dev.tiles[t]).pc / 16 < 2 ^ 17 := by
      unfold claspBase at hp
      omega
    obtain ⟨hcode, hunit, hpc, hctx⟩ := faultWord_fields fcIllegalInstr 0 _ c.val 0 (by decide) (by decide) hpcq c.isLt
    refine ⟨_, exec_seqNop t s hl, ?_⟩
    dsimp only
    rw [hstep, Device.issueFault, Device.issueFaultAt,
      faultTile_first _ _ c _ _ _ _ hc hv (by rw [hm]; decide), (askTeardown_frame _ _ _).1, modTile_get]
    exact ⟨rfl, hcode, hunit, hpc, hctx, rfl, rfl, fun v hne => modTile_get_ne _ _ _ _ hne⟩

/-! ### Dispatch into an engine's queue (R84, R92, R93) -/

/-- The issue of every row that has a queue. -/
theorem exec_issue : ∀ row ∈ queuedRows, ∀ (t : TileNo) (s : State), exec (row.1 t .issue) s = onLive (fun d => d.issueQ t row.2) s := by
  simp only [queuedRows, loadStoreRows, tensorRows, vectorRows, elementRows, unitRows, moverRows, clRows, List.forall_mem_append,
    List.forall_mem_cons, List.not_mem_nil, IsEmpty.forall_iff, implies_true, and_true]
  and_intros <;> exact fun _ _ => rfl

/-- Settles O9: `issueQ_ok`, one edit of the tile, for each row of `queuedRows`. -/
theorem queuedInstructionsIssue : Obligations.QueuedInstructionsIssue := by
  unfold Obligations.QueuedInstructionsIssue
  intro row hrow s t e recs x w hf hq hl hr hb hi
  rw [exec_issue row hrow, onLive_live _ _ (live_of_fetches hf), issueQ_ok s.dev t row.2 e recs hf hq hl hr hb hi, Device.modQueueOf,
    modTile_modTile]
  rfl

/-! ### SY instructions of the controller (R111, R161, R353, R369) -/

/-- What `syReady` says, clause by clause. -/
theorem syReady_iff (d : Device) (t : TileNo) (op : TOp) :
    d.syReady t op = true ↔ d.seqReady t op = true ∧ (op = .fence ∨ (d.tiles[t]).mm.issueOpen = false) ∧
      (d.tiles[t]).drained (if op = .fence then syMask (d.tiles[t]).wordAt else 15) = true := by
  simp only [Device.syReady, Bool.and_eq_true, Bool.or_eq_true, decide_eq_true_eq, Bool.not_eq_true', and_assoc]

/-- A ready SY instruction acts behind its wait clause, and signals. -/
theorem syRun_ready (d : Device) (t : TileNo) (op : TOp) (mask : W128 → Nat) (act : W128 → Device → Device)
    (h : d.syReady t op = true) (hmask : mask (d.tiles[t]).wordAt = if op = .fence then syMask (d.tiles[t]).wordAt else 15) :
    d.syRun t op mask act =
      (act (d.tiles[t]).wordAt (d.modTile t (fun x => x.consume (d.tiles[t]).wordAt))).signalSeq t (d.tiles[t]).wordAt
        ((d.tiles[t]).pc / 16) := by
  obtain ⟨hseq, hopen, hdrained⟩ := (syReady_iff d t op).mp h
  obtain ⟨hfe, hw, -, -⟩ := (seqReady_iff d t op).mp hseq
  have hno : (decide (op ≠ .fence) && (d.tiles[t]).mm.issueOpen) = false := by
    rcases hopen with rfl | hclosed
    · rfl
    · rw [hclosed, Bool.and_false]
  unfold Device.syRun
  simp only [fetch_of_fetches _ _ _ hfe, hno, hw, hmask, hdrained, Bool.not_true, Bool.or_self, Bool.false_eq_true, if_false]

/-- One that edits its tile alone. -/
theorem onLive_syRun (s : State) (t : TileNo) (op : TOp) (mask : W128 → Nat) (g : Tile → Tile) (f : Tile → Tile)
    (h : s.dev.syReady t op = true)
    (hmask : mask (s.dev.tiles[t]).wordAt = if op = .fence then syMask (s.dev.tiles[t]).wordAt else 15)
    (hg : g ((s.dev.tiles[t]).consume (s.dev.tiles[t]).wordAt) =
      { f (s.dev.tiles[t]) with tok := ((s.dev.tiles[t]).consume (s.dev.tiles[t]).wordAt).tok }) :
    onLive (fun d => d.syRun t op mask (fun _ d => d.modTile t g)) s = .next (seqNext s t f) := by
  obtain ⟨hfe, -, -, hroom⟩ := (seqReady_iff _ _ _).mp ((syReady_iff _ _ _).mp h).1
  rw [onLive_live _ _ (live_of_fetches hfe), syRun_ready _ _ _ _ _ h hmask, modTile_modTile, signalSeq_next s.dev t f _ _ hroom hg]
  rfl

/-- The tile of a YIELD or END once its engines are drained. -/
def Tile.atYield (m : TMode) (x : Tile) : Tile := { x with pc := x.pc + 16, mode := m }

/-- The condition under which the save of a context begins (R353). -/
def Device.mayYield (d : Device) (c : CtxNo) : Prop :=
  (d.ctxs[c]).st = .running ∧ (d.ctxs[c]).inStep = true ∧ (d.ctxs[c]).saving = false ∧
    (∀ v ∈ d.kernelTiles c, (d.tiles[v]).midStep = true) ∧ ∃ v ∈ d.kernelTiles c, (d.tiles[v]).mode = .yielding

theorem yieldSave_begins (d : Device) (t : TileNo) (c : CtxNo) (hc : (d.tiles[t]).ctx = some c) (h : d.mayYield c) :
    d.yieldSave t = d.beginSave c := by
  obtain ⟨hst, hin, hsave, hall, hany⟩ := h
  have hany' : (d.kernelTiles c).any (fun u => decide ((d.tiles[u]).mode = .yielding)) = true := by
    simpa only [List.any_eq_true, decide_eq_true_eq] using hany
  unfold Device.yieldSave
  simp only [hc, hst, hin, hsave, List.all_eq_true.mpr hall, hany', decide_true, Bool.not_false, Bool.and_self, if_true]

theorem yieldSave_waits (d : Device) (t : TileNo) (c : CtxNo) (hc : (d.tiles[t]).ctx = some c) (h : ¬ d.mayYield c) :
    d.yieldSave t = d := by
  unfold Device.yieldSave
  simp only [hc]
  refine if_neg (fun hif => h ?_)
  simpa only [Device.mayYield, Bool.and_eq_true, decide_eq_true_eq, Bool.not_eq_true', List.all_eq_true, List.any_eq_true, and_assoc]
    using hif

/-- The start of a save changes no tile. -/
theorem beginSave_spec (d : Device) (c : CtxNo) (h : (d.ctxs[c]).part.isSome = true) :
    (d.beginSave c).tiles = d.tiles ∧ ((d.beginSave c).ctxs[c]).saving = true := by
  obtain ⟨p, hp⟩ := Option.isSome_iff_exists.mp h
  unfold Device.beginSave Device.closeWindows
  simp only [hp, modPart_tiles, modCtx_tiles, modPart_ctxs, modCtx_get, and_self]

/-- YIELD and END: the tile moves on, the save of its context may begin, and the token is given. -/
def Device.yieldRun (d : Device) (t : TileNo) (op : TOp) (m : TMode) : Device :=
  d.syRun t op (fun _ => 15) (fun _ d => (d.modTile t (fun x => { x.nextPc with mode := m })).yieldSave t)

/-- The part as the YIELD or END leaves it before its signal. -/
def Device.yielded (d : Device) (t : TileNo) (m : TMode) : Device :=
  d.modTile t (fun x => (x.consume (d.tiles[t]).wordAt).atYield m)

theorem yieldRun_ready (d : Device) (t : TileNo) (op : TOp) (m : TMode) (h : d.syReady t op = true) (hop : op ≠ .fence) :
    d.yieldRun t op m = ((d.yielded t m).yieldSave t).signalSeq t (d.tiles[t]).wordAt ((d.tiles[t]).pc / 16) := by
  unfold Device.yieldRun
  rw [syRun_ready d t op _ _ h (if_neg hop).symm]
  dsimp only
  rw [modTile_modTile]
  rfl

/-- A signal with room, given by a part whose tile holds what is left after the wait clause. -/
theorem signalSeq_of_tok (d e : Device) (t : TileNo) (pcq : Nat) (hroom : (d.tiles[t]).tokRoom (d.tiles[t]).wordAt = true)
    (he : (e.tiles[t]).tok = ((d.tiles[t]).consume (d.tiles[t]).wordAt).tok) :
    e.signalSeq t (d.tiles[t]).wordAt pcq =
      e.modTile t (fun x => { x with tok := (d.tiles[t]).tokAfter (d.tiles[t]).wordAt }) := by
  rw [signalSeq_room]
  · refine modTile_congr ?_
    simp only [he]
    rfl
  · intro hs
    rw [he]
    exact room_of_tokRoom hroom hs

/-- `seqNext` of a YIELD or END is its part before the signal, and the signal. -/
theorem seqNext_atYield (s : State) (t : TileNo) (m : TMode) :
    (seqNext s t (fun x => { x with pc := x.pc + 16, mode := m })).dev =
      (s.dev.yielded t m).modTile t (fun x => { x with tok := (s.dev.tiles[t]).tokAfter (s.dev.tiles[t]).wordAt }) := by
  unfold Device.yielded seqNext
  rw [modTile_modTile]
  dsimp only
  exact modTile_congr rfl

/-- The signal changes no mode. -/
theorem seqNext_mode (s : State) (t v : TileNo) (m : TMode) :
    ((seqNext s t (fun x => { x with pc := x.pc + 16, mode := m })).dev.tiles[v]).mode = ((s.dev.yielded t m).tiles[v]).mode := by
  rw [seqNext_atYield]
  by_cases hv : v = t
  · subst hv
    rw [modTile_get]
  · rw [modTile_get_ne _ _ _ _ hv]

theorem midStep_iff (x : Tile) : x.midStep = true ↔ x.mode = .yielding ∨ x.mode = .ending := by
  simp only [Tile.midStep, Bool.or_eq_true, decide_eq_true_eq]

/-- YIELD and END without and with the begin of the save (R353). -/
theorem yieldRun_results (s : State) (t : TileNo) (op : TOp) (m : TMode) (c : CtxNo) (h : s.dev.syReady t op = true) (hop : op ≠ .fence)
    (hc : (s.dev.tiles[t]).ctx = some c) :
    let u := seqNext s t (fun x => { x with pc := x.pc + 16, mode := m })
    (¬ (s.dev.yielded t m).mayYield c → s.dev.yieldRun t op m = u.dev) ∧
      ((s.dev.yielded t m).mayYield c → (s.dev.ctxs[c]).part.isSome = true →
        ((s.dev.yieldRun t op m).ctxs[c]).saving = true ∧ (s.dev.yieldRun t op m).tiles = u.dev.tiles) := by
  obtain ⟨-, -, -, hroom⟩ := (seqReady_iff _ _ _).mp ((syReady_iff _ _ _).mp h).1
  have htok : ((s.dev.yielded t m).tiles[t]).tok = ((s.dev.tiles[t]).consume (s.dev.tiles[t]).wordAt).tok := by
    rw [Device.yielded, modTile_get]
    rfl
  have hctx : ((s.dev.yielded t m).tiles[t]).ctx = some c := by
    rw [Device.yielded, modTile_get]
    exact hc
  refine ⟨fun hno => ?_, fun hyes hp => ?_⟩
  · rw [yieldRun_ready _ _ _ _ h hop, yieldSave_waits _ _ c hctx hno, signalSeq_of_tok _ _ _ _ hroom htok, seqNext_atYield]
  · obtain ⟨htiles, hsaving⟩ := beginSave_spec (s.dev.yielded t m) c hp
    rw [yieldRun_ready _ _ _ _ h hop, yieldSave_begins _ _ c hctx hyes, signalSeq_of_tok _ _ _ _ hroom (by rw [htiles]; exact htok),
      seqNext_atYield]
    refine ⟨hsaving, ?_⟩
    simp only [Device.modTile, htiles]

/-- Settles O10: FENCE and STEP_COMMIT by `onLive_syRun`, YIELD and END by `yieldRun_results`. -/
theorem syControllerResults : Obligations.SyControllerResults := by
  unfold Obligations.SyControllerResults
  intro s t
  refine ⟨fun h => onLive_syRun s t _ syMask Tile.nextPc _ h rfl rfl,
    fun h => onLive_syRun s t _ (fun _ => 15) (fun x => { x.nextPc with mode := .atCommit }) _ h rfl rfl, ?_⟩
  intro row hrow h u midStep c hc
  have hexec : exec row.1 s = onLive (fun d => d.yieldRun t row.2.1 row.2.2) s ∧ row.2.1 ≠ .fence := by
    simp only [List.mem_cons, List.not_mem_nil, or_false] at hrow
    rcases hrow with rfl | rfl
    · exact ⟨rfl, TOp.noConfusion⟩
    · exact ⟨rfl, TOp.noConfusion⟩
  obtain ⟨hexec, hop⟩ := hexec
  have hl := live_of_fetches ((seqReady_iff _ _ _).mp ((syReady_iff _ _ _).mp h).1).1
  obtain ⟨hwaits, hbegins⟩ := yieldRun_results s t row.2.1 row.2.2 c h hop hc
  have hmid : ∀ v, midStep v ↔ ((s.dev.yielded t row.2.2).tiles[v]).midStep = true := fun v => by
    rw [midStep_iff, ← seqNext_mode]
  have hmay : (s.dev.yielded t row.2.2).mayYield c ↔ (s.dev.ctxs[c]).st = .running ∧ (s.dev.ctxs[c]).inStep = true ∧
      (s.dev.ctxs[c]).saving = false ∧ (∀ v ∈ s.dev.kernelTiles c, midStep v) ∧
      ∃ v ∈ s.dev.kernelTiles c, (u.dev.tiles[v]).mode = .yielding := by
    simp only [hmid, u, seqNext_mode]
    rfl
  rw [hexec, onLive_live _ _ hl]
  refine ⟨fun hany => ?_, fun hst hin hp hall hex => ?_⟩
  · rw [hwaits]
    · rfl
    · rw [hmay]
      rintro ⟨hst, hin, hsave, hall, v, hv, hy⟩
      rcases hany with h | h | h | ⟨w, hw, hn⟩ | h
      · exact h hst
      · exact Bool.noConfusion (h.symm.trans hin)
      · exact Bool.noConfusion (h.symm.trans hsave)
      · exact hn (hall w hw)
      · exact h v hv hy
  · by_cases hsave : (s.dev.ctxs[c]).saving = true
    · have hno : ¬ (s.dev.yielded t row.2.2).mayYield c := fun h => Bool.noConfusion (h.2.2.1.symm.trans hsave)
      rw [hwaits hno]
      exact ⟨_, rfl, hsave, rfl⟩
    · exact ⟨_, rfl, hbegins (hmay.mpr ⟨hst, hin, Bool.eq_false_iff.mpr hsave, hall, hex⟩) hp⟩

end Sys2Proof.Machine

/-! What a report changes (R425, R426, R449 to R454): its own records, and nothing of the part it reports on. -/

namespace Sys2Proof.Machine

/-- `e` is `d` but for reports: trace, alarms, the error log, counter sets, event queues with their vectors, and what these write to host
memory. -/
structure Device.Told (d e : Device) : Prop where
  rest : e = { d with trace := e.trace, alarms := e.alarms, ibi := e.ibi, devEvq := e.devEvq, devMsix := e.devMsix,
                      hostMem := e.hostMem, errLog := e.errLog, csets := e.csets, parts := e.parts }
  part : ∀ p : PartNo, e.parts[p] = { d.parts[p] with evq := (e.parts[p]).evq, msix := (e.parts[p]).msix }
  host : d.hostMem.wf = true → e.hostMem.wf = true

namespace Device.Told
variable {a b c d e : Device}

theorem refl (d : Device) : d.Told d := ⟨rfl, fun _ => rfl, id⟩

theorem trans (h : a.Told b) (k : b.Told c) : a.Told c where
  rest := by rw [k.rest, h.rest]
  part p := by rw [k.part p, h.part p]
  host w := k.host (h.host w)

variable (h : d.Told e)
include h

theorem tiles : e.tiles = d.tiles := by rw [h.rest]
theorem ctxs : e.ctxs = d.ctxs := by rw [h.rest]
theorem rst : e.rst = d.rst := by rw [h.rest]
theorem devTime : e.devTime = d.devTime := by rw [h.rest]
theorem hbm : e.hbm = d.hbm := by rw [h.rest]
theorem tmemBytes : e.tmemBytes = d.tmemBytes := by rw [h.rest]
theorem freeCount : e.freeCount = d.freeCount := by rw [h.rest]

theorem storesWf (w : d.storesWf) : e.storesWf := by
  obtain ⟨hhbm, htmem, hhost, htile⟩ := w
  exact ⟨h.hbm ▸ hhbm, h.tmemBytes ▸ htmem, h.host hhost, h.tiles ▸ htile⟩

end Device.Told

/-- Where a report chooses, it reports or does nothing. -/
theorem told_ite {d e : Device} (p : Prop) [Decidable p] (h : d.Told e) : d.Told (if p then e else d) := by
  split
  · exact h
  · exact .refl d

/-- An edit of a partition's event queue and vectors. -/
theorem modPart_told (d : Device) (p : PartNo) (f : Partition → Partition)
    (hf : ∀ q, f q = { q with evq := (f q).evq, msix := (f q).msix }) : d.Told (d.modPart p f) where
  rest := rfl
  part q := by
    by_cases hq : q = p
    · subst hq; rw [modPart_get]; exact hf _
    · rw [modPart_get_ne _ _ _ _ hq]
  host := id

theorem signal_told (d : Device) (f : Fn) (v : Nat) : d.Told (d.signal f v) := by
  unfold Device.signal
  cases f with
  | pf0 =>
    dsimp only
    split
    · exact ⟨rfl, fun _ => rfl, id⟩
    · exact .refl d
  | vf p =>
    dsimp only
    split
    · exact modPart_told d p _ (fun _ => rfl)
    · exact .refl d

theorem setEvq_told (d : Device) (f : Fn) (q : Evq) : d.Told (d.setEvq f q) := by
  cases f with
  | pf0 => exact ⟨rfl, fun _ => rfl, id⟩
  | vf p => exact modPart_told d p (fun x => { x with evq := q }) (fun _ => rfl)

/-- A posted event is written to host memory. -/
theorem wf_evqPost (q : Evq) (m : Memory) (code : W16) (ctx : Option Nat) (now : W64) (payload : BitVec 128) (h : m.wf = true) :
    (q.post m code ctx now payload).2.wf = true := by
  unfold Evq.post
  split
  · dsimp only
    exact Memory.wf_write _ _ h
  · exact h

theorem postEvent_told (d : Device) (f : Fn) (code : W16) (ctx : Option Nat) (payload : BitVec 128) :
    d.Told (d.postEvent f code ctx payload) := by
  unfold Device.postEvent
  dsimp only
  have hpost : d.Told { d.setEvq f ((d.evqOf f).post d.hostMem code ctx d.devTime payload).1 with
      hostMem := if d.masters f then ((d.evqOf f).post d.hostMem code ctx d.devTime payload).2 else d.hostMem } := by
    have hset := setEvq_told d f ((d.evqOf f).post d.hostMem code ctx d.devTime payload).1
    refine hset.trans ⟨rfl, fun _ => rfl, fun w => ?_⟩
    dsimp only
    have hd : d.hostMem.wf = true := by
      cases f <;> exact w
    split
    · exact wf_evqPost _ _ _ _ _ _ hd
    · exact hd
  split
  · split
    · exact hpost.trans (signal_told _ _ _)
    · exact hpost
  · exact .refl d

theorem trigOn_told (d : Device) (code : W16) : d.Told (d.trigOn code) := by
  unfold Device.trigOn
  split
  · exact ⟨rfl, fun _ => rfl, id⟩
  · exact .refl d

theorem traceRec_told (d : Device) (src unit : Nat) (p : Option PartNo) (code : W16) (payload : BitVec 128) :
    d.Told (d.traceRec src unit p code payload) := by
  cases p <;> exact told_ite _ ⟨rfl, fun _ => rfl, id⟩

theorem flushLost_told (d : Device) (f : Fn) : d.Told (d.flushLost f) := by
  unfold Device.flushLost
  dsimp only
  split
  · exact ((trigOn_told d _).trans (setEvq_told _ _ _)).trans (postEvent_told _ _ _ _ _)
  · exact .refl d

theorem raiseAlarm_told (d : Device) (code source : W16) (data : BitVec 128) : d.Told (d.raiseAlarm code source data) :=
  Device.Told.trans (b := { d with alarms := alarmRecord d.alarms code source d.devTime data, ibi := d.ibi + 1 })
    ⟨rfl, fun _ => rfl, id⟩ (postEvent_told _ _ _ _ _)

theorem logErr_told (d : Device) (code : W16) (p : Option PartNo) (ctx src : Nat) (payload : BitVec 128) :
    d.Told (d.logErr code p ctx src payload) := by
  have hedit : ∀ (d : Device) (l : List LogEntry), d.Told { d with errLog := l } := fun _ _ => ⟨rfl, fun _ => rfl, id⟩
  unfold Device.logErr
  dsimp only
  split
  · exact hedit _ _
  · exact (trigOn_told d _).trans (hedit _ _)

/-- Counting an event changes the counter sets alone (R448). -/
theorem count_told (d : Device) (p : Option PartNo) (event unit n : Nat) : d.Told (d.count p event unit n) := by
  cases p <;> exact ⟨rfl, fun _ => rfl, id⟩

/-- The part with the trigger, trace copy and alarm of a code done: what a report does before the log. -/
def Device.alarmed (d : Device) (code : W16) (p : Option PartNo) (src : Nat) (payload : BitVec 128) : Device :=
  let d := d.trigOn code
  let d := if isAlarm code || isLogged code then d.traceRec 5 src p code payload else d
  if isAlarm code then d.raiseAlarm code (BitVec.ofNat 16 src) payload else d

/-- What a report does after the log. -/
def Device.announced (d : Device) (code : W16) (p : Option PartNo) (ctx : Option Nat) (payload : BitVec 128) : Device :=
  let d := if code = 0x0300 then d.postEvent .pf0 code ctx payload else d
  match p with
  | some q => if toPartition code then d.postEvent (.vf q) code ctx payload else d
  | none => d

theorem report_eq (d : Device) (code : W16) (p : Option PartNo) (ctx : Option Nat) (src : Nat) (payload : BitVec 128) :
    d.report code p ctx src payload =
      (if isLogged code then (d.alarmed code p src payload).logErr code p (ctx.getD 0) src payload
        else d.alarmed code p src payload).announced code p ctx payload := rfl

theorem alarmed_told (d : Device) (code : W16) (p : Option PartNo) (src : Nat) (payload : BitVec 128) :
    d.Told (d.alarmed code p src payload) :=
  ((trigOn_told d code).trans (told_ite _ (traceRec_told _ _ _ _ _ _))).trans (told_ite _ (raiseAlarm_told _ _ _ _))

theorem announced_told (d : Device) (code : W16) (p : Option PartNo) (ctx : Option Nat) (payload : BitVec 128) :
    d.Told (d.announced code p ctx payload) := by
  cases p with
  | none => exact told_ite _ (postEvent_told _ _ _ _ _)
  | some q => exact (told_ite _ (postEvent_told _ _ _ _ _)).trans (told_ite _ (postEvent_told _ _ _ _ _))

theorem report_told (d : Device) (code : W16) (p : Option PartNo) (ctx : Option Nat) (src : Nat) (payload : BitVec 128) :
    d.Told (d.report code p ctx src payload) := by
  rw [report_eq]
  refine ((alarmed_told d code p src payload).trans ?_).trans (announced_told _ _ _ _ _)
  exact told_ite _ (logErr_told _ _ _ _ _ _)

@[simp] theorem report_tiles (d : Device) (code : W16) (p : Option PartNo) (ctx : Option Nat) (src : Nat) (payload : BitVec 128) :
    (d.report code p ctx src payload).tiles = d.tiles := (report_told d code p ctx src payload).tiles
@[simp] theorem report_ctxs (d : Device) (code : W16) (p : Option PartNo) (ctx : Option Nat) (src : Nat) (payload : BitVec 128) :
    (d.report code p ctx src payload).ctxs = d.ctxs := (report_told d code p ctx src payload).ctxs
@[simp] theorem traceRec_tiles (d : Device) (src unit : Nat) (p : Option PartNo) (code : W16) (payload : BitVec 128) :
    (d.traceRec src unit p code payload).tiles = d.tiles := (traceRec_told d src unit p code payload).tiles

/-! ### The error log (R449, R451) -/

/-- The newest entry is in the log, also where it takes the place of old ones. -/
theorem mem_logAppend (l : List LogEntry) (e : LogEntry) : e ∈ logAppend l e := by
  unfold logAppend
  split
  · simp
  · split
    · split <;> simp
    · simp

@[simp] theorem signal_errLog (d : Device) (f : Fn) (v : Nat) : (d.signal f v).errLog = d.errLog := by
  unfold Device.signal
  cases f <;> dsimp only <;> split <;> rfl

@[simp] theorem postEvent_errLog (d : Device) (f : Fn) (code : W16) (ctx : Option Nat) (payload : BitVec 128) :
    (d.postEvent f code ctx payload).errLog = d.errLog := by
  have hset : ∀ q, (d.setEvq f q).errLog = d.errLog := fun _ => by cases f <;> rfl
  unfold Device.postEvent
  dsimp only
  split
  · split
    · rw [signal_errLog]
      exact hset _
    · exact hset _
  · rfl

@[simp] theorem announced_errLog (d : Device) (code : W16) (p : Option PartNo) (ctx : Option Nat) (payload : BitVec 128) :
    (d.announced code p ctx payload).errLog = d.errLog := by
  unfold Device.announced
  cases p <;> dsimp only <;> (repeat' split) <;> simp only [postEvent_errLog]

/-- A report of a logged code leaves an entry of that code in the error log, with its partition and context (R451). -/
theorem report_logged (d : Device) (code : W16) (p : Option PartNo) (ctx : Option Nat) (src : Nat) (payload : BitVec 128)
    (h : isLogged code = true) :
    ({ time := d.devTime, code := code, part := p, ctx := BitVec.ofNat 8 (ctx.getD 0), src := BitVec.ofNat 36 src,
       payload := payload } : LogEntry) ∈ (d.report code p ctx src payload).errLog := by
  rw [report_eq, announced_errLog, if_pos h]
  unfold Device.logErr
  dsimp only
  have htime : ∀ e : Device, (if e.errLog.length < 1024 then e else e.trigOn 0x020C).devTime = e.devTime := fun e => by
    split
    · rfl
    · exact (trigOn_told e _).devTime
  rw [htime, (alarmed_told d code p src payload).devTime]
  exact mem_logAppend _ _

end Sys2Proof.Machine

/-! Engines of a tile: starts, completions, and the events beside its program (R84, R95, R96, R116, R143, R150 to R153). -/

namespace Sys2Proof.Machine

/-! ### Wake requests (R409, R410) -/

/-- All that a wake request can do: nothing, or the tile joins its panel's queue, and a request that has to wait is counted. -/
theorem askWake_cases (d : Device) (t : TileNo) (rise : Bool) :
    d.askWake t rise = d ∨
    ∃ delays, d.askWake t rise = d.joined t delays ∨
      d.askWake t rise = ({ d.joined t delays with govDelays := d.govDelays + 1 } : Device).count (d.tiles[t]).bound 0x050 t.val 1 := by
  unfold Device.askWake
  dsimp only
  split
  · exact .inl rfl
  · right
    split
    · exact ⟨_, .inr rfl⟩
    · exact ⟨_, .inl rfl⟩

theorem askWake_governed (d : Device) (t : TileNo) (rise : Bool) : d.Governed (d.askWake t rise) := by
  rcases askWake_cases d t rise with h | ⟨delays, h | h⟩ <;> rw [h]
  · exact .refl d
  · exact joined_governed d t delays
  · exact (joined_governed d t delays).trans (count_governed _ _ _ _ _ _)

/-! ### Starts (R84, R95) -/

/-- The tile once an engine has started the head of its queue. -/
def Tile.started (x : Tile) (e : Eng) (h : Entry) (rest : List Entry) (now : W64) : Tile :=
  { x.consume h.word with queues := x.queues.set e.idx rest, flight := x.flight.set e.idx (x.flight[e.idx] ++ [h.start]),
                          engineSince := x.engineSince.set e.idx now, lastActive := now,
                          waited := x.waited.set e.idx.val 0, lastArray := if e = .mm then now else x.lastArray }

/-- The tile of a queue head that may start is left as `Tile.started` leaves it, but for a wake request of the tensor array. -/
theorem engineStart_tile (d : Device) (t : TileNo) (e : Eng) (h : Entry) (rest : List Entry) (hc : (d.tiles[t]).ctx.isSome = true)
    (hm : (d.tiles[t]).mode ≠ .faulted) (hl : (d.tiles[t]).level ≠ 0) (hq : (d.tiles[t]).queues[e.idx] = h :: rest)
    (hs : (d.tiles[t]).mayStart e h = true) :
    ∃ (w : Device), d.Governed w ∧ (d.engineStart t e).tiles[t] = (w.tiles[t]).started e h rest w.devTime := by
  obtain ⟨c, hc⟩ := Option.isSome_iff_exists.mp hc
  have hw : d.Governed (if (decide (e = .mm) && decide ((d.tiles[t]).level.val < 4)) = true then d.wakeRequest t else d) := by
    split
    · exact askWake_governed d t false
    · exact .refl d
  generalize hwake : (if (decide (e = .mm) && decide ((d.tiles[t]).level.val < 4)) = true then d.wakeRequest t else d) = w at hw
  have hstart : d.engineStart t e = (w.modTile t (fun x => x.started e h rest w.devTime)).traceRec 0 (t.val + 512 * e.idx.val)
      (d.tiles[t]).bound (BitVec.ofNat 16 (wClass h.word + wOp h.word <<< 4)) (BitVec.ofNat 128 (h.pcq + c.val <<< 32)) := by
    unfold Device.engineStart
    simp only [hc, hq, if_neg hm, if_neg hl, hs, Bool.not_true, Bool.false_eq_true, if_false, hwake]
    rfl
  refine ⟨w, hw, ?_⟩
  rw [hstart, traceRec_tiles, modTile_get]

/-! ### Completions (R96) -/

/-- An instruction of class 3 with SEN leaves its engine, and adds its token where there is room. -/
theorem complete_signals (d : Device) (t : TileNo) (e : Eng) (k : Nat) (f : Flight)
    (hf : ((d.tiles[t]).flight[e.idx])[k]? = some f) (hp : f.performed = true) (ha : f.awaits = 0) (h3 : wClass f.e.word = 3)
    (hs : f.signalled = false) (hsen : wSen f.e.word = true) (hroom : ((d.tiles[t]).tok[wStok f.e.word]).toNat < 255) :
    d.complete t e k = d.modTile t (fun x => { x.left e k d.devTime with
      tok := x.tok.set (wStok f.e.word) (x.tok[wStok f.e.word] + 1) }) := by
  rw [complete_of_class_three d t e k f hf hp ha h3 hs, Device.signal4, if_pos hsen, addTok_one, modTile_modTile]
  · rfl
  · rw [modTile_get]
    exact hroom

/-- Settles O11: `engineStart_tile` and `complete_signals`. -/
theorem enginesStartAndComplete : Obligations.EnginesStartAndComplete := by
  unfold Obligations.EnginesStartAndComplete
  intro s t e
  refine ⟨fun h rest hl hc hm hlev hq hs => ?_, fun k f hl hon hf hp ha h3 hsen hsig hroom => ?_⟩
  · obtain ⟨w, hw, htile⟩ := engineStart_tile s.dev t e h rest hc hm hlev hq hs
    have hx := hw.tile t
    refine ⟨_, onLive_live (fun d => d.engineStart t e) s hl, ?_⟩
    dsimp only
    rw [htile, hx]
    exact ⟨rfl, rfl, rfl, rfl⟩
  · rw [exec_instructionComplete t e k s hl hon, complete_signals s.dev t e k f hf hp ha h3 hsig hsen hroom]
    rfl

/-! ### Events beside the program -/

/-- An installed line is in the lining (R150). -/
theorem mem_install (x : Tile) (n : Nat) (g : LineTag) (data : List Byte) :
    ({ tag := g, data := data, parityBad := false } : LLine) ∈ (x.install n g data).lining := by
  unfold Tile.install
  exact List.mem_append_right _ List.mem_cons_self

theorem install_fills (x : Tile) (n : Nat) (g : LineTag) (data : List Byte) : (x.install n g data).fills = x.fills := rfl

/-- The outstanding fill ends: dropped where it was cancelled, else installed (R150, R153). -/
theorem liningFill_cancelled (d : Device) (t : TileNo) (k : Nat) (f : LFill) (hf : (d.tiles[t]).fills[k]? = some f)
    (hc : f.cancelled = true) : d.liningFill t k = d.modTile t (fun x => { x with fills := x.fills.eraseIdx k }) := by
  unfold Device.liningFill
  simp only [hf, hc, if_true]
  rfl

theorem liningFill_tile (d : Device) (t : TileNo) (k : Nat) (f : LFill) (hf : (d.tiles[t]).fills[k]? = some f)
    (hc : f.cancelled = false) : (d.liningFill t k).tiles[t] =
      ({ d.tiles[t] with fills := (d.tiles[t]).fills.eraseIdx k } : Tile).install d.freeCount f.tag f.data := by
  unfold Device.liningFill
  simp only [hf, hc, Bool.false_eq_true, if_false]
  exact modTile_get _ _ _

/-- The whole lining is emptied, and every outstanding fill cancelled (R152, R153). -/
theorem liningClear_eq (x : Tile) : x.liningClear = { x with lining := [], fills := x.fills.map (fun l => { l with cancelled := true }) } := by
  simp only [Tile.liningClear, Tile.liningInv, Bool.not_true, List.filter_false, if_true]

/-- SY LINING_INV of the whole lining. -/
theorem syLiningInv_whole (d : Device) (t : TileNo) (k : Nat) (f : Flight) (hr : d.ready t .ld k .inval = some f)
    (hw : syWhole f.e.word = true) :
    (d.syLiningInv t k).tiles[t] = { d.tiles[t] with
      lining := [], fills := (d.tiles[t]).fills.map (fun l => { l with cancelled := true }),
      flight := (d.tiles[t]).flightDone d.devTime .ld k 0 } := by
  unfold Device.syLiningInv
  simp only [hr, hw, if_true, performed_flight, modTile_modTile, modTile_get, liningClear_eq]
  rfl

/-- An engine without progress for 1 ms is logged (R116). -/
theorem engineStall_reports (d : Device) (t : TileNo) (e : Eng) (hon : (d.tiles[t]).engineOn = true)
    (hq : (d.tiles[t]).queues[e.idx] ≠ []) (hs : d.since (d.tiles[t]).engineSince[e.idx] ≥ 1000000) :
    d.engineStall t e = (d.modTile t (fun x => { x with engineSince := x.engineSince.set e.idx d.devTime })).report 0x0200
      (d.tiles[t]).bound ((d.tiles[t]).ctx.map (fun c => c.val)) (t.val + 512 * e.idx.val) 0 := by
  have hq' : ((d.tiles[t]).queues[e.idx]).isEmpty = false := List.isEmpty_eq_false_iff.mpr hq
  unfold Device.engineStall
  simp only [hon, hq', hs, Bool.not_false, decide_true, Bool.and_self, if_true]

/-- Settles O12: one lemma for each event. -/
theorem tileEvents : Obligations.TileEvents := by
  unfold Obligations.TileEvents
  intro s t
  refine ⟨fun word hl => ?_, fun k f hl hf hc => ?_, fun k f hl hf hc => ?_, fun k f hl hr hw => ?_, fun e hl hon hq hs => ?_⟩
  · exact onLive_live (fun d => d.ceWriteback t word.val) s hl
  · refine (onLive_live (fun d => d.liningFill t k) s hl).trans ?_
    rw [liningFill_cancelled s.dev t k f hf hc]
  · refine ⟨_, onLive_live (fun d => d.liningFill t k) s hl, ?_⟩
    dsimp only
    rw [liningFill_tile s.dev t k f hf hc]
    exact ⟨install_fills _ _ _ _, mem_install _ _ _ _⟩
  · refine ⟨_, onLive_live (fun d => d.syLiningInv t k) s hl, ?_⟩
    dsimp only
    rw [syLiningInv_whole s.dev t k f hr hw]
    exact ⟨rfl, rfl, rfl⟩
  · refine ⟨_, onLive_live (fun d => d.engineStall t e) s hl, ?_⟩
    dsimp only
    rw [engineStall_reports s.dev t e hon hq hs, report_tiles, modTile_get]
    exact ⟨⟨_, report_logged _ _ _ _ _ _ (by decide), rfl⟩, rfl, rfl⟩

end Sys2Proof.Machine

/-! Statements on stored bytes without the assumption that the store is in canonical form (`State.safe`): a pocket that lists an address twice
keeps the second cell when a 0 is written there, so the byte written is not read back. Each is refuted by such a pocket. -/

namespace Sys2Proof.Machine

/-- A store that lists address 0 twice. -/
def zeroTwice : Memory := [(0, 1), (0, 1)]

/-- It is not in canonical form, and writing a 0 takes away the first cell only. -/
theorem zeroTwice_write_zero : zeroTwice.wf = false ∧ (zeroTwice.write 0 [0]).get 0 = 1 := by decide

/-- The pocket of tile 0 after a command. -/
def pocketAfter (c : Instr) (s : State) : Option Memory :=
  match exec c s with
  | .next u => some (u.dev.tiles[(0 : TileNo)]).pocket
  | _ => none

theorem pocketAfter_of_next {c : Instr} {s u : State} (h : exec c s = .next u) :
    pocketAfter c s = some (u.dev.tiles[(0 : TileNo)]).pocket := by
  simp only [pocketAfter, h]

/-! ### A stored row (R101) -/

/-- The part after reset with `zeroTwice` in the pocket of tile 0. -/
def twiceDev : Device := Device.reset.modTile 0 (fun x => { x with pocket := zeroTwice })

theorem twiceDev_tile : twiceDev.tiles[(0 : TileNo)] = { Tile.reset with pocket := zeroTwice } := by
  rw [twiceDev, modTile_get]
  rfl

theorem twiceDev_clean : (twiceDev.tiles[(0 : TileNo)]).pocketBad = [] := by rw [twiceDev_tile]; rfl

/-- One byte 0 stored at offset 0 of the own pocket. -/
theorem twiceDev_putRow : twiceDev.putRow 0 0 0 0 [0] =
    (.ok, twiceDev.modTile 0 (fun x => { x with pocket := x.pocket.write 0 [0] })) := by
  unfold Device.putRow
  rw [if_neg (by decide), if_pos (by decide), ownWrite_clean _ _ _ _ _ twiceDev_clean (by decide) (by decide)]

/-- Refutes O13: the clause on a stored row does not ask for canonical stores. A byte 0 stored at an address the pocket lists twice
leaves 1 there. -/
theorem not_loadStoreResults : ¬ Obligations.LoadStoreResults := by
  unfold Obligations.LoadStoreResults
  rintro ⟨-, hrow⟩
  obtain ⟨d', hd', hbytes, -⟩ := hrow twiceDev 0 0 0 0 [0] (by decide) twiceDev_clean (by decide)
  have hdev : d' = twiceDev.modTile 0 (fun x => { x with pocket := x.pocket.write 0 [0] }) :=
    (congrArg Prod.snd hd').symm.trans (congrArg Prod.snd twiceDev_putRow)
  have hzero := hbytes 0 (by decide)
  rw [hdev, modTile_get, twiceDev_tile] at hzero
  exact absurd (zeroTwice_write_zero.2.symm.trans hzero) (by decide)

/-! ### A drained row (R68, R74) -/

/-- A started MM.DRAIN of DBASE 0, DPITCH 4 and OSC 1.0 (CLASS 2, OP 3; Tables 4.1, 4.8). -/
def drainOne : Flight :=
  { e := { word := BitVec.ofNat 128 (2 + 3 <<< 4 + 4 <<< 54 + 0x3F800000 <<< 70), recs := [], bnd := Vector.replicate 16 0, pcq := 0 },
    performed := false, signalled := false, awaits := 0, sentAt := 0, tag := none, buf := none }

/-- An output tile of one element, 0.0. -/
def zeroTile : OpenTile :=
  { m := 1, n := 1, fa := 1, fb := 1, runl := 0, outId := 0, ta := 0x3F800000, tb := 0x3F800000, elems := [[Elem.init 0 0]],
    chunks := 0 }

/-- The part after reset, but for tile 0: bound to partition 0, it runs context 0, its array has `zeroTile` open and has started
`drainOne`, and its pocket is `zeroTwice`. -/
def drainState : State :=
  { dev := Device.reset.modTile 0 (fun x =>
      { x with bound := some 0, ctx := some 0, mode := .running, pocket := zeroTwice, mm := { x.mm with tile := some zeroTile },
               flight := x.flight.set Eng.mm.idx [drainOne] }),
    pending := [] }

theorem drainState_performs : drainState.dev.performs 0 .mm 0 .drain drainOne = true := by decide +kernel

/-- The drained row is four bytes 0. -/
theorem drainState_row : (zeroTile.drained (mdMode drainOne.e.word = 1)
    (fmul (fmul zeroTile.ta zeroTile.tb) (mdOsc drainOne.e.word)))[0]?.map drainBytes = some [0, 0, 0, 0] := by decide +kernel

/-- What the drain leaves at DBASE reads 1 all the same. -/
theorem drainState_leaves_one : (pocketAfter (.mmDrain 0 (.perform 0)) drainState).map (fun m => m.read 0 4) = some [1, 0, 0, 0] := by
  decide +kernel

/-- Refutes O14: the clause on MM.DRAIN does not ask for canonical stores. An element 0.0 drained to an address the pocket lists twice
leaves 1 there. -/
theorem not_tensorResults : ¬ Obligations.TensorResults := by
  unfold Obligations.TensorResults
  intro h
  obtain ⟨-, -, -, -, hdrain⟩ := h drainState 0 0 drainOne
  obtain ⟨u, hu, -, -, hread, -⟩ := hdrain zeroTile drainState_performs rfl rfl (by decide) (by decide)
  obtain ⟨r, hr, hbytes⟩ := Option.map_eq_some_iff.mp drainState_row
  have hzero := hread (by decide) 0 r hr
  have hone := drainState_leaves_one
  rw [pocketAfter_of_next hu, Option.map_some, Option.some.injEq] at hone
  exact absurd (hone.symm.trans (hzero.trans hbytes)) (by decide)

end Sys2Proof.Machine

/-! The vector engine (R117 to R135): what it reads, what it writes, and what each of its operations leaves. -/

namespace Sys2Proof.Machine

/-! ### Stores whose form is not known -/

/-- A byte written leaves every other byte as it was, in every store. -/
theorem Memory.get_put_ne (m : Memory) (x y : Nat) (v : Byte) (h : y ≠ x) : (m.put x v).get y = m.get y := by
  induction m with
  | nil =>
    simp only [Memory.put]
    split
    · rfl
    · simp only [Memory.get, if_neg h.symm]
  | cons e m ih =>
    obtain ⟨a, b⟩ := e
    simp only [Memory.put]
    split
    · split
      · rfl
      · simp only [Memory.get, if_neg h.symm]
    · split
      · rename_i hxa
        subst hxa
        split <;> simp only [Memory.get, if_neg h.symm]
      · simp only [Memory.get, ih]

/-- So does a range written for the bytes outside it. -/
theorem Memory.get_write_outside (m : Memory) (a x : Nat) (bs : List Byte) (h : x < a ∨ a + bs.length ≤ x) :
    (m.write a bs).get x = m.get x := by
  induction bs generalizing m a with
  | nil => rfl
  | cons b bs ih =>
    rw [List.length_cons] at h
    rw [Memory.write, ih _ _ (by omega), Memory.get_put_ne _ _ _ _ (by omega)]

@[simp] theorem Memory.write_nil (m : Memory) (a : Nat) : m.write a [] = m := rfl

/-! ### Lengths -/

@[simp] theorem length_leBytes (n v : Nat) : (leBytes n v).length = n := by
  induction n generalizing v with
  | zero => rfl
  | succ n ih => simp only [leBytes, List.length_cons, ih]

@[simp] theorem length_packBytes (w : Nat) (cs : List Nat) : (packBytes w cs).length = (cs.length * w + 7) / 8 := length_leBytes _ _

@[simp] theorem length_unpackBytes (w n : Nat) (bs : List Byte) : (unpackBytes w n bs).length = n := by
  simp only [unpackBytes, List.length_map, List.length_range]

/-- A list of pieces of one length. -/
theorem length_flatMap_const {α β : Type} (l : List α) (f : α → List β) (k : Nat) (h : ∀ a ∈ l, (f a).length = k) :
    (l.flatMap f).length = l.length * k := by
  rw [List.length_flatMap, List.map_congr_left h, List.map_const', List.sum_replicate, smul_eq_mul]

/-- Elements decoded from `n` elements' bytes are `n` (R117). -/
theorem length_vxDecode (w : W128) (bs : List Byte) (n : Nat) (h : bs.length = n * vfBytes w) : (vxDecode w bs).length = n := by
  unfold vfBytes at h
  unfold vxDecode
  split at h
  · next hw => rw [if_pos hw, List.length_map, length_unpackBytes, h]; omega
  · next hw => rw [if_neg hw, List.length_map, length_unpackBytes, h]; omega

/-- Results encoded take one element's bytes each (R117). -/
theorem length_vxEncode (w : W128) (rs : List W32) : (vxEncode w rs).1.length = rs.length * vfBytes w := by
  unfold vxEncode vfBytes
  split
  · exact length_flatMap_const _ _ 4 (fun _ _ => length_leBytes _ _)
  · rw [length_flatMap_const _ _ 2 (fun _ _ => length_leBytes _ _), List.length_map]

/-! ### Accesses of the own pocket (R142) -/

/-- A range that ends below the clasp region, or is empty. -/
def rangeOk (off n : Nat) : Prop := n = 0 ∨ off + n ≤ claspBase

theorem ownRead_inside (d : Device) (t : TileNo) (e : Eng) (off n : Nat) (h : (d.tiles[t]).pocketBad = []) (hr : rangeOk off n) :
    d.ownRead t e off n = ({ st := .ok, bytes := (d.tiles[t]).pocket.read off n, at_ := 0 }, d) := by
  rcases hr with rfl | hr
  · rfl
  · exact ownRead_clean d t e off n h hr

theorem ownWrite_inside (d : Device) (t : TileNo) (e : Eng) (off : Nat) (bs : List Byte) (h : (d.tiles[t]).pocketBad = [])
    (hr : rangeOk off bs.length) :
    d.ownWrite t e off bs = (.ok, d.modTile t (fun x => { x with pocket := x.pocket.write off bs })) := by
  by_cases hb : bs = []
  · subst hb
    unfold Device.ownWrite
    rw [if_pos rfl]
    exact congrArg (Prod.mk ASt.ok) (modTile_self rfl).symm
  · exact ownWrite_clean d t e off bs h hb (hr.resolve_left (fun h0 => hb (List.length_eq_zero_iff.mp h0)))

/-- What a list of writes leaves in a store. -/
def Memory.writes (m : Memory) (l : List (Nat × List Byte)) : Memory := l.foldl (fun m r => m.write r.1 r.2) m

/-- Pocket writes in turn, every one below the clasp region. -/
theorem vxWrites_inside (d : Device) (t : TileNo) (l : List (Nat × List Byte)) (h : (d.tiles[t]).pocketBad = [])
    (hl : ∀ r ∈ l, rangeOk r.1 r.2.length) :
    (d.vxWrites t l).1.1 = .ok ∧ (d.vxWrites t l).2 = d.modTile t (fun x => { x with pocket := x.pocket.writes l }) := by
  have hfold : ∀ (l : List (Nat × List Byte)) (a : Nat) (d : Device), (d.tiles[t]).pocketBad = [] → (∀ r ∈ l, rangeOk r.1 r.2.length) →
      let f := l.foldl (fun (acc : (ASt × Nat) × Device) r =>
        if acc.1.1 ≠ .ok then acc else ((((acc.2.ownWrite t .vx r.1 r.2).1, r.1), (acc.2.ownWrite t .vx r.1 r.2).2))) ((.ok, a), d)
      f.1.1 = .ok ∧ f.2 = d.modTile t (fun x => { x with pocket := x.pocket.writes l }) := by
    intro l
    induction l with
    | nil => exact fun a d _ _ => ⟨rfl, (modTile_self rfl).symm⟩
    | cons r l ih =>
      intro a d hd hl
      dsimp only
      rw [List.foldl_cons, if_neg (by simp), ownWrite_inside d t .vx _ _ hd (hl r List.mem_cons_self)]
      obtain ⟨hok, heq⟩ := ih r.1 (d.modTile t (fun x => { x with pocket := x.pocket.write r.1 r.2 })) (by rw [modTile_get]; exact hd)
        (fun q hq => hl q (List.mem_cons_of_mem r hq))
      exact ⟨hok, heq.trans (modTile_modTile _ _ _ _)⟩
  exact hfold l 0 d h hl

/-! ### An instruction that may be performed -/

/-- What `vxPerforms` says of an instruction, clause by clause. -/
structure Device.VxReady (d : Device) (t : TileNo) (k : Nat) (op : TOp) (f : Flight) : Prop where
  live : d.live = true
  ready : d.ready t .vx k op = some f
  owner : (d.owner t).isSome = true
  clean : (d.tiles[t]).pocketBad = []
  nonempty : 0 < vxN f.e
  format : vxFormatBad op f.e.word f.e.recs = false
  shape : vxShapeBad op f.e.word f.e.recs (vxN f.e) = false
  inside : ∀ r ∈ (vxRanges op f.e.word (f.e.recs.getD 0 0) (vxN f.e)).reads ++ (vxRanges op f.e.word (f.e.recs.getD 0 0) (vxN f.e)).inplace ++
    (vxRanges op f.e.word (f.e.recs.getD 0 0) (vxN f.e)).writes, rangeOk r.1 r.2

theorem vxReady_of_performs {d : Device} {t : TileNo} {k : Nat} {op : TOp} {f : Flight} (h : d.vxPerforms t k op f = true) :
    d.VxReady t k op f := by
  simp only [Device.vxPerforms, Device.performs, Bool.and_eq_true, decide_eq_true_eq, List.isEmpty_iff, Entry.vxInside,
    List.all_eq_true, Bool.or_eq_true] at h
  obtain ⟨⟨⟨⟨⟨⟨hl, hr⟩, ho⟩, hc⟩, hn⟩, hf⟩, hi⟩ := h
  simp only [vxFaults, List.append_eq_nil_iff, ite_eq_right_iff, List.cons_ne_nil, imp_false, Bool.not_eq_true, Bool.or_eq_false_iff] at hf
  exact ⟨hl, hr, ho, hc, hn, hf.1, hf.2.1, hi⟩

/-- The part once the results of a vector instruction are written and its flags set. -/
def Device.vxDone (d : Device) (t : TileNo) (k : Nat) (o : VOut) : Device :=
  let e := d.modTile t (fun x =>
    { x with pocket := x.pocket.writes o.writes, vxStatus := x.vxStatus ||| o.vx, cvtStatus := x.cvtStatus ||| o.cvt,
             flight := x.flightDone d.devTime .vx k 0 })
  match o.report with
  | some r => { e with sentReports := e.sentReports ++ [r] }
  | none => e

/-- Results that go where the ranges of their instruction say. -/
def VOut.fits (o : VOut) (v : VRanges) : Prop := ∀ r ∈ o.writes, (r.1, r.2.length) ∈ v.writes

theorem VOut.fits_of {off : Nat} {bs : List Byte} {vx : W32} {v : VRanges} (h : v.writes = [(off, bs.length)]) :
    (VOut.of off bs vx).fits v := by
  intro r hr
  rw [VOut.of, List.mem_singleton] at hr
  subst hr
  rw [h]
  exact List.mem_singleton_self _

theorem vxDone_of (d : Device) (t : TileNo) (k off : Nat) (bs : List Byte) (vx : W32) :
    d.vxDone t k (VOut.of off bs vx) = d.vxLeaves t k off bs vx := by
  unfold Device.vxDone Device.vxLeaves
  dsimp only [VOut.of]
  refine modTile_congr ?_
  have hcvt : (d.tiles[t]).cvtStatus ||| (0 : W32) = (d.tiles[t]).cvtStatus := BitVec.or_zero
  rw [hcvt]
  rfl

namespace Device.VxReady
variable {d : Device} {t : TileNo} {k : Nat} {op : TOp} {f : Flight}

/-- A ready instruction whose operation answers results leaves them. -/
theorem run (h : d.VxReady t k op f) (F : Entry → CtxNo → Device → Except (ASt × Nat) VOut × Device) (o : CtxNo → VOut)
    (hF : ∀ c, F f.e c d = (.ok (o c), d))
    (hfit : ∀ c, (o c).fits (vxRanges op f.e.word (f.e.recs.getD 0 0) (vxN f.e))) :
    ∃ c, d.vxRun t k op F = d.vxDone t k (o c) := by
  obtain ⟨⟨p, c⟩, hown⟩ := Option.isSome_iff_exists.mp h.owner
  have hins : ∀ r ∈ (o c).writes, rangeOk r.1 r.2.length := fun r hr =>
    h.inside (r.1, r.2.length) (List.mem_append_right _ (hfit c r hr))
  have hfind : ((vxRanges op f.e.word (f.e.recs.getD 0 0) (vxN f.e)).reads ++ (vxRanges op f.e.word (f.e.recs.getD 0 0) (vxN f.e)).inplace ++
      (vxRanges op f.e.word (f.e.recs.getD 0 0) (vxN f.e)).writes).find? (fun r => r.2 ≠ 0 && decide (r.1 + r.2 > claspBase)) = none := by
    rw [List.find?_eq_none]
    intro r hr
    rcases h.inside r hr with h0 | hle
    · simp [h0]
    · simp [Nat.not_lt.mpr hle]
  obtain ⟨hok, hdev⟩ := vxWrites_inside d t (o c).writes h.clean hins
  refine ⟨c, ?_⟩
  unfold Device.vxRun
  simp only [h.ready, hown, if_neg h.nonempty.ne', hfind, hF, hok, hdev, ne_eq, not_true_eq_false, if_false, Device.orVx, Device.orCvt,
    modTile_modTile, performed_flight]
  unfold Device.vxDone
  cases (o c).report with
  | none => exact modTile_modTile d t _ _
  | some r =>
    simp only [Device.modTile, Fin.getElem_fin, Vector.getElem_set_self, Vector.set_set]
    rfl

/-- The reads of its sources. -/
theorem read (h : d.VxReady t k op f) (off : Nat) (hr : rangeOk off (vxN f.e * vfBytes f.e.word)) :
    d.vxRead t f.e.word off (vxN f.e) = (.ok ((d.tiles[t]).vxSrc f.e off), d) := by
  unfold Device.vxRead
  rw [ownRead_inside d t .vx _ _ h.clean hr]
  rfl

theorem length_src (d : Device) (t : TileNo) (e : Entry) (off : Nat) : ((d.tiles[t]).vxSrc e off).length = vxN e :=
  length_vxDecode _ _ _ (Memory.length_read _ _ _)

/-- A range read lies below the clasp region. -/
theorem reads (h : d.VxReady t k op f) {off n : Nat}
    (hm : (off, n) ∈ (vxRanges op f.e.word (f.e.recs.getD 0 0) (vxN f.e)).reads) : rangeOk off n :=
  h.inside (off, n) (List.mem_append_left _ (List.mem_append_left _ hm))

/-- So does one read in place, and one written. -/
theorem inplace (h : d.VxReady t k op f) {off n : Nat}
    (hm : (off, n) ∈ (vxRanges op f.e.word (f.e.recs.getD 0 0) (vxN f.e)).inplace) : rangeOk off n :=
  h.inside (off, n) (List.mem_append_left _ (List.mem_append_right _ hm))

theorem writes (h : d.VxReady t k op f) {off n : Nat}
    (hm : (off, n) ∈ (vxRanges op f.e.word (f.e.recs.getD 0 0) (vxN f.e)).writes) : rangeOk off n :=
  h.inside (off, n) (List.mem_append_right _ hm)

end Device.VxReady

/-! ### Element-wise operations (R118) -/

theorem vxElems_fits (w : W128) (srcs : List W32) (rs : List (W32 × W32)) (v : VRanges)
    (h : v.writes = [(vxDst w, rs.length * vfBytes w)]) : (vxElems w srcs rs).fits v := by
  refine VOut.fits_of ?_
  rw [h, length_vxEncode, List.length_map]

section
variable {d : Device} {t : TileNo} {k : Nat} {op : TOp} {f : Flight} (h : d.VxReady t k op f)
include h

theorem vxMovF_ok (c : CtxNo) (h0 : rangeOk (vxSrc0 f.e.word) (vxN f.e * vfBytes f.e.word)) :
    vxMovF t f.e c d = (.ok (VOut.of (vxDst f.e.word) ((d.tiles[t]).pocket.read (vxSrc0 f.e.word) (vxN f.e * vfBytes f.e.word))
      (nanInFlag ((d.tiles[t]).vxSrc f.e (vxSrc0 f.e.word)))), d) := by
  unfold vxMovF
  simp only [ownRead_inside d t .vx _ _ h.clean h0, if_true]
  rfl

theorem vxBin_ok (g : W32 → W32 → W32 × W32) (c : CtxNo) (h0 : rangeOk (vxSrc0 f.e.word) (vxN f.e * vfBytes f.e.word))
    (h1 : rangeOk (vxSrc1 f.e.word) (vxN f.e * vfBytes f.e.word)) :
    vxBin t g f.e c d = (.ok (vxElems f.e.word
      ((d.tiles[t]).vxSrc f.e (vxSrc0 f.e.word) ++ (d.tiles[t]).vxSrc f.e (vxSrc1 f.e.word))
      (List.zipWith g ((d.tiles[t]).vxSrc f.e (vxSrc0 f.e.word)) ((d.tiles[t]).vxSrc f.e (vxSrc1 f.e.word)))), d) := by
  unfold vxBin
  simp only [h.read _ h0, h.read _ h1, List.zip, List.map_zipWith]

theorem vxFmaF_ok (c : CtxNo) (h0 : rangeOk (vxSrc0 f.e.word) (vxN f.e * vfBytes f.e.word))
    (h1 : rangeOk (vxSrc1 f.e.word) (vxN f.e * vfBytes f.e.word)) (h2 : rangeOk (vxDst f.e.word) (vxN f.e * vfBytes f.e.word)) :
    vxFmaF t f.e c d = (.ok (vxElems f.e.word
      ((d.tiles[t]).vxSrc f.e (vxSrc0 f.e.word) ++ (d.tiles[t]).vxSrc f.e (vxSrc1 f.e.word) ++ (d.tiles[t]).vxSrc f.e (vxDst f.e.word))
      ((((d.tiles[t]).vxSrc f.e (vxSrc0 f.e.word)).zip
        (((d.tiles[t]).vxSrc f.e (vxSrc1 f.e.word)).zip ((d.tiles[t]).vxSrc f.e (vxDst f.e.word)))).map
          (fun p => withFlags (ffma p.1 p.2.1 p.2.2) [p.1, p.2.1, p.2.2]))), d) := by
  unfold vxFmaF
  simp only [h.read _ h0, h.read _ h1, h.read _ h2]

theorem vxSfuF_ok (c : CtxNo) (h0 : rangeOk (vxSrc0 f.e.word) (vxN f.e * vfBytes f.e.word)) :
    vxSfuF t f.e c d = (.ok (vxElems f.e.word ((d.tiles[t]).vxSrc f.e (vxSrc0 f.e.word))
      (((d.tiles[t]).vxSrc f.e (vxSrc0 f.e.word)).map (sfu1 (fin (vxFunc f.e.word))))), d) := by
  unfold vxSfuF
  simp only [h.read _ h0]

end

theorem vxDone_elems (d : Device) (t : TileNo) (k : Nat) (w : W128) (srcs : List W32) (rs : List (W32 × W32)) :
    d.vxDone t k (vxElems w srcs rs) = d.vxLeaves t k (vxDst w) (vxEncode w (rs.map (·.1))).1
      (nanInFlag srcs ||| orAll (rs.map (·.2)) ||| (vxEncode w (rs.map (·.1))).2) := vxDone_of _ _ _ _ _ _

/-- A row of the vector engine is a command of the islands. -/
theorem vxRow_live (t : TileNo) (k : Nat) (op : TOp) (F : Entry → CtxNo → Device → Except (ASt × Nat) VOut × Device) (s : State)
    (h : s.dev.live = true) : vxRow t (.perform k) op F s = .next { s with dev := s.dev.vxRun t k op F } := onLive_live _ s h

/-- The operations of two sources leave each result with its flags. -/
theorem vxBin_leaves (s : State) (t : TileNo) (k : Nat) (op : TOp) (f : Flight) (g : W32 → W32 → W32 × W32)
    (hv : s.dev.vxPerforms t k op f = true)
    (hr : vxRanges op f.e.word (f.e.recs.getD 0 0) (vxN f.e) =
      ⟨[(vxSrc0 f.e.word, vxN f.e * vfBytes f.e.word), (vxSrc1 f.e.word, vxN f.e * vfBytes f.e.word)], [],
        [(vxDst f.e.word, vxN f.e * vfBytes f.e.word)]⟩) :
    let A := (s.dev.tiles[t]).vxSrc f.e (vxSrc0 f.e.word)
    let B := (s.dev.tiles[t]).vxSrc f.e (vxSrc1 f.e.word)
    let r := vxEncode f.e.word (List.zipWith (fun a b => (g a b).1) A B)
    vxRow t (.perform k) op (vxBin t g) s = .next (State.mk (s.dev.vxLeaves t k (vxDst f.e.word) r.1
      (nanInFlag (A ++ B) ||| orAll (List.zipWith (fun a b => (g a b).2) A B) ||| r.2)) s.pending) := by
  intro A B r
  have h := vxReady_of_performs hv
  have h0 : rangeOk (vxSrc0 f.e.word) (vxN f.e * vfBytes f.e.word) := h.reads (by rw [hr]; exact List.mem_cons_self)
  have h1 : rangeOk (vxSrc1 f.e.word) (vxN f.e * vfBytes f.e.word) := h.reads (by rw [hr]; exact .tail _ List.mem_cons_self)
  obtain ⟨c, hrun⟩ := h.run (vxBin t g) (fun _ => _) (fun c => vxBin_ok h g c h0 h1) (fun _ => vxElems_fits _ _ _ _ (by
    rw [hr, List.length_zipWith, Device.VxReady.length_src, Device.VxReady.length_src, Nat.min_self]))
  rw [vxRow_live t k op _ s h.live, hrun, vxDone_elems, List.map_zipWith, List.map_zipWith]

/-- Operations that set no flags of their own. -/
theorem orAll_zipWith_zero (A B : List W32) : orAll (List.zipWith (fun _ _ => (0 : W32)) A B) = 0 := by
  induction A generalizing B with
  | nil => rfl
  | cons a A ih =>
    cases B with
    | nil => rfl
    | cons b B =>
      have hor : (0 : W32) ||| 0 = 0 := rfl
      simpa only [orAll, List.zipWith_cons_cons, List.foldl_cons, hor] using ih B

theorem vxBin_leaves_unflagged (s : State) (t : TileNo) (k : Nat) (op : TOp) (f : Flight) (g : W32 → W32 → W32)
    (hv : s.dev.vxPerforms t k op f = true)
    (hr : vxRanges op f.e.word (f.e.recs.getD 0 0) (vxN f.e) =
      ⟨[(vxSrc0 f.e.word, vxN f.e * vfBytes f.e.word), (vxSrc1 f.e.word, vxN f.e * vfBytes f.e.word)], [],
        [(vxDst f.e.word, vxN f.e * vfBytes f.e.word)]⟩) :
    let A := (s.dev.tiles[t]).vxSrc f.e (vxSrc0 f.e.word)
    let B := (s.dev.tiles[t]).vxSrc f.e (vxSrc1 f.e.word)
    let r := vxEncode f.e.word (List.zipWith g A B)
    vxRow t (.perform k) op (vxBin t (fun a b => (g a b, 0))) s =
      .next { s with dev := s.dev.vxLeaves t k (vxDst f.e.word) r.1 (nanInFlag (A ++ B) ||| r.2) } := by
  intro A B r
  rw [vxBin_leaves s t k op f (fun a b => (g a b, 0)) hv hr]
  dsimp only
  rw [orAll_zipWith_zero]
  have hzero : nanInFlag (A ++ B) ||| (0 : W32) = nanInFlag (A ++ B) := BitVec.or_zero
  rw [hzero]

/-- Settles O15: the operations of two sources through `vxBin_leaves`, MOV and FMA by what they read and write. -/
theorem vectorElementResults : Obligations.VectorElementResults := by
  unfold Obligations.VectorElementResults
  intro s t k f x e w A B C leaves
  refine ⟨fun hv => ?_, fun hv => vxBin_leaves s t k .add f _ hv rfl, fun hv => vxBin_leaves s t k .sub f _ hv rfl,
    fun hv => vxBin_leaves s t k .mul f _ hv rfl, fun hv => vxBin_leaves_unflagged s t k .max f fmax hv rfl,
    fun hv => vxBin_leaves_unflagged s t k .min f fmin hv rfl, fun hv => ?_⟩
  · have h := vxReady_of_performs hv
    have h0 : rangeOk (vxSrc0 f.e.word) (vxN f.e * vfBytes f.e.word) := h.reads List.mem_cons_self
    obtain ⟨c, hrun⟩ := h.run (vxMovF t) (fun _ => _) (fun c => vxMovF_ok h c h0) (fun _ => VOut.fits_of (by
      rw [Memory.length_read]; rfl))
    refine (vxRow_live t k .mov (vxMovF t) s h.live).trans ?_
    rw [hrun, vxDone_of]
  · have h := vxReady_of_performs hv
    have h0 : rangeOk (vxSrc0 f.e.word) (vxN f.e * vfBytes f.e.word) := h.reads List.mem_cons_self
    have h1 : rangeOk (vxSrc1 f.e.word) (vxN f.e * vfBytes f.e.word) := h.reads (.tail _ List.mem_cons_self)
    have h2 : rangeOk (vxDst f.e.word) (vxN f.e * vfBytes f.e.word) := h.writes List.mem_cons_self
    obtain ⟨c, hrun⟩ := h.run (vxFmaF t) (fun _ => _) (fun c => vxFmaF_ok h c h0 h1 h2) (fun _ => vxElems_fits _ _ _ _ (by
      simp only [List.length_map, List.length_zip, Device.VxReady.length_src, Nat.min_self]
      rfl))
    refine (vxRow_live t k .fma (vxFmaF t) s h.live).trans ?_
    rw [hrun, vxDone_elems, List.map_map, List.map_map]
    rfl

end Sys2Proof.Machine

/-! The frame of the vector engine (R119, R140): every operation answers results whose lengths are those of its ranges, and
these are all it writes. -/

namespace Sys2Proof.Machine

/-! ### Lengths of results -/

/-- Pieces of `n` elements: as many as `n` goes into the length, one more for a rest. -/
theorem length_piecesN (fuel n : Nat) (l : List W32) (hn : 0 < n) (h : l.length ≤ fuel) :
    (piecesN fuel n l).length = (l.length + n - 1) / n := by
  induction fuel generalizing l with
  | zero =>
    have hl : l.length = 0 := by omega
    rw [hl, Nat.div_eq_of_lt (by omega)]
    rfl
  | succ fuel ih =>
    unfold piecesN
    by_cases hl : l = []
    · subst hl
      rw [List.length_nil, Nat.div_eq_of_lt (by omega)]
      simp
    · have hpos : 0 < l.length := List.length_pos_iff.mpr hl
      rw [if_neg (by simp [hl, hn.ne']), List.length_cons, ih _ (by rw [List.length_drop]; omega), List.length_drop]
      by_cases hle : l.length ≤ n
      · have h0 : l.length - n = 0 := by omega
        have h1 : l.length + n - 1 = (l.length - 1) + n := by omega
        rw [h0, h1, Nat.add_div_right _ hn, Nat.div_eq_of_lt (by omega), Nat.div_eq_of_lt (by omega)]
      · have h1 : l.length + n - 1 = (l.length - n + n - 1) + n := by omega
        rw [h1, Nat.add_div_right _ hn]

theorem length_pieces (n : Nat) (l : List W32) (hn : 0 < n) : (pieces n l).length = (l.length + n - 1) / n :=
  length_piecesN _ n l hn le_rfl

/-- The pieces are the list. -/
theorem flatten_piecesN (fuel n : Nat) (l : List W32) (hn : 0 < n) (h : l.length ≤ fuel) : (piecesN fuel n l).flatten = l := by
  induction fuel generalizing l with
  | zero => exact (List.length_eq_zero_iff.mp (by omega : l.length = 0)).symm
  | succ fuel ih =>
    unfold piecesN
    by_cases hl : l = []
    · subst hl
      simp
    · have hpos : 0 < l.length := List.length_pos_iff.mpr hl
      rw [if_neg (by simp [hl, hn.ne']), List.flatten_cons, ih _ (by rw [List.length_drop]; omega), List.take_append_drop]

theorem length_redOut (fn : Nat) (xs : List W32) (h : fn ≤ 5) :
    (redOut fn xs).1.length = if fn = 3 || fn = 4 then 8 else 4 := by
  have hfn : fn = 0 ∨ fn = 1 ∨ fn = 2 ∨ fn = 3 ∨ fn = 4 ∨ fn = 5 := by omega
  rcases hfn with rfl | rfl | rfl | rfl | rfl | rfl <;> simp [redOut]

theorem length_selection_le (small : Bool) (k : Nat) (es acc : List (W32 × Nat)) (h : acc.length ≤ k) :
    (es.foldl (fun acc e => (selInsert small e acc).take k) acc).length ≤ k := by
  induction es generalizing acc with
  | nil => exact h
  | cons e es ih => exact ih _ (List.length_take_le _ _)

/-- A selection of `k` entries is completed to `k` (R132, R133). -/
theorem length_selectK (small : Bool) (k : Nat) (es : List (W32 × Nat)) : (selectK small k es).length = k := by
  unfold selectK
  have hle := length_selection_le small k es [] (Nat.zero_le _)
  rw [List.length_append, List.length_replicate]
  omega

theorem length_selBytes (l : List (W32 × Nat)) : (selBytes l).length = 8 * l.length := by
  unfold selBytes
  rw [length_flatMap_const l _ 8 (fun _ _ => by rw [List.length_append, length_leBytes, length_leBytes]), Nat.mul_comm]

theorem length_butterfly (st : Nat) (x : List W32) : (butterfly st x).1.length = x.length := by
  simp only [butterfly, List.length_map, List.length_range]

theorem length_rotGroup (lg : Nat) (inverse : Bool) (seed i0 : Nat) (x : List W32) :
    (rotGroup lg inverse seed i0 x).1.length = x.length := by
  have hfold : ∀ (l : List Nat) (acc : List W32 × W32), ((l.foldl (fun (acc : List W32 × W32) st =>
      ((butterfly st acc.1).1, acc.2 ||| (butterfly st acc.1).2)) acc)).1.length = acc.1.length := by
    intro l
    induction l with
    | nil => exact fun _ => rfl
    | cons st l ih => exact fun acc => (ih _).trans (length_butterfly _ _)
  unfold rotGroup
  dsimp only
  cases inverse <;>
    simp only [Bool.false_eq_true, if_true, if_false, List.length_map, List.length_zipIdx, hfold]

/-- Every encoded block has a code for each of its elements. -/
theorem length_encodeBlock (f : Fmt) (ceil : Bool) (t : W32) (rnd : Nat → Rnd) (i0 : Nat) (xs : List W32) :
    (encodeBlock f ceil t rnd i0 xs).codes.length = xs.length := by
  unfold encodeBlock
  dsimp only
  repeat' split
  all_goals simp [nanBlock, zeroBlock, encodeElems]

/-! ### Operations answer what fits their ranges -/

/-- An operation of a ready instruction answers results that fit its ranges, and changes nothing itself. -/
def Device.vxAnswers (d : Device) (op : TOp) (f : Flight) (F : Entry → CtxNo → Device → Except (ASt × Nat) VOut × Device) : Prop :=
  ∀ c, ∃ o, F f.e c d = (.ok o, d) ∧ o.fits (vxRanges op f.e.word (f.e.recs.getD 0 0) (vxN f.e))

section
variable {d : Device} {t : TileNo} {k : Nat} {f : Flight}

theorem vxBin_answers (op : TOp) (g : W32 → W32 → W32 × W32) (h : d.VxReady t k op f)
    (hr : vxRanges op f.e.word (f.e.recs.getD 0 0) (vxN f.e) =
      ⟨[(vxSrc0 f.e.word, vxN f.e * vfBytes f.e.word), (vxSrc1 f.e.word, vxN f.e * vfBytes f.e.word)], [],
        [(vxDst f.e.word, vxN f.e * vfBytes f.e.word)]⟩) : d.vxAnswers op f (vxBin t g) := fun c =>
  ⟨_, vxBin_ok h g c (h.reads (by rw [hr]; exact List.mem_cons_self)) (h.reads (by rw [hr]; exact .tail _ List.mem_cons_self)),
    vxElems_fits _ _ _ _ (by
      rw [hr, List.length_zipWith, Device.VxReady.length_src, Device.VxReady.length_src, Nat.min_self])⟩

theorem vxMovF_answers (h : d.VxReady t k .mov f) : d.vxAnswers .mov f (vxMovF t) := fun c =>
  ⟨_, vxMovF_ok h c (h.reads List.mem_cons_self), VOut.fits_of (by rw [Memory.length_read]; rfl)⟩

theorem vxFmaF_answers (h : d.VxReady t k .fma f) : d.vxAnswers .fma f (vxFmaF t) := fun c =>
  ⟨_, vxFmaF_ok h c (h.reads List.mem_cons_self) (h.reads (.tail _ List.mem_cons_self)) (h.writes List.mem_cons_self),
    vxElems_fits _ _ _ _ (by
      simp only [List.length_map, List.length_zip, Device.VxReady.length_src, Nat.min_self]
      rfl)⟩

theorem vxSfuF_answers (h : d.VxReady t k .sfu f) : d.vxAnswers .sfu f (vxSfuF t) := fun c =>
  ⟨_, vxSfuF_ok h c (h.reads List.mem_cons_self), vxElems_fits _ _ _ _ (by
    rw [List.length_map, Device.VxReady.length_src]
    rfl)⟩

/-- What the shape rules say of FUNC of a reduction, and of the length of a quantised vector (R119, R125). -/
theorem func_le_of_red (h : d.VxReady t k .red f) : vxFunc f.e.word ≤ 5 := by
  have hs := h.shape
  simp only [vxShapeBad, Bool.or_eq_false_iff] at hs
  obtain ⟨⟨⟨⟨⟨⟨-, hfunc⟩, -⟩, -⟩, -⟩, -⟩, -⟩ := hs
  simpa using hfunc

theorem block_dvd_of_quant (h : d.VxReady t k .quant f) (hr : f.e.recs ≠ []) (hb : (crFmt (f.e.recs.getD 0 0)).isBlock = true) :
    vxN f.e % (crFmt (f.e.recs.getD 0 0)).block = 0 := by
  have hs := h.shape
  simp only [vxShapeBad, Bool.or_eq_false_iff] at hs
  obtain ⟨⟨-, hquant⟩, -⟩ := hs
  have himp : (crFmt (f.e.recs.getD 0 0)).isBlock = true → vxN f.e % (crFmt (f.e.recs.getD 0 0)).block = 0 := by
    simpa [List.isEmpty_eq_false_iff.mpr hr] using hquant
  exact himp hb

/-- VX.QUANT has a block target (R125). -/
theorem isBlock_of_quant (h : d.VxReady t k .quant f) (hr : f.e.recs ≠ []) : (crFmt (f.e.recs.getD 0 0)).isBlock = true := by
  have hf := h.format
  simp only [vxFormatBad, Bool.or_eq_false_iff] at hf
  simpa [List.isEmpty_eq_false_iff.mpr hr] using hf.2

theorem vxRedF_answers (h : d.VxReady t k .red f) : d.vxAnswers .red f (vxRedF t) := fun c => by
  unfold vxRedF
  simp only [h.read _ (h.reads List.mem_cons_self)]
  exact ⟨_, rfl, VOut.fits_of (by rw [length_redOut _ _ (func_le_of_red h)]; rfl)⟩

theorem vxTopkF_answers (h : d.VxReady t k .topk f) : d.vxAnswers .topk f (vxTopkF t) := fun c => by
  unfold vxTopkF
  simp only [h.read _ (h.reads List.mem_cons_self)]
  exact ⟨_, rfl, VOut.fits_of (by rw [length_selBytes, length_selectK]; rfl)⟩

theorem vxTopkMergeF_answers (h : d.VxReady t k .topkMerge f) : d.vxAnswers .topkMerge f (vxTopkMergeF t) := fun c => by
  unfold vxTopkMergeF
  simp only [ownRead_inside d t .vx _ _ h.clean (h.reads List.mem_cons_self), ne_eq, not_true_eq_false, if_false]
  exact ⟨_, rfl, VOut.fits_of (by rw [length_selBytes, length_selectK]; rfl)⟩

theorem vxRotF_answers (h : d.VxReady t k .rot f) : d.vxAnswers .rot f (vxRotF t) := fun c => by
  have hpos : 0 < 2 ^ (vxFunc f.e.word % 16) := Nat.two_pow_pos _
  unfold vxRotF
  simp only [h.read _ (h.reads List.mem_cons_self)]
  refine ⟨_, rfl, VOut.fits_of ?_⟩
  rw [length_vxEncode]
  have hlen : ∀ (ps : List (List W32)) (i : Nat) (g : List W32 × Nat → List W32 × W32), (∀ q, (g q).1.length = q.1.length) →
      (((ps.zipIdx i).map g).flatMap (·.1)).length = ps.flatten.length := by
    intro ps
    induction ps with
    | nil => exact fun _ _ _ => rfl
    | cons p ps ih =>
      intro i g hg
      simp only [List.zipIdx_cons, List.map_cons, List.flatMap_cons, List.length_append, List.flatten_cons, hg, ih (i + 1) g hg]
  rw [hlen _ 0 _ (fun q => length_rotGroup _ _ _ _ _), pieces, flatten_piecesN _ _ _ hpos le_rfl, Device.VxReady.length_src]
  rfl

theorem vxAmaxF_answers (h : d.VxReady t k .amax f) : d.vxAnswers .amax f (vxAmaxF t) := fun c => by
  have hranges : vxRanges .amax f.e.word (f.e.recs.getD 0 0) (vxN f.e) =
      if vxFunc f.e.word % 2 = 1 then
        ⟨[(vxSrc0 f.e.word, vxN f.e * vfBytes f.e.word), (vxSrc1 f.e.word, 32)], [],
          [(vxDst f.e.word, 4 * ((vxN f.e + (if (crFmt (f.e.recs.getD 0 0)).isBlock then (crFmt (f.e.recs.getD 0 0)).block else 32) - 1) /
            (if (crFmt (f.e.recs.getD 0 0)).isBlock then (crFmt (f.e.recs.getD 0 0)).block else 32)))]⟩
      else ⟨[(vxSrc0 f.e.word, vxN f.e * vfBytes f.e.word)],
        if vxFunc f.e.word / 2 % 2 = 1 then [(vxDst f.e.word, 4)] else [], [(vxDst f.e.word, 4)]⟩ := rfl
  have h0 : rangeOk (vxSrc0 f.e.word) (vxN f.e * vfBytes f.e.word) := h.reads (by
    rw [hranges]
    split <;> exact List.mem_cons_self)
  unfold vxAmaxF
  simp only [h.read _ h0]
  by_cases hblock : vxFunc f.e.word % 2 = 1
  · rw [if_pos hblock] at hranges
    simp only [hblock, if_true]
    refine ⟨_, rfl, VOut.fits_of ?_⟩
    have hpos : 0 < if (crFmt (f.e.recs.getD 0 0)).isBlock = true then (crFmt (f.e.recs.getD 0 0)).block else 32 := by
      split
      · next hb => exact Nat.pos_of_ne_zero (by simpa [Fmt.isBlock] using hb)
      · decide
    rw [length_flatMap_const _ _ 4 (fun _ _ => length_leBytes _ _), List.length_map, hranges, ← crFmt, length_pieces _ _ hpos,
      Device.VxReady.length_src, Nat.mul_comm _ 4]
  · rw [if_neg hblock] at hranges
    simp only [hblock, if_false]
    by_cases hacc : vxFunc f.e.word / 2 % 2 = 1
    · have hold : rangeOk (vxDst f.e.word) 4 := h.writes (by rw [hranges]; exact List.mem_cons_self)
      simp only [hacc, if_true, ownRead_inside d t .vx _ _ h.clean hold, ne_eq, not_true_eq_false, if_false]
      exact ⟨_, rfl, VOut.fits_of (by rw [hranges, length_leBytes])⟩
    · simp only [hacc, if_false]
      exact ⟨_, rfl, VOut.fits_of (by rw [hranges, length_leBytes])⟩

/-! ### Conversions (R125 to R129) -/

/-- The ranges of a conversion, of its scale and of its statistics. -/
def convScaleReads (r : W256) (g : Fmt) : List (Nat × Nat) :=
  if g.isMx then [] else if (if crTmode r = 1 then deriveWords g else 0) ≠ 0 then [(crAoff r, 4)]
  else if g.isBlock || convMul (crCtl r) g then [(crTsc r, 4)] else []

def convWrites (quant : Bool) (w : W128) (r : W256) (n : Nat) (g : Fmt) : List (Nat × Nat) :=
  [(vxDst w, (n * g.bits + 7) / 8)] ++ (if quant then [(crPsc r, if g.block = 0 then 0 else n / g.block)] else [])
    ++ (if (if crTmode r = 1 then deriveWords g else 0) ≠ 0 && !g.isMx then [(crTsc r, 4 * if crTmode r = 1 then deriveWords g else 0)] else [])
    ++ (if crSten r then [(crStat r, 32)] else [])

theorem vxRanges_conv (quant : Bool) (w : W128) (r : W256) (n : Nat) :
    vxRanges (if quant then .quant else .cvt) w r n =
      ⟨[(vxSrc0 w, n * vfBytes w), (vxSrc1 w, 32)] ++ convScaleReads r (crFmt r),
        if crSten r && crStacc r then [(crStat r, 32)] else [], convWrites quant w r n (crFmt r)⟩ := by
  cases quant <;> rfl

/-- Formats TMODE 1 derives a word for have no MX scale (Table 5.3). -/
theorem not_isMx_of_deriveWords {g : Fmt} (h : deriveWords g ≠ 0) : g.isMx = false := by
  revert h
  cases g <;> decide

theorem length_derived (g : Fmt) (a : W32) (h : deriveWords g ≠ 0) : (derived g a).length = deriveWords g := by
  revert h
  unfold derived
  dsimp only
  cases g <;> split <;> simp [deriveWords]

/-- A target whose stored scale or multiplier is read has no MX scale. -/
theorem not_isMx_of_stored {c : Nat} {g : Fmt} (h : (g.isBlock && !g.isMx || convMul c g) = true) : g.isMx = false := by
  revert h
  cases g <;> simp [Fmt.isMx, convMul, takesMul]

/-- Where a stored scale is read, it lies in a range of the instruction. -/
theorem convStored_inside (quant : Bool) (r : W256) (hr : r = f.e.recs.getD 0 0) (h : d.VxReady t k (if quant then .quant else .cvt) f)
    (hs : ((crFmt r).isBlock && !(crFmt r).isMx || convMul (crCtl r) (crFmt r)) = true) : rangeOk (crTsc r) 4 := by
  have hmx := not_isMx_of_stored hs
  have hread : ((crFmt r).isBlock || convMul (crCtl r) (crFmt r)) = true := by simpa [hmx] using hs
  by_cases hder : crTmode r = 1 ∧ deriveWords (crFmt r) ≠ 0
  · have hw : rangeOk (crTsc r) (4 * deriveWords (crFmt r)) := h.writes (by
      rw [← hr, vxRanges_conv]
      simp [convWrites, hder.1, hder.2, hmx])
    unfold rangeOk at hw ⊢
    omega
  · have hdr : (if crTmode r = 1 then deriveWords (crFmt r) else 0) = 0 := by
      split
      · next hm => exact not_not.mp (fun hne => hder ⟨hm, hne⟩)
      · rfl
    exact h.reads (by
      rw [← hr, vxRanges_conv]
      simp [convScaleReads, hdr, hmx, hread])

/-- The scale of a conversion: what it reads lies in its ranges, and what it derives fills the words at TSC. -/
theorem convScale_ok (quant : Bool) (r : W256) (hr : r = f.e.recs.getD 0 0)
    (h : d.VxReady t k (if quant then .quant else .cvt) f) :
    ∃ tw used fl, d.convScale t r (crFmt r) = (.ok (tw, used, fl), d) ∧
      (tw = [] ∨ (crTmode r = 1 ∧ deriveWords (crFmt r) ≠ 0 ∧ tw.length = deriveWords (crFmt r))) := by
  have hstored := convStored_inside quant r hr h
  unfold Device.convScale
  dsimp only
  by_cases hder : crTmode r = 1 ∧ deriveWords (crFmt r) ≠ 0
  · have hmx := not_isMx_of_deriveWords hder.2
    have ha : rangeOk (crAoff r) 4 := h.reads (by
      rw [← hr, vxRanges_conv]
      simp [convScaleReads, hder.1, hder.2, hmx])
    simp only [hder.1, hder.2, ownRead_inside d t .vx _ _ h.clean ha, ne_eq, not_true_eq_false, not_false_eq_true, decide_true,
      Bool.and_self, if_true, if_false]
    split
    · exact ⟨_, _, _, rfl, .inr ⟨trivial, trivial, length_derived _ _ hder.2⟩⟩
    · split
      · next hs =>
        simp only [ownRead_inside d t .vx _ _ h.clean (hstored hs), if_true]
        exact ⟨_, _, _, rfl, .inl rfl⟩
      · exact ⟨_, _, _, rfl, .inl rfl⟩
  · have hno : (decide (crTmode r = 1) && decide (deriveWords (crFmt r) ≠ 0)) = false := by simpa using hder
    simp only [hno, Bool.false_eq_true, if_false]
    split
    · next hs =>
      simp only [ownRead_inside d t .vx _ _ h.clean (hstored hs), if_true]
      exact ⟨_, _, _, rfl, .inl rfl⟩
    · exact ⟨_, _, _, rfl, .inl rfl⟩

/-- Codes of a scalar conversion are as many as its elements. -/
theorem length_encodeScalars (w : W128) (r : W256) (g : Fmt) (m : Option W32) (seed : Nat) (xs : List W32) :
    (encodeScalars w r g m seed xs).codes.length = xs.length := by
  simp only [encodeScalars, List.length_map, List.length_zipIdx]

/-- Codes of whole blocks are as many as the elements, scales as many as the blocks. -/
theorem length_encodeBlocks (r : W256) (g : Fmt) (m : W32) (seed : Nat) (xs : List W32) (hb : g.block ≠ 0)
    (hd : xs.length % g.block = 0) :
    (encodeBlocks r g m seed xs).codes.length = xs.length ∧ (encodeBlocks r g m seed xs).scales.length = xs.length / g.block := by
  have hpos := Nat.pos_of_ne_zero hb
  have hcodes : ∀ (ps : List (List W32)) (i : Nat) (F : List W32 × Nat → BlockEnc), (∀ q, (F q).codes.length = q.1.length) →
      (((ps.zipIdx i).map F).flatMap (·.codes)).length = ps.flatten.length := by
    intro ps
    induction ps with
    | nil => exact fun _ _ _ => rfl
    | cons p ps ih =>
      intro i F hF
      simp only [List.zipIdx_cons, List.map_cons, List.flatMap_cons, List.length_append, List.flatten_cons, hF, ih (i + 1) F hF]
  unfold encodeBlocks
  refine ⟨?_, ?_⟩
  · dsimp only
    rw [hcodes _ 0 _ (fun q => length_encodeBlock _ _ _ _ _ _), pieces, flatten_piecesN _ _ _ hpos le_rfl]
  · simp only [List.length_map, List.length_zipIdx, length_pieces _ _ hpos]
    obtain ⟨q, hq⟩ := Nat.dvd_of_mod_eq_zero hd
    rw [hq, Nat.mul_div_cancel_left _ hpos, Nat.add_sub_assoc (by omega), Nat.mul_add_div hpos, Nat.div_eq_of_lt (by omega),
      Nat.add_zero]

/-- The codes and scales of a conversion. -/
def convOut (quant : Bool) (w : W128) (r : W256) (g : Fmt) (used : Option W32) (seed : Nat) (xs : List W32) : QOut :=
  if quant then encodeBlocks r g (used.getD f32one) seed xs else encodeScalars w r g used seed xs

/-- What a conversion writes before its statistics. -/
def convResults (quant : Bool) (w : W128) (r : W256) (g : Fmt) (q : QOut) (tw : List W32) : List (Nat × List Byte) :=
  [(vxDst w, packBytes g.bits q.codes)] ++ (if quant then [(crPsc r, q.scales.map (BitVec.ofNat 8))] else [])
    ++ (if tw = [] then [] else [(crTsc r, tw.flatMap (fun v => leBytes 4 v.toNat))])

theorem convResults_fit (quant : Bool) (w : W128) (r : W256) (g : Fmt) (q : QOut) (tw : List W32) (n : Nat) (hc : q.codes.length = n)
    (hs : quant = true → g.block ≠ 0 ∧ q.scales.length = n / g.block)
    (htw : tw = [] ∨ (crTmode r = 1 ∧ deriveWords g ≠ 0 ∧ tw.length = deriveWords g)) :
    ∀ p ∈ convResults quant w r g q tw, (p.1, p.2.length) ∈ convWrites quant w r n g := by
  intro p hp
  unfold convResults at hp
  unfold convWrites
  simp only [List.mem_append] at hp ⊢
  rcases hp with (hp | hp) | hp
  · rw [List.mem_singleton] at hp
    subst hp
    rw [length_packBytes, hc]
    exact .inl (.inl (.inl (List.mem_singleton_self _)))
  · cases quant with
    | false => exact absurd hp List.not_mem_nil
    | true =>
      rw [if_pos rfl, List.mem_singleton] at hp
      subst hp
      obtain ⟨hb, hlen⟩ := hs rfl
      rw [List.length_map, hlen, if_neg hb]
      exact .inl (.inl (.inr (List.mem_singleton_self _)))
  · split at hp
    · exact absurd hp List.not_mem_nil
    · next hne =>
      rw [List.mem_singleton] at hp
      subst hp
      obtain ⟨hm, hd, hlen⟩ := htw.resolve_left hne
      refine .inl (.inr ?_)
      rw [length_flatMap_const _ _ 4 (fun _ _ => length_leBytes _ _), hlen, Nat.mul_comm]
      simp [hm, hd, not_isMx_of_deriveWords hd]

/-- VX.CVT and VX.QUANT. -/
theorem vxConvF_answers (quant : Bool) (h : d.VxReady t k (if quant then .quant else .cvt) f)
    (hq : quant = true → (crFmt (f.e.recs.getD 0 0)).isBlock = true ∧ vxN f.e % (crFmt (f.e.recs.getD 0 0)).block = 0) :
    d.vxAnswers (if quant then .quant else .cvt) f (vxConvF t quant) := fun c => by
  obtain ⟨tw, used, fl, hscale, htw⟩ := convScale_ok quant _ rfl h
  have h0 : rangeOk (vxSrc0 f.e.word) (vxN f.e * vfBytes f.e.word) := h.reads (by
    rw [vxRanges_conv]
    exact List.mem_cons_self)
  have hsrc := Device.VxReady.length_src d t f.e (vxSrc0 f.e.word)
  have hfit : ∀ seed, ∀ p ∈ convResults quant f.e.word (f.e.recs.getD 0 0) (crFmt (f.e.recs.getD 0 0))
      (convOut quant f.e.word (f.e.recs.getD 0 0) (crFmt (f.e.recs.getD 0 0)) used seed ((d.tiles[t]).vxSrc f.e (vxSrc0 f.e.word))) tw,
      (p.1, p.2.length) ∈ convWrites quant f.e.word (f.e.recs.getD 0 0) (vxN f.e) (crFmt (f.e.recs.getD 0 0)) := by
    intro seed
    refine convResults_fit _ _ _ _ _ _ _ ?_ ?_ htw
    · cases quant with
      | false => exact (length_encodeScalars _ _ _ _ _ _).trans hsrc
      | true =>
        obtain ⟨hb, hd⟩ := hq rfl
        exact (length_encodeBlocks _ _ _ _ _ (by simpa [Fmt.isBlock] using hb) (by rw [hsrc]; exact hd)).1.trans hsrc
    · rintro rfl
      obtain ⟨hb, hd⟩ := hq rfl
      have hb' : (crFmt (f.e.recs.getD 0 0)).block ≠ 0 := by simpa [Fmt.isBlock] using hb
      have hlen := (length_encodeBlocks (f.e.recs.getD 0 0) _ (used.getD f32one) seed _ hb' (by rw [hsrc]; exact hd)).2
      rw [hsrc] at hlen
      exact ⟨hb', hlen⟩
  have hfmt : (Fmt.ofCode (ctlFmt (crCtl (f.e.recs.getD 0 0)))).getD .fp32 = crFmt (f.e.recs.getD 0 0) := rfl
  have hwrites : convWrites quant f.e.word (f.e.recs.getD 0 0) (vxN f.e) (crFmt (f.e.recs.getD 0 0))
      = (vxRanges (if quant then .quant else .cvt) f.e.word (f.e.recs.getD 0 0) (vxN f.e)).writes := by rw [vxRanges_conv]
  unfold vxConvF
  simp only [h.read _ h0, hfmt, hscale]
  by_cases hsten : crSten (f.e.recs.getD 0 0) = true
  · have hstat : ∀ rec_ : W256, (crStat (f.e.recs.getD 0 0), (leBytes 32 rec_.toNat).length)
        ∈ convWrites quant f.e.word (f.e.recs.getD 0 0) (vxN f.e) (crFmt (f.e.recs.getD 0 0)) := by
      intro rec_
      unfold convWrites
      rw [length_leBytes, if_pos hsten]
      exact List.mem_append_right _ (List.mem_singleton_self _)
    have hin : ∀ seed, ∀ rec_ : W256, ∀ p ∈ convResults quant f.e.word (f.e.recs.getD 0 0) (crFmt (f.e.recs.getD 0 0))
        (convOut quant f.e.word (f.e.recs.getD 0 0) (crFmt (f.e.recs.getD 0 0)) used seed
          ((d.tiles[t]).vxSrc f.e (vxSrc0 f.e.word))) tw ++ [(crStat (f.e.recs.getD 0 0), leBytes 32 rec_.toNat)],
        (p.1, p.2.length) ∈ (vxRanges (if quant then .quant else .cvt) f.e.word (f.e.recs.getD 0 0) (vxN f.e)).writes := by
      intro seed rec_ p hp
      rw [← hwrites]
      rcases List.mem_append.mp hp with hp | hp
      · exact hfit seed p hp
      · rw [List.mem_singleton.mp hp]
        exact hstat rec_
    by_cases hacc : crStacc (f.e.recs.getD 0 0) = true
    · have hr : rangeOk (crStat (f.e.recs.getD 0 0)) 32 := h.inplace (by
        rw [vxRanges_conv, hsten, hacc]
        exact List.mem_singleton_self _)
      simp only [hsten, hacc, if_true, ownRead_inside d t .vx _ _ h.clean hr, ne_eq, not_true_eq_false, if_false]
      exact ⟨_, rfl, hin _ _⟩
    · simp only [hsten, hacc, if_true, Bool.false_eq_true, if_false, ne_eq, not_true_eq_false]
      exact ⟨_, rfl, hin _ _⟩
  · simp only [hsten, Bool.false_eq_true, if_false]
    refine ⟨_, rfl, ?_⟩
    intro p hp
    rw [← hwrites]
    exact hfit _ p hp

end

/-! ### The frame -/

/-- Bytes outside every range written stay. -/
theorem Memory.get_writes_outside (m : Memory) (l : List (Nat × List Byte)) (a : Nat)
    (h : ∀ r ∈ l, a < r.1 ∨ r.1 + r.2.length ≤ a) : (m.writes l).get a = m.get a := by
  induction l generalizing m with
  | nil => rfl
  | cons r l ih =>
    refine (ih (m.write r.1 r.2) (fun q hq => h q (List.mem_cons_of_mem _ hq))).trans ?_
    exact Memory.get_write_outside m r.1 a r.2 (h r List.mem_cons_self)

/-- What a vector instruction that is done leaves alone: everything but its own tile's pocket, status and progress. -/
theorem vxDone_frame (d : Device) (t : TileNo) (k : Nat) (o : VOut) :
    ((d.vxDone t k o).tiles[t]).flight = (d.tiles[t]).flightDone d.devTime .vx k 0 ∧
    ((d.vxDone t k o).tiles[t]).pocket = (d.tiles[t]).pocket.writes o.writes ∧
    (∀ v : TileNo, v ≠ t → (d.vxDone t k o).tiles[v] = d.tiles[v]) ∧
    (d.vxDone t k o).hbm = d.hbm ∧ (d.vxDone t k o).tmemBytes = d.tmemBytes ∧ (d.vxDone t k o).hostMem = d.hostMem ∧
    ((d.vxDone t k o).tiles[t]).pc = (d.tiles[t]).pc ∧ ((d.vxDone t k o).tiles[t]).tok = (d.tiles[t]).tok ∧
    ((d.vxDone t k o).tiles[t]).bnd = (d.tiles[t]).bnd ∧ ((d.vxDone t k o).tiles[t]).watches = (d.tiles[t]).watches := by
  unfold Device.vxDone
  cases o.report with
  | none =>
    refine ⟨?_, ?_, fun v hv => modTile_get_ne d t v _ hv, rfl, rfl, rfl, ?_, ?_, ?_, ?_⟩ <;> simp only [modTile_get]
  | some r =>
    dsimp only
    refine ⟨?_, ?_, fun v hv => modTile_get_ne d t v _ hv, rfl, rfl, rfl, ?_, ?_, ?_, ?_⟩ <;> simp only [modTile_get]

/-- A row of the vector engine whose operation answers results of its ranges' lengths: it leaves what the frame says. -/
theorem vxRow_frame (s : State) (t : TileNo) (k : Nat) (op : TOp) (f : Flight)
    (F : Entry → CtxNo → Device → Except (ASt × Nat) VOut × Device) (hl : s.dev.live = true) (h : s.dev.VxReady t k op f)
    (hF : s.dev.vxAnswers op f F) :
    ∃ u, vxRow t (.perform k) op F s = .next u ∧
      (u.dev.tiles[t]).flight = (s.dev.tiles[t]).flightDone s.dev.devTime .vx k 0 ∧
      (∀ a, (∀ q ∈ (vxRanges op f.e.word (f.e.recs.getD 0 0) (vxN f.e)).writes, a < q.1 ∨ q.1 + q.2 ≤ a) →
        (u.dev.tiles[t]).pocket.get a = (s.dev.tiles[t]).pocket.get a) ∧
      (∀ v : TileNo, v ≠ t → u.dev.tiles[v] = s.dev.tiles[v]) ∧ u.dev.hbm = s.dev.hbm ∧
      u.dev.tmemBytes = s.dev.tmemBytes ∧ u.dev.hostMem = s.dev.hostMem ∧
      (u.dev.tiles[t]).pc = (s.dev.tiles[t]).pc ∧ (u.dev.tiles[t]).tok = (s.dev.tiles[t]).tok ∧
      (u.dev.tiles[t]).bnd = (s.dev.tiles[t]).bnd ∧ (u.dev.tiles[t]).watches = (s.dev.tiles[t]).watches := by
  choose o hF hfit using hF
  obtain ⟨c, hrun⟩ := h.run F o hF hfit
  obtain ⟨hflight, hpocket, hrest⟩ := vxDone_frame s.dev t k (o c)
  refine ⟨State.mk (s.dev.vxDone t k (o c)) s.pending, ?_, hflight, fun a ha => ?_, hrest⟩
  · rw [vxRow_live t k op F s hl, hrun]
  · change (((s.dev.vxDone t k (o c)).tiles[t]).pocket).get a = _
    rw [hpocket]
    exact Memory.get_writes_outside _ _ _ (fun r hr => ha _ (hfit c r hr))

/-- Settles O18: each operation of the engine answers results that fill ranges it names, and writes these alone. -/
theorem vectorFrame : Obligations.VectorFrame := by
  unfold Obligations.VectorFrame
  intro row hrow s t k f hp hrecs
  have h := vxReady_of_performs hp
  have hl : s.dev.live = true := by
    simp only [Device.vxPerforms, Device.performs, Bool.and_eq_true] at hp
    exact hp.1.1.1.1.1.1
  simp only [vectorRows, elementRows, unitRows, List.cons_append, List.nil_append, List.mem_cons, List.not_mem_nil, or_false] at hrow
  rcases hrow with rfl | rfl | rfl | rfl | rfl | rfl | rfl | rfl | rfl | rfl | rfl | rfl | rfl | rfl | rfl
  · exact vxRow_frame s t k .mov f _ hl h (vxMovF_answers h)
  · exact vxRow_frame s t k .add f _ hl h (vxBin_answers _ _ h rfl)
  · exact vxRow_frame s t k .sub f _ hl h (vxBin_answers _ _ h rfl)
  · exact vxRow_frame s t k .mul f _ hl h (vxBin_answers _ _ h rfl)
  · exact vxRow_frame s t k .fma f _ hl h (vxFmaF_answers h)
  · exact vxRow_frame s t k .max f _ hl h (vxBin_answers _ _ h rfl)
  · exact vxRow_frame s t k .min f _ hl h (vxBin_answers _ _ h rfl)
  · exact vxRow_frame s t k .sfu f _ hl h (vxSfuF_answers h)
  · exact vxRow_frame s t k .red f _ hl h (vxRedF_answers h)
  · exact vxRow_frame s t k .amax f _ hl h (vxAmaxF_answers h)
  · exact vxRow_frame s t k .cvt f _ hl h (vxConvF_answers false h nofun)
  · have hr := hrecs (.inr (.inl rfl))
    have hb := isBlock_of_quant h hr
    exact vxRow_frame s t k .quant f _ hl h (vxConvF_answers true h (fun _ => ⟨hb, block_dvd_of_quant h hr hb⟩))
  · exact vxRow_frame s t k .rot f _ hl h (vxRotF_answers h)
  · exact vxRow_frame s t k .topk f _ hl h (vxTopkF_answers h)
  · exact vxRow_frame s t k .topkMerge f _ hl h (vxTopkMergeF_answers h)

end Sys2Proof.Machine

/-! More statements that read stored bytes back without asking for canonical stores (`State.safe`). -/

namespace Sys2Proof.Machine

/-! ### The operand of a watch (R110) -/

/-- A store that lists the lowest byte at offset 8 twice. -/
def eightTwice : Memory := [(8, 1), (8, 1)]

/-- A started CL.WATCH on clasp 0 of its own tile, with the stored operand at POFF 0 and COND 1, not equal (CLASS 6, OP 8; Tables 4.1,
4.12). -/
def watchStored : Flight :=
  { e := { word := BitVec.ofNat 128 (0x86 + 1 <<< 66 + 1 <<< 67), recs := [], bnd := Vector.replicate 16 0, pcq := 0 },
    performed := false, signalled := false, awaits := 0, sentAt := 0, tag := none, buf := none }

/-- The part after reset, but for tile 0: bound to partition 0, it runs context 0, its load queue has started `watchStored`, and its
pocket is `eightTwice`. -/
def watchState : State :=
  { dev := Device.reset.modTile 0 (fun x =>
      { x with bound := some 0, ctx := some 0, mode := .running, pocket := eightTwice,
               flight := x.flight.set Eng.ld.idx [watchStored] }),
    pending := [] }

theorem watchState_performs : watchState.dev.clPerforms 0 0 .clWatch .ld watchStored 0 0 0 = true := by decide +kernel

/-- The clasp word is 0. -/
theorem watchState_word : watchState.dev.claspWord 0 0 = 0 := by decide +kernel

/-- The word returned at POFF + 8 reads 1 all the same. -/
theorem watchState_leaves_one : (pocketAfter (.clWatch 0 (.perform 0)) watchState).map (fun m => m.word 8 8) = some 1 := by
  decide +kernel

/-- Refutes O20: that the clasp word goes to +8 of a stored operand does not ask for canonical stores. A word 0 returned at an offset the
pocket lists twice reads 1. -/
theorem not_watchRegistration : ¬ Obligations.WatchRegistration := by
  unfold Obligations.WatchRegistration
  intro h
  obtain ⟨hslot, -, -⟩ := h watchState 0 0 0 .ld watchStored 0 0 false watchState_performs
  obtain ⟨u, hu, hback, -⟩ := hslot 0 (by decide +kernel) (by decide +kernel) (by decide +kernel) (by decide +kernel)
    (fun j hj => absurd hj (Nat.not_lt_zero _))
  have hzero := hback (by decide)
  have hone := watchState_leaves_one
  change exec (.clWatch 0 (.perform 0)) watchState = .next u at hu
  rw [pocketAfter_of_next hu, Option.map_some, Option.some.injEq] at hone
  exact absurd (hone.symm.trans (hzero.trans (congrArg BitVec.toNat watchState_word))) (by decide)

/-! ### A byte the host writes (R418) -/

/-- The part after reset with tile 0 bound to partition 0, and `zeroTwice` in its pocket. -/
def barState : State :=
  { dev := Device.reset.modTile 0 (fun x => { x with bound := some 0, pocket := zeroTwice }), pending := [] }

/-- What partition 0 last read through BAR4, once a byte 0 is written at offset 0 and read. -/
def barEcho (s : State) : Option (Option (List Byte)) :=
  match exec (.bar4Write 0 0 [0]) s with
  | .next u =>
    match exec (.bar4Read 0 0 1) u with
    | .next v => some (v.dev.parts[(0 : PartNo)]).barRead
    | _ => none
  | _ => none

theorem barEcho_of_next {s u v : State} (hw : exec (.bar4Write 0 0 [0]) s = .next u) (hr : exec (.bar4Read 0 0 1) u = .next v) :
    barEcho s = some (v.dev.parts[(0 : PartNo)]).barRead := by
  simp only [barEcho, hw, hr]

theorem barState_echoes_one : barEcho barState = some (some [1]) := by decide +kernel

/-- Refutes O58: that the host reads back what it wrote does not ask for canonical stores. A byte 0 written to an address the pocket lists
twice reads 1. -/
theorem not_barAndRegisters : ¬ Obligations.BarAndRegisters := by
  unfold Obligations.BarAndRegisters
  rintro ⟨hbar, -⟩
  obtain ⟨hbound, -⟩ := hbar barState 0 0 [0] (by decide +kernel) (by decide) (by decide) (by decide)
  obtain ⟨u, v, hw, -, hr, hread, -⟩ := hbound (by decide +kernel) (by decide) (by decide +kernel)
  have hecho := (barEcho_of_next hw hr).symm.trans barState_echoes_one
  rw [hread] at hecho
  exact absurd hecho (by decide)

/-! ### The free clasp of a pool (R213) -/

/-- The part at READY with an open session of PF0; partition 0 has pool 0 open with one slot, its free clasp clasp 0 of tile 0, and that
tile's pocket is `claspTwice`: the one slot is free. -/
def poolState : State :=
  { dev :=
      { Device.reset.modTile 0 (fun x => { x with bound := some 0, pocket := claspTwice }) with
        rst := { Device.reset.rst with state := 7 },
        sessions := [(.pf0, { Session.fresh true 0 with peerOk := true })],
        parts := Device.reset.parts.set 0
          { Device.reset.parts[(0 : PartNo)] with
            pools := (Device.reset.parts[(0 : PartNo)]).pools.set 0
              { (Device.reset.parts[(0 : PartNo)]).pools[(0 : PoolNo)] with open_ := true, tile := 0, freeClasp := 0, slots := 1 } } },
    pending := [] }

theorem poolState_commits : poolState.dev.commits .pf0 (partIndex 0 0x80) 0 (poolState.dev.field .pf0 (partIndex 0 0x80) 0x6080 0) :=
  ⟨by decide +kernel, by decide +kernel, _, rfl, fun _ => rfl⟩

theorem poolState_tile : ((poolState.dev.parts[(0 : PartNo)]).pools[(0 : PoolNo)]).tile = 0 := by decide +kernel

theorem poolState_clasp : ((poolState.dev.parts[(0 : PartNo)]).pools[(0 : PoolNo)]).freeClasp = 0 := by decide +kernel

/-- Its free clasp reads 1 after the close as before. -/
theorem poolState_leaves_one : claspAfter (.poolClose .pf0 0 0) poolState = some 1 := by decide +kernel

/-- Refutes O35: that closing a pool leaves its free clasp at 0 does not ask for canonical stores. -/
theorem not_windowAndPoolCommits : ¬ Obligations.WindowAndPoolCommits := by
  unfold Obligations.WindowAndPoolCommits
  intro h
  obtain ⟨-, hpool⟩ := h poolState .pf0 0 0 _
  obtain ⟨-, hclose⟩ := hpool 0 poolState_commits
  obtain ⟨u, hu, -, -, -, hzero⟩ := hclose (by decide +kernel) (by decide +kernel) (by decide +kernel) (by decide +kernel)
    (by decide +kernel)
  have hone := Option.some.inj ((claspAfter_of_next hu).symm.trans poolState_leaves_one)
  rw [poolState_tile, poolState_clasp] at hzero
  exact absurd ((congrArg clValue hone).symm.trans hzero) (by decide)

end Sys2Proof.Machine

/-! Watch slots and notifications (R176 to R181). -/

namespace Sys2Proof.Machine

/-- What an edit of a tile leaves alone is as it was on every tile. -/
theorem modTile_keeps {α : Type} (φ : Tile → α) (d : Device) (t v : TileNo) (f : Tile → Tile)
    (h : ∀ x, φ (f x) = φ x) : φ ((d.modTile t f).tiles[v]) = φ d.tiles[v] := by
  by_cases e : v = t
  · subst e
    rw [modTile_get, h]
  · rw [modTile_get_ne _ _ _ _ e]

/-! ### Registrations that wait for a slot -/

/-- The lowest free slot. -/
theorem freeSlot_eq_some (x : Tile) (i : Fin 32) (hi : x.watches[i] = none) (hlow : ∀ j : Fin 32, j < i → x.watches[j] ≠ none) :
    x.freeSlot = some i.val := by
  unfold Tile.freeSlot
  rw [List.findIdx?_eq_some_iff_getElem]
  refine ⟨by simp, by simpa using hi, fun j hj => ?_⟩
  have h := hlow ⟨j, hj.trans i.isLt⟩ hj
  simpa [Option.isSome_iff_ne_none] using h

/-- An unmet registration takes the slot it is given. -/
theorem judgeWatch_slot (d : Device) (t : TileNo) (w : Watch) (by_ : Option (TileNo × Nat)) (i : Fin 32)
    (hbad : (d.tiles[t]).pocketBad = []) (hpoison : clPoison (d.claspWord t w.clasp) = false)
    (hholds : w.holds (d.claspWord t w.clasp) = false) :
    d.judgeWatch t w by_ (some i) = (.accepted, d.claspWord t w.clasp,
      d.modTile t (fun x => { x with watches := x.watches.set i (some w) })) := by
  unfold Device.judgeWatch
  rw [pocketRead_clean _ _ _ _ _ hbad]
  have hword : BitVec.ofNat 64 (leNat ((d.tiles[t]).pocket.read (claspOff w.clasp) 8)) = d.claspWord t w.clasp := rfl
  simp only [hword, hpoison, hholds, reduceCtorEq, Bool.false_eq_true, if_false]
  have hset : ∀ x : Tile, x.watches.setIfInBounds i.val (some w) = x.watches.set i (some w) := fun x =>
    Vector.ext (fun j hj => by rw [Vector.getElem_setIfInBounds, Vector.getElem_set])
  simp only [hset]

/-- A free slot given to the first waiting registration (R181). -/
theorem acceptWaiting_slot (d : Device) (t : TileNo) (w : Watch) (rest : List Watch) (i : Fin 32)
    (hwait : (d.tiles[t]).watchWait = w :: rest) (hbad : (d.tiles[t]).pocketBad = [])
    (hpoison : clPoison (d.claspWord t w.clasp) = false) (hholds : w.holds (d.claspWord t w.clasp) = false)
    (hi : (d.tiles[t]).watches[i] = none) (hlow : ∀ j : Fin 32, j < i → (d.tiles[t]).watches[j] ≠ none) :
    d.acceptWaiting t = (d.modTile t (fun x => { x with watchWait := rest, watches := x.watches.set i (some w) })).answerWatch
      (d.tiles[t]).bound t w false (d.claspWord t w.clasp) := by
  have hword : (d.modTile t (fun x => { x with watchWait := rest })).claspWord t w.clasp = d.claspWord t w.clasp := by
    simp only [Device.claspWord, modTile_get]
  unfold Device.acceptWaiting
  simp only [hwait, freeSlot_eq_some _ i hi hlow]
  rw [judgeWatch_slot _ t w _ i (by rw [modTile_get]; exact hbad) (by rw [hword]; exact hpoison) (by rw [hword]; exact hholds),
    modTile_modTile, hword]
  rfl

/-- The owner of a waiting CL.WATCH is told of its acceptance: its instruction awaits nothing more. -/
theorem answerWatch_accepted (d : Device) (p : Option PartNo) (t : TileNo) (w : Watch) (g : Eng) (word : W64) (hchip : w.chip = d.chipId)
    (hholder : w.holder = .tile g) (hwait : w.wait = false) :
    d.answerWatch p t w false word = if (d.tiles[w.tile]).ctx ≠ some w.ctx then d
      else d.modFlightWhere w.tile g (fun f => f.waitsAt t w) (fun f => { f with awaits := 0 }) := by
  unfold Device.answerWatch
  simp only [hchip, hholder, hwait, ne_eq, not_true_eq_false, if_false, Bool.false_eq_true]

/-- A CL.WAIT is not told: it awaits its notification. -/
theorem answerWatch_wait (d : Device) (p : Option PartNo) (t : TileNo) (w : Watch) (g : Eng) (word : W64) (hchip : w.chip = d.chipId)
    (hholder : w.holder = .tile g) (hwait : w.wait = true) : d.answerWatch p t w false word = d := by
  unfold Device.answerWatch
  simp only [hchip, hholder, hwait, ne_eq, not_true_eq_false, if_false, Bool.false_eq_true, if_true, ite_self]

/-- An edit of started instructions leaves watches and waiting registrations alone. -/
theorem modFlightWhere_watches (d : Device) (t v : TileNo) (e : Eng) (p : Flight → Bool) (f : Flight → Flight) :
    ((d.modFlightWhere t e p f).tiles[v]).watches = (d.tiles[v]).watches ∧
    ((d.modFlightWhere t e p f).tiles[v]).watchWait = (d.tiles[v]).watchWait := by
  unfold Device.modFlightWhere Device.modFlight
  exact ⟨modTile_keeps (·.watches) d t v _ (fun _ => rfl), modTile_keeps (·.watchWait) d t v _ (fun _ => rfl)⟩

/-- The first started instruction is the one edited when the test picks it. -/
theorem modFlightWhere_head (d : Device) (t : TileNo) (e : Eng) (p : Flight → Bool) (g : Flight → Flight) (f : Flight) (rest : List Flight)
    (hf : (d.tiles[t]).flight[e.idx] = f :: rest) (hp : p f = true) :
    ((d.modFlightWhere t e p g).tiles[t]).flight[e.idx] = g f :: rest := by
  unfold Device.modFlightWhere Device.modFlight
  rw [modTile_get]
  simp only [Fin.getElem_fin, Vector.getElem_set_self]
  simp only [Fin.getElem_fin] at hf
  rw [hf, firstIdx, List.findIdx?_cons, if_pos hp]
  rfl

/-! ### Notifications that take effect -/

/-- The first notification, when it is due and for this chip. -/
theorem notifyApply_head (d : Device) (t : TileNo) (n : Note) (rest : List Note) (hnotes : (d.tiles[t]).notes = n :: rest)
    (hdue : d.noteDue n = true) (hlocal : n.w.remote = false) :
    d.notifyApply t = (d.modTile t (fun x => { x with notes := rest })).applyNote n := by
  have herase : d.modTile t (fun x => { x with notes := x.notes.eraseIdx 0 }) = d.modTile t (fun x => { x with notes := rest }) :=
    modTile_congr (by rw [hnotes]; rfl)
  unfold Device.notifyApply
  rw [hnotes, firstIdx, List.findIdx?_cons, if_pos hdue]
  simp only [List.getElem?_cons_zero, hlocal, Bool.false_and, Bool.false_eq_true, if_false, herase]

theorem journalNote_eq (d : Device) (t : TileNo) (eng : Fin 64) (n : Note) :
    ∃ j, d.journalNote t eng n = d.modTile t (fun x => { x with journal := j }) := by
  unfold Device.journalNote
  exact ⟨_, modTile_congr rfl⟩

/-- A notification without LOCK_ABANDONED adds 1 to the token counter it names, and tells the performance counters. -/
theorem applyNote_token (d : Device) (n : Note) (hkind : n.w.nkind = 0) (habandoned : n.abandoned = false)
    (hctx : (d.tiles[n.w.tile]).ctx = some n.w.ctx) (hroom : ((d.tiles[n.w.tile]).tok[n.w.narg]).toNat < 255) :
    ∃ e j, d.Told e ∧ d.applyNote n =
      e.modTile n.w.tile (fun x => { x with journal := j, tok := x.tok.set n.w.narg (x.tok[n.w.narg] + 1) }) := by
  have htold := count_told d (d.tiles[n.w.tile]).bound 0x013 n.w.tile.val 1
  have hroom' : ∀ g : Tile → Tile, (∀ x, (g x).tok = x.tok) → ((((d.count (d.tiles[n.w.tile]).bound 0x013 n.w.tile.val 1).modTile
      n.w.tile g).tiles[n.w.tile]).tok[n.w.narg]).toNat < 255 := by
    intro g hg
    rw [modTile_get, hg, htold.tiles]
    exact hroom
  have hkind3 : n.w.nkind ≠ 3 := by rw [hkind]; decide
  rw [Device.applyNote, if_neg hkind3]
  unfold Device.applyAtTile
  simp only [hctx, hkind, habandoned, ne_eq, not_true_eq_false, if_false, if_true, Bool.false_eq_true]
  split
  · next g _ =>
    obtain ⟨j, hj⟩ := journalNote_eq (d.count (d.tiles[n.w.tile]).bound 0x013 n.w.tile.val 1) n.w.tile (jEng g) n
    refine ⟨_, j, htold, ?_⟩
    rw [hj, addTok_one _ _ _ _ _ (hroom' (fun x => { x with journal := j }) (fun _ => rfl)), modTile_modTile]
  · refine ⟨_, ((d.count (d.tiles[n.w.tile]).bound 0x013 n.w.tile.val 1).tiles[n.w.tile]).journal, htold, ?_⟩
    rw [addTok_one _ _ _ _ _ (by rw [htold.tiles]; exact hroom)]
    exact modTile_congr rfl

/-- One whose context does not run at its tile is discarded. -/
theorem applyNote_discarded (d : Device) (n : Note) (hkind : n.w.nkind = 0) (hctx : (d.tiles[n.w.tile]).ctx ≠ some n.w.ctx) :
    d.applyNote n = d := by
  have hkind3 : n.w.nkind ≠ 3 := by rw [hkind]; decide
  unfold Device.applyNote Device.applyAtTile
  rw [if_neg hkind3, if_pos hctx]

/-- Settles O21: the lowest free slot is given before its owner is told; the first due notification is taken off the network before it takes
effect. -/
theorem watchSlotsAndNotes : Obligations.WatchSlotsAndNotes := by
  unfold Obligations.WatchSlotsAndNotes
  intro s t x
  refine ⟨?_, ?_, ?_⟩
  · intro w rest i g hl hwait hchip hbad hpoison hholds hi hlow hholder
    have hslot := acceptWaiting_slot s.dev t w rest i hwait hbad hpoison hholds hi hlow
    refine ⟨fun hw => ?_, fun hw => ?_⟩
    · change onLive (fun d => d.acceptWaiting t) s = _
      rw [onLive_live _ _ hl, hslot, answerWatch_wait _ _ _ _ g _ (by exact hchip) hholder hw]
    · refine ⟨_, onLive_live (fun d => d.acceptWaiting t) s hl, ?_⟩
      dsimp only
      rw [hslot, answerWatch_accepted _ _ _ _ g _ (by exact hchip) hholder hw]
      split
      · next hne =>
        rw [modTile_get]
        exact ⟨rfl, rfl, fun h => absurd ((modTile_keeps (·.ctx) s.dev t w.tile _ (fun _ => by rfl)).trans h) hne⟩
      · obtain ⟨hwatches, hwaits⟩ := modFlightWhere_watches (s.dev.modTile t (fun x =>
          { x with watchWait := rest, watches := x.watches.set i (some w) })) w.tile t g (fun f => f.waitsAt t w)
          (fun f => { f with awaits := 0 })
        refine ⟨hwaits.trans (by rw [modTile_get]), hwatches.trans (by rw [modTile_get]), fun _ f rest hf hp => ?_⟩
        exact modFlightWhere_head _ _ _ _ _ f rest
          ((modTile_keeps (fun x => x.flight[g.idx]) s.dev t w.tile _ (fun _ => by rfl)).trans hf) hp
  · intro n rest c hl hnotes hdue hlocal htile hkind habandoned hctx hc hroom
    subst htile
    obtain ⟨e, j, htold, hnote⟩ := applyNote_token (s.dev.modTile n.w.tile (fun x => { x with notes := rest })) n hkind habandoned
      (by rw [modTile_get]; exact hctx.trans (congrArg some hc.symm)) (by rw [modTile_get]; exact hroom)
    refine ⟨_, onLive_live (fun d => d.notifyApply n.w.tile) s hl, ?_⟩
    dsimp only
    rw [notifyApply_head s.dev _ n rest hnotes hdue hlocal, hnote, modTile_get, htold.tiles, modTile_get]
    exact ⟨rfl, rfl, rfl, rfl⟩
  · intro n rest hl hnotes hdue hlocal htile hkind hctx
    subst htile
    change onLive (fun d => d.notifyApply n.w.tile) s = _
    rw [onLive_live _ _ hl, notifyApply_head s.dev _ n rest hnotes hdue hlocal,
      applyNote_discarded _ _ hkind (by rw [modTile_get]; exact hctx)]

end Sys2Proof.Machine

/-! What clasp operations, registrations of watches and accesses to pockets change (R141 to R144, R164 to R181, R372 to R379): words and
locks of clasps, watches, notifications, journals, packets on their way, reports, and the faults they end in; never a mover, a
queue or a started instruction. -/

namespace Sys2Proof.Machine

/-- A context stays in its state, or one with an image falls into teardown (R115, R361). -/
def CtxSt.Falls (a b : CtxSt) : Prop := b = a ∨ (b = .tearing ∧ a ≠ .free ∧ a ≠ .bound)

theorem CtxSt.Falls.trans {a b c : CtxSt} (h : a.Falls b) (k : b.Falls c) : a.Falls c := by
  rcases k with rfl | ⟨rfl, hfree, hbound⟩
  · exact h
  · rcases h with rfl | ⟨-, h⟩
    · exact .inr ⟨rfl, hfree, hbound⟩
    · exact .inr ⟨rfl, h⟩

theorem CtxSt.Falls.tearing {a b : CtxSt} (h : a.Falls b) (ha : a = .tearing) : b = .tearing := by
  rcases h with rfl | ⟨rfl, -, -⟩
  · exact ha
  · rfl

/-- `e` is `d` but for accesses to pockets and clasps, and what they report. -/
structure Device.Touched (d e : Device) : Prop where
  rest : e = { d with tiles := e.tiles, ctxs := e.ctxs, ports := e.ports, tags := e.tags, nextTag := e.nextTag,
                      farWatches := e.farWatches, drops := e.drops, dropTotal := e.dropTotal, cntCorrected := e.cntCorrected,
                      trace := e.trace, alarms := e.alarms, ibi := e.ibi, devEvq := e.devEvq, devMsix := e.devMsix,
                      hostMem := e.hostMem, errLog := e.errLog, csets := e.csets, parts := e.parts }
  tile : ∀ t : TileNo, e.tiles[t] =
    { d.tiles[t] with mode := (e.tiles[t]).mode, faultInfo := (e.tiles[t]).faultInfo, mm := (e.tiles[t]).mm,
                      pocket := (e.tiles[t]).pocket, pocketBad := (e.tiles[t]).pocketBad, pocketErr := (e.tiles[t]).pocketErr,
                      cntCorrected := (e.tiles[t]).cntCorrected, claspLocks := (e.tiles[t]).claspLocks,
                      watches := (e.tiles[t]).watches, watchWait := (e.tiles[t]).watchWait, notes := (e.tiles[t]).notes,
                      journal := (e.tiles[t]).journal, toMatch := (e.tiles[t]).toMatch }
  ctx : ∀ c : CtxNo, e.ctxs[c] =
    { d.ctxs[c] with st := (e.ctxs[c]).st, teardownCause := (e.ctxs[c]).teardownCause, waitSince := (e.ctxs[c]).waitSince,
                     jfull := (e.ctxs[c]).jfull, held := (e.ctxs[c]).held, met := (e.ctxs[c]).met }
  st : ∀ c : CtxNo, (d.ctxs[c]).st.Falls (e.ctxs[c]).st
  cause : ∀ c : CtxNo, (d.ctxs[c]).st = .tearing → (e.ctxs[c]).teardownCause = (d.ctxs[c]).teardownCause
  clean : ∀ t : TileNo, (d.tiles[t]).pocketBad = [] → (e.tiles[t]).pocketBad = []
  part : ∀ p : PartNo, e.parts[p] =
    { d.parts[p] with evq := (e.parts[p]).evq, msix := (e.parts[p]).msix, violations := (e.parts[p]).violations }
  wf : d.storesWf → e.storesWf

namespace Device.Touched
variable {a b c d e : Device}

theorem refl (d : Device) : d.Touched d := ⟨rfl, fun _ => rfl, fun _ => rfl, fun _ => .inl rfl, fun _ _ => rfl, fun _ => id, fun _ => rfl, id⟩

theorem trans (h : a.Touched b) (k : b.Touched c) : a.Touched c where
  rest := by rw [k.rest, h.rest]
  tile t := by rw [k.tile t, h.tile t]
  ctx t := by rw [k.ctx t, h.ctx t]
  st t := (h.st t).trans (k.st t)
  cause t w := (k.cause t ((h.st t).tearing w)).trans (h.cause t w)
  clean t w := k.clean t (h.clean t w)
  part p := by rw [k.part p, h.part p]
  wf w := k.wf (h.wf w)

theorem of_told (h : d.Told e) : d.Touched e where
  rest := by
    have hd := h.rest
    rw [hd]
  tile t := by rw [h.tiles]
  ctx c := by rw [h.ctxs]
  st c := .inl (by rw [h.ctxs])
  cause c _ := by rw [h.ctxs]
  clean t w := by rw [h.tiles]; exact w
  part p := by rw [h.part p]
  wf := h.storesWf

end Device.Touched

/-- Where a service chooses, either way is a service. -/
theorem touched_ite {d e : Device} (p : Prop) [Decidable p] (h : p → d.Touched e) {e' : Device} (h' : ¬ p → d.Touched e') :
    d.Touched (if p then e else e') := by
  split
  · exact h ‹_›
  · exact h' ‹_›

/-- An edit of what pocket and clasp accesses keep of a tile. -/
theorem modTile_touched (d : Device) (t : TileNo) (f : Tile → Tile)
    (hf : ∀ x : Tile, f x = { x with mode := (f x).mode, faultInfo := (f x).faultInfo, mm := (f x).mm, pocket := (f x).pocket,
                                     pocketBad := (f x).pocketBad, pocketErr := (f x).pocketErr, cntCorrected := (f x).cntCorrected,
                                     claspLocks := (f x).claspLocks, watches := (f x).watches, watchWait := (f x).watchWait,
                                     notes := (f x).notes, journal := (f x).journal, toMatch := (f x).toMatch })
    (hw : (d.tiles[t]).pocket.wf = true → (f d.tiles[t]).pocket.wf = true)
    (hb : (d.tiles[t]).pocketBad = [] → (f d.tiles[t]).pocketBad = []) : d.Touched (d.modTile t f) where
  rest := rfl
  tile v := by
    by_cases h : v = t
    · subst h
      rw [modTile_get]
      exact hf _
    · rw [modTile_get_ne _ _ _ _ h]
  ctx _ := rfl
  st _ := .inl rfl
  cause _ _ := rfl
  clean v w := by
    by_cases h : v = t
    · subst h
      rw [modTile_get]
      exact hb w
    · rw [modTile_get_ne _ _ _ _ h]
      exact w
  part _ := rfl
  wf w := storesWf_modTile t f w (hw (w.2.2.2 t))

theorem modCtx_touched (d : Device) (c : CtxNo) (f : Context → Context)
    (hf : ∀ x : Context, f x = { x with st := (f x).st, teardownCause := (f x).teardownCause, waitSince := (f x).waitSince,
                                        jfull := (f x).jfull, held := (f x).held, met := (f x).met })
    (hst : (d.ctxs[c]).st.Falls (f d.ctxs[c]).st)
    (hcause : (d.ctxs[c]).st = .tearing → (f d.ctxs[c]).teardownCause = (d.ctxs[c]).teardownCause) :
    d.Touched (d.modCtx c f) where
  rest := rfl
  tile _ := rfl
  ctx v := by
    by_cases h : v = c
    · subst h
      rw [modCtx_get]
      exact hf _
    · rw [modCtx_get_ne _ _ _ _ h]
  st v := by
    by_cases h : v = c
    · subst h
      rw [modCtx_get]
      exact hst
    · rw [modCtx_get_ne _ _ _ _ h]
      exact .inl rfl
  cause v w := by
    by_cases h : v = c
    · subst h
      rw [modCtx_get]
      exact hcause w
    · rw [modCtx_get_ne _ _ _ _ h]
  clean _ w := w
  part _ := rfl
  wf w := w

theorem modPart_touched (d : Device) (p : PartNo) (f : Partition → Partition)
    (hf : ∀ q : Partition, f q = { q with evq := (f q).evq, msix := (f q).msix, violations := (f q).violations }) :
    d.Touched (d.modPart p f) where
  rest := rfl
  tile _ := rfl
  ctx _ := rfl
  st _ := .inl rfl
  cause _ _ := rfl
  clean _ w := w
  part q := by
    by_cases h : q = p
    · subst h
      rw [modPart_get]
      exact hf _
    · rw [modPart_get_ne _ _ _ _ h]
  wf w := w

/-- A fold of services is one. -/
theorem foldl_touched {α : Type} (f : Device → α → Device) (hf : ∀ (d : Device) (a : α), d.Touched (f d a)) (l : List α) (d : Device) :
    d.Touched (l.foldl f d) :=
  foldl_related (R := Device.Touched) .refl Device.Touched.trans hf l d

/-! ### Faults, teardown asked for, packets -/

theorem askTeardown_touched (d : Device) (c : CtxNo) (cause : Cause) : d.Touched (d.askTeardown c cause) := by
  refine touched_ite _ (fun _ => .refl d) (fun h => ?_)
  simp only [Bool.or_eq_true, decide_eq_true_eq, not_or] at h
  exact modCtx_touched d c _ (fun _ => rfl) (.inr ⟨rfl, h.1⟩) (fun ht => absurd ht h.2)

theorem faultTile_touched (d : Device) (t : TileNo) (code unit pcq detail : Nat) : d.Touched (d.faultTile t code unit pcq detail) := by
  unfold Device.faultTile
  dsimp only
  split
  · exact .refl d
  · exact touched_ite _ (fun _ => modTile_touched d t _ (fun _ => rfl) id id)
      (fun _ => (modTile_touched d t _ (fun _ => rfl) id id).trans (askTeardown_touched _ _ _))

theorem drop_touched (d : Device) (cuff : Fin 2) (kind n : Nat) : d.Touched (d.drop cuff kind n) :=
  ⟨rfl, fun _ => rfl, fun _ => rfl, fun _ => .inl rfl, fun _ _ => rfl, fun _ => id, fun _ => rfl, id⟩

theorem sendOn_touched (d : Device) (p : PortNo) (hdr : W128) (payload : List Byte) (cls : Bool) :
    d.Touched (d.sendOn p hdr payload cls) := by
  have hport : ∀ f : Port → Port, d.Touched (d.modPort p f) := fun _ => ⟨rfl, fun _ => rfl, fun _ => rfl, fun _ => .inl rfl, fun _ _ => rfl, fun _ => id, fun _ => rfl, id⟩
  unfold Device.sendOn
  exact (hport _).trans (.of_told ((count_told _ _ _ _ _).trans (traceRec_told _ _ _ _ _ _)))

theorem inject_touched (d : Device) (p : PartNo) (cuff : Fin 2) (ty dst mid : Nat) (payload : List Byte) :
    d.Touched (d.inject p cuff ty dst mid payload) := by
  unfold Device.inject
  split
  · exact drop_touched _ _ _ _
  · dsimp only
    split
    · exact sendOn_touched _ _ _ _ _
    · exact drop_touched _ _ _ _

theorem newTag_touched (d : Device) (r : Requester) : d.Touched (d.newTag r).2 := ⟨rfl, fun _ => rfl, fun _ => rfl, fun _ => .inl rfl, fun _ _ => rfl, fun _ => id, fun _ => rfl, id⟩

theorem addFar_touched (d : Device) (f : FarWatch) : d.Touched (d.addFar f) := ⟨rfl, fun _ => rfl, fun _ => rfl, fun _ => .inl rfl, fun _ _ => rfl, fun _ => id, fun _ => rfl, id⟩

theorem violation_touched (d : Device) (t : TileNo) (off n slice chip kind : Nat) : d.Touched (d.violation t off n slice chip kind) := by
  unfold Device.violation
  split
  · exact (modPart_touched d _ _ (fun _ => rfl)).trans (.of_told (report_told _ _ _ _ _ _))
  · exact .refl d

/-! ### Pockets -/

theorem pocketRead_touched (d : Device) (t : TileNo) (off n by_ : Nat) : d.Touched (d.pocketRead t off n by_).2 := by
  rcases pocketRead_cases d t off n by_ with h | ⟨e, h⟩ | ⟨ce, a, h⟩
  · rw [h]
    exact .refl d
  · rw [h]
    exact modTile_touched d t _ (fun _ => rfl) id id
  · rw [h]
    exact (modTile_touched d t (fun x =>
      { x with pocketErr := satFld x.pocketErr 0 16 ce, cntCorrected := x.cntCorrected + a }) (fun _ => rfl) id id).trans
      ⟨rfl, fun _ => rfl, fun _ => rfl, fun _ => .inl rfl, fun _ _ => rfl, fun _ => id, fun _ => rfl, id⟩

theorem pocketUes_touched (d : Device) (t : TileNo) (ws : List Nat) (by_ : Nat) : d.Touched (d.pocketUes t ws by_) := by
  rcases pocketUes_cases d t ws by_ with h | ⟨e, h⟩
  · rw [h]
    exact .refl d
  · rw [h]
    exact modTile_touched d t _ (fun _ => rfl) id id

/-- Bytes put one by one keep a store canonical. -/
theorem Memory.wf_foldl_put {α : Type} (a : α → Nat) (v : α → Byte) (l : List α) (m : Memory) (h : m.wf = true) :
    Memory.wf (l.foldl (fun m i => m.put (a i) (v i)) m) = true :=
  List.foldlRecOn (motive := fun m => Memory.wf m = true) l _ h (fun _ hm _ _ => Memory.wf_put _ _ hm)

theorem pocketWrite_touched (d : Device) (t : TileNo) (off : Nat) (bs : List Byte) (by_ : Nat) :
    d.Touched (d.pocketWrite t off bs by_).2 := by
  unfold Device.pocketWrite
  dsimp only
  split
  · dsimp only
    exact modTile_touched d t _ (fun _ => rfl) (Memory.wf_write _ _) id
  · refine .trans ?_ (pocketUes_touched _ _ _ _)
    exact modTile_touched d t _ (fun _ => rfl) (Memory.wf_foldl_put _ _ _ _) (fun h => by
      dsimp only
      rw [h]
      rfl)

theorem outsideUe_touched (d : Device) (t : TileNo) (off : Nat) : d.Touched (d.outsideUe t off) := faultTile_touched _ _ _ _ _ _

theorem meshRead_touched (d : Device) (t : TileNo) (off n : Nat) : d.Touched (d.meshRead t off n).2 := by
  unfold Device.meshRead
  dsimp only
  split
  · exact .refl d
  · have h := pocketRead_touched d t off n 7
    split
    · exact h.trans (outsideUe_touched _ _ _)
    · exact h

theorem meshWrite_touched (d : Device) (t : TileNo) (off : Nat) (bs : List Byte) : d.Touched (d.meshWrite t off bs).2 := by
  unfold Device.meshWrite
  dsimp only
  split
  · exact .refl d
  · have h := pocketWrite_touched d t off bs 7
    split
    · exact h.trans (outsideUe_touched _ _ _)
    · exact h

/-! ### The clasp unit -/

theorem notifyOf_touched (d : Device) (o : Option PartNo) (t : TileNo) (w : Watch) (abandoned : Bool) (word : W64) :
    d.Touched (d.notifyOf o t w abandoned word) := by
  unfold Device.notifyOf
  dsimp only
  split
  · exact inject_touched _ _ _ _ _ _ _
  · exact modTile_touched d _ _ (fun _ => rfl) id id

theorem notify_touched (d : Device) (t : TileNo) (w : Watch) (abandoned : Bool) (word : W64) :
    d.Touched (d.notify t w abandoned word) := notifyOf_touched _ _ _ _ _ _

theorem fireWatches_touched (d : Device) (t : TileNo) (n : ClaspNo) (all : Bool) : d.Touched (d.fireWatches t n all) := by
  unfold Device.fireWatches
  exact (modTile_touched d t _ (fun _ => rfl) id id).trans (foldl_touched _ (fun d w => notify_touched d t w all _) _ _)

theorem putClasp_touched (d : Device) (t : TileNo) (n : ClaspNo) (o : ClOut) : d.Touched (d.putClasp t n o) :=
  (pocketWrite_touched d t _ _ _).trans (modTile_touched _ t _ (fun _ => rfl) id id)

theorem claspUe_touched (d : Device) (t : TileNo) (by_ : Option (TileNo × Nat)) : d.Touched (d.claspUe t by_) := by
  unfold Device.claspUe
  split
  · exact touched_ite _ (fun _ => faultTile_touched _ _ _ _ _ _) (fun _ => faultTile_touched _ _ _ _ _ _)
  · exact faultTile_touched _ _ _ _ _ _

theorem claspApply_touched (d : Device) (t : TileNo) (n : ClaspNo) (a : ClArg) : d.Touched (d.claspApply t n a).2 := by
  have h := pocketRead_touched d t (claspOff n) 8 6
  unfold Device.claspApply
  dsimp only
  split
  · exact h.trans (claspUe_touched _ _ _)
  · split
    · exact (h.trans (putClasp_touched _ _ _ _)).trans (fireWatches_touched _ _ _ _)
    · exact h

theorem judgeWatch_touched (d : Device) (t : TileNo) (w : Watch) (by_ : Option (TileNo × Nat)) (slot : Option Nat) :
    d.Touched (d.judgeWatch t w by_ slot).2.2 := by
  have h := pocketRead_touched d t (claspOff w.clasp) 8 6
  unfold Device.judgeWatch
  dsimp only
  split
  · exact h.trans (claspUe_touched _ _ _)
  · split
    · exact h.trans (notify_touched _ _ _ _ _)
    · split
      · exact h.trans (notify_touched _ _ _ _ _)
      · refine h.trans ?_
        split
        · dsimp only
          exact modTile_touched _ t _ (fun _ => rfl) id id
        · dsimp only
          exact modTile_touched _ t _ (fun _ => rfl) id id

theorem registerWatch_touched (d : Device) (t : TileNo) (w : Watch) (by_ : Option (TileNo × Nat)) :
    d.Touched (d.registerWatch t w by_).2.2 := judgeWatch_touched _ _ _ _ _

/-! ### Through journal and fence -/

theorem journal_touched (d : Device) (t : TileNo) (c : CtxNo) (j : JEntry) : d.Touched (d.journal t c j) := by
  have hadd : d.Touched (if d.jLength t c j.eng ≥ 8192 then d else d.modTile t (fun x => { x with journal := x.journal ++ [j] })) :=
    touched_ite _ (fun _ => .refl d) (fun _ => modTile_touched d t _ (fun _ => rfl) id id)
  unfold Device.journal
  dsimp only
  split
  · exact hadd.trans (modCtx_touched _ c _ (fun _ => rfl) (.inl rfl) (fun _ => rfl))
  · exact hadd

/-- Naming the notes an operation added changes notes only. -/
theorem tagNotes_touched (d0 d : Device) (src : TileNo) (eng : Fin 64) : d.Touched (d0.tagNotes d src eng) where
  rest := rfl
  tile t := by
    unfold Device.tagNotes
    simp only [Fin.getElem_fin, Vector.getElem_mapIdx]
    split <;> rfl
  ctx _ := rfl
  st _ := .inl rfl
  cause _ _ := rfl
  clean t w := by
    unfold Device.tagNotes
    simp only [Fin.getElem_fin, Vector.getElem_mapIdx]
    split <;> exact w
  part _ := rfl
  wf w := by
    refine storesWf_of_eq w rfl rfl rfl (fun t => ?_)
    unfold Device.tagNotes
    simp only [Fin.getElem_fin, Vector.getElem_mapIdx]
    split <;> rfl

/-- The part behind a gate. -/
def Gate.dev (d : Device) : Gate → Device
  | .perform e | .replayed _ e | .held e | .diverged e => e
  | .waits => d

/-- What the fence makes of an operation (R372). -/
def Device.fenceGate (d : Device) (c : CtxNo) (src : TileNo) (e : JEntry) (chip t : Nat) : Gate :=
  if d.fencedCtx (some c) && d.isBoundary c chip t then
    .held ((d.modCtx c (fun x => { x with held := x.held ++
      [{ tile := src, target := fin t, word := e.op, operand0 := e.operand0 }] })).journal src c { e with held := true })
  else .perform d

theorem fenceGate_touched (d : Device) (c : CtxNo) (src : TileNo) (e : JEntry) (chip t : Nat) :
    d.Touched ((d.fenceGate c src e chip t).dev d) := by
  unfold Device.fenceGate
  split
  · exact (modCtx_touched d c _ (fun _ => rfl) (.inl rfl) (fun _ => rfl)).trans (journal_touched _ _ _ _)
  · exact .refl d

/-- A gate that answers a part does so whatever part it is asked from, and WAITS answers the part as it was. -/
theorem Gate.touched_of {d e : Device} {g : Gate} (h : d.Touched e) (hg : e.Touched (g.dev e)) : d.Touched (g.dev d) := by
  cases g with
  | waits => exact .refl d
  | _ => exact h.trans hg

theorem gate_touched (d : Device) (c : CtxNo) (src : TileNo) (e : JEntry) (chip t : Nat) : d.Touched ((d.gate c src e chip t).dev d) := by
  unfold Device.gate
  dsimp only
  split
  · exact .refl d
  · have hmet : d.Touched (if ((d.ctxs[c]).auditTile = some src && decide (e.eng.val < 5)) = true then
        d.modCtx c (fun x => { x with met := false }) else d) :=
      touched_ite _ (fun _ => modCtx_touched d c _ (fun _ => rfl) (.inl rfl) (fun _ => rfl)) (fun _ => .refl d)
    refine Gate.touched_of hmet ?_
    generalize (if ((d.ctxs[c]).auditTile = some src && decide (e.eng.val < 5)) = true then
        d.modCtx c (fun x => { x with met := false }) else d) = d'
    split
    · exact fenceGate_touched d' c src e chip t
    · next l _ =>
      split
      · exact askTeardown_touched _ _ _
      · next j _ =>
        split
        · have hmatch : d'.Touched (d'.modTile src (fun x => { x with toMatch := some (l.erase j) })) := modTile_touched _ _ _ (fun _ => rfl) id id
          split
          · exact Gate.touched_of hmatch (fenceGate_touched _ c src e chip t)
          · exact hmatch.trans (journal_touched _ _ _ _)
        · exact askTeardown_touched _ _ _

theorem gate_touched_of {d : Device} {c : CtxNo} {src : TileNo} {e : JEntry} {chip t : Nat} {g : Gate} (h : d.gate c src e chip t = g) :
    d.Touched (g.dev d) := h ▸ gate_touched d c src e chip t

theorem claspSend_touched (d : Device) (p : PartNo) (r : Requester) (req chip t : Nat) (n : ClaspNo) (scope2 : Bool) (a : ClArg) :
    d.Touched (d.claspSend p r req chip t n scope2 a).2 := by
  unfold Device.claspSend
  dsimp only
  split
  · split
    · split
      · exact claspApply_touched _ _ _ _
      · split
        all_goals
          split
          · exact claspApply_touched _ _ _ _
          · exact violation_touched _ _ _ _ _ _ _
    · exact .refl d
  · exact (newTag_touched d r).trans (inject_touched _ _ _ _ _ _ _)

theorem watchSend_touched (d : Device) (p : PartNo) (r : Requester) (req chip t : Nat) (scope2 : Bool) (w : Watch)
    (by_ : Option (TileNo × Nat)) : d.Touched (d.watchSend p r req chip t scope2 w by_).2 := by
  unfold Device.watchSend
  dsimp only
  split
  · split
    · split
      · exact registerWatch_touched _ _ _ _
      · split
        all_goals
          split
          · exact registerWatch_touched _ _ _ _
          · exact violation_touched _ _ _ _ _ _ _
    · exact .refl d
  · exact ((newTag_touched d r).trans (addFar_touched _ _)).trans (inject_touched _ _ _ _ _ _ _)

theorem claspFrom_touched (d : Device) (p : PartNo) (c : CtxNo) (src : TileNo) (eng : Fin 64) (r : Requester) (req chip t : Nat)
    (n : ClaspNo) (scope2 : Bool) (a : ClArg) : d.Touched (d.claspFrom p c src eng r req chip t n scope2 a).2 := by
  unfold Device.claspFrom
  dsimp only
  split
  · exact .refl d
  · next h => exact gate_touched_of h
  · next h => exact gate_touched_of h
  · next h => exact gate_touched_of h
  · next d' h =>
    have hgate := gate_touched_of h
    have hsend := (hgate.trans (claspSend_touched d' p r req chip t n scope2 a)).trans (tagNotes_touched d' _ src eng)
    split
    · exact hsend.trans (journal_touched _ _ _ _)
    · exact hsend.trans (journal_touched _ _ _ _)
    · exact hsend.trans (journal_touched _ _ _ _)

theorem watchFrom_touched (d : Device) (p : PartNo) (c : CtxNo) (src : TileNo) (eng : Fin 64) (r : Requester) (req chip t : Nat)
    (scope2 : Bool) (w : Watch) (by_ : Option (TileNo × Nat)) : d.Touched (d.watchFrom p c src eng r req chip t scope2 w by_).2 := by
  unfold Device.watchFrom
  dsimp only
  split
  · exact .refl d
  · next h => exact gate_touched_of h
  · next h => exact gate_touched_of h
  · next h =>
    have hgate := gate_touched_of h
    split
    · exact hgate
    · split
      · refine hgate.trans ?_
        dsimp only [Gate.dev]
        exact modTile_touched _ _ _ (fun _ => rfl) id id
      · exact hgate
  · next d' h =>
    have hgate := gate_touched_of h
    have hsend := (hgate.trans (watchSend_touched d' p r req chip t scope2 w by_)).trans (tagNotes_touched d' _ src eng)
    split
    · exact hsend.trans (journal_touched _ _ _ _)
    · exact hsend.trans (journal_touched _ _ _ _)
    · exact hsend.trans (journal_touched _ _ _ _)
    · exact hsend.trans (journal_touched _ _ _ _)

end Sys2Proof.Machine

/-! Movers (R187 to R208): slots, launching, selection, pacing, and the ends of channels. -/

namespace Sys2Proof.Machine

/-! ### Slots of movers -/

/-- An edit of a mover is that mover's, and no other's. -/
theorem mover_modMover (d : Device) (m : MoverId) (f : Mover → Mover) : (d.modMover m f).mover m = f (d.mover m) := by
  cases m with
  | tile t => simp only [Device.modMover, Device.mover, modTile_get]
  | bulk n => simp only [Device.modMover, Device.mover, Fin.getElem_fin, Vector.getElem_set_self]
  | hl n => simp only [Device.modMover, Device.mover, Fin.getElem_fin, Vector.getElem_set_self]

theorem mover_modMover_ne (d : Device) (m m' : MoverId) (f : Mover → Mover) (h : m ≠ m') : (d.modMover m' f).mover m = d.mover m := by
  cases m' with
  | tile t =>
    cases m with
    | tile u => simp only [Device.modMover, Device.mover, modTile_get_ne d t u _ (fun e => h (e ▸ rfl))]
    | _ => rfl
  | bulk n =>
    cases m with
    | bulk u =>
      simp only [Device.modMover, Device.mover]
      exact Vector.getElem_set_ne _ _ (fun e => h (congrArg _ (Fin.ext e.symm)))
    | _ => rfl
  | hl n =>
    cases m with
    | hl u =>
      simp only [Device.modMover, Device.mover]
      exact Vector.getElem_set_ne _ _ (fun e => h (congrArg _ (Fin.ext e.symm)))
    | _ => rfl

theorem slots_modSlot (d : Device) (m : MoverId) (k : Nat) (f : Slot → Slot) :
    ((d.modSlot m k f).mover m).slots = (d.mover m).slots.modify k f := by
  rw [Device.modSlot, mover_modMover]

/-- An edited slot. -/
theorem slot_modSlot (d : Device) (m : MoverId) (k : Nat) (f : Slot → Slot) (hk : k < (d.mover m).slots.length) :
    (d.modSlot m k f).slot m k = f (d.slot m k) := by
  simp only [Device.slot, Mover.slot, slots_modSlot, List.getD_eq_getElem?_getD, List.getElem?_modify, if_true,
    List.getElem?_eq_getElem hk, Option.map_eq_map, Option.map_some, Option.getD_some]

theorem slot_modSlot_ne (d : Device) (m : MoverId) (j k : Nat) (f : Slot → Slot) (h : j ≠ k) :
    (d.modSlot m k f).slot m j = d.slot m j := by
  simp only [Device.slot, Mover.slot, slots_modSlot, List.getD_eq_getElem?_getD, List.getElem?_modify, if_neg h.symm,
    Option.map_eq_map, Option.map_id']

theorem slot_modSlot_eq (d : Device) (m m' : MoverId) (k j : Nat) (f : Slot → Slot) :
    (d.modSlot m' j f).slot m k = if m = m' ∧ k = j ∧ k < (d.mover m).slots.length then f (d.slot m k) else d.slot m k := by
  by_cases hm : m = m'
  · subst hm
    by_cases hj : k = j
    · subst hj
      by_cases hk : k < (d.mover m).slots.length
      · rw [slot_modSlot d m k f hk, if_pos ⟨rfl, rfl, hk⟩]
      · have hout : (d.mover m).slots.modify k f = (d.mover m).slots := List.modify_eq_self (by omega)
        rw [if_neg (fun h => hk h.2.2)]
        simp only [Device.slot, Mover.slot, slots_modSlot, hout]
    · rw [slot_modSlot_ne d m k j f hj, if_neg (fun h => hj h.2.1)]
  · rw [Device.slot, Device.modSlot, mover_modMover_ne d m m' _ hm, if_neg (fun h => hm h.1)]
    rfl

/-- What an edit of a slot leaves alone is as it was in every slot. -/
theorem slot_keeps {α : Type} (φ : Slot → α) (d : Device) (m m' : MoverId) (k j : Nat) (f : Slot → Slot)
    (hf : ∀ s, φ (f s) = φ s) : φ ((d.modSlot m' j f).slot m k) = φ (d.slot m k) := by
  rw [slot_modSlot_eq]
  split
  · exact hf _
  · rfl

/-- A trace record of a channel changes the trace only. -/
theorem traceSlot_eq (d : Device) (m : MoverId) (k : Nat) (x : Desc) (st : Nat) :
    ∃ tr, d.traceSlot m k x st = { d with trace := tr } := by
  unfold Device.traceSlot Device.traceRec
  dsimp only
  split
  · exact ⟨_, rfl⟩
  · exact ⟨d.trace, rfl⟩

@[simp] theorem traceSlot_slot (d : Device) (m m' : MoverId) (j k : Nat) (x : Desc) (st : Nat) :
    (d.traceSlot m k x st).slot m' j = d.slot m' j := by
  obtain ⟨tr, h⟩ := traceSlot_eq d m k x st
  rw [h]
  cases m' <;> rfl

@[simp] theorem traceSlot_tiles (d : Device) (m : MoverId) (k : Nat) (x : Desc) (st : Nat) :
    (d.traceSlot m k x st).tiles = d.tiles := traceRec_tiles _ _ _ _ _ _

/-- Accesses to pockets and clasps change no mover. -/
theorem Device.Touched.mover {d e : Device} (h : d.Touched e) (m : MoverId) : e.mover m = d.mover m := by
  cases m with
  | tile t =>
    change (e.tiles[t]).mover = (d.tiles[t]).mover
    rw [h.tile t]
  | bulk n => rw [h.rest]; rfl
  | hl n => rw [h.rest]; rfl

theorem Device.Touched.slot {d e : Device} (h : d.Touched e) (m : MoverId) (k : Nat) : e.slot m k = d.slot m k := by
  rw [Device.slot, h.mover m]
  rfl

theorem Device.Touched.forwards {d e : Device} (h : d.Touched e) : e.forwards = d.forwards := by rw [h.rest]

/-- `e` has in slot `k` of mover `m` what `d` has: a channel, with the same descriptor; and the same descriptors on their way. -/
def Device.KeepsChannel (m : MoverId) (k : Nat) (d e : Device) : Prop :=
  (e.slot m k).desc = (d.slot m k).desc ∧ ((d.slot m k).st ≠ .free → (e.slot m k).st ≠ .free) ∧ e.forwards = d.forwards

section
variable {m : MoverId} {k : Nat}

theorem Device.KeepsChannel.refl (d : Device) : d.KeepsChannel m k d := ⟨rfl, id, rfl⟩

theorem Device.KeepsChannel.trans {a b c : Device} (h : a.KeepsChannel m k b) (h' : b.KeepsChannel m k c) : a.KeepsChannel m k c :=
  ⟨h'.1.trans h.1, fun w => h'.2.1 (h.2.1 w), h'.2.2.trans h.2.2⟩

theorem Device.KeepsChannel.of_touched {d e : Device} (h : d.Touched e) : d.KeepsChannel m k e :=
  ⟨congrArg Slot.desc (h.slot m k), fun w => (congrArg Slot.st (h.slot m k)).trans_ne w, h.forwards⟩

/-- So does an edit of a slot that keeps descriptors and frees none. -/
theorem Device.KeepsChannel.modSlot (d : Device) (m' : MoverId) (j : Nat) (f : Slot → Slot)
    (hdesc : ∀ s, (f s).desc = s.desc)
    (hst : (∀ s, (f s).st = s.st) ∨ ∀ s, (f s).st ≠ .free) : d.KeepsChannel m k (d.modSlot m' j f) := by
  refine ⟨slot_keeps (·.desc) d m m' k j f hdesc, fun w => ?_, by cases m' <;> rfl⟩
  rcases hst with hst | hst
  · exact (slot_keeps (·.st) d m m' k j f hst).trans_ne w
  · rw [slot_modSlot_eq]
    split
    · exact hst _
    · exact w

theorem Device.KeepsChannel.traceSlot (d : Device) (m' : MoverId) (j : Nat) (x : Desc) (st : Nat) :
    d.KeepsChannel m k (d.traceSlot m' j x st) := by
  obtain ⟨tr, h⟩ := traceSlot_eq d m' j x st
  refine ⟨by rw [traceSlot_slot], fun w => by rw [traceSlot_slot]; exact w, by rw [h]⟩

/-- A channel that fails for good stops. -/
theorem Device.KeepsChannel.failChannel (d : Device) (m' : MoverId) (j : Nat) (x : Desc) (f : MvFail) (hf : f ≠ .repair) :
    d.KeepsChannel m k (d.failChannel m' j x 0 f) := by
  have hstop : ∀ (e : Device) (n : Nat),
      e.KeepsChannel m k ((e.modSlot m' j (fun s => { s with st := .stopping, status := n })).traceSlot m' j x 6) :=
    fun e n => (Device.KeepsChannel.modSlot e m' j _ (fun _ => by rfl) (.inr (fun _ => SlotSt.noConfusion))).trans (.traceSlot _ _ _ _ _)
  unfold Device.failChannel
  cases f with
  | status n => exact hstop d n
  | fault code =>
    dsimp only
    split
    · exact (Device.KeepsChannel.of_touched (faultTile_touched _ _ _ _ _ _)).trans (hstop _ _)
    · exact hstop _ _
  | repair => exact absurd rfl hf
  | wait => exact .modSlot d m' j _ (fun _ => rfl) (.inl (fun _ => rfl))

theorem Device.KeepsChannel.ite {d e e' : Device} (p : Prop) [Decidable p] (h : d.KeepsChannel m k e) (h' : d.KeepsChannel m k e') :
    d.KeepsChannel m k (if p then e else e') := by
  split
  · exact h
  · exact h'

theorem Device.KeepsChannel.claspFailed (d : Device) (m' : MoverId) (j : Nat) (x : Desc) (tile : Nat) (denied : Bool) :
    d.KeepsChannel m k (d.claspFailed m' j x tile denied) :=
  .ite _ (.failChannel _ _ _ _ _ nofun) (.ite _ (.failChannel _ _ _ _ _ nofun) (.failChannel _ _ _ _ _ nofun))

theorem chanWatch_touched (d : Device) (m : MoverId) (k : Nat) (x : Desc) (chip t : Nat) (n : ClaspNo) (scope2 : Bool) (cond v : Nat) :
    d.Touched (d.chanWatch m k x chip t n scope2 cond v).2 := by
  unfold Device.chanWatch
  dsimp only
  split
  · exact watchFrom_touched _ _ _ _ _ _ _ _ _ _ _ _
  · exact watchSend_touched _ _ _ _ _ _ _ _ _

theorem Device.KeepsChannel.paceWatch (d : Device) (m' : MoverId) (j : Nat) (x : Desc) : d.KeepsChannel m k (d.paceWatch m' j x) := by
  have hwatch : d.KeepsChannel m k (if dPace x.d = 3 then
      d.chanWatch m' j x d.chipId.toNat (dCTile x.d) (fin (dCClasp x.d)) false (dCCond x.d).val (dCVal x.d)
    else d.chanWatch m' j x d.chipId.toNat (dFTile x.d) (fin (dFHead x.d)) false 2
      ((clValue (d.claspWord (dFTile x.d) (dFTail x.d)) + dFHigh x.d + 1) % 2 ^ 48)).2 := by
    split
    · exact .of_touched (chanWatch_touched _ _ _ _ _ _ _ _ _ _)
    · exact .of_touched (chanWatch_touched _ _ _ _ _ _ _ _ _ _)
  unfold Device.paceWatch
  dsimp only
  split
  · exact hwatch.trans (.claspFailed _ _ _ _ _ _)
  · exact hwatch.trans (.claspFailed _ _ _ _ _ _)
  · exact hwatch

/-- A slot that accepts a descriptor holds its channel. -/
theorem acceptSlot_slot (d : Device) (x : Desc) (hk : k < (d.mover m).slots.length) :
    ((d.acceptSlot m k x).slot m k).desc = some x ∧ ((d.acceptSlot m k x).slot m k).st ≠ .free ∧
      (d.acceptSlot m k x).forwards = d.forwards := by
  have hput : ∃ e : Device, (e.slot m k).desc = some x ∧ (e.slot m k).st ≠ .free ∧ e.forwards = d.forwards ∧
      d.acceptSlot m k x = if dPace x.d ≥ 3 then e.paceWatch m k x else e := by
    refine ⟨_, ?_, ?_, ?_, rfl⟩
    · rw [traceSlot_slot, slot_modSlot d m k _ hk]
    · rw [traceSlot_slot, slot_modSlot d m k _ hk]
      dsimp only
      split <;> decide
    · obtain ⟨tr, h⟩ := traceSlot_eq (d.modSlot m k (fun s =>
        { Slot.reset with status := s.status, prio := dPrio x.d, exec := fin (dExec x.d), mover := fin (dMover x.d),
                          desc := some x, st := if dPace x.d = 0 then .ready else .waiting })) m k x (if dPace x.d = 0 then 2 else 1)
      rw [h]
      cases m <;> rfl
  obtain ⟨e, hdesc, hst, hfwd, heq⟩ := hput
  rw [heq]
  split
  · obtain ⟨hdesc', hst', hfwd'⟩ := Device.KeepsChannel.paceWatch (m := m) (k := k) e m k x
    exact ⟨hdesc'.trans hdesc, hst' hst, hfwd'.trans hfwd⟩
  · exact ⟨hdesc, hst, hfwd⟩

end

/-! ### Forwarded descriptors (R190) -/

/-- The lowest slot in a given state. -/
theorem firstIdx_slots (q : Mover) (p : Slot → Bool) (k : Nat) (hk : k < q.slots.length) (hp : p (q.slot k) = true)
    (hlow : ∀ j < k, p (q.slot j) = false) : firstIdx p q.slots = some k := by
  have hget : ∀ j (hj : j < q.slots.length), q.slots[j] = q.slot j := fun j hj => by
    rw [Mover.slot, List.getD_eq_getElem?_getD, List.getElem?_eq_getElem hj]
    rfl
  rw [firstIdx, List.findIdx?_eq_some_iff_getElem]
  refine ⟨hk, by rw [hget]; exact hp, fun j hj => ?_⟩
  rw [hget, hlow j hj]
  exact Bool.false_ne_true

theorem firstIdx_eq_none {α : Type} (p : α → Bool) (l : List α) (h : ∀ x ∈ l, p x = false) : firstIdx p l = none := by
  rw [firstIdx, List.findIdx?_eq_none_iff]
  exact h

/-- The first forwarded descriptor, for this mover and with none of its partition before it. -/
theorem descForward_head (d : Device) (m : MoverId) (x : Desc) (rest : List (MoverId × Desc)) (hfwd : d.forwards = (m, x) :: rest)
    (harr : ∀ y ∈ (d.mover m).arrivals, y.part ≠ x.part) :
    d.descForward m = match ({ d with forwards := rest } : Device).placeDesc m x with
      | some d' => d'
      | none => ({ d with forwards := rest } : Device).modMover m (fun q => { q with arrivals := q.arrivals ++ [x] }) := by
  have hmover : ({ d with forwards := rest } : Device).mover m = d.mover m := by cases m <;> rfl
  have hany : (d.mover m).arrivals.any (fun y => y.part = x.part) = false := by
    rw [List.any_eq_false]
    intro y hy
    simpa using harr y hy
  have hfind : ((m, x) :: rest).find? (fun f => f.1 = m) = some (m, x) := List.find?_cons_of_pos (decide_eq_true rfl)
  unfold Device.descForward
  simp only [hfwd, hfind, List.erase_cons_head, hmover, hany, Bool.false_eq_true, if_false] <;> rfl

/-- Settles O24: the descriptor taken off the network is placed in the lowest free slot, or joins the arrivals. -/
theorem descriptorsForward : Obligations.DescriptorsForward := by
  unfold Obligations.DescriptorsForward
  intro s m x rest hl hfwd harr d
  have hhead := descForward_head s.dev m x rest hfwd harr
  have hmover : d.mover m = s.dev.mover m := by cases m <;> rfl
  refine ⟨fun hno => ?_, fun k hacc hk hfree hlow => ?_⟩
  · have hnone : d.placeDesc m x = none := by
      unfold Device.placeDesc
      rcases hno with hno | hno
      · rw [hno]
        rfl
      · rw [hmover, firstIdx_eq_none _ _ (fun q hq => by simpa using hno q hq), ite_self]
    change onLive (fun d => d.descForward m) s = _
    rw [onLive_live _ _ hl, hhead, hnone]
  · have hidx : firstIdx (fun s => decide (s.st = .free)) (d.mover m).slots = some k := by
      rw [hmover]
      exact firstIdx_slots _ _ k hk (by simpa [Device.slot] using hfree) (fun j hj => by simpa [Device.slot] using hlow j hj)
    have hslot := acceptSlot_slot (m := m) (k := k) d x (by rw [hmover]; exact hk)
    obtain ⟨hdesc, hst, hforw⟩ := hslot
    refine ⟨_, onLive_live (fun d => d.descForward m) s hl, ?_⟩
    dsimp only
    rw [hhead]
    unfold Device.placeDesc
    rw [if_pos hacc, hidx]
    dsimp only
    split
    · next t n _ =>
      obtain ⟨hdesc', hst', hforw'⟩ := Device.KeepsChannel.modSlot (m := m) (k := k) (d.acceptSlot m k x) (.tile t) n
        (fun q => { q with rslot := fin k }) (fun _ => rfl) (.inl (fun _ => rfl))
      exact ⟨hforw'.trans hforw, hst' hst, hdesc'.trans hdesc⟩
    · exact ⟨hforw, hst, hdesc⟩

end Sys2Proof.Machine

/-! Ends and cancels of channels (R96, R190, R206, R208). -/

namespace Sys2Proof.Machine

/-! ### Slots behind edits of tiles -/

/-- An edit of a tile that keeps its mover keeps every slot. -/
theorem slot_modTile (d : Device) (m : MoverId) (k : Nat) (t : TileNo) (f : Tile → Tile)
    (hf : ∀ x : Tile, (f x).mover = x.mover) : (d.modTile t f).slot m k = d.slot m k := by
  cases m with
  | tile u =>
    change (((d.modTile t f).tiles[u]).mover).slot k = ((d.tiles[u]).mover).slot k
    rw [modTile_keeps (·.mover) d t u f hf]
  | _ => rfl

/-- What an edit of a slot leaves alone in its tile. -/
theorem modSlot_tile (d : Device) (t v : TileNo) (k : Nat) (f : Slot → Slot) :
    ∃ q, (d.modSlot (.tile t) k f).tiles[v] = { d.tiles[v] with mover := q } := by
  by_cases h : v = t
  · subst h
    exact ⟨_, modTile_get d v _⟩
  · exact ⟨(d.tiles[v]).mover, modTile_get_ne d t v _ h⟩

/-! ### The channels that wait for the end of a slot (R203) -/

/-- The wake of a slot that awaited the end of another. -/
def wokenSlot (m : MoverId) (k : Nat) (p : PartNo) (s : Slot) : Slot :=
  if awaitsSlot m k s && decide ((s.desc.map (·.part)) = some p) then { s with st := .ready } else s

theorem wokenSlot_of_free (m : MoverId) (k : Nat) (p : PartNo) (s : Slot) (h : s.st = .free) : wokenSlot m k p s = s := by
  unfold wokenSlot awaitsSlot
  rw [h]
  rfl

theorem slot_wakeWaiters (d : Device) (m m' : MoverId) (k j : Nat) (p : PartNo) :
    (d.wakeWaiters m' j p).slot m k = wokenSlot m' j p (d.slot m k) := by
  have hreset : Slot.reset = wokenSlot m' j p Slot.reset := (wokenSlot_of_free m' j p _ rfl).symm
  have hmap : ∀ q : Mover, (({ q with slots := q.slots.map (wokenSlot m' j p) } : Mover).slot k) = wokenSlot m' j p (q.slot k) := by
    intro q
    simp only [Mover.slot, List.getD_eq_getElem?_getD, List.getElem?_map]
    cases q.slots[k]? with
    | none => exact hreset
    | some s => rfl
  cases m with
  | tile t =>
    refine Eq.trans ?_ (hmap (d.tiles[t]).mover)
    change (((d.wakeWaiters m' j p).tiles[t]).mover).slot k = _
    simp only [Device.wakeWaiters, Fin.getElem_fin, Vector.getElem_map]
    rfl
  | bulk n =>
    refine Eq.trans ?_ (hmap d.bulk[n])
    change ((d.wakeWaiters m' j p).bulk[n]).slot k = _
    simp only [Device.wakeWaiters, Fin.getElem_fin, Vector.getElem_map]
    rfl
  | hl n =>
    refine Eq.trans ?_ (hmap d.hl[n])
    change ((d.wakeWaiters m' j p).hl[n]).slot k = _
    simp only [Device.wakeWaiters, Fin.getElem_fin, Vector.getElem_map]
    rfl

theorem wakeWaiters_tile (d : Device) (m : MoverId) (k : Nat) (p : PartNo) (t : TileNo) :
    ∃ q, (d.wakeWaiters m k p).tiles[t] = { d.tiles[t] with mover := q } := by
  simp only [Device.wakeWaiters, Fin.getElem_fin, Vector.getElem_map]
  exact ⟨_, rfl⟩

/-! ### The end at the launching tile (R206 steps 3 to 5) -/

/-- A slot as the end of its channel leaves it. -/
def Slot.ended (s : Slot) (status : Nat) : Slot :=
  { s with status := status, st := .free, desc := none, awaits := 0, tag := none, reads := [], buf := [], alloc := none,
           unitOpen := false, doneSent := false, poolWait := false, poolHeld := false }

/-- The tile of a channel that ended: a cancel that waited for it completes, and an error is noted. -/
def Tile.chanEnded (x : Tile) (n : Fin 8) (status : Nat) : Tile :=
  { x.cancelsDone n with moverNote := if errStatus status then setBit x.moverNote n.val true else x.moverNote }

/-- Whether the end of a channel signals (R206 step 4, R208). -/
def signalsEnd (w : W128) (status : Nat) : Bool := wSen w && !wSigat w && decide (status ≠ 4)

theorem endAtTile_eq (d : Device) (t : TileNo) (n : Fin 8) (status : Nat) (x : Desc) (hdesc : (d.slot (.tile t) n).desc = some x)
    (hroom : signalsEnd x.e.word status = true → ((d.tiles[t]).tok[wStok x.e.word]).toNat < 255) :
    d.endAtTile t n status = ((((d.modSlot (.tile t) n (·.ended status)).modTile t (·.chanEnded n status)).modTile t (fun y =>
      { y with tok := if signalsEnd x.e.word status then y.tok.set (wStok x.e.word) (y.tok[wStok x.e.word] + 1) else y.tok })).traceSlot
        (.tile t) n x 0).wakeWaiters (.tile t) n x.part := by
  have hdesc' : ((d.tiles[t]).mover.slot n).desc = some x := hdesc
  have hnote : ∀ e : Device, (if errStatus status then (e.modTile t (fun y => y.cancelsDone n)).modTile t (fun y =>
        { y with moverNote := setBit y.moverNote n.val true }) else e.modTile t (fun y => y.cancelsDone n)) =
      e.modTile t (·.chanEnded n status) := by
    intro e
    split
    · next h =>
      rw [modTile_modTile]
      exact modTile_congr (by simp only [Tile.chanEnded, h, if_true]; rfl)
    · next h => exact modTile_congr (by simp only [Tile.chanEnded, h, Bool.false_eq_true, if_false]; rfl)
  have htok : ∀ e : Device, (e.tiles[t]).tok = (d.tiles[t]).tok →
      (if signalsEnd x.e.word status then e.addTok t (wStok x.e.word) 1 5 x.e.pcq else e) = e.modTile t (fun y =>
        { y with tok := if signalsEnd x.e.word status then y.tok.set (wStok x.e.word) (y.tok[wStok x.e.word] + 1) else y.tok }) := by
    intro e he
    by_cases h : signalsEnd x.e.word status = true
    · simp only [h, if_true]
      exact addTok_one e t _ 5 _ (by rw [he]; exact hroom h)
    · simp only [h, Bool.false_eq_true, if_false]
      exact (modTile_self rfl).symm
  have hkeep : ((((d.modSlot (.tile t) n (·.ended status)).modTile t (·.chanEnded n status)).tiles[t]).tok) = (d.tiles[t]).tok := by
    obtain ⟨q, hq⟩ := modSlot_tile d t t n (·.ended status)
    rw [modTile_get, hq]
    rfl
  rw [← htok _ hkeep, ← hnote]
  unfold Device.endAtTile
  rw [hdesc']
  rfl

/-- The slot, and what else its tile keeps of the end. -/
theorem endAtTile_spec (d : Device) (t : TileNo) (n : Fin 8) (status : Nat) (x : Desc)
    (hdesc : (d.slot (.tile t) n).desc = some x) (hlen : (d.tiles[t]).mover.slots.length = 8)
    (hroom : signalsEnd x.e.word status = true → ((d.tiles[t]).tok[wStok x.e.word]).toNat < 255) :
    (d.endAtTile t n status).slot (.tile t) n = (d.slot (.tile t) n).ended status ∧
      (d.endAtTile t n status).reports = d.reports ∧
      ((d.endAtTile t n status).tiles[t]).tok = (if signalsEnd x.e.word status then
        (d.tiles[t]).tok.set (wStok x.e.word) ((d.tiles[t]).tok[wStok x.e.word] + 1) else (d.tiles[t]).tok) ∧
      ((d.endAtTile t n status).tiles[t]).moverNote =
        (if errStatus status then setBit (d.tiles[t]).moverNote n.val true else (d.tiles[t]).moverNote) := by
  rw [endAtTile_eq d t n status x hdesc hroom]
  generalize he : ((d.modSlot (.tile t) n (·.ended status)).modTile t (·.chanEnded n status)).modTile t (fun y =>
      { y with tok := if signalsEnd x.e.word status then y.tok.set (wStok x.e.word) (y.tok[wStok x.e.word] + 1) else y.tok }) = e
  have hslot : e.slot (.tile t) n = (d.slot (.tile t) n).ended status := by
    rw [← he]
    refine (slot_modTile _ (.tile t) n t _ (fun _ => by rfl)).trans
      ((slot_modTile _ (.tile t) n t _ (fun _ => by rfl)).trans (slot_modSlot d (.tile t) n _ ?_))
    change n.val < (d.tiles[t]).mover.slots.length
    omega
  have htile : (e.tiles[t]).tok = (if signalsEnd x.e.word status then
        (d.tiles[t]).tok.set (wStok x.e.word) ((d.tiles[t]).tok[wStok x.e.word] + 1) else (d.tiles[t]).tok) ∧
      (e.tiles[t]).moverNote = (if errStatus status then setBit (d.tiles[t]).moverNote n.val true else (d.tiles[t]).moverNote) := by
    obtain ⟨q, hq⟩ := modSlot_tile d t t n (·.ended status)
    rw [← he, modTile_get, modTile_get, hq]
    exact ⟨rfl, rfl⟩
  obtain ⟨tr, htr⟩ := traceSlot_eq e (.tile t) n x 0
  obtain ⟨q, hq⟩ := wakeWaiters_tile (e.traceSlot (.tile t) n x 0) (.tile t) n x.part t
  have hrep : e.reports = d.reports := by
    rw [← he]
    rfl
  refine ⟨?_, ?_, ?_, ?_⟩
  · rw [slot_wakeWaiters, traceSlot_slot, hslot]
    exact wokenSlot_of_free _ _ _ _ rfl
  · rw [htr]
    exact hrep
  · rw [hq, traceSlot_tiles]
    exact htile.1
  · rw [hq, traceSlot_tiles]
    exact htile.2

/-! ### Ends of channels -/

/-- A bit that is set reads 1. -/
theorem setBit_same (w : W32) (i : Nat) (hi : i < 32) : bitOf (setBit w i true) i = true := by
  have hsplit : w.toNat - (w.toNat >>> i % 2 ^ 1) <<< i + (true.toNat % 2 ^ 1) <<< i =
      2 ^ i * (w.toNat / 2 ^ i - w.toNat / 2 ^ i % 2 + 1) + w.toNat % 2 ^ i := by
    have hw := Nat.div_add_mod w.toNat (2 ^ i)
    have hle : 2 ^ i * (w.toNat / 2 ^ i % 2) ≤ 2 ^ i * (w.toNat / 2 ^ i) := Nat.mul_le_mul_left _ (Nat.mod_le _ _)
    rw [Nat.shiftRight_eq_div_pow, Nat.shiftLeft_eq, Nat.shiftLeft_eq, Nat.mul_add, Nat.mul_sub, Nat.mul_comm (w.toNat / 2 ^ i % 2 ^ 1)]
    simp only [Bool.toNat_true, pow_one, Nat.one_mod, one_mul, mul_one]
    omega
  rw [bitOf, setBit, setFld, BitVec.getLsbD_ofNat, decide_eq_true hi, Bool.true_and, hsplit, Nat.testBit_eq_decide_div_mod_eq,
    Nat.mul_add_div (Nat.two_pow_pos i), Nat.div_eq_of_lt (Nat.mod_lt _ (Nat.two_pow_pos i))]
  exact decide_eq_true (by omega)

/-- Settles O25: every end of a channel at its own tile is `endAtTile`, with the status it was given. -/
theorem channelsEnd : Obligations.ChannelsEnd := by
  unfold Obligations.ChannelsEnd
  intro s t n x hl hlen hdesc horigin z w tok
  have hend : ∀ status : Nat, s.dev.endChannel (.tile t) n status = s.dev.endAtTile t n status := by
    intro status
    unfold Device.endChannel
    simp only [hdesc, horigin, if_true]
  refine ⟨fun hdone htag hop hroom => ?_, fun hst hawaits hreads htag halloc hstatus hsen => ?_, fun rest hrep hsen => ?_⟩
  · obtain ⟨hslot, -, htok, hnote⟩ := endAtTile_spec s.dev t n 0 x hdesc hlen (fun _ => hroom)
    have hrun : s.dev.channelEnd (.tile t) n = s.dev.endAtTile t n 0 := by
      have htag' : (s.dev.slot (.tile t) n).tag = none := htag
      have hdone' : (s.dev.slot (.tile t) n).streamDone x = true := hdone
      unfold Device.channelEnd
      simp only [hdesc, hdone', htag', hop, Bool.not_true, Option.isSome_none, Bool.or_self, Bool.false_eq_true, if_false, decide_true,
        Bool.true_or, if_true]
      exact hend 0
    refine ⟨_, onLive_live (fun d => d.channelEnd (.tile t) n) s hl, ?_⟩
    dsimp only
    rw [hrun, hslot]
    refine ⟨rfl, rfl, rfl, htok.trans ?_, hnote⟩
    simp only [signalsEnd, ne_eq, OfNat.zero_ne_ofNat, not_false_eq_true, decide_true, Bool.and_true]
    rfl
  · obtain ⟨hslot, -, -, hnote⟩ := endAtTile_spec s.dev t n 1 x hdesc hlen (fun h => by
      simp only [signalsEnd, Bool.and_eq_true] at h
      exact absurd (h.1.1.symm.trans hsen) (by decide))
    have hrun : s.dev.channelStopped (.tile t) n = s.dev.endAtTile t n 1 := by
      unfold Device.channelStopped Device.returnSlot
      simp only [z] at hst hawaits hreads htag halloc hstatus
      simp only [hdesc, hst, hawaits, hreads, htag, halloc, hstatus]
      exact hend 1
    refine ⟨_, onLive_live (fun d => d.channelStopped (.tile t) n) s hl, ?_⟩
    dsimp only
    rw [hrun, hslot, hnote]
    exact ⟨rfl, rfl, setBit_same _ _ (by omega)⟩
  · have hspec := endAtTile_spec { s.dev with reports := rest } t n 0 x hdesc hlen (fun h => by
      simp only [signalsEnd, Bool.and_eq_true] at h
      exact absurd (h.1.1.symm.trans hsen) (by decide))
    obtain ⟨hslot, hreports, -, -⟩ := hspec
    have hrun : s.dev.endReport t = ({ s.dev with reports := rest } : Device).endAtTile t n 0 := by
      have hfind : s.dev.reports.find? (fun r => r.1 = t) = some (t, n, 0) := by
        rw [hrep]
        exact List.find?_cons_of_pos (decide_eq_true rfl)
      unfold Device.endReport
      rw [hfind]
      simp only [hrep, List.erase_cons_head]
    refine ⟨_, onLive_live (fun d => d.endReport t) s hl, ?_⟩
    dsimp only
    rw [hrun, hslot]
    exact ⟨hreports, rfl, rfl⟩

end Sys2Proof.Machine

/-! Selection and pacing of channels (R200, R203, R204). -/

namespace Sys2Proof.Machine

/-! ### The slot a mover picks (R200) -/

/-- One slot considered by the pick. -/
def pickStep (acc : Option (Nat × Nat)) (s : Slot × Nat) : Option (Nat × Nat) :=
  if s.1.st = .ready then
    match acc with
    | some (_, pr) => if s.1.prio.val > pr then some (s.2, s.1.prio.val) else acc
    | none => some (s.2, s.1.prio.val)
  else acc

/-- Slots that are not better than the one picked do not replace it. -/
theorem pick_keeps (l : List (Slot × Nat)) (k pr : Nat) (h : ∀ s ∈ l, s.1.st = .ready → s.1.prio.val ≤ pr) :
    l.foldl pickStep (some (k, pr)) = some (k, pr) := by
  induction l with
  | nil => rfl
  | cons s l ih =>
    have hstep : pickStep (some (k, pr)) s = some (k, pr) := by
      unfold pickStep
      split
      · next hr => exact if_neg (Nat.not_lt.mpr (h s List.mem_cons_self hr))
      · rfl
    rw [List.foldl_cons, hstep]
    exact ih (fun s hs => h s (List.mem_cons_of_mem _ hs))

/-- What is picked so far is worse than a slot that beats all before it. -/
theorem pick_below (l : List (Slot × Nat)) (acc : Option (Nat × Nat)) (pr : Nat) (hacc : ∀ a ∈ acc, a.2 < pr)
    (h : ∀ s ∈ l, s.1.st = .ready → s.1.prio.val < pr) : ∀ a ∈ l.foldl pickStep acc, a.2 < pr := by
  induction l generalizing acc with
  | nil => exact hacc
  | cons s l ih =>
    refine ih _ ?_ (fun s hs => h s (List.mem_cons_of_mem _ hs))
    have hs := h s List.mem_cons_self
    unfold pickStep
    intro a ha
    split at ha
    · next hr =>
      split at ha
      · split at ha
        · obtain rfl := Option.some.inj ha
          exact hs hr
        · exact hacc a ha
      · obtain rfl := Option.some.inj ha
        exact hs hr
    · exact hacc a ha

theorem pick_eq (q : Mover) : q.pick = (q.slots.zipIdx.foldl pickStep none).map (·.1) := rfl

/-- The slot R200 says is picked. -/
theorem pick_of_selects (q : Mover) (k : Nat) (h : q.selects k) : q.pick = some k := by
  obtain ⟨hk, hready, hbest⟩ := h
  have hget : ∀ j (hj : j < q.slots.length), q.slots[j] = q.slot j := fun j hj => by
    rw [Mover.slot, List.getD_eq_getElem?_getD, List.getElem?_eq_getElem hj]
    rfl
  have hsplit : q.slots.zipIdx = q.slots.zipIdx.take k ++ (q.slot k, k) :: q.slots.zipIdx.drop (k + 1) := by
    have hk' : k < q.slots.zipIdx.length := by rwa [List.length_zipIdx]
    have hat : q.slots.zipIdx[k] = (q.slot k, k) := by rw [List.getElem_zipIdx, hget k hk, Nat.zero_add]
    rw [← hat, ← List.drop_eq_getElem_cons hk', List.take_append_drop]
  have hmem : ∀ (s : Slot × Nat), s ∈ q.slots.zipIdx → s.2 < q.slots.length ∧ s.1 = q.slot s.2 := by
    rintro ⟨s, j⟩ hs
    obtain ⟨-, hj, hsj⟩ := List.mem_zipIdx hs
    simp only [Nat.sub_zero, Nat.zero_add] at hj hsj
    exact ⟨hj, by rw [← hget j hj]; exact hsj⟩
  have hbefore : ∀ s ∈ q.slots.zipIdx.take k, s.1.st = .ready → s.1.prio.val < (q.slot k).prio.val := by
    intro s hs hr
    obtain ⟨hj, hsj⟩ := hmem s (List.mem_of_mem_take hs)
    have hlt : s.2 < k := by
      obtain ⟨i, hi, rfl⟩ := List.mem_iff_getElem.mp hs
      rw [List.getElem_take, List.getElem_zipIdx]
      rw [List.length_take] at hi
      simp only
      omega
    rcases hbest s.2 hj (hsj ▸ hr) with hlow | ⟨-, hge⟩
    · rw [hsj]
      exact hlow
    · omega
  have hafter : ∀ s ∈ q.slots.zipIdx.drop (k + 1), s.1.st = .ready → s.1.prio.val ≤ (q.slot k).prio.val := by
    intro s hs hr
    obtain ⟨hj, hsj⟩ := hmem s (List.mem_of_mem_drop hs)
    rcases hbest s.2 hj (hsj ▸ hr) with hlow | ⟨heq, -⟩
    · rw [hsj]
      exact Nat.le_of_lt hlow
    · rw [hsj, heq]
  have hmine : pickStep ((q.slots.zipIdx.take k).foldl pickStep none) (q.slot k, k) = some (k, (q.slot k).prio.val) := by
    have hbelow := pick_below (q.slots.zipIdx.take k) none (q.slot k).prio.val (fun _ h => absurd h nofun) hbefore
    unfold pickStep
    rw [if_pos hready]
    split
    · next a pr hacc => exact if_pos (hbelow (a, pr) hacc)
    · rfl
  rw [pick_eq, hsplit, List.foldl_append, List.foldl_cons, hmine, pick_keeps _ _ _ hafter]
  rfl

/-! ### Commands of a mover -/

/-- The slot of a mover in a given state, when it is the lowest. -/
theorem slotIn_eq (d : Device) (m : MoverId) (st : SlotSt) (k : Nat) (x : Desc) (hdesc : (d.slot m k).desc = some x)
    (hk : k < (d.mover m).slots.length) (hst : (d.slot m k).st = st) (hlow : ∀ j < k, (d.slot m j).st ≠ st) :
    d.slotIn m st = some (k, x) := by
  have hidx : firstIdx (fun s => decide (s.st = st)) (d.mover m).slots = some k :=
    firstIdx_slots _ _ k hk (by simpa [Device.slot] using hst) (fun j hj => by simpa [Device.slot] using hlow j hj)
  rw [Device.slotIn, hidx]
  simp only [hdesc, Option.map_some]

/-- Settles O23: the pick is the slot R200 names, and each command acts on the lowest slot in its state. -/
theorem moverSelectionAndPacing : Obligations.MoverSelectionAndPacing := by
  unfold Obligations.MoverSelectionAndPacing
  intro s m k x hl hdesc hk z
  refine ⟨fun hsel hidle hpool htag hheld hburst => ?_, fun hst hwait hpace hstart => ?_, fun hst hlow hpace hnext => ?_,
    fun hst hlow hpace hperiod hpos htarget hawaits hburst hnext => ?_, fun hst hlow hpace hopen hpos => ?_⟩
  · change onLive (fun d => d.moverSelect m) s = _
    rw [onLive_live _ _ hl]
    have hrun : firstIdx (fun (s : Slot) => decide (s.st = .running)) (s.dev.mover m).slots = none :=
      firstIdx_eq_none _ _ (fun q hq => by simpa using (hidle q hq).1)
    have hany : (s.dev.mover m).slots.any (fun s => s.st = .paused || s.st = .stopping) = false := by
      rw [List.any_eq_false]
      intro q hq
      simpa using (hidle q hq).2
    have hslot : ((s.dev.modSlot m k (fun q => { q with st := .running })).traceSlot m k x 3).slot m k = { z with st := .running } := by
      rw [traceSlot_slot, slot_modSlot _ _ _ _ hk]
    unfold Device.moverSelect
    simp only [hrun, hany, pick_of_selects _ k hsel, hdesc, hslot, htag, hheld, hpool, hburst, Bool.false_eq_true, if_false,
      Option.isSome_none, Bool.or_self, Bool.false_and, if_true]
  · change onLive (fun d => d.paceStart m k) s = _
    rw [onLive_live _ _ hl]
    unfold Device.paceStart
    simp only [hdesc]
    rw [if_pos ⟨hst, by rw [hwait]; rfl, hpace, hstart⟩]
  · change onLive (fun d => d.burstStart m) s = _
    rw [onLive_live _ _ hl, Device.burstStart, slotIn_eq s.dev m .paused k x hdesc hk hst hlow]
    simp only
    rw [if_pos ⟨hpace, hnext⟩]
    rfl
  · change onLive (fun d => d.burstDone m) s = _
    rw [onLive_live _ _ hl, Device.burstDone, slotIn_eq s.dev m .running k x hdesc hk hst hlow]
    simp only
    rw [if_pos ⟨hpace, hperiod, hpos, htarget, hawaits, hburst⟩, if_neg (Nat.not_le.mpr hnext)]
  · change onLive (fun d => d.fillUnit m) s = _
    rw [onLive_live _ _ hl, Device.fillUnit, slotIn_eq s.dev m .running k x hdesc hk hst hlow]
    have hopen' : (s.dev.slot m k).unitOpen = false := hopen
    simp only [hopen', Bool.false_eq_true, if_false]
    rw [if_neg (not_not.mpr hpace), if_pos hpos]

end Sys2Proof.Machine

/-! MV.LAUNCH, MV.SETPRIO and MV.CANCEL (R189, R190, R199, R201, R208). -/

namespace Sys2Proof.Machine

/-! ### Operations that reach a clasp of their own partition directly -/

/-- What `clDirect` says, clause by clause. -/
theorem clDirect_iff (d : Device) (t : TileNo) (p : PartNo) (c : CtxNo) (u : TileNo) :
    d.clDirect t p c u = true ↔ (d.tiles[u]).bound = some p ∧ (d.tiles[t]).pocketBad = [] ∧ (d.tiles[u]).pocketBad = [] ∧
      (d.ctxs[c]).auditTile ≠ some t ∧ (d.tiles[t]).toMatch = none ∧ (d.ctxs[c]).suspectUnit = none := by
  simp only [Device.clDirect, Bool.and_eq_true, decide_eq_true_eq, List.isEmpty_iff, Option.isNone_iff_eq_none, and_assoc]

theorem gate_direct (d : Device) (t : TileNo) (p : PartNo) (c : CtxNo) (u : TileNo) (e : JEntry) (chip n : Nat)
    (h : d.clDirect t p c u = true) : d.gate c t e chip n = .perform d := by
  obtain ⟨-, -, -, haudit, hmatch, hsuspect⟩ := (clDirect_iff d t p c u).mp h
  unfold Device.gate Device.fencedCtx
  simp only [haudit, hmatch, hsuspect, decide_false, Bool.false_and, Bool.false_eq_true, if_false, Option.isSome_none]

theorem owns_tile (d : Device) (p : PartNo) (u : TileNo) (h : (d.tiles[u]).bound = some p) : d.owns p u.val = true := by
  unfold Device.owns
  rw [dif_pos u.isLt]
  exact decide_eq_true h

/-- A registration evaluated where no pocket word has an ECC error is accepted or waits. -/
theorem judgeWatch_clean (d : Device) (t : TileNo) (w : Watch) (by_ : Option (TileNo × Nat)) (slot : Option Nat)
    (h : (d.tiles[t]).pocketBad = []) : (d.judgeWatch t w by_ slot).1 ≠ .poison := by
  unfold Device.judgeWatch
  rw [pocketRead_clean _ _ _ _ _ h]
  simp only [reduceCtorEq, if_false]
  split
  · nofun
  · split
    · nofun
    · split <;> nofun

/-- Such a registration is neither denied nor poisoned. -/
theorem watchFrom_direct (d : Device) (t : TileNo) (p : PartNo) (c : CtxNo) (u : TileNo) (eng : Fin 64) (r : Requester) (req : Nat)
    (w : Watch) (by_ : Option (TileNo × Nat)) (h : d.clDirect t p c u = true) :
    (d.watchFrom p c t eng r req d.chipId.toNat u.val false w by_).1 ≠ .denied ∧
      (d.watchFrom p c t eng r req d.chipId.toNat u.val false w by_).1 ≠ .poison := by
  obtain ⟨hbound, -, hclean, -, -, -⟩ := (clDirect_iff d t p c u).mp h
  have hsend : d.watchSend p r req d.chipId.toNat u.val false w by_ =
      (WRes.ofReg (d.registerWatch u w by_).1 (d.registerWatch u w by_).2.1, (d.registerWatch u w by_).2.2) := by
    unfold Device.watchSend
    simp only [if_true, dif_pos u.isLt, owns_tile d p u hbound, Bool.not_false, Bool.and_self]
  have hreg : (d.registerWatch u w by_).1 ≠ .poison := judgeWatch_clean _ _ _ _ _ hclean
  have hres : WRes.ofReg (d.registerWatch u w by_).1 (d.registerWatch u w by_).2.1 ≠ .denied ∧
      WRes.ofReg (d.registerWatch u w by_).1 (d.registerWatch u w by_).2.1 ≠ .poison := by
    revert hreg
    cases (d.registerWatch u w by_).1 with
    | accepted => exact fun _ => ⟨nofun, nofun⟩
    | queued => exact fun _ => ⟨nofun, nofun⟩
    | poison => exact fun hne => absurd rfl hne
  unfold Device.watchFrom
  simp only [gate_direct d t p c u _ _ _ h, hsend]
  revert hres
  cases WRes.ofReg (d.registerWatch u w by_).1 (d.registerWatch u w by_).2.1 with
  | accepted v =>
    intro hres
    cases v with
    | some v => exact hres
    | none => exact hres
  | _ => exact id

/-- The watch of a paced channel of a tile, on a tile it reaches directly, ends in accesses to pockets and clasps only. -/
theorem paceWatch_direct (d : Device) (t : TileNo) (n : Fin 8) (k : Nat) (x : Desc) (horigin : x.origin = .tile t n)
    (h : d.clDirect t x.part x.ctx x.paceTile = true) : d.Touched (d.paceWatch (.tile t) k x) := by
  have hlaunch : x.launcher = some (t, n) := by rw [Desc.launcher, horigin]
  have hwatch : ∀ (q : ClaspNo) (cond v : Nat), (d.chanWatch (.tile t) k x d.chipId.toNat x.paceTile q false cond v).1 ≠ .denied ∧
      (d.chanWatch (.tile t) k x d.chipId.toNat x.paceTile q false cond v).1 ≠ .poison := by
    intro q cond v
    unfold Device.chanWatch
    simp only [hlaunch]
    exact watchFrom_direct d t x.part x.ctx x.paceTile _ _ _ _ _ h
  have hor : ∀ (g : WRes × Device) (a b : Device), g.1 ≠ .denied ∧ g.1 ≠ .poison → d.Touched g.2 →
      d.Touched (match g.1 with | .denied => a | .poison => b | _ => g.2) := by
    intro g a b hg hd
    obtain ⟨hden, hpoi⟩ := hg
    split
    · next hd => exact absurd hd hden
    · next hp => exact absurd hp hpoi
    · exact hd
  unfold Device.paceWatch
  dsimp only
  by_cases hpace : dPace x.d = 3
  · have htile : x.paceTile = dCTile x.d := if_pos hpace
    simp only [hpace, if_true]
    have hw := hwatch (fin (dCClasp x.d)) (dCCond x.d).val (dCVal x.d)
    rw [htile] at hw ⊢
    exact hor _ _ _ hw (chanWatch_touched _ _ _ _ _ _ _ _ _ _)
  · have htile : x.paceTile = dFTile x.d := if_neg hpace
    simp only [hpace, if_false]
    have hw := hwatch (fin (dFHead x.d)) 2 ((clValue (d.claspWord (dFTile x.d) (dFTail x.d)) + dFHigh x.d + 1) % 2 ^ 48)
    rw [htile] at hw ⊢
    exact hor _ _ _ hw (chanWatch_touched _ _ _ _ _ _ _ _ _ _)

/-! ### Launching (R189, R190, R199) -/

/-- A slot that has taken a descriptor. -/
def Slot.launched (s : Slot) (x : Desc) (st : SlotSt) : Slot :=
  { Slot.reset with status := s.status, prio := dPrio x.d, exec := fin (dExec x.d), mover := fin (dMover x.d), desc := some x, st := st }

theorem Device.Touched.flight {d e : Device} (h : d.Touched e) (t : TileNo) : (e.tiles[t]).flight = (d.tiles[t]).flight := by
  rw [h.tile t]

/-- A descriptor that enters a slot of its own tile's mover. -/
theorem acceptSlot_own (d : Device) (t : TileNo) (n : Fin 8) (x : Desc) (horigin : x.origin = .tile t n)
    (hlen : (d.tiles[t]).mover.slots.length = 8) (hdirect : 3 ≤ dPace x.d → d.clDirect t x.part x.ctx x.paceTile = true) :
    (d.acceptSlot (.tile t) n x).slot (.tile t) n = (d.slot (.tile t) n).launched x (if dPace x.d = 0 then .ready else .waiting) ∧
      ((d.acceptSlot (.tile t) n x).tiles[t]).flight = (d.tiles[t]).flight := by
  obtain ⟨e, he, hslot, htiles, hctxs⟩ : ∃ e : Device,
      d.acceptSlot (.tile t) n x = (if dPace x.d ≥ 3 then e.paceWatch (.tile t) n x else e) ∧
      e.slot (.tile t) n = (d.slot (.tile t) n).launched x (if dPace x.d = 0 then .ready else .waiting) ∧
      (∀ v : TileNo, ∃ q, e.tiles[v] = { d.tiles[v] with mover := q }) ∧ e.ctxs = d.ctxs := by
    refine ⟨_, rfl, ?_, fun v => ?_, ?_⟩
    · rw [traceSlot_slot, slot_modSlot _ _ _ _ (by change n.val < (d.tiles[t]).mover.slots.length; omega)]
      rfl
    · rw [traceSlot_tiles]
      exact modSlot_tile d t v n _
    · obtain ⟨tr, htr⟩ := traceSlot_eq (d.modSlot (.tile t) n (fun s =>
        { Slot.reset with status := s.status, prio := dPrio x.d, exec := fin (dExec x.d), mover := fin (dMover x.d),
                          desc := some x, st := if dPace x.d = 0 then .ready else .waiting })) (.tile t) n x
        (if dPace x.d = 0 then 2 else 1)
      rw [htr]
      rfl
  have hflight : (e.tiles[t]).flight = (d.tiles[t]).flight := by
    obtain ⟨q, hq⟩ := htiles t
    rw [hq]
  rw [he]
  split
  · next hpace =>
    have hd : e.clDirect t x.part x.ctx x.paceTile = true := by
      have h := (clDirect_iff d t x.part x.ctx x.paceTile).mp (hdirect hpace)
      obtain ⟨q, hq⟩ := htiles t
      obtain ⟨q', hq'⟩ := htiles x.paceTile
      rw [clDirect_iff, hq, hq', hctxs]
      exact h
    have htouched := paceWatch_direct e t n n x horigin hd
    exact ⟨(htouched.slot _ _).trans hslot, (htouched.flight t).trans hflight⟩
  · exact ⟨hslot, hflight⟩

/-- A launch into a free slot. -/
theorem mvLaunch_eq (d : Device) (t : TileNo) (k : Nat) (e : Eng) (f : Flight) (a b r q : W256) (x : Desc)
    (hready : d.readyAny t k .launch = some (e, f)) (hown : d.owner t = some (x.part, x.ctx)) (hrecs : f.e.recs = [a, b, r, q])
    (hfree : (d.slot (.tile t) (mvSlot f.e.word)).st = .free)
    (hx : x = { d := b ++ a, srcRec := r, dstRec := q, origin := .tile t (mvSlot f.e.word), ctx := x.ctx, part := x.part, e := f.e })
    (hdirect : dExec x.d = 0 → 3 ≤ dPace x.d → d.clDirect t x.part x.ctx x.paceTile = true) :
    d.mvLaunch t k = if dExec x.d = 0 then (d.performed t e k 0).acceptSlot (.tile t) (mvSlot f.e.word) x else
      { ((d.performed t e k 0).modSlot (.tile t) (mvSlot f.e.word) (fun s => s.launched x .forwarded)).traceSlot (.tile t)
          (mvSlot f.e.word) x 5 with forwards := d.forwards ++ [(execMover (some t) x.d, x)] } := by
  have hfree' : ((d.tiles[t]).mover.slot (mvSlot f.e.word)).st = .free := hfree
  have hlaunch : x.launcher = some (t, mvSlot f.e.word) := by rw [hx]; rfl
  have hdue : (decide (dExec x.d = 0) && decide (dPace x.d ≥ 3) && d.shadowDue (.tile t) x) = false := by
    by_cases h : dExec x.d = 0 ∧ 3 ≤ dPace x.d
    · obtain ⟨-, -, -, haudit, -, -⟩ := (clDirect_iff d t x.part x.ctx x.paceTile).mp (hdirect h.1 h.2)
      have hshadow : d.shadowDue (.tile t) x = false := by
        unfold Device.shadowDue
        simp only [hlaunch, haudit, decide_false, Bool.false_and]
      rw [hshadow, Bool.and_false]
    · have hno : (decide (dExec x.d = 0) && decide (dPace x.d ≥ 3)) = false := by
        simp only [ge_iff_le, Bool.and_eq_false_iff, decide_eq_false_iff_not]
        omega
      rw [hno, Bool.false_and]
  unfold Device.mvLaunch
  have hd : b ++ a = x.d := by rw [hx]
  simp only [hready, hown, hrecs, ← hx]
  simp only [hd, hfree', hdue, ne_eq, not_true_eq_false, decide_false, Bool.or_self, Bool.false_eq_true, if_false]
  rfl

/-! ### Cancels (R208) -/

/-- Watches dropped leave movers, tokens and started instructions alone. -/
theorem dropWatches_tile (d : Device) (g : Watch → Bool) (t : TileNo) :
    ((d.dropWatches g).tiles[t]).mover = (d.tiles[t]).mover ∧ ((d.dropWatches g).tiles[t]).tok = (d.tiles[t]).tok ∧
      ((d.dropWatches g).tiles[t]).flight = (d.tiles[t]).flight := by
  refine ⟨?_, ?_, ?_⟩ <;> simp only [Device.dropWatches, Fin.getElem_fin, Vector.getElem_map]

theorem dropWatches_slot (d : Device) (g : Watch → Bool) (t : TileNo) (k : Nat) :
    (d.dropWatches g).slot (.tile t) k = d.slot (.tile t) k :=
  congrArg (fun q : Mover => q.slot k) (dropWatches_tile d g t).1

/-- A channel of the own tile's mover that has not started ends as CANCELLED, without a token. -/
theorem cancelSlot_unstarted (d : Device) (t : TileNo) (n : Fin 8) (x : Desc)
    (hst : (d.slot (.tile t) n).st = .ready ∨ (d.slot (.tile t) n).st = .waiting) (hdesc : (d.slot (.tile t) n).desc = some x)
    (horigin : x.origin = .tile t n) (hlen : (d.tiles[t]).mover.slots.length = 8) :
    (d.cancelSlot (.tile t) n).slot (.tile t) n = (d.slot (.tile t) n).ended 4 ∧
      ((d.cancelSlot (.tile t) n).tiles[t]).tok = (d.tiles[t]).tok := by
  generalize hg : (fun w : Watch => decide (w.holder = .mover (.tile t) n)) = g
  have hrun : d.cancelSlot (.tile t) n = (d.dropWatches g).endAtTile t n 4 := by
    have hend : (d.dropWatches g).endChannel (.tile t) n 4 = (d.dropWatches g).endAtTile t n 4 := by
      unfold Device.endChannel
      simp only [dropWatches_slot, hdesc, horigin, if_true]
    unfold Device.cancelSlot
    rcases hst with hst | hst
    · simp only [hdesc, hst, hg]
      exact hend
    · simp only [hdesc, hst, hg]
      exact hend
  have hno : signalsEnd x.e.word 4 = false := by
    unfold signalsEnd
    exact Bool.and_false _
  have hspec := endAtTile_spec (d.dropWatches g) t n 4 x (by rw [dropWatches_slot]; exact hdesc)
    (by rw [(dropWatches_tile d g t).1]; exact hlen) (fun h => absurd (hno.symm.trans h) nofun)
  obtain ⟨hslot, -, htok, -⟩ := hspec
  rw [hno, if_neg Bool.false_ne_true, (dropWatches_tile d g t).2.1] at htok
  rw [dropWatches_slot] at hslot
  rw [hrun]
  exact ⟨hslot, htok⟩

/-- One that runs is stopped. -/
theorem cancelSlot_started (d : Device) (t : TileNo) (n : Fin 8) (x : Desc)
    (hst : (d.slot (.tile t) n).st = .running ∨ (d.slot (.tile t) n).st = .paused) (hdesc : (d.slot (.tile t) n).desc = some x)
    (hlen : (d.tiles[t]).mover.slots.length = 8) :
    (d.cancelSlot (.tile t) n).slot (.tile t) n = { d.slot (.tile t) n with st := .stopping, status := 4 } ∧
      ((d.cancelSlot (.tile t) n).tiles[t]).flight = (d.tiles[t]).flight ∧ (d.cancelSlot (.tile t) n).devTime = d.devTime := by
  generalize hg : (fun w : Watch => decide (w.holder = .mover (.tile t) n)) = g
  have hrun : d.cancelSlot (.tile t) n =
      ((d.dropWatches g).modSlot (.tile t) n (fun s => { s with st := .stopping, status := 4 })).traceSlot (.tile t) n x 6 := by
    unfold Device.cancelSlot
    rcases hst with hst | hst <;> simp only [hdesc, hst, hg]
  have hn : n.val < ((d.dropWatches g).mover (.tile t)).slots.length := by
    change n.val < ((d.dropWatches g).tiles[t]).mover.slots.length
    rw [(dropWatches_tile d g t).1]
    omega
  obtain ⟨q, hq⟩ := modSlot_tile (d.dropWatches g) t t n (fun s => { s with st := .stopping, status := 4 })
  rw [hrun]
  refine ⟨?_, ?_, ?_⟩
  · rw [traceSlot_slot, slot_modSlot _ _ _ _ hn, dropWatches_slot]
  · rw [traceSlot_tiles, hq]
    exact (dropWatches_tile d g t).2.2
  · obtain ⟨tr, htr⟩ := traceSlot_eq ((d.dropWatches g).modSlot (.tile t) n (fun s => { s with st := .stopping, status := 4 }))
      (.tile t) n x 6
    rw [htr]
    rfl

/-- Settles O22: a launch takes the slot or makes it a proxy; a cancel ends a channel that has not started by `endAtTile`. -/
theorem moverInstructionResults : Obligations.MoverInstructionResults := by
  unfold Obligations.MoverInstructionResults
  intro s t k e f p c hl hown n m z hlen
  have hn : n.val < (s.dev.tiles[t]).mover.slots.length := by omega
  refine ⟨?_, ?_, ?_, ?_⟩
  · intro a b r q x hready hrecs hfree hx hdirect
    have horigin : x.origin = .tile t n := by rw [hx]
    have hpart : x.part = p := by rw [hx]
    have hctx : x.ctx = c := by rw [hx]
    subst hpart hctx
    have hrun := mvLaunch_eq s.dev t k e f a b r q x hready hown hrecs hfree hx hdirect
    have hslot1 : (s.dev.performed t e k 0).slot m n = z := slot_modTile _ m n t _ (fun _ => rfl)
    have hlen1 : ((s.dev.performed t e k 0).tiles[t]).mover.slots.length = 8 :=
      (congrArg (fun q : Mover => q.slots.length) (modTile_keeps (·.mover) s.dev t t _ (fun _ => by rfl))).trans hlen
    refine ⟨_, onLive_live (fun d => d.mvLaunch t k) s hl, ?_⟩
    dsimp only
    rw [hrun]
    by_cases hexec : dExec x.d = 0
    · rw [if_pos hexec]
      obtain ⟨hslot, hflight⟩ := acceptSlot_own (s.dev.performed t e k 0) t n x horigin hlen1 (fun hpace => by
        have h := (clDirect_iff _ _ _ _ _).mp (hdirect hexec hpace)
        have hkeep : ∀ v : TileNo, ((s.dev.performed t e k 0).tiles[v]).bound = (s.dev.tiles[v]).bound ∧
            ((s.dev.performed t e k 0).tiles[v]).pocketBad = (s.dev.tiles[v]).pocketBad ∧
            ((s.dev.performed t e k 0).tiles[v]).toMatch = (s.dev.tiles[v]).toMatch := fun v =>
          ⟨modTile_keeps (·.bound) s.dev t v _ (fun _ => rfl), modTile_keeps (·.pocketBad) s.dev t v _ (fun _ => rfl),
            modTile_keeps (·.toMatch) s.dev t v _ (fun _ => rfl)⟩
        rw [clDirect_iff, (hkeep _).1, (hkeep t).2.1, (hkeep x.paceTile).2.1, (hkeep t).2.2]
        exact h)
      rw [hslot1] at hslot
      refine ⟨by rw [hslot]; rfl, by rw [hslot]; rfl, by rw [hslot]; rfl, ?_, fun h => absurd hexec h, ?_⟩
      · rw [hslot, if_neg (not_not.mpr hexec)]
        rfl
      · rw [hflight, performed_flight, modTile_get]
    · rw [if_neg hexec]
      have hslot : ∀ fw, ({ ((s.dev.performed t e k 0).modSlot m n (fun s => s.launched x .forwarded)).traceSlot m n x 5 with
          forwards := fw } : Device).slot m n = z.launched x .forwarded := fun fw => by
        refine Eq.trans (traceSlot_slot _ m m n n x 5) ?_
        rw [slot_modSlot _ _ _ _ (by change n.val < ((s.dev.performed t e k 0).tiles[t]).mover.slots.length; omega), hslot1]
      refine ⟨by rw [hslot]; rfl, by rw [hslot]; rfl, by rw [hslot]; rfl, ?_, fun _ => rfl, ?_⟩
      · rw [hslot, if_pos hexec]
        rfl
      · obtain ⟨q, hq⟩ := modSlot_tile (s.dev.performed t e k 0) t t n (fun s => s.launched x .forwarded)
        change ((((s.dev.performed t e k 0).modSlot m n (fun s => s.launched x .forwarded)).traceSlot m n x 5).tiles[t]).flight = _
        rw [traceSlot_tiles, hq, performed_flight, modTile_get]
  · intro hready hst
    have hslot1 : (s.dev.performed t e k 0).slot m n = z := slot_modTile _ m n t _ (fun _ => rfl)
    have hrun : s.dev.mvSetprio t k = (s.dev.performed t e k 0).modSlot m n (fun s => { s with prio := mvPrio f.e.word }) := by
      unfold Device.mvSetprio
      simp only [hready]
      split
      · next hst' _ => exact absurd ((congrArg Slot.st hslot1).symm.trans hst') hst
      · rfl
    refine ⟨_, onLive_live (fun d => d.mvSetprio t k) s hl, ?_⟩
    dsimp only
    rw [hrun]
    refine ⟨?_, ?_, fun j hj => ?_⟩
    · rw [slot_modSlot _ _ _ _ (by
        change n.val < ((s.dev.performed t e k 0).tiles[t]).mover.slots.length
        rw [performed_flight, modTile_get]
        exact hn), hslot1]
    · obtain ⟨q, hq⟩ := modSlot_tile (s.dev.performed t e k 0) t t n (fun s => { s with prio := mvPrio f.e.word })
      rw [hq, performed_flight, modTile_get]
    · rw [slot_modSlot_ne _ _ _ _ _ hj]
      exact slot_modTile _ m j t _ (fun _ => rfl)
  · intro hready hst ⟨x, hdesc, horigin⟩
    obtain ⟨hslot, htok⟩ := cancelSlot_unstarted s.dev t n x hst hdesc horigin hlen
    have hfree : ((s.dev.cancelSlot m n).slot m n).st = .free := by rw [hslot]; rfl
    have hrun : s.dev.mvCancel t k = (s.dev.cancelSlot m n).performed t e k 0 := by
      have hne : (s.dev.slot (.tile t) (mvSlot f.e.word)).st ≠ .forwarded := by
        rcases hst with hst | hst <;> exact fun h => absurd (hst.symm.trans h) nofun
      unfold Device.mvCancel
      simp only [hready, if_neg hne]
      rw [if_pos hfree]
    have hkeep : ((s.dev.cancelSlot m n).performed t e k 0).slot m n = z.ended 4 := (slot_modTile _ m n t _ (fun _ => by rfl)).trans hslot
    refine ⟨_, onLive_live (fun d => d.mvCancel t k) s hl, ?_⟩
    dsimp only
    rw [hrun, hkeep]
    refine ⟨rfl, rfl, rfl, ?_⟩
    rw [performed_flight, modTile_get]
    exact htok
  · intro hready hst hdesc
    obtain ⟨x, hx⟩ := Option.isSome_iff_exists.mp hdesc
    obtain ⟨hslot, hflight, htime⟩ := cancelSlot_started s.dev t n x hst hx hlen
    have hnot : ((s.dev.cancelSlot m n).slot m n).st ≠ .free := by rw [hslot]; exact SlotSt.noConfusion
    have hrun : s.dev.mvCancel t k = (s.dev.cancelSlot m n).performed t e k 1 := by
      have hne : (s.dev.slot (.tile t) (mvSlot f.e.word)).st ≠ .forwarded := by
        rcases hst with hst | hst <;> exact fun h => absurd (hst.symm.trans h) nofun
      unfold Device.mvCancel
      simp only [hready, if_neg hne]
      rw [if_neg hnot]
    have hkeep : ((s.dev.cancelSlot m n).performed t e k 1).slot m n = { z with st := .stopping, status := 4 } :=
      (slot_modTile _ m n t _ (fun _ => by rfl)).trans hslot
    refine ⟨_, onLive_live (fun d => d.mvCancel t k) s hl, ?_⟩
    dsimp only
    rw [hrun, hkeep]
    refine ⟨rfl, rfl, ?_⟩
    rw [performed_flight, modTile_get, Tile.flightDone, Tile.flightDone, hflight, htime]

end Sys2Proof.Machine

/-! Kernel starts and time limits (R114, R116, R161). -/

namespace Sys2Proof.Machine

/-! ### Folds that visit tiles once -/

/-- A fold of edits that each touch one tile, over a list that names none twice, edits each of its tiles once, as it was. -/
theorem foldl_tile {f : Device → TileNo → Device} (hf : ∀ (d : Device) (u v : TileNo), v ≠ u → (f d u).tiles[v] = d.tiles[v])
    (l : List TileNo) (hl : l.Nodup) (d : Device) (t : TileNo) :
    (t ∉ l → (l.foldl f d).tiles[t] = d.tiles[t]) ∧
      (t ∈ l → ∃ e : Device, e.tiles[t] = d.tiles[t] ∧ (l.foldl f d).tiles[t] = (f e t).tiles[t]) := by
  induction l generalizing d with
  | nil => exact ⟨fun _ => rfl, fun h => absurd h List.not_mem_nil⟩
  | cons u l ih =>
    obtain ⟨hu, hl⟩ := List.nodup_cons.mp hl
    obtain ⟨hout, hin⟩ := ih hl (f d u)
    refine ⟨fun h => ?_, fun h => ?_⟩
    · rw [List.mem_cons, not_or] at h
      exact (hout h.2).trans (hf d u t h.1)
    · by_cases htu : t = u
      · subst htu
        exact ⟨d, rfl, hout hu⟩
      · obtain ⟨e, he, hfold⟩ := hin ((List.mem_cons.mp h).resolve_left htu)
        exact ⟨e, he.trans (hf d u t htu), hfold⟩

theorem mem_ctxTiles (d : Device) (c : CtxNo) (t : TileNo) : t ∈ d.ctxTiles c ↔ (d.tiles[t]).ctx = some c := by
  simp [Device.ctxTiles]

theorem nodup_ctxTiles (d : Device) (c : CtxNo) : (d.ctxTiles c).Nodup := (List.nodup_finRange 512).filter _

/-! ### Faults -/

/-- A fault of a tile changes no other tile. -/
theorem faultTile_get_ne (d : Device) (t v : TileNo) (code unit pcq detail : Nat) (h : v ≠ t) :
    (d.faultTile t code unit pcq detail).tiles[v] = d.tiles[v] := by
  unfold Device.faultTile
  dsimp only
  split
  · rfl
  · split
    · exact modTile_get_ne _ _ _ _ h
    · exact (congrArg (fun ts : Vector Tile 512 => ts[v]) (askTeardown_frame _ _ _).1).trans (modTile_get_ne _ _ _ _ h)

/-- A first fault stops its tile and is recorded with its code. -/
theorem faultTile_stops (d : Device) (t : TileNo) (c : CtxNo) (code unit pcq detail : Nat) (hcode : code < 256) (hunit : unit < 8)
    (hc : (d.tiles[t]).ctx = some c) (hv : bitOf (d.tiles[t]).faultInfo 11 = false) (hm : (d.tiles[t]).mode ≠ .faulted) :
    ((d.faultTile t code unit pcq detail).tiles[t]).mode = .faulted ∧
      fld ((d.faultTile t code unit pcq detail).tiles[t]).faultInfo 0 8 = code := by
  rw [faultTile_first _ _ c _ _ _ _ hc hv hm, (askTeardown_frame _ _ _).1, modTile_get]
  exact ⟨rfl, (faultWord_code_valid _ _ _ _ _ hcode hunit).1⟩

theorem unitOf_lt (e : Eng) : unitOf e < 8 := by cases e <;> decide

/-! ### The commands -/

/-- A kernel starts with its registers cleared and its record taken (R161). -/
theorem kernelStart_eq (d : Device) (t : TileNo) (c : CtxNo) (p : PartNo) (pc : Nat) (hctx : (d.tiles[t]).ctx = some c)
    (hbound : (d.tiles[t]).bound = some p) (hmode : (d.tiles[t]).mode = .idle) (hst : (d.ctxs[c]).st = .running)
    (hstep : (d.ctxs[c]).inStep = true) (hrest : (d.ctxs[c]).restoring = false) (hentry : d.entryOf c t = some pc) :
    ∃ g : Tile, (d.kernelStart t).tiles = (d.modTile t (fun _ => g)).tiles ∧ g.pc = pc ∧ g.mode = .running ∧
      g.step = (d.ctxs[c]).stepNo ∧ g.bnd = Vector.replicate 16 0 ∧ g.tok = Vector.replicate 8 0 ∧ g.lc = Vector.replicate 4 0 ∧
      g.lining = [] ∧ g.vxStatus = 0 ∧ g.cvtStatus = 0 ∧ g.accStatus = 0 ∧ g.pocket = (d.tiles[t]).pocket := by
  unfold Device.kernelStart
  simp only [hctx, hbound, hst, hstep, hrest, hmode, hentry, decide_true, Bool.not_false, Bool.and_self, if_true]
  refine ⟨_, rfl, ?_⟩
  simp only [liningClear_eq, and_self]

/-- Settles O26: the watchdog's fold meets each tile of the context once. -/
theorem kernelStartAndTimeLimits : Obligations.KernelStartAndTimeLimits := by
  unfold Obligations.KernelStartAndTimeLimits
  intro s c hl
  refine ⟨?_, ?_, ?_⟩
  · intro t p pc x hctx hbound hmode hst hstep hrest hentry
    obtain ⟨g, htiles, hg⟩ := kernelStart_eq s.dev t c p pc hctx hbound hmode hst hstep hrest hentry
    refine ⟨_, onLive_live (fun d => d.kernelStart t) s hl, ?_⟩
    dsimp only
    rw [htiles, modTile_get]
    obtain ⟨hpc, hmode, hstep, hbnd, htok, hlc, hlining, hvx, hcvt, hacc, hpocket⟩ := hg
    exact ⟨hpc, hmode, hstep, hbnd, htok, hlc, hlining, hvx, hcvt, hacc, hpocket, fun v hv => modTile_get_ne _ _ _ _ hv⟩
  · intro hst hstep hlimit hsince
    refine ⟨_, onLive_live (fun d => d.stepWatchdog c) s hl, fun t hctx hmode hv => ?_⟩
    have hrun : s.dev.stepWatchdog c =
        (s.dev.ctxTiles c).foldl (fun d t => d.faultTile t fcStepWatchdog 0 ((d.tiles[t]).pc / 16) 0) s.dev := by
      unfold Device.stepWatchdog
      simp only [hst, hstep, decide_true, Bool.true_and, ne_eq, hlimit, not_false_eq_true, ge_iff_le, hsince, if_true]
    obtain ⟨-, hin⟩ := foldl_tile (f := fun d t => d.faultTile t fcStepWatchdog 0 ((d.tiles[t]).pc / 16) 0)
      (fun d u v h => faultTile_get_ne d u v _ _ _ _ h) _ (nodup_ctxTiles s.dev c) s.dev t
    obtain ⟨e, he, hfold⟩ := hin ((mem_ctxTiles s.dev c t).mpr hctx)
    dsimp only
    rw [hrun, hfold]
    exact faultTile_stops e t c _ _ _ _ (by decide) (by decide) (by rw [he]; exact hctx) (by rw [he]; exact hv) (by rw [he]; exact hmode)
  · intro t e f hctx hmode hrep hfind hv
    refine ⟨_, onLive_live (fun d => d.reqTimeout (.tile t e)) s hl, ?_⟩
    obtain ⟨d, hd, hrun⟩ : ∃ d : Device, d.tiles = s.dev.tiles ∧
        s.dev.reqTimeout (.tile t e) = d.faultTile t fcReqTimeout (unitOf e) f.e.pcq 0 := by
      have hon : (s.dev.tiles[t]).engineOn = true := by
        unfold Tile.engineOn
        rw [hctx, decide_eq_true hmode]
        rfl
      unfold Device.reqTimeout
      simp only [hon, hrep, hfind, Bool.not_true, Bool.or_self, Bool.false_eq_true, if_false]
      cases f.tag with
      | none => exact ⟨s.dev, rfl, rfl⟩
      | some g => exact ⟨s.dev.dropTag g, rfl, rfl⟩
    have hstop := faultTile_stops d t c fcReqTimeout (unitOf e) f.e.pcq 0 (by decide) (unitOf_lt e) (by rw [hd]; exact hctx)
      (by rw [hd]; exact hv) (by rw [hd]; exact hmode)
    dsimp only
    rw [hrun]
    refine ⟨hstop.1, hstop.2, fun v hv => ?_⟩
    rw [faultTile_get_ne _ _ _ _ _ _ _ hv, hd]

end Sys2Proof.Machine

/-! What the work of engines, movers, rings and queues changes (R189 to R217, R290 to R296, R326 to R339, R381, R424): pocket and clasp
accesses, channels, jobs, packets and completions; never which tile a context holds, what it is bound to, or its images and steps. -/

namespace Sys2Proof.Machine

/-- `e` is `d` but for what engines, movers, rings and queues do of themselves. -/
structure Device.Worked (d e : Device) : Prop where
  rest : e = { d with tiles := e.tiles, ctxs := e.ctxs, ports := e.ports, tags := e.tags, nextTag := e.nextTag,
                      farWatches := e.farWatches, drops := e.drops, dropTotal := e.dropTotal, cntCorrected := e.cntCorrected,
                      trace := e.trace, alarms := e.alarms, ibi := e.ibi, devEvq := e.devEvq, devMsix := e.devMsix,
                      hostMem := e.hostMem, errLog := e.errLog, csets := e.csets, parts := e.parts, bulk := e.bulk, hl := e.hl,
                      forwards := e.forwards, reports := e.reports, gather := e.gather, rowCache := e.rowCache, hbm := e.hbm,
                      hbmBad := e.hbmBad, pageCe := e.pageCe, hbmStacks := e.hbmStacks, remaps := e.remaps,
                      dueRetire := e.dueRetire, usedSpares := e.usedSpares, net := e.net, tmemBytes := e.tmemBytes,
                      tmemPoison := e.tmemPoison, freeCount := e.freeCount }
  tile : ∀ t : TileNo, e.tiles[t] =
    { d.tiles[t] with mode := (e.tiles[t]).mode, faultInfo := (e.tiles[t]).faultInfo, mm := (e.tiles[t]).mm,
                      pocket := (e.tiles[t]).pocket, pocketBad := (e.tiles[t]).pocketBad, pocketErr := (e.tiles[t]).pocketErr,
                      cntCorrected := (e.tiles[t]).cntCorrected, claspLocks := (e.tiles[t]).claspLocks,
                      watches := (e.tiles[t]).watches, watchWait := (e.tiles[t]).watchWait, notes := (e.tiles[t]).notes,
                      journal := (e.tiles[t]).journal, toMatch := (e.tiles[t]).toMatch, mover := (e.tiles[t]).mover,
                      moverNote := (e.tiles[t]).moverNote, tok := (e.tiles[t]).tok, flight := (e.tiles[t]).flight }
  ctx : ∀ c : CtxNo, e.ctxs[c] =
    { d.ctxs[c] with st := (e.ctxs[c]).st, teardownCause := (e.ctxs[c]).teardownCause, waitSince := (e.ctxs[c]).waitSince,
                     jfull := (e.ctxs[c]).jfull, held := (e.ctxs[c]).held, met := (e.ctxs[c]).met }
  st : ∀ c : CtxNo, (d.ctxs[c]).st.Falls (e.ctxs[c]).st
  cause : ∀ c : CtxNo, (d.ctxs[c]).st = .tearing → (e.ctxs[c]).teardownCause = (d.ctxs[c]).teardownCause
  clean : ∀ t : TileNo, (d.tiles[t]).pocketBad = [] → (e.tiles[t]).pocketBad = []
  part : ∀ p : PartNo, e.parts[p] =
    { d.parts[p] with evq := (e.parts[p]).evq, msix := (e.parts[p]).msix, violations := (e.parts[p]).violations,
                      coll := (e.parts[p]).coll, collPrev := (e.parts[p]).collPrev, collCut := (e.parts[p]).collCut,
                      collEarly := (e.parts[p]).collEarly, collRing := (e.parts[p]).collRing, queues := (e.parts[p]).queues,
                      repairReqs := (e.parts[p]).repairReqs }
  wf : d.storesWf → e.storesWf

namespace Device.Worked
variable {a b c d e : Device}

theorem refl (d : Device) : d.Worked d := ⟨rfl, fun _ => rfl, fun _ => rfl, fun _ => .inl rfl, fun _ _ => rfl, fun _ => id, fun _ => rfl, id⟩

theorem trans (h : a.Worked b) (k : b.Worked c) : a.Worked c where
  rest := by rw [k.rest, h.rest]
  tile t := by rw [k.tile t, h.tile t]
  ctx t := by rw [k.ctx t, h.ctx t]
  st t := (h.st t).trans (k.st t)
  cause t w := (k.cause t ((h.st t).tearing w)).trans (h.cause t w)
  clean t w := k.clean t (h.clean t w)
  part p := by rw [k.part p, h.part p]
  wf w := k.wf (h.wf w)

theorem of_touched (h : d.Touched e) : d.Worked e where
  rest := by
    have hd := h.rest
    rw [hd]
  tile t := by rw [h.tile t]
  ctx c := by rw [h.ctx c]
  st := h.st
  cause := h.cause
  clean := h.clean
  part p := by rw [h.part p]
  wf := h.wf

theorem of_told (h : d.Told e) : d.Worked e := of_touched (.of_told h)

variable (h : d.Worked e)
include h

theorem tileCtx (t : TileNo) : (e.tiles[t]).ctx = (d.tiles[t]).ctx := by rw [h.tile t]
theorem tileBound (t : TileNo) : (e.tiles[t]).bound = (d.tiles[t]).bound := by rw [h.tile t]
theorem tileRecord (t : TileNo) : (e.tiles[t]).record = (d.tiles[t]).record := by rw [h.tile t]
theorem ctxPart (c : CtxNo) : (e.ctxs[c]).part = (d.ctxs[c]).part := by rw [h.ctx c]
theorem ctxImage (c : CtxNo) : (e.ctxs[c]).image = (d.ctxs[c]).image := by rw [h.ctx c]
theorem windows (p : PartNo) : (e.parts[p]).windows = (d.parts[p]).windows := by rw [h.part p]
theorem dumps : e.dumps = d.dumps := by rw [h.rest]
theorem dict : e.dict = d.dict := by rw [h.rest]
theorem rst : e.rst = d.rst := by rw [h.rest]
theorem devTime : e.devTime = d.devTime := by rw [h.rest]

end Device.Worked

/-- Where work chooses, either way is work. -/
theorem worked_ite {d e : Device} (p : Prop) [Decidable p] (h : p → d.Worked e) {e' : Device} (h' : ¬ p → d.Worked e') :
    d.Worked (if p then e else e') := by
  split
  · exact h ‹_›
  · exact h' ‹_›

theorem foldl_worked {α : Type} (f : Device → α → Device) (hf : ∀ (d : Device) (a : α), d.Worked (f d a)) (l : List α) (d : Device) :
    d.Worked (l.foldl f d) :=
  foldl_related (R := Device.Worked) .refl Device.Worked.trans hf l d

/-! ### Edits -/

/-- An edit of what work keeps of a tile. -/
theorem modTile_worked (d : Device) (t : TileNo) (f : Tile → Tile)
    (hf : ∀ x : Tile, f x = { x with mode := (f x).mode, faultInfo := (f x).faultInfo, mm := (f x).mm, pocket := (f x).pocket,
                                     pocketBad := (f x).pocketBad, pocketErr := (f x).pocketErr, cntCorrected := (f x).cntCorrected,
                                     claspLocks := (f x).claspLocks, watches := (f x).watches, watchWait := (f x).watchWait,
                                     notes := (f x).notes, journal := (f x).journal, toMatch := (f x).toMatch,
                                     mover := (f x).mover, moverNote := (f x).moverNote, tok := (f x).tok,
                                     flight := (f x).flight })
    (hw : (d.tiles[t]).pocket.wf = true → (f d.tiles[t]).pocket.wf = true)
    (hb : (d.tiles[t]).pocketBad = [] → (f d.tiles[t]).pocketBad = []) : d.Worked (d.modTile t f) where
  rest := rfl
  tile v := by
    by_cases h : v = t
    · subst h
      rw [modTile_get]
      exact hf _
    · rw [modTile_get_ne _ _ _ _ h]
  ctx _ := rfl
  st _ := .inl rfl
  cause _ _ := rfl
  clean v w := by
    by_cases h : v = t
    · subst h
      rw [modTile_get]
      exact hb w
    · rw [modTile_get_ne _ _ _ _ h]
      exact w
  part _ := rfl
  wf w := storesWf_modTile t f w (hw (w.2.2.2 t))

/-- An edit of every tile that keeps its pocket. -/
theorem mapTiles_worked (d : Device) (f : Tile → Tile)
    (hf : ∀ x : Tile, f x = { x with claspLocks := (f x).claspLocks, watches := (f x).watches, watchWait := (f x).watchWait,
                                     mover := (f x).mover }) :
    d.Worked { d with tiles := d.tiles.map f } where
  rest := rfl
  tile v := by
    simp only [Fin.getElem_fin, Vector.getElem_map]
    rw [hf]
  ctx _ := rfl
  st _ := .inl rfl
  cause _ _ := rfl
  clean v w := by
    simp only [Fin.getElem_fin, Vector.getElem_map]
    rw [hf]
    exact w
  part _ := rfl
  wf w := by
    refine storesWf_of_eq w rfl rfl rfl (fun v => ?_)
    simp only [Fin.getElem_fin, Vector.getElem_map]
    rw [hf]

theorem modPart_worked (d : Device) (p : PartNo) (f : Partition → Partition)
    (hf : ∀ q : Partition, f q = { q with evq := (f q).evq, msix := (f q).msix, violations := (f q).violations, coll := (f q).coll,
                                          collPrev := (f q).collPrev, collCut := (f q).collCut, collEarly := (f q).collEarly,
                                          collRing := (f q).collRing, queues := (f q).queues,
                                          repairReqs := (f q).repairReqs }) :
    d.Worked (d.modPart p f) where
  rest := rfl
  tile _ := rfl
  ctx _ := rfl
  st _ := .inl rfl
  cause _ _ := rfl
  clean _ w := w
  part q := by
    by_cases h : q = p
    · subst h
      rw [modPart_get]
      exact hf _
    · rw [modPart_get_ne _ _ _ _ h]
  wf w := w

theorem modGather_worked (d : Device) (g : GatherNo) (f : Gather → Gather) : d.Worked (d.modGather g f) :=
  ⟨rfl, fun _ => rfl, fun _ => rfl, fun _ => .inl rfl, fun _ _ => rfl, fun _ => id, fun _ => rfl, id⟩

theorem modJob_worked (d : Device) (g : GatherNo) (f : Job → Job) : d.Worked (d.modJob g f) := modGather_worked _ _ _

theorem modStack_worked (d : Device) (k : StackNo) (f : Stack → Stack) : d.Worked (d.modStack k f) :=
  ⟨rfl, fun _ => rfl, fun _ => rfl, fun _ => .inl rfl, fun _ _ => rfl, fun _ => id, fun _ => rfl, id⟩

theorem modNet_worked (d : Device) (n : NetNo) (f : Net → Net) : d.Worked (d.modNet n f) :=
  ⟨rfl, fun _ => rfl, fun _ => rfl, fun _ => .inl rfl, fun _ _ => rfl, fun _ => id, fun _ => rfl, id⟩

theorem modQueue_worked (d : Device) (p : PartNo) (n : QueueNo) (f : Queue → Queue) : d.Worked (d.modQueue p n f) :=
  modPart_worked d p _ (fun _ => rfl)

theorem modMover_worked (d : Device) (m : MoverId) (f : Mover → Mover) : d.Worked (d.modMover m f) := by
  cases m with
  | tile t => exact modTile_worked d t (fun x => { x with mover := f x.mover }) (fun _ => rfl) id id
  | bulk n => exact ⟨rfl, fun _ => rfl, fun _ => rfl, fun _ => .inl rfl, fun _ _ => rfl, fun _ => id, fun _ => rfl, id⟩
  | hl n => exact ⟨rfl, fun _ => rfl, fun _ => rfl, fun _ => .inl rfl, fun _ _ => rfl, fun _ => id, fun _ => rfl, id⟩

theorem modSlot_worked (d : Device) (m : MoverId) (k : Nat) (f : Slot → Slot) : d.Worked (d.modSlot m k f) := modMover_worked _ _ _

theorem forwards_worked (d : Device) (f : List (MoverId × Desc)) (r : List (TileNo × Fin 8 × Nat)) :
    d.Worked { d with forwards := f, reports := r } :=
  ⟨rfl, fun _ => rfl, fun _ => rfl, fun _ => .inl rfl, fun _ _ => rfl, fun _ => id, fun _ => rfl, id⟩

theorem dropWatches_worked (d : Device) (f : Watch → Bool) : d.Worked (d.dropWatches f) :=
  Device.Worked.trans (b := { d with farWatches := d.farWatches.filter (fun w => !f w.w) })
    ⟨rfl, fun _ => rfl, fun _ => rfl, fun _ => .inl rfl, fun _ _ => rfl, fun _ => id, fun _ => rfl, id⟩ (mapTiles_worked _ _ (fun _ => rfl))

theorem traceSlot_worked (d : Device) (m : MoverId) (k : Nat) (x : Desc) (st : Nat) : d.Worked (d.traceSlot m k x st) :=
  .of_told (traceRec_told _ _ _ _ _ _)

theorem report_worked (d : Device) (code : W16) (p : Option PartNo) (ctx : Option Nat) (src : Nat) (payload : BitVec 128) :
    d.Worked (d.report code p ctx src payload) := .of_told (report_told _ _ _ _ _ _)

theorem faultTile_worked (d : Device) (t : TileNo) (code unit pcq detail : Nat) : d.Worked (d.faultTile t code unit pcq detail) :=
  .of_touched (faultTile_touched _ _ _ _ _ _)

/-! ### Stacked memory (R290 to R294) -/

theorem startRemap_worked (d : Device) (page : Nat) : d.Worked (d.startRemap page) := by
  unfold Device.startRemap
  dsimp only
  split
  · exact .refl d
  · split
    · exact ⟨rfl, fun _ => rfl, fun _ => rfl, fun _ => .inl rfl, fun _ _ => rfl, fun _ => id, fun _ => rfl, id⟩
    · refine .trans ?_ (report_worked _ _ _ _ _ _)
      exact ⟨rfl, fun _ => rfl, fun _ => rfl, fun _ => .inl rfl, fun _ _ => rfl, fun _ => id, fun _ => rfl, id⟩

theorem countCe_worked (d : Device) (page line : Nat) : d.Worked (d.countCe page line) := by
  have hcount : d.Worked
      { ({ d with hbmBad := alSet d.hbmBad (page * 32768 + line) (.correctable true) } : Device).modStack (pageStack page)
          (fun k => { k with err := satFld k.err 0 16 1, cntCorrected := k.cntCorrected + 1 }) with
        pageCe := d.pageCe.filter (fun e => d.since e.2 < (d.hbmStacks[pageStack e.1]).interval * 3600000000000) ++ [(page, d.devTime)],
        cntCorrected := d.cntCorrected + 1 } := ⟨rfl, fun _ => rfl, fun _ => rfl, fun _ => .inl rfl, fun _ _ => rfl, fun _ => id, fun _ => rfl, id⟩
  unfold Device.countCe
  dsimp only
  split
  · exact hcount.trans (startRemap_worked _ _)
  · exact hcount

theorem poisonLine_worked (d : Device) (page line : Nat) (scrub : Bool) : d.Worked (d.poisonLine page line scrub) :=
  ⟨rfl, fun _ => rfl, fun _ => rfl, fun _ => .inl rfl, fun _ _ => rfl, fun _ => id, fun _ => rfl, id⟩

theorem meetLine_worked (d : Device) (page line : Nat) : d.Worked (d.meetLine page line).2 := by
  unfold Device.meetLine
  split
  · exact .refl d
  · exact countCe_worked _ _ _
  · exact poisonLine_worked _ _ _ _
  · exact .refl d

/-- A fold that carries an answer beside the part. -/
theorem foldl_worked_snd {α β : Type} (f : β × Device → α → β × Device) (hf : ∀ (q : β × Device) (a : α), q.2.Worked (f q a).2)
    (l : List α) (q : β × Device) : q.2.Worked (l.foldl f q).2 :=
  foldl_related (R := fun q r : β × Device => q.2.Worked r.2) (fun q => .refl q.2) Device.Worked.trans hf l q

theorem hbmWrite_worked (d : Device) (p : PartNo) (addr : Nat) (bs : List Byte) (repair : Bool) :
    d.Worked (d.hbmWrite p addr bs repair).2 := by
  have hput : ∀ (e : Device) (a n : Nat) (l : List Byte), e.Worked { e with hbm := e.hbm.write a l, hbmBad := alErase e.hbmBad n } :=
    fun e a n l => ⟨rfl, fun _ => rfl, fun _ => rfl, fun _ => .inl rfl, fun _ _ => rfl, fun _ => id, fun _ => rfl, fun w => ⟨Memory.wf_write _ _ w.1, w.2⟩⟩
  unfold Device.hbmWrite
  refine (Device.Worked.of_told (count_told d (some p) 0x041 _ _)).trans (foldl_worked_snd _ (fun q a => ?_) _ (_, _))
  dsimp only
  split
  · exact .refl _
  · split
    · exact .refl _
    · have hmeet := meetLine_worked q.2
      split
      · exact hput _ _ _ _
      · split
        · exact (hmeet _ _).trans (hput _ _ _ _)
        · split
          · exact hmeet _ _
          · exact hmeet _ _

/-! ### Collectives (R326 to R339) -/

theorem collOp_worked (d : Device) (p : PartNo) (t : TileNo) (n v : Nat) : d.Worked (d.collOp p t n v) :=
  .of_touched (claspSend_touched _ _ _ _ _ _ _ _ _)

theorem collWatch_worked (d : Device) (p : PartNo) : d.Worked (d.collWatch p) := .of_touched (registerWatch_touched _ _ _ _)

theorem collSend_worked (d : Device) (p : PartNo) (v : Fin 4) (minus : Bool) (ty mid : Nat) (payload : List Byte) :
    d.Worked (d.collSend p v minus ty mid payload) := by
  unfold Device.collSend
  dsimp only
  split
  · exact modNet_worked _ _ _
  · exact .of_touched (sendOn_touched _ _ _ _ _)

theorem collCtl_worked (d : Device) (p : PartNo) (v : Fin 4) (toMinus : Bool) (id kind : Nat) (dir : Bool) (status origin port data : Nat) :
    d.Worked (d.collCtl p v toMinus id kind dir status origin port data) := collSend_worked _ _ _ _ _ _ _

theorem sendAborts_worked (d : Device) (p : PartNo) (id status chip port : Nat) : d.Worked (d.sendAborts p id status chip port) := by
  unfold Device.sendAborts
  refine foldl_worked _ (fun d v => foldl_worked _ (fun d m => ?_) _ d) _ d
  dsimp only
  exact worked_ite _ (fun _ => collCtl_worked _ _ _ _ _ _ _ _ _ _ _) (fun _ => .refl d)

theorem collEnd_worked (d : Device) (p : PartNo) (j : CollJob) (word : W64) (done : Bool) : d.Worked (d.collEnd p j word done) := by
  have hedit : ∀ (e : Device) (c : Option W32), e.Worked (e.modPart p (fun q =>
      { q with coll := none, collPrev := c, collCut := false,
               collRing := { q.collRing with next := q.collRing.next + 1,
                                             st := if q.collRing.st = 2 then 0 else q.collRing.st } })) :=
    fun e c => modPart_worked e p _ (fun _ => rfl)
  unfold Device.collEnd
  dsimp only
  refine .trans (.trans ?_ (hedit _ _)) (worked_ite _ (fun _ => collWatch_worked _ _) (fun _ => .refl _))
  refine .trans ?_ (collOp_worked _ _ _ _ _)
  refine .trans (hbmWrite_worked d p (j.addr + 56) (leBytes 8 word.toNat) false) ?_
  exact worked_ite _ (fun _ => collOp_worked _ _ _ _ _) (fun _ => .refl _)

theorem collAbort_worked (d : Device) (p : PartNo) (status chip port : Nat) : d.Worked (d.collAbort p status chip port) := by
  unfold Device.collAbort
  split
  · exact .refl d
  · dsimp only
    refine .trans ?_ (report_worked _ _ _ _ _ _)
    exact ((sendAborts_worked _ _ _ _ _ _).trans (collEnd_worked _ _ _ _ _)).trans (modPart_worked _ _ _ (fun _ => rfl))

theorem resetColl_worked (d : Device) (p : PartNo) : d.Worked (d.resetColl p) :=
  (dropWatches_worked d _).trans (modPart_worked _ p _ (fun _ => rfl))

/-! ### Gather engines (R222 to R240) -/

theorem ringWatch_worked (d : Device) (g : GatherNo) : d.Worked (d.ringWatch g) := .of_touched (registerWatch_touched _ _ _ _)

theorem resetGather_worked (d : Device) (g : GatherNo) : d.Worked (d.resetGather g) :=
  (dropWatches_worked d _).trans (modGather_worked _ g _)

theorem askRepair_worked (d : Device) (p : PartNo) (addr : Nat) (who : Requester) : d.Worked (d.askRepair p addr who) := by
  unfold Device.askRepair
  dsimp only
  split
  · exact .refl d
  · split
    · exact .refl d
    · split
      · exact .refl d
      · refine .trans ?_ (.of_touched (inject_touched _ _ _ _ _ _ _))
        refine .trans ?_ (.of_touched (inject_touched _ _ _ _ _ _ _))
        exact (Device.Worked.of_touched (newTag_touched d (.repair p))).trans (modPart_worked _ p _ (fun _ => rfl))

theorem stopJob_worked (d : Device) (g : GatherNo) (s : GStop) : d.Worked (d.stopJob g s) := by
  cases s with
  | status n => exact modJob_worked d g _
  | repair a => exact (askRepair_worked _ _ _ _).trans (modJob_worked _ g _)
  | wait => exact modJob_worked d g _

/-! ### Queues (R424) -/

theorem wf_drain (q : Queue) (m : Memory) (n : Nat) (h : m.wf = true) : (q.drain m n).2.wf = true := by
  induction n generalizing q m with
  | zero => exact h
  | succ n ih =>
    unfold Queue.drain
    split
    · exact h
    · split
      · exact h
      · exact ih _ _ (Memory.wf_write _ _ h)

theorem drainCq_worked (d : Device) (p : PartNo) (n : QueueNo) : d.Worked (d.drainCq p n) := by
  unfold Device.drainCq
  dsimp only
  have hdrain : ∀ (q : Queue) (b : Bool), d.Worked { d.modQueue p n (fun _ => q) with
      hostMem := if b = true then ((d.parts[p]).queues[n].drain d.hostMem (d.parts[p]).queues[n].waiting.length).2 else d.hostMem } := by
    intro q b
    refine (modQueue_worked d p n _).trans ⟨rfl, fun _ => rfl, fun _ => rfl, fun _ => .inl rfl, fun _ _ => rfl, fun _ => id, fun _ => rfl, fun w => ?_⟩
    obtain ⟨hhbm, htmem, hhost, htile⟩ := w
    refine ⟨hhbm, htmem, ?_, htile⟩
    dsimp only
    split
    · exact wf_drain _ _ _ hhost
    · exact hhost
  split
  · exact (hdrain _ _).trans (.of_told (signal_told _ _ _))
  · exact hdrain _ _

theorem postCq_worked (d : Device) (p : PartNo) (n : QueueNo) (c : Completion) : d.Worked (d.postCq p n c) :=
  (modQueue_worked d p n _).trans (drainCq_worked _ p n)

theorem endAtHost_worked (d : Device) (p : PartNo) (q : QueueNo) (cid : W16) (status bytes : Nat) :
    d.Worked (d.endAtHost p q cid status bytes) :=
  (modQueue_worked d p q _).trans (postCq_worked _ p q _)

theorem endReleases_worked (d : Device) (c : CtxNo) : d.Worked (d.endReleases c) := by
  unfold Device.endReleases
  refine foldl_worked _ (fun d p => foldl_worked _ (fun d q => foldl_worked _ (fun d s => ?_) _ d) _ d) _ d
  cases s with
  | steps cid k n =>
    dsimp only
    exact worked_ite _ (fun _ => (modQueue_worked d p q _).trans (postCq_worked _ p q _)) (fun _ => .refl d)
  | channel cid n => exact .refl d

/-! ### Channels (R189 to R217) -/

theorem addTok_worked (d : Device) (t : TileNo) (k : Fin 8) (n unit pcq : Nat) : d.Worked (d.addTok t k n unit pcq) :=
  worked_ite _ (fun _ => faultTile_worked _ _ _ _ _ _) (fun _ => modTile_worked d t _ (fun _ => rfl) id id)

theorem wakeWaiters_worked (d : Device) (m : MoverId) (k : Nat) (p : PartNo) : d.Worked (d.wakeWaiters m k p) :=
  (mapTiles_worked d _ (fun _ => rfl)).trans ⟨rfl, fun _ => rfl, fun _ => rfl, fun _ => .inl rfl, fun _ _ => rfl, fun _ => id, fun _ => rfl, id⟩

theorem failChannel_worked (d : Device) (m : MoverId) (k : Nat) (x : Desc) (a : Nat) (f : MvFail) :
    d.Worked (d.failChannel m k x a f) := by
  have hstop : ∀ (e : Device) (n : Nat), e.Worked ((e.modSlot m k (fun s => { s with st := .stopping, status := n })).traceSlot m k x 6) :=
    fun e n => (modSlot_worked e m k _).trans (traceSlot_worked _ _ _ _ _)
  unfold Device.failChannel
  cases f with
  | status n => exact hstop d n
  | fault code =>
    dsimp only
    split
    · exact (faultTile_worked _ _ _ _ _ _).trans (hstop _ _)
    · exact hstop _ _
  | repair => exact (askRepair_worked _ _ _ _).trans (modSlot_worked _ m k _)
  | wait => exact modSlot_worked _ m k _

theorem claspFailed_worked (d : Device) (m : MoverId) (k : Nat) (x : Desc) (tile : Nat) (denied : Bool) :
    d.Worked (d.claspFailed m k x tile denied) :=
  worked_ite _ (fun _ => failChannel_worked _ _ _ _ _ _)
    (fun _ => worked_ite _ (fun _ => failChannel_worked _ _ _ _ _ _) (fun _ => failChannel_worked _ _ _ _ _ _))

theorem paceWatch_worked (d : Device) (m : MoverId) (k : Nat) (x : Desc) : d.Worked (d.paceWatch m k x) := by
  unfold Device.paceWatch
  have hwatch : ∀ (chip t : Nat) (n : ClaspNo) (cond v : Nat), d.Worked (d.chanWatch m k x chip t n false cond v).2 :=
    fun _ _ _ _ _ => .of_touched (chanWatch_touched _ _ _ _ _ _ _ _ _ _)
  have hr : ∀ r : WRes × Device, d.Worked r.2 → d.Worked (match r.1 with
      | .denied => r.2.claspFailed m k x x.paceTile true
      | .poison => r.2.claspFailed m k x x.paceTile false
      | _ => r.2) := by
    intro r h
    split
    · exact h.trans (claspFailed_worked _ _ _ _ _ _)
    · exact h.trans (claspFailed_worked _ _ _ _ _ _)
    · exact h
  refine hr _ ?_
  split
  · exact hwatch _ _ _ _ _
  · exact hwatch _ _ _ _ _

theorem acceptSlot_worked (d : Device) (m : MoverId) (k : Nat) (x : Desc) : d.Worked (d.acceptSlot m k x) := by
  have h := (modSlot_worked d m k (fun s =>
    { Slot.reset with status := s.status, prio := dPrio x.d, exec := fin (dExec x.d), mover := fin (dMover x.d),
                      desc := some x, st := if dPace x.d = 0 then .ready else .waiting })).trans
    (traceSlot_worked _ m k x (if dPace x.d = 0 then 2 else 1))
  exact worked_ite _ (fun _ => h.trans (paceWatch_worked _ _ _ _)) (fun _ => h)

theorem placeDesc_worked {d e : Device} {m : MoverId} {x : Desc} (h : d.placeDesc m x = some e) : d.Worked e := by
  unfold Device.placeDesc at h
  split at h
  · split at h
    · obtain rfl := Option.some.inj h
      split
      · exact (acceptSlot_worked _ _ _ _).trans (modSlot_worked _ _ _ _)
      · exact acceptSlot_worked _ _ _ _
    · exact nomatch h
  · exact nomatch h

theorem takeArrivals_worked (d : Device) (m : MoverId) : d.Worked (d.takeArrivals m) := by
  refine foldl_worked _ (fun d x => ?_) _ d
  split
  · next h => exact (placeDesc_worked h).trans (modMover_worked _ _ _)
  · exact .refl d

theorem endAtTile_worked (d : Device) (t : TileNo) (s : Fin 8) (status : Nat) : d.Worked (d.endAtTile t s status) := by
  unfold Device.endAtTile
  dsimp only
  split
  · exact .refl d
  · refine .trans ?_ (wakeWaiters_worked _ _ _ _)
    refine .trans ?_ (traceSlot_worked _ _ _ _ _)
    refine .trans (.trans ?_ (worked_ite _ (fun _ => modTile_worked _ t _ (fun _ => rfl) id id) (fun _ => .refl _)))
      (worked_ite _ (fun _ => addTok_worked _ _ _ _ _ _) (fun _ => .refl _))
    exact (modSlot_worked _ _ _ _).trans (modTile_worked _ t (fun y => y.cancelsDone s) (fun _ => rfl) id id)

theorem endChannel_worked (d : Device) (m : MoverId) (k status : Nat) : d.Worked (d.endChannel m k status) := by
  have hfree := modSlot_worked d m k (fun q => { Slot.reset with status := status, late := q.late, doneBytes := q.doneBytes })
  unfold Device.endChannel
  dsimp only
  split
  · exact .refl d
  · next x _ =>
    have hend := hfree.trans (traceSlot_worked _ m k x 0)
    split
    · split
      · exact endAtTile_worked _ _ _ _
      · refine .trans ?_ (takeArrivals_worked _ _)
        refine .trans ?_ (wakeWaiters_worked _ _ _ _)
        exact hend.trans (forwards_worked _ _ _)
    · exact ((hend.trans (endAtHost_worked _ _ _ _ _ _)).trans (wakeWaiters_worked _ _ _ _)).trans (takeArrivals_worked _ _)
    · exact (hend.trans (wakeWaiters_worked _ _ _ _)).trans (takeArrivals_worked _ _)

theorem cancelSlot_worked (d : Device) (m : MoverId) (k : Nat) : d.Worked (d.cancelSlot m k) := by
  have hstop := (dropWatches_worked d (fun w => w.holder = .mover m k)).trans
    (modSlot_worked _ m k (fun s => { s with st := .stopping, status := 4 }))
  unfold Device.cancelSlot
  dsimp only
  split
  · exact .refl d
  · split
    · exact (dropWatches_worked _ _).trans (endChannel_worked _ _ _ _)
    · exact (dropWatches_worked _ _).trans (endChannel_worked _ _ _ _)
    · exact hstop.trans (traceSlot_worked _ _ _ _ _)
    · exact hstop.trans (traceSlot_worked _ _ _ _ _)
    · exact .refl d

theorem cancelProxy_worked (d : Device) (t : TileNo) (n : Fin 8) : d.Worked (d.cancelProxy t n) := by
  unfold Device.cancelProxy
  dsimp only
  split
  · exact .refl d
  · split
    · exact cancelSlot_worked _ _ _
    · exact (forwards_worked d _ _).trans (modMover_worked _ _ _)

theorem stopChannel_worked (d : Device) (m : MoverId) (k : Nat) : d.Worked (d.stopChannel m k) := by
  unfold Device.stopChannel
  split
  · exact worked_ite _ (fun _ => .refl d) (fun _ => cancelProxy_worked _ _ _)
  · exact cancelSlot_worked _ _ _

theorem stopChannels_worked (d : Device) (f : Desc → Bool) : d.Worked (d.stopChannels f) := by
  unfold Device.stopChannels
  generalize d.slotsWith f = l
  exact foldl_worked _ (fun d q => stopChannel_worked d q.1 q.2) l d

theorem chanOp_worked (d : Device) (m : MoverId) (k : Nat) (x : Desc) (chip t : Nat) (n : ClaspNo) (scope2 : Bool) (a : ClArg) :
    d.Worked (d.chanOp m k x chip t n scope2 a).2 := by
  unfold Device.chanOp
  dsimp only
  split
  · split
    · exact .of_touched (claspFrom_touched _ _ _ _ _ _ _ _ _ _ _ _)
    · exact .of_touched (claspSend_touched _ _ _ _ _ _ _ _ _)
  · exact .of_touched (claspSend_touched _ _ _ _ _ _ _ _ _)

theorem returnSlot_worked (d : Device) (m : MoverId) (k : Nat) (x : Desc) : d.Worked (d.returnSlot m k x) := by
  unfold Device.returnSlot
  dsimp only
  split
  · exact .refl d
  · have hop : ∀ (chip t : Nat) (n : ClaspNo) (scope2 : Bool) (a : ClArg), d.Worked (d.chanOp m k x chip t n scope2 a).2 :=
      fun _ _ _ _ _ => chanOp_worked _ _ _ _ _ _ _ _ _
    split
    · exact (hop _ _ _ _ _).trans (modSlot_worked _ m k _)
    · exact hop _ _ _ _ _
    · exact (hop _ _ _ _ _).trans (modSlot_worked _ m k _)

theorem endStopped_worked (d : Device) (f : Desc → Bool) : d.Worked (d.endStopped f) := by
  unfold Device.endStopped
  refine .trans ?_ (foldl_worked _ (fun d r => ?_) _ _)
  · refine foldl_worked _ (fun d q => ?_) _ d
    dsimp only
    split
    · have hidle := modSlot_worked d q.1 q.2 (fun s => { s with awaits := 0, reads := [], tag := none })
      split
      · exact (hidle.trans (returnSlot_worked _ _ _ _)).trans (endChannel_worked _ _ _ _)
      · exact hidle
    · exact .refl d
  · refine worked_ite _ (fun _ => ?_) (fun _ => .refl d)
    exact Device.Worked.trans (forwards_worked d d.forwards (d.reports.erase r)) (endAtTile_worked _ _ _ _)

theorem cancelDesc_worked (d : Device) (x : Desc) : d.Worked (d.cancelDesc x) := by
  unfold Device.cancelDesc
  split
  · exact forwards_worked _ _ _
  · exact endAtHost_worked _ _ _ _ _ _
  · exact .refl d

theorem resetBulk_worked (d : Device) (n : BulkNo) : d.Worked (d.resetBulk n) := by
  unfold Device.resetBulk
  dsimp only
  refine .trans ?_ (foldl_worked _ (fun d k => cancelSlot_worked d _ k) _ _)
  refine .trans ?_ (foldl_worked _ cancelDesc_worked _ _)
  exact (forwards_worked d _ _).trans (modMover_worked _ _ _)

/-! ### Locks, rings and whole partitions -/

theorem abandonClasp_worked (d : Device) (c : CtxNo) (t : TileNo) (n : ClaspNo) : d.Worked (d.abandonClasp c t n) :=
  worked_ite _ (fun _ => .of_touched ((putClasp_touched _ _ _ _).trans (fireWatches_touched _ _ _ _))) (fun _ => .refl d)

theorem scanLocks_worked (d : Device) (p : PartNo) (c : CtxNo) : d.Worked (d.scanLocks p c) :=
  foldl_worked _ (fun d t => foldl_worked _ (fun d n => abandonClasp_worked d c t n) _ d) _ d

theorem evalWatches_worked (d : Device) (t : TileNo) : d.Worked (d.evalWatches t) :=
  foldl_worked _ (fun d n => .of_touched (fireWatches_touched d t n false)) _ d

theorem rowCacheInv_worked (d : Device) (f : RLine → Bool) : d.Worked (d.rowCacheInv f) :=
  ⟨rfl, fun _ => rfl, fun _ => rfl, fun _ => .inl rfl, fun _ _ => rfl, fun _ => id, fun _ => rfl, id⟩

theorem resetPartition_worked (d : Device) (p : PartNo) (cause : RCause) : d.Worked (d.resetPartition p cause) := by
  unfold Device.resetPartition
  dsimp only
  refine .trans ?_ (report_worked _ _ _ _ _ _)
  refine .trans ?_ (resetColl_worked _ _)
  refine .trans (.trans ?_ (rowCacheInv_worked _ _)) (collAbort_worked _ _ _ _ _)
  refine .trans ?_ (foldl_worked _ (fun d n => worked_ite _ (fun _ => resetBulk_worked d n) (fun _ => .refl d)) _ _)
  refine .trans ?_ (foldl_worked _ (fun d g => worked_ite _ (fun _ => resetGather_worked d g) (fun _ => .refl d)) _ _)
  exact foldl_worked _ (fun d c => .of_touched (askTeardown_touched d c _)) _ _

theorem stopContext_worked (d : Device) (p : PartNo) (c : CtxNo) : d.Worked (d.stopContext p c) := by
  unfold Device.stopContext
  dsimp only
  refine .trans ?_ (worked_ite _ (fun _ => collAbort_worked _ _ _ _ _) (fun _ => .refl _))
  refine .trans ?_ (foldl_worked _ (fun d g => ?_) _ _)
  · refine .trans (.trans ?_ (dropWatches_worked _ _)) (stopChannels_worked _ _)
    exact foldl_worked _ (fun d t => modTile_worked d t _ (fun _ => rfl) id id) _ _
  · refine worked_ite _ (fun _ => ?_) (fun _ => .refl d)
    have hstash := modGather_worked d g (fun q => { q with stash := none })
    split
    · split
      · exact hstash
      · exact hstash.trans (stopJob_worked _ _ _)
    · exact hstash

end Sys2Proof.Machine

/-! Contexts that are saved, restored, torn down or end (R168, R183, R353 to R364), and the decisions of the sentinel (R255 to R260). -/

namespace Sys2Proof.Machine

/-- Settles O29: a decision has one branch for each of the five cases. -/
theorem sentinelDecisions : Obligations.SentinelDecisions := by
  unfold Obligations.SentinelDecisions
  intro e promote demote step r
  refine ⟨?_, ?_, ?_, ?_, ?_⟩
  · rintro rfl hpin hmax
    simp [r, SEntry.decide_, hpin, hmax]
  · rintro rfl hpin hmax
    simp [r, SEntry.decide_, hpin, hmax]
  · rintro rfl hpin
    simp [r, SEntry.decide_, hpin]
  · rintro rfl rfl hpin hvar
    have hyes : (true && decide (e.variant ≠ 0) && !e.pinned) = true := by
      rw [decide_eq_true hvar, hpin]
      rfl
    simp only [r, SEntry.decide_, Bool.false_eq_true, if_false, hyes, if_true, Option.map_some]
    exact ⟨trivial, rfl⟩
  · rintro rfl hkeep
    have hno : (demote && decide (e.variant ≠ 0) && !e.pinned) = false := by
      rcases hkeep with rfl | hpin | hvar
      · rfl
      · rw [hpin, Bool.not_true, Bool.and_false]
      · rw [hvar, decide_eq_false (fun h => h rfl), Bool.and_false, Bool.false_and]
    simp only [r, SEntry.decide_, hno, Bool.false_eq_true, if_false]

/-! ### Places -/

/-- Every context is its partition's with its image in `e` as in `d`, and every tile the same context's. -/
structure Device.SamePlaces (d e : Device) : Prop where
  part : ∀ c : CtxNo, (e.ctxs[c]).part = (d.ctxs[c]).part
  image : ∀ c : CtxNo, (e.ctxs[c]).image = (d.ctxs[c]).image
  tileCtx : ∀ t : TileNo, (e.tiles[t]).ctx = (d.tiles[t]).ctx

namespace Device.SamePlaces
variable {a b c d e : Device}

theorem refl (d : Device) : d.SamePlaces d := ⟨fun _ => rfl, fun _ => rfl, fun _ => rfl⟩

theorem trans (h : a.SamePlaces b) (k : b.SamePlaces c) : a.SamePlaces c :=
  ⟨fun c => (k.part c).trans (h.part c), fun c => (k.image c).trans (h.image c), fun t => (k.tileCtx t).trans (h.tileCtx t)⟩

theorem of_worked (h : d.Worked e) : d.SamePlaces e := ⟨h.ctxPart, h.ctxImage, h.tileCtx⟩

theorem of_touched (h : d.Touched e) : d.SamePlaces e := .of_worked (.of_touched h)

/-- Where neither contexts nor tiles change. -/
theorem of_eq (hc : e.ctxs = d.ctxs) (ht : e.tiles = d.tiles) : d.SamePlaces e :=
  ⟨fun _ => by rw [hc], fun _ => by rw [hc], fun _ => by rw [ht]⟩

theorem modPart (d : Device) (p : PartNo) (f : Partition → Partition) : d.SamePlaces (d.modPart p f) := of_eq rfl rfl

theorem modCtx (d : Device) (c : CtxNo) (f : Context → Context) (hp : ∀ x, (f x).part = x.part)
    (hi : ∀ x, (f x).image = x.image) : d.SamePlaces (d.modCtx c f) := by
  have hget : ∀ v : CtxNo, ((d.modCtx c f).ctxs[v]).part = (d.ctxs[v]).part ∧ ((d.modCtx c f).ctxs[v]).image = (d.ctxs[v]).image := by
    intro v
    by_cases h : v = c
    · subst h
      rw [modCtx_get]
      exact ⟨hp _, hi _⟩
    · rw [modCtx_get_ne _ _ _ _ h]
      exact ⟨rfl, rfl⟩
  exact ⟨fun v => (hget v).1, fun v => (hget v).2, fun _ => rfl⟩

end Device.SamePlaces

theorem closePools_places (d : Device) (p : PartNo) (c : CtxNo) : d.SamePlaces (d.closePools p c) := by
  refine foldl_related (R := Device.SamePlaces) .refl Device.SamePlaces.trans (fun d k => ?_) _ d
  dsimp only
  split
  · exact (Device.SamePlaces.modPart d p _).trans (.of_touched (claspApply_touched _ _ _ _))
  · exact .refl d

theorem dropReserved_places (d : Device) (p : PartNo) (c : CtxNo) : d.SamePlaces (d.dropReserved p c) := .modPart d p _

theorem closeWindows_places (d : Device) (p : PartNo) (c : CtxNo) (keep : Bool) : d.SamePlaces (d.closeWindows p c keep) :=
  .modPart d p _

theorem dropReports_places (d : Device) (c : CtxNo) : d.SamePlaces (d.dropReports c) :=
  (Device.SamePlaces.modCtx d c (fun x => { x with reports := [] }) (fun _ => rfl) (fun _ => rfl)).trans (.of_eq rfl rfl)

theorem closeCtx_places (d : Device) (p : PartNo) (c : CtxNo) : d.SamePlaces (d.closeCtx p c) := by
  unfold Device.closeCtx
  have hsent : ∀ (e : Device) (l : List SEntry), e.SamePlaces { e with sentinel := l } := fun _ _ => .of_eq rfl rfl
  refine .trans ?_ (hsent _ _)
  refine .trans ?_ (.modPart _ p _)
  refine .trans ?_ (closePools_places _ p c)
  exact ((dropReports_places d c).trans (dropReserved_places _ p c)).trans (closeWindows_places _ p c false)

/-! ### Tiles given up -/

/-- Tiles edited one after another change no context. -/
theorem foldl_modTile_ctxs (f : Tile → Tile) (l : List TileNo) (d : Device) :
    (l.foldl (fun d t => d.modTile t f) d).ctxs = d.ctxs :=
  List.foldlRecOn (motive := fun e : Device => e.ctxs = d.ctxs) l _ rfl (fun _ h _ _ => h)

/-- Edits that take tiles from their context leave it on none of them, and put it on none. -/
theorem foldl_modTile_leaves (f : Tile → Tile) (hf : ∀ x, (f x).ctx = none) (c : CtxNo) (l : List TileNo) (d : Device) (t : TileNo)
    (h : t ∈ l ∨ (d.tiles[t]).ctx ≠ some c) : ((l.foldl (fun d t => d.modTile t f) d).tiles[t]).ctx ≠ some c := by
  induction l generalizing d with
  | nil => exact h.resolve_left List.not_mem_nil
  | cons u l ih =>
    refine ih _ ?_
    by_cases htu : t = u
    · subst htu
      right
      rw [modTile_get, hf]
      exact nofun
    · rw [modTile_get_ne _ _ _ _ htu]
      exact h.imp_left (fun h => (List.mem_cons.mp h).resolve_left htu)

/-- So a context is on no tile once its tiles are given up. -/
theorem ctxTiles_given_up (f : Tile → Tile) (hf : ∀ x, (f x).ctx = none) (c : CtxNo) (d : Device) (t : TileNo) :
    (((d.ctxTiles c).foldl (fun d t => d.modTile t f) d).tiles[t]).ctx ≠ some c := by
  refine foldl_modTile_leaves f hf c _ d t ?_
  rw [mem_ctxTiles]
  exact Decidable.em _

/-! ### Exit (R183) -/

/-- A context that ends, before the scheduler looks anew. -/
def Device.exited (d : Device) (p : PartNo) (c : CtxNo) : Device :=
  let found := (List.finRange 512).map (fun t => (t, d.dirtyMask d.ctxs[c] t, d.slotsHeld c t))
  let d := found.foldl (fun d (f : TileNo × Nat × Nat) =>
    if f.2.1 ≠ 0 ∨ f.2.2 ≠ 0 then
      d.report 0x0201 (some p) (some c.val) f.1 (pay4 f.1 (f.2.1 % 2 ^ 32) (f.2.1 / 2 ^ 32) f.2.2)
    else d) (d.dropWatches (d.watchOf c))
  (((d.ctxTiles c).foldl (fun d t => d.modTile t Tile.vacate) d).closeCtx p c).modCtx c Context.emptied

theorem contextExit_eq (d : Device) (c : CtxNo) (p : PartNo) (hp : (d.ctxs[c]).part = some p) (hst : (d.ctxs[c]).st = .running)
    (hin : (d.ctxs[c]).inStep = false) (hrel : (d.ctxs[c]).releases = []) (hsave : (d.ctxs[c]).saving = false)
    (hquiet : d.enginesQuiet c = true) : d.contextExit c = (d.exited p c).schedule := by
  unfold Device.contextExit
  simp only [hp, hst, hin, hrel, hsave, hquiet, decide_true, Bool.not_false, Bool.and_self, List.isEmpty_nil, if_true]
  rfl

/-- A context that is emptied keeps its partition and is BOUND without an image. -/
theorem emptied_get (d : Device) (c : CtxNo) : ((d.modCtx c Context.emptied).ctxs[c]).st = .bound ∧
    ((d.modCtx c Context.emptied).ctxs[c]).image = none ∧ ((d.modCtx c Context.emptied).ctxs[c]).part = (d.ctxs[c]).part := by
  rw [modCtx_get]
  exact ⟨rfl, rfl, rfl⟩

theorem exited_bound (d : Device) (p : PartNo) (c : CtxNo) (hp : (d.ctxs[c]).part = some p) :
    ((d.exited p c).ctxs[c]).st = .bound ∧ ((d.exited p c).ctxs[c]).image = none ∧ ((d.exited p c).ctxs[c]).part = some p ∧
      ∀ t : TileNo, ((d.exited p c).tiles[t]).ctx ≠ some c := by
  unfold Device.exited
  dsimp only
  generalize hfound : List.foldl (fun d (f : TileNo × Nat × Nat) =>
    if f.2.1 ≠ 0 ∨ f.2.2 ≠ 0 then
      d.report 0x0201 (some p) (some c.val) f.1 (pay4 f.1 (f.2.1 % 2 ^ 32) (f.2.1 / 2 ^ 32) f.2.2)
    else d) (d.dropWatches (d.watchOf c)) _ = e
  have hwork : d.Worked e := by
    rw [← hfound]
    exact (dropWatches_worked d _).trans
      (foldl_worked _ (fun d f => worked_ite _ (fun _ => report_worked _ _ _ _ _ _) (fun _ => .refl d)) _ _)
  have hclose := closeCtx_places ((e.ctxTiles c).foldl (fun d t => d.modTile t Tile.vacate) e) p c
  obtain ⟨hst, himage, hpart⟩ := emptied_get (((e.ctxTiles c).foldl (fun d t => d.modTile t Tile.vacate) e).closeCtx p c) c
  refine ⟨hst, himage, ?_, fun t => ?_⟩
  · rw [hpart]
    rw [hclose.part, foldl_modTile_ctxs, hwork.ctxPart, hp]
  · rw [modCtx_tiles]
    exact (hclose.tileCtx t).trans_ne (ctxTiles_given_up Tile.vacate (fun _ => rfl) c e t)

/-! ### Save (R353, R357) -/

theorem pocketCe_touched (d : Device) (t : TileNo) (n : Nat) : d.Touched (d.pocketCe t n) :=
  (modTile_touched d t _ (fun _ => rfl) id id).trans
    ⟨rfl, fun _ => rfl, fun _ => rfl, fun _ => .inl rfl, fun _ _ => rfl, fun _ => id, fun _ => rfl, id⟩

theorem pocketSweep_touched (d : Device) (t : TileNo) : d.Touched (d.pocketSweep t) := by
  unfold Device.pocketSweep
  dsimp only
  split
  · exact .refl d
  · refine .trans (pocketUes_touched _ _ _ _) (pocketCe_touched _ t _)

theorem saveBytes_worked (d : Device) (p : PartNo) (addr : Nat) (src : Memory) (n : Nat) : d.Worked (d.saveBytes p addr src n).2 := by
  unfold Device.saveBytes
  refine foldl_worked_snd _ (fun q a => ?_) _ (_, _)
  dsimp only
  split
  · exact .refl _
  · exact ⟨rfl, fun _ => rfl, fun _ => rfl, fun _ => .inl rfl, fun _ _ => rfl, fun _ => id, fun _ => rfl, fun w => ⟨Memory.wf_copyTo _ _ _ _ w.1, w.2⟩⟩

/-- Watches and locks of a tile pass to its save area. -/
theorem savedTile_places (d : Device) (c : CtxNo) (t : TileNo) (s : SavedTile) :
    d.SamePlaces ((d.modCtx c (fun q => { q with saved := q.saved.filter (fun (y : SavedTile) => y.tile ≠ t) ++ [s] })).modTile t
      (fun x => { x with watches := Vector.replicate 32 none, watchWait := [], claspLocks := 0 })) :=
  (Device.SamePlaces.modCtx d c _ (fun _ => by rfl) (fun _ => by rfl)).trans (.of_touched (modTile_touched _ t _ (fun _ => by rfl) id id))

/-- Saving a tile leaves it with its context. -/
theorem saveTile_places (d : Device) (c : CtxNo) (p : PartNo) (t : TileNo) (regs : Bool) : d.SamePlaces (d.saveTile c p t regs).2 :=
  ((Device.SamePlaces.of_touched (pocketSweep_touched d t)).trans (.of_worked (saveBytes_worked _ _ _ _ _))).trans
    (savedTile_places _ _ _ _)

/-- The tiles of a context saved one after another, and given up. -/
def Device.saveTiles (d : Device) (c : CtxNo) (p : PartNo) (yielded : Bool) (l : List TileNo) (ok : Bool) : Bool × Device :=
  l.foldl (fun (acc : Bool × Device) t =>
    let s := acc.2.saveTile c p t yielded
    (acc.1 && s.1, s.2.modTile t Tile.vacate)) (ok, d)

theorem saveTiles_leave (c : CtxNo) (p : PartNo) (yielded : Bool) (l : List TileNo) (ok : Bool) (d : Device) (t : TileNo)
    (h : t ∈ l ∨ (d.tiles[t]).ctx = none) : ((d.saveTiles c p yielded l ok).2.tiles[t]).ctx = none := by
  induction l generalizing d ok with
  | nil => exact h.resolve_left List.not_mem_nil
  | cons u l ih =>
    refine ih (ok && (d.saveTile c p u yielded).1) ((d.saveTile c p u yielded).2.modTile u Tile.vacate) ?_
    by_cases htu : t = u
    · subst htu
      right
      rw [modTile_get]
      rfl
    · rw [modTile_get_ne _ _ _ _ htu, (saveTile_places d c p u yielded).tileCtx]
      exact h.imp_left (fun h => (List.mem_cons.mp h).resolve_left htu)

/-- A context that is saved, before the scheduler looks anew. -/
def Device.savedCtx (d : Device) (p : PartNo) (c : CtxNo) : Device :=
  let r := d.saveTiles c p (d.ctxs[c]).inStep (d.ctxNames c) true
  let e := r.2.modCtx c (fun x => { x with saving := false, st := .saved, waitSince := d.devTime })
  if r.1 then e else e.askTeardown c .saveFailed

theorem saveDone_eq (d : Device) (c : CtxNo) (p : PartNo) (hp : (d.ctxs[c]).part = some p) (hsave : (d.ctxs[c]).saving = true)
    (hst : (d.ctxs[c]).st = .running) (hquiet : d.enginesQuiet c = true) : d.saveDone c = (d.savedCtx p c).schedule := by
  unfold Device.saveDone
  simp only [hp, hst, hsave, hquiet, decide_true, Bool.and_self, if_true]
  rfl

/-- A teardown asked for leaves the context tearing where it was saved. -/
theorem askTeardown_saved (d : Device) (c : CtxNo) (cause : Cause) (h : (d.ctxs[c]).st = .saved) :
    (d.askTeardown c cause).ctxs[c] = { d.ctxs[c] with st := .tearing, teardownCause := some cause, waitSince := d.devTime } := by
  unfold Device.askTeardown
  simp only [h, reduceCtorEq, decide_false, Bool.or_self, Bool.false_eq_true, if_false]
  rw [modCtx_get]

theorem savedCtx_saved (d : Device) (p : PartNo) (c : CtxNo) : ((d.savedCtx p c).ctxs[c]).saving = false ∧
    (((d.savedCtx p c).ctxs[c]).st = .saved ∨
      (((d.savedCtx p c).ctxs[c]).st = .tearing ∧ ((d.savedCtx p c).ctxs[c]).teardownCause = some .saveFailed)) ∧
    ∀ t ∈ d.ctxNames c, ((d.savedCtx p c).tiles[t]).ctx = none := by
  have hleave := fun t ht => saveTiles_leave c p (d.ctxs[c]).inStep (d.ctxNames c) true d t (.inl ht)
  unfold Device.savedCtx
  dsimp only
  generalize d.saveTiles c p (d.ctxs[c]).inStep (d.ctxNames c) true = r at hleave ⊢
  have hget : (r.2.modCtx c (fun x => { x with saving := false, st := .saved, waitSince := d.devTime })).ctxs[c] =
      { r.2.ctxs[c] with saving := false, st := .saved, waitSince := d.devTime } := modCtx_get _ _ _
  split
  · rw [hget]
    exact ⟨rfl, .inl rfl, hleave⟩
  · have htear := askTeardown_saved _ c .saveFailed (congrArg Context.st hget)
    rw [htear, hget]
    refine ⟨rfl, .inr ⟨rfl, rfl⟩, fun t ht => ?_⟩
    exact (congrArg (fun ts : Vector Tile 512 => (ts[t]).ctx) (askTeardown_frame _ _ _).1).trans (hleave t ht)

/-! ### Restore (R353) -/

theorem notifyOf_ctxs (d : Device) (o : Option PartNo) (t : TileNo) (w : Watch) (abandoned : Bool) (word : W64) :
    (d.notifyOf o t w abandoned word).ctxs = d.ctxs := by
  have hsend : ∀ (e : Device) (p : PortNo) (hdr : W128) (l : List Byte) (cls : Bool), (e.sendOn p hdr l cls).ctxs = e.ctxs :=
    fun e p hdr l cls => ((count_told _ _ _ _ _).trans (traceRec_told _ _ _ _ _ _)).ctxs
  have hinject : ∀ (p : PartNo) (cuff : Fin 2) (ty dst mid : Nat) (l : List Byte), (d.inject p cuff ty dst mid l).ctxs = d.ctxs := by
    intro p cuff ty dst mid l
    unfold Device.inject
    split
    · rfl
    · dsimp only
      split
      · exact hsend _ _ _ _ _
      · rfl
  unfold Device.notifyOf
  dsimp only
  split
  · exact hinject _ _ _ _ _ _
  · rfl

theorem evalWatches_ctxs (d : Device) (t : TileNo) : (d.evalWatches t).ctxs = d.ctxs := by
  refine List.foldlRecOn (motive := fun e : Device => e.ctxs = d.ctxs) _ _ rfl (fun e h n _ => .trans ?_ h)
  unfold Device.fireWatches
  exact List.foldlRecOn (motive := fun u : Device => u.ctxs = e.ctxs) _ _ rfl (fun u h w _ => (notifyOf_ctxs _ _ _ _ _ _).trans h)

theorem meetLine_ctxs (d : Device) (page line : Nat) : (d.meetLine page line).2.ctxs = d.ctxs := by
  have hremap : ∀ (e : Device) (n : Nat), (e.startRemap n).ctxs = e.ctxs := by
    intro e n
    unfold Device.startRemap
    split
    · rfl
    · split
      · rfl
      · exact report_ctxs _ _ _ _ _ _
  have hcount : ∀ e : Device, (e.countCe page line).ctxs = e.ctxs := by
    intro e
    unfold Device.countCe
    dsimp only
    split
    · exact hremap _ _
    · rfl
  unfold Device.meetLine
  split
  · rfl
  · exact hcount d
  · rfl
  · rfl

/-- A fold of reads carries the contexts along. -/
theorem foldl_ctxs {α β : Type} (dev : β → Device) (f : β → α → β) (hf : ∀ b a, (dev (f b a)).ctxs = (dev b).ctxs) (l : List α) (b : β) :
    (dev (l.foldl f b)).ctxs = (dev b).ctxs :=
  List.foldlRecOn (motive := fun q => (dev q).ctxs = (dev b).ctxs) l f rfl (fun _ h _ _ => (hf _ _).trans h)

/-- Services that answer whether they went well, one after another: all did. -/
def Device.serveAll {α : Type} (f : Device → α → Bool × Device) (l : List α) (q : Bool × Device) : Bool × Device :=
  l.foldl (fun (acc : Bool × Device) a =>
    let r := f acc.2 a
    (acc.1 && r.1, r.2)) q

theorem serveAll_ctxs {α : Type} (f : Device → α → Bool × Device) (hf : ∀ d a, (f d a).2.ctxs = d.ctxs) (l : List α) (q : Bool × Device) :
    (Device.serveAll f l q).2.ctxs = q.2.ctxs := by
  refine foldl_ctxs (fun b : Bool × Device => b.2) _ (fun b a => ?_) l q
  exact hf b.2 a

theorem loadBytes_ctxs (d : Device) (p : PartNo) (addr n : Nat) : (d.loadBytes p addr n).2.2.ctxs = d.ctxs := by
  unfold Device.loadBytes
  refine foldl_ctxs (fun b : Bool × Memory × Device => b.2.2) _ (fun b a => ?_) _ (true, [], d)
  dsimp only
  split
  · rfl
  · exact serveAll_ctxs (fun e (a : Nat × LineErr) => e.meetLine (a.1 / 32768) (a.1 % 32768)) (fun e a => meetLine_ctxs e _ _) _
      (true, b.2.2)

/-- What the save area of a tile puts back into it. -/
def SavedTile.restored (s : SavedTile) (m : Memory) (x : Tile) : Tile :=
  let put (x : Tile) : Tile :=
    { x with pocket := m.slice 0 pocketSize, pocketBad := [], claspLocks := BitVec.ofNat 48 (m.word saveLocks 8),
             watches := Vector.ofFn (fun (i : Fin 32) => watchOfWord (BitVec.ofNat 128 (m.word (saveWatches + 16 * i.val) 16)) s.watches[i]),
             watchWait := s.waiting, lining := [], fills := [] }
  if s.regs then { (put x).putRecord (CommitRec.ofMem m saveRegs) with
                   mode := if s.ended then .ending else .running, record := s.record, journal := s.journal, toMatch := s.toMatch }
  else put x

/-- The end of a tile's restore, by what its save area gave. -/
def SavedTile.land (s : SavedTile) (r : Bool × Memory × Device) : Bool × Device :=
  if (!r.1) = true then (false, r.2.2) else (true, (r.2.2.modTile s.tile (s.restored r.2.1)).evalWatches s.tile)

theorem restoreTile_eq (d : Device) (c : CtxNo) (p : PartNo) (s : SavedTile) :
    d.restoreTile c p s = s.land (d.loadBytes p (d.saveAddr c s.tile) saveSize) := rfl

theorem restoreTile_ctxs (d : Device) (c : CtxNo) (p : PartNo) (s : SavedTile) : (d.restoreTile c p s).2.ctxs = d.ctxs := by
  have hland : ∀ r : Bool × Memory × Device, (s.land r).2.ctxs = r.2.2.ctxs := by
    intro r
    unfold SavedTile.land
    split
    · rfl
    · rw [evalWatches_ctxs, modTile_ctxs]
  rw [restoreTile_eq, hland, loadBytes_ctxs]

/-- An edit of a context that keeps its state. -/
theorem modCtx_keeps {α : Type} (φ : Context → α) (d : Device) (c v : CtxNo) (f : Context → Context)
    (hf : ∀ x, φ (f x) = φ x) : φ ((d.modCtx c f).ctxs[v]) = φ (d.ctxs[v]) := by
  by_cases h : v = c
  · subst h
    rw [modCtx_get]
    exact hf _
  · rw [modCtx_get_ne _ _ _ _ h]

/-- The choice whether a segment is audited changes of a context only that. -/
theorem auditSelect_keeps {α : Type} (φ : Context → α) (d : Device) (c v : CtxNo)
    (hf : ∀ (x : Context) (a m am : Bool) (t : Option TileNo) (s : Option PhysNo),
      φ { x with audit := a, auditTile := t, shadow := s, met := m, auditMiss := am } = φ x) :
    φ ((d.auditSelect c).ctxs[v]) = φ (d.ctxs[v]) := by
  have hoff := modCtx_keeps φ d c v (fun x => { x with audit := false, auditTile := none, shadow := none, met := false, auditMiss := false })
    (fun x => hf x _ _ _ _ _)
  unfold Device.auditSelect
  dsimp only
  split
  · exact hoff
  · split
    · exact hoff
    · split
      · exact hoff
      · exact (modCtx_keeps φ _ c v _ (fun x => hf x _ _ _ _ _)).trans hoff

/-- A step that begins keeps what a context is. -/
theorem beginStep_keeps (d : Device) (c : CtxNo) : ((d.beginStep c).ctxs[c]).st = (d.ctxs[c]).st ∧
    ((d.beginStep c).ctxs[c]).restoring = (d.ctxs[c]).restoring := by
  unfold Device.beginStep
  split
  · exact ⟨rfl, rfl⟩
  · refine ⟨(auditSelect_keeps (·.st) _ c c (fun _ _ _ _ _ _ => rfl)).trans (modCtx_keeps (·.st) d c c _ (fun _ => rfl)), ?_⟩
    exact (auditSelect_keeps (·.restoring) _ c c (fun _ _ _ _ _ _ => rfl)).trans (modCtx_keeps (·.restoring) d c c _ (fun _ => rfl))

/-- A context set to run with its clasp words recorded. -/
def Device.setRunning (d : Device) (c : CtxNo) (now : W64) (words : Context → List (TileNo × List W64)) : Device :=
  d.modCtx c (fun x => { x with st := .running, restoring := false, saved := [], startedAt := now, recorded := words x })

theorem setRunning_get (d : Device) (c : CtxNo) (now : W64) (words : Context → List (TileNo × List W64)) (inStep : Bool) :
    ((if inStep = true then d.setRunning c now words else (d.setRunning c now words).beginStep c).ctxs[c]).st = .running ∧
      ((if inStep = true then d.setRunning c now words else (d.setRunning c now words).beginStep c).ctxs[c]).restoring = false := by
  have hget : (d.setRunning c now words).ctxs[c] =
      { d.ctxs[c] with st := .running, restoring := false, saved := [], startedAt := now, recorded := words d.ctxs[c] } := modCtx_get _ _ _
  cases inStep with
  | true =>
    rw [if_pos rfl, hget]
    exact ⟨rfl, rfl⟩
  | false =>
    obtain ⟨hst, hrest⟩ := beginStep_keeps (d.setRunning c now words) c
    rw [if_neg Bool.false_ne_true, hst, hrest, hget]
    exact ⟨rfl, rfl⟩

/-- A context with tiles and image runs. -/
theorem nowRunning_runs (d : Device) (c : CtxNo) (p : PartNo) (i : Image) (hp : (d.ctxs[c]).part = some p)
    (hi : (d.ctxs[c]).image = some i) :
    ((d.nowRunning c).ctxs[c]).st = .running ∧ ((d.nowRunning c).ctxs[c]).restoring = false := by
  unfold Device.nowRunning
  simp only [hp, hi]
  exact setRunning_get _ c _ _ _

/-- One tile of a context restored (its own name, so that folds need not look into it). -/
def Device.restoreOne (c : CtxNo) (p : PartNo) (d : Device) (s : SavedTile) : Bool × Device := d.restoreTile c p s

theorem restoreOne_eq (c : CtxNo) (p : PartNo) (d : Device) (s : SavedTile) : Device.restoreOne c p d s = d.restoreTile c p s := rfl

theorem restoreOne_ctxs (c : CtxNo) (p : PartNo) (d : Device) (s : SavedTile) : (Device.restoreOne c p d s).2.ctxs = d.ctxs := by
  rw [restoreOne_eq, restoreTile_ctxs]

/-- The tiles of a context restored one after another. -/
def Device.restoreTiles (d : Device) (c : CtxNo) (p : PartNo) (l : List SavedTile) : Bool × Device :=
  Device.serveAll (Device.restoreOne c p) l (true, d)

theorem restoreTiles_ctxs (d : Device) (c : CtxNo) (p : PartNo) (l : List SavedTile) : (d.restoreTiles c p l).2.ctxs = d.ctxs := by
  rw [Device.restoreTiles, serveAll_ctxs _ (restoreOne_ctxs c p)]

/-- The end of a restore, by whether its save area could be read. -/
def Device.restoreEnd (c : CtxNo) (r : Bool × Device) : Device :=
  if r.1 = true then r.2.nowRunning c else (r.2.modCtx c (fun x => { x with restoring := false })).askTeardown c .saveFailed

theorem restoreDone_match (d : Device) (c : CtxNo) : d.restoreDone c = match (d.ctxs[c]).part with
    | none => d
    | some p =>
      if ((d.ctxs[c]).restoring && (decide ((d.ctxs[c]).st = .ready) || decide ((d.ctxs[c]).st = .saved))) = true then
        Device.restoreEnd c (d.restoreTiles c p (d.ctxs[c]).saved)
      else d := rfl

theorem restoreDone_eq (d : Device) (c : CtxNo) (p : PartNo) (hp : (d.ctxs[c]).part = some p) (hrest : (d.ctxs[c]).restoring = true)
    (hst : (d.ctxs[c]).st = .saved) : d.restoreDone c = Device.restoreEnd c (d.restoreTiles c p (d.ctxs[c]).saved) := by
  rw [restoreDone_match, hp, hrest, hst]
  exact if_pos rfl

theorem restoreEnd_runs (d : Device) (c : CtxNo) (p : PartNo) (i : Image) (hp : (d.ctxs[c]).part = some p)
    (hi : (d.ctxs[c]).image = some i) (hst : (d.ctxs[c]).st = .saved) (r : Bool × Device) (hr : r.2.ctxs = d.ctxs) :
    ((Device.restoreEnd c r).ctxs[c]).restoring = false ∧
      (((Device.restoreEnd c r).ctxs[c]).st = .running ∨ ((Device.restoreEnd c r).ctxs[c]).st = .tearing) := by
  unfold Device.restoreEnd
  split
  · obtain ⟨hrun, hdone⟩ := nowRunning_runs r.2 c p i (by rw [hr]; exact hp) (by rw [hr]; exact hi)
    exact ⟨hdone, .inl hrun⟩
  · rw [askTeardown_saved _ _ _ (by rw [modCtx_get, hr]; exact hst), modCtx_get]
    exact ⟨rfl, .inr rfl⟩

/-- Settles O27: what follows the last change of each context's state is the scheduler alone. -/
theorem contextMovesComplete : Obligations.ContextMovesComplete := by
  unfold Obligations.ContextMovesComplete
  intro s c p hl hp
  refine ⟨fun hsave hst hquiet => ?_, fun hrest hst himage => ?_, fun hst hin hrel hsave hquiet => ?_⟩
  · refine ⟨s.dev.savedCtx p c, ?_, savedCtx_saved s.dev p c⟩
    change onLive (fun d => d.saveDone c) s = _
    rw [onLive_live _ _ hl, saveDone_eq s.dev c p hp hsave hst hquiet]
  · refine ⟨_, onLive_live (fun d => d.restoreDone c) s hl, ?_⟩
    obtain ⟨i, hi⟩ := Option.isSome_iff_exists.mp himage
    dsimp only
    rw [restoreDone_eq s.dev c p hp hrest hst]
    exact restoreEnd_runs s.dev c p i hp hi hst _ (restoreTiles_ctxs _ _ _ _)
  · refine ⟨s.dev.exited p c, ?_, exited_bound s.dev p c hp⟩
    change onLive (fun d => d.contextExit c) s = _
    rw [onLive_live _ _ hl, contextExit_eq s.dev c p hp hst hin hrel hsave hquiet]

end Sys2Proof.Machine

/-! Teardown, function-level resets and closing windows (R168, R361 to R364, R455). -/

namespace Sys2Proof.Machine

/-! ### Teardown -/

/-- A context whose work is stopped, with the windows that name its last tiles closing. -/
def Device.stopped (d : Device) (p : PartNo) (c : CtxNo) : Device := (d.stopContext p c).closeNaming p (d.lastUsed p c)

/-- What a teardown leaves once its context is quiet, before the scheduler looks anew. -/
def Device.tornDown (d : Device) (p : PartNo) (c : CtxNo) (cause : Option Cause) : Device :=
  let e := ((d.writeDump p c).endStopped (fun y => y.ctx = c)).scanLocks p c
  let e := (((e.ctxTiles c).foldl (fun d t => d.modTile t Tile.tornDown) e).closeCtx p c).endReleases c
  (e.modCtx c Context.emptied).report 0x0304 (some p) (some c.val) 0 (BitVec.ofNat 128 ((cause.map Cause.code).getD 0))

theorem contextTeardown_match (d : Device) (c : CtxNo) : d.contextTeardown c =
    match (d.ctxs[c]).part, (d.ctxs[c]).st with
    | some p, .tearing =>
      if ((d.stopped p c).unanswered c && decide ((d.stopped p c).since (d.ctxs[c]).waitSince < 2000000)) ||
          !(d.stopped p c).namingClosed p (d.lastUsed p c) then d.stopped p c
      else ((d.stopped p c).tornDown p c (d.ctxs[c]).teardownCause).schedule
    | _, _ => d := rfl

/-- A context torn down waits until it is quiet and its windows are closed. -/
theorem contextTeardown_eq (d : Device) (c : CtxNo) (p : PartNo) (hp : (d.ctxs[c]).part = some p) (hst : (d.ctxs[c]).st = .tearing) :
    d.contextTeardown c =
      if ((d.stopped p c).unanswered c && decide ((d.stopped p c).since (d.ctxs[c]).waitSince < 2000000)) ||
          !(d.stopped p c).namingClosed p (d.lastUsed p c) then d.stopped p c
      else ((d.stopped p c).tornDown p c (d.ctxs[c]).teardownCause).schedule := by
  rw [contextTeardown_match, hp, hst]

theorem closeNaming_windows (d : Device) (p : PartNo) (ts : List TileNo) (w : WinNo) :
    ((d.closeNaming p ts).parts[p]).windows[w] =
      if ((d.parts[p]).windows[w]).st = 1 && ts.any (fun t => t.val = ((d.parts[p]).windows[w]).tile) then
        { (d.parts[p]).windows[w] with st := 2 } else (d.parts[p]).windows[w] := by
  unfold Device.closeNaming
  rw [modPart_get]
  simp only [Fin.getElem_fin, Vector.getElem_map]

theorem stopped_windows (d : Device) (p : PartNo) (c : CtxNo) (w : WinNo) :
    ((d.stopped p c).parts[p]).windows[w] =
      if ((d.parts[p]).windows[w]).st = 1 && (d.lastUsed p c).any (fun t => t.val = ((d.parts[p]).windows[w]).tile) then
        { (d.parts[p]).windows[w] with st := 2 } else (d.parts[p]).windows[w] := by
  have hwin := (stopContext_worked d p c).windows p
  unfold Device.stopped
  rw [closeNaming_windows, hwin]

/-- Windows that are closed or name none of the tiles stay so. -/
theorem closeNaming_namingClosed (d : Device) (p : PartNo) (ts : List TileNo)
    (h : ∀ w ∈ (d.parts[p]).windows.toList, w.st = 0 ∨ ∀ t ∈ ts, t.val ≠ w.tile) :
    (d.closeNaming p ts).namingClosed p ts = true := by
  have hnone : ∀ w : Window, (∀ t ∈ ts, t.val ≠ w.tile) → ts.any (fun t => t.val = w.tile) = false := by
    intro w hw
    rw [List.any_eq_false]
    exact fun t ht hv => hw t ht (of_decide_eq_true hv)
  unfold Device.namingClosed Device.closeNaming
  rw [modPart_get, List.all_eq_true]
  simp only [Vector.toList_map, List.mem_map, forall_exists_index, and_imp, forall_apply_eq_imp_iff₂]
  intro w hw
  rcases h w hw with hst | hfar
  · simp [hst]
  · simp [hnone w hfar]

theorem stopped_namingClosed (d : Device) (p : PartNo) (c : CtxNo)
    (h : ∀ w ∈ (d.parts[p]).windows.toList, w.st = 0 ∨ ∀ t ∈ d.lastUsed p c, t.val ≠ w.tile) :
    (d.stopped p c).namingClosed p (d.lastUsed p c) = true := by
  refine closeNaming_namingClosed _ p _ ?_
  rw [(stopContext_worked d p c).windows p]
  exact h

/-- A window still open keeps the teardown waiting. -/
theorem namingClosed_open (d : Device) (p : PartNo) (ts : List TileNo) (w : WinNo) (t : TileNo) (hst : ((d.parts[p]).windows[w]).st ≠ 0)
    (htile : ((d.parts[p]).windows[w]).tile = t.val) (ht : t ∈ ts) : d.namingClosed p ts = false := by
  unfold Device.namingClosed
  rw [List.all_eq_false]
  refine ⟨(d.parts[p]).windows[w], Vector.mem_toList_iff.mpr (Vector.getElem_mem w.isLt), ?_⟩
  have hany : ts.any (fun t => t.val = ((d.parts[p]).windows[w]).tile) = true :=
    List.any_eq_true.mpr ⟨t, ht, decide_eq_true htile.symm⟩
  rw [hany, decide_eq_false hst]
  exact Bool.false_ne_true

/-- An open window that names a tile last used closes. -/
theorem stopped_closes (d : Device) (p : PartNo) (c : CtxNo) (w : WinNo) (t : TileNo) (hopen : ((d.parts[p]).windows[w]).st = 1)
    (htile : ((d.parts[p]).windows[w]).tile = t.val) (ht : t ∈ d.lastUsed p c) :
    ((d.stopped p c).parts[p]).windows[w] = { (d.parts[p]).windows[w] with st := 2 } := by
  rw [stopped_windows]
  generalize d.lastUsed p c = ts at ht ⊢
  have hany : ts.any (fun t => t.val = ((d.parts[p]).windows[w]).tile) = true :=
    List.any_eq_true.mpr ⟨t, ht, decide_eq_true htile.symm⟩
  rw [if_pos (by rw [hopen, hany]; rfl)]

theorem closeNaming_ctxs (d : Device) (p : PartNo) (ts : List TileNo) : (d.closeNaming p ts).ctxs = d.ctxs := rfl

theorem stopped_tearing (d : Device) (p : PartNo) (c : CtxNo) (h : (d.ctxs[c]).st = .tearing) : ((d.stopped p c).ctxs[c]).st = .tearing := by
  unfold Device.stopped
  rw [closeNaming_ctxs]
  rcases (stopContext_worked d p c).st c with hst | ⟨hst, -⟩
  · exact hst.trans h
  · exact hst

theorem closeNaming_places (d : Device) (p : PartNo) (ts : List TileNo) : d.SamePlaces (d.closeNaming p ts) := .modPart d p _

theorem closeNaming_devTime (d : Device) (p : PartNo) (ts : List TileNo) : (d.closeNaming p ts).devTime = d.devTime := rfl

theorem stopped_places (d : Device) (p : PartNo) (c : CtxNo) : d.SamePlaces (d.stopped p c) := by
  unfold Device.stopped
  exact .trans (.of_worked (stopContext_worked d p c)) (closeNaming_places _ _ _)

theorem stopped_since (d : Device) (p : PartNo) (c : CtxNo) (t : W64) : (d.stopped p c).since t = d.since t := by
  unfold Device.since Device.stopped
  rw [closeNaming_devTime, (stopContext_worked d p c).devTime]

/-- The dump of a context is the newest, and unread. -/
theorem writeDump_dumps (d : Device) (p : PartNo) (c : CtxNo) :
    (d.writeDump p c).dumps.getLast?.map (fun u => (u.ctx, u.part, u.unread)) = some (c, p, true) := by
  unfold Device.writeDump
  simp only [List.getLast?_append, List.getLast?_singleton, Option.some_or, Option.map_some]

theorem writeDump_places (d : Device) (p : PartNo) (c : CtxNo) : d.SamePlaces (d.writeDump p c) := .of_eq rfl rfl

/-- A context leaves its tiles and is emptied. -/
def Device.leave (d : Device) (p : PartNo) (c : CtxNo) : Device :=
  ((((d.ctxTiles c).foldl (fun d t => d.modTile t Tile.tornDown) d).closeCtx p c).endReleases c).modCtx c Context.emptied

theorem closePools_dumps (d : Device) (p : PartNo) (c : CtxNo) : (d.closePools p c).dumps = d.dumps := by
  refine List.foldlRecOn (motive := fun e : Device => e.dumps = d.dumps) _ _ rfl (fun e h k _ => .trans ?_ h)
  dsimp only
  split
  · exact (Device.Worked.of_touched (claspApply_touched _ _ _ _)).dumps
  · rfl

theorem closeCtx_dumps (d : Device) (p : PartNo) (c : CtxNo) : (d.closeCtx p c).dumps = d.dumps := by
  unfold Device.closeCtx
  dsimp only
  rw [modPart_dumps, closePools_dumps]
  rfl

theorem leave_bound (d : Device) (p : PartNo) (c : CtxNo) : ((d.leave p c).ctxs[c]).st = .bound ∧ ((d.leave p c).ctxs[c]).image = none ∧
    ((d.leave p c).ctxs[c]).part = (d.ctxs[c]).part ∧ (∀ t : TileNo, ((d.leave p c).tiles[t]).ctx ≠ some c) ∧
    (d.leave p c).dumps = d.dumps := by
  have hleave := ctxTiles_given_up Tile.tornDown (fun _ => rfl) c d
  have hctxs := foldl_modTile_ctxs Tile.tornDown (d.ctxTiles c) d
  have hdumps : ((d.ctxTiles c).foldl (fun d t => d.modTile t Tile.tornDown) d).dumps = d.dumps :=
    List.foldlRecOn (motive := fun e : Device => e.dumps = d.dumps) _ _ rfl (fun _ h _ _ => h)
  unfold Device.leave
  generalize (d.ctxTiles c).foldl (fun d t => d.modTile t Tile.tornDown) d = e at hleave hctxs hdumps ⊢
  have hplaces := (closeCtx_places e p c).trans (.of_worked (endReleases_worked (e.closeCtx p c) c))
  obtain ⟨hst, himage, hpart⟩ := emptied_get ((e.closeCtx p c).endReleases c) c
  refine ⟨hst, himage, ?_, fun t => ?_, ?_⟩
  · rw [hpart, hplaces.part, hctxs]
  · rw [modCtx_tiles]
    exact (hplaces.tileCtx t).trans_ne (hleave t)
  · rw [modCtx_dumps, (endReleases_worked _ _).dumps, closeCtx_dumps, hdumps]

theorem tornDown_eq (d : Device) (p : PartNo) (c : CtxNo) (cause : Option Cause) : d.tornDown p c cause =
    ((((d.writeDump p c).endStopped (fun y => y.ctx = c)).scanLocks p c).leave p c).report 0x0304 (some p) (some c.val) 0
      (BitVec.ofNat 128 ((cause.map Cause.code).getD 0)) := rfl

/-- Once it is quiet, a context torn down is BOUND, without an image, on no tile, with its dump written and unread. -/
theorem tornDown_bound (d : Device) (p : PartNo) (c : CtxNo) (cause : Option Cause) (hp : (d.ctxs[c]).part = some p) :
    ((d.tornDown p c cause).ctxs[c]).st = .bound ∧ ((d.tornDown p c cause).ctxs[c]).image = none ∧
      ((d.tornDown p c cause).ctxs[c]).part = some p ∧ (∀ t : TileNo, ((d.tornDown p c cause).tiles[t]).ctx ≠ some c) ∧
      (d.tornDown p c cause).dumps.getLast?.map (fun u => (u.ctx, u.part, u.unread)) = some (c, p, true) := by
  have hwork : (d.writeDump p c).Worked (((d.writeDump p c).endStopped (fun y => y.ctx = c)).scanLocks p c) :=
    (endStopped_worked _ _).trans (scanLocks_worked _ _ _)
  obtain ⟨hst, himage, hpart, htiles, hdumps⟩ := leave_bound (((d.writeDump p c).endStopped (fun y => y.ctx = c)).scanLocks p c) p c
  rw [tornDown_eq, report_ctxs, report_tiles, (report_worked _ _ _ _ _ _).dumps, hdumps, hwork.dumps, hpart, hwork.ctxPart,
    (writeDump_places d p c).part]
  exact ⟨hst, himage, hp, htiles, writeDump_dumps d p c⟩

/-! ### Function-level resets (R364) -/

theorem flrSubmitted_worked (d : Device) (p : PartNo) (n : QueueNo) (k : Nat) : d.Worked (d.flrSubmitted p n k) := by
  induction k generalizing d with
  | zero => exact .refl d
  | succ k ih =>
    unfold Device.flrSubmitted
    dsimp only
    split
    · exact .refl d
    · exact ((modQueue_worked d p n _).trans (postCq_worked _ _ _ _)).trans (ih _)

/-- A VF's queues, channels and partition reset, before its host-facing state is cleared. -/
def Device.flrWork (d : Device) (p : PartNo) : Device :=
  let d := (List.finRange 64).foldl (fun d q =>
    (d.parts[p]).queues[q].started.foldl (fun d s =>
      let cid := match s with
        | .steps cid _ _ => cid
        | .channel cid _ => cid
      d.postCq p q { cid := cid, status := St.flr.code, detail := 0 }) d) d
  let d := (List.finRange 64).foldl (fun d q => d.flrSubmitted p q (2 ^ ((d.parts[p]).queues[q]).log2)) d
  let d := d.modPart p (fun q => { q with queues := Vector.replicate 64 Queue.reset })
  let d := d.stopChannels (fun x => match x.origin with
    | .host a _ _ => a = p
    | _ => false)
  d.resetPartition p .flr

theorem vfFlr_eq (d : Device) (p : PartNo) : d.vfFlr p =
    (((d.flrWork p).modPart p (fun q =>
      { q with queues := Vector.replicate 64 Queue.reset, msix := Vector.replicate 124 Msix.reset, busMaster := false, barRead := none,
               barPoison := false })).dropMailbox (.vf p)) := rfl

theorem flrWork_worked (d : Device) (p : PartNo) : d.Worked (d.flrWork p) := by
  unfold Device.flrWork
  refine .trans ?_ (resetPartition_worked _ _ _)
  refine .trans ?_ (stopChannels_worked _ _)
  refine .trans ?_ (modPart_worked _ p (fun q => { q with queues := Vector.replicate 64 Queue.reset }) (fun _ => rfl))
  refine .trans ?_ (foldl_worked _ (fun d q => flrSubmitted_worked d p q _) _ _)
  exact foldl_worked _ (fun d q => foldl_worked _ (fun d s => postCq_worked d p q _) _ d) _ d

theorem alGet_alErase_self {κ α : Type} [DecidableEq κ] (l : List (κ × α)) (k : κ) : alGet (alErase l k) k = none := by
  unfold alGet alErase
  rw [List.find?_eq_none.mpr, Option.map_none]
  simp

theorem vfFlr_leaves (d : Device) (p : PartNo) : ((d.vfFlr p).parts[p]).queues = Vector.replicate 64 Queue.reset ∧
    ((d.vfFlr p).parts[p]).msix = Vector.replicate 124 Msix.reset ∧ ((d.vfFlr p).parts[p]).busMaster = false ∧
    alGet (d.vfFlr p).sessions (.vf p) = none ∧ ((d.vfFlr p).parts[p]).windows = (d.parts[p]).windows ∧ (d.vfFlr p).dict = d.dict := by
  obtain ⟨hwindows, hdict⟩ : ((d.flrWork p).parts[p]).windows = (d.parts[p]).windows ∧ (d.flrWork p).dict = d.dict :=
    ⟨(flrWork_worked d p).windows p, (flrWork_worked d p).dict⟩
  rw [vfFlr_eq]
  generalize d.flrWork p = e at hwindows hdict ⊢
  have hget : (e.modPart p (fun q =>
      { q with queues := Vector.replicate 64 Queue.reset, msix := Vector.replicate 124 Msix.reset, busMaster := false, barRead := none,
               barPoison := false })).parts[p] = _ := modPart_get _ _ _
  unfold Device.dropMailbox
  dsimp only
  rw [hget]
  exact ⟨rfl, rfl, rfl, alGet_alErase_self _ _, hwindows, hdict⟩

/-- A closing window without accesses is closed (R168). -/
theorem windowClosed_closes (d : Device) (p : PartNo) (w : WinNo) (hst : ((d.parts[p]).windows[w]).st = 2)
    (hadm : ((d.parts[p]).windows[w]).admitted = 0) : d.windowClosed p w = d.modWindow p w (fun x => { x with st := 0 }) := by
  unfold Device.windowClosed Device.modWindow Device.modPart
  dsimp only
  rw [if_pos ⟨hst, hadm⟩]

/-- Settles O31: the work of engines, movers and rings touches no window and no place of a context, so what a teardown or a reset
writes last is what stands. -/
theorem teardownAndFunctionResets : Obligations.TeardownAndFunctionResets := by
  unfold Obligations.TeardownAndFunctionResets
  intro s p
  refine ⟨?_, ?_, ?_, ?_, ?_⟩
  · intro c hl hp hst hwait hwin
    refine ⟨(s.dev.stopped p c).tornDown p c (s.dev.ctxs[c]).teardownCause, ?_,
      tornDown_bound _ p c _ (((stopped_places s.dev p c).part c).trans hp)⟩
    change onLive (fun d => d.contextTeardown c) s = _
    have hquiet : ((s.dev.stopped p c).unanswered c && decide ((s.dev.stopped p c).since (s.dev.ctxs[c]).waitSince < 2000000) ||
        !(s.dev.stopped p c).namingClosed p (s.dev.lastUsed p c)) = false := by
      rw [stopped_since, decide_eq_false (Nat.not_lt.mpr hwait), stopped_namingClosed s.dev p c hwin, Bool.and_false]
      rfl
    rw [onLive_live _ _ hl, contextTeardown_eq s.dev c p hp hst, hquiet, if_neg Bool.false_ne_true]
  · intro c w t hl hp hst hopen htile hlast
    refine ⟨_, onLive_live (fun d => d.contextTeardown c) s hl, ?_⟩
    have hclosing := stopped_closes s.dev p c w t hopen htile hlast
    have hnaming := namingClosed_open (s.dev.stopped p c) p _ w t (by rw [hclosing]; exact nofun) (by rw [hclosing]; exact htile) hlast
    dsimp only
    rw [contextTeardown_eq s.dev c p hp hst, hnaming, Bool.not_false, Bool.or_true, if_pos rfl, hclosing]
    exact ⟨rfl, stopped_tearing s.dev p c hst⟩
  · intro hheld
    refine ⟨{ s with dev := s.dev.vfFlr p }, ?_, vfFlr_leaves s.dev p⟩
    change onDev (fun d => if d.rst.held then d else d.vfFlr p) s = _
    rw [onDev_eq, hheld]
    rfl
  · intro hheld
    change onDev (fun d => if d.rst.held then d else d.pf0Flr) s = _
    rw [onDev_eq, hheld]
    rfl
  · intro w hl hst hadm
    change onLive (fun d => d.windowClosed p w) s = _
    rw [onLive_live _ _ hl, windowClosed_closes s.dev p w hst hadm]

end Sys2Proof.Machine

/-! Step boundaries (R246 to R259, R358): reports, measures, decisions, and the step's end. -/

namespace Sys2Proof.Machine

/-! ### Reports (R246) -/

/-- The part with the figures of a context's entries formed and a non-finite entry reported (R249 to R252). -/
def Device.figured (d : Device) (p : PartNo) (c : CtxNo) (step : W64) : Device :=
  let d := d.foldReports c
  let mine (e : SEntry) : Bool := e.part = p && e.ctx = c
  let bad := d.sentinel.find? (fun e => mine e && e.nonfin ≠ 0)
  let d := { d with sentinel := d.sentinel.map (fun e => if mine e then d.measure e else e) }
  match bad with
  | some e => d.report 0x0101 (some p) (some c.val) c.val (sentPay e e.variant 0 step)
  | none => d

/-- The tensors of a context whose entries promote, and those that demote. -/
def Device.boundaryUp (d : Device) (p : PartNo) (c : CtxNo) : List (BitVec 20) :=
  (d.sentinel.filter (fun e => (e.part = p && e.ctx = c) && d.promotes e)).map (·.tensor)
def Device.boundaryDown (d : Device) (p : PartNo) (c : CtxNo) : List (BitVec 20) :=
  (d.sentinel.filter (fun e => (e.part = p && e.ctx = c) && d.demotes e)).map (·.tensor)

/-- Measuring keeps tiles, settings and slices, and of a context all but its pending reports. -/
structure Device.Measures (d e : Device) : Prop where
  tiles : e.tiles = d.tiles
  dict : e.dict = d.dict
  tables : e.tables = d.tables
  ctx : ∀ c : CtxNo, e.ctxs[c] = { d.ctxs[c] with reports := (e.ctxs[c]).reports }

namespace Device.Measures
variable {a b c d e : Device}

theorem refl (d : Device) : d.Measures d := ⟨rfl, rfl, rfl, fun _ => rfl⟩

theorem trans (h : a.Measures b) (k : b.Measures c) : a.Measures c :=
  ⟨k.tiles.trans h.tiles, k.dict.trans h.dict, k.tables.trans h.tables, fun c => by rw [k.ctx c, h.ctx c]⟩

theorem of_told (h : d.Told e) : d.Measures e :=
  ⟨h.tiles, by rw [h.rest], by rw [h.rest], fun c => by rw [h.ctxs]⟩

theorem of_sentinel (d : Device) (l : List SEntry) : d.Measures { d with sentinel := l } := ⟨rfl, rfl, rfl, fun _ => rfl⟩

theorem cfg (h : d.Measures e) (base sub item : Nat) : e.cfg base sub item = d.cfg base sub item := by
  unfold Device.cfg
  rw [h.dict]

theorem sliceOf (h : d.Measures e) (p : PartNo) : e.sliceOf p = d.sliceOf p := by
  unfold Device.sliceOf
  rw [h.tables]

theorem kernelTiles (h : d.Measures e) (c : CtxNo) : e.kernelTiles c = d.kernelTiles c := by
  unfold Device.kernelTiles
  rw [h.ctx c]

end Device.Measures

theorem foldReport_measures (d : Device) (c : CtxNo) (r : Report) : d.Measures (d.foldReport c r) := by
  unfold Device.foldReport
  split
  · exact ⟨rfl, rfl, rfl, fun _ => rfl⟩
  · exact ⟨rfl, rfl, rfl, fun _ => rfl⟩

theorem dropReports_measures (d : Device) (c : CtxNo) : d.Measures (d.dropReports c) := by
  refine ⟨rfl, rfl, rfl, fun v => ?_⟩
  change (d.modCtx c (fun x => { x with reports := [] })).ctxs[v] =
    { d.ctxs[v] with reports := ((d.modCtx c (fun x => { x with reports := [] })).ctxs[v]).reports }
  by_cases hv : v = c
  · subst hv
    rw [modCtx_get]
  · rw [modCtx_get_ne _ _ _ _ hv]

/-- Folding the reports of a context changes the sentinel, and leaves none of them. -/
theorem foldReports_measures (d : Device) (c : CtxNo) : d.Measures (d.foldReports c) :=
  (dropReports_measures d c).trans
    (foldl_related (R := Device.Measures) .refl Device.Measures.trans (fun d r => foldReport_measures d c r) _ _)

theorem figured_measures (d : Device) (p : PartNo) (c : CtxNo) (step : W64) : d.Measures (d.figured p c step) := by
  have hfold := foldReports_measures d c
  unfold Device.figured
  dsimp only
  split
  · exact (hfold.trans (.of_sentinel _ _)).trans (.of_told (report_told _ _ _ _ _ _))
  · exact hfold.trans (.of_sentinel _ _)

theorem applyDecisions_measures (d : Device) (p : PartNo) (c : CtxNo) (promote demote : List (BitVec 20)) :
    d.Measures (d.applyDecisions p c promote demote) := by
  unfold Device.applyDecisions
  refine .trans ?_ (foldl_related (R := Device.Measures) .refl Device.Measures.trans (fun d q => .of_told (report_told _ _ _ _ _ _)) _ _)
  exact .of_sentinel d _

/-! ### The step's end -/

theorem writeWords_touched (d : Device) (p : PartNo) (c : CtxNo) (sel : SEntry → Bool) : d.Touched (d.writeWords p c sel) := by
  unfold Device.writeWords
  split
  · exact .refl d
  · dsimp only
    refine .trans (foldl_touched _ (fun d w => ?_) _ d) (foldl_touched _ (fun d w => ?_) _ _)
    · split
      · exact pocketWrite_touched _ _ _ _ _
      · exact .refl _
    · split
      · exact pocketWrite_touched _ _ _ _ _
      · exact .refl _

/-- A completion posted changes no tile and no context. -/
theorem postCq_tiles_ctxs (d : Device) (p : PartNo) (n : QueueNo) (k : Completion) :
    (d.postCq p n k).tiles = d.tiles ∧ (d.postCq p n k).ctxs = d.ctxs := by
  unfold Device.postCq Device.drainCq
  dsimp only
  split
  · exact ⟨(signal_told _ _ _).tiles, (signal_told _ _ _).ctxs⟩
  · exact ⟨rfl, rfl⟩

theorem completeSteps_tiles_ctxs (d : Device) (p : PartNo) (c : CtxNo) (step : W64) :
    (d.completeSteps p c step).tiles = d.tiles ∧ (d.completeSteps p c step).ctxs = d.ctxs := by
  have hrel : ∀ a b c : Device, (b.tiles = a.tiles ∧ b.ctxs = a.ctxs) → (c.tiles = b.tiles ∧ c.ctxs = b.ctxs) →
      c.tiles = a.tiles ∧ c.ctxs = a.ctxs := fun _ _ _ h k => ⟨k.1.trans h.1, k.2.trans h.2⟩
  refine foldl_related (R := fun a b : Device => b.tiles = a.tiles ∧ b.ctxs = a.ctxs) (fun _ => ⟨rfl, rfl⟩) (hrel _ _ _) (fun d q => ?_) _ d
  refine foldl_related (R := fun a b : Device => b.tiles = a.tiles ∧ b.ctxs = a.ctxs) (fun _ => ⟨rfl, rfl⟩) (hrel _ _ _) (fun d s => ?_) _ d
  cases s with
  | steps cid k last =>
    dsimp only
    split
    · exact postCq_tiles_ctxs _ _ _ _
    · exact ⟨rfl, rfl⟩
  | channel cid n => exact ⟨rfl, rfl⟩

/-- The step over, its tiles idle and its commands complete, before the scheduler looks anew. -/
def Device.stepOver (d : Device) (p : PartNo) (c : CtxNo) : Device :=
  let step := (d.ctxs[c]).stepNo
  let d := d.writeWords p c (fun _ => true)
  let d := (d.kernelTiles c).foldl (fun d t => d.modTile t (fun x => { x with mode := .idle })) d
  let d := d.modCtx c (fun x => { x with inStep := false, atBoundary := false, stepNo := x.stepNo + 1, decided := none,
                                         prio := x.prioSet })
  let d := d.modCtx c (fun x => { x with heldAt := d.boundaryHeld p c })
  d.completeSteps p c step

theorem stepEnd_eq (d : Device) (p : PartNo) (c : CtxNo) : d.stepEnd p c = (d.stepOver p c).schedule := rfl

/-- Tiles edited alike: each in the list is, whatever it was. -/
theorem foldl_modTile_all {α : Type} (f : Tile → Tile) (φ : Tile → α) (v : α) (hf : ∀ x, φ (f x) = v) (l : List TileNo) (d : Device)
    (t : TileNo) (h : t ∈ l ∨ φ (d.tiles[t]) = v) : φ ((l.foldl (fun d t => d.modTile t f) d).tiles[t]) = v := by
  induction l generalizing d with
  | nil => exact h.resolve_left List.not_mem_nil
  | cons u l ih =>
    refine ih _ ?_
    by_cases htu : t = u
    · subst htu
      right
      rw [modTile_get]
      exact hf _
    · rw [modTile_get_ne _ _ _ _ htu]
      exact h.imp_left (fun h => (List.mem_cons.mp h).resolve_left htu)

theorem stepOver_ends (d : Device) (p : PartNo) (c : CtxNo) : ((d.stepOver p c).ctxs[c]).inStep = false ∧
    ((d.stepOver p c).ctxs[c]).stepNo = (d.ctxs[c]).stepNo + 1 ∧ ((d.stepOver p c).ctxs[c]).decided = none ∧
    ((d.stepOver p c).ctxs[c]).prio = (d.ctxs[c]).prioSet ∧
    ∀ t ∈ d.kernelTiles c, ((d.stepOver p c).tiles[t]).mode = .idle := by
  have hwords := writeWords_touched d p c (fun _ => true)
  have hkernel : (d.writeWords p c (fun _ => true)).kernelTiles c = d.kernelTiles c := by
    unfold Device.kernelTiles
    rw [hwords.ctx c]
  have hstep : ((d.writeWords p c (fun _ => true)).ctxs[c]).stepNo = (d.ctxs[c]).stepNo := by rw [hwords.ctx c]
  have hprio : ((d.writeWords p c (fun _ => true)).ctxs[c]).prioSet = (d.ctxs[c]).prioSet := by rw [hwords.ctx c]
  unfold Device.stepOver
  dsimp only
  rw [(completeSteps_tiles_ctxs _ _ _ _).1, (completeSteps_tiles_ctxs _ _ _ _).2, hkernel]
  generalize d.writeWords p c (fun _ => true) = e at hstep hprio ⊢
  have hctxs : ((d.kernelTiles c).foldl (fun d t => d.modTile t (fun x => { x with mode := .idle })) e).ctxs = e.ctxs :=
    foldl_modTile_ctxs _ _ _
  rw [modCtx_get, modCtx_get, hctxs]
  refine ⟨rfl, ?_, rfl, hprio, fun t ht => ?_⟩
  · exact congrArg (· + 1) hstep
  · exact foldl_modTile_all _ Tile.mode .idle (fun _ => rfl) _ e t (.inl ht)

/-! ### The boundary -/

/-- What the boundary does once due. -/
def Device.boundary (d : Device) (p : PartNo) (c : CtxNo) : Device :=
  if d.cfg 0x5210 8 0 = 1 ∧ d.sliceOf p ≠ none then
    d.modCtx c (fun x => { x with atBoundary := true, decided := some (d.boundaryUp p c, d.boundaryDown p c) })
  else (d.applyDecisions p c (d.boundaryUp p c) (d.boundaryDown p c)).stepEnd p c

theorem stepBoundary_match (d : Device) (c : CtxNo) : d.stepBoundary c =
    match (d.ctxs[c]).part with
    | none => d
    | some p =>
      if d.up 1 && d.up 6 && (d.ctxs[c]).st = .running && (d.ctxs[c]).inStep && !(d.ctxs[c]).atBoundary && !(d.ctxs[c]).saving &&
          !(d.ctxs[c]).replayDue && (d.kernelTiles c).all (fun t => (d.tiles[t]).mode = .ending) then
        (d.figured p c (d.ctxs[c]).stepNo).boundary p c
      else d := rfl

/-- The boundary is due once every kernel of the step has ended. -/
theorem stepBoundary_eq (d : Device) (c : CtxNo) (p : PartNo) (hp : (d.ctxs[c]).part = some p) (hup1 : d.up 1 = true)
    (hup6 : d.up 6 = true) (hst : (d.ctxs[c]).st = .running) (hin : (d.ctxs[c]).inStep = true) (hat : (d.ctxs[c]).atBoundary = false)
    (hsave : (d.ctxs[c]).saving = false) (hreplay : (d.ctxs[c]).replayDue = false)
    (hending : ∀ t ∈ d.kernelTiles c, (d.tiles[t]).mode = .ending) :
    d.stepBoundary c = (d.figured p c (d.ctxs[c]).stepNo).boundary p c := by
  have hall : (d.kernelTiles c).all (fun t => (d.tiles[t]).mode = .ending) = true :=
    List.all_eq_true.mpr (fun t ht => decide_eq_true (hending t ht))
  rw [stepBoundary_match, hp]
  dsimp only
  rw [hup1, hup6, hst, hin, hat, hsave, hreplay, hall]
  exact if_pos rfl

theorem sliceExchange_eq (d : Device) (c : CtxNo) (p : PartNo) (up down promote demote : List (BitVec 20))
    (hp : (d.ctxs[c]).part = some p) (hst : (d.ctxs[c]).st = .running) (hat : (d.ctxs[c]).atBoundary = true)
    (hdec : (d.ctxs[c]).decided = some (up, down)) : d.sliceExchange c promote demote =
      (d.applyDecisions p c (up ++ promote) (down.filter (fun t => decide (t ∈ demote)))).stepEnd p c := by
  unfold Device.sliceExchange
  dsimp only
  rw [hp, hdec]
  dsimp only
  rw [hst, hat]
  exact if_pos rfl

/-- Settles O30: what comes before the step's end keeps steps, priorities and tiles, and what comes after is the scheduler alone. -/
theorem stepBoundaries : Obligations.StepBoundaries := by
  unfold Obligations.StepBoundaries
  intro s c p hl hp
  refine ⟨?_, ?_, ?_, ?_⟩
  · intro t o f rest hsent
    change onLive (fun d => d.sentReport) s = _
    rw [onLive_live _ _ hl]
    unfold Device.sentReport
    rw [hsent]
  · intro t o r b rest hsent
    change onLive (fun d => d.sentReport) s = _
    rw [onLive_live _ _ hl]
    unfold Device.sentReport
    rw [hsent]
  · intro x hup1 hup6 hst hin hat hsave hreplay hending
    have hdue : s.dev.stepBoundary c = (s.dev.figured p c x.stepNo).boundary p c :=
      stepBoundary_eq s.dev c p hp hup1 hup6 hst hin hat hsave hreplay hending
    have hm := figured_measures s.dev p c x.stepNo
    refine ⟨fun halone => ?_, fun hscope hslice => ?_⟩
    · have hd := hm.trans (applyDecisions_measures _ p c ((s.dev.figured p c x.stepNo).boundaryUp p c)
        ((s.dev.figured p c x.stepNo).boundaryDown p c))
      have hno : ¬ ((s.dev.figured p c x.stepNo).cfg 0x5210 8 0 = 1 ∧ (s.dev.figured p c x.stepNo).sliceOf p ≠ none) := by
        rw [hm.cfg, hm.sliceOf]
        rintro ⟨hscope, hslice⟩
        exact halone.elim (fun h => h hscope) hslice
      obtain ⟨hin', hstep, -, hprio, hidle⟩ := stepOver_ends
        ((s.dev.figured p c x.stepNo).applyDecisions p c ((s.dev.figured p c x.stepNo).boundaryUp p c)
          ((s.dev.figured p c x.stepNo).boundaryDown p c)) p c
      refine ⟨_, ?_, hin', hstep.trans ?_, hprio.trans ?_, fun t ht => hidle t ?_⟩
      · change onLive (fun d => d.stepBoundary c) s = _
        rw [onLive_live _ _ hl, hdue, Device.boundary, if_neg hno, stepEnd_eq]
      · rw [hd.ctx c]
      · rw [hd.ctx c]
      · rw [hd.kernelTiles]
        exact ht
    · refine ⟨_, onLive_live (fun d => d.stepBoundary c) s hl, ?_⟩
      have hyes : (s.dev.figured p c x.stepNo).cfg 0x5210 8 0 = 1 ∧ (s.dev.figured p c x.stepNo).sliceOf p ≠ none := by
        rw [hm.cfg, hm.sliceOf]
        exact ⟨hscope, hslice⟩
      dsimp only
      rw [hdue, Device.boundary, if_pos hyes, modCtx_get]
      refine ⟨rfl, rfl, ?_⟩
      change ((s.dev.figured p c x.stepNo).ctxs[c]).stepNo = x.stepNo
      rw [hm.ctx c]
  · intro up down promote demote hst hat hdec
    have hd := applyDecisions_measures s.dev p c (up ++ promote) (down.filter (fun t => decide (t ∈ demote)))
    obtain ⟨hin', hstep, hnone, -, hidle⟩ := stepOver_ends
      (s.dev.applyDecisions p c (up ++ promote) (down.filter (fun t => decide (t ∈ demote)))) p c
    refine ⟨_, ?_, hstep.trans ?_, hin', hnone, fun t ht => hidle t ?_⟩
    · change onLive (fun d => d.sliceExchange c promote demote) s = _
      rw [onLive_live _ _ hl, sliceExchange_eq s.dev c p up down promote demote hp hst hat hdec, stepEnd_eq]
    · rw [hd.ctx c]
    · rw [hd.kernelTiles]
      exact ht

end Sys2Proof.Machine

/-! Residue reports, commits, replays and audits (R368 to R380). -/

namespace Sys2Proof.Machine

/-! ### Residue reports (R368) -/

/-- The newest entry is the last of the log. -/
theorem getLast?_logAppend (l : List LogEntry) (e : LogEntry) : (logAppend l e).getLast? = some e := by
  unfold logAppend
  split
  · simp
  · split
    · split <;> simp [List.getLast?_cons]
    · rfl

/-- A report of a logged code is the newest entry of the error log (R451). -/
theorem report_newest (d : Device) (code : W16) (p : Option PartNo) (ctx : Option Nat) (src : Nat) (payload : BitVec 128)
    (h : isLogged code = true) : (d.report code p ctx src payload).errLog.getLast?.map (·.code) = some code := by
  rw [report_eq, announced_errLog, if_pos h]
  unfold Device.logErr
  dsimp only
  rw [getLast?_logAppend]
  rfl

/-- A mismatch of a tile's array is counted, logged, and fences its context (R368, R371, R372). -/
theorem residueReport_tensor (d : Device) (t : TileNo) (c : CtxNo) (hctx : (d.tiles[t]).ctx = some c) (hst : (d.ctxs[c]).st = .running)
    (hnone : (d.ctxs[c]).suspectUnit = none) :
    (d.residueReport (.tensor t)).cntResidue = d.cntResidue + 1 ∧
      ((d.residueReport (.tensor t)).tiles[t]).cntResidue = (d.tiles[t]).cntResidue + 1 ∧
      (d.residueReport (.tensor t)).errLog.getLast?.map (·.code) = some 0x0203#16 ∧
      ((d.residueReport (.tensor t)).ctxs[c]).suspectUnit = some (.tensor t) ∧
      ((d.residueReport (.tensor t)).ctxs[c]).fenced = true := by
  have hlog := report_newest { d with cntResidue := d.cntResidue + 1 } 0x0203 (d.unitOwner (.tensor t)).1
    ((d.unitOwner (.tensor t)).2.map (·.val)) ((resSrc (.tensor t)).2 + 1024 * (resSrc (.tensor t)).1)
    (pay4 (resSrc (.tensor t)).1 (resSrc (.tensor t)).2 0 0) (by decide)
  have htold := report_told { d with cntResidue := d.cntResidue + 1 } 0x0203 (d.unitOwner (.tensor t)).1
    ((d.unitOwner (.tensor t)).2.map (·.val)) ((resSrc (.tensor t)).2 + 1024 * (resSrc (.tensor t)).1)
    (pay4 (resSrc (.tensor t)).1 (resSrc (.tensor t)).2 0 0)
  unfold Device.residueReport
  dsimp only
  generalize ({ d with cntResidue := d.cntResidue + 1 } : Device).report 0x0203 _ _ _ _ = e at hlog htold ⊢
  have htiles : e.tiles = d.tiles := htold.tiles
  have hctxs : e.ctxs = d.ctxs := htold.ctxs
  have hcnt : e.cntResidue = d.cntResidue + 1 := by rw [htold.rest]
  have heffect : e.residueEffect (.tensor t) =
      (e.modTile t (fun x => { x with cntResidue := x.cntResidue + 1 })).modCtx c
        (fun x => { x with suspectUnit := some (x.suspectUnit.getD (.tensor t)), fenced := true, lastSuspect := t }) := by
    unfold Device.residueEffect
    dsimp only
    rw [modTile_get]
    dsimp only
    rw [htiles, hctx]
    dsimp only
    unfold Device.fence
    rw [if_pos (by rw [modTile_ctxs, hctxs]; exact hst)]
  rw [heffect, modCtx_get, modTile_ctxs, hctxs, modCtx_tiles, modTile_get, htiles]
  exact ⟨hcnt, rfl, hlog, by rw [hnone]; rfl, rfl⟩

/-! ### Commits (R369 to R377) -/

theorem nodup_kernelTiles (d : Device) (c : CtxNo) : (d.kernelTiles c).Nodup := by
  unfold Device.kernelTiles
  split
  · exact ((List.nodup_finRange 512).filter _).filter _
  · exact List.nodup_nil

/-- The choice whether a segment is audited changes no tile. -/
theorem auditSelect_tiles (d : Device) (c : CtxNo) : (d.auditSelect c).tiles = d.tiles := by
  unfold Device.auditSelect
  dsimp only
  split
  · rfl
  · split
    · rfl
    · split <;> rfl

/-- A tile edited once by a fold over tiles. -/
theorem foldl_modTile_get (f : Tile → Tile) (l : List TileNo) (hl : l.Nodup) (d : Device) (t : TileNo) (h : t ∈ l) :
    (l.foldl (fun d t => d.modTile t f) d).tiles[t] = f d.tiles[t] := by
  obtain ⟨e, he, hfold⟩ := (foldl_tile (f := fun d t => d.modTile t f) (fun d u v hv => modTile_get_ne d u v _ hv) l hl d t).2 h
  rw [hfold, modTile_get, he]

/-- A commit without a mismatch counts, records, and runs on (R371). -/
theorem commitOk_commits (d : Device) (c : CtxNo) : ((d.commitOk c).ctxs[c]).commits = (d.ctxs[c]).commits + 1 ∧
    ∀ t ∈ d.kernelTiles c, ((d.commitOk c).tiles[t]).mode = .running ∧ ((d.commitOk c).tiles[t]).journal = [] ∧
      ((d.commitOk c).tiles[t]).record = some (d.tiles[t]).record_ := by
  have hfold := foldReports_measures d c
  unfold Device.commitOk
  dsimp only
  rw [auditSelect_keeps (·.commits) _ _ _ (fun _ _ _ _ _ _ => rfl), hfold.kernelTiles, auditSelect_tiles, modCtx_tiles]
  rw [modCtx_get, foldl_modTile_ctxs]
  refine ⟨?_, fun t ht => ?_⟩
  · dsimp only
    rw [hfold.ctx c]
  · rw [foldl_modTile_get _ _ (nodup_kernelTiles d c) _ t ht, hfold.tiles]
    exact ⟨rfl, rfl, rfl⟩

/-- A commit decided where nothing is amiss. -/
theorem commitDecision_ok (d : Device) (c : CtxNo) (p : PartNo) (hp : (d.ctxs[c]).part = some p) (hst : (d.ctxs[c]).st = .running)
    (hdue : d.commitDue c = true) (hunit : (d.ctxs[c]).suspectUnit = none) (hmiss : (d.ctxs[c]).auditMiss = false)
    (hpair : (d.ctxs[c]).auditPair = none) : d.commitDecision c = d.commitOk c := by
  have hverdict : d.auditVerdict c = d := by
    unfold Device.auditVerdict
    rw [hpair]
  unfold Device.commitDecision
  dsimp only
  rw [hp]
  dsimp only
  rw [hdue, hunit, hmiss, hverdict, hst]
  rfl

/-- Swapping, suspecting and reporting change no context. -/
theorem swapTile_ctxs (d : Device) (t : TileNo) (y : PhysNo) : (d.swapTile t y).ctxs = d.ctxs := by
  unfold Device.swapTile Device.patchWatch
  dsimp only
  split
  · rw [report_ctxs]
    rfl
  · rfl

theorem patchSuspect_ctxs (d : Device) (p : PartNo) (c : CtxNo) (u : ResUnit) : (d.patchSuspect p c u).ctxs = d.ctxs := by
  cases u with
  | tensor t | vector t =>
    unfold Device.patchSuspect
    dsimp only
    split
    · exact swapTile_ctxs _ _ _
    · rw [report_ctxs]
      rfl
  | gather g =>
    unfold Device.patchSuspect Device.suspectGather
    dsimp only
    split
    · rw [report_ctxs]
      rfl
    · rfl
  | reducer n => rfl

/-- Patching after an audit changes of a context its audit alone. -/
theorem patchAudit_keeps {α : Type} (φ : Context → α) (d : Device) (c : CtxNo) (t : TileNo) (sh : PhysNo)
    (hf : ∀ (x : Context) (q : Option (PhysNo × PhysNo)) (a : Option TileNo) (b : Bool),
      φ { x with auditPair := q, auditTile := a, audit := b } = φ x)
    (hs : ∀ (x : Context) (s : Option PhysNo), φ { x with shadow := s } = φ x) :
    φ ((d.patchAudit c t sh).ctxs[c]) = φ (d.ctxs[c]) := by
  have hpair := modCtx_keeps φ d c c (fun x => { x with auditPair := some (d.patchMap[t], sh), auditTile := none, audit := false })
    (fun x => hf x _ _ _)
  unfold Device.patchAudit
  dsimp only
  split
  · rw [modCtx_keeps φ _ c c _ (fun x => hs x _), swapTile_ctxs]
    exact hpair
  · rw [swapTile_ctxs, modCtx_keeps φ _ c c _ (fun x => hs x _)]
    exact hpair

/-- What a failed commit says of the replay to come. -/
def Context.replayPart (x : Context) : Bool × List HeldOp × Nat × W32 := (x.replayDue, x.held, x.attempts, x.commits)

/-- A failed replay is counted. -/
def Device.tallyReplay (d : Device) (c : CtxNo) : Device :=
  if (d.ctxs[c]).replaying then { d with replayFailed := d.replayFailed + 1 } else d

theorem tallyReplay_ctxs (d : Device) (c : CtxNo) : (d.tallyReplay c).ctxs = d.ctxs := by
  unfold Device.tallyReplay
  split <;> rfl

/-- A context that waits for its replay: nothing held, nothing pending. -/
def Device.awaitReplay (d : Device) (c : CtxNo) : Device :=
  (d.dropReports c).modCtx c (fun x =>
    { x with held := [], suspectUnit := none, auditMiss := false, replayDue := true, attempts := x.attempts + 1, fenced := true })

theorem awaitReplay_replayPart (d : Device) (c : CtxNo) :
    ((d.awaitReplay c).ctxs[c]).replayPart = (true, [], (d.ctxs[c]).attempts + 1, (d.ctxs[c]).commits) := by
  unfold Device.awaitReplay
  rw [modCtx_get, (dropReports_measures d c).ctx c]
  rfl

/-- The suspect of a failed commit patched, where there is one. -/
def Device.patchUnit (d : Device) (p : PartNo) (c : CtxNo) (u : Option ResUnit) : Device :=
  match u with
  | some u => d.patchSuspect p c u
  | none => d

theorem patchUnit_ctxs (d : Device) (p : PartNo) (c : CtxNo) (u : Option ResUnit) : (d.patchUnit p c u).ctxs = d.ctxs := by
  cases u with
  | some u => exact patchSuspect_ctxs d p c u
  | none => rfl

/-- The audit of a failed segment, for the replay to decide or dropped. -/
def Device.patchShadow (d : Device) (c : CtxNo) (x : Context) : Device :=
  match x.auditMiss, x.auditTile, x.shadow with
  | true, some t, some sh => d.patchAudit c t sh
  | _, _, _ => d.modCtx c (fun x => { x with audit := false, auditTile := none, shadow := none, met := false })

theorem patchShadow_replayPart (d : Device) (c : CtxNo) (x : Context) :
    ((d.patchShadow c x).ctxs[c]).replayPart = (d.ctxs[c]).replayPart := by
  unfold Device.patchShadow
  split
  · exact patchAudit_keeps (·.replayPart) d c _ _ (fun _ _ _ _ => rfl) (fun _ _ => rfl)
  · exact modCtx_keeps (·.replayPart) d c c _ (fun _ => rfl)

/-- A commit that fails with no full journal and attempts left is to be replayed (R374, R377). -/
theorem commitFail_eq (d : Device) (p : PartNo) (c : CtxNo) (hfull : (d.ctxs[c]).jfull = false) (hatt : (d.ctxs[c]).attempts < 2) :
    d.commitFail p c = (((d.tallyReplay c).awaitReplay c).patchUnit p c (d.ctxs[c]).suspectUnit).patchShadow c d.ctxs[c] := by
  unfold Device.commitFail
  dsimp only
  rw [if_neg (by rw [hfull]; exact Bool.false_ne_true), if_neg (Nat.not_le.mpr hatt)]
  rfl

theorem commitFail_replays (d : Device) (p : PartNo) (c : CtxNo) (hfull : (d.ctxs[c]).jfull = false) (hatt : (d.ctxs[c]).attempts < 2) :
    ((d.commitFail p c).ctxs[c]).replayPart = (true, [], (d.ctxs[c]).attempts + 1, (d.ctxs[c]).commits) := by
  rw [commitFail_eq d p c hfull hatt, patchShadow_replayPart, patchUnit_ctxs, awaitReplay_replayPart, tallyReplay_ctxs]

theorem commitDecision_fails (d : Device) (c : CtxNo) (p : PartNo) (hp : (d.ctxs[c]).part = some p) (hdue : d.commitDue c = true)
    (hunit : (d.ctxs[c]).suspectUnit.isSome = true) : d.commitDecision c = d.commitFail p c := by
  obtain ⟨u, hu⟩ := Option.isSome_iff_exists.mp hunit
  unfold Device.commitDecision
  dsimp only
  rw [hp]
  dsimp only
  rw [hdue, hu]
  rfl

/-! ### Replay (R374, R376) -/

/-- `e` has the program of every tile of `d`, runs where it ran, and no ECC error where there was none. -/
structure Device.KeepsRun (d e : Device) : Prop where
  tile : ∀ t : TileNo, (e.tiles[t]).mode = (d.tiles[t]).mode ∧ (e.tiles[t]).pc = (d.tiles[t]).pc ∧ (e.tiles[t]).tok = (d.tiles[t]).tok ∧
    (e.tiles[t]).bnd = (d.tiles[t]).bnd ∧ ((d.tiles[t]).pocketBad = [] → (e.tiles[t]).pocketBad = [])
  replays : e.replayCount = d.replayCount

namespace Device.KeepsRun
variable {a b c d e : Device}

theorem refl (d : Device) : d.KeepsRun d := ⟨fun _ => ⟨rfl, rfl, rfl, rfl, id⟩, rfl⟩

theorem trans (h : a.KeepsRun b) (k : b.KeepsRun c) : a.KeepsRun c := by
  refine ⟨fun t => ?_, k.replays.trans h.replays⟩
  obtain ⟨hm, hp, hk, hb, hc⟩ := h.tile t
  obtain ⟨km, kp, kk, kb, kc⟩ := k.tile t
  exact ⟨km.trans hm, kp.trans hp, kk.trans hk, kb.trans hb, fun w => kc (hc w)⟩

/-- Where neither tiles nor the count of replays change. -/
theorem of_eq (ht : e.tiles = d.tiles) (hr : e.replayCount = d.replayCount) : d.KeepsRun e :=
  ⟨fun t => by rw [ht]; exact ⟨rfl, rfl, rfl, rfl, id⟩, hr⟩

/-- An edit of what does not run in a tile. -/
theorem modTile (d : Device) (t : TileNo) (f : Tile → Tile)
    (hf : ∀ x : Tile, (f x).mode = x.mode ∧ (f x).pc = x.pc ∧ (f x).tok = x.tok ∧ (f x).bnd = x.bnd ∧ (f x).pocketBad = x.pocketBad) :
    d.KeepsRun (d.modTile t f) := by
  refine ⟨fun v => ?_, rfl⟩
  by_cases h : v = t
  · subst h
    rw [modTile_get]
    obtain ⟨hm, hp, hk, hb, hc⟩ := hf d.tiles[v]
    exact ⟨hm, hp, hk, hb, fun w => hc.trans w⟩
  · rw [modTile_get_ne _ _ _ _ h]
    exact ⟨rfl, rfl, rfl, rfl, id⟩

end Device.KeepsRun

theorem Device.Told.replayCount {d e : Device} (h : d.Told e) : e.replayCount = d.replayCount := by rw [h.rest]

theorem notifyOf_keepsRun (d : Device) (o : Option PartNo) (t : TileNo) (w : Watch) (abandoned : Bool) (word : W64) :
    d.KeepsRun (d.notifyOf o t w abandoned word) := by
  have hsend : ∀ (e : Device) (p : PortNo) (hdr : W128) (l : List Byte) (cls : Bool), e.KeepsRun (e.sendOn p hdr l cls) :=
    fun _ _ _ _ _ => .of_eq ((count_told _ _ _ _ _).trans (traceRec_told _ _ _ _ _ _)).tiles
      ((count_told _ _ _ _ _).trans (traceRec_told _ _ _ _ _ _)).replayCount
  unfold Device.notifyOf
  dsimp only
  split
  · unfold Device.inject
    split
    · exact .of_eq rfl rfl
    · dsimp only
      split
      · exact hsend _ _ _ _ _
      · exact .of_eq rfl rfl
  · exact .modTile d _ _ (fun _ => ⟨rfl, rfl, rfl, rfl, rfl⟩)

/-- A watch registered on a clean pocket stops no tile. -/
theorem registerWatch_keepsRun (d : Device) (t : TileNo) (w : Watch) (by_ : Option (TileNo × Nat)) (h : (d.tiles[t]).pocketBad = []) :
    d.KeepsRun (d.registerWatch t w by_).2.2 := by
  unfold Device.registerWatch Device.judgeWatch
  rw [pocketRead_clean _ _ _ _ _ h]
  dsimp only
  rw [if_neg (by exact nofun)]
  split
  · exact notifyOf_keepsRun _ _ _ _ _ _
  · split
    · exact notifyOf_keepsRun _ _ _ _ _ _
    · split
      · dsimp only
        exact .modTile d t _ (fun _ => ⟨rfl, rfl, rfl, rfl, rfl⟩)
      · dsimp only
        exact .modTile d t _ (fun _ => ⟨rfl, rfl, rfl, rfl, rfl⟩)

theorem dropWatches_keepsRun (d : Device) (f : Watch → Bool) : d.KeepsRun (d.dropWatches f) := by
  refine ⟨fun t => ?_, rfl⟩
  unfold Device.dropWatches
  simp only [Fin.getElem_fin, Vector.getElem_map]
  exact ⟨trivial, trivial, trivial, trivial, id⟩

/-- Rings rewound on clean pockets stop no tile. -/
theorem rewindRing_keepsRun (d : Device) (r : GatherNo × Nat × Option Job) (h : ∀ t : TileNo, (d.tiles[t]).pocketBad = []) :
    d.KeepsRun (d.rewindRing r) := by
  have hdrop : ∀ (f : Watch → Bool) (g : Gather → Gather), d.KeepsRun ((d.dropWatches f).modGather r.1 g) :=
    fun f g => (dropWatches_keepsRun d f).trans (.of_eq rfl rfl)
  unfold Device.rewindRing
  dsimp only
  split
  · refine (hdrop _ _).trans (registerWatch_keepsRun _ _ _ _ ?_)
    exact ((hdrop _ _).tile _).2.2.2.2 (h _)
  · exact hdrop _ _

/-- A replay's rings rewound. -/
def Device.rewindRings (d : Device) (c : CtxNo) (l : List (GatherNo × Nat × Option Job)) : Device :=
  l.foldl (fun d r => if (d.gather[r.1]).ring.ctx = c then d.rewindRing r else d) d

theorem rewindRings_keepsRun (d : Device) (c : CtxNo) (l : List (GatherNo × Nat × Option Job))
    (h : ∀ t : TileNo, (d.tiles[t]).pocketBad = []) : d.KeepsRun (d.rewindRings c l) := by
  refine List.foldlRecOn (motive := fun e => d.KeepsRun e) l _ (.refl d) (fun e he r _ => ?_)
  split
  · exact he.trans (rewindRing_keepsRun e r (fun t => (he.tile t).2.2.2.2 (h t)))
  · exact he

/-- The channels of a context's tiles stopped, and its tiles restored from their records. -/
def Device.rewindTiles (d : Device) (c : CtxNo) : Device :=
  let d := d.stopChannels (fun y => y.ctx = c && (match y.origin with
    | .tile _ _ => true
    | _ => false))
  (d.kernelTiles c).foldl (fun d t => d.modTile t Tile.rewind) d

theorem rewind_of_record (x : Tile) (r : CommitRec) (h : x.record = some r) :
    x.rewind.mode = .running ∧ x.rewind.pc = r.pc ∧ x.rewind.tok = r.tok ∧ x.rewind.bnd = r.bnd := by
  unfold Tile.rewind
  rw [h]
  exact ⟨rfl, rfl, rfl, rfl⟩

theorem rewind_pocketBad (x : Tile) : x.rewind.pocketBad = x.pocketBad := by
  unfold Tile.rewind
  cases x.record <;> rfl

theorem rewindTiles_restores (d : Device) (c : CtxNo) (hclean : ∀ t : TileNo, (d.tiles[t]).pocketBad = []) :
    (∀ t : TileNo, ((d.rewindTiles c).tiles[t]).pocketBad = []) ∧ (d.rewindTiles c).replayCount = d.replayCount ∧
    ∀ t ∈ d.kernelTiles c, ∀ r, (d.tiles[t]).record = some r → ((d.rewindTiles c).tiles[t]).mode = .running ∧
      ((d.rewindTiles c).tiles[t]).pc = r.pc ∧ ((d.rewindTiles c).tiles[t]).tok = r.tok ∧ ((d.rewindTiles c).tiles[t]).bnd = r.bnd := by
  unfold Device.rewindTiles
  dsimp only
  generalize hstop : d.stopChannels _ = e
  have hwork : d.Worked e := by
    rw [← hstop]
    exact stopChannels_worked _ _
  have hkernel : e.kernelTiles c = d.kernelTiles c := by
    unfold Device.kernelTiles
    rw [hwork.ctxImage]
  have hcount : e.replayCount = d.replayCount := by rw [hwork.rest]
  rw [hkernel]
  refine ⟨fun t => ?_, ?_, fun t ht r hr => ?_⟩
  · refine List.foldlRecOn (motive := fun u : Device => (u.tiles[t]).pocketBad = []) _ _ (hwork.clean t (hclean t)) (fun u hu v _ => ?_)
    by_cases h : t = v
    · subst h
      rw [modTile_get, rewind_pocketBad]
      exact hu
    · rw [modTile_get_ne _ _ _ _ h]
      exact hu
  · exact List.foldlRecOn (motive := fun u : Device => u.replayCount = d.replayCount) _ _ hcount (fun _ hu _ _ => hu)
  · rw [foldl_modTile_get _ _ (nodup_kernelTiles d c) _ t ht]
    exact rewind_of_record _ r ((hwork.tileRecord t).trans hr)

theorem replayRestart_eq (d : Device) (c : CtxNo) (hup : d.up 6 = true) (hst : (d.ctxs[c]).st = .running)
    (hdue : (d.ctxs[c]).replayDue = true) : d.replayRestart c =
      { ((d.rewindTiles c).rewindRings c (d.ctxs[c]).ringRec).modCtx c (fun x =>
          { x with replayDue := false, replaying := true, replays := if x.replays = 255 then 255 else x.replays + 1 }) with
        replayCount := ((d.rewindTiles c).rewindRings c (d.ctxs[c]).ringRec).replayCount + 1 } := by
  unfold Device.replayRestart
  dsimp only
  rw [hup, hst, hdue]
  exact if_pos rfl

/-- Settles O28: the frames of reports, folds of reports and audits leave what each decision writes. -/
theorem commitReplayAudit : Obligations.CommitReplayAudit := by
  unfold Obligations.CommitReplayAudit
  intro s c p hl hp hst hin
  refine ⟨?_, ?_, ?_, ?_, ?_⟩
  · intro t hctx hnone
    exact ⟨_, onLive_live (fun d => d.residueReport (.tensor t)) s hl, residueReport_tensor s.dev t c hctx hst hnone⟩
  · intro hdue hunit hmiss hpair
    refine ⟨_, onLive_live (fun d => d.commitDecision c) s hl, ?_⟩
    dsimp only
    rw [commitDecision_ok s.dev c p hp hst hdue hunit hmiss hpair]
    exact commitOk_commits s.dev c
  · intro hdue hunit hfull hatt
    refine ⟨_, onLive_live (fun d => d.commitDecision c) s hl, ?_⟩
    have h := commitFail_replays s.dev p c hfull hatt
    simp only [Context.replayPart, Prod.mk.injEq] at h
    dsimp only
    rw [commitDecision_fails s.dev c p hp hdue hunit]
    exact h
  · intro hup hdue hclean
    refine ⟨_, onLive_live (fun d => d.replayRestart c) s hl, ?_⟩
    obtain ⟨hbad, hcount, hrestored⟩ := rewindTiles_restores s.dev c hclean
    have hrings := rewindRings_keepsRun (s.dev.rewindTiles c) c (s.dev.ctxs[c]).ringRec hbad
    dsimp only
    rw [replayRestart_eq s.dev c hup hst hdue]
    dsimp only
    rw [modCtx_get, modCtx_tiles, hrings.replays, hcount]
    refine ⟨rfl, rfl, rfl, fun t ht r hr => ?_⟩
    obtain ⟨hmode, hpc, htok, hbnd, -⟩ := hrings.tile t
    rw [hmode, hpc, htok, hbnd]
    exact hrestored t ht r hr
  · intro t htile hmet hmiss hat
    have hmeet : ∀ agree : Bool, s.dev.auditMeet c agree =
        if agree = true then s.dev.modCtx c (fun x => { x with met := true })
        else { s.dev.modCtx c (fun x => { x with auditMiss := true, lastSuspect := t }) with auditMiss := s.dev.auditMiss + 1 } := by
      intro agree
      unfold Device.auditMeet
      dsimp only
      rw [htile]
      dsimp only
      rw [hst, hin, hmet, hmiss, hat]
      exact if_pos rfl
    have hrun : ∀ agree : Bool, exec (.auditRendezvous c agree) s = .next { s with dev := s.dev.auditMeet c agree } :=
      fun agree => onLive_live (fun d => d.auditMeet c agree) s hl
    rw [hrun, hrun, hmeet, hmeet]
    exact ⟨rfl, rfl⟩

end Sys2Proof.Machine

/-! Stacked memory, peer repair and table-memory ports (R242, R286 to R295, R363, R382). -/

namespace Sys2Proof.Machine

/-! ### Scrubbing (R290) -/

/-- Memory and every stack's progress of the scrub are as they were. -/
structure Device.KeepsScrub (d e : Device) : Prop where
  hbm : e.hbm = d.hbm
  stack : ∀ k : StackNo, (e.hbmStacks[k]).scrubLine = (d.hbmStacks[k]).scrubLine ∧ (e.hbmStacks[k]).passes = (d.hbmStacks[k]).passes ∧
    (e.hbmStacks[k]).interval = (d.hbmStacks[k]).interval

namespace Device.KeepsScrub
variable {a b c d e : Device}

theorem of_eq (hh : e.hbm = d.hbm) (hs : e.hbmStacks = d.hbmStacks) : d.KeepsScrub e := ⟨hh, fun k => by rw [hs]; exact ⟨rfl, rfl, rfl⟩⟩

theorem refl (d : Device) : d.KeepsScrub d := of_eq rfl rfl

theorem trans (h : a.KeepsScrub b) (k : b.KeepsScrub c) : a.KeepsScrub c := by
  refine ⟨k.hbm.trans h.hbm, fun n => ?_⟩
  obtain ⟨h1, h2, h3⟩ := h.stack n
  obtain ⟨k1, k2, k3⟩ := k.stack n
  exact ⟨k1.trans h1, k2.trans h2, k3.trans h3⟩

theorem of_told (h : d.Told e) : d.KeepsScrub e := of_eq h.hbm (by rw [h.rest])

/-- Where one stack changes apart from its scrub. -/
theorem of_stack (n : StackNo) (f : Stack → Stack) (hh : e.hbm = d.hbm) (hs : e.hbmStacks = (d.modStack n f).hbmStacks)
    (hf : ∀ k, (f k).scrubLine = k.scrubLine ∧ (f k).passes = k.passes ∧ (f k).interval = k.interval) :
    d.KeepsScrub e := by
  refine ⟨hh, fun k => ?_⟩
  rw [hs]
  by_cases h : k = n
  · subst h
    rw [modStack_get]
    exact hf _
  · rw [modStack_get_ne _ _ _ _ h]
    exact ⟨rfl, rfl, rfl⟩

end Device.KeepsScrub

theorem startRemap_keepsScrub (d : Device) (page : Nat) : d.KeepsScrub (d.startRemap page) := by
  unfold Device.startRemap
  dsimp only
  split
  · exact .refl d
  · split
    · exact .of_eq rfl rfl
    · refine .trans ?_ (.of_told (report_told _ _ _ _ _ _))
      exact .of_stack (pageStack page) (fun k => { k with err := setBit k.err 18 true }) rfl rfl (fun _ => ⟨rfl, rfl, rfl⟩)

theorem countCe_keepsScrub (d : Device) (page line : Nat) : d.KeepsScrub (d.countCe page line) := by
  unfold Device.countCe
  dsimp only
  split
  · refine .trans ?_ (startRemap_keepsScrub _ _)
    exact .of_stack (pageStack page) (fun k => { k with err := satFld k.err 0 16 1, cntCorrected := k.cntCorrected + 1 }) rfl rfl
      (fun _ => ⟨rfl, rfl, rfl⟩)
  · exact .of_stack (pageStack page) (fun k => { k with err := satFld k.err 0 16 1, cntCorrected := k.cntCorrected + 1 }) rfl rfl
      (fun _ => ⟨rfl, rfl, rfl⟩)

theorem poisonLine_keepsScrub (d : Device) (page line : Nat) (scrub : Bool) : d.KeepsScrub (d.poisonLine page line scrub) :=
  .of_stack (pageStack page) (fun k =>
    let e := if bitOf k.err 16 || bitOf k.err 17 then k.err else setFld k.err 24 15 (pageIdx page)
    { k with err := setBit e (if scrub then 17 else 16) true, ueCount := k.ueCount + 1 }) rfl rfl
      (fun _ => ⟨rfl, rfl, rfl⟩)

theorem retirePage_keepsScrub (d : Device) (page : Nat) : d.KeepsScrub (d.retirePage page) := by
  unfold Device.retirePage
  dsimp only
  split
  · exact .refl d
  · split <;> exact .of_eq rfl rfl

/-- The copy of a page that met an error begins anew, or the page is to be remapped. -/
def Device.redoCopy (d : Device) (page : Nat) (copy : Option Remap) : Device :=
  match copy with
  | some r => { d with remaps := d.remaps.map (fun q => if q.new = r.new then { q with again := true } else q) }
  | none => d.startRemap page

theorem redoCopy_keepsScrub (d : Device) (page : Nat) (copy : Option Remap) : d.KeepsScrub (d.redoCopy page copy) := by
  cases copy with
  | some r => exact .of_eq rfl rfl
  | none => exact startRemap_keepsScrub d page

theorem scrubUe_eq (d : Device) (s : StackNo) (page line : Nat) : d.scrubUe s page line =
    (let e := d.poisonLine page line true
     let copy := e.remaps.find? (fun r => r.new = page)
     match e.pageOwner ((copy.map (·.old)).getD page) with
     | some b =>
       let addr := b.pno * pageSize + 64 * line
       ((e.report 0x0204 (some b.part) none s (pay4 addr (addr / 2 ^ 32) s.val (pageIdx page))).report 0x0301 (some b.part) none s
         (pay4 addr (addr / 2 ^ 32) s.val 0)).redoCopy page copy
     | none => if copy.isSome then e.redoCopy page copy else if e.pageKind page = .reserved then e else e.retirePage page) := rfl

theorem scrubUe_keepsScrub (d : Device) (s : StackNo) (page line : Nat) : d.KeepsScrub (d.scrubUe s page line) := by
  have hpoison := poisonLine_keepsScrub d page line true
  rw [scrubUe_eq]
  dsimp only
  split
  · exact ((hpoison.trans (.of_told (report_told _ _ _ _ _ _))).trans (.of_told (report_told _ _ _ _ _ _))).trans (redoCopy_keepsScrub _ _ _)
  · split
    · exact hpoison.trans (redoCopy_keepsScrub _ _ _)
    · split
      · exact hpoison
      · exact hpoison.trans (retirePage_keepsScrub _ _)

/-- The scrub of a stack moved on by a line (R290). -/
def Device.scrubOn (d : Device) (s : StackNo) : Device :=
  let last := (d.hbmStacks[s]).scrubLine + 1 = pagesPerStack * 32768
  d.modStack s (fun k => { k with scrubLine := if last then 0 else k.scrubLine + 1,
                                  interval := if k.scrubLine = 0 then d.cfg 0x4000 4 0 else k.interval,
                                  passes := if last then k.passes + 1 else k.passes })

/-- What a scrub read does about the line it meets. -/
def Device.scrubMeet (d : Device) (s : StackNo) (page line : Nat) : Device :=
  match alGet d.hbmBad (page * 32768 + line) with
  | some (.correctable _) => (d.countCe page line).hbmWriteback page (fin line)
  | some .uncorrectable => d.scrubUe s page line
  | _ => d

theorem scrubRead_eq (d : Device) (s : StackNo) (hst : (d.hbmStacks[s]).st = 1) (hup : d.up 5 = true) :
    d.scrubRead s = (d.scrubOn s).scrubMeet s (s.val * pagesPerStack + (d.hbmStacks[s]).scrubLine / 32768)
      ((d.hbmStacks[s]).scrubLine % 32768) := by
  unfold Device.scrubRead
  dsimp only
  rw [if_neg (by rw [hst, hup]; rintro (h | h) <;> exact absurd h (by decide))]
  rfl

theorem scrubMeet_keepsScrub (d : Device) (s : StackNo) (page line : Nat) : d.KeepsScrub (d.scrubMeet s page line) := by
  unfold Device.scrubMeet
  split
  · exact (countCe_keepsScrub _ _ _).trans (.of_eq rfl rfl)
  · exact scrubUe_keepsScrub _ _ _ _
  · exact .refl d

/-- A line whose error was corrected is written back: its correctable error is gone. -/
theorem scrubMeet_corrects (d : Device) (s : StackNo) (page line : Nat) (hline : line < 32768) (found : Bool)
    (h : alGet d.hbmBad (page * 32768 + line) = some (.correctable found)) :
    (page * 32768 + line, LineErr.correctable true) ∉ (d.scrubMeet s page line).hbmBad := by
  unfold Device.scrubMeet Device.hbmWriteback
  rw [h]
  simp [fin, Nat.mod_eq_of_lt hline]

theorem scrubRead_spec (d : Device) (k : StackNo) (hst : (d.hbmStacks[k]).st = 1) (hup : d.up 5 = true) :
    ((d.hbmStacks[k]).scrubLine = 0 → ((d.scrubRead k).hbmStacks[k]).interval = d.cfg 0x4000 4 0) ∧
    ((d.scrubRead k).hbmStacks[k]).scrubLine =
      (if (d.hbmStacks[k]).scrubLine + 1 = pagesPerStack * 32768 then 0 else (d.hbmStacks[k]).scrubLine + 1) ∧
    ((d.scrubRead k).hbmStacks[k]).passes =
      (if (d.hbmStacks[k]).scrubLine + 1 = pagesPerStack * 32768 then (d.hbmStacks[k]).passes + 1 else (d.hbmStacks[k]).passes) ∧
    (∀ found : Bool, alGet d.hbmBad (k.val * pagesPerStack * 32768 + (d.hbmStacks[k]).scrubLine) = some (.correctable found) →
      (k.val * pagesPerStack * 32768 + (d.hbmStacks[k]).scrubLine, LineErr.correctable true) ∉ (d.scrubRead k).hbmBad) ∧
    (d.scrubRead k).hbm = d.hbm := by
  have hline : (d.hbmStacks[k]).scrubLine % 32768 < 32768 := Nat.mod_lt _ (by decide)
  have hat : (k.val * pagesPerStack + (d.hbmStacks[k]).scrubLine / 32768) * 32768 + (d.hbmStacks[k]).scrubLine % 32768 =
      k.val * pagesPerStack * 32768 + (d.hbmStacks[k]).scrubLine := by
    generalize k.val * pagesPerStack = m
    omega
  have hon : (d.scrubOn k).hbmStacks[k] = _ := modStack_get _ _ _
  obtain ⟨hhbm, hstack⟩ := scrubMeet_keepsScrub (d.scrubOn k) k (k.val * pagesPerStack + (d.hbmStacks[k]).scrubLine / 32768)
    ((d.hbmStacks[k]).scrubLine % 32768)
  obtain ⟨hscrub, hpass, hint⟩ := hstack k
  have hfix := scrubMeet_corrects (d.scrubOn k) k (k.val * pagesPerStack + (d.hbmStacks[k]).scrubLine / 32768) _ hline
  rw [hat] at hfix
  rw [scrubRead_eq d k hst hup, hscrub, hpass, hint, hhbm, hon]
  exact ⟨fun h => if_pos h, rfl, rfl, fun found h => hfix found h, rfl⟩

/-! ### The end of a page copy (R293) -/

/-- The bindings of a page whose copy has ended name the new page. -/
def Device.renamed (d : Device) (r : Remap) : Device :=
  { d with remaps := d.remaps.erase r, pageCe := d.pageCe.filter (fun e => e.1 ≠ r.old),
           pages := d.pages.map (fun (b : Bound) => if b.phys = r.old then { b with phys := r.new } else b) }

/-- A page whose copy has ended leaves service. -/
def Device.copied (d : Device) (r : Remap) : Device :=
  if r.again then ((d.renamed r).retirePage r.old).startRemap r.new else (d.renamed r).retirePage r.old

theorem translationChanged_keeps (d : Device) (p : PartNo) : (d.translationChanged p).remaps = d.remaps ∧
    (d.translationChanged p).dueRetire = d.dueRetire ∧ (d.translationChanged p).retiredPages = d.retiredPages ∧
    (d.translationChanged p).pages = d.pages ∧ (d.translationChanged p).hbm = d.hbm := ⟨rfl, rfl, rfl, rfl, rfl⟩

theorem remapDone_eq (d : Device) (r : Remap) (rest : List Remap) (hr : d.remaps = r :: rest) (hptr : 32768 ≤ r.ptr)
    (hup : d.up 5 = true) : d.remapDone r.old = d.copied r ∨ ∃ p, d.remapDone r.old = (d.copied r).translationChanged p := by
  have hfind : d.remaps.find? (fun q => q.old = r.old) = some r := by
    rw [hr]
    exact List.find?_cons_of_pos (decide_eq_true rfl)
  unfold Device.remapDone
  rw [hfind]
  dsimp only
  rw [if_neg (by rw [hup]; rintro (h | h); exacts [absurd h (Nat.not_lt.mpr hptr), absurd h (by decide)])]
  split
  · next b _ => exact .inr ⟨b.part, rfl⟩
  · exact .inl rfl

theorem retirePage_keeps (d : Device) (page : Nat) : page ∈ (d.retirePage page).retiredPages ∧
    (d.retirePage page).remaps = d.remaps ∧ (d.retirePage page).dueRetire = d.dueRetire ∧ (d.retirePage page).pages = d.pages ∧
    (d.retirePage page).hbm = d.hbm := by
  have hin : page ∈ d.retiredPages ++ [page] := List.mem_append_right _ (List.mem_singleton.mpr rfl)
  unfold Device.retirePage
  dsimp only
  split
  · next h => exact ⟨h, rfl, rfl, rfl, rfl⟩
  · split <;> exact ⟨hin, rfl, rfl, rfl, rfl⟩

theorem Device.Told.dueRetire {d e : Device} (h : d.Told e) : e.dueRetire = d.dueRetire := by rw [h.rest]
theorem Device.Told.retiredPages {d e : Device} (h : d.Told e) : e.retiredPages = d.retiredPages := by rw [h.rest]
theorem Device.Told.pages {d e : Device} (h : d.Told e) : e.pages = d.pages := by rw [h.rest]

/-- A page to be remapped has its remap, or is retired when it is freed. -/
theorem startRemap_spec (d : Device) (page : Nat) : ((∃ q ∈ (d.startRemap page).remaps, q.old = page) ∨ page ∈ (d.startRemap page).dueRetire) ∧
    (d.startRemap page).retiredPages = d.retiredPages ∧ (d.startRemap page).pages = d.pages ∧ (d.startRemap page).hbm = d.hbm := by
  unfold Device.startRemap
  dsimp only
  split
  · next h =>
    rw [Bool.or_eq_true, decide_eq_true_eq] at h
    refine ⟨h.imp_left (fun h => ?_), rfl, rfl, rfl⟩
    obtain ⟨q, hq, hold⟩ := List.any_eq_true.mp h
    exact ⟨q, hq, of_decide_eq_true hold⟩
  · split
    · exact ⟨.inl ⟨_, List.mem_append_right _ (List.mem_singleton.mpr rfl), rfl⟩, rfl, rfl, rfl⟩
    · rw [(report_told _ _ _ _ _ _).dueRetire, (report_told _ _ _ _ _ _).retiredPages, (report_told _ _ _ _ _ _).pages,
        (report_told _ _ _ _ _ _).hbm]
      exact ⟨.inr (List.mem_append_right _ (List.mem_singleton.mpr rfl)), rfl, rfl, rfl⟩

theorem copied_spec (d : Device) (r : Remap) (rest : List Remap) (hr : d.remaps = r :: rest) :
    (r.again = false → (d.copied r).remaps = rest) ∧
    (r.again = true → (∃ q ∈ (d.copied r).remaps, q.old = r.new) ∨ r.new ∈ (d.copied r).dueRetire) ∧
    r.old ∈ (d.copied r).retiredPages ∧
    (d.copied r).pages = d.pages.map (fun b => if b.phys = r.old then { b with phys := r.new } else b) ∧ (d.copied r).hbm = d.hbm := by
  have hremaps : (d.renamed r).remaps = rest := by
    unfold Device.renamed
    rw [hr]
    exact List.erase_cons_head ..
  obtain ⟨hold, hrem, -, hpg, hmem⟩ := retirePage_keeps (d.renamed r) r.old
  unfold Device.copied
  split
  · next hagain =>
    obtain ⟨hnew, hret, hpg', hmem'⟩ := startRemap_spec ((d.renamed r).retirePage r.old) r.new
    refine ⟨fun h => absurd hagain (by rw [h]; exact Bool.false_ne_true), fun _ => hnew, ?_, ?_, ?_⟩
    · rw [hret]
      exact hold
    · rw [hpg', hpg]
      rfl
    · rw [hmem', hmem]
      rfl
  · next hagain => exact ⟨fun _ => hrem.trans hremaps, fun h => absurd h hagain, hold, hpg, hmem⟩

/-- Settles O32: counting, poisoning, remapping and reporting leave the memory and the scrub's progress alone. -/
theorem stackedMemoryEvents : Obligations.StackedMemoryEvents := by
  unfold Obligations.StackedMemoryEvents
  intro s hl
  refine ⟨fun page line => ?_, ?_, ?_⟩
  · exact onLive_live (fun d => d.hbmWriteback page line) s hl
  · intro k q n hst hup
    exact ⟨_, onLive_live (fun d => d.scrubRead k) s hl, scrubRead_spec s.dev k hst hup⟩
  · intro r rest hr hptr hup
    refine ⟨_, onLive_live (fun d => d.remapDone r.old) s hl, ?_⟩
    have hspec := copied_spec s.dev r rest hr
    dsimp only
    rcases remapDone_eq s.dev r rest hr hptr hup with h | ⟨p, h⟩
    · rw [h]
      exact hspec
    · obtain ⟨hrem, hdue, hret, hpg, hmem⟩ := translationChanged_keeps (s.dev.copied r) p
      rw [h, hrem, hdue, hret, hpg, hmem]
      exact hspec

end Sys2Proof.Machine

/-! Peer repair and table-memory ports (R242, R289, R363, R382). -/

namespace Sys2Proof.Machine

/-- A slice of what was read is what a read of the slice gives. -/
theorem Memory.drop_take_read (m : Memory) (a n i k : Nat) (h : i + k ≤ n) : ((m.read a n).drop i).take k = m.read (a + i) k := by
  apply List.ext_getElem
  · simp [Memory.read]
    omega
  · intro j _ _
    simp [Memory.read, Nat.add_assoc]

/-! ### Serving a peer -/

theorem repairAnswer_nil (d : Device) (p : PartNo) (k slot : Fin 16) (tag status : Nat) :
    d.repairAnswer p k slot tag status [] = d.repairAnswer p k slot tag status (List.replicate 64 0) := by
  unfold Device.repairAnswer
  simp

/-- What a peer's request for a line with a version is answered (R382). -/
def Device.serveRequest (d : Device) (p : PartNo) (k slot : Fin 16) (addr ver tag : Nat) : Device :=
  if d.repairVersion (d.parts[p]).repairs[k] = ver then
    if (d.hbmRead p addr 64 false).1.st = .ok then
      (d.hbmRead p addr 64 false).2.repairAnswer p k slot tag prOk (d.hbmRead p addr 64 false).1.bytes
    else (d.hbmRead p addr 64 false).2.repairAnswer p k slot tag prNone []
  else if d.repairVersion (d.parts[p]).repairs[k] > ver then d.repairAnswer p k slot tag prStale []
  else if (d.parts[p]).peerWaits.any (fun w => w.range = k && w.slot = slot) then d
  else d.modPart p (fun q => { q with peerWaits := q.peerWaits ++
    [{ range := k, slot := slot, addr := addr, version := ver, tag := tag, since := d.devTime }] })

/-- A request read from a clean mailbox slot is served. -/
theorem repairServe_eq (d : Device) (p : PartNo) (k slot : Fin 16) (t : TileNo) (a : Nat) (ht : ((d.parts[p]).repairs[k]).mailTile = t)
    (ha : ((d.parts[p]).repairs[k]).slotOff slot = a) (hon : ((d.parts[p]).repairs[k]).on = true)
    (htag : (d.tiles[t]).pocket.word (a + 16) 16 ≠ 0)
    (hserved : alGet (d.parts[p]).served (k, slot) ≠ some ((d.tiles[t]).pocket.word (a + 16) 16))
    (hclean : (d.tiles[t]).pocketBad = []) (hin : a + 32 ≤ claspBase) :
    d.repairServe p k slot =
      d.serveRequest p k slot ((d.tiles[t]).pocket.word a 8) ((d.tiles[t]).pocket.word (a + 8) 8) ((d.tiles[t]).pocket.word (a + 16) 16) := by
  have hread := meshRead_clean d t a 32 hclean hin
  have hword : ∀ i n : Nat, i + n ≤ 32 → leNat ((((d.tiles[t]).pocket.read a 32).drop i).take n) = (d.tiles[t]).pocket.word (a + i) n :=
    fun i n h => congrArg leNat (Memory.drop_take_read _ _ _ _ _ h)
  unfold Device.repairServe
  simp only [ht, ha, hon, hread, hword 0 8 (by decide), hword 8 8 (by decide), hword 16 16 (by decide), Nat.add_zero, Bool.not_true,
    Bool.false_eq_true, if_false, ne_eq, not_true_eq_false, htag, hserved, or_self]
  rfl

/-! ### Ends of a repair -/

/-- A request that finds its access still waiting faults the tile with POISON_READ (R289). -/
theorem faultTile_code (d : Device) (t : TileNo) (c : CtxNo) (code unit pcq detail : Nat) (hcode : code < 256) (hunit : unit < 8)
    (hc : (d.tiles[t]).ctx = some c) (hv : bitOf (d.tiles[t]).faultInfo 11 = false) :
    ((d.faultTile t code unit pcq detail).tiles[t]).mode = .faulted ∧
      fld ((d.faultTile t code unit pcq detail).tiles[t]).faultInfo 0 8 = code := by
  by_cases hm : (d.tiles[t]).mode = .faulted
  · unfold Device.faultTile
    dsimp only
    rw [hc]
    dsimp only
    rw [if_pos hm, modTile_get, hv]
    exact ⟨hm, (faultWord_code_valid _ _ _ _ _ hcode hunit).1⟩
  · exact faultTile_stops d t c code unit pcq detail hcode hunit hc hv hm

/-- A fault changes no partition and no memory. -/
theorem faultTile_keeps (d : Device) (t : TileNo) (code unit pcq detail : Nat) :
    (d.faultTile t code unit pcq detail).parts = d.parts ∧ (d.faultTile t code unit pcq detail).hbm = d.hbm := by
  have hask : ∀ (e : Device) (c : CtxNo) (cause : Cause), (e.askTeardown c cause).parts = e.parts := by
    intro e c cause
    unfold Device.askTeardown
    dsimp only
    split <;> rfl
  unfold Device.faultTile
  dsimp only
  split
  · exact ⟨rfl, rfl⟩
  · split
    · exact ⟨rfl, rfl⟩
    · exact ⟨hask _ _ _, (askTeardown_frame _ _ _).2.1⟩

/-- A repair of an access of a tile's engine that ends without the line. -/
theorem repairFailed_tile (d : Device) (p : PartNo) (r : RepairReq) (rest : List RepairReq) (t : TileNo) (e : Eng) (f : Flight) (c : CtxNo)
    (hreq : (d.parts[p]).repairReqs = r :: rest) (hwho : r.who = .tile t e) (hctx : (d.tiles[t]).ctx = some c)
    (hinfo : bitOf (d.tiles[t]).faultInfo 11 = false)
    (hf : ((d.tiles[t]).flight[e.idx]).find? (fun f => !f.performed && f.awaits != 0) = some f) :
    ((d.repairFailed p r).parts[p]).repairReqs = rest ∧ ((d.repairFailed p r).parts[p]).repairCount = (d.parts[p]).repairCount ∧
      (d.repairFailed p r).hbm = d.hbm ∧ ((d.repairFailed p r).tiles[t]).mode = .faulted ∧
      fld ((d.repairFailed p r).tiles[t]).faultInfo 0 8 = 0x0B := by
  have hrun : d.repairFailed p r = (d.modPart p (fun q => { q with repairReqs := q.repairReqs.erase r })).faultTile t fcPoisonRead
      (unitOf e) f.e.pcq (r.lineAddr / 2 ^ 24) := by
    unfold Device.repairFailed Device.poisonReader
    rw [hwho]
    dsimp only
    rw [modPart_tiles, hf]
    rfl
  obtain ⟨hparts, hhbm⟩ := faultTile_keeps (d.modPart p (fun q => { q with repairReqs := q.repairReqs.erase r })) t fcPoisonRead
    (unitOf e) f.e.pcq (r.lineAddr / 2 ^ 24)
  obtain ⟨hmode, hcode⟩ := faultTile_code (d.modPart p (fun q => { q with repairReqs := q.repairReqs.erase r })) t c fcPoisonRead
    (unitOf e) f.e.pcq (r.lineAddr / 2 ^ 24) (by decide) (unitOf_lt e) hctx hinfo
  rw [hrun, hparts, hhbm, modPart_get]
  refine ⟨?_, rfl, rfl, hmode, hcode⟩
  dsimp only
  rw [hreq, List.erase_cons_head]

/-- A whole line written where a page is bound. -/
theorem hbmWrite_line (d : Device) (p : PartNo) (addr page off : Nat) (bs : List Byte) (hlen : bs.length = 64) (hline : addr % 64 = 0)
    (htrans : d.transHbm p addr = some (page, off)) :
    (d.hbmWrite p addr bs false).2.hbm = d.hbm.write (page * pageSize + off) bs ∧ (d.hbmWrite p addr bs false).2.parts = d.parts ∧
      (d.hbmWrite p addr bs false).2.tiles = d.tiles := by
  have hpieces : linePieces addr 64 = [(addr, 64)] := by
    have hn : (addr + 64 + 63) / 64 - addr / 64 = 1 := by omega
    have hlo : max addr (64 * (addr / 64 + 0)) = addr := by omega
    have hhi : min (addr + 64) (64 * (addr / 64 + 0 + 1)) = addr + 64 := by omega
    unfold linePieces
    rw [if_neg (by decide), hn]
    simp only [List.range_one, List.map_cons, List.map_nil, hlo, hhi, Nat.add_sub_cancel_left]
  have hcount : ∀ n u : Nat, (d.count (some p) 0x041 u n).transHbm p addr = d.transHbm p addr := fun _ _ => rfl
  unfold Device.hbmWrite
  rw [hlen, hpieces, List.foldl_cons, List.foldl_nil]
  dsimp only
  rw [if_neg (by exact fun h => h rfl), hcount, htrans]
  dsimp only
  rw [if_pos rfl, Nat.sub_self, List.drop_zero, List.take_of_length_le (Nat.le_of_eq hlen)]
  exact ⟨rfl, rfl, rfl⟩

/-! ### Replies (R289, R382) -/

/-- The status in the mailbox slot of a repair. -/
def Device.replyStatus (d : Device) (p : PartNo) (r : RepairReq) : Nat :=
  (d.tiles[((d.parts[p]).repairs[r.range]).mailTile]).pocket.word (((d.parts[p]).repairs[r.range]).slotOff r.slot + 128) 8

/-- What an answered repair comes to. -/
def Device.replied (d : Device) (p : PartNo) (r : RepairReq) : Device :=
  let k := (d.parts[p]).repairs[r.range]
  let m := d.meshRead k.mailTile (k.slotOff r.slot + 64) 72
  let e := (m.2.pocketWrite k.mailTile (k.slotOff r.slot + 128) (leBytes 8 0) 7).2
  if m.1.st = .ok ∧ d.replyStatus p r = prOk then
    let e := (e.hbmWrite p r.lineAddr (m.1.bytes.take 64) false).2.modPart p (fun q =>
      { q with repairReqs := q.repairReqs.erase r, repairCount := q.repairCount + 1 })
    match r.who with
    | .mover m n => e.moveOn m n
    | _ => e
  else e.repairFailed p r

theorem repairReply_match (d : Device) (p : PartNo) : d.repairReply p =
    match (d.parts[p]).repairReqs.find? (fun r => d.replyStatus p r ≠ 0) with
    | none => d
    | some r => d.replied p r := rfl

/-- The first request is the one answered where its slot has a status. -/
theorem repairReply_head (d : Device) (p : PartNo) (r : RepairReq) (rest : List RepairReq) (hreq : (d.parts[p]).repairReqs = r :: rest)
    (hne : d.replyStatus p r ≠ 0) : d.repairReply p = d.replied p r := by
  rw [repairReply_match, hreq,
    List.find?_cons_of_pos (p := fun r => decide (d.replyStatus p r ≠ 0)) (decide_eq_true hne)]

section
variable (d : Device) (p : PartNo) (r : RepairReq) (t m : TileNo) (e : Eng) (a : Nat)
  (hwho : r.who = .tile t e) (hm : ((d.parts[p]).repairs[r.range]).mailTile = m)
  (ha : ((d.parts[p]).repairs[r.range]).slotOff r.slot + 64 = a) (hclean : (d.tiles[m]).pocketBad = []) (hin : a + 72 ≤ claspBase)
include hm ha

theorem replyStatus_eq : d.replyStatus p r = (d.tiles[m]).pocket.word (a + 64) 8 := by
  have hstatus : ((d.parts[p]).repairs[r.range]).slotOff r.slot + 128 = a + 64 := by omega
  unfold Device.replyStatus
  simp only [hm, hstatus]

include hwho hclean hin

/-- An answered repair of a tile's access. -/
theorem replied_tile : d.replied p r =
    if (d.tiles[m]).pocket.word (a + 64) 8 = prOk then
      ((d.modTile m (fun x => { x with pocket := x.pocket.write (a + 64) (leBytes 8 0) })).hbmWrite p r.lineAddr
        ((d.tiles[m]).pocket.read a 64) false).2.modPart p (fun q =>
          { q with repairReqs := q.repairReqs.erase r, repairCount := q.repairCount + 1 })
    else (d.modTile m (fun x => { x with pocket := x.pocket.write (a + 64) (leBytes 8 0) })).repairFailed p r := by
  have hline : ((d.tiles[m]).pocket.read a 72).take 64 = (d.tiles[m]).pocket.read a 64 :=
    Memory.drop_take_read _ a 72 0 64 (by decide)
  have hstatus : ((d.parts[p]).repairs[r.range]).slotOff r.slot + 128 = a + 64 := by omega
  have hread := meshRead_clean d m a 72 hclean hin
  have hwrite := pocketWrite_clean d m (a + 64) (leBytes 8 0) 7 hclean
  have hst := replyStatus_eq d p r m a hm ha
  unfold Device.replied
  simp only [hm, ha, hstatus, hread, hwrite, hline, hst, hwho, true_and]

end

/-- A reply with the line: it is written where the page is bound, and the repair is done. -/
theorem repairReply_ok (d : Device) (p : PartNo) (r : RepairReq) (rest : List RepairReq) (t m : TileNo) (e : Eng) (a page off : Nat)
    (hreq : (d.parts[p]).repairReqs = r :: rest) (hwho : r.who = .tile t e) (hm : ((d.parts[p]).repairs[r.range]).mailTile = m)
    (ha : ((d.parts[p]).repairs[r.range]).slotOff r.slot + 64 = a) (hclean : (d.tiles[m]).pocketBad = []) (hin : a + 72 ≤ claspBase)
    (hok : (d.tiles[m]).pocket.word (a + 64) 8 = prOk) (htrans : d.transHbm p r.lineAddr = some (page, off)) (hline : r.lineAddr % 64 = 0) :
    ((d.repairReply p).parts[p]).repairReqs = rest ∧ ((d.repairReply p).parts[p]).repairCount = (d.parts[p]).repairCount + 1 ∧
      (d.repairReply p).hbm = d.hbm.write (page * pageSize + off) ((d.tiles[m]).pocket.read a 64) ∧
      ((d.repairReply p).tiles[m]).pocket = (d.tiles[m]).pocket.write (a + 64) (leBytes 8 0) ∧
      ((d.repairReply p).tiles[t]).mode = (d.tiles[t]).mode := by
  have hrun := (repairReply_head d p r rest hreq (by rw [replyStatus_eq d p r m a hm ha, hok]; decide)).trans
    (replied_tile d p r t m e a hwho hm ha hclean hin)
  rw [if_pos hok] at hrun
  obtain ⟨hhbm, hparts, htiles⟩ := hbmWrite_line (d.modTile m (fun x => { x with pocket := x.pocket.write (a + 64) (leBytes 8 0) })) p
    r.lineAddr page off ((d.tiles[m]).pocket.read a 64) (by simp [Memory.read]) hline htrans
  rw [hrun, modPart_get, modPart_hbm, modPart_tiles, hhbm, hparts, htiles, modTile_get]
  refine ⟨?_, rfl, rfl, rfl, modTile_keeps (·.mode) d m t _ (fun _ => rfl)⟩
  change (d.parts[p]).repairReqs.erase r = rest
  rw [hreq, List.erase_cons_head]

/-- Any other reply: the access that waits faults. -/
theorem repairReply_bad (d : Device) (p : PartNo) (r : RepairReq) (rest : List RepairReq) (t m : TileNo) (e : Eng) (a : Nat) (f : Flight)
    (c : CtxNo) (hreq : (d.parts[p]).repairReqs = r :: rest) (hwho : r.who = .tile t e)
    (hm : ((d.parts[p]).repairs[r.range]).mailTile = m) (ha : ((d.parts[p]).repairs[r.range]).slotOff r.slot + 64 = a)
    (hclean : (d.tiles[m]).pocketBad = []) (hin : a + 72 ≤ claspBase)
    (hbad : (d.tiles[m]).pocket.word (a + 64) 8 = prStale ∨ (d.tiles[m]).pocket.word (a + 64) 8 = prNone) (hctx : (d.tiles[t]).ctx = some c)
    (hinfo : bitOf (d.tiles[t]).faultInfo 11 = false)
    (hf : ((d.tiles[t]).flight[e.idx]).find? (fun f => !f.performed && f.awaits != 0) = some f) :
    ((d.repairReply p).parts[p]).repairReqs = rest ∧ ((d.repairReply p).parts[p]).repairCount = (d.parts[p]).repairCount ∧
      (d.repairReply p).hbm = d.hbm ∧ ((d.repairReply p).tiles[t]).mode = .faulted ∧
      fld ((d.repairReply p).tiles[t]).faultInfo 0 8 = 0x0B := by
  have hne : (d.tiles[m]).pocket.word (a + 64) 8 ≠ 0 ∧ (d.tiles[m]).pocket.word (a + 64) 8 ≠ prOk := by
    rcases hbad with h | h <;> rw [h] <;> decide
  have hrun := (repairReply_head d p r rest hreq (by rw [replyStatus_eq d p r m a hm ha]; exact hne.1)).trans
    (replied_tile d p r t m e a hwho hm ha hclean hin)
  rw [if_neg hne.2] at hrun
  have hctx' := modTile_keeps (·.ctx) d m t (fun x => { x with pocket := x.pocket.write (a + 64) (leBytes 8 0) }) (fun _ => rfl)
  have hinfo' := modTile_keeps (·.faultInfo) d m t (fun x => { x with pocket := x.pocket.write (a + 64) (leBytes 8 0) }) (fun _ => rfl)
  have hflight' := modTile_keeps (·.flight) d m t (fun x => { x with pocket := x.pocket.write (a + 64) (leBytes 8 0) }) (fun _ => rfl)
  have hparts : (d.modTile m (fun x => { x with pocket := x.pocket.write (a + 64) (leBytes 8 0) })).parts = d.parts := modTile_parts ..
  have hhbm : (d.modTile m (fun x => { x with pocket := x.pocket.write (a + 64) (leBytes 8 0) })).hbm = d.hbm := modTile_hbm ..
  rw [hrun]
  generalize d.modTile m (fun x => { x with pocket := x.pocket.write (a + 64) (leBytes 8 0) }) = u at hctx' hinfo' hflight' hparts hhbm ⊢
  have h := repairFailed_tile u p r rest t e f c (by rw [hparts]; exact hreq) hwho (hctx'.trans hctx) (by rw [hinfo']; exact hinfo)
    (by rw [hflight']; exact hf)
  rw [hparts, hhbm] at h
  exact h

/-- What the mailbox slot asks for, answered by this device's version of the line (R382). -/
theorem serveRequest_match (d : Device) (p : PartNo) (k slot : Fin 16) (addr ver tag : Nat)
    (hver : ver = d.repairVersion (d.parts[p]).repairs[k]) :
    d.serveRequest p k slot addr ver tag =
      if (d.hbmRead p addr 64 false).1.st = .ok then
        (d.hbmRead p addr 64 false).2.repairAnswer p k slot tag prOk (d.hbmRead p addr 64 false).1.bytes
      else (d.hbmRead p addr 64 false).2.repairAnswer p k slot tag prNone [] := by
  unfold Device.serveRequest
  rw [if_pos hver.symm]

theorem serveRequest_stale (d : Device) (p : PartNo) (k slot : Fin 16) (addr ver tag : Nat)
    (hver : ver < d.repairVersion (d.parts[p]).repairs[k]) :
    d.serveRequest p k slot addr ver tag = d.repairAnswer p k slot tag prStale [] := by
  unfold Device.serveRequest
  rw [if_neg (Nat.ne_of_gt hver), if_pos hver]

theorem serveRequest_waits (d : Device) (p : PartNo) (k slot : Fin 16) (addr ver tag : Nat)
    (hwait : ∀ w ∈ (d.parts[p]).peerWaits, ¬ (w.range = k ∧ w.slot = slot)) (hver : d.repairVersion (d.parts[p]).repairs[k] < ver) :
    d.serveRequest p k slot addr ver tag = d.modPart p (fun q => { q with peerWaits := q.peerWaits ++
      [{ range := k, slot := slot, addr := addr, version := ver, tag := tag, since := d.devTime }] }) := by
  unfold Device.serveRequest
  rw [if_neg (Nat.ne_of_lt hver), if_neg (Nat.not_lt.mpr (Nat.le_of_lt hver)), if_neg]
  intro hany
  obtain ⟨w, hw, hboth⟩ := List.any_eq_true.mp hany
  rw [Bool.and_eq_true, decide_eq_true_eq, decide_eq_true_eq] at hboth
  exact hwait w hw hboth

/-- Settles O33: each answer is read off the mailbox slot, and what is written is a packet, a line or a fault. -/
theorem peerRepair : Obligations.PeerRepair := by
  unfold Obligations.PeerRepair
  intro s p hl answered
  refine ⟨?_, ?_, ?_, ?_⟩
  · intro k slot r m addr ver tag hon htag hserved hclean hin
    have hserve := repairServe_eq s.dev p k slot r.mailTile (r.slotOff slot) rfl rfl hon htag hserved hclean hin
    have hrun : exec (.peerRepairServe p k slot) s = .next { s with dev := s.dev.serveRequest p k slot addr ver tag } := by
      change onLive (fun d => d.repairServe p k slot) s = _
      rw [onLive_live _ _ hl, hserve]
    rw [hrun]
    refine ⟨fun hver g d hg => ?_, fun hver => ?_, fun hver hwait => ?_⟩
    · rw [serveRequest_match s.dev p k slot addr ver tag hver, hg]
      rfl
    · rw [serveRequest_stale s.dev p k slot addr ver tag hver]
      rfl
    · rw [serveRequest_waits s.dev p k slot addr ver tag hwait hver]
  · intro w rest hwaits hsince
    change onLive (fun d => d.versionExpiry p) s = _
    rw [onLive_live _ _ hl]
    unfold Device.versionExpiry
    rw [hwaits, List.find?_cons_of_pos (p := fun (w : PeerWait) => decide (s.dev.since w.since ≥ 1000000)) (decide_eq_true hsince)]
    rfl
  · intro r rest t e hreq hwho k y a hclean hin
    refine ⟨fun page off hok htrans hline => ?_, fun f c hbad hctx hinfo hf => ?_⟩
    · exact ⟨_, onLive_live (fun d => d.repairReply p) s hl,
        repairReply_ok s.dev p r rest t k.mailTile e a page off hreq hwho rfl rfl hclean hin hok htrans hline⟩
    · exact ⟨_, onLive_live (fun d => d.repairReply p) s hl,
        repairReply_bad s.dev p r rest t k.mailTile e a f c hreq hwho rfl rfl hclean hin hbad hctx hinfo hf⟩
  · intro r rest t e f c hreq hwho hsince hctx hinfo hf
    refine ⟨_, onLive_live (fun d => d.repairTimeout p) s hl, ?_⟩
    have hrun : s.dev.repairTimeout p = s.dev.repairFailed p r := by
      unfold Device.repairTimeout Device.overdue
      rw [hreq, List.find?_cons_of_pos (p := fun (r : RepairReq) => decide (s.dev.since r.sentAt ≥ reqLimit)) (decide_eq_true hsince)]
    obtain ⟨hreqs, -, -, hmode, hcode⟩ := repairFailed_tile s.dev p r rest t e f c hreq hwho hctx hinfo hf
    dsimp only
    rw [hrun]
    exact ⟨hreqs, hmode, hcode⟩

end Sys2Proof.Machine

/-! Table-memory ports (R242, R243, R363). -/

namespace Sys2Proof.Machine

/-! ### Ends of gather jobs (R238, R239) -/

theorem usePort_worked (d : Device) (g : GatherNo) (p : PartNo) (addr : Nat) : d.Worked (d.usePort g p addr) := by
  unfold Device.usePort
  split
  · exact modJob_worked _ _ _
  · exact .refl d

theorem tmemWrite_worked (d : Device) (p : PartNo) (addr : Nat) (bs : List Byte) : d.Worked (d.tmemWrite p addr bs).2 := by
  unfold Device.tmemWrite
  split
  · exact .refl d
  · split
    · exact .refl d
    · split
      · exact .refl d
      · dsimp only
        refine ⟨rfl, fun _ => rfl, fun _ => rfl, fun _ => .inl rfl, fun _ _ => rfl, fun _ => id, fun _ => rfl, fun w => ?_⟩
        obtain ⟨hhbm, htmem, hrest⟩ := w
        refine ⟨hhbm, ?_, hrest⟩
        refine List.foldlRecOn (motive := fun m => Memory.wf m = true) _ _ htmem (fun m hm a _ => ?_)
        split
        · exact Memory.wf_put _ _ hm
        · exact hm

theorem cacheUpdate_worked (d : Device) (p : PartNo) (space addr : Nat) (bs : List Byte) : d.Worked (d.cacheUpdate p space addr bs) :=
  ⟨rfl, fun _ => rfl, fun _ => rfl, fun _ => .inl rfl, fun _ _ => rfl, fun _ => id, fun _ => rfl, id⟩

theorem gatherWrite_worked (d : Device) (g : GatherNo) (p : PartNo) (space addr : Nat) (bs : List Byte) :
    d.Worked (d.gatherWrite g p space addr bs).2 := by
  have hwrite : ∀ r : Got × Device, d.Worked r.2 → d.Worked
      (if r.1.st = .ok then ((none : Option GStop), r.2.cacheUpdate p space addr bs) else (some (r.2.rowStop p space addr r.1), r.2)).2 := by
    intro r h
    split
    · exact h.trans (cacheUpdate_worked _ _ _ _ _)
    · exact h
  unfold Device.gatherWrite
  refine hwrite _ ?_
  split
  · exact hbmWrite_worked _ _ _ _ _
  · exact (usePort_worked _ _ _ _).trans (tmemWrite_worked _ _ _ _)

theorem gatherOp_worked (d : Device) (g : GatherNo) (t : TileNo) (n v : Nat) : d.Worked (d.gatherOp g t n v).2 := by
  unfold Device.gatherOp
  dsimp only
  split
  · exact .of_touched (claspFrom_touched _ _ _ _ _ _ _ _ _ _ _ _)
  · exact .of_touched (claspSend_touched _ _ _ _ _ _ _ _ _)

/-- The ring moves on past a job that has ended. -/
def Device.ringOn (d : Device) (g : GatherNo) (q : Gather) (j : Job) : Device :=
  let d := d.modGather g (fun q =>
    { q with job := none, ring := { q.ring with next := q.ring.next + 1, st := if q.ring.st = 2 then 0 else q.ring.st } })
  let d := if 1 ≤ j.status ∧ j.status ≤ 5 then d.askTeardown q.ring.ctx (.gather (BitVec.ofNat 8 j.status)) else d
  if q.ring.st = 1 then d.ringWatch g else d

theorem ringOn_worked (d : Device) (g : GatherNo) (q : Gather) (j : Job) : d.Worked (d.ringOn g q j) := by
  unfold Device.ringOn
  dsimp only
  refine .trans ?_ (worked_ite _ (fun _ => ringWatch_worked _ _) (fun _ => .refl _))
  exact worked_ite _ (fun _ => (modGather_worked _ _ _).trans (.of_touched (askTeardown_touched _ _ _)))
    (fun _ => modGather_worked _ _ _)

/-- A job whose completion word is written: its done operation, then its tail. -/
def Device.jobTail (d : Device) (g : GatherNo) (q : Gather) (j : Job) : Device :=
  let r := q.ring
  let d := d.modJob g (fun j => { j with stage := max 1 j.stage, waitSince := none })
  let doneOp := j.stage ≠ 2 && gDval j.d ≠ 0 && j.status ≠ gsCancelled && j.status ≠ gsTmemFail && decide (gDclasp j.d < 48) &&
    d.owns r.part (gCtile j.d).val
  let a := if doneOp then d.gatherOp g (gCtile j.d) (gDclasp j.d) (gDval j.d) else (.word 0, d)
  match a.1 with
  | .diverged => a.2
  | .waits => a.2
  | _ =>
    let b := (a.2.modJob g (fun j => { j with stage := 2 })).gatherOp g r.tile r.tail 1
    match b.1 with
    | .diverged => b.2
    | .waits => b.2
    | _ => b.2.ringOn g q j

theorem jobTail_worked (d : Device) (g : GatherNo) (q : Gather) (j : Job) : d.Worked (d.jobTail g q j) := by
  unfold Device.jobTail
  have hjob := modJob_worked d g (fun j => { j with stage := max 1 j.stage, waitSince := none })
  generalize d.modJob g (fun j => { j with stage := max 1 j.stage, waitSince := none }) = e at hjob ⊢
  have htail : ∀ a : ClRes × Device, d.Worked a.2 → d.Worked (match a.1 with
      | .diverged => a.2
      | .waits => a.2
      | _ =>
        let b := (a.2.modJob g (fun j => { j with stage := 2 })).gatherOp g q.ring.tile q.ring.tail 1
        match b.1 with
        | .diverged => b.2
        | .waits => b.2
        | _ => b.2.ringOn g q j) := by
    intro a h
    have hb := (h.trans (modJob_worked a.2 g (fun j => { j with stage := 2 }))).trans (gatherOp_worked _ g q.ring.tile q.ring.tail 1)
    split
    · exact h
    · exact h
    · dsimp only
      split
      · exact hb
      · exact hb
      · exact hb.trans (ringOn_worked _ _ _ _)
  refine htail _ ?_
  split
  · exact hjob.trans (gatherOp_worked _ _ _ _ _)
  · exact hjob

theorem gatherJobEnd_eq (d : Device) (g : GatherNo) : d.gatherJobEnd g =
    match (d.gather[g]).job with
    | none => d
    | some j =>
      if !j.done || decide (j.released < j.groupsDue) then d
      else
        let w := if j.skip || j.stage ≠ 0 then (none, d)
          else d.gatherWrite g (d.gather[g]).ring.part 2 (j.addr + 120) (leBytes 8 j.cmpl.toNat)
        match w.1 with
        | some s => w.2.stopJob g s
        | none => w.2.jobTail g d.gather[g] j := rfl

theorem gatherJobEnd_worked (d : Device) (g : GatherNo) : d.Worked (d.gatherJobEnd g) := by
  rw [gatherJobEnd_eq]
  split
  · exact .refl d
  · next j _ =>
    split
    · exact .refl d
    · have hend : ∀ w : Option GStop × Device, d.Worked w.2 → d.Worked (match w.1 with
          | some s => w.2.stopJob g s
          | none => w.2.jobTail g d.gather[g] j) := by
        intro w h
        split
        · exact h.trans (stopJob_worked _ _ _)
        · exact h.trans (jobTail_worked _ _ _ _)
      refine hend _ ?_
      split
      · exact .refl d
      · exact gatherWrite_worked _ _ _ _ _ _

theorem tmemEndJob_worked (d : Device) (g : GatherNo) : d.Worked (d.tmemEndJob g) := by
  unfold Device.tmemEndJob
  split
  · split
    · exact gatherJobEnd_worked _ _
    · exact (modJob_worked _ _ _).trans (gatherJobEnd_worked _ _)
  · exact .refl d

/-! ### Failure of a port (R243, R363) -/

/-- Work keeps a context torn down so, and a running one running or torn down. -/
theorem Device.Worked.tearing {d e : Device} (h : d.Worked e) (c : CtxNo) (hst : (d.ctxs[c]).st = .tearing) : (e.ctxs[c]).st = .tearing := by
  rcases h.st c with hk | ⟨hk, -⟩
  · exact hk.trans hst
  · exact hk

theorem Device.Worked.runningOrTearing {d e : Device} (h : d.Worked e) (c : CtxNo)
    (hst : (d.ctxs[c]).st = .running ∨ (d.ctxs[c]).st = .tearing) : (e.ctxs[c]).st = .running ∨ (e.ctxs[c]).st = .tearing := by
  rcases h.st c with hk | ⟨hk, -⟩
  · rw [hk]
    exact hst
  · exact .inr hk

/-- A running context asked to be torn down is; one torn down stays so. -/
theorem askTeardown_tearing (d : Device) (c : CtxNo) (cause : Cause) (h : (d.ctxs[c]).st = .running ∨ (d.ctxs[c]).st = .tearing) :
    ((d.askTeardown c cause).ctxs[c]).st = .tearing := by
  rcases h with h | h
  · rw [askTeardown_running d c cause h]
  · exact (Device.Worked.of_touched (askTeardown_touched d c cause)).tearing c h

/-- Contexts asked to be torn down one after another. -/
theorem foldl_askTeardown_tearing (cause : Cause) (l : List CtxNo) (d : Device) (c : CtxNo) (hc : c ∈ l)
    (h : (d.ctxs[c]).st = .running ∨ (d.ctxs[c]).st = .tearing) :
    ((l.foldl (fun d c => d.askTeardown c cause) d).ctxs[c]).st = .tearing := by
  have hfold : ∀ (l : List CtxNo) (d : Device), d.Worked (l.foldl (fun d c => d.askTeardown c cause) d) :=
    fun l d => foldl_worked _ (fun d c => .of_touched (askTeardown_touched d c cause)) l d
  induction l generalizing d with
  | nil => exact absurd hc List.not_mem_nil
  | cons a l ih =>
    by_cases hca : c = a
    · subst hca
      exact (hfold l _).tearing c (askTeardown_tearing d c cause h)
    · refine ih (d.askTeardown a cause) ((List.mem_cons.mp hc).resolve_left hca) ?_
      exact (Device.Worked.of_touched (askTeardown_touched d a cause)).runningOrTearing c h

/-- A partition reset tears its contexts down (R363). -/
theorem resetPartition_tearing (d : Device) (p : PartNo) (cause : RCause) (c : CtxNo) (hp : (d.ctxs[c]).part = some p)
    (h : (d.ctxs[c]).st = .running ∨ (d.ctxs[c]).st = .tearing) : ((d.resetPartition p cause).ctxs[c]).st = .tearing := by
  have hin : c ∈ d.partCtxs p := List.mem_filter.mpr ⟨List.mem_finRange c, decide_eq_true hp⟩
  have hask := foldl_askTeardown_tearing (if cause = .flr then .flr else .partitionReset) (d.partCtxs p) d c hin h
  unfold Device.resetPartition
  dsimp only
  generalize (d.partCtxs p).foldl (fun d c => d.askTeardown c (if cause = .flr then .flr else .partitionReset)) d = e at hask ⊢
  refine Device.Worked.tearing ?_ c hask
  refine .trans ?_ (report_worked _ _ _ _ _ _)
  refine .trans ?_ (resetColl_worked _ _)
  refine .trans (.trans ?_ (rowCacheInv_worked _ _)) (collAbort_worked _ _ _ _ _)
  refine .trans ?_ (foldl_worked _ (fun d n => worked_ite _ (fun _ => resetBulk_worked d n) (fun _ => .refl d)) _ _)
  exact foldl_worked _ (fun d g => worked_ite _ (fun _ => resetGather_worked d g) (fun _ => .refl d)) _ _

/-- Partitions reset one after another. -/
theorem foldl_resetPartition_tearing (l : List PartNo) (d : Device) (p : PartNo) (c : CtxNo) (hpl : p ∈ l)
    (hp : (d.ctxs[c]).part = some p) (h : (d.ctxs[c]).st = .running ∨ (d.ctxs[c]).st = .tearing) :
    ((l.foldl (fun d p => d.resetPartition p .tmemFail) d).ctxs[c]).st = .tearing := by
  have hfold : ∀ (l : List PartNo) (d : Device), d.Worked (l.foldl (fun d p => d.resetPartition p .tmemFail) d) :=
    fun l d => foldl_worked _ (fun d p => resetPartition_worked d p _) l d
  induction l generalizing d with
  | nil => exact absurd hpl List.not_mem_nil
  | cons a l ih =>
    rw [List.foldl_cons]
    by_cases hpa : p = a
    · subst hpa
      exact (hfold l _).tearing c (resetPartition_tearing d p _ c hp h)
    · refine ih (d.resetPartition a .tmemFail) ((List.mem_cons.mp hpl).resolve_left hpa) ?_ ?_
      · exact ((resetPartition_worked d a _).ctxPart c).trans hp
      · exact (resetPartition_worked d a _).runningOrTearing c h

theorem Device.Worked.tmem {d e : Device} (h : d.Worked e) : e.tmem = d.tmem := by rw [h.rest]

/-- A port that fails: its jobs end, and the partitions with memory on it are reset. -/
theorem tmemFail_spec (d : Device) (n : TmemNo) (hst : (d.tmem[n]).st = 2) : ((d.tmemFail n).tmem[n]).st = 3 ∧
    ∀ (p : PartNo) (c : CtxNo), p ∈ d.tmemHolders n → (d.ctxs[c]).part = some p → (d.ctxs[c]).st = .running →
      ((d.tmemFail n).ctxs[c]).st = .tearing := by
  have hjobs : (d.modTmem n (fun k => { k with st := 3 })).Worked ((List.finRange 16).foldl (fun (d : Device) g =>
      if d.jobOnPort g n then d.tmemEndJob g else d) (d.modTmem n (fun k => { k with st := 3 }))) :=
    foldl_worked _ (fun d g => worked_ite _ (fun _ => tmemEndJob_worked d g) (fun _ => .refl d)) _ _
  have hdown : ((d.modTmem n (fun k => { k with st := 3 })).tmem[n]).st = 3 := by rw [modTmem_get]
  unfold Device.tmemFail
  dsimp only
  rw [if_neg (by rw [hst]; decide)]
  generalize (List.finRange 16).foldl (fun (d : Device) g => if d.jobOnPort g n then d.tmemEndJob g else d)
    (d.modTmem n (fun k => { k with st := 3 })) = e at hjobs ⊢
  generalize d.tmemHolders n = l
  have hparts : e.Worked (l.foldl (fun d p => d.resetPartition p .tmemFail) e) :=
    foldl_worked _ (fun d p => resetPartition_worked d p _) _ _
  refine ⟨?_, fun p c hp hpart hrun => ?_⟩
  · rw [hparts.tmem, hjobs.tmem]
    exact hdown
  · exact foldl_resetPartition_tearing l e p c hp ((hjobs.ctxPart c).trans hpart) (hjobs.runningOrTearing c (.inl hrun))

/-- Settles O34: the ends of jobs touch no port and no place of a context, and a reset tears every context of its partition down. -/
theorem tableMemoryPorts : Obligations.TableMemoryPorts := by
  unfold Obligations.TableMemoryPorts
  intro s n hl
  refine ⟨fun gib w r hon hst => ?_, fun hst => ?_⟩
  · change onLive (fun d => d.tmemTrained n gib.val w r) s = _
    rw [onLive_live _ _ hl]
    unfold Device.tmemTrained
    rw [hon, hst]
    rfl
  · exact ⟨_, onLive_live (fun d => d.tmemFail n) s hl, tmemFail_spec s.dev n hst⟩

end Sys2Proof.Machine

/-! The dictionary agent (R427 to R437): what a request, its answer and a commit change beside the record they are for. -/

namespace Sys2Proof.Machine

/-! ### Lists of pairs -/

theorem alGet_alSet_self {κ α : Type} [DecidableEq κ] (l : List (κ × α)) (k : κ) (a : α) : alGet (alSet l k a) k = some a := by
  simp [alGet, alSet]

theorem alGet_alSet_ne {κ α : Type} [DecidableEq κ] (l : List (κ × α)) {k j : κ} (a : α) (h : j ≠ k) :
    alGet (alSet l k a) j = alGet l j := by
  unfold alGet alSet
  rw [List.find?_cons_of_neg (by simpa using h.symm), List.find?_filter]
  congr 1
  refine congrArg (fun q => List.find? q l) (funext fun p => ?_)
  by_cases hp : p.1 = j
  · simp [hp, h]
  · simp [hp]

/-! ### Sessions -/

theorem session_modSession (d : Device) (ses : SessId) (f : Session → Session) : (d.modSession ses f).session ses = f (d.session ses) := by
  unfold Device.session Device.modSession
  rw [alGet_alSet_self, Option.getD_some]
  rfl

theorem session_modSession_ne (d : Device) {a b : SessId} (f : Session → Session) (h : b ≠ a) :
    (d.modSession a f).session b = d.session b := by
  unfold Device.session Device.modSession
  rw [alGet_alSet_ne _ _ h]

/-- `e` is `d` but for its sessions, and session `ses` has the same scope and peer. -/
structure Device.SameRights (ses : SessId) (d e : Device) : Prop where
  rest : e = { d with sessions := e.sessions }
  owner : (e.session ses).owner = (d.session ses).owner
  peerOk : (e.session ses).peerOk = (d.session ses).peerOk

/-- The session also stages the same. -/
structure Device.SameAgent (ses : SessId) (d e : Device) : Prop extends Device.SameRights ses d e where
  staged : (e.session ses).staged = (d.session ses).staged
  blob : (e.session ses).stagedBlob = (d.session ses).stagedBlob
  expired : (e.session ses).expired = (d.session ses).expired
  at_ : (e.session ses).stagedAt = (d.session ses).stagedAt

namespace Device.SameRights
variable {ses : SessId} {a b c d e : Device}

theorem trans (h : a.SameRights ses b) (k : b.SameRights ses c) : a.SameRights ses c where
  rest := by rw [k.rest, h.rest]
  owner := k.owner.trans h.owner
  peerOk := k.peerOk.trans h.peerOk

theorem of_modSession (d : Device) (ses : SessId) (f : Session → Session)
    (hf : ∀ x : Session, (f x).owner = x.owner ∧ (f x).peerOk = x.peerOk) : d.SameRights ses (d.modSession ses f) :=
  ⟨rfl, by rw [session_modSession, (hf _).1], by rw [session_modSession, (hf _).2]⟩

variable (h : d.SameRights ses e)
include h

theorem ownerSes : e.ownerSes ses = d.ownerSes ses := by
  cases ses with
  | pf0 => rfl
  | vf _ => rfl
  | i3c _ => exact h.owner
  | eth _ => exact h.owner

theorem reaches (o : Obj) (item : Nat) (write : Bool) : e.reaches ses o item write = d.reaches ses o item write := by
  have hb : ∀ p base item, e.belongs p base item = d.belongs p base item := by rw [h.rest]; exact fun _ _ _ => rfl
  unfold Device.reaches
  rw [h.ownerSes]
  simp only [hb]

theorem openness (base : Nat) : e.openness ses base = d.openness ses base := by
  have hu : e.up = d.up := by rw [h.rest]; rfl
  have hr : e.rst = d.rst := by rw [h.rest]
  unfold Device.openness
  rw [h.peerOk, hu, hr]

end Device.SameRights

namespace Device.SameAgent
variable {ses : SessId} {a b d e : Device}

theorem trans {a b c : Device} (h : a.SameAgent ses b) (k : b.SameAgent ses c) : a.SameAgent ses c where
  toSameRights := h.toSameRights.trans k.toSameRights
  staged := k.staged.trans h.staged
  blob := k.blob.trans h.blob
  expired := k.expired.trans h.expired
  at_ := k.at_.trans h.at_

/-- An edit of the session that keeps what the agent looks at. -/
theorem of_modSession (d : Device) (ses : SessId) (f : Session → Session)
    (hf : ∀ x : Session, f x = { x with segs := (f x).segs, lastMsg := (f x).lastMsg, resp := (f x).resp }) :
    d.SameAgent ses (d.modSession ses f) := by
  have hs := (session_modSession d ses f).trans (hf _)
  exact ⟨⟨rfl, by rw [hs], by rw [hs]⟩, by rw [hs], by rw [hs], by rw [hs], by rw [hs]⟩

theorem field (h : d.SameAgent ses e) (index base item sub : Nat) :
    e.field ses index base item sub = d.field ses index base item sub := by
  have hc : e.cfg = d.cfg := by rw [h.rest]; rfl
  have hv : e.value = d.value := by rw [h.rest]; rfl
  unfold Device.field Device.selected
  rw [h.staged, hc, hv]

end Device.SameAgent

/-! ### The answer (R430, R437) -/

/-- `e` is `d` with an answer given: sessions, mailboxes, and the vector of a function's message. -/
structure Device.Replied (d e : Device) : Prop where
  rest : e = { d with sessions := e.sessions, mbx := e.mbx, devMsix := e.devMsix, parts := e.parts }
  part : ∀ p : PartNo, e.parts[p] = { d.parts[p] with msix := (e.parts[p]).msix }

namespace Device.Replied
variable {a b c d e : Device}

theorem refl (d : Device) : d.Replied d := ⟨rfl, fun _ => rfl⟩

theorem trans (h : a.Replied b) (k : b.Replied c) : a.Replied c where
  rest := by rw [k.rest, h.rest]
  part p := by rw [k.part p, h.part p]

variable (h : d.Replied e)
include h

theorem ctxs : e.ctxs = d.ctxs := by rw [h.rest]
theorem tiles : e.tiles = d.tiles := by rw [h.rest]
theorem rst : e.rst = d.rst := by rw [h.rest]
theorem live : e.live = d.live := by rw [h.rest]; rfl

end Device.Replied

theorem modSession_replied (d : Device) (ses : SessId) (f : Session → Session) : d.Replied (d.modSession ses f) := ⟨rfl, fun _ => rfl⟩

theorem signal_replied (d : Device) (f : Fn) (v : Nat) : d.Replied (d.signal f v) := by
  cases f with
  | pf0 =>
    unfold Device.signal
    dsimp only
    split
    · exact ⟨rfl, fun _ => rfl⟩
    · exact .refl d
  | vf p =>
    unfold Device.signal
    dsimp only
    split
    · refine ⟨rfl, fun q => ?_⟩
      by_cases hq : q = p
      · subst hq
        rw [modPart_get]
      · rw [modPart_get_ne _ _ _ _ hq]
    · exact .refl d

theorem signal_sessions (d : Device) (f : Fn) (v : Nat) : (d.signal f v).sessions = d.sessions := by
  cases f with
  | pf0 =>
    unfold Device.signal
    dsimp only
    split <;> rfl
  | vf p =>
    unfold Device.signal
    dsimp only
    split <;> rfl

theorem mbxDone_replied (d : Device) (f : Fn) (len : Nat) : d.Replied (d.mbxDone f len) := by
  unfold Device.mbxDone
  dsimp only
  split
  · refine .trans ?_ (signal_replied _ _ _)
    exact ⟨rfl, fun _ => rfl⟩
  · exact ⟨rfl, fun _ => rfl⟩

theorem mbxDone_sessions (d : Device) (f : Fn) (len : Nat) : (d.mbxDone f len).sessions = d.sessions := by
  unfold Device.mbxDone
  dsimp only
  split
  · exact signal_sessions _ _ _
  · rfl

theorem respond_replied (d : Device) (ses : SessId) (opc tag : Byte) (st : St) (ty : Byte) (value : List Byte) :
    d.Replied (d.respond ses opc tag st ty value) := by
  unfold Device.respond
  split
  · exact .refl d
  · dsimp only
    cases sesFn ses with
    | some f => exact (modSession_replied d ses _).trans (mbxDone_replied _ _ _)
    | none => exact modSession_replied d ses _

/-- A live part's answer stands in the session. -/
theorem respond_session (d : Device) (ses : SessId) (opc tag : Byte) (st : St) (ty : Byte) (value : List Byte) (hl : d.live = true) :
    (d.respond ses opc tag st ty value).session ses =
      { d.session ses with resp := { opc := opc, tag := tag, status := st.code, ty := ty, value := value } } := by
  have hs : (d.respond ses opc tag st ty value).sessions =
      (d.modSession ses (fun x => { x with resp := { opc := opc, tag := tag, status := st.code, ty := ty, value := value } })).sessions := by
    unfold Device.respond
    rw [if_neg (by simp [hl])]
    dsimp only
    cases sesFn ses with
    | some f => exact mbxDone_sessions _ _ _
    | none => rfl
  have hm := session_modSession d ses
    (fun x => { x with resp := { opc := opc, tag := tag, status := st.code, ty := ty, value := value } })
  rw [← hm]
  unfold Device.session
  rw [hs]

theorem openSes_open (d : Device) (ses : SessId) (h : (d.session ses).open_ = true) :
    d.openSes ses = some (d.modSession ses (fun x => { x with lastMsg := d.devTime })) := by
  unfold Device.openSes
  rw [if_pos h]

/-- The part as a request of an open session finds it. -/
def Device.heard (d : Device) (ses : SessId) : Device := d.modSession ses (fun x => { x with lastMsg := d.devTime })

theorem heard_sameAgent (d : Device) (ses : SessId) : d.SameAgent ses (d.heard ses) := .of_modSession _ _ _ (fun _ => rfl)

/-- A request of an open session is performed on the part as it stands, and its answer given. -/
theorem request_open (d : Device) (ses : SessId) (opc tag : Byte) (f : Device → Answer) (hserves : d.serves ses = true)
    (hopen : (d.session ses).open_ = true) :
    d.request ses opc tag f =
      (f (d.heard ses)).dev.respond ses opc tag (f (d.heard ses)).st (f (d.heard ses)).ty (f (d.heard ses)).value := by
  unfold Device.request
  rw [if_neg (by simp [hserves]), openSes_open d ses hopen]
  rfl

/-- What a request leaves: the part its answer leaves, and in the session the answer. -/
theorem request_answers (d : Device) (ses : SessId) (opc tag : Byte) (f : Device → Answer) (hserves : d.serves ses = true)
    (hopen : (d.session ses).open_ = true) (a : Answer) (ha : f (d.heard ses) = a) :
    a.dev.Replied (d.request ses opc tag f) ∧ (a.dev.live = true → (d.request ses opc tag f).answered ses = a.st.code) := by
  rw [request_open d ses opc tag f hserves hopen, ha]
  refine ⟨respond_replied _ _ _ _ _ _ _, fun hl => ?_⟩
  unfold Device.answered
  rw [respond_session _ _ _ _ _ _ _ hl]

/-! ### What the agent checks (R429, R432) -/

theorem agent_parts {d : Device} {ses : SessId} {index sub : Nat} {write : Bool} (h : d.agent ses index sub write = true) :
    d.live = true ∧ d.serves ses = true ∧ (d.session ses).open_ = true ∧
      ∃ o item, objOf index sub = some (o, item) ∧ d.openness ses o.at_.1 = none ∧ d.reaches ses o item write = true := by
  unfold Device.agent at h
  simp only [Bool.and_eq_true] at h
  obtain ⟨⟨⟨hlive, hserves⟩, hopen⟩, hobj⟩ := h
  refine ⟨hlive, hserves, hopen, ?_⟩
  cases ho : objOf index sub with
  | none => rw [ho] at hobj; exact absurd hobj Bool.false_ne_true
  | some oi =>
    obtain ⟨o, item⟩ := oi
    rw [ho] at hobj
    dsimp only at hobj
    rw [Bool.and_eq_true, Option.isNone_iff_eq_none] at hobj
    exact ⟨o, item, rfl, hobj.1, hobj.2⟩

/-- The object of a request that passes the checks is looked at. -/
theorem checked_passes {d : Device} {ses : SessId} {index sub : Nat} {o : Obj} {item : Nat} (read write : Bool)
    (f : Obj → Nat → Answer) (ho : objOf index sub = some (o, item)) (hopen : d.openness ses o.at_.1 = none)
    (hread : read = true → o.acc ≠ .wo) (hwrite : write = true → o.acc ≠ .ro ∧ o.acc ≠ .konst)
    (hreach : d.reaches ses o item write = true) : d.checked ses index sub read write f = f o item := by
  unfold Device.checked
  rw [ho]
  dsimp only
  rw [hopen]
  dsimp only
  rw [if_neg]
  cases read <;> cases write <;> simp_all

/-! ### A commit (R434) -/

/-- Every commit is one byte, written only. -/
theorem record_row (o : Obj) (ho : o ∈ objTable) (hat : o.at_.2 = 0xFF) : o.ty = .u8 ∧ o.acc = .wo := by
  have h : ∀ o ∈ objTable, o.at_.2 = 0xFF → o.ty = .u8 ∧ o.acc = .wo := by decide +kernel
  exact h o ho hat

theorem objOf_row {index sub : Nat} {o : Obj} {item : Nat} (h : objOf index sub = some (o, item)) :
    o ∈ objTable ∧ o.at_.2 = sub ∧ objItem index = some (o.at_.1, item) := by
  unfold objOf at h
  cases hi : objItem index with
  | none => rw [hi] at h; exact absurd h (by simp)
  | some bi =>
    obtain ⟨base, n⟩ := bi
    rw [hi] at h
    dsimp only at h
    rw [Option.map_eq_some_iff] at h
    obtain ⟨x, hfind, hx⟩ := h
    injection hx with hxo hn
    subst hxo hn
    have hat : x.at_ = (base, sub) := of_decide_eq_true (List.find?_some hfind :)
    exact ⟨List.mem_of_find?_eq_some hfind, by rw [hat], by rw [hat]⟩

/-- A staging that is fresh is not discarded. -/
theorem expireAt_fresh (d : Device) (ses : SessId) (index : Nat) (h : d.stagedFresh ses index = true) :
    (d.session ses).expireAt d.devTime index =
      { d.session ses with segs := (d.session ses).segs.filter (fun e => e.1.1 ≠ index || decide ((d.devTime - e.2.2).toNat < stageLife)) } := by
  unfold Device.stagedFresh at h
  rw [Bool.and_eq_true] at h
  obtain ⟨-, hfresh⟩ := h
  unfold Session.expireAt
  dsimp only
  cases hat : alGet (d.session ses).stagedAt index with
  | none => rfl
  | some t =>
    rw [hat] at hfresh
    dsimp only at hfresh ⊢
    rw [if_neg]
    have := of_decide_eq_true hfresh
    unfold Device.since at this
    omega

/-- The part as a write of a fresh record finds it. -/
def Device.looked (d : Device) (ses : SessId) (index : Nat) : Device :=
  (d.heard ses).modSession ses (fun x => x.expireAt (d.heard ses).devTime index)

theorem stagedFresh_same {ses : SessId} {d e : Device} (h : d.SameAgent ses e) (index : Nat) :
    e.stagedFresh ses index = d.stagedFresh ses index := by
  unfold Device.stagedFresh Device.since
  rw [h.expired, h.at_, show e.devTime = d.devTime by rw [h.rest]]

theorem looked_sameAgent (d : Device) (ses : SessId) (index : Nat) (h : d.stagedFresh ses index = true) :
    d.SameAgent ses (d.looked ses index) := by
  have hh := heard_sameAgent d ses
  refine hh.trans ?_
  have hs : ((d.looked ses index).session ses) = _ :=
    (session_modSession (d.heard ses) ses _).trans (expireAt_fresh (d.heard ses) ses index ((stagedFresh_same hh index).trans h))
  exact ⟨⟨rfl, by rw [hs], by rw [hs]⟩, by rw [hs], by rw [hs], by rw [hs], by rw [hs]⟩

/-- The table a commit of a slice table carries: staged, or as it stands. -/
def Device.stagedTable (d : Device) (ses : SessId) (index base item : Nat) : List Byte :=
  if base = 0x3200 then (alGet (d.session ses).stagedBlob (index, 3)).getD (d.tableBytes (fin item)) else []

theorem commit_fresh (d : Device) (ses : SessId) (index : Nat) (o : Obj) (item v : Nat) (g : Nat → Nat)
    (hexp : (d.session ses).expired.contains index = false) (hg : ∀ sub, g sub = d.field ses index o.at_.1 item sub)
    (r : St × Device) (hr : d.applyRecord o item g (d.stagedTable ses index o.at_.1 item) v = r) :
    d.commit ses index o item v =
      if r.1 = .ok then (.ok, (if v = 1 then r.2.keepFields o.at_.1 item g else r.2).modSession ses (fun x => x.unstage index)) else r := by
  obtain rfl : g = fun sub => d.field ses index o.at_.1 item sub := funext hg
  unfold Device.commit
  rw [if_neg (by rw [hexp, Bool.and_false]; decide), ← hr]
  rfl

theorem foldl_setCfg_dict (base item : Nat) (g : Nat → Nat) (l : List Nat) :
    ∀ d : Device, ∃ D, l.foldl (fun d i => d.setCfg base i item (g i)) d = { d with dict := D } := by
  induction l with
  | nil => exact fun d => ⟨d.dict, rfl⟩
  | cons i l ih =>
    intro d
    obtain ⟨D, hD⟩ := ih (d.setCfg base i item (g i))
    exact ⟨D, hD⟩

theorem keepFields_dict (d : Device) (base item : Nat) (g : Nat → Nat) : ∃ D, d.keepFields base item g = { d with dict := D } := by
  unfold Device.keepFields
  by_cases hs : hasSelector base = true
  · rw [if_pos hs]
    exact ⟨alSet d.dict (base, 1, item) (g 1), rfl⟩
  · rw [if_neg hs]
    by_cases hb : base = 0x60C0 ∨ base = 0x60B0
    · rw [if_pos hb]
      exact foldl_setCfg_dict base item g _ d
    · rw [if_neg hb]
      exact ⟨d.dict, rfl⟩

/-- A write of a commit reaches the commit of its record. -/
theorem writeObj_commit (d : Device) (ses : SessId) (index : Nat) (b : Byte) (o : Obj) (item : Nat) (ho : o ∈ objTable)
    (hat : o.at_.2 = 0xFF) : (d.writeObj ses index [b] o item).st = (d.commit ses index o item b.toNat).1 ∧
      (d.writeObj ses index [b] o item).dev = (d.commit ses index o item b.toNat).2 := by
  obtain ⟨hty, -⟩ := record_row o ho hat
  have hv : leNat [b] = b.toNat := by simp [leNat]
  have hpeer : isPeer o = false := decide_eq_false (fun h => by rw [h] at hat; exact absurd hat (by decide))
  have hrec : isRecord o.at_.1 = true := by
    unfold isRecord
    exact List.any_eq_true.mpr ⟨o, ho, decide_eq_true (Prod.ext rfl hat)⟩
  unfold Device.writeObj
  rw [hv, hty, hpeer, hrec, hat]
  dsimp only
  rw [if_neg (show ¬Ty.u8.len ≠ some [b].length from fun h => h rfl), if_neg (show ¬(!Ty.u8.valid b.toNat) = true from Bool.false_ne_true), if_neg (by decide), if_pos (by decide)]
  exact ⟨rfl, rfl⟩

/-- A commit request that reaches its record: the record is applied to the part, whose sessions alone differ, and the answer given. -/
theorem commitReq_applies {d : Device} {ses : SessId} {index item : Nat} {g : Nat → Nat} (h : d.commits ses index item g) (v : Nat)
    (hv : v ≤ 1) {base n : Nat} (hitem : objItem index = some (base, n)) :
    n = item ∧ (∀ sub, g sub = d.field ses index base item sub) ∧ ∃ o : Obj, ∃ e : Device, o.at_ = (base, 0xFF) ∧ e = { d with sessions := e.sessions } ∧
      ∀ r : St × Device, e.applyRecord o item g (d.stagedTable ses index base item) v = r → r.2.live = true →
        (d.commitReq ses index v).answered ses = r.1.code ∧
        (r.1 = .ok → ∃ D, ({ r.2 with dict := D } : Device).Replied (d.commitReq ses index v)) ∧
        (r.1 ≠ .ok → r.2.Replied (d.commitReq ses index v)) := by
  obtain ⟨hagent, hfresh, o, ho, hg⟩ := h
  obtain ⟨hlive, hserves, hopen, o', item', ho', hopenness, hreach⟩ := agent_parts hagent
  obtain ⟨rfl, rfl⟩ : o' = o ∧ item' = item := by
    rw [ho, Option.some.injEq, Prod.mk.injEq] at ho'
    exact ⟨ho'.1.symm, ho'.2.symm⟩
  obtain ⟨hmem, hat, hbase⟩ := objOf_row ho
  rw [hitem, Option.some.injEq, Prod.mk.injEq] at hbase
  obtain ⟨rfl, rfl⟩ := hbase
  have hsame := looked_sameAgent d ses index hfresh
  have hexp : ((d.looked ses index).session ses).expired.contains index = false := by
    rw [hsame.expired]
    unfold Device.stagedFresh at hfresh
    simp only [Bool.and_eq_true, Bool.not_eq_true'] at hfresh
    exact hfresh.1
  have hbs : (d.looked ses index).stagedTable ses index o'.at_.1 n = d.stagedTable ses index o'.at_.1 n := by
    unfold Device.stagedTable
    rw [hsame.blob]
    rfl
  refine ⟨rfl, hg, o', d.looked ses index, Prod.ext rfl hat, hsame.rest, fun r hr hrlive => ?_⟩
  have hb : (BitVec.ofNat 8 v).toNat = v := by
    rw [BitVec.toNat_ofNat]
    omega
  have hcommit := commit_fresh (d.looked ses index) ses index o' n v g hexp
    (fun sub => (hg sub).trans (hsame.field index _ _ sub).symm) r (by rw [hbs]; exact hr)
  obtain ⟨hst, hdev⟩ := writeObj_commit (d.looked ses index) ses index (BitVec.ofNat 8 v) o' n hmem hat
  rw [hb, hcommit] at hst hdev
  have hpasses := checked_passes false true (fun o item => (d.looked ses index).writeObj ses index [BitVec.ofNat 8 v] o item) ho
    ((hsame.openness _).trans hopenness) Bool.noConfusion (fun _ => by rw [(record_row o' hmem hat).2]; decide)
    ((hsame.reaches _ _ _).trans hreach)
  obtain ⟨hreplied, hanswer⟩ : _ ∧ (_ → (d.commitReq ses index v).answered ses = _) :=
    request_answers d ses 0x02 0 _ hserves hopen _ (Eq.trans rfl hpasses)
  rw [hst] at hanswer
  rw [hdev] at hreplied hanswer
  by_cases hok : r.1 = .ok
  · rw [if_pos hok] at hreplied hanswer
    obtain ⟨D, hD⟩ : ∃ D, (if v = 1 then r.2.keepFields o'.at_.1 n g else r.2) = { r.2 with dict := D } := by
      split
      · exact keepFields_dict _ _ _ _
      · exact ⟨r.2.dict, rfl⟩
    rw [hD] at hreplied hanswer
    exact ⟨hok ▸ hanswer hrlive, fun _ => ⟨D, (modSession_replied { r.2 with dict := D } ses (fun x => x.unstage index)).trans hreplied⟩, fun h => absurd hok h⟩
  · rw [if_neg hok] at hreplied hanswer
    exact ⟨hanswer hrlive, fun h => absurd h hok, fun _ => hreplied⟩

/-- `e` is `d` with a commit answered: sessions and mailboxes, the vector of a function's message, and what the dictionary keeps. -/
structure Device.Committed (d e : Device) : Prop where
  rest : e = { d with dict := e.dict, sessions := e.sessions, mbx := e.mbx, devMsix := e.devMsix, parts := e.parts }
  part : ∀ p : PartNo, e.parts[p] = { d.parts[p] with msix := (e.parts[p]).msix }

namespace Device.Committed
variable {d e : Device}

theorem of_replied {D : List ((Nat × Nat × Nat) × Nat)} (h : ({ d with dict := D } : Device).Replied e) : d.Committed e where
  rest := h.rest.trans (by rw [h.rest])
  part p := h.part p

variable (h : d.Committed e)
include h

theorem tiles : e.tiles = d.tiles := by rw [h.rest]
theorem ctxs : e.ctxs = d.ctxs := by rw [h.rest]
theorem gather : e.gather = d.gather := by rw [h.rest]
theorem ports : e.ports = d.ports := by rw [h.rest]
theorem tables : e.tables = d.tables := by rw [h.rest]
theorem layouts : e.layouts = d.layouts := by rw [h.rest]
theorem collRing (p : PartNo) : (e.parts[p]).collRing = (d.parts[p]).collRing := by rw [h.part p]
theorem coll (p : PartNo) : (e.parts[p]).coll = (d.parts[p]).coll := by rw [h.part p]

end Device.Committed

/-- The part with other sessions. -/
def Device.withSessions (d : Device) (S : List (SessId × Session)) : Device := { d with sessions := S }

/-- A command that is a commit is answered OK where its record is accepted, and leaves what the record leaves. -/
theorem answersOk_of_applyRecord {c : Instr} {s : State} {ses : SessId} {index item v base n : Nat} {g : Nat → Nat} {post : Device → Prop}
    (hrun : exec c s = onLive (fun d => d.commitReq ses index v) s) (hc : s.dev.commits ses index item g) (hv : v ≤ 1)
    (hitem : objItem index = some (base, n))
    (happ : ∀ (o : Obj) S, o.at_ = (base, 0xFF) → ∃ w : Device,
      (s.dev.withSessions S).applyRecord o n g (s.dev.stagedTable ses index base n) v = (.ok, w) ∧ w.live = true ∧
        ∀ u, w.Committed u → post u) : answersOk c ses s post := by
  obtain ⟨rfl, -, o, e, hat, he, hrest⟩ := commitReq_applies hc v hv hitem
  obtain ⟨w, hw, hlive, hpost⟩ := happ o e.sessions hat
  rw [show s.dev.withSessions e.sessions = e from he.symm] at hw
  obtain ⟨hanswer, hok, -⟩ := hrest _ hw hlive
  obtain ⟨D, hreplied⟩ := hok rfl
  refine ⟨{ s with dev := s.dev.commitReq ses index v }, ?_, rfl, hanswer, hpost _ (.of_replied hreplied)⟩
  rw [hrun, onLive_live _ _ (agent_parts hc.1).1]

end Sys2Proof.Machine

/-! Commits of job rings (Table 9.1, R220, R326). -/

namespace Sys2Proof.Machine

theorem objItem_gather (p : PartNo) (e : GatherNo) : objItem (partIndex p (0xA0 + e.val)) = some (0x60A0, 16 * p.val + e.val) := by
  revert p e
  decide +kernel

theorem objPart_gather (p : PartNo) (e : GatherNo) : objPart 0x60A0 (16 * p.val + e.val) = p := by
  revert p e
  decide +kernel

theorem fin_gather (p : PartNo) (e : GatherNo) : (fin (16 * p.val + e.val) : GatherNo) = e := by
  revert p e
  decide +kernel

theorem objItem_part (p : PartNo) : objItem (partIndex p 0xE0) = some (0x60E0, p.val) := by
  revert p
  decide +kernel

theorem objPart_part (base : Nat) (p : PartNo) (h : base ≠ 0x6040 ∧ base ≠ 0x6080 ∧ base ≠ 0x60A0) : objPart base p.val = p := by
  obtain ⟨h1, h2, h3⟩ := h
  unfold objPart
  rw [if_neg h1, if_neg h2, if_neg h3]
  exact Fin.ext (Nat.mod_eq_of_lt p.isLt)

theorem applyRecord_gather (d : Device) (o : Obj) (item : Nat) (g : Nat → Nat) (bs : List Byte) (v : Nat) (h : o.at_ = (0x60A0, 0xFF)) :
    d.applyRecord o item g bs v = d.applyGatherRing g (objPart 0x60A0 item) (fin item) v := by
  unfold Device.applyRecord
  rw [h]
  rfl

theorem applyRecord_coll (d : Device) (o : Obj) (item : Nat) (g : Nat → Nat) (bs : List Byte) (v : Nat) (h : o.at_ = (0x60E0, 0xFF)) :
    d.applyRecord o item g bs v = d.applyCollRing g (objPart 0x60E0 item) v := by
  unfold Device.applyRecord
  rw [h]
  rfl

theorem applyGatherRing_opens (d : Device) (g : Nat → Nat) (p : PartNo) (e : GatherNo) (hbound : (d.gather[e]).bound = some p)
    (hst : (d.gather[e]).ring.st = 0) (hok : d.ringOk p g 128 = true) :
    d.applyGatherRing g p e 1 = (.ok, (d.modGather e (fun q => { q with ring := d.openRing p g, job := none, stash := none })).ringWatch e) := by
  unfold Device.applyGatherRing
  dsimp only
  rw [if_neg (by decide), if_neg (not_not.mpr hbound), if_pos rfl, if_neg (not_not.mpr hst), hok]
  rfl

theorem applyGatherRing_closes (d : Device) (g : Nat → Nat) (p : PartNo) (e : GatherNo) (hbound : (d.gather[e]).bound = some p)
    (hst : (d.gather[e]).ring.st = 1) :
    d.applyGatherRing g p e 0 = (.ok, (d.dropWatches (fun w => w.holder = .gather e)).modGather e (fun q =>
      { q with ring := { q.ring with st := if q.job.isSome then 2 else 0, ready := false } })) := by
  unfold Device.applyGatherRing
  dsimp only
  rw [if_neg (by decide), if_neg (not_not.mpr hbound), if_neg (by decide), if_neg (not_not.mpr hst)]

theorem applyCollRing_opens (d : Device) (g : Nat → Nat) (p : PartNo) (hst : (d.parts[p]).collRing.st = 0) (hok : d.ringOk p g 64 = true) :
    d.applyCollRing g p 1 = (.ok, (d.modPart p (fun q => { q with collRing := d.openRing p g })).collWatch p) := by
  unfold Device.applyCollRing
  dsimp only
  rw [if_pos rfl, if_neg (not_not.mpr hst), hok]
  rfl

/-- A collective ring that closes. -/
def Partition.closeColl (q : Partition) (busy : Bool) : Partition :=
  { q with collRing := { q.collRing with st := if busy then 2 else 0, ready := false } }

theorem applyCollRing_closes (d : Device) (g : Nat → Nat) (p : PartNo) (hst : (d.parts[p]).collRing.st = 1) :
    d.applyCollRing g p 0 = (.ok, (d.dropWatches (fun w => w.holder = .coll p)).modPart p (fun q => q.closeColl (d.parts[p]).coll.isSome)) := by
  unfold Device.applyCollRing
  dsimp only
  rw [if_neg (by decide), if_pos rfl, if_neg (not_not.mpr hst)]
  rfl

theorem ringWatch_touched (d : Device) (e : GatherNo) : d.Touched (d.ringWatch e) := registerWatch_touched _ _ _ _

theorem collWatch_touched (d : Device) (p : PartNo) : d.Touched (d.collWatch p) := registerWatch_touched _ _ _ _

theorem Device.Touched.gather {d e : Device} (h : d.Touched e) : e.gather = d.gather := by rw [h.rest]
theorem Device.Touched.rst {d e : Device} (h : d.Touched e) : e.rst = d.rst := by rw [h.rest]
theorem Device.Touched.collRing {d e : Device} (h : d.Touched e) (p : PartNo) : (e.parts[p]).collRing = (d.parts[p]).collRing := by
  rw [h.part p]
/-- The part is live where a commit is taken. -/
theorem commits_live {d : Device} {ses : SessId} {index item : Nat} {g : Nat → Nat} (h : d.commits ses index item g) : d.live = true :=
  (agent_parts h.1).1

theorem gatherRingOpen_answers (s : State) (ses : SessId) (p : PartNo) (item : Nat) (g : Nat → Nat) (e : GatherNo)
    (hc : s.dev.commits ses (partIndex p (0xA0 + e.val)) item g) (hbound : (s.dev.gather[e]).bound = some p)
    (hst : (s.dev.gather[e]).ring.st = 0) (hok : s.dev.ringOk p g 128 = true) :
    answersOk (.gatherRingOpen ses p e) ses s (fun d => (d.gather[e]).ring.st = 1 ∧ (d.gather[e]).ring.base = g 1 ∧
      (d.gather[e]).ring.log2 = g 2 ∧ (d.gather[e]).job = none) := by
  refine answersOk_of_applyRecord rfl hc (by decide) (objItem_gather p e) (fun o S hat => ?_)
  rw [applyRecord_gather _ _ _ _ _ _ hat, objPart_gather, fin_gather, applyGatherRing_opens (s.dev.withSessions S) g p e hbound hst hok]
  have hwatch := ringWatch_touched ((s.dev.withSessions S).modGather e (fun q =>
    { q with ring := (s.dev.withSessions S).openRing p g, job := none, stash := none })) e
  refine ⟨_, rfl, (live_of_rst hwatch.rst).trans (commits_live hc :), fun u hu => ?_⟩
  have hget : u.gather[e] = _ := (congrArg (fun v : Vector Gather 16 => v[e]) (hu.gather.trans hwatch.gather)).trans (modGather_get _ _ _)
  rw [hget]
  exact ⟨rfl, rfl, rfl, rfl⟩

theorem gatherRingClose_answers (s : State) (ses : SessId) (p : PartNo) (item : Nat) (g : Nat → Nat) (e : GatherNo)
    (hc : s.dev.commits ses (partIndex p (0xA0 + e.val)) item g) (hbound : (s.dev.gather[e]).bound = some p)
    (hst : (s.dev.gather[e]).ring.st = 1) :
    answersOk (.gatherRingClose ses p e) ses s (fun d =>
      (d.gather[e]).ring.st = (if (s.dev.gather[e]).job.isSome then 2 else 0) ∧ (d.gather[e]).job = (s.dev.gather[e]).job) := by
  refine answersOk_of_applyRecord rfl hc (by decide) (objItem_gather p e) (fun o S hat => ?_)
  rw [applyRecord_gather _ _ _ _ _ _ hat, objPart_gather, fin_gather, applyGatherRing_closes (s.dev.withSessions S) g p e hbound hst]
  refine ⟨_, rfl, (commits_live hc :), fun u hu => ?_⟩
  have hget : u.gather[e] = _ := (congrArg (fun v : Vector Gather 16 => v[e]) hu.gather).trans (modGather_get _ _ _)
  rw [hget]
  exact ⟨rfl, rfl⟩

theorem collRingOpen_answers (s : State) (ses : SessId) (p : PartNo) (item : Nat) (g : Nat → Nat)
    (hc : s.dev.commits ses (partIndex p 0xE0) item g) (hst : (s.dev.parts[p]).collRing.st = 0) (hok : s.dev.ringOk p g 64 = true) :
    answersOk (.collRingOpen ses p) ses s (fun d => (d.parts[p]).collRing.st = 1 ∧ (d.parts[p]).collRing.base = g 1 ∧
      (d.parts[p]).collRing.log2 = g 2) := by
  refine answersOk_of_applyRecord rfl hc (by decide) (objItem_part p) (fun o S hat => ?_)
  rw [applyRecord_coll _ _ _ _ _ _ hat, objPart_part _ _ (by decide), applyCollRing_opens (s.dev.withSessions S) g p hst hok]
  have hwatch := collWatch_touched ((s.dev.withSessions S).modPart p (fun q =>
    { q with collRing := (s.dev.withSessions S).openRing p g })) p
  refine ⟨_, rfl, (live_of_rst hwatch.rst).trans (commits_live hc :), fun u hu => ?_⟩
  have hget : (u.parts[p]).collRing = _ :=
    ((hu.collRing p).trans (hwatch.collRing p)).trans (congrArg Partition.collRing (modPart_get _ _ _))
  rw [hget]
  exact ⟨rfl, rfl, rfl⟩

theorem collRingClose_answers (s : State) (ses : SessId) (p : PartNo) (item : Nat) (g : Nat → Nat)
    (hc : s.dev.commits ses (partIndex p 0xE0) item g) (hst : (s.dev.parts[p]).collRing.st = 1) :
    answersOk (.collRingClose ses p) ses s (fun d =>
      (d.parts[p]).collRing.st = (if (s.dev.parts[p]).coll.isSome then 2 else 0) ∧ (d.parts[p]).coll = (s.dev.parts[p]).coll) := by
  refine answersOk_of_applyRecord rfl hc (by decide) (objItem_part p) (fun o S hat => ?_)
  rw [applyRecord_coll _ _ _ _ _ _ hat, objPart_part _ _ (by decide), applyCollRing_closes (s.dev.withSessions S) g p hst]
  refine ⟨_, rfl, (commits_live hc :), fun u hu => ?_⟩
  have hring : (u.parts[p]).collRing = _ := (hu.collRing p).trans (congrArg Partition.collRing (modPart_get _ _ _))
  have hcoll : (u.parts[p]).coll = _ := (hu.coll p).trans (congrArg Partition.coll (modPart_get _ _ _))
  exact ⟨congrArg Ring.st hring, hcoll⟩

/-- Settles O36, ring by ring: what a commit leaves of its ring, through the watch it registers or drops and the answer. -/
theorem ringCommits : Obligations.RingCommits := by
  unfold Obligations.RingCommits
  exact fun s ses p item g =>
    ⟨fun e hc hbound => ⟨gatherRingOpen_answers s ses p item g e hc hbound, gatherRingClose_answers s ses p item g e hc hbound⟩,
      fun hc => ⟨collRingOpen_answers s ses p item g hc, collRingClose_answers s ses p item g hc⟩⟩

end Sys2Proof.Machine

/-! Commits of ports, slice tables and collective layouts (R305, R315, R325). -/

namespace Sys2Proof.Machine

theorem objItem_port (p : PortNo) : objItem (0x3100 + p.val) = some (0x3100, p.val) := by
  revert p
  decide +kernel

theorem objItem_table (k : SliceTab) : objItem (0x3200 + k.val) = some (0x3200, k.val) := by
  revert k
  decide +kernel

theorem objItem_layout (k : SliceTab) : objItem (0x3300 + k.val) = some (0x3300, k.val) := by
  revert k
  decide +kernel

theorem applyRecord_port (d : Device) (o : Obj) (item : Nat) (g : Nat → Nat) (bs : List Byte) (v : Nat) (h : o.at_ = (0x3100, 0xFF)) :
    d.applyRecord o item g bs v = d.applyPort g (fin item) v := by
  unfold Device.applyRecord
  rw [h]
  rfl

theorem applyRecord_table (d : Device) (o : Obj) (item : Nat) (g : Nat → Nat) (bs : List Byte) (v : Nat) (h : o.at_ = (0x3200, 0xFF)) :
    d.applyRecord o item g bs v = d.applyTable g bs (fin item) v := by
  unfold Device.applyRecord
  rw [h]
  rfl

theorem applyRecord_layout (d : Device) (o : Obj) (item : Nat) (g : Nat → Nat) (bs : List Byte) (v : Nat) (h : o.at_ = (0x3300, 0xFF)) :
    d.applyRecord o item g bs v = d.applyLayout g (fin item) v := by
  unfold Device.applyRecord
  rw [h]
  rfl

theorem fin_val {n : Nat} [NeZero n] (i : Fin n) : fin i.val = i := Fin.ext (Nat.mod_eq_of_lt i.isLt)

/-! ### Ports -/

/-- Lanes and dictionary: what a port's commit edits beside its port. -/
structure Device.KeepsPorts (d e : Device) : Prop where
  ports : e.ports = d.ports
  rst : e.rst = d.rst

theorem foldl_setCfg_keepsPorts (p : PortNo) (g : Nat → Nat) (l : List Nat) (d : Device) :
    d.KeepsPorts (l.foldl (fun d i => d.setCfg 0x3100 (i + 1) p (g (i + 1))) d) :=
  foldl_related (R := Device.KeepsPorts) (fun _ => ⟨rfl, rfl⟩) (fun h k => ⟨k.ports.trans h.ports, k.rst.trans h.rst⟩)
    (f := fun d i => d.setCfg 0x3100 (i + 1) p (g (i + 1))) (fun _ _ => ⟨rfl, rfl⟩) l d

theorem foldl_modLane_keepsPorts (f : Device → Lane → Lane) (l : List LaneNo) (d : Device) :
    d.KeepsPorts (l.foldl (fun d n => d.modLane n (f d)) d) :=
  foldl_related (R := Device.KeepsPorts) (fun _ => ⟨rfl, rfl⟩) (fun h k => ⟨k.ports.trans h.ports, k.rst.trans h.rst⟩)
    (f := fun d n => d.modLane n (f d)) (fun _ _ => ⟨rfl, rfl⟩) l d

/-- A port that is enabled trains. -/
def Port.enable (q : Port) : Port := { Port.reset with enabled := true, st := 1, replays := q.replays, holds := q.holds, subst := q.subst }

theorem applyPort_enables (d : Device) (g : Nat → Nat) (p : PortNo) (hst : (d.ports[p]).st = 0) (hok : d.portFieldsOk g p = true) :
    ∃ w, d.applyPort g p 1 = (.ok, w) ∧ w.ports[p] = (d.ports[p]).enable ∧ w.rst = d.rst := by
  unfold Device.applyPort
  dsimp only
  rw [if_pos rfl, if_neg (not_not.mpr hst), hok]
  refine ⟨_, rfl, ?_⟩
  have hcfg := foldl_setCfg_keepsPorts p g (List.range 6) d
  generalize (List.range 6).foldl _ d = d1 at hcfg ⊢
  have hlanes := foldl_modLane_keepsPorts (fun d x => { x with st := 1, lastTry := d.devTime, subst := none })
    ((d1.modPort p Port.enable).portLanes p) (d1.modPort p Port.enable)
  generalize hd2 : ((d1.modPort p Port.enable).portLanes p).foldl _ (d1.modPort p Port.enable) = d2 at hlanes
  have hspares := foldl_modLane_keepsPorts (fun _ x => if x.st = 0 then { x with st := 4 } else x) (maskLanes (g 5)) d2
  subst hd2
  refine ⟨?_, hspares.rst.trans (hlanes.rst.trans hcfg.rst)⟩
  have hports := congrArg (fun v : Vector Port 8 => v[p]) (hspares.ports.trans hlanes.ports)
  refine hports.trans ((modPort_get d1 p Port.enable).trans ?_)
  rw [hcfg.ports]

theorem losePort_worked (d : Device) (p : PortNo) (st : Fin 6) : d.Worked (d.losePort p st) := by
  have hdrop : ∀ n, d.Worked ((d.modPort p (fun q => { q with st := st, out := [], replay := [], failedAt := none })).drop (d.portCuff p) 3 n) :=
    fun n => .trans (b := d.modPort p (fun q => { q with st := st, out := [], replay := [], failedAt := none }))
      ⟨rfl, fun _ => rfl, fun _ => rfl, fun _ => .inl rfl, fun _ _ => rfl, fun _ => id, fun _ => rfl, id⟩ (.of_touched (drop_touched _ _ _ _))
  unfold Device.losePort
  dsimp only
  split
  · exact (hdrop _).trans (report_worked _ _ _ _ _ _)
  · refine .trans ((hdrop _).trans (report_worked _ _ _ _ _ _)) (worked_ite _ (fun _ => ?_) (fun _ => .refl _))
    exact (collAbort_worked _ _ _ _ _).trans (resetPartition_worked _ _ _)

theorem applyPort_disables (d : Device) (g : Nat → Nat) (p : PortNo) :
    ∃ w, d.applyPort g p 0 = (.ok, w) ∧ (w.ports[p]).enabled = false ∧ (w.ports[p]).st = 0 ∧ (w.ports[p]).out = [] ∧
      (w.ports[p]).replay = [] ∧ w.rst = d.rst := by
  have hlost : ∀ b : Bool, (if b = true then d.losePort p 0 else d).rst = d.rst := by
    intro b
    split
    · exact (losePort_worked d p 0).rst
    · rfl
  unfold Device.applyPort
  dsimp only
  rw [if_neg (by decide), if_pos rfl]
  refine ⟨_, rfl, ?_⟩
  rw [modPort_get]
  exact ⟨rfl, rfl, rfl, rfl, hlost _⟩

/-! ### Slice tables and layouts -/

theorem applyTable_loads (d : Device) (g : Nat → Nat) (bs : List Byte) (k : SliceTab) (hid : g 1 ≤ 4095) (hpart : g 2 ≤ 15)
    (hlen : bs.length = 0 ∨ bs.length = 65536)
    (hfree : ∀ j : SliceTab, j ≠ k → (d.tables[j]).active = true → (d.tables[j]).id.toNat ≠ g 1)
    (hgood : ∀ e ∈ tableEntries bs, d.entryBad (fin (g 2)) e.2 = false) (hlane : ∃ n : LaneNo, (d.lanes[n]).bound = some (fin (g 2))) :
    ∃ w, d.applyTable g bs k 1 = (.ok, w) ∧ w.rst = d.rst ∧
      w.tables[k] = { active := true, id := BitVec.ofNat 12 (g 1), part := fin (g 2), entries := tableEntries bs } := by
  unfold Device.applyTable
  dsimp only
  rw [if_neg (by decide), if_neg]
  · exact ⟨_, rfl, rfl, modTable_get _ _ _⟩
  rintro (h | h | h | h | h | h | h)
  · exact h rfl
  · omega
  · omega
  · omega
  · obtain ⟨j, -, hj⟩ := List.any_eq_true.mp h
    simp only [Bool.and_eq_true, decide_eq_true_eq] at hj
    exact hfree j hj.1.1 hj.1.2 hj.2
  · obtain ⟨e, he, hbad⟩ := List.any_eq_true.mp h
    rw [hgood e he] at hbad
    exact Bool.false_ne_true hbad
  · obtain ⟨n, hn⟩ := hlane
    have := List.all_eq_true.mp h (d.lanes[n]) (Vector.mem_toList_iff.mpr (Vector.getElem_mem n.isLt))
    exact of_decide_eq_true this hn

theorem applyLayout_loads (d : Device) (g : Nat → Nat) (k : SliceTab) (hok : d.layoutOk k g = true)
    (hidle : (d.tables[k]).active = false ∨ (d.parts[(d.tables[k]).part]).coll = none) :
    ∃ l : Layout, d.applyLayout g k 1 = (.ok, d.modLayout k (fun _ => l)) ∧ l.loaded = true ∧
      l.axes = Vector.ofFn (fun i => BitVec.ofNat 32 (g (i.val + 1))) ∧ l.wPlus = leBytes 16 (g 5) ∧ l.wMinus = leBytes 16 (g 6) ∧
      l.stallUs = g 8 ∧ l.rank = l.rankOf := by
  have hbusy : ((d.tables[k]).active && ((d.parts[(d.tables[k]).part]).coll.isSome)) = false := by
    rcases hidle with h | h
    · rw [h, Bool.false_and]
    · rw [h, Option.isSome_none, Bool.and_false]
  unfold Device.applyLayout
  dsimp only
  rw [if_neg (by decide), hbusy, hok]
  exact ⟨_, rfl, rfl, rfl, rfl, rfl, rfl, rfl⟩

/-! ### The commits -/

theorem portEnable_answers (s : State) (ses : SessId) (item : Nat) (g : Nat → Nat) (p : PortNo)
    (hc : s.dev.commits ses (0x3100 + p.val) item g) (hst : (s.dev.ports[p]).st = 0) (hok : s.dev.portFieldsOk g p = true) :
    answersOk (.portEnable ses p) ses s (fun d => (d.ports[p]).enabled = true ∧ (d.ports[p]).st = 1 ∧
      (d.ports[p]).replays = (s.dev.ports[p]).replays) := by
  refine answersOk_of_applyRecord rfl hc (by decide) (objItem_port p) (fun o S hat => ?_)
  obtain ⟨w, hw, hport, hrst⟩ := applyPort_enables (s.dev.withSessions S) g p hst hok
  rw [applyRecord_port _ _ _ _ _ _ hat, fin_val, hw]
  refine ⟨w, rfl, (live_of_rst hrst).trans (commits_live hc :), fun u hu => ?_⟩
  rw [hu.ports, hport]
  exact ⟨rfl, rfl, rfl⟩

theorem portDisable_answers (s : State) (ses : SessId) (item : Nat) (g : Nat → Nat) (p : PortNo)
    (hc : s.dev.commits ses (0x3100 + p.val) item g) :
    answersOk (.portDisable ses p) ses s (fun d => (d.ports[p]).enabled = false ∧ (d.ports[p]).st = 0 ∧
      (d.ports[p]).out = [] ∧ (d.ports[p]).replay = []) := by
  refine answersOk_of_applyRecord rfl hc (by decide) (objItem_port p) (fun o S hat => ?_)
  obtain ⟨w, hw, henabled, hst, hout, hreplay, hrst⟩ := applyPort_disables (s.dev.withSessions S) g p
  rw [applyRecord_port _ _ _ _ _ _ hat, fin_val, hw]
  refine ⟨w, rfl, (live_of_rst hrst).trans (commits_live hc :), fun u hu => ?_⟩
  rw [hu.ports]
  exact ⟨henabled, hst, hout, hreplay⟩

theorem sliceTableLoad_answers (s : State) (ses : SessId) (item : Nat) (g : Nat → Nat) (k : SliceTab)
    (hc : s.dev.commits ses (0x3200 + k.val) item g) (bs : List Byte)
    (hbs : bs = (alGet (s.dev.session ses).stagedBlob (0x3200 + k.val, 3)).getD (s.dev.tableBytes k)) (hid : g 1 ≤ 4095)
    (hpart : g 2 ≤ 15) (hlen : bs.length = 0 ∨ bs.length = 65536)
    (hfree : ∀ j : SliceTab, j ≠ k → (s.dev.tables[j]).active = true → (s.dev.tables[j]).id.toNat ≠ g 1)
    (hgood : ∀ e ∈ tableEntries bs, s.dev.entryBad (fin (g 2)) e.2 = false)
    (hlane : ∃ n : LaneNo, (s.dev.lanes[n]).bound = some (fin (g 2))) :
    answersOk (.sliceTableLoad ses k) ses s (fun d =>
      d.tables[k] = { active := true, id := BitVec.ofNat 12 (g 1), part := fin (g 2), entries := tableEntries bs }) := by
  have hstaged : s.dev.stagedTable ses (0x3200 + k.val) 0x3200 k.val = bs := by
    unfold Device.stagedTable
    rw [if_pos rfl, fin_val, hbs]
  refine answersOk_of_applyRecord rfl hc (by decide) (objItem_table k) (fun o S hat => ?_)
  obtain ⟨w, hw, hrst, htable⟩ := applyTable_loads (s.dev.withSessions S) g bs k hid hpart hlen hfree hgood hlane
  rw [applyRecord_table _ _ _ _ _ _ hat, fin_val, hstaged, hw]
  refine ⟨w, rfl, (live_of_rst hrst).trans (commits_live hc :), fun u hu => ?_⟩
  rw [hu.tables]
  exact htable

theorem sliceTableRemove_answers (s : State) (ses : SessId) (item : Nat) (g : Nat → Nat) (k : SliceTab)
    (hc : s.dev.commits ses (0x3200 + k.val) item g) :
    answersOk (.sliceTableRemove ses k) ses s (fun d => d.tables[k] = SliceTable.reset) := by
  refine answersOk_of_applyRecord rfl hc (by decide) (objItem_table k) (fun o S hat => ?_)
  rw [applyRecord_table _ _ _ _ _ _ hat, fin_val]
  refine ⟨_, rfl, (commits_live hc :), fun u hu => ?_⟩
  rw [hu.tables, modTable_get]

theorem collLayoutLoad_answers (s : State) (ses : SessId) (item : Nat) (g : Nat → Nat) (k : SliceTab)
    (hc : s.dev.commits ses (0x3300 + k.val) item g) (hok : s.dev.layoutOk k g = true)
    (hidle : (s.dev.tables[k]).active = false ∨ (s.dev.parts[(s.dev.tables[k]).part]).coll = none) :
    answersOk (.collLayoutLoad ses k) ses s (fun d => (d.layouts[k]).loaded = true ∧
      (∀ a : Fin 4, (d.layouts[k]).axes[a] = BitVec.ofNat 32 (g (a.val + 1))) ∧ (d.layouts[k]).wPlus = leBytes 16 (g 5) ∧
      (d.layouts[k]).wMinus = leBytes 16 (g 6) ∧ (d.layouts[k]).stallUs = g 8 ∧ (d.layouts[k]).rank = (d.layouts[k]).rankOf) := by
  refine answersOk_of_applyRecord rfl hc (by decide) (objItem_layout k) (fun o S hat => ?_)
  obtain ⟨l, hl, hloaded, haxes, hplus, hminus, hstall, hrank⟩ := applyLayout_loads (s.dev.withSessions S) g k hok hidle
  rw [applyRecord_layout _ _ _ _ _ _ hat, fin_val, hl]
  refine ⟨_, rfl, (commits_live hc :), fun u hu => ?_⟩
  rw [hu.layouts, modLayout_get]
  refine ⟨hloaded, fun a => ?_, hplus, hminus, hstall, hrank⟩
  rw [haxes]
  simp

/-- Settles O37, record by record: what a commit leaves of its port, table or layout, through the answer. -/
theorem linkRecordCommits : Obligations.LinkRecordCommits := by
  unfold Obligations.LinkRecordCommits
  exact fun s ses item g =>
    ⟨fun p hc => ⟨portEnable_answers s ses item g p hc, portDisable_answers s ses item g p hc⟩,
      fun k hc => ⟨sliceTableLoad_answers s ses item g k hc, sliceTableRemove_answers s ses item g k hc⟩,
      collLayoutLoad_answers s ses item g⟩

end Sys2Proof.Machine

/-! Commits of queue and event-queue records (R420, R425). -/

namespace Sys2Proof.Machine

theorem objItem_queue (p : PartNo) : objItem (partIndex p 0x24) = some (0x6024, p.val) := by
  revert p
  decide +kernel

theorem objItem_evq (p : PartNo) : objItem (partIndex p 0x25) = some (0x6025, p.val) := by
  revert p
  decide +kernel

theorem objItem_devEvq : objItem 0x1100 = some (0x1100, 0) := by decide

theorem applyRecord_queue (d : Device) (o : Obj) (item : Nat) (g : Nat → Nat) (bs : List Byte) (v : Nat) (h : o.at_ = (0x6024, 0xFF)) :
    d.applyRecord o item g bs v = d.applyQueue g (objPart 0x6024 item) v := by
  unfold Device.applyRecord
  rw [h]
  rfl

theorem applyRecord_evq (d : Device) (o : Obj) (item : Nat) (g : Nat → Nat) (bs : List Byte) (v : Nat) (h : o.at_ = (0x6025, 0xFF)) :
    d.applyRecord o item g bs v = d.applyEvq g (.vf (objPart 0x6025 item)) v := by
  unfold Device.applyRecord
  rw [h]
  rfl

theorem applyRecord_devEvq (d : Device) (o : Obj) (item : Nat) (g : Nat → Nat) (bs : List Byte) (v : Nat) (h : o.at_ = (0x1100, 0xFF)) :
    d.applyRecord o item g bs v = d.applyEvq g .pf0 v := by
  unfold Device.applyRecord
  rw [h]
  rfl

theorem Device.Committed.queues {d e : Device} (h : d.Committed e) (p : PartNo) : (e.parts[p]).queues = (d.parts[p]).queues := by
  rw [h.part p]

theorem Device.Committed.evq {d e : Device} (h : d.Committed e) (p : PartNo) : (e.parts[p]).evq = (d.parts[p]).evq := by rw [h.part p]

theorem Device.Committed.devEvq {d e : Device} (h : d.Committed e) : e.devEvq = d.devEvq := by rw [h.rest]

theorem modQueue_get (d : Device) (p : PartNo) (n : QueueNo) (f : Queue → Queue) :
    ((d.modQueue p n f).parts[p]).queues[n] = f ((d.parts[p]).queues[n]) := by
  unfold Device.modQueue
  rw [modPart_get]
  exact Vector.getElem_set_self n.isLt

section
variable (s : State) (ses : SessId) (p : PartNo) (item : Nat) (g : Nat → Nat)

theorem queueCreate_answers (n : QueueNo) (hc : s.dev.commits ses (partIndex p 0x24) item g) (hn : g 1 = n.val)
    (hst : ((s.dev.parts[p]).queues[n]).st = 0) (hsq : g 2 % 4096 = 0) (hcq : g 3 % 4096 = 0) (hlo : 4 ≤ g 4) (hhi : g 4 ≤ 12)
    (hvec : g 5 ≤ 123) :
    answersOk (.queueCreate ses p) ses s (fun d => (d.parts[p]).queues[n] =
      { Queue.reset with st := 1, sqBase := BitVec.ofNat 64 (g 2), cqBase := BitVec.ofNat 64 (g 3), log2 := g 4, vector := g 5 }) := by
  have hrun (d : Device) (h : ((d.parts[p]).queues[n]).st = 0) : d.applyQueue g p 1 = (.ok, d.modQueue p n (fun _ =>
      { Queue.reset with st := 1, sqBase := BitVec.ofNat 64 (g 2), cqBase := BitVec.ofNat 64 (g 3), log2 := g 4, vector := g 5 })) := by
    unfold Device.applyQueue
    rw [if_neg (by rw [hn]; simp; omega)]
    dsimp only
    simp only [show (fin (g 1) : QueueNo) = n by rw [hn, fin_val]]
    rw [if_pos trivial, if_neg (not_not.mpr h), if_neg (by omega)]
  refine answersOk_of_applyRecord rfl hc (by decide) (objItem_queue p) (fun o S hat => ?_)
  rw [applyRecord_queue _ _ _ _ _ _ hat, objPart_part _ _ (by decide), hrun (s.dev.withSessions S) hst]
  refine ⟨_, rfl, (commits_live hc :), fun u hu => ?_⟩
  rw [hu.queues, modQueue_get]

theorem queueDelete_answers (n : QueueNo) (hc : s.dev.commits ses (partIndex p 0x24) item g) (hn : g 1 = n.val)
    (hst : ((s.dev.parts[p]).queues[n]).st ≠ 0) (hstarted : ((s.dev.parts[p]).queues[n]).started = [])
    (hwaiting : ((s.dev.parts[p]).queues[n]).waiting = [])
    (hempty : ((s.dev.parts[p]).queues[n]).st = 1 → ((s.dev.parts[p]).queues[n]).head = ((s.dev.parts[p]).queues[n]).tail) :
    answersOk (.queueDelete ses p) ses s (fun d => (d.parts[p]).queues[n] = Queue.reset) := by
  have hrun (d : Device) (h : (d.parts[p]).queues[n] = (s.dev.parts[p]).queues[n]) :
      d.applyQueue g p 0 = (.ok, d.modQueue p n (fun _ => Queue.reset)) := by
    unfold Device.applyQueue
    rw [if_neg (by rw [hn]; simp; omega)]
    dsimp only
    simp only [show (fin (g 1) : QueueNo) = n by rw [hn, fin_val]]
    rw [if_neg (by decide), h, if_neg hst, hstarted, hwaiting, if_neg]
    simpa using hempty
  refine answersOk_of_applyRecord rfl hc (by decide) (objItem_queue p) (fun o S hat => ?_)
  rw [applyRecord_queue _ _ _ _ _ _ hat, objPart_part _ _ (by decide), hrun (s.dev.withSessions S) rfl]
  refine ⟨_, rfl, (commits_live hc :), fun u hu => ?_⟩
  rw [hu.queues, modQueue_get]

theorem queueDelete_busy (n : QueueNo) (hc : s.dev.commits ses (partIndex p 0x24) item g) (hn : g 1 = n.val)
    (hst : ((s.dev.parts[p]).queues[n]).st = 1) (hne : ((s.dev.parts[p]).queues[n]).head ≠ ((s.dev.parts[p]).queues[n]).tail) :
    ∃ u, exec (.queueDelete ses p) s = .next u ∧ u.dev.answered ses = 0x0102 ∧
      (u.dev.parts[p]).queues[n] = (s.dev.parts[p]).queues[n] := by
  have hrun (d : Device) (h : (d.parts[p]).queues[n] = (s.dev.parts[p]).queues[n]) : d.applyQueue g p 0 = (.queueBusy, d) := by
    unfold Device.applyQueue
    rw [if_neg (by rw [hn]; simp; omega)]
    dsimp only
    simp only [show (fin (g 1) : QueueNo) = n by rw [hn, fin_val]]
    rw [if_neg (by decide), h, hst, if_neg (by decide), if_pos]
    simp only [Fin.isValue, ne_eq, hne, not_false_eq_true, decide_true, Bool.and_true, Bool.or_true]
  obtain ⟨rfl, -, o, e, hat, he, hrest⟩ := commitReq_applies hc 0 (by decide) (objItem_queue p)
  have hsame : (e.parts[p]).queues[n] = (s.dev.parts[p]).queues[n] := by rw [he]
  have hlive : e.live = true := by
    rw [he]
    exact (commits_live hc :)
  obtain ⟨hanswer, -, hreplied⟩ := hrest (.queueBusy, e)
    (by rw [applyRecord_queue _ _ _ _ _ _ hat, objPart_part _ _ (by decide), hrun e hsame]) hlive
  refine ⟨{ s with dev := s.dev.commitReq ses (partIndex p 0x24) 0 }, ?_, hanswer, ?_⟩
  · change onLive (fun d => d.commitReq ses (partIndex p 0x24) 0) s = _
    rw [onLive_live _ _ (commits_live hc)]
  · have := (hreplied St.noConfusion).part p
    dsimp only at this ⊢
    rw [this]
    exact hsame

theorem evqOn_answers (hc : s.dev.commits ses (partIndex p 0x25) item g) (hbase : g 1 % 4096 = 0) (hlo : 6 ≤ g 2) (hhi : g 2 ≤ 14)
    (hvec : g 3 ≤ 123) :
    answersOk (.evqOn ses p) ses s (fun d => (d.parts[p]).evq =
      { Evq.reset with on := true, base := BitVec.ofNat 64 (g 1), log2 := g 2, vector := g 3 }) := by
  have hrun (d : Device) : d.applyEvq g (.vf p) 1 = (.ok, d.modPart p (fun q =>
      { q with evq := { Evq.reset with on := true, base := BitVec.ofNat 64 (g 1), log2 := g 2, vector := g 3 } })) := by
    unfold Device.applyEvq
    dsimp only
    rw [if_pos rfl, if_neg (by omega)]
    rfl
  refine answersOk_of_applyRecord rfl hc (by decide) (objItem_evq p) (fun o S hat => ?_)
  rw [applyRecord_evq _ _ _ _ _ _ hat, objPart_part _ _ (by decide), hrun]
  refine ⟨_, rfl, (commits_live hc :), fun u hu => ?_⟩
  rw [hu.evq, modPart_get]

theorem evqOff_answers (hc : s.dev.commits ses (partIndex p 0x25) item g) :
    answersOk (.evqOff ses p) ses s (fun d => (d.parts[p]).evq = { (s.dev.parts[p]).evq with on := false }) := by
  have hrun (d : Device) : d.applyEvq g (.vf p) 0 = (.ok, d.modPart p (fun q => { q with evq := { (d.parts[p]).evq with on := false } })) := rfl
  refine answersOk_of_applyRecord rfl hc (by decide) (objItem_evq p) (fun o S hat => ?_)
  rw [applyRecord_evq _ _ _ _ _ _ hat, objPart_part _ _ (by decide), hrun]
  refine ⟨_, rfl, (commits_live hc :), fun u hu => ?_⟩
  rw [hu.evq, modPart_get]
  rfl

theorem devEvqOn_answers (hc : s.dev.commits ses 0x1100 item g) (hbase : g 1 % 4096 = 0) (hlo : 6 ≤ g 2) (hhi : g 2 ≤ 14)
    (hvec : g 3 ≤ 63) :
    answersOk (.devEvqOn ses) ses s (fun d => d.devEvq =
      { Evq.reset with on := true, base := BitVec.ofNat 64 (g 1), log2 := g 2, vector := g 3 }) := by
  have hrun (d : Device) : d.applyEvq g .pf0 1 = (.ok,
      { d with devEvq := { Evq.reset with on := true, base := BitVec.ofNat 64 (g 1), log2 := g 2, vector := g 3 } }) := by
    unfold Device.applyEvq
    dsimp only
    rw [if_pos rfl, if_neg (by omega)]
    rfl
  refine answersOk_of_applyRecord rfl hc (by decide) objItem_devEvq (fun o S hat => ?_)
  rw [applyRecord_devEvq _ _ _ _ _ _ hat, hrun]
  exact ⟨_, rfl, (commits_live hc :), fun u hu => hu.devEvq⟩

theorem devEvqOff_answers (hc : s.dev.commits ses 0x1100 item g) :
    answersOk (.devEvqOff ses) ses s (fun d => d.devEvq = { s.dev.devEvq with on := false }) := by
  have hrun (d : Device) : d.applyEvq g .pf0 0 = (.ok, { d with devEvq := { d.devEvq with on := false } }) := rfl
  refine answersOk_of_applyRecord rfl hc (by decide) objItem_devEvq (fun o S hat => ?_)
  rw [applyRecord_devEvq _ _ _ _ _ _ hat, hrun]
  exact ⟨_, rfl, (commits_live hc :), fun u hu => hu.devEvq⟩

end

/-- Settles O44, record by record: what a commit leaves of its queue, through the answer; a refused delete changes only the answer. -/
theorem queueCommits : Obligations.QueueCommits := by
  unfold Obligations.QueueCommits
  exact fun s ses p item g =>
    ⟨fun n hc hn => ⟨queueCreate_answers s ses p item g n hc hn, queueDelete_answers s ses p item g n hc hn,
        queueDelete_busy s ses p item g n hc hn⟩,
      fun hc => ⟨evqOn_answers s ses p item g hc, evqOff_answers s ses p item g hc⟩,
      fun hc => ⟨devEvqOn_answers s ses item g hc, devEvqOff_answers s ses item g hc⟩⟩

end Sys2Proof.Machine

/-! Writes of single objects and of whole DOMAINs (R431, R435): what the request leaves is what the object's own write leaves, answered. -/

namespace Sys2Proof.Machine

theorem expireAt_rights (x : Session) (now : W64) (index : Nat) :
    (x.expireAt now index).owner = x.owner ∧ (x.expireAt now index).peerOk = x.peerOk := by
  unfold Session.expireAt
  dsimp only
  split
  · split
    · exact ⟨rfl, rfl⟩
    · exact ⟨rfl, rfl⟩
  · exact ⟨rfl, rfl⟩

theorem looked_sameRights (d : Device) (ses : SessId) (index : Nat) : d.SameRights ses (d.looked ses index) :=
  (heard_sameAgent d ses).toSameRights.trans (.of_modSession _ _ _ (fun x => expireAt_rights x _ _))

/-- A numeric object of `len` bytes that takes every value, and takes it at once. -/
def Obj.plain (o : Obj) (len : Nat) : Bool :=
  decide (o.ty.len = some len) && decide (o.ty ≠ .bool) && decide (o.ty ≠ .f32) && !isPeer o && !(o.at_.2 = 0xFF && isRecord o.at_.1) &&
    !staged o && decide (o.oor ≠ .clamp) && decide (o.acc ≠ .ro) && decide (o.acc ≠ .konst)

/-- The row of an index and sub-index is that of item `n` of the object at `base`, and satisfies `f`. -/
def rowIs (index sub base n : Nat) (f : Obj → Bool) : Bool :=
  match objOf index sub with
  | some x => decide (x.1.at_ = (base, sub)) && decide (x.2 = n) && f x.1
  | none => false

theorem rowIs_obj {index sub base n : Nat} {f : Obj → Bool} (h : rowIs index sub base n f = true) :
    ∃ o, objOf index sub = some (o, n) ∧ o.at_ = (base, sub) ∧ f o = true := by
  unfold rowIs at h
  cases hx : objOf index sub with
  | none => rw [hx] at h; exact absurd h Bool.false_ne_true
  | some x =>
    obtain ⟨o, item⟩ := x
    rw [hx] at h
    simp only [Bool.and_eq_true, decide_eq_true_eq] at h
    obtain ⟨⟨hat, rfl⟩, hf⟩ := h
    exact ⟨o, rfl, hat, hf⟩

theorem valid_of_plain {o : Obj} {len : Nat} (h : o.plain len = true) (v : Nat) : o.ty.valid v = true := by
  unfold Obj.plain at h
  simp only [Bool.and_eq_true, decide_eq_true_eq] at h
  obtain ⟨⟨⟨⟨⟨⟨⟨⟨-, hbool⟩, hf32⟩, -⟩, -⟩, -⟩, -⟩, -⟩, -⟩ := h
  cases ht : o.ty with
  | bool => exact absurd ht hbool
  | f32 => exact absurd ht hf32
  | _ => rfl

theorem writeObj_plain (d : Device) (ses : SessId) (index : Nat) (bytes : List Byte) (o : Obj) (item : Nat)
    (h : o.plain bytes.length = true) :
    (d.writeObj ses index bytes o item).st = (d.setObj o.at_.1 o.at_.2 item (leNat bytes)).1 ∧
      (d.writeObj ses index bytes o item).dev = (d.setObj o.at_.1 o.at_.2 item (leNat bytes)).2 := by
  have hvalid := valid_of_plain h (leNat bytes)
  unfold Obj.plain at h
  simp only [Bool.and_eq_true, decide_eq_true_eq, Bool.not_eq_true'] at h
  obtain ⟨⟨⟨⟨⟨⟨⟨⟨hlen, -⟩, -⟩, hpeer⟩, hrec⟩, hstaged⟩, hclamp⟩, -⟩, -⟩ := h
  unfold Device.writeObj
  dsimp only
  rw [if_neg (not_not.mpr hlen), hvalid, hpeer, hrec, hstaged, if_neg hclamp]
  exact ⟨rfl, rfl⟩

theorem writable_of_plain {o : Obj} {len : Nat} (h : o.plain len = true) : o.acc ≠ .ro ∧ o.acc ≠ .konst := by
  unfold Obj.plain at h
  simp only [Bool.and_eq_true, decide_eq_true_eq] at h
  exact ⟨h.1.2, h.2⟩

/-- A write of a plain object sets it on the part as it stands, whose sessions alone differ, and is answered. -/
theorem writeReq_sets {d : Device} {ses : SessId} {index sub base n : Nat} {bytes : List Byte} (h : d.agent ses index sub true = true)
    (hrow : rowIs index sub base n (fun o => o.plain bytes.length) = true) (hshort : bytes.length ≤ 4080) :
    ∃ S, ∀ r : St × Device, (d.withSessions S).setObj base sub n (leNat bytes) = r →
      r.2.Replied (d.writeReq ses 0 index sub bytes) ∧ (r.2.live = true → (d.writeReq ses 0 index sub bytes).answered ses = r.1.code) := by
  obtain ⟨hlive, hserves, hopen, o, item, ho, hopenness, hreach⟩ := agent_parts h
  obtain ⟨o', ho', hat, hplain⟩ := rowIs_obj hrow
  obtain ⟨rfl, rfl⟩ : o' = o ∧ n = item := by
    rw [ho, Option.some.injEq, Prod.mk.injEq] at ho'
    exact ⟨ho'.1.symm, ho'.2.symm⟩
  have hsame := looked_sameRights d ses index
  refine ⟨(d.looked ses index).sessions, fun r hr => ?_⟩
  obtain ⟨hst, hdev⟩ := writeObj_plain (d.looked ses index) ses index bytes o' n hplain
  rw [hat] at hst hdev
  have hpasses := checked_passes false true (fun o item => (d.looked ses index).writeObj ses index bytes o item) ho
    ((hsame.openness _).trans hopenness) Bool.noConfusion (fun _ => writable_of_plain hplain) ((hsame.reaches _ _ _).trans hreach)
  obtain ⟨hreplied, hanswer⟩ : _ ∧ (_ → (d.writeReq ses 0 index sub bytes).answered ses = _) :=
    request_answers d ses 0x02 0 _ hserves hopen _ (Eq.trans (if_neg (Nat.not_lt.mpr hshort)) hpasses)
  have hlooked : d.withSessions (d.looked ses index).sessions = d.looked ses index := rfl
  rw [hlooked] at hr
  rw [hr] at hst hdev
  rw [hst] at hanswer
  rw [hdev] at hreplied hanswer
  exact ⟨hreplied, hanswer⟩

/-- A command that writes a plain object is answered OK where the write is, and leaves what the write leaves. -/
theorem answersOk_of_setObj {c : Instr} {s : State} {ses : SessId} {index sub base n : Nat} {bytes : List Byte} {post : Device → Prop}
    (hrun : exec c s = onLive (fun d => d.writeReq ses 0 index sub bytes) s) (h : s.dev.agent ses index sub true = true)
    (hrow : rowIs index sub base n (fun o => o.plain bytes.length) = true) (hshort : bytes.length ≤ 4080)
    (hset : ∀ S, ∃ w : Device, (s.dev.withSessions S).setObj base sub n (leNat bytes) = (.ok, w) ∧ w.live = true ∧
      ∀ u, w.Replied u → post u) : answersOk c ses s post := by
  obtain ⟨S, hS⟩ := writeReq_sets h hrow hshort
  obtain ⟨w, hw, hlive, hpost⟩ := hset S
  obtain ⟨hreplied, hanswer⟩ := hS _ hw
  refine ⟨{ s with dev := s.dev.writeReq ses 0 index sub bytes }, ?_, rfl, hanswer hlive, hpost _ hreplied⟩
  rw [hrun, onLive_live _ _ (agent_parts h).1]

/-- A DOMAIN that is written, and takes effect at once. -/
def Obj.domain (o : Obj) : Bool := !staged o && decide (o.acc ≠ .ro) && decide (o.acc ≠ .konst)

/-- A command that writes a DOMAIN is answered OK where the write is, and leaves what the write leaves. -/
theorem answersOk_of_setBlob {c : Instr} {s : State} {ses : SessId} {index sub base n : Nat} {bs : List Byte} {post : Device → Prop}
    (hrun : exec c s = onLive (fun d => d.writeWhole ses index sub bs) s) (h : s.dev.agent ses index sub true = true)
    (hrow : rowIs index sub base n Obj.domain = true)
    (hset : ∀ (o : Obj) S, o.at_ = (base, sub) → staged o = false →
      ∃ w : Device, (s.dev.withSessions S).setBlob ses index o n bs = (.ok, w) ∧ w.live = true ∧ ∀ u, w.Replied u → post u) :
    answersOk c ses s post := by
  obtain ⟨hlive, hserves, hopen, o, item, ho, hopenness, hreach⟩ := agent_parts h
  obtain ⟨o', ho', hat, hdomain⟩ := rowIs_obj hrow
  obtain ⟨rfl, rfl⟩ : o' = o ∧ n = item := by
    rw [ho, Option.some.injEq, Prod.mk.injEq] at ho'
    exact ⟨ho'.1.symm, ho'.2.symm⟩
  unfold Obj.domain at hdomain
  simp only [Bool.and_eq_true, decide_eq_true_eq, Bool.not_eq_true'] at hdomain
  obtain ⟨⟨hstaged, hro⟩, hkonst⟩ := hdomain
  have hsame := (heard_sameAgent s.dev ses).toSameRights
  obtain ⟨w, hw, hwlive, hpost⟩ := hset o' (s.dev.heard ses).sessions hat hstaged
  have hpasses := checked_passes false true (fun o item =>
      (⟨((s.dev.heard ses).setBlob ses index o item bs).1, o.ty.code, [], ((s.dev.heard ses).setBlob ses index o item bs).2⟩ : Answer)) ho
    ((hsame.openness _).trans hopenness) Bool.noConfusion (fun _ => ⟨hro, hkonst⟩) ((hsame.reaches _ _ _).trans hreach)
  have hheard : s.dev.withSessions (s.dev.heard ses).sessions = s.dev.heard ses := rfl
  rw [hheard] at hw
  rw [hw] at hpasses
  obtain ⟨hreplied, hanswer⟩ : _ ∧ (_ → (s.dev.writeWhole ses index sub bs).answered ses = _) :=
    request_answers s.dev ses 0x04 0 _ hserves hopen _ hpasses
  refine ⟨{ s with dev := s.dev.writeWhole ses index sub bs }, ?_, rfl, hanswer hwlive, hpost _ hreplied⟩
  rw [hrun, onLive_live _ _ hlive]

end Sys2Proof.Machine

/-! Counter sets, alarms, trace, freeze and scan (R448, R450, R454, R457, R458). -/

namespace Sys2Proof.Machine

/-! ### Little-endian numbers -/

theorem leNat_leBytes (n v : Nat) : leNat (leBytes n v) = v % 256 ^ n := by
  induction n generalizing v with
  | zero => simp [leBytes, leNat, Nat.mod_one]
  | succ n ih =>
    have hb : (BitVec.ofNat 8 v).toNat = v % 256 := BitVec.toNat_ofNat ..
    simp only [leBytes, leNat, ih, hb]
    rw [Nat.pow_succ']
    exact Nat.mod_mul.symm

theorem leNat_append (a b : List Byte) : leNat (a ++ b) = leNat a + 256 ^ a.length * leNat b := by
  induction a with
  | nil => simp [leNat]
  | cons x a ih =>
    simp only [List.cons_append, leNat, ih, List.length_cons, Nat.pow_succ']
    ring

theorem leNat_ofWord {w : Nat} (v : BitVec w) (n : Nat) (h : 2 ^ w ≤ 256 ^ n) : leNat (leBytes n v.toNat) = v.toNat := by
  rw [leNat_leBytes, Nat.mod_eq_of_lt (Nat.lt_of_lt_of_le v.isLt h)]

/-! ### The objects -/

/-- The indices of the counter sets are the items of one row. -/
theorem objItem_cset (k : Fin 32) : objItem (0x8800 + k.val) = some (0x8800, k.val) := by
  revert k
  decide +kernel

theorem rowIs_csetBase (n : Fin 8) : rowIs 0x8800 (n.val + 1) 0x8800 0 (fun o => o.plain 4) = true := by
  revert n
  decide +kernel

theorem row_cset (k : Fin 32) (n : Fin 8) : rowIs (0x8800 + k.val) (n.val + 1) 0x8800 k.val (fun o => o.plain 4) = true := by
  have h0 := rowIs_csetBase n
  have hz : objItem 0x8800 = some (0x8800, 0) := objItem_cset 0
  simp only [rowIs, objOf, objItem_cset k, hz] at h0 ⊢
  cases hf : objTable.find? (fun o => o.at_ = (0x8800, n.val + 1)) with
  | none => simp [hf] at h0
  | some o => simpa [hf] using h0

theorem setObj_cset (d : Device) (sub item v : Nat) : d.setObj 0x8800 sub item v = d.csetWrite (fin item) (fin (sub - 1)) v := rfl

theorem setObj_alarmAck (d : Device) (v : Nat) : d.setObj 0xA000 3 0 v = d.alarmAck v := rfl

theorem setObj_traceTrigger (d : Device) (v : Nat) : d.setObj 0xA200 7 0 v = d.traceTrigger v := rfl

theorem setObj_traceArm (d : Device) (v : Nat) : d.setObj 0xA200 8 0 v = d.traceArm v := rfl

theorem setObj_dbgFreeze (d : Device) (v : Nat) : d.setObj 0xA300 1 0 v = d.dbgFreeze v := rfl

namespace Device.Replied
variable {d e : Device} (h : d.Replied e)
include h

theorem csets : e.csets = d.csets := by rw [h.rest]
theorem alarms : e.alarms = d.alarms := by rw [h.rest]
theorem trace : e.trace = d.trace := by rw [h.rest]

end Device.Replied

/-- The part is live where the agent takes a request. -/
theorem agent_live {d : Device} {ses : SessId} {index sub : Nat} {write : Bool} (h : d.agent ses index sub write = true) : d.live = true :=
  (agent_parts h).1

/-! ### The writes -/

section
variable (s : State) (ses : SessId)

theorem counterSetControlWrite_answers (k : Fin 32) (n : Fin 8) (v : W32)
    (h : s.dev.agent ses (0x8800 + k.val) (n.val + 1) true = true) (hok : csetCtlOk v.toNat = true) :
    answersOk (.counterSetControlWrite ses k n v) ses s (fun d => (d.csets[k])[n] = { ctl := BitVec.ofNat 32 (v.toNat % 2 ^ 23), cnt := 0 }) := by
  refine answersOk_of_setObj (bytes := leBytes 4 v.toNat) rfl h (by rw [length_leBytes]; exact row_cset k n) (by rw [length_leBytes]; decide)
    (fun S => ?_)
  rw [setObj_cset, leNat_ofWord v 4 (by decide), fin_val, Nat.add_sub_cancel, fin_val]
  unfold Device.csetWrite
  rw [if_pos hok]
  refine ⟨_, rfl, (agent_live h :), fun u hu => ?_⟩
  rw [hu.csets]
  simp

theorem alarmAck_answers (code source : W16) (a : Alarm) (rest : List Alarm) (h : s.dev.agent ses 0xA000 3 true = true)
    (halarms : s.dev.alarms = a :: rest) (hcode : a.code = code) (hsource : a.source = source) :
    answersOk (.alarmAck ses code source) ses s (fun d => d.alarms = { a with active := false } :: rest) := by
  have hv : leNat (leBytes 2 code.toNat ++ leBytes 2 source.toNat) = code.toNat + 2 ^ 16 * source.toNat := by
    rw [leNat_append, leNat_ofWord code 2 (by decide), leNat_ofWord source 2 (by decide), length_leBytes]
    rfl
  refine answersOk_of_setObj (bytes := leBytes 2 code.toNat ++ leBytes 2 source.toNat) (base := 0xA000) (n := 0) rfl h
    (by rw [List.length_append, length_leBytes, length_leBytes]; decide +kernel)
    (by rw [List.length_append, length_leBytes, length_leBytes]; decide) (fun S => ?_)
  have hfirst : firstIdx (fun (a : Alarm) => a.code.toNat = (code.toNat + 2 ^ 16 * source.toNat) % 2 ^ 16 &&
      a.source.toNat = (code.toNat + 2 ^ 16 * source.toNat) / 2 ^ 16) (s.dev.withSessions S).alarms = some 0 := by
    have hlo : (code.toNat + 2 ^ 16 * source.toNat) % 2 ^ 16 = code.toNat := by
      have := code.isLt
      omega
    have hhi : (code.toNat + 2 ^ 16 * source.toNat) / 2 ^ 16 = source.toNat := by
      have := code.isLt
      omega
    change firstIdx _ s.dev.alarms = _
    rw [hlo, hhi, halarms, firstIdx, List.findIdx?_cons, if_pos (by simp [hcode, hsource])]
  rw [setObj_alarmAck, hv]
  unfold Device.alarmAck
  rw [hfirst]
  refine ⟨_, rfl, (agent_live h :), fun u hu => ?_⟩
  rw [hu.alarms]
  change s.dev.alarms.modify 0 _ = _
  rw [halarms]
  rfl

theorem traceTrigger_answers (h : s.dev.agent ses 0xA200 7 true = true) :
    answersOk (.traceTrigger ses 1) ses s (fun d => d.trace = s.dev.trace.trig) :=
  answersOk_of_setObj (bytes := [1]) (base := 0xA200) (n := 0) rfl h (by decide +kernel) (by decide)
    (fun S => ⟨{ s.dev.withSessions S with trace := s.dev.trace.trig }, rfl, (agent_live h :), fun _ hu => hu.trace⟩)

theorem traceArm_answers (h : s.dev.agent ses 0xA200 8 true = true) :
    answersOk (.traceArm ses 1) ses s (fun d => d.trace.st = 0 ∧ d.trace.buf = [] ∧ d.trace.mode = s.dev.cfg 0xA200 1 0 ∧
      d.trace.sizeMib = s.dev.cfg 0xA200 2 0 ∧ d.trace.pre = s.dev.cfg 0xA200 3 0) := by
  refine answersOk_of_setObj (bytes := [1]) (base := 0xA200) (n := 0) rfl h (by decide +kernel) (by decide) (fun S => ?_)
  refine ⟨((s.dev.withSessions S).traceArm 1).2, rfl, (agent_live h :), fun _ hu => ?_⟩
  rw [hu.trace]
  exact ⟨rfl, rfl, rfl, rfl, rfl⟩

theorem dbgFreeze_freezes (h : s.dev.agent ses 0xA300 1 true = true) :
    ∃ u, exec (.dbgFreeze ses 1) s = .next u ∧ u.dev.rst.frozen = true ∧ u.dev.tiles = s.dev.tiles ∧ u.dev.live = false := by
  obtain ⟨S, hS⟩ := writeReq_sets (bytes := [1]) h (base := 0xA300) (n := 0) (by decide +kernel) (by decide)
  obtain ⟨hreplied, -⟩ := hS _ rfl
  have hrun : ((s.dev.withSessions S).setObj 0xA300 1 0 (leNat [1])).2 =
      { s.dev.withSessions S with rst := { s.dev.rst with frozen := true }, trace := s.dev.trace.freezeNow } := by
    change (s.dev.withSessions S).freeze = _
    unfold Device.freeze
    exact if_pos (agent_live h :)
  rw [hrun] at hreplied
  refine ⟨{ s with dev := s.dev.writeReq ses 0 0xA300 1 [1] }, ?_, ?_, hreplied.tiles, ?_⟩
  · change onLive (fun d => d.writeReq ses 0 0xA300 1 [1]) s = _
    rw [onLive_live _ _ (agent_live h)]
  · dsimp only
    rw [hreplied.rst]
  · dsimp only
    rw [hreplied.live]
    exact Bool.and_false _

end

theorem freezeNAssert_next (s : State) (hl : s.dev.live = true) :
    exec .freezeNAssert s = .next { s with dev :=
      { s.dev with rst := { s.dev.rst with frozen := true }, trace := s.dev.trace.freezeNow } } := by
  change Host.Outcome.next { s with dev := s.dev.freeze } = _
  unfold Device.freeze
  rw [if_pos hl]

theorem jtagScan_next (s : State) (i : Bool) : ∃ u, exec (.jtagScan i) s = .next u ∧ u.dev.scan.frozen = s.dev.rst.frozen ∧
    (s.dev.rst.frozen = false → u.dev.scan.tiles = []) ∧
    u.dev.scan.tiles.map (·.mm) = (if i && s.dev.rst.frozen && Config.debugFuse then
      s.dev.tiles.toList.map (fun (x : Tile) => x.mm.stateWord) else []) ∧ u.dev.tiles = s.dev.tiles := by
  refine ⟨{ s with dev := s.dev.jtagScan i }, rfl, rfl, fun hf => ?_, ?_, rfl⟩
  · exact if_neg (by simp [hf])
  · change List.map _ (if _ then s.dev.tiles.toList.map Tile.scanned else []) = _
    rw [apply_ite (List.map _), List.map_map]
    rfl

/-- Settles O45: the writes through the answer, and the pins by what they do to reset and trace alone. -/
theorem observationWrites : Obligations.ObservationWrites := by
  unfold Obligations.ObservationWrites
  refine fun s ses => ⟨counterSetControlWrite_answers s ses, alarmAck_answers s ses, traceTrigger_answers s ses, traceArm_answers s ses,
    dbgFreeze_freezes s ses, freezeNAssert_next s, jtagScan_next s, fun hl hst hpost => ?_⟩
  change onLive (fun d => { d with trace := d.trace.fill }) s = _
  rw [onLive_live _ _ hl]
  unfold Trace.fill
  rw [if_pos ⟨hst, hpost⟩]

end Sys2Proof.Machine

/-! Owner writes to fitting and retirement objects, and rst.command (R295, R386 to R388, R394). -/

namespace Sys2Proof.Machine

/-! ### Objects and DOMAINs -/

theorem setObj_fitRequest (d : Device) (v : Nat) : d.setObj 0x5400 5 0 v = d.fitRequest v := rfl

theorem setObj_rstCommand (d : Device) (v : Nat) : d.setObj 0x1010 5 0 v = d.applyRst v := rfl

section
variable (d : Device) (ses : SessId) (index item : Nat) (o : Obj) (bs : List Byte) (hs : staged o = false)
include hs

theorem setBlob_bundle (hat : o.at_ = (0x5400, 3)) : d.setBlob ses index o item bs = d.bundleWrite bs := by
  unfold Device.setBlob
  rw [hs, hat]
  rfl

theorem setBlob_retiredTiles (hat : o.at_ = (0x5400, 0x0A)) : d.setBlob ses index o item bs = d.retiredTilesWrite bs := by
  unfold Device.setBlob
  rw [hs, hat]
  rfl

theorem setBlob_retiredPages (hat : o.at_ = (0x4000, 6)) : d.setBlob ses index o item bs = d.retiredPagesWrite bs := by
  unfold Device.setBlob
  rw [hs, hat]
  rfl

end

/-! ### Health -/

/-- A tile fallen due (R388). -/
def Health.fallDue (h : Health) : Health := { h with due := true }

/-- A tile or patch tile falls due, where it is not retired. -/
def Device.fallDue (d : Device) (x : PhysNo) : Device := if (d.health[x]).role.val < 2 then d.modHealth x Health.fallDue else d

theorem fallDue_role (d : Device) (x y : PhysNo) : ((d.fallDue x).health[y]).role = (d.health[y]).role := by
  unfold Device.fallDue
  split
  · by_cases h : y = x
    · subst h
      rw [modHealth_get]
      rfl
    · rw [modHealth_get_ne _ _ _ _ h]
  · rfl

theorem fallDue_due (d : Device) (x y : PhysNo) (h : (d.health[y]).due = true) : ((d.fallDue x).health[y]).due = true := by
  unfold Device.fallDue
  split
  · by_cases hy : y = x
    · subst hy
      rw [modHealth_get]
      rfl
    · rw [modHealth_get_ne _ _ _ _ hy]
      exact h
  · exact h

/-- Every tile of a list that is not retired is due at the end; one that was due stays due. -/
theorem foldl_fallDue (l : List PhysNo) : ∀ d : Device, ∀ y : PhysNo,
    ((d.health[y]).due = true ∨ (y ∈ l ∧ (d.health[y]).role.val < 2)) → ((l.foldl Device.fallDue d).health[y]).due = true := by
  induction l with
  | nil => exact fun d y h => h.elim id (fun h => absurd h.1 (List.not_mem_nil))
  | cons x l ih =>
    intro d y h
    rw [List.foldl_cons]
    refine ih _ _ ?_
    rcases h with hdue | ⟨hmem, hrole⟩
    · exact .inl (fallDue_due d x y hdue)
    · rcases List.mem_cons.mp hmem with rfl | hmem
      · left
        unfold Device.fallDue
        rw [if_pos hrole, modHealth_get]
        rfl
      · exact .inr ⟨hmem, by rw [fallDue_role]; exact hrole⟩

theorem foldl_fallDue_rst (l : List PhysNo) (d : Device) : (l.foldl Device.fallDue d).rst = d.rst := by
  refine foldl_related (R := fun d e : Device => e.rst = d.rst) (fun _ => rfl) (fun h k => k.trans h) (fun d x => ?_) l d
  unfold Device.fallDue
  split
  · rfl
  · rfl

theorem fitRequest_all (d : Device) (hnone : d.noContexts = true) : ∃ w, d.fitRequest 0xFFFF = (.ok, w) ∧ w.rst = d.rst ∧
    ∀ x ∈ tileStops, (d.health[x]).role.val < 2 → (w.health[x]).due = true := by
  unfold Device.fitRequest
  rw [if_pos rfl, if_pos hnone]
  refine ⟨tileStops.foldl Device.fallDue d, ?_, foldl_fallDue_rst tileStops d, fun x hx hrole => foldl_fallDue tileStops d x (.inr ⟨hx, hrole⟩)⟩
  generalize tileStops = l
  rfl

/-! ### Retirement lists -/

/-- `e` is `d` but for the places of tiles and reserved pages, and what is reported: the retirement lists and what waits for retirement stay. -/
structure Device.KeepsRetired (d e : Device) : Prop where
  tiles : e.retiredTiles = d.retiredTiles
  pages : e.retiredPages = d.retiredPages
  dueRetire : e.dueRetire = d.dueRetire
  rst : e.rst = d.rst

namespace Device.KeepsRetired
variable {a b c d e : Device}

theorem refl (d : Device) : d.KeepsRetired d := ⟨rfl, rfl, rfl, rfl⟩

theorem trans (h : a.KeepsRetired b) (k : b.KeepsRetired c) : a.KeepsRetired c :=
  ⟨k.tiles.trans h.tiles, k.pages.trans h.pages, k.dueRetire.trans h.dueRetire, k.rst.trans h.rst⟩

theorem foldl {α : Type} (f : Device → α → Device) (hf : ∀ (d : Device) (a : α), d.KeepsRetired (f d a)) (l : List α) (d : Device) :
    d.KeepsRetired (l.foldl f d) :=
  foldl_related (R := Device.KeepsRetired) .refl .trans hf l d

end Device.KeepsRetired

theorem patchIn_keepsRetired (d : Device) (t : TileNo) (x : PhysNo) : d.KeepsRetired (d.patchIn t x) := ⟨rfl, rfl, rfl, rfl⟩

theorem assignTiles_keepsRetired (d : Device) : d.KeepsRetired d.assignTiles := by
  unfold Device.assignTiles
  generalize tileStops = l
  dsimp only
  refine .trans ?_ (.foldl _ (fun d p => ?_) _ _)
  · refine .foldl _ (fun d x => ?_) l d
    exact ⟨rfl, rfl, rfl, rfl⟩
  · refine .foldl _ (fun e q => ?_) _ d
    split
    · exact patchIn_keepsRetired _ _ _
    · exact .refl _

theorem patchWatch_keepsRetired (a d : Device) (p : PanelNo) : d.KeepsRetired (Device.patchWatch a d p) := by
  unfold Device.patchWatch
  split
  · have h := report_told d 0x0104 none none p (BitVec.ofNat 128 p.val)
    exact ⟨by rw [h.rest], by rw [h.rest], by rw [h.rest], h.rst⟩
  · exact .refl d

theorem placeExtras_keepsRetired (d : Device) : d.KeepsRetired d.placeExtras := by
  unfold Device.placeExtras
  refine .trans (b := { d with extraReserved := [], extraSpare := [] }) ⟨rfl, rfl, rfl, rfl⟩ (.foldl _ (fun e k => ?_) _ _)
  exact ⟨rfl, rfl, rfl, rfl⟩

theorem retiredTilesWrite_ok (d : Device) (list : List Byte) (hfree : ∀ t : TileNo, (d.tiles[t]).bound = none)
    (hlen : list.length % 2 = 0) (hgood : ∀ n ∈ listEntries 2 list, n < 576 ∧ isMemStop (fin n) = false) :
    ∃ w, d.retiredTilesWrite list = (.ok, w) ∧ w.rst = d.rst ∧ w.retiredTiles = (listEntries 2 list).eraseDups := by
  have hbound : ¬ d.tiles.toList.any (fun (x : Tile) => x.bound.isSome) = true := by
    intro hany
    obtain ⟨x, hx, hsome⟩ := List.any_eq_true.mp hany
    obtain ⟨i, hi, rfl⟩ := Vector.mem_iff_getElem.mp (Vector.mem_toList_iff.mp hx)
    rw [show d.tiles[i].bound = none from hfree ⟨i, hi⟩] at hsome
    exact Bool.false_ne_true hsome
  have hbad : ¬ (list.length % 2 ≠ 0 ∨ (listEntries 2 list).any (fun n => decide (n ≥ 576) || isMemStop (fin n)) = true) := by
    rintro (hodd | hany)
    · exact hodd hlen
    · obtain ⟨n, hn, hbad⟩ := List.any_eq_true.mp hany
      obtain ⟨hlt, hstop⟩ := hgood n hn
      rw [hstop, Bool.or_false, decide_eq_true_eq] at hbad
      omega
  unfold Device.retiredTilesWrite
  dsimp only
  rw [if_neg hbound, if_neg hbad]
  have hassign := assignTiles_keepsRetired { d with retiredTiles := (listEntries 2 list).eraseDups }
  generalize ({ d with retiredTiles := (listEntries 2 list).eraseDups } : Device).assignTiles = e at hassign
  have hwatch := Device.KeepsRetired.foldl _ (fun a p => patchWatch_keepsRetired d a p) (List.finRange 4) e
  exact ⟨_, rfl, hwatch.rst.trans hassign.rst, hwatch.tiles.trans hassign.tiles⟩

theorem retiredPagesWrite_ok (d : Device) (list : List Byte) (hfree : d.pages = []) (hlen : list.length % 4 = 0)
    (hgood : ∀ n ∈ listEntries 4 list, n / 2 ^ 28 < 12 ∧ n % 2 ^ 28 < pagesPerStack) :
    ∃ w, d.retiredPagesWrite list = (.ok, w) ∧ w.rst = d.rst ∧ w.retiredPages = ((listEntries 4 list).map pageEntry).eraseDups ∧
      w.dueRetire = d.dueRetire := by
  have hbad : ¬ (list.length % 4 ≠ 0 ∨
      (listEntries 4 list).any (fun n => decide (n / 2 ^ 28 ≥ 12) || decide (n % 2 ^ 28 ≥ pagesPerStack)) = true) := by
    rintro (hodd | hany)
    · exact hodd hlen
    · obtain ⟨n, hn, hbad⟩ := List.any_eq_true.mp hany
      obtain ⟨hstack, hpage⟩ := hgood n hn
      rw [Bool.or_eq_true, decide_eq_true_eq, decide_eq_true_eq] at hbad
      omega
  unfold Device.retiredPagesWrite
  dsimp only
  rw [if_neg (show ¬ (!d.pages.isEmpty) = true by rw [hfree]; decide), if_neg hbad]
  have hextras := placeExtras_keepsRetired { d with retiredPages := ((listEntries 4 list).map pageEntry).eraseDups }
  exact ⟨_, rfl, hextras.rst, hextras.pages, hextras.dueRetire⟩

/-! ### The writes -/

section
variable (s : State) (ses : SessId)

theorem fitRequestTile_answers (x : PhysNo) (h : s.dev.agent ses 0x5400 5 true = true) (hfree : s.dev.tileFree x = true) :
    answersOk (.fitRequestTile ses x) ses s (fun d => (d.health[x]).due = true) := by
  refine answersOk_of_setObj (bytes := leBytes 2 x.val) (base := 0x5400) (n := 0) rfl h
    (by rw [length_leBytes]; decide +kernel) (by rw [length_leBytes]; decide) (fun S => ?_)
  have hx := x.isLt
  rw [setObj_fitRequest, leNat_leBytes, Nat.mod_eq_of_lt (by omega)]
  unfold Device.fitRequest
  rw [if_neg (by omega), fin_val, if_pos ⟨hx, hfree⟩]
  refine ⟨_, rfl, (agent_live h :), fun u hu => ?_⟩
  rw [show u.health = _ by rw [hu.rest], modHealth_get]

theorem fitRequestDevice_answers (h : s.dev.agent ses 0x5400 5 true = true) (hnone : s.dev.noContexts = true) :
    answersOk (.fitRequestDevice ses) ses s (fun d => ∀ x ∈ tileStops, (s.dev.health[x]).role.val < 2 → (d.health[x]).due = true) := by
  refine answersOk_of_setObj (bytes := leBytes 2 0xFFFF) (base := 0x5400) (n := 0) rfl h (by decide +kernel) (by decide) (fun S => ?_)
  obtain ⟨w, hw, hrst, hdue⟩ := fitRequest_all (s.dev.withSessions S) hnone
  rw [setObj_fitRequest, leNat_leBytes]
  refine ⟨w, hw, (live_of_rst hrst).trans (agent_live h :), fun u hu x hx hrole => ?_⟩
  rw [show u.health = w.health by rw [hu.rest]]
  exact hdue x hx hrole

theorem fitBundleWrite_answers (bundle : List Byte) (h : s.dev.agent ses 0x5400 3 true = true)
    (hsig : Config.bundleSignatureOk bundle = true) (hcode : Config.namesOrderingCode bundle = true)
    (hver : s.dev.activeBundle.toNat ≤ (Config.bundleVersion bundle).toNat) :
    answersOk (.fitBundleWrite ses bundle) ses s (fun d => d.fw.bundle = bundle ∧ d.fw.bundleVer = Config.bundleVersion bundle) := by
  refine answersOk_of_setBlob (base := 0x5400) (n := 0) rfl h (by decide +kernel) (fun o S hat hs => ?_)
  rw [setBlob_bundle _ _ _ _ _ _ hs hat]
  unfold Device.bundleWrite
  rw [if_neg (by rw [hsig, hcode]; decide), if_neg (Nat.not_lt.mpr (show (s.dev.withSessions S).activeBundle.toNat ≤ _ from hver))]
  refine ⟨_, rfl, (agent_live h :), fun u hu => ?_⟩
  rw [show u.fw = _ by rw [hu.rest]]
  exact ⟨rfl, rfl⟩

theorem patchRetiredWrite_answers (list : List Byte) (h : s.dev.agent ses 0x5400 0x0A true = true)
    (hfree : ∀ t : TileNo, (s.dev.tiles[t]).bound = none) (hlen : list.length % 2 = 0)
    (hgood : ∀ n ∈ listEntries 2 list, n < 576 ∧ isMemStop (fin n) = false) :
    answersOk (.patchRetiredWrite ses list) ses s (fun d => d.retiredTiles = (listEntries 2 list).eraseDups) := by
  refine answersOk_of_setBlob (base := 0x5400) (n := 0) rfl h (by decide +kernel) (fun o S hat hs => ?_)
  obtain ⟨w, hw, hrst, htiles⟩ := retiredTilesWrite_ok (s.dev.withSessions S) list hfree hlen hgood
  rw [setBlob_retiredTiles _ _ _ _ _ _ hs hat]
  refine ⟨w, hw, (live_of_rst hrst).trans (agent_live h :), fun u hu => ?_⟩
  rw [show u.retiredTiles = w.retiredTiles by rw [hu.rest]]
  exact htiles

theorem hbmRetiredPagesWrite_answers (list : List Byte) (h : s.dev.agent ses 0x4000 6 true = true) (hfree : s.dev.pages = [])
    (hlen : list.length % 4 = 0) (hgood : ∀ n ∈ listEntries 4 list, n / 2 ^ 28 < 12 ∧ n % 2 ^ 28 < pagesPerStack) :
    answersOk (.hbmRetiredPagesWrite ses list) ses s (fun d =>
      d.retiredPages = ((listEntries 4 list).map pageEntry).eraseDups ∧ d.dueRetire = s.dev.dueRetire) := by
  refine answersOk_of_setBlob (base := 0x4000) (n := 0) rfl h (by decide +kernel) (fun o S hat hs => ?_)
  obtain ⟨w, hw, hrst, hpages, hdue⟩ := retiredPagesWrite_ok (s.dev.withSessions S) list hfree hlen hgood
  rw [setBlob_retiredPages _ _ _ _ _ _ hs hat]
  refine ⟨w, hw, (live_of_rst hrst).trans (agent_live h :), fun u hu => ?_⟩
  rw [show u.retiredPages = w.retiredPages by rw [hu.rest], show u.dueRetire = w.dueRetire by rw [hu.rest]]
  exact ⟨hpages, hdue⟩

theorem rstCommand_resets (h : s.dev.agent ses 0x1010 5 true = true) (hheld : s.dev.rst.held = false) :
    ∃ u, exec (.rstCommand ses 1) s = .next u ∧ u.dev.rst.held = true ∧ u.dev.rst.cause = srcCommand ∧
      u.dev.rst.count = s.dev.rst.count + 1 ∧ u.dev.deviceDump.isSome = true := by
  obtain ⟨S, hS⟩ := writeReq_sets (bytes := [1]) h (base := 0x1010) (n := 0) (by decide +kernel) (by decide)
  obtain ⟨hreplied, -⟩ := hS _ rfl
  have hrun (d : Device) (hd : d.rst.held = false) :
      ((d.applyRst 1).2.rst.held = true ∧ (d.applyRst 1).2.rst.cause = srcCommand ∧ (d.applyRst 1).2.rst.count = d.rst.count + 1) ∧
        (d.applyRst 1).2.deviceDump.isSome = true := by
    unfold Device.applyRst Device.startReset
    rw [if_pos rfl, if_neg (by rw [show d.dumpAll.rst.held = false from hd]; exact Bool.false_ne_true)]
    exact ⟨⟨rfl, rfl, rfl⟩, rfl⟩
  obtain ⟨⟨hh, hcause, hcount⟩, hdump⟩ := hrun (s.dev.withSessions S) hheld
  refine ⟨{ s with dev := s.dev.writeReq ses 0 0x1010 5 [1] }, ?_, ?_⟩
  · change onLive (fun d => d.writeReq ses 0 0x1010 5 [1]) s = _
    rw [onLive_live _ _ (agent_live h)]
  · dsimp only
    rw [hreplied.rst, show (s.dev.writeReq ses 0 0x1010 5 [1]).deviceDump = _ by rw [hreplied.rest]]
    exact ⟨hh, hcause, hcount, hdump⟩

end

/-- Settles O43, write by write: what the object's own write leaves, through the answer; a reset answers nothing. -/
theorem ownerWrites : Obligations.OwnerWrites := by
  unfold Obligations.OwnerWrites
  exact fun s ses => ⟨fitRequestTile_answers s ses, fitRequestDevice_answers s ses, fitBundleWrite_answers s ses,
    patchRetiredWrite_answers s ses, hbmRetiredPagesWrite_answers s ses, rstCommand_resets s ses⟩

end Sys2Proof.Machine

/-! What the scheduler changes (R352 to R358): what work does, which context a tile holds, windows and pools of contexts, and of a context
its run. -/

namespace Sys2Proof.Machine

/-- A context that the scheduler may start falls into teardown, or runs. -/
def CtxSt.Starts (a b : CtxSt) : Prop := b = a ∨ b = .running ∨ b = .tearing

/-- `e` is `d` but for what work and the scheduler do; the contexts the scheduler may start are those of `l`. -/
structure Device.Scheduled (l : CtxNo → Prop) (d e : Device) : Prop where
  rest : e = { d with tiles := e.tiles, ctxs := e.ctxs, ports := e.ports, tags := e.tags, nextTag := e.nextTag,
                      farWatches := e.farWatches, drops := e.drops, dropTotal := e.dropTotal, cntCorrected := e.cntCorrected,
                      trace := e.trace, alarms := e.alarms, ibi := e.ibi, devEvq := e.devEvq, devMsix := e.devMsix,
                      hostMem := e.hostMem, errLog := e.errLog, csets := e.csets, parts := e.parts, hbm := e.hbm, hbmBad := e.hbmBad,
                      freeCount := e.freeCount, sentinel := e.sentinel, auditRuns := e.auditRuns, auditSkipped := e.auditSkipped }
  bound : ∀ t : TileNo, (e.tiles[t]).bound = (d.tiles[t]).bound
  ctx : ∀ c : CtxNo, e.ctxs[c] =
    { d.ctxs[c] with st := (e.ctxs[c]).st, teardownCause := (e.ctxs[c]).teardownCause, waitSince := (e.ctxs[c]).waitSince,
                     jfull := (e.ctxs[c]).jfull, held := (e.ctxs[c]).held, met := (e.ctxs[c]).met, marked := (e.ctxs[c]).marked,
                     saving := (e.ctxs[c]).saving, restoring := (e.ctxs[c]).restoring, saved := (e.ctxs[c]).saved,
                     startedAt := (e.ctxs[c]).startedAt, recorded := (e.ctxs[c]).recorded, inStep := (e.ctxs[c]).inStep,
                     atBoundary := (e.ctxs[c]).atBoundary, dogLimit := (e.ctxs[c]).dogLimit, ringRec := (e.ctxs[c]).ringRec,
                     releases := (e.ctxs[c]).releases, audit := (e.ctxs[c]).audit, auditTile := (e.ctxs[c]).auditTile,
                     shadow := (e.ctxs[c]).shadow, auditMiss := (e.ctxs[c]).auditMiss }
  starts : ∀ c : CtxNo, (d.ctxs[c]).st.Starts (e.ctxs[c]).st
  falls : ∀ c : CtxNo, ¬ l c → (d.ctxs[c]).st.Falls (e.ctxs[c]).st
  cause : ∀ c : CtxNo, ¬ l c → (d.ctxs[c]).st = .tearing → (e.ctxs[c]).teardownCause = (d.ctxs[c]).teardownCause
  clean : ∀ t : TileNo, (d.tiles[t]).pocketBad = [] → (e.tiles[t]).pocketBad = []
  part : ∀ p : PartNo, e.parts[p] =
    { d.parts[p] with evq := (e.parts[p]).evq, msix := (e.parts[p]).msix, violations := (e.parts[p]).violations,
                      windows := (e.parts[p]).windows, pools := (e.parts[p]).pools }
  wf : d.storesWf → e.storesWf

theorem CtxSt.Starts.trans {a b c : CtxSt} (h : a.Starts b) (k : b.Starts c) : a.Starts c := by
  rcases k with rfl | rfl | rfl
  · exact h
  · exact .inr (.inl rfl)
  · exact .inr (.inr rfl)

theorem CtxSt.Falls.starts {a b : CtxSt} (h : a.Falls b) : a.Starts b := by
  rcases h with rfl | ⟨rfl, -, -⟩
  · exact .inl rfl
  · exact .inr (.inr rfl)

namespace Device.Scheduled
variable {l : CtxNo → Prop} {a b c d e : Device}

theorem of_touched (h : d.Touched e) : d.Scheduled l e where
  rest := by
    have hd := h.rest
    rw [hd]
  bound t := by rw [h.tile t]
  ctx c := by rw [h.ctx c]
  starts c := (h.st c).starts
  falls c _ := h.st c
  cause c _ := h.cause c
  clean := h.clean
  part p := by rw [h.part p]
  wf := h.wf

theorem refl (d : Device) : d.Scheduled l d := .of_touched (.refl d)

theorem trans (h : a.Scheduled l b) (k : b.Scheduled l c) : a.Scheduled l c where
  rest := by rw [k.rest, h.rest]
  bound t := (k.bound t).trans (h.bound t)
  ctx t := by rw [k.ctx t, h.ctx t]
  starts t := (h.starts t).trans (k.starts t)
  falls t w := (h.falls t w).trans (k.falls t w)
  cause t w v := (k.cause t w ((h.falls t w).tearing v)).trans (h.cause t w v)
  clean t w := k.clean t (h.clean t w)
  part p := by rw [k.part p, h.part p]
  wf w := k.wf (h.wf w)

theorem foldl {α : Type} (f : Device → α → Device) (m : List α) (d : Device) (hf : ∀ (d : Device) (a : α), a ∈ m → d.Scheduled l (f d a)) :
    d.Scheduled l (m.foldl f d) :=
  List.foldlRecOn (motive := fun e : Device => d.Scheduled l e) m f (.refl d) (fun e he a ha => he.trans (hf e a ha))

theorem ite (p : Prop) [Decidable p] (h : d.Scheduled l e) {e' : Device} (h' : d.Scheduled l e') : d.Scheduled l (if p then e else e') := by
  split
  · exact h
  · exact h'

variable (h : d.Scheduled l e)
include h

theorem rst : e.rst = d.rst := by rw [h.rest]
theorem dict : e.dict = d.dict := by rw [h.rest]
theorem health : e.health = d.health := by rw [h.rest]
theorem devTime : e.devTime = d.devTime := by rw [h.rest]
theorem bindQueue : e.bindQueue = d.bindQueue := by rw [h.rest]
theorem live : e.live = d.live := live_of_rst h.rst

end Device.Scheduled

section
variable (l : CtxNo → Prop)

/-! ### Edits -/

/-- An edit of a tile that keeps its pocket and what it is bound to. -/
theorem modTile_scheduled (d : Device) (t : TileNo) (f : Tile → Tile)
    (hf : ∀ x : Tile, (f x).bound = x.bound ∧ (f x).pocketBad = x.pocketBad ∧ (f x).pocket = x.pocket) : d.Scheduled l (d.modTile t f) where
  rest := rfl
  bound v := by
    by_cases h : v = t
    · subst h
      rw [modTile_get]
      exact (hf _).1
    · rw [modTile_get_ne _ _ _ _ h]
  ctx _ := rfl
  starts _ := .inl rfl
  falls _ _ := .inl rfl
  cause _ _ _ := rfl
  clean v w := by
    by_cases h : v = t
    · subst h
      rw [modTile_get, (hf _).2.1]
      exact w
    · rw [modTile_get_ne _ _ _ _ h]
      exact w
  part _ := rfl
  wf w := storesWf_modTile t f w (by rw [(hf _).2.2]; exact w.2.2.2 t)

/-- An edit of a context's run. -/
theorem modCtx_scheduled (d : Device) (c : CtxNo) (f : Context → Context)
    (hf : ∀ x : Context, f x =
      { x with st := (f x).st, waitSince := (f x).waitSince, jfull := (f x).jfull, held := (f x).held, met := (f x).met,
               marked := (f x).marked, saving := (f x).saving, restoring := (f x).restoring, saved := (f x).saved,
               startedAt := (f x).startedAt, recorded := (f x).recorded, inStep := (f x).inStep, atBoundary := (f x).atBoundary,
               dogLimit := (f x).dogLimit, ringRec := (f x).ringRec, releases := (f x).releases, audit := (f x).audit,
               auditTile := (f x).auditTile, shadow := (f x).shadow, auditMiss := (f x).auditMiss })
    (hst : ∀ x : Context, x.st.Starts (f x).st)
    (hl : (∀ x : Context, (f x).st = x.st) ∨ l c) : d.Scheduled l (d.modCtx c f) := by
  refine ⟨rfl, fun _ => rfl, fun v => ?_, fun v => ?_, fun v hv => ?_, fun v _ _ => ?_, fun _ => id, fun _ => rfl, id⟩
  all_goals by_cases h : v = c
  · subst h
    rw [modCtx_get, hf]
  · rw [modCtx_get_ne _ _ _ _ h]
  · subst h
    rw [modCtx_get]
    exact hst _
  · rw [modCtx_get_ne _ _ _ _ h]
    exact .inl rfl
  · subst h
    rw [modCtx_get]
    exact .inl (hl.resolve_right hv _)
  · rw [modCtx_get_ne _ _ _ _ h]
    exact .inl rfl
  · subst h
    rw [modCtx_get, hf]
  · rw [modCtx_get_ne _ _ _ _ h]

/-- An edit of a context that keeps the state of its run. -/
theorem modCtx_sameState (d : Device) (c : CtxNo) (f : Context → Context)
    (hf : ∀ x : Context, f x =
      { x with waitSince := (f x).waitSince, jfull := (f x).jfull, held := (f x).held, met := (f x).met,
               marked := (f x).marked, saving := (f x).saving, restoring := (f x).restoring, saved := (f x).saved,
               startedAt := (f x).startedAt, recorded := (f x).recorded, inStep := (f x).inStep, atBoundary := (f x).atBoundary,
               dogLimit := (f x).dogLimit, ringRec := (f x).ringRec, releases := (f x).releases, audit := (f x).audit,
               auditTile := (f x).auditTile, shadow := (f x).shadow, auditMiss := (f x).auditMiss }) : d.Scheduled l (d.modCtx c f) := by
  have hst : ∀ x, (f x).st = x.st := fun x => by rw [hf]
  refine modCtx_scheduled l d c f (fun x => ?_) (fun x => .inl (hst x)) (.inl hst)
  rw [hst]
  exact hf x

theorem modPart_scheduled (d : Device) (p : PartNo) (f : Partition → Partition)
    (hf : ∀ q : Partition, f q = { q with windows := (f q).windows, pools := (f q).pools }) :
    d.Scheduled l (d.modPart p f) where
  rest := rfl
  bound _ := rfl
  ctx _ := rfl
  starts _ := .inl rfl
  falls _ _ := .inl rfl
  cause _ _ _ := rfl
  clean _ w := w
  part q := by
    by_cases h : q = p
    · subst h
      rw [modPart_get]
      rw [hf]
    · rw [modPart_get_ne _ _ _ _ h]
  wf w := w

/-- Counters of audits, and the entries of the sentinel. -/
theorem audits_scheduled (d : Device) (n : Nat) (r k : W64) (m : List SEntry) :
    d.Scheduled l { d with freeCount := n, auditRuns := r, auditSkipped := k, sentinel := m } :=
  ⟨rfl, fun _ => rfl, fun _ => rfl, fun _ => .inl rfl, fun _ _ => .inl rfl, fun _ _ _ => rfl, fun _ => id, fun _ => rfl, id⟩

/-! ### Steps that begin -/

theorem auditSelect_scheduled (d : Device) (c : CtxNo) : d.Scheduled l (d.auditSelect c) := by
  have hoff : d.Scheduled l { d.modCtx c (fun x => { x with audit := false, auditTile := none, shadow := none, met := false, auditMiss := false }) with
      freeCount := d.freeCount + 2 } :=
    (modCtx_sameState l d c (fun x => { x with audit := false, auditTile := none, shadow := none, met := false, auditMiss := false }) (fun _ => by rfl)).trans
      (audits_scheduled l _ _ _ _ _)
  unfold Device.auditSelect
  dsimp only
  split
  · exact hoff
  · split
    · exact hoff
    · split
      · exact hoff.trans (audits_scheduled l _ _ _ _ _)
      · refine .trans (.trans hoff (modCtx_sameState l _ c _ (fun _ => by rfl))) (audits_scheduled l _ _ _ _ _)

theorem beginStep_scheduled (d : Device) (c : CtxNo) : d.Scheduled l (d.beginStep c) := by
  unfold Device.beginStep
  split
  · exact .refl d
  · exact (modCtx_sameState l d c _ (fun _ => by rfl)).trans (auditSelect_scheduled l _ c)

/-! ### Saves and starts -/

theorem saveBytes_scheduled (d : Device) (p : PartNo) (addr : Nat) (src : Memory) (n : Nat) : d.Scheduled l (d.saveBytes p addr src n).2 := by
  unfold Device.saveBytes
  refine List.foldlRecOn (motive := fun acc : Bool × Device => d.Scheduled l acc.2) _ _ (.refl d) (fun acc hacc a _ => hacc.trans ?_)
  dsimp only
  split
  · exact .refl _
  · exact ⟨rfl, fun _ => rfl, fun _ => rfl, fun _ => .inl rfl, fun _ _ => .inl rfl, fun _ _ _ => rfl, fun _ => id, fun _ => rfl,
      fun w => ⟨Memory.wf_copyTo _ _ _ _ w.1, w.2⟩⟩

theorem savedTile_scheduled (d : Device) (c : CtxNo) (t : TileNo) (s : SavedTile) :
    d.Scheduled l ((d.modCtx c (fun q => { q with saved := q.saved.filter (fun (y : SavedTile) => y.tile ≠ t) ++ [s] })).modTile t
      (fun x => { x with watches := Vector.replicate 32 none, watchWait := [], claspLocks := 0 })) :=
  (modCtx_sameState l d c _ (fun _ => by rfl)).trans (modTile_scheduled l _ t _ (fun _ => ⟨rfl, rfl, rfl⟩))

theorem saveTile_scheduled (d : Device) (c : CtxNo) (p : PartNo) (t : TileNo) (regs : Bool) : d.Scheduled l (d.saveTile c p t regs).2 :=
  ((Device.Scheduled.of_touched (pocketSweep_touched d t)).trans (saveBytes_scheduled l _ _ _ _ _)).trans (savedTile_scheduled l _ _ _ _)

theorem makeRoom_scheduled (d : Device) (c : CtxNo) (t : TileNo) : d.Scheduled l (d.makeRoom c t) := by
  unfold Device.makeRoom
  refine .foldl _ _ d (fun d a _ => ?_)
  split
  · exact saveTile_scheduled l d _ _ _ _
  · exact .refl d

theorem dropReserved_scheduled (d : Device) (p : PartNo) (c : CtxNo) : d.Scheduled l (d.dropReserved p c) := modPart_scheduled l d p _ (fun _ => rfl)

theorem poolClaspSet_scheduled (d : Device) (t clasp v : Nat) : d.Scheduled l (d.poolClaspSet t clasp v) :=
  .of_touched (claspApply_touched _ _ _ _)

theorem openImage_scheduled (d : Device) (p : PartNo) (c : CtxNo) (i : Image) : d.Scheduled l (d.openImage p c i) := by
  unfold Device.openImage
  dsimp only
  refine .trans (.trans (dropReserved_scheduled l d p c) (.foldl _ i.wins _ (fun d w _ => ?_))) (.foldl _ i.pools _ (fun d n _ => ?_))
  · split
    · exact .ite _ (modPart_scheduled l d p _ (fun _ => rfl)) (.refl d)
    · exact .refl d
  · split
    · exact .ite _ (.refl d) ((modPart_scheduled l d p _ (fun _ => rfl)).trans (poolClaspSet_scheduled l _ _ _ _))
    · exact .refl d

theorem writeRestored_scheduled (d : Device) (p : PartNo) (c : CtxNo) : d.Scheduled l (d.writeRestored p c) :=
  (Device.Scheduled.of_touched (writeWords_touched d p c (·.restored))).trans (audits_scheduled l _ _ _ _ _)

theorem reopenWindows_scheduled (d : Device) (p : PartNo) (c : CtxNo) : d.Scheduled l (d.reopenWindows p c) := modPart_scheduled l d p _ (fun _ => rfl)

theorem nowRunning_scheduled (d : Device) (c : CtxNo) (hl : l c) : d.Scheduled l (d.nowRunning c) := by
  unfold Device.nowRunning
  dsimp only
  split
  · next p i _ _ =>
    have hopened : d.Scheduled l (if (d.ctxs[c]).recorded.isEmpty then (d.openImage p c i).writeRestored p c else d.reopenWindows p c) :=
      .ite _ ((openImage_scheduled l d p c i).trans (writeRestored_scheduled l _ p c)) (reopenWindows_scheduled l d p c)
    generalize (if (d.ctxs[c]).recorded.isEmpty then (d.openImage p c i).writeRestored p c else d.reopenWindows p c) = e at hopened ⊢
    have hruns : e.Scheduled l (e.modCtx c (fun x =>
        { x with st := .running, restoring := false, saved := [], startedAt := e.devTime,
                 recorded := if x.recorded.isEmpty then e.claspWords c else x.recorded })) :=
      modCtx_scheduled l e c _ (fun _ => rfl) (fun _ => .inr (.inl rfl)) (.inr hl)
    exact .ite _ (hopened.trans hruns) ((hopened.trans hruns).trans (beginStep_scheduled l _ c))
  · exact .refl d

theorem startCtx_scheduled (d : Device) (c : CtxNo) (hl : l c) : d.Scheduled l (d.startCtx c) := by
  unfold Device.startCtx
  dsimp only
  have hroom : d.Scheduled l ((d.ctxNames c).foldl (fun d t => (d.makeRoom c t).modTile t (fun x => { x.vacate with ctx := some c })) d) := by
    refine .foldl _ _ d (fun d t _ => ?_)
    exact (makeRoom_scheduled l d c t).trans (modTile_scheduled l _ t _ (fun _ => ⟨rfl, rfl, rfl⟩))
  generalize (d.ctxNames c).foldl _ d = e at hroom ⊢
  exact .ite _ (hroom.trans (nowRunning_scheduled l e c hl)) (hroom.trans (modCtx_sameState l e c _ (fun _ => by rfl)))

theorem considerOne_scheduled (d : Device) (taken : List TileNo) (c : CtxNo) (hl : l c) : d.Scheduled l (d.considerOne taken c).2 := by
  unfold Device.considerOne
  dsimp only
  split
  · exact .refl d
  · split
    · exact startCtx_scheduled l d c hl
    · split
      · refine .foldl _ _ d (fun d r _ => ?_)
        exact modCtx_sameState l d r _ (fun _ => by rfl)
      · exact .refl d

theorem closeWindows_scheduled (d : Device) (p : PartNo) (c : CtxNo) (keep : Bool) : d.Scheduled l (d.closeWindows p c keep) :=
  modPart_scheduled l d p _ (fun _ => rfl)

theorem beginSave_scheduled (d : Device) (c : CtxNo) : d.Scheduled l (d.beginSave c) := by
  unfold Device.beginSave
  split
  · exact (modCtx_sameState l d c _ (fun _ => by rfl)).trans (closeWindows_scheduled l _ _ c true)
  · exact .refl d

theorem runIdle_scheduled (d : Device) (c : CtxNo) : d.Scheduled l (d.runIdle c) := by
  unfold Device.runIdle
  exact .ite _ (.ite _ (beginSave_scheduled l d c) (.ite _ (.refl d) (beginStep_scheduled l d c))) (.refl d)

end

/-! ### The scheduler -/

/-- The candidates inserted in order of priority are those considered. -/
theorem mem_candidates (d : Device) (c : CtxNo) : c ∈ d.candidates → d.considered c = true := by
  have hinsert : ∀ (cs : List CtxNo) (before : CtxNo → CtxNo → Bool) (acc : List CtxNo),
      c ∈ cs.foldl (fun l c => (l.filter (fun a => !before c a)) ++ c :: l.filter (fun a => before c a)) acc → c ∈ cs ∨ c ∈ acc := by
    intro cs before
    induction cs with
    | nil => exact fun acc h => .inr h
    | cons x cs ih =>
      intro acc h
      rcases ih _ h with h | h
      · exact .inl (List.mem_cons_of_mem _ h)
      · rcases List.mem_append.mp h with h | h
        · exact .inr (List.mem_filter.mp h).1
        · rcases List.mem_cons.mp h with rfl | h
          · exact .inl List.mem_cons_self
          · exact .inr (List.mem_filter.mp h).1
  intro h
  rcases hinsert _ _ _ h with h | h
  · exact (List.mem_filter.mp h).2
  · exact absurd h List.not_mem_nil

/-- The scheduler starts contexts that are considered, and no other. -/
theorem schedule_scheduled (d : Device) : d.Scheduled (fun c => d.considered c = true) d.schedule := by
  unfold Device.schedule
  split
  · exact .refl d
  · dsimp only
    have hconsider : d.Scheduled (fun c => d.considered c = true)
        (d.candidates.foldl (fun (acc : List TileNo × Device) c => acc.2.considerOne acc.1 c) ([], d)).2 := by
      refine List.foldlRecOn (motive := fun acc : List TileNo × Device => d.Scheduled (fun c => d.considered c = true) acc.2)
        d.candidates _ (.refl d) (fun acc hacc c hc => ?_)
      exact hacc.trans (considerOne_scheduled _ acc.2 acc.1 c (mem_candidates d c hc))
    exact hconsider.trans (.foldl _ _ _ (fun d c _ => runIdle_scheduled _ d c))

/-- What is considered is ready or saved. -/
theorem considered_state {d : Device} {c : CtxNo} (h : d.considered c = true) : (d.ctxs[c]).st = .ready ∨ (d.ctxs[c]).st = .saved := by
  unfold Device.considered at h
  simp only [Bool.and_eq_true, Bool.or_eq_true, decide_eq_true_eq] at h
  exact h.1.1.1.1

/-- A context in teardown stays in it for the cause it had. -/
theorem schedule_tearing {d : Device} {c : CtxNo} (h : (d.ctxs[c]).st = .tearing) :
    (d.schedule.ctxs[c]).st = .tearing ∧ (d.schedule.ctxs[c]).teardownCause = (d.ctxs[c]).teardownCause := by
  have hnot : ¬ d.considered c = true := fun hc => by
    rcases considered_state hc with h' | h' <;> rw [h] at h' <;> exact CtxSt.noConfusion h'
  exact ⟨((schedule_scheduled d).falls c hnot).tearing h, (schedule_scheduled d).cause c hnot h⟩

end Sys2Proof.Machine

/-! Commits of context records, and part.reset (R355, R358, R361, R363). -/

namespace Sys2Proof.Machine

theorem objItem_ctx (p : PartNo) : objItem (partIndex p 0x10) = some (0x6010, p.val) := by
  revert p
  decide +kernel

theorem row_partReset (p : PartNo) : rowIs (partIndex p 0x21) 1 0x6021 p.val (fun o => o.plain 1) = true := by
  revert p
  decide +kernel

theorem applyRecord_ctx (d : Device) (o : Obj) (item : Nat) (g : Nat → Nat) (bs : List Byte) (h : o.at_ = (0x6010, 0xFF)) :
    d.applyRecord o item g bs 1 = d.applyCtx g (objPart 0x6010 item) := by
  unfold Device.applyRecord
  rw [h]
  rfl

theorem setObj_partReset (d : Device) (item : Nat) : d.setObj 0x6021 1 item 1 = (.ok, d.resetPartition (fin item) .command) := rfl

/-- A record's fields are those the session sees. -/
theorem commits_field {d : Device} {ses : SessId} {index item base n : Nat} {g : Nat → Nat} (h : d.commits ses index item g)
    (hitem : objItem index = some (base, n)) (sub : Nat) : g sub = d.field ses index base n sub := by
  obtain ⟨rfl, hg, -⟩ := commitReq_applies h 0 (by decide) hitem
  exact hg sub

/-- A commit of the kind its record names is that commit. -/
theorem commitWhen_runs {s : State} {ses : SessId} {p : PartNo} {o sub item : Nat} {g : Nat → Nat}
    (h : s.dev.commits ses (partIndex p o) item g) (hitem : objItem (partIndex p o) = some (0x6000 + o, p.val)) {want : Nat}
    (hwant : g sub = want) :
    onLive (fun d => d.commitWhen ses p o sub want) s = onLive (fun d => d.commitReq ses (partIndex p o) 1) s := by
  rw [onLive_live _ _ (commits_live h), onLive_live _ _ (commits_live h)]
  unfold Device.commitWhen
  rw [if_pos ((commits_field h hitem sub).symm.trans hwant)]

/-! ### What the record leaves -/

/-- A context with the record's fields. -/
def Context.recorded_ (x : Context) (base command : Nat) (pr : Fin 8) : Context :=
  { x with saveBase := base, command := command, prioSet := pr, prio := if x.st = .running then x.prio else pr }

theorem applyCtx_eq (d : Device) (g : Nat → Nat) (p : PartNo) (c : CtxNo) (hg : g 1 = c.val) (hp : (d.ctxs[c]).part = some p)
    (hprio : g 2 ≤ 7) (hsave : g 3 = (d.ctxs[c]).saveBase) (halign : g 3 % 4096 = 0) (hlt : g 3 < 2 ^ 40) (hcmd : g 4 ≤ 2)
    (hstart : g 4 = 1 → (d.ctxs[c]).st = .admitted) :
    d.applyCtx g p =
      if g 4 = 1 then
        (.ok, ((d.modCtx c (fun x => x.recorded_ (g 3) (g 4) (fin (g 2)))).modCtx c (fun x =>
          { x with st := .ready, stepNo := x.resumeStep, waitSince := d.devTime })).schedule)
      else if g 4 = 2 then (.ok, ((d.modCtx c (fun x => x.recorded_ (g 3) (g 4) (fin (g 2)))).askTeardown c .command).schedule)
      else (.ok, (d.modCtx c (fun x => x.recorded_ (g 3) (g 4) (fin (g 2)))).schedule) := by
  have hc : (fin (g 1) : CtxNo) = c := by rw [hg, fin_val]
  have hbad : ¬ (g 2 > 7 ∨ g 3 % 4096 ≠ 0 ∨ g 3 ≥ 2 ^ 40 ∨ (g 3 ≠ (d.ctxs[c]).saveBase ∧ (d.ctxs[c]).st ≠ .bound) ∨ g 4 > 2) := by
    rintro (h | h | h | ⟨h, -⟩ | h)
    · omega
    · exact h halign
    · omega
    · exact h hsave
    · omega
  unfold Device.applyCtx
  dsimp only
  simp only [hc]
  rw [if_neg (by rintro (h | h); exacts [by have := c.isLt; omega, h hp]), if_neg hbad, if_neg (fun h => h.2 (hstart h.1))]
  rfl

section
variable (s : State) (ses : SessId) (p : PartNo) (item : Nat) (g : Nat → Nat) (c : CtxNo)
  (hc : s.dev.commits ses (partIndex p 0x10) item g) (hg : g 1 = c.val) (hp : (s.dev.ctxs[c]).part = some p) (hprio : g 2 ≤ 7)
  (hsave : g 3 = (s.dev.ctxs[c]).saveBase) (halign : g 3 % 4096 = 0) (hlt : g 3 < 2 ^ 40)
include hc hg hp hprio hsave halign hlt

theorem ctxSetPriority_answers (hcmd : g 4 = 0) :
    answersOk (.ctxSetPriority ses p) ses s (fun d => (d.ctxs[c]).prioSet = fin (g 2) ∧
      (d.ctxs[c]).prio = (if (s.dev.ctxs[c]).st = .running then (s.dev.ctxs[c]).prio else fin (g 2))) := by
  refine answersOk_of_applyRecord (commitWhen_runs hc (objItem_ctx p) hcmd) hc (by decide) (objItem_ctx p) (fun o S hat => ?_)
  rw [applyRecord_ctx _ _ _ _ _ hat, objPart_part _ _ (by decide),
    applyCtx_eq (s.dev.withSessions S) g p c hg hp hprio hsave halign hlt (by omega) (fun h => absurd h (by omega)),
    if_neg (by omega), if_neg (by omega)]
  have hsched := schedule_scheduled ((s.dev.withSessions S).modCtx c (fun x => x.recorded_ (g 3) (g 4) (fin (g 2))))
  refine ⟨_, rfl, hsched.live.trans (commits_live hc :), fun u hu => ?_⟩
  rw [hu.ctxs, hsched.ctx c, modCtx_get]
  exact ⟨rfl, rfl⟩

theorem ctxStart_answers (hcmd : g 4 = 1) (hst : (s.dev.ctxs[c]).st = .admitted) :
    answersOk (.ctxStart ses p) ses s (fun d =>
      ((d.ctxs[c]).st = .ready ∨ (d.ctxs[c]).st = .running ∨ (d.ctxs[c]).st = .tearing) ∧
        (d.ctxs[c]).stepNo = (s.dev.ctxs[c]).resumeStep) := by
  refine answersOk_of_applyRecord (commitWhen_runs hc (objItem_ctx p) hcmd) hc (by decide) (objItem_ctx p) (fun o S hat => ?_)
  rw [applyRecord_ctx _ _ _ _ _ hat, objPart_part _ _ (by decide),
    applyCtx_eq (s.dev.withSessions S) g p c hg hp hprio hsave halign hlt (by omega) (fun _ => hst), if_pos hcmd]
  have hsched := schedule_scheduled (((s.dev.withSessions S).modCtx c (fun x => x.recorded_ (g 3) (g 4) (fin (g 2)))).modCtx c (fun x =>
    { x with st := .ready, stepNo := x.resumeStep, waitSince := (s.dev.withSessions S).devTime }))
  refine ⟨_, rfl, hsched.live.trans (commits_live hc :), fun u hu => ?_⟩
  have hstarts := hsched.starts c
  have hstep := congrArg Context.stepNo (hsched.ctx c)
  rw [modCtx_get, modCtx_get] at hstarts hstep
  rw [hu.ctxs]
  exact ⟨hstarts, hstep⟩

theorem ctxTearDown_answers (hcmd : g 4 = 2) (hst : (s.dev.ctxs[c]).st = .running) :
    answersOk (.ctxTearDown ses p) ses s (fun d => (d.ctxs[c]).st = .tearing ∧ (d.ctxs[c]).teardownCause = some .command) := by
  refine answersOk_of_applyRecord (commitWhen_runs hc (objItem_ctx p) hcmd) hc (by decide) (objItem_ctx p) (fun o S hat => ?_)
  rw [applyRecord_ctx _ _ _ _ _ hat, objPart_part _ _ (by decide),
    applyCtx_eq (s.dev.withSessions S) g p c hg hp hprio hsave halign hlt (by omega) (fun h => absurd h (by omega)),
    if_neg (by omega), if_pos hcmd]
  have hasks (d : Device) (hd : (d.ctxs[c]).st = .running) : ((d.askTeardown c .command).ctxs[c]).st = .tearing ∧
      ((d.askTeardown c .command).ctxs[c]).teardownCause = some .command := by
    unfold Device.askTeardown
    dsimp only
    rw [if_neg (by rw [hd]; decide), modCtx_get]
    exact ⟨rfl, rfl⟩
  obtain ⟨hask, hcause⟩ := hasks ((s.dev.withSessions S).modCtx c (fun x => x.recorded_ (g 3) (g 4) (fin (g 2))))
    (by rw [modCtx_get]; exact hst)
  have hrst := (askTeardown_touched ((s.dev.withSessions S).modCtx c (fun x => x.recorded_ (g 3) (g 4) (fin (g 2)))) c .command).rst
  obtain ⟨htear, hkeep⟩ := schedule_tearing hask
  refine ⟨_, rfl, ((schedule_scheduled _).live.trans (live_of_rst hrst)).trans (commits_live hc :), fun u hu => ?_⟩
  rw [hu.ctxs]
  exact ⟨htear, hkeep.trans hcause⟩

end

/-! ### part.reset -/

theorem resetColl_get (d : Device) (p : PartNo) :
    ((d.resetColl p).parts[p]).coll = none ∧ ((d.resetColl p).parts[p]).collRing.st = 0 := by
  unfold Device.resetColl
  rw [modPart_get]
  exact ⟨rfl, rfl⟩

theorem report_coll (d : Device) (code : W16) (o : Option PartNo) (ctx : Option Nat) (src : Nat) (payload : BitVec 128) (p : PartNo) :
    ((d.report code o ctx src payload).parts[p]).coll = (d.parts[p]).coll ∧
      ((d.report code o ctx src payload).parts[p]).collRing = (d.parts[p]).collRing := by
  rw [(report_told d code o ctx src payload).part p]
  exact ⟨rfl, rfl⟩

/-- The last of a reset is its collective's, and the report. -/
theorem resetPartition_coll (d : Device) (p : PartNo) (cause : RCause) :
    ((d.resetPartition p cause).parts[p]).coll = none ∧ ((d.resetPartition p cause).parts[p]).collRing.st = 0 := by
  unfold Device.resetPartition
  dsimp only
  generalize Device.collAbort _ p clCancelled _ 15 = e
  obtain ⟨hcoll, hring⟩ := report_coll (e.resetColl p) 0x0305 (some p) none 0 (BitVec.ofNat 128 cause.code) p
  rw [hcoll, hring]
  exact resetColl_get e p

theorem partReset_resets (d : Device) (p : PartNo) (c : CtxNo) (hp : (d.ctxs[c]).part = some p) (hst : (d.ctxs[c]).st = .running) :
    ∃ w, d.setObj 0x6021 1 p.val 1 = (.ok, w) ∧ w.rst = d.rst ∧ (w.ctxs[c]).st = .tearing ∧ (w.parts[p]).coll = none ∧
      (w.parts[p]).collRing.st = 0 ∧ (w.parts[p]).windows = (d.parts[p]).windows := by
  have hworked := resetPartition_worked d p .command
  obtain ⟨hcoll, hring⟩ := resetPartition_coll d p .command
  rw [setObj_partReset, fin_val]
  exact ⟨_, rfl, hworked.rst, resetPartition_tearing d p .command c hp (.inl hst), hcoll, hring, hworked.windows p⟩

theorem partitionReset_answers (s : State) (ses : SessId) (p : PartNo) (c : CtxNo)
    (h : s.dev.agent ses (partIndex p 0x21) 1 true = true) (hp : (s.dev.ctxs[c]).part = some p) (hst : (s.dev.ctxs[c]).st = .running) :
    answersOk (.partitionReset ses p 1) ses s (fun d => (d.ctxs[c]).st = .tearing ∧ (d.parts[p]).coll = none ∧
      (d.parts[p]).collRing.st = 0 ∧ (d.parts[p]).windows = (s.dev.parts[p]).windows) := by
  refine answersOk_of_setObj (bytes := [1]) rfl h (row_partReset p) (by decide) (fun S => ?_)
  obtain ⟨w, hw, hrst, htear, hcoll, hring, hwindows⟩ := partReset_resets (s.dev.withSessions S) p c hp hst
  refine ⟨w, hw, (live_of_rst hrst).trans (agent_live h :), fun u hu => ?_⟩
  rw [hu.ctxs, hu.part p]
  exact ⟨htear, hcoll, hring, hwindows⟩

/-- Settles O38, command by command: the record's edit, and what the scheduler may then do to the context. -/
theorem contextCommits : Obligations.ContextCommits := by
  unfold Obligations.ContextCommits
  exact fun s ses p item g c =>
    ⟨fun hc hg hp hprio hsave halign hlt =>
      ⟨ctxSetPriority_answers s ses p item g c hc hg hp hprio hsave halign hlt,
        ctxStart_answers s ses p item g c hc hg hp hprio hsave halign hlt,
        ctxTearDown_answers s ses p item g c hc hg hp hprio hsave halign hlt⟩,
      partitionReset_answers s ses p c⟩

end Sys2Proof.Machine

/-! Commits of the sentinel, repair and checkpoint records (R261, R262, R381, R383, R384). -/

namespace Sys2Proof.Machine

theorem objItem_force (p : PartNo) : objItem (partIndex p 0xC0) = some (0x60C0, p.val) := by
  revert p
  decide +kernel

theorem objItem_repair (p : PartNo) : objItem (partIndex p 0xF0) = some (0x60F0, p.val) := by
  revert p
  decide +kernel

theorem objItem_ckpt (p : PartNo) : objItem (partIndex p 0xB0) = some (0x60B0, p.val) := by
  revert p
  decide +kernel

theorem row_entries (p : PartNo) : rowIs (partIndex p 0xC0) 5 0x60C0 p.val Obj.domain = true := by
  revert p
  decide +kernel

section
variable (d : Device) (o : Obj) (item : Nat) (g : Nat → Nat) (bs : List Byte) (v : Nat)

theorem applyRecord_force (h : o.at_ = (0x60C0, 0xFF)) : d.applyRecord o item g bs v = d.applyForce g (objPart 0x60C0 item) v := by
  unfold Device.applyRecord
  rw [h]
  rfl

theorem applyRecord_repair (h : o.at_ = (0x60F0, 0xFF)) : d.applyRecord o item g bs v = d.applyRepair g (objPart 0x60F0 item) v := by
  unfold Device.applyRecord
  rw [h]
  rfl

theorem applyRecord_ckpt (h : o.at_ = (0x60B0, 0xFF)) : d.applyRecord o item g bs v = d.applyCkpt g (objPart 0x60B0 item) v := by
  unfold Device.applyRecord
  rw [h]
  rfl

end

theorem setBlob_entries (d : Device) (ses : SessId) (index item : Nat) (o : Obj) (bs : List Byte) (hs : staged o = false)
    (hat : o.at_ = (0x60C0, 5)) : d.setBlob ses index o item bs = d.sentWrite (objPart 0x60C0 item) bs := by
  unfold Device.setBlob
  rw [hs, hat]
  rfl

namespace Device.Committed
variable {d e : Device} (h : d.Committed e)
include h

theorem sentinel : e.sentinel = d.sentinel := by rw [h.rest]
theorem repairs (p : PartNo) : (e.parts[p]).repairs = (d.parts[p]).repairs := by rw [h.part p]
theorem ckpt (p : PartNo) : (e.parts[p]).ckpt = (d.parts[p]).ckpt := by rw [h.part p]

end Device.Committed

/-! ### Entries of the sentinel -/

theorem applyForce_forces (d : Device) (g : Nat → Nat) (p : PartNo) (e : SEntry) (rest : List SEntry) (hs : d.sentinel = e :: rest)
    (hp : e.part = p) (hctx : e.ctx.val = g 1) (htensor : e.tensor.toNat = g 2) (hvar : g 3 ≤ e.maxv.toNat) (hpin : g 4 ≤ 1) :
    d.applyForce g p 1 = (.ok, { d with sentinel := { e with forced := some (BitVec.ofNat 4 (g 3), decide (g 4 = 1)) } :: rest }) := by
  have hlt := e.ctx.isLt
  have hfirst : firstIdx (fun (e : SEntry) => e.part = p && e.ctx.val = g 1 && e.tensor.toNat = g 2) d.sentinel = some 0 := by
    rw [hs, firstIdx, List.findIdx?_cons, if_pos (by simp [hp, hctx, htensor])]
  unfold Device.applyForce
  rw [if_neg (by decide), if_neg (by omega), hfirst]
  dsimp only
  rw [if_neg (by rw [hs]; exact Nat.not_lt.mpr hvar)]
  rw [hs]
  rfl

/-- What a write of the entries leaves does not depend on the sessions. -/
theorem sentWrite_withSessions (d : Device) (S : List (SessId × Session)) (p : PartNo) (bs : List Byte) :
    (d.withSessions S).sentWrite p bs = ((d.sentWrite p bs).1, (d.sentWrite p bs).2.withSessions S) := by
  have hsame : (sentRecords bs).any (fun r => !(decide (((d.withSessions S).ctxs[(fin (fld r 20 8) : CtxNo)]).part = some p) &&
      decide (((d.withSessions S).ctxs[(fin (fld r 20 8) : CtxNo)]).st = .admitted))) =
      (sentRecords bs).any (fun r => !(decide ((d.ctxs[(fin (fld r 20 8) : CtxNo)]).part = some p) &&
        decide ((d.ctxs[(fin (fld r 20 8) : CtxNo)]).st = .admitted))) := rfl
  unfold Device.sentWrite
  dsimp only
  rw [hsame]
  split
  · rfl
  · rfl

theorem sentWrite_rst (d : Device) (p : PartNo) (bs : List Byte) : (d.sentWrite p bs).2.rst = d.rst := by
  unfold Device.sentWrite
  dsimp only
  split
  · rfl
  · rfl

/-! ### Repair ranges -/

theorem modWindow_repairs (d : Device) (p : PartNo) (w : WinNo) (f : Window → Window) :
    ((d.modWindow p w f).parts[p]).repairs = (d.parts[p]).repairs := by
  unfold Device.modWindow
  rw [modPart_get]

/-- A repair range as registered. -/
def repairOf (g : Nat → Nat) (w0 w1 : WinNo) : Repair :=
  { on := true, base := g 2, length := g 3, peerChip := g 4, peerBase := g 5, version := g 6, mailbox := g 7, windows := [w0, w1] }

/-- A registered range is on, with its fields and windows. -/
theorem repairOn_get (d : Device) (g : Nat → Nat) (p : PartNo) (w0 w1 : WinNo) (k : Fin 16) (hk : fin (g 1) = k) :
    ((d.repairOn g p w0 w1).parts[p]).repairs[k] = repairOf g w0 w1 ∧
      (d.repairOn g p w0 w1).rst = d.rst := by
  subst hk
  unfold Device.repairOn
  dsimp only
  generalize hwindows : Device.modWindow _ p w1 _ = e
  have hrst : e.rst = d.rst := by
    rw [← hwindows]
    rfl
  have hwatch (u : Device) (t : TileNo) (w : Watch) : ((u.registerWatch t w none).2.2.parts[p]).repairs = (u.parts[p]).repairs ∧
      (u.registerWatch t w none).2.2.rst = u.rst := by
    have h := registerWatch_touched u t w none
    exact ⟨by rw [h.part p], h.rst⟩
  obtain ⟨hrepairs, hrst'⟩ := hwatch _ _ _
  rw [hrepairs, hrst', modPart_get]
  exact ⟨Vector.getElem_set_self (fin (g 1) : Fin 16).isLt, hrst⟩

theorem foldl_closeWindow_rst (p : PartNo) (l : List WinNo) (d : Device) (f : Window → Window) :
    (l.foldl (fun d w => d.modWindow p w f) d).rst = d.rst :=
  foldl_related (R := fun d e : Device => e.rst = d.rst) (f := fun d w => d.modWindow p w f) (fun _ => rfl) (fun h k => k.trans h)
    (fun _ _ => rfl) l d

theorem repairOff_get (d : Device) (p : PartNo) (k : Fin 16) :
    ((d.repairOff p k).parts[p]).repairs[k] = Repair.reset ∧ (d.repairOff p k).rst = d.rst := by
  unfold Device.repairOff
  dsimp only
  rw [modPart_get]
  exact ⟨Vector.getElem_set_self k.isLt, foldl_closeWindow_rst p _ d _⟩

/-! ### Checkpoints -/

theorem Device.Scheduled.ckpt {l : CtxNo → Prop} {d e : Device} (h : d.Scheduled l e) (p : PartNo) :
    (e.parts[p]).ckpt = (d.parts[p]).ckpt := by rw [h.part p]

theorem Device.Told.ckpt {d e : Device} (h : d.Told e) (p : PartNo) : (e.parts[p]).ckpt = (d.parts[p]).ckpt := by rw [h.part p]

/-- A checkpoint that ends is idle, and the scheduler looks anew. -/
theorem ckptEnd_idle (d : Device) (p : PartNo) : ((d.ckptEnd p).parts[p]).ckpt.st = 0 ∧ (d.ckptEnd p).rst = d.rst := by
  have hrehold (e : Device) (c : CtxNo) : ((e.reHold p c).parts[p]).ckpt = (e.parts[p]).ckpt ∧ (e.reHold p c).rst = e.rst := by
    have h := schedule_scheduled (e.modCtx c (fun x => { x with heldAt := x.heldAt && e.boundaryHeld p c }))
    exact ⟨h.ckpt p, h.rst⟩
  obtain ⟨hckpt, hrst⟩ := hrehold (d.modCkpt p (fun k => { k with st := 0 })) (d.parts[p]).ckpt.ctx
  unfold Device.ckptEnd
  dsimp only
  rw [hckpt, hrst]
  refine ⟨?_, rfl⟩
  unfold Device.modCkpt
  rw [modPart_get]

theorem applyCkpt_arms (d : Device) (g : Nat → Nat) (p : PartNo) (c : CtxNo) (hg : g 1 = c.val) (hp : (d.ctxs[c]).part = some p)
    (hlo : 1 ≤ g 3) (hhi : g 3 ≤ 3600000) (hst : (d.ctxs[c]).st ≠ .admitted) (hresume : g 4 = (d.ctxs[c]).resumeStep.toNat)
    (hstep : (d.ctxs[c]).nextStep ≤ g 2) :
    d.applyCkpt g p 1 = (.ok, d.modCkpt p (fun _ => { st := 1, ctx := c, step := BitVec.ofNat 64 (g 2), since := d.devTime })) := by
  have hc : (fin (g 1) : CtxNo) = c := by rw [hg, fin_val]
  have hlt := c.isLt
  have hbad : ¬ (1 ≠ 1 ∨ g 1 ≥ 256 ∨ (d.ctxs[c]).part ≠ some p ∨ g 3 < 1 ∨ g 3 > 3600000) := by
    rintro (h | h | h | h | h)
    · exact h rfl
    · omega
    · exact h hp
    · omega
    · omega
  unfold Device.applyCkpt
  dsimp only
  simp only [hc]
  rw [if_neg (by decide), if_neg hbad, if_neg hst, if_neg]
  rintro (h | h)
  · exact h hresume
  · omega

/-! ### The commits -/

section
variable (s : State) (ses : SessId) (p : PartNo) (item : Nat) (g : Nat → Nat)

theorem sentinelForceCommit_answers (e : SEntry) (rest : List SEntry) (hc : s.dev.commits ses (partIndex p 0xC0) item g)
    (hs : s.dev.sentinel = e :: rest) (hp : e.part = p) (hctx : e.ctx.val = g 1) (htensor : e.tensor.toNat = g 2)
    (hvar : g 3 ≤ e.maxv.toNat) (hpin : g 4 ≤ 1) :
    answersOk (.sentinelForceCommit ses p) ses s (fun d =>
      d.sentinel = { e with forced := some (BitVec.ofNat 4 (g 3), decide (g 4 = 1)) } :: rest) := by
  refine answersOk_of_applyRecord rfl hc (by decide) (objItem_force p) (fun o S hat => ?_)
  rw [applyRecord_force _ _ _ _ _ _ hat, objPart_part _ _ (by decide),
    applyForce_forces (s.dev.withSessions S) g p e rest hs hp hctx htensor hvar hpin]
  exact ⟨_, rfl, (commits_live hc :), fun u hu => hu.sentinel⟩

theorem sentinelEntriesWrite_answers (records : List Byte) (h : s.dev.agent ses (partIndex p 0xC0) 5 true = true)
    (hok : (s.dev.sentWrite p records).1 = .ok) :
    answersOk (.sentinelEntriesWrite ses p records) ses s (fun d => d.sentinel = (s.dev.sentWrite p records).2.sentinel) := by
  refine answersOk_of_setBlob rfl h (row_entries p) (fun o S hat hs => ?_)
  rw [setBlob_entries _ _ _ _ _ _ hs hat, objPart_part _ _ (by decide), sentWrite_withSessions, hok]
  refine ⟨_, rfl, (live_of_rst (sentWrite_rst s.dev p records)).trans (agent_live h :), fun u hu => ?_⟩
  rw [show u.sentinel = _ by rw [hu.rest]]
  rfl

theorem repairRegister_answers (k : Fin 16) (hc : s.dev.commits ses (partIndex p 0xF0) item g) (hg : g 1 = k.val)
    (hoff : ((s.dev.parts[p]).repairs[k]).on = false) (hok : s.dev.repairFieldsOk g p = true) (hfree : 2 ≤ (s.dev.freeWindows p).length) :
    answersOk (.repairRegister ses p) ses s (fun d => ((d.parts[p]).repairs[k]).on = true ∧ ((d.parts[p]).repairs[k]).base = g 2 ∧
      ((d.parts[p]).repairs[k]).length = g 3 ∧ ((d.parts[p]).repairs[k]).windows = (s.dev.freeWindows p).take 2) := by
  have hk : (fin (g 1) : Fin 16) = k := by rw [hg, fin_val]
  obtain ⟨w0, w1, ws, hws⟩ : ∃ w0 w1 ws, s.dev.freeWindows p = w0 :: w1 :: ws := by
    match h : s.dev.freeWindows p, hfree with
    | w0 :: w1 :: ws, _ => exact ⟨w0, w1, ws, rfl⟩
  have hrun (d : Device) (hd : ((d.parts[p]).repairs[k]).on = false) (hfields : d.repairFieldsOk g p = true)
      (hw : d.freeWindows p = w0 :: w1 :: ws) : d.applyRepair g p 1 = (.ok, d.repairOn g p w0 w1) := by
    unfold Device.applyRepair
    simp only [hk]
    rw [if_pos trivial, hfields, hd, hw]
    rfl
  refine answersOk_of_applyRecord rfl hc (by decide) (objItem_repair p) (fun o S hat => ?_)
  rw [applyRecord_repair _ _ _ _ _ _ hat, objPart_part _ _ (by decide), hrun (s.dev.withSessions S) hoff hok hws]
  obtain ⟨hget, hrst⟩ := repairOn_get (s.dev.withSessions S) g p w0 w1 k hk
  refine ⟨_, rfl, (live_of_rst hrst).trans (commits_live hc :), fun u hu => ?_⟩
  rw [hu.repairs, hget, hws]
  exact ⟨rfl, rfl, rfl, rfl⟩

theorem repairRemove_answers (k : Fin 16) (hc : s.dev.commits ses (partIndex p 0xF0) item g) (hg : g 1 = k.val) :
    answersOk (.repairRemove ses p) ses s (fun d => (d.parts[p]).repairs[k] = Repair.reset) := by
  have hk : (fin (g 1) : Fin 16) = k := by rw [hg, fin_val]
  have hrun (d : Device) : d.applyRepair g p 0 = (.ok, d.repairOff p k) := by
    unfold Device.applyRepair
    rw [if_neg (by decide), if_pos rfl, if_pos (by rw [hg]; exact k.isLt), hk]
  refine answersOk_of_applyRecord rfl hc (by decide) (objItem_repair p) (fun o S hat => ?_)
  rw [applyRecord_repair _ _ _ _ _ _ hat, objPart_part _ _ (by decide), hrun]
  obtain ⟨hget, hrst⟩ := repairOff_get (s.dev.withSessions S) p k
  refine ⟨_, rfl, (live_of_rst hrst).trans (commits_live hc :), fun u hu => ?_⟩
  rw [hu.repairs]
  exact hget

theorem ckptArm_answers (c : CtxNo) (hc : s.dev.commits ses (partIndex p 0xB0) item g) (hg : g 1 = c.val)
    (hp : (s.dev.ctxs[c]).part = some p) (hlo : 1 ≤ g 3) (hhi : g 3 ≤ 3600000) (hst : (s.dev.ctxs[c]).st ≠ .admitted)
    (hresume : g 4 = (s.dev.ctxs[c]).resumeStep.toNat) (hstep : (s.dev.ctxs[c]).nextStep ≤ g 2) :
    answersOk (.ckptArm ses p) ses s (fun d => (d.parts[p]).ckpt =
      { st := 1, ctx := c, step := BitVec.ofNat 64 (g 2), since := s.dev.devTime }) := by
  refine answersOk_of_applyRecord rfl hc (by decide) (objItem_ckpt p) (fun o S hat => ?_)
  rw [applyRecord_ckpt _ _ _ _ _ _ hat, objPart_part _ _ (by decide),
    applyCkpt_arms (s.dev.withSessions S) g p c hg hp hlo hhi hst hresume hstep]
  refine ⟨_, rfl, (commits_live hc :), fun u hu => ?_⟩
  rw [hu.ckpt]
  unfold Device.modCkpt
  rw [modPart_get]
  rfl

theorem ckptRelease_answers (hc : s.dev.commits ses (partIndex p 0xB0) item g) :
    answersOk (.ckptRelease ses p) ses s (fun d => (d.parts[p]).ckpt.st = 0) := by
  refine answersOk_of_applyRecord rfl hc (by decide) (objItem_ckpt p) (fun o S hat => ?_)
  obtain ⟨hidle, hrst⟩ := ckptEnd_idle (s.dev.withSessions S) p
  rw [applyRecord_ckpt _ _ _ _ _ _ hat, objPart_part _ _ (by decide)]
  refine ⟨_, rfl, (live_of_rst hrst).trans (commits_live hc :), fun u hu => ?_⟩
  rw [hu.ckpt]
  exact hidle

end

/-! ### Hold and expiry -/

theorem ckptExpired_idle (d : Device) (p : PartNo) (hst : (d.parts[p]).ckpt.st = 2)
    (hover : d.cfg 0x60B0 3 p * 1000000 ≤ d.since (d.parts[p]).ckpt.since) : ((d.ckptExpired p).parts[p]).ckpt.st = 0 := by
  have hreport (e : Device) (code : W16) (o : Option PartNo) (ctx : Option Nat) (n : Nat) (x : BitVec 128) :
      ((e.report code o ctx n x).parts[p]).ckpt = (e.parts[p]).ckpt :=
    (report_told e code o ctx n x).ckpt p
  unfold Device.ckptExpired
  dsimp only
  rw [if_pos ⟨hst, hover⟩, hreport]
  exact (ckptEnd_idle d p).1

/-- Settles O41: each record's own edit, through the watch it registers, the scheduler and the answer. -/
theorem reliabilityCommits : Obligations.ReliabilityCommits := by
  unfold Obligations.ReliabilityCommits
  refine ⟨fun s ses p item g => ⟨sentinelForceCommit_answers s ses p item g, sentinelEntriesWrite_answers s ses p,
    fun k hc hg => ⟨repairRegister_answers s ses p item g k hc hg, repairRemove_answers s ses p item g k hc hg⟩,
    fun c hc => ⟨ckptArm_answers s ses p item g c hc, ckptRelease_answers s ses p item g hc⟩⟩, ?_⟩
  intro s p k x hl
  refine ⟨fun hst hp hrun hin hstep hquiet => ?_, fun hst hover => ?_⟩
  · change onLive (fun d => d.ckptHold p) s = _
    rw [onLive_live _ _ hl]
    unfold Device.ckptHold
    dsimp only
    rw [if_pos ⟨hst, hp, hrun, by rw [show (s.dev.ctxs[k.ctx]).inStep = false from hin]; rfl, hstep, hquiet⟩]
    rfl
  · exact ⟨_, onLive_live (fun d => d.ckptExpired p) s hl, ckptExpired_idle s.dev p hst hover⟩

end Sys2Proof.Machine

/-! Entries of the binding table (R343 to R348): which edits keep them, and what a request's own edits leave. -/

namespace Sys2Proof.Machine

/-! ### Requests and entries -/

/-- Every partition's binding request and the queue of requests stand in `e` as in `d`. -/
structure Device.KeepsReqs (d e : Device) : Prop where
  bind : ∀ p : PartNo, (e.parts[p]).bind = (d.parts[p]).bind
  queue : e.bindQueue = d.bindQueue
  rst : e.rst = d.rst

/-- So does the binding table. -/
structure Device.KeepsBinding (d e : Device) : Prop extends Device.KeepsReqs d e where
  bound : ∀ kind n : Nat, e.boundTo kind n = d.boundTo kind n
  pages : e.pages = d.pages
  granules : e.granules = d.granules

namespace Device.KeepsReqs
variable {a b c d e : Device}

theorem refl (d : Device) : d.KeepsReqs d := ⟨fun _ => rfl, rfl, rfl⟩

theorem trans (h : a.KeepsReqs b) (k : b.KeepsReqs c) : a.KeepsReqs c :=
  ⟨fun p => (k.bind p).trans (h.bind p), k.queue.trans h.queue, k.rst.trans h.rst⟩

theorem of_worked (h : d.Worked e) : d.KeepsReqs e := ⟨fun p => by rw [h.part p], by rw [h.rest], h.rst⟩

theorem foldl {α : Type} (f : Device → α → Device) (hf : ∀ (d : Device) (a : α), d.KeepsReqs (f d a)) (l : List α) (d : Device) :
    d.KeepsReqs (l.foldl f d) :=
  foldl_related (R := Device.KeepsReqs) .refl .trans hf l d

end Device.KeepsReqs

namespace Device.KeepsBinding
variable {a b c d e : Device}

theorem refl (d : Device) : d.KeepsBinding d := ⟨.refl d, fun _ _ => rfl, rfl, rfl⟩

theorem trans (h : a.KeepsBinding b) (k : b.KeepsBinding c) : a.KeepsBinding c :=
  ⟨h.toKeepsReqs.trans k.toKeepsReqs, fun kind n => (k.bound kind n).trans (h.bound kind n), k.pages.trans h.pages, k.granules.trans h.granules⟩

theorem foldl {α : Type} (f : Device → α → Device) (hf : ∀ (d : Device) (a : α), d.KeepsBinding (f d a)) (l : List α) (d : Device) :
    d.KeepsBinding (l.foldl f d) :=
  foldl_related (R := Device.KeepsBinding) .refl .trans hf l d

/-- Where the fields that entries stand in do not change. -/
theorem boundTo_of_fields (hctx : ∀ c : CtxNo, (e.ctxs[c]).part = (d.ctxs[c]).part)
    (htile : ∀ t : TileNo, (e.tiles[t]).bound = (d.tiles[t]).bound) (hgather : e.gather = d.gather) (hbulk : e.bulkBound = d.bulkBound)
    (hlanes : e.lanes = d.lanes) (hsets : e.sentinelSets = d.sentinelSets) (hcsets : e.csetBound = d.csetBound) (kind n : Nat) :
    e.boundTo kind n = d.boundTo kind n := by
  unfold Device.boundTo
  rw [hgather, hbulk, hlanes, hsets, hcsets, hctx, htile]

theorem of_scheduled {l : CtxNo → Prop} (h : d.Scheduled l e) : d.KeepsBinding e where
  bind p := by rw [h.part p]
  queue := h.bindQueue
  rst := h.rst
  bound := boundTo_of_fields (fun c => by rw [h.ctx c]) h.bound (by rw [h.rest]) (by rw [h.rest]) (by rw [h.rest]) (by rw [h.rest])
    (by rw [h.rest])
  pages := by rw [h.rest]
  granules := by rw [h.rest]

theorem of_touched (h : d.Touched e) : d.KeepsBinding e := .of_scheduled (l := fun _ => False) (.of_touched h)

theorem of_told (h : d.Told e) : d.KeepsBinding e := .of_touched (.of_told h)

theorem modCtx (d : Device) (c : CtxNo) (f : Context → Context) (hf : ∀ x, (f x).part = x.part) :
    d.KeepsBinding (d.modCtx c f) :=
  ⟨⟨fun _ => rfl, rfl, rfl⟩, boundTo_of_fields (fun v => modCtx_keeps (·.part) d c v f hf) (fun _ => rfl) rfl rfl rfl rfl rfl, rfl, rfl⟩

theorem modTile (d : Device) (t : TileNo) (f : Tile → Tile) (hf : ∀ x, (f x).bound = x.bound) :
    d.KeepsBinding (d.modTile t f) := by
  refine ⟨⟨fun _ => rfl, rfl, rfl⟩, boundTo_of_fields (fun _ => rfl) (fun v => ?_) rfl rfl rfl rfl rfl, rfl, rfl⟩
  by_cases h : v = t
  · subst h
    rw [modTile_get, hf]
  · rw [modTile_get_ne _ _ _ _ h]

end Device.KeepsBinding

theorem translationChanged_keepsBinding (d : Device) (p : PartNo) : d.KeepsBinding (d.translationChanged p) := by
  refine ⟨⟨fun _ => rfl, rfl, rfl⟩, Device.KeepsBinding.boundTo_of_fields (fun _ => rfl) (fun t => ?_) rfl rfl rfl rfl rfl, rfl, rfl⟩
  change ((d.tiles.map (fun (x : Tile) => if x.bound = some p then x.liningClear else x))[t]).bound = _
  simp only [Fin.getElem_fin, Vector.getElem_map]
  split
  · rfl
  · rfl

theorem unsuspend_keepsBinding (d : Device) : d.KeepsBinding d.unsuspend := by
  refine .foldl _ (fun d c => ?_) _ d
  split
  · exact .modCtx d c _ (fun _ => rfl)
  · exact .refl d

theorem dropRestore_keepsBinding (d : Device) (c : CtxNo) : d.KeepsBinding (d.dropRestore c) := by
  unfold Device.dropRestore
  split
  · refine .trans (.foldl _ (fun d t => ?_) _ _) (.modCtx _ c _ (fun _ => rfl))
    exact .modTile d t Tile.vacate (fun _ => rfl)
  · exact .refl d

theorem modBind_get (d : Device) (p : PartNo) (f : BindReq → BindReq) : ((d.modBind p f).parts[p]).bind = f (d.parts[p]).bind := by
  unfold Device.modBind
  rw [modPart_get]

/-! ### One entry -/

/-- An entry takes the name it is given. -/
theorem setBound_self (d : Device) (kind n : Nat) (p : Option PartNo) (r : Bool) (h2 : kind ≠ 2) (h3 : kind ≠ 3) (h8 : kind ≤ 8) :
    (d.setBound kind n p r).boundTo kind n = p := by
  have hk : kind = 0 ∨ kind = 1 ∨ kind = 4 ∨ kind = 5 ∨ kind = 6 ∨ kind = 7 ∨ kind = 8 := by omega
  rcases hk with rfl | rfl | rfl | rfl | rfl | rfl | rfl
  · change (((d.modCtx (fin n) _).ctxs[(fin n : CtxNo)])).part = p
    rw [modCtx_get]
    cases p with
    | none => rfl
    | some q => rfl
  · change ((Device.modTile _ (fin n) _).tiles[(fin n : TileNo)]).bound = p
    rw [modTile_get]
  · change ((d.modGather (fin n) _).gather[(fin n : GatherNo)]).bound = p
    rw [modGather_get]
  · change ((d.bulkBound.set (fin n : BulkNo) (p.map (fun a => (a, r))))[(fin n : BulkNo)]).map (·.1) = p
    cases p with
    | none => simp
    | some q => simp
  · change ((d.modLane (fin n) _).lanes[(fin n : LaneNo)]).bound = p
    rw [modLane_get]
  · change (d.sentinelSets.set (fin n : Fin 32) p)[(fin n : Fin 32)] = p
    simp
  · change (d.csetBound.set (fin n : Fin 32) p)[(fin n : Fin 32)] = p
    simp

theorem mapTile_tiles (d : Device) (t : TileNo) : (d.mapTile t).tiles = d.tiles := by
  unfold Device.mapTile
  split
  · rfl
  · split
    · rfl
    · rfl

/-- The stop a tile gets, and the clock it loses, leave every tile's entry. -/
theorem setBound_clock (d : Device) (n m : Nat) (p : Option PartNo) :
    ((if p.isSome then d.mapTile (fin m) else d.freeClock (fin m)).tiles[(fin n : TileNo)]).bound = d.boundTo 1 n := by
  split
  · exact congrArg (fun ts : Vector Tile 512 => (ts[(fin n : TileNo)]).bound) (mapTile_tiles d (fin m))
  · have h := (Device.KeepsBinding.modTile (d.modPanel (panelOf (fin m)) (fun q => { q with wakes := q.wakes.filter (· ≠ fin m) })) (fin m)
      (fun x => { x with level := 0, mhz := 0, queued := false }) (fun _ => rfl)).bound 1 n
    exact h

/-- An entry with that name keeps it. -/
theorem setBound_keeps (d : Device) (kind m n : Nat) (p : Option PartNo) (r : Bool) (h2 : kind ≠ 2) (h3 : kind ≠ 3) (h8 : kind ≤ 8)
    (h : d.boundTo kind n = p) : (d.setBound kind m p r).boundTo kind n = p := by
  have hk : kind = 0 ∨ kind = 1 ∨ kind = 4 ∨ kind = 5 ∨ kind = 6 ∨ kind = 7 ∨ kind = 8 := by omega
  have hs := setBound_self d kind m p r h2 h3 h8
  rcases hk with rfl | rfl | rfl | rfl | rfl | rfl | rfl
  · by_cases hc : (fin n : CtxNo) = fin m
    · exact (congrArg (fun c : CtxNo => ((d.setBound 0 m p r).ctxs[c]).part) hc).trans hs
    · change (((d.modCtx (fin m) _).ctxs[(fin n : CtxNo)])).part = p
      rw [modCtx_get_ne _ _ _ _ hc]
      exact h
  · by_cases hc : (fin n : TileNo) = fin m
    · exact (congrArg (fun t : TileNo => ((d.setBound 1 m p r).tiles[t]).bound) hc).trans hs
    · change ((Device.modTile _ (fin m) _).tiles[(fin n : TileNo)]).bound = p
      rw [modTile_get_ne _ _ _ _ hc]
      exact (setBound_clock d n m p).trans h
  · by_cases hc : (fin n : GatherNo) = fin m
    · exact (congrArg (fun g : GatherNo => ((d.setBound 4 m p r).gather[g]).bound) hc).trans hs
    · change ((d.modGather (fin m) _).gather[(fin n : GatherNo)]).bound = p
      rw [modGather_get_ne _ _ _ _ hc]
      exact h
  · by_cases hc : (fin n : BulkNo) = fin m
    · exact (congrArg (fun b : BulkNo => ((d.setBound 5 m p r).bulkBound[b]).map (Prod.fst : PartNo × Bool → PartNo)) hc).trans hs
    · exact (congrArg (Option.map (Prod.fst : PartNo × Bool → PartNo)) (Vector.getElem_set_ne (fin m : BulkNo).isLt (fin n : BulkNo).isLt (fun e => hc (Fin.ext e.symm)))).trans h
  · by_cases hc : (fin n : LaneNo) = fin m
    · exact (congrArg (fun l : LaneNo => ((d.setBound 6 m p r).lanes[l]).bound) hc).trans hs
    · change ((d.modLane (fin m) _).lanes[(fin n : LaneNo)]).bound = p
      rw [modLane_get_ne _ _ _ _ hc]
      exact h
  · by_cases hc : (fin n : Fin 32) = fin m
    · exact (congrArg (fun k : Fin 32 => (d.setBound 7 m p r).sentinelSets[k]) hc).trans hs
    · exact (Vector.getElem_set_ne (fin m : Fin 32).isLt (fin n : Fin 32).isLt (fun e => hc (Fin.ext e.symm))).trans h
  · by_cases hc : (fin n : Fin 32) = fin m
    · exact (congrArg (fun k : Fin 32 => (d.setBound 8 m p r).csetBound[k]) hc).trans hs
    · exact (Vector.getElem_set_ne (fin m : Fin 32).isLt (fin n : Fin 32).isLt (fun e => hc (Fin.ext e.symm))).trans h

end Sys2Proof.Machine

/-! Binding and the rebinding sequence (Table 15.2, R345 to R350). -/

namespace Sys2Proof.Machine

/-! ### Requests on the queue -/

theorem setBound_keepsReqs (d : Device) (kind n : Nat) (p : Option PartNo) (r : Bool) : d.KeepsReqs (d.setBound kind n p r) := by
  have hmap (t : TileNo) : d.KeepsReqs (d.mapTile t) := by
    unfold Device.mapTile
    split
    · exact .refl d
    · split
      · exact ⟨fun _ => rfl, rfl, rfl⟩
      · exact .refl d
  unfold Device.setBound
  split
  case h_2 =>
    split
    · exact .trans (hmap _) ⟨fun _ => rfl, rfl, rfl⟩
    · exact ⟨fun _ => rfl, rfl, rfl⟩
  all_goals exact ⟨fun _ => rfl, rfl, rfl⟩

/-- Entries named one after another all bear the name, whatever else is done to what they stand for. -/
theorem foldl_named (kind : Nat) (p : Option PartNo) (r : Bool) (h2 : kind ≠ 2) (h3 : kind ≠ 3) (h8 : kind ≤ 8) (f : Device → Nat → Device)
    (hf : ∀ d n, ∃ e : Device, f d n = e.setBound kind n p r ∧ ∀ m : Nat, e.boundTo kind m = d.boundTo kind m) (l : List Nat) :
    ∀ (d : Device) (n : Nat), n ∈ l ∨ d.boundTo kind n = p → (l.foldl f d).boundTo kind n = p := by
  induction l with
  | nil => exact fun d n h => h.resolve_left List.not_mem_nil
  | cons m l ih =>
    intro d n h
    rw [List.foldl_cons]
    refine ih _ n ?_
    obtain ⟨e, he, hbound⟩ := hf d m
    rw [he]
    rcases h with h | h
    · rcases List.mem_cons.mp h with rfl | h
      · exact .inr (setBound_self e kind n p r h2 h3 h8)
      · exact .inl h
    · exact .inr (setBound_keeps e kind m n p r h2 h3 h8 ((hbound n).trans h))

/-! ### Pages and granules -/

/-- What a request of kind 2 or 3 may bind: free pages, or free granules of its port. -/
def Device.freeMem (d : Device) (kind first : Nat) : List Nat := if kind = 2 then d.freePages else d.freeGranules (fin first)

/-- The entries of pages, or of granules. -/
def Device.memBounds (d : Device) (kind : Nat) : List Bound := if kind = 2 then d.pages else d.granules

theorem freePages_nodup (d : Device) : d.freePages.Nodup := List.Nodup.filter _ List.nodup_range

theorem freeGranules_nodup (d : Device) (port : TmemNo) : (d.freeGranules port).Nodup := by
  unfold Device.freeGranules
  split
  · exact List.Nodup.filter _ (List.nodup_range.map (fun _ _ h => Nat.add_right_cancel h))
  · exact List.nodup_nil

theorem freeMem_nodup (d : Device) (kind first : Nat) : (d.freeMem kind first).Nodup := by
  unfold Device.freeMem
  split
  · exact freePages_nodup d
  · exact freeGranules_nodup d _

/-- A page or granule bound to a partition. -/
def Device.memBound (d : Device) (kind : Nat) (b : Bound) : Device :=
  if kind = 2 then { ({ d with freeCount := d.freeCount + 1 } : Device) with pages := d.pages ++ [b] }
  else { ({ d with freeCount := d.freeCount + 1 } : Device) with granules := d.granules ++ [b] }

theorem memBound_bounds (d : Device) (kind : Nat) (b : Bound) : (d.memBound kind b).memBounds kind = d.memBounds kind ++ [b] := by
  unfold Device.memBound Device.memBounds
  split
  · rfl
  · rfl

/-- What was free stays so, but for the one bound. -/
theorem mem_freeMem_memBound (d : Device) (kind first g : Nat) (b : Bound) (h : g ∈ d.freeMem kind first) (hne : b.phys ≠ g) :
    g ∈ (d.memBound kind b).freeMem kind first := by
  unfold Device.freeMem Device.memBound at *
  split at h
  · next hk =>
    rw [if_pos hk, if_pos hk]
    unfold Device.freePages at h ⊢
    rw [List.mem_filter] at h ⊢
    obtain ⟨hr, hf⟩ := h
    refine ⟨hr, ?_⟩
    simp only [Bool.and_eq_true] at hf ⊢
    obtain ⟨⟨⟨⟨hst, hkind⟩, hall⟩, hret⟩, hrem⟩ := hf
    refine ⟨⟨⟨⟨hst, hkind⟩, ?_⟩, hret⟩, hrem⟩
    rw [List.all_append, hall]
    simp [hne]
  · next hk =>
    rw [if_neg hk, if_neg hk]
    unfold Device.freeGranules at h ⊢
    split at h
    · next hon =>
      rw [if_pos hon]
      rw [List.mem_filter] at h ⊢
      obtain ⟨hr, hall⟩ := h
      refine ⟨hr, ?_⟩
      rw [List.all_append, hall]
      simp [hne]
    · exact absurd h List.not_mem_nil

theorem freeMem_memBound_length (d : Device) (kind first : Nat) (b : Bound) :
    (d.freeMem kind first).length ≤ ((d.memBound kind b).freeMem kind first).length + 1 := by
  have hsub : (d.freeMem kind first).erase b.phys ⊆ (d.memBound kind b).freeMem kind first := fun g hg => by
    obtain ⟨hne, hmem⟩ := ((freeMem_nodup d kind first).mem_erase_iff).mp hg
    exact mem_freeMem_memBound d kind first g b hmem (fun h => hne h.symm)
  have hlen := (((freeMem_nodup d kind first).erase b.phys).subperm hsub).length_le
  rw [List.length_erase] at hlen
  split at hlen <;> omega

/-- Where something is free, one is bound. -/
theorem bindMemOne_binds (d : Device) (p : PartNo) (kind first pno : Nat) (h : d.freeMem kind first ≠ []) :
    ∃ g, d.bindMemOne p kind first pno = d.memBound kind { phys := g, part := p, pno := pno } := by
  have hlt : Config.pageChoice d.freeCount % max 1 (d.freeMem kind first).length < (d.freeMem kind first).length := by
    have hpos := List.length_pos_of_ne_nil h
    rw [Nat.max_eq_right hpos]
    exact Nat.mod_lt _ hpos
  refine ⟨(d.freeMem kind first)[Config.pageChoice d.freeCount % max 1 (d.freeMem kind first).length], ?_⟩
  unfold Device.bindMemOne
  change (match (d.freeMem kind first)[Config.pageChoice d.freeCount % max 1 (d.freeMem kind first).length]? with
    | none => d
    | some g => d.memBound kind { phys := g, part := p, pno := pno }) = _
  rw [List.getElem?_eq_getElem hlt]

theorem bindMemOne_keepsReqs (d : Device) (p : PartNo) (kind first pno : Nat) : d.KeepsReqs (d.bindMemOne p kind first pno) := by
  unfold Device.bindMemOne
  dsimp only
  split
  · exact .refl d
  · split
    · exact ⟨fun _ => rfl, rfl, rfl⟩
    · exact ⟨fun _ => rfl, rfl, rfl⟩

theorem heldAt_append (l m : List Bound) (p : PartNo) (k : Nat) : heldAt (l ++ m) p k = (heldAt l p k || heldAt m p k) := List.any_append

/-- As many as are free are bound, at the addresses asked for. -/
theorem foldl_bindMemOne (p : PartNo) (kind first addr : Nat) (l : List Nat) : ∀ d : Device, l.length ≤ (d.freeMem kind first).length →
    ∀ k, (heldAt (d.memBounds kind) p k = true ∨ ∃ i ∈ l, k = addr + i) →
      heldAt ((l.foldl (fun d i => d.bindMemOne p kind first (addr + i)) d).memBounds kind) p k = true := by
  induction l with
  | nil =>
    rintro d - k (h | ⟨i, hi, -⟩)
    · exact h
    · exact absurd hi List.not_mem_nil
  | cons i l ih =>
    intro d hlen k hk
    rw [List.length_cons] at hlen
    obtain ⟨g, hg⟩ := bindMemOne_binds d p kind first (addr + i) (fun hnil => by rw [hnil] at hlen; exact absurd hlen (Nat.not_succ_le_zero _))
    have hfree := freeMem_memBound_length d kind first { phys := g, part := p, pno := addr + i }
    rw [List.foldl_cons, hg]
    refine ih _ (by omega) k ?_
    rw [memBound_bounds, heldAt_append, Bool.or_eq_true]
    rcases hk with hk | ⟨j, hj, rfl⟩
    · exact .inl (.inl hk)
    · rcases List.mem_cons.mp hj with rfl | hj
      · refine .inl (.inr ?_)
        simp [heldAt]
      · exact .inr ⟨j, hj, rfl⟩

/-! ### The end of a request -/

/-- A request that is done. -/
def BindReq.ended (b : BindReq) : BindReq := { b with st := 3, result := 0, users := [], begun := false, moved := [], olds := [] }

/-- The part with a request done and off the queue. -/
def Device.bindOver (d : Device) (p : PartNo) : Device := ({ d with bindQueue := d.bindQueue.drop 1 } : Device).modBind p BindReq.ended

theorem bindEnd_eq (d : Device) (p : PartNo) : d.bindEnd p none =
    ((((p :: (d.parts[p]).bind.owners).eraseDups).foldl (fun e q => e.report 0x0303 (some q) none 0
      (pay4 (d.parts[p]).bind.kind (d.parts[p]).bind.first (d.parts[p]).bind.count (d.parts[p]).bind.action)) (d.bindOver p)).unsuspend).schedule :=
  rfl

theorem bindEnd_keepsBinding (d : Device) (p : PartNo) : (d.bindOver p).KeepsBinding (d.bindEnd p none) := by
  rw [bindEnd_eq]
  refine .trans (.trans (.foldl _ (fun e q => ?_) _ _) (unsuspend_keepsBinding _)) (.of_scheduled (schedule_scheduled _))
  exact .of_told (report_told _ _ _ _ _ _)

theorem bindOver_get (d : Device) (p : PartNo) : ((d.bindOver p).parts[p]).bind = (d.parts[p]).bind.ended := modBind_get _ p _

/-- With no request on the queue the collar takes up none. -/
theorem bindPump_idle (d : Device) (h : d.bindQueue = []) : d.bindPump = d := by
  unfold Device.bindPump
  rw [h]
  unfold Device.bindPumpN
  rw [h]

/-- What a done request leaves. -/
theorem bindEnd_pump (d : Device) (p : PartNo) (hq : d.bindQueue = [p]) : ∃ w, (d.bindEnd p none).bindPump = w ∧ w = d.bindEnd p none ∧
    (w.parts[p]).bind.st = 3 ∧ (w.parts[p]).bind.result = 0 ∧ w.bindQueue = [] ∧ (d.bindOver p).KeepsBinding w := by
  have hkeep := bindEnd_keepsBinding d p
  have hqueue : (d.bindEnd p none).bindQueue = [] := by
    rw [hkeep.queue]
    change d.bindQueue.drop 1 = []
    rw [hq]
    rfl
  refine ⟨_, bindPump_idle _ hqueue, rfl, ?_⟩
  rw [hkeep.bind, bindOver_get]
  exact ⟨rfl, rfl, hqueue, hkeep⟩

/-- The request at the front that nothing holds back and nothing speaks against: it is bound, or begins to drain. -/
theorem bindPumpN_takes (d : Device) (p : PartNo) (l : List PartNo) (n : Nat) (hq : d.bindQueue = p :: l) (hup : d.up 3 = true)
    (hbegun : (d.parts[p]).bind.begun = false) (hheld : d.tableHeld p (d.parts[p]).bind = false)
    (hjudge : d.judgeBind p (d.parts[p]).bind = none) :
    d.bindPumpN (n + 1) = if (d.parts[p]).bind.action = 1 then Device.bindPumpN n ((d.bindItems p (d.parts[p]).bind).bindEnd p none)
      else d.bindBegin p := by
  rw [Device.bindPumpN]
  rw [hq]
  dsimp only
  rw [hup, hbegun, hheld, hjudge]
  rfl

end Sys2Proof.Machine

/-! Commits of binding records (Table 15.2, R345 to R347). -/

namespace Sys2Proof.Machine

theorem objItem_bind (p : PartNo) : objItem (partIndex p 0) = some (0x6000, p.val) := by
  revert p
  decide +kernel

theorem applyRecord_bind (d : Device) (o : Obj) (item : Nat) (g : Nat → Nat) (bs : List Byte) (h : o.at_ = (0x6000, 0xFF)) :
    d.applyRecord o item g bs 1 = d.applyBind g (objPart 0x6000 item) := by
  unfold Device.applyRecord
  rw [h]
  rfl

/-- The part with one request, queued. -/
def Device.queued (d : Device) (p : PartNo) (b : BindReq) : Device := { d.modBind p (fun _ => b) with bindQueue := [p] }

theorem queued_get (d : Device) (p : PartNo) (b : BindReq) : ((d.queued p b).parts[p]).bind = b := modBind_get d p (fun _ => b)

/-- A request keeps its admissions: what it waits for is as it was. -/
theorem queued_tableHeld (d : Device) (p : PartNo) (b : BindReq) : (d.queued p b).tableHeld p b = d.tableHeld p b := by
  have hadm (q : PartNo) : ((d.queued p b).parts[q]).adm = (d.parts[q]).adm := by
    change ((d.modPart p (fun q => { q with bind := b })).parts[q]).adm = _
    by_cases h : q = p
    · subst h
      rw [modPart_get]
    · rw [modPart_get_ne _ _ _ _ h]
  unfold Device.tableHeld
  exact congrArg (fun f => (p :: (b.owners ++ b.items.filterMap (d.holderOf b.kind))).any f) (funext (fun q => by rw [hadm q]))

/-- A record without a fault, of a partition with no request, is queued. -/
theorem applyBind_eq (d : Device) (g : Nat → Nat) (p : PartNo) (b : BindReq) (h1 : (d.parts[p]).bind.st ≠ 1) (h2 : (d.parts[p]).bind.st ≠ 2)
    (hq : d.bindQueue = [])
    (hb : b = { BindReq.reset with kind := g 1, first := g 2, count := g 3, addr := g 4, action := g 5, flags := g 6, drainUs := g 7,
                                   st := 1, startedAt := d.devTime })
    (hok : bindFieldsOk b = true) : d.applyBind g p = (.ok, (d.queued p b).bindPumpN 2) := by
  subst hb
  unfold Device.applyBind
  dsimp only
  rw [if_neg (by rintro (h | h); exacts [h1 h, h2 h]), if_neg (by rw [Bool.not_eq_true', Bool.not_eq_false]; exact hok)]
  change (St.ok, (Device.bindPump { (d.modBind p _) with bindQueue := d.bindQueue ++ [p] })) = _
  rw [hq]
  rfl

/-- Nothing holds it back: it is bound, or begins to drain. -/
theorem applyBind_takes (d : Device) (g : Nat → Nat) (p : PartNo) (b : BindReq) (h1 : (d.parts[p]).bind.st ≠ 1)
    (h2 : (d.parts[p]).bind.st ≠ 2) (hq : d.bindQueue = [])
    (hb : b = { BindReq.reset with kind := g 1, first := g 2, count := g 3, addr := g 4, action := g 5, flags := g 6, drainUs := g 7,
                                   st := 1, startedAt := d.devTime })
    (hok : bindFieldsOk b = true) (hup : d.up 3 = true) (hheld : d.tableHeld p b = false) (hjudge : (d.queued p b).judgeBind p b = none) :
    d.applyBind g p = (.ok, if b.action = 1 then Device.bindPumpN 1 (((d.queued p b).bindItems p b).bindEnd p none)
      else (d.queued p b).bindBegin p) := by
  have hbegun : b.begun = false := by
    rw [hb]
    rfl
  rw [applyBind_eq d g p b h1 h2 hq hb hok, bindPumpN_takes (d.queued p b) p [] 1 rfl hup (by rw [queued_get]; exact hbegun)
    (by rw [queued_get, queued_tableHeld]; exact hheld) (by rw [queued_get]; exact hjudge), queued_get]

/-! ### Free resources -/

theorem mem_items (b : BindReq) (n : Nat) : n ∈ b.items ↔ b.first ≤ n ∧ n < b.first + b.count := by
  unfold BindReq.items
  rw [List.mem_map]
  constructor
  · rintro ⟨i, hi, rfl⟩
    rw [List.mem_range] at hi
    omega
  · rintro ⟨hlo, hhi⟩
    exact ⟨n - b.first, List.mem_range.mpr (by omega), by omega⟩

theorem bindItems_keepsReqs (d : Device) (p : PartNo) (b : BindReq) : d.KeepsReqs (d.bindItems p b) := by
  unfold Device.bindItems
  split
  · exact .trans (.foldl _ (fun d i => bindMemOne_keepsReqs d p b.kind b.first (b.addr + i)) _ _) (translationChanged_keepsBinding _ p).toKeepsReqs
  · exact .foldl _ (fun d n => setBound_keepsReqs d b.kind n (some p) _) _ _

/-- Every resource that is no page and no granule bears the name. -/
theorem bindItems_bound (d : Device) (p : PartNo) (b : BindReq) (h2 : b.kind ≠ 2) (h3 : b.kind ≠ 3) (h8 : b.kind ≤ 8) (n : Nat)
    (hn : n ∈ b.items) : (d.bindItems p b).boundTo b.kind n = some p := by
  unfold Device.bindItems
  rw [if_neg (by rintro (h | h); exacts [h2 h, h3 h])]
  exact foldl_named b.kind (some p) _ h2 h3 h8 _ (fun d n => ⟨d, rfl, fun _ => rfl⟩) b.items d n (.inl hn)

/-- As many pages or granules as are asked for are free where the request is not refused. -/
theorem judgeMem_free {d : Device} {p : PartNo} {b : BindReq} (h : d.judgeMem p b = none) (ha : b.action = 1) :
    b.count ≤ (d.freeMem b.kind b.first).length := by
  unfold Device.judgeMem at h
  unfold Device.freeMem
  by_cases hk : b.kind = 2
  · simp only [if_pos hk, if_pos ha] at h
    rw [if_pos hk]
    split_ifs at h with _ _ hle
    exact Nat.not_lt.mp hle
  · simp only [if_neg hk, if_pos ha] at h
    rw [if_neg hk]
    split_ifs at h with _ _ hle
    exact Nat.not_lt.mp hle

theorem KeepsBinding.memBounds_eq {d e : Device} (h : d.KeepsBinding e) (kind : Nat) : e.memBounds kind = d.memBounds kind := by
  unfold Device.memBounds
  rw [h.pages, h.granules]

theorem bindItems_held (d : Device) (p : PartNo) (b : BindReq) (hkind : b.kind = 2 ∨ b.kind = 3)
    (hfree : b.count ≤ (d.freeMem b.kind b.first).length) (k : Nat) (hlo : b.addr ≤ k) (hhi : k < b.addr + b.count) :
    heldAt ((d.bindItems p b).memBounds b.kind) p k = true := by
  unfold Device.bindItems
  rw [if_pos hkind, (KeepsBinding.memBounds_eq (translationChanged_keepsBinding _ p))]
  exact foldl_bindMemOne p b.kind b.first b.addr (List.range b.count) d (by rw [List.length_range]; exact hfree) k
    (.inr ⟨k - b.addr, List.mem_range.mpr (by omega), by omega⟩)

theorem judgeBind_mem {d : Device} {p : PartNo} {b : BindReq} (h : d.judgeBind p b = none) (hkind : b.kind = 2 ∨ b.kind = 3) :
    d.judgeMem p b = none := by
  unfold Device.judgeBind at h
  rwa [if_pos hkind] at h

theorem bindOver_keepsBound (d : Device) (p : PartNo) : (∀ kind n : Nat, (d.bindOver p).boundTo kind n = d.boundTo kind n) ∧
    (d.bindOver p).pages = d.pages ∧ (d.bindOver p).granules = d.granules ∧ (d.bindOver p).rst = d.rst := ⟨fun _ _ => rfl, rfl, rfl, rfl⟩

theorem bindPumpN_idle (d : Device) (n : Nat) (h : d.bindQueue = []) : d.bindPumpN n = d := by
  cases n with
  | zero => rfl
  | succ n =>
    unfold Device.bindPumpN
    rw [h]

/-- A request's end, and the queue without it. -/
theorem bindEnd_over (d e : Device) (p : PartNo) (hreqs : d.KeepsReqs e) (hq : d.bindQueue = [p]) :
    ∃ w, Device.bindPumpN 1 (e.bindEnd p none) = w ∧ (w.parts[p]).bind.st = 3 ∧ (w.parts[p]).bind.result = 0 ∧ (e.bindOver p).KeepsBinding w := by
  have hkeep := bindEnd_keepsBinding e p
  have hqueue : (e.bindEnd p none).bindQueue = [] := by
    rw [hkeep.queue]
    change e.bindQueue.drop 1 = []
    rw [hreqs.queue, hq]
    rfl
  refine ⟨_, bindPumpN_idle _ _ hqueue, ?_⟩
  rw [hkeep.bind, bindOver_get]
  exact ⟨rfl, rfl, hkeep⟩

/-- Free resources are bound at once. -/
theorem bindItems_end (d : Device) (p : PartNo) (b : BindReq) (hq : d.bindQueue = [p]) (hok : b.kind ≤ 8) :
    ∃ w, Device.bindPumpN 1 ((d.bindItems p b).bindEnd p none) = w ∧ (w.parts[p]).bind.st = 3 ∧ (w.parts[p]).bind.result = 0 ∧
      w.rst = d.rst ∧ (b.kind ≠ 2 → b.kind ≠ 3 → ∀ n ∈ b.items, w.boundTo b.kind n = some p) ∧
      (b.kind = 2 ∨ b.kind = 3 → b.count ≤ (d.freeMem b.kind b.first).length → ∀ k : Nat, b.addr ≤ k → k < b.addr + b.count →
        heldAt (w.memBounds b.kind) p k = true) := by
  have hreqs := bindItems_keepsReqs d p b
  have hitems := bindItems_bound d p b
  have hmem := bindItems_held d p b
  generalize d.bindItems p b = e at hreqs hitems hmem
  obtain ⟨w, hw, hst, hres, hkeep⟩ := bindEnd_over d e p hreqs hq
  refine ⟨w, hw, hst, hres, hkeep.rst.trans hreqs.rst, fun h2 h3 n hn => (hkeep.bound b.kind n).trans (hitems h2 h3 hok n hn), ?_⟩
  intro hkind hfree k hlo hhi
  rw [KeepsBinding.memBounds_eq hkeep]
  exact hmem hkind hfree k hlo hhi

/-! ### A release or a take -/

/-- A request that has begun to drain. -/
def BindReq.drains (b : BindReq) (us : List CtxNo) (os : List PartNo) : BindReq := { b with begun := true, users := us, owners := os }

theorem bindBegin_get (d : Device) (p : PartNo) : ∃ w us os, d.bindBegin p = w ∧ (w.parts[p]).bind = (d.parts[p]).bind.drains us os ∧
    w.rst = d.rst := by
  have hkeep (f : BindReq → BindReq) (us : List CtxNo) : (d.modBind p f).KeepsBinding (us.foldl (fun d c => d.runIdle c)
      (us.foldl (fun d c => d.modCtx c (fun x => { x with marked := if x.st = .running && !x.saving then true else x.marked }))
        (us.foldl (fun d c => d.dropRestore c) (d.modBind p f)))) := by
    refine .trans (.trans (.foldl _ (fun d c => dropRestore_keepsBinding d c) us _) (.foldl _ (fun d c => ?_) us _))
      (.foldl _ (fun d c => .of_scheduled (l := fun _ => False) (runIdle_scheduled _ d c)) us _)
    exact .modCtx d c _ (fun _ => rfl)
  have h := hkeep (fun b => { b with begun := true, users := d.bindUsers (d.parts[p]).bind, owners := if (d.parts[p]).bind.kind = 2 ∨ (d.parts[p]).bind.kind = 3 then [p] else ((d.parts[p]).bind.items.filterMap (d.holderOf (d.parts[p]).bind.kind)).eraseDups }) (d.bindUsers (d.parts[p]).bind)
  exact ⟨_, _, _, rfl, (h.bind p).trans (modBind_get d p _), h.rst⟩

/-! ### The commit -/

section
variable (s : State) (ses : SessId) (p : PartNo) (item : Nat) (g : Nat → Nat) (b : BindReq)
  (hc : s.dev.commits ses (partIndex p 0) item g) (h1 : (s.dev.parts[p]).bind.st ≠ 1) (h2 : (s.dev.parts[p]).bind.st ≠ 2)
  (hq : s.dev.bindQueue = []) (hheld : s.dev.tableHeld p b = false)
  (hb : b = { BindReq.reset with kind := g 1, first := g 2, count := g 3, addr := g 4, action := g 5, flags := g 6, drainUs := g 7,
                                 st := 1, startedAt := s.dev.devTime })
  (hok : bindFieldsOk b = true) (hjudge : (s.dev.queued p b).judgeBind p b = none)

theorem commits_up3 {d : Device} {ses : SessId} {p : PartNo} {item : Nat} {g : Nat → Nat} (h : d.commits ses (partIndex p 0) item g) :
    d.up 3 = true := by
  obtain ⟨hagent, -⟩ := h
  obtain ⟨-, -, -, o, n, ho, hopen, -⟩ := agent_parts hagent
  obtain ⟨-, hat, hbase⟩ := objOf_row ho
  rw [objItem_bind, Option.some.injEq, Prod.mk.injEq] at hbase
  rw [← hbase.1] at hopen
  by_contra hup
  unfold Device.openness at hopen
  rw [show compOf 0x6000 = 3 from rfl, show freeObject 0x6000 = false from rfl, Bool.eq_false_iff.mpr hup] at hopen
  simp only [Bool.false_eq_true, if_false, Bool.not_false, if_true, ne_eq] at hopen
  split_ifs at hopen

include hc h1 h2 hq hheld hb hok hjudge

theorem bindFree_answers (ha : g 5 = 1) : answersOk (.bindFreeResources ses p) ses s (fun d => (d.parts[p]).bind.st = 3 ∧ (d.parts[p]).bind.result = 0 ∧
      (g 1 ≠ 2 → g 1 ≠ 3 → ∀ n : Nat, g 2 ≤ n → n < g 2 + g 3 → d.boundTo (g 1) n = some p) ∧
      (g 1 = 2 → ∀ k : Nat, g 4 ≤ k → k < g 4 + g 3 → heldAt d.pages p k = true) ∧
      (g 1 = 3 → ∀ k : Nat, g 4 ≤ k → k < g 4 + g 3 → heldAt d.granules p k = true)) := by
  refine answersOk_of_applyRecord (commitWhen_runs hc (objItem_bind p) ha) hc (by decide) (objItem_bind p) (fun o S hat => ?_)
  have hact : b.action = 1 := by
    rw [hb]
    exact ha
  have hkind : b.kind = g 1 := by rw [hb]
  have hfirst : b.first = g 2 := by rw [hb]
  have hcount : b.count = g 3 := by rw [hb]
  have haddr : b.addr = g 4 := by rw [hb]
  have h8 : b.kind ≤ 8 := by
    unfold bindFieldsOk at hok
    simp only [Bool.and_eq_true, decide_eq_true_eq] at hok
    tauto
  rw [applyRecord_bind _ _ _ _ _ hat, objPart_part _ _ (by decide),
    applyBind_takes (s.dev.withSessions S) g p b h1 h2 hq hb hok (commits_up3 hc :) hheld hjudge, if_pos hact]
  obtain ⟨w, hw, hst, hres, hrst, hnames, hmem⟩ := bindItems_end ((s.dev.withSessions S).queued p b) p b rfl h8
  rw [hw]
  refine ⟨_, rfl, (live_of_rst hrst).trans (commits_live hc :), fun u hu => ?_⟩
  have hbnd : ∀ kind n : Nat, u.boundTo kind n = w.boundTo kind n := by
    intro kind n
    rw [hu.rest]
    rfl
  have hfree (hk : b.kind = 2 ∨ b.kind = 3) := judgeMem_free (judgeBind_mem hjudge hk) hact
  rw [hu.part p]
  refine ⟨hst, hres, fun n2 n3 n hlo hhi => ?_, fun hk k hlo hhi => ?_, fun hk k hlo hhi => ?_⟩
  · rw [hbnd, ← hkind]
    exact hnames (hkind ▸ n2) (hkind ▸ n3) n ((mem_items b n).mpr ⟨hfirst ▸ hlo, by omega⟩)
  · have h := hmem (.inl (hkind.trans hk)) (hfree (.inl (hkind.trans hk))) k (by omega) (by omega)
    rw [hkind, hk] at h
    rw [hu.rest]
    exact h
  · have h := hmem (.inr (hkind.trans hk)) (hfree (.inr (hkind.trans hk))) k (by omega) (by omega)
    rw [hkind, hk] at h
    rw [hu.rest]
    exact h

/-- A release or a take begins to drain. -/
theorem bindDrain_answers {i : Instr} {a : Nat} (hrun : exec i s = onLive (fun d => d.commitWhen ses p 0 5 a) s) (ha : g 5 = a) (hne : a ≠ 1) :
    answersOk i ses s (fun d => (d.parts[p]).bind.st = 1 ∧ (d.parts[p]).bind.begun = true ∧
      (d.parts[p]).bind.kind = g 1 ∧ (d.parts[p]).bind.action = a) := by
  refine answersOk_of_applyRecord (hrun.trans (commitWhen_runs hc (objItem_bind p) ha)) hc (by decide) (objItem_bind p) (fun o S hat => ?_)
  have hact : b.action = a := by
    rw [hb]
    exact ha
  rw [applyRecord_bind _ _ _ _ _ hat, objPart_part _ _ (by decide),
    applyBind_takes (s.dev.withSessions S) g p b h1 h2 hq hb hok (commits_up3 hc :) hheld hjudge, if_neg (fun h => hne (hact.symm.trans h))]
  obtain ⟨w, us, os, hw, hbind, hrst⟩ := bindBegin_get ((s.dev.withSessions S).queued p b) p
  rw [hw]
  refine ⟨_, rfl, (live_of_rst hrst).trans (commits_live hc :), fun u hu => ?_⟩
  rw [hu.part p]
  change (w.parts[p]).bind.st = 1 ∧ (w.parts[p]).bind.begun = true ∧ (w.parts[p]).bind.kind = g 1 ∧ (w.parts[p]).bind.action = a
  rw [hbind, queued_get, hb]
  exact ⟨rfl, rfl, rfl, ha⟩

end

end Sys2Proof.Machine

/-! The rebinding sequence (R348, R350): the end of a drain, its expiry, and the end of a request. -/

namespace Sys2Proof.Machine

/-! ### The end of a drain -/

theorem Device.Worked.boundBulk {d e : Device} (h : d.Worked e) (m : Nat) : e.boundTo 5 m = d.boundTo 5 m := by
  rw [h.rest]
  rfl

theorem resetGather_bound (d : Device) (g m : GatherNo) : ((d.resetGather g).gather[m]).bound = (d.gather[m]).bound := by
  change ((Device.modGather _ g _).gather[m]).bound = (d.gather[m]).bound
  by_cases h : m = g
  · subst h
    rw [modGather_get]
    rfl
  · rw [modGather_get_ne _ _ _ _ h]
    rfl

/-- What ends with the old owner leaves the entries of the kind; then the entry names no partition. -/
theorem unbindItem_named (d : Device) (kind n : Nat) :
    ∃ e : Device, d.unbindItem kind n = e.setBound kind n none false ∧ ∀ m : Nat, e.boundTo kind m = d.boundTo kind m := by
  refine ⟨_, rfl, fun m => ?_⟩
  split
  case h_1 =>
    refine ((foldl_worked _ (fun d k => stopChannel_worked d _ k) _ _).tileBound (fin m)).trans ?_
    cases (d.tiles[(fin n : TileNo)]).bound with
    | none => rfl
    | some o => rfl
  case h_2 => exact resetGather_bound d _ (fin m)
  case h_3 => exact (foldl_worked _ (fun d k => stopChannel_worked d _ k) _ d).boundBulk m
  case h_4 => rfl

theorem boundTo_none (d : Device) (kind n : Nat) (h2 : kind = 2 ∨ kind = 3 ∨ 8 < kind) : d.boundTo kind n = none := by
  rcases h2 with rfl | rfl | h
  · rfl
  · rfl
  · obtain ⟨k, rfl⟩ := Nat.exists_eq_add_of_lt h
    rw [show 8 + k + 1 = k + 9 by omega]
    rfl

theorem unbindItems_bound (kind : Nat) (h2 : kind ≠ 2) (h3 : kind ≠ 3) (l : List Nat) (d : Device) (n : Nat) (hn : n ∈ l) :
    (l.foldl (fun d n => d.unbindItem kind n) d).boundTo kind n = none := by
  by_cases h8 : kind ≤ 8
  · exact foldl_named kind none false h2 h3 h8 _ (fun d n => unbindItem_named d kind n) l d n (.inl hn)
  · exact boundTo_none _ _ _ (.inr (.inr (by omega)))

/-- No page or granule of the addresses is held by the partition. -/
theorem heldAt_filter (l : List Bound) (p : PartNo) (lo hi k : Nat) (hlo : lo ≤ k) (hhi : k < hi) :
    heldAt (l.filter (fun x => !(x.part = p && lo ≤ x.pno && x.pno < hi))) p k = false := by
  unfold heldAt
  rw [List.any_eq_false]
  intro x hx
  have hout := (List.mem_filter.mp hx).2
  simp only [Bool.and_eq_true, decide_eq_true_eq, not_and]
  rintro hp rfl
  simp [hp, hlo, hhi] at hout

theorem unbindMem_held (d : Device) (p : PartNo) (b : BindReq) (kind : Nat) (hkind : b.kind = kind) (h23 : kind = 2 ∨ kind = 3) (k : Nat)
    (hlo : b.addr ≤ k) (hhi : k < b.addr + b.count) : heldAt ((d.unbindMem p b).memBounds kind) p k = false := by
  unfold Device.unbindMem
  dsimp only
  rw [hkind]
  rcases h23 with rfl | rfl
  · rw [if_pos rfl, KeepsBinding.memBounds_eq (translationChanged_keepsBinding _ p)]
    exact heldAt_filter d.pages p b.addr (b.addr + b.count) k hlo hhi
  · rw [if_neg (by decide), KeepsBinding.memBounds_eq (translationChanged_keepsBinding _ p)]
    exact heldAt_filter d.granules p b.addr (b.addr + b.count) k hlo hhi

/-- The part with what a request names taken from its holders. -/
def Device.unbound (d : Device) (p : PartNo) (b : BindReq) : Device :=
  if b.kind = 2 ∨ b.kind = 3 then d.unbindMem p b else b.items.foldl (fun d n => d.unbindItem b.kind n) d

/-- Once no user runs, each is suspended and the entries name no partition. -/
theorem drainDone_unbinds (d : Device) (p : PartNo) (hst : (d.parts[p]).bind.st = 1) (hbegun : (d.parts[p]).bind.begun = true)
    (hheld : d.tableHeld p (d.parts[p]).bind = false) (hlane : d.laneCollective (d.parts[p]).bind = false)
    (hus : ∀ c ∈ d.drainUsers p, (d.ctxs[c]).st ≠ .running ∧ (d.ctxs[c]).saving = false)
    (htiles : (d.parts[p]).bind.kind = 1 → ∀ n ∈ (d.parts[p]).bind.items, (d.tiles[(fin n : TileNo)]).ctx = none) :
    ∃ (e : Device) (f : BindReq → BindReq),
      d.drainDone p = (e.unbound p (d.parts[p]).bind).modBind p f ∧ ∀ b, (f b).st = 2 := by
  have husers : (d.drainUsers p).all (fun c => (d.ctxs[c]).st ≠ .running && !(d.ctxs[c]).saving) = true := by
    rw [List.all_eq_true]
    intro c hc
    obtain ⟨hrun, hsave⟩ := hus c hc
    rw [hsave, decide_eq_true hrun]
    rfl
  have hout : ((d.parts[p]).bind.kind ≠ 1 || (d.parts[p]).bind.items.all (fun n => (d.tiles[(fin n : TileNo)]).ctx.isNone)) = true := by
    rw [Bool.or_eq_true]
    by_cases hk : (d.parts[p]).bind.kind = 1
    · refine .inr (List.all_eq_true.mpr (fun n hn => ?_))
      rw [htiles hk n hn]
      rfl
    · exact .inl (decide_eq_true hk)
  have hready : ((d.parts[p]).bind.st = 1 && (d.parts[p]).bind.begun && (!d.tableHeld p (d.parts[p]).bind &&
      (d.drainUsers p).all (fun c => (d.ctxs[c]).st ≠ .running && !(d.ctxs[c]).saving) && !d.laneCollective (d.parts[p]).bind &&
      ((d.parts[p]).bind.kind ≠ 1 || (d.parts[p]).bind.items.all (fun n => (d.tiles[(fin n : TileNo)]).ctx.isNone)))) = true := by
    rw [hst, hbegun, hheld, husers, hlane, hout]
    rfl
  exact ⟨_, _, (if_pos hready : d.drainDone p = _), fun _ => rfl⟩

/-! ### The expiry of a drain -/

/-- Every user that runs is asked to be torn down. -/
def Device.drainTears (d : Device) (us : List CtxNo) : Device :=
  us.foldl (fun d c => if (d.ctxs[c]).st = .running && !(d.ctxs[c]).saving then d.askTeardown c .drainExpired else d) d

/-- A user that runs is torn down for the drain. -/
theorem drainTears_tears (l : List CtxNo) : ∀ (d : Device) (c : CtxNo),
    (c ∈ l ∧ (d.ctxs[c]).st = .running ∧ (d.ctxs[c]).saving = false) ∨
      ((d.ctxs[c]).st = .tearing ∧ (d.ctxs[c]).teardownCause = some .drainExpired) →
    ((d.drainTears l).ctxs[c]).st = .tearing ∧ ((d.drainTears l).ctxs[c]).teardownCause = some .drainExpired := by
  induction l with
  | nil =>
    rintro d c (⟨h, -⟩ | h)
    · exact absurd h List.not_mem_nil
    · exact h
  | cons a l ih =>
    intro d c h
    refine ih _ c ?_
    beta_reduce
    by_cases hac : c = a
    · subst hac
      refine .inr ?_
      rcases h with ⟨-, hrun, hsave⟩ | ⟨htear, hcause⟩
      · rw [if_pos (by rw [hrun, hsave]; rfl)]
        unfold Device.askTeardown
        dsimp only
        rw [if_neg (by rw [hrun]; decide), modCtx_get]
        exact ⟨rfl, rfl⟩
      · rw [if_neg (by rw [htear]; simp)]
        exact ⟨htear, hcause⟩
    · have hsame : (if (d.ctxs[a]).st = .running && !(d.ctxs[a]).saving then d.askTeardown a .drainExpired else d).ctxs[c] = d.ctxs[c] := by
        split
        · unfold Device.askTeardown
          dsimp only
          split
          · rfl
          · rw [modCtx_get_ne _ _ _ _ hac]
        · rfl
      rw [hsame]
      exact h.imp_left (fun ⟨hmem, hrest⟩ => ⟨(List.mem_cons.mp hmem).resolve_left hac, hrest⟩)

theorem drainExpired_tears (d : Device) (p : PartNo) (c : CtxNo) (hst : (d.parts[p]).bind.st = 1) (hbegun : (d.parts[p]).bind.begun = true)
    (hlate : 1000 * (d.parts[p]).bind.drainUs ≤ d.since (d.parts[p]).bind.startedAt) (hc : c ∈ d.drainUsers p)
    (hrun : (d.ctxs[c]).st = .running) (hsave : (d.ctxs[c]).saving = false) :
    ((d.drainExpired p).ctxs[c]).st = .tearing ∧ ((d.drainExpired p).ctxs[c]).teardownCause = some .drainExpired := by
  obtain ⟨htear, hcause⟩ := drainTears_tears (d.drainUsers p) d c (.inl ⟨hc, hrun, hsave⟩)
  have hkeep : (d.drainTears (d.drainUsers p)).Worked (d.drainExpired p) := by
    unfold Device.drainExpired
    dsimp only
    rw [if_pos (by rw [hst, hbegun, decide_eq_true hlate]; rfl)]
    exact .trans (foldl_worked _ (fun d q => collAbort_worked d q _ _ _) _ _) (foldl_worked _ (fun d q => collAbort_worked d q _ _ _) _ _)
  exact ⟨hkeep.tearing c htear, (hkeep.cause c htear).trans hcause⟩

end Sys2Proof.Machine

/-! The end of the rebinding sequence (R348). -/

namespace Sys2Proof.Machine

/-! ### Scrubbing -/

theorem retirePage_keepsReqs (d : Device) (page : Nat) : d.KeepsReqs (d.retirePage page) := by
  unfold Device.retirePage
  split
  · exact .refl d
  · dsimp only
    split
    · exact ⟨fun _ => rfl, rfl, rfl⟩
    · exact ⟨fun _ => rfl, rfl, rfl⟩
    · exact ⟨fun _ => rfl, rfl, rfl⟩

theorem scrubMem_keepsReqs (d : Device) (b : BindReq) : d.KeepsReqs (d.scrubMem b) := by
  refine .foldl _ (fun d g => ?_) _ d
  split
  · dsimp only
    split
    · exact .trans (b := { d with hbm := d.hbm.clear (g * pageSize) pageSize, hbmBad := d.hbmBad.filter (fun e => e.1 / 32768 ≠ g),
                                  dueRetire := d.dueRetire.filter (· ≠ g) }) ⟨fun _ => rfl, rfl, rfl⟩ (retirePage_keepsReqs _ g)
    · exact ⟨fun _ => rfl, rfl, rfl⟩
  · exact ⟨fun _ => rfl, rfl, rfl⟩

/-- Tiles keep their pockets and entries; contexts and requests are as they were. -/
structure Device.KeepsPockets (d e : Device) : Prop extends Device.KeepsReqs d e where
  pocket : ∀ t : TileNo, (e.tiles[t]).pocket = (d.tiles[t]).pocket
  bound : ∀ t : TileNo, (e.tiles[t]).bound = (d.tiles[t]).bound
  ctxs : e.ctxs = d.ctxs

namespace Device.KeepsPockets
variable {a b c d e : Device}

theorem refl (d : Device) : d.KeepsPockets d := ⟨.refl d, fun _ => rfl, fun _ => rfl, rfl⟩

theorem trans (h : a.KeepsPockets b) (k : b.KeepsPockets c) : a.KeepsPockets c :=
  ⟨h.toKeepsReqs.trans k.toKeepsReqs, fun t => (k.pocket t).trans (h.pocket t), fun t => (k.bound t).trans (h.bound t), k.ctxs.trans h.ctxs⟩

theorem foldl {α : Type} (f : Device → α → Device) (hf : ∀ (d : Device) (a : α), d.KeepsPockets (f d a)) (l : List α) (d : Device) :
    d.KeepsPockets (l.foldl f d) :=
  foldl_related (R := Device.KeepsPockets) .refl .trans hf l d

theorem of_told (h : d.Told e) : d.KeepsPockets e :=
  ⟨.of_worked (.of_told h), fun t => by rw [h.tiles], fun t => by rw [h.tiles], h.ctxs⟩

theorem modTile (d : Device) (t : TileNo) (f : Tile → Tile) (hp : ∀ x, (f x).pocket = x.pocket)
    (hb : ∀ x, (f x).bound = x.bound) : d.KeepsPockets (d.modTile t f) := by
  refine ⟨⟨fun _ => rfl, rfl, rfl⟩, fun v => ?_, fun v => ?_, rfl⟩
  · by_cases h : v = t
    · subst h
      rw [modTile_get, hp]
    · rw [modTile_get_ne _ _ _ _ h]
  · by_cases h : v = t
    · subst h
      rw [modTile_get, hb]
    · rw [modTile_get_ne _ _ _ _ h]

end Device.KeepsPockets

theorem inject_keepsPockets (d : Device) (p : PartNo) (cuff : Fin 2) (ty dst mid : Nat) (payload : List Byte) :
    d.KeepsPockets (d.inject p cuff ty dst mid payload) := by
  unfold Device.inject
  split
  · exact ⟨⟨fun _ => rfl, rfl, rfl⟩, fun _ => rfl, fun _ => rfl, rfl⟩
  · dsimp only
    split
    · exact .trans (b := d.modPort _ _) ⟨⟨fun _ => rfl, rfl, rfl⟩, fun _ => rfl, fun _ => rfl, rfl⟩
        (.of_told ((count_told _ _ _ _ _).trans (traceRec_told _ _ _ _ _ _)))
    · exact ⟨⟨fun _ => rfl, rfl, rfl⟩, fun _ => rfl, fun _ => rfl, rfl⟩

theorem notifyOf_keepsPockets (d : Device) (o : Option PartNo) (t : TileNo) (w : Watch) (abandoned : Bool) (word : W64) :
    d.KeepsPockets (d.notifyOf o t w abandoned word) := by
  unfold Device.notifyOf
  dsimp only
  split
  · exact inject_keepsPockets _ _ _ _ _ _ _
  · exact .modTile d _ _ (fun _ => rfl) (fun _ => rfl)

theorem modFlightWhere_keepsPockets (d : Device) (t : TileNo) (e : Eng) (q : Flight → Bool) (f : Flight → Flight) :
    d.KeepsPockets (d.modFlightWhere t e q f) := by
  unfold Device.modFlightWhere Device.modFlight
  exact .modTile d t _ (fun _ => rfl) (fun _ => rfl)

/-- A registration answered without POISON writes nothing. -/
theorem answerWatch_keepsPockets (d : Device) (p : Option PartNo) (t : TileNo) (w : Watch) (word : W64) :
    d.KeepsPockets (d.answerWatch p t w false word) := by
  unfold Device.answerWatch
  split
  · split
    · exact inject_keepsPockets _ _ _ _ _ _ _
    · exact .refl d
  · split
    · split
      · exact .refl d
      · rw [if_neg Bool.false_ne_true]
        split
        · exact .refl d
        · exact modFlightWhere_keepsPockets _ _ _ _ _
    · exact .refl d

theorem fireAllAbandoned_keepsPockets (d : Device) (o : Option PartNo) (t : TileNo) : d.KeepsPockets (d.fireAllAbandoned o t) := by
  unfold Device.fireAllAbandoned
  refine .trans (.trans (.modTile d t _ (fun _ => by rfl) (fun _ => by rfl))
    (.foldl _ (fun d w => notifyOf_keepsPockets d o t w true _) _ _)) (.foldl _ (fun d w => ?_) _ _)
  exact (answerWatch_keepsPockets d o t w _).trans (notifyOf_keepsPockets _ o t w true _)

theorem scrubItem_keepsReqs (d : Device) (olds : List (Nat × PartNo)) (kind n : Nat) : d.KeepsReqs (d.scrubItem olds kind n) := by
  unfold Device.scrubItem
  split
  · exact .trans (fireAllAbandoned_keepsPockets d _ _).toKeepsReqs ⟨fun _ => rfl, rfl, rfl⟩
  · exact ⟨fun _ => rfl, rfl, rfl⟩
  · exact .refl d

/-- A tile reset, but for its notes. -/
def Tile.cleared (x : Tile) : Tile := { Tile.reset with notes := x.notes }

/-- A tile that has been scrubbed. -/
def Tile.scrubbed (x : Tile) : Prop := x.pocket = [] ∧ x.bound = none

theorem scrubItem_tile (d : Device) (olds : List (Nat × PartNo)) (n m : Nat)
    (h : n = m ∨ (d.tiles[(fin m : TileNo)]).scrubbed) : ((d.scrubItem olds 1 n).tiles[(fin m : TileNo)]).scrubbed := by
  have hkeep := fireAllAbandoned_keepsPockets d (alGet olds n) (fin n)
  change (((d.fireAllAbandoned (alGet olds n) (fin n)).modTile (fin n) Tile.cleared).tiles[(fin m : TileNo)]).scrubbed
  by_cases hm : (fin m : TileNo) = fin n
  · simp only [hm]
    rw [modTile_get]
    exact ⟨rfl, rfl⟩
  · rw [modTile_get_ne _ _ _ _ hm]
    obtain ⟨hpocket, hbound⟩ := h.resolve_left (fun e => hm (by rw [e]))
    exact ⟨(hkeep.pocket _).trans hpocket, (hkeep.bound _).trans hbound⟩

theorem scrubItem_ctxs (d : Device) (olds : List (Nat × PartNo)) (n : Nat) : (d.scrubItem olds 1 n).ctxs = d.ctxs :=
  (fireAllAbandoned_keepsPockets d (alGet olds n) (fin n)).ctxs

theorem scrubItems_tile (olds : List (Nat × PartNo)) (l : List Nat) : ∀ (d : Device) (m : Nat),
    m ∈ l ∨ (d.tiles[(fin m : TileNo)]).scrubbed →
    ((l.foldl (fun d n => d.scrubItem olds 1 n) d).tiles[(fin m : TileNo)]).scrubbed := by
  induction l with
  | nil => exact fun d m h => h.resolve_left List.not_mem_nil
  | cons n l ih =>
    intro d m h
    refine ih _ m ?_
    rcases h with h | h
    · rcases List.mem_cons.mp h with rfl | h
      · exact .inr (scrubItem_tile d olds m m (.inl rfl))
      · exact .inl h
    · exact .inr (scrubItem_tile d olds n m (.inr h))

/-! ### Nothing to start -/

theorem candidates_idle (d : Device) (h : d.idleCtxs) : d.candidates = [] := by
  refine List.eq_nil_iff_forall_not_mem.mpr (fun c hc => ?_)
  obtain ⟨hready, hsaved, -, -⟩ := h c
  rcases considered_state (mem_candidates d c hc) with hst | hst
  · exact hready hst
  · exact hsaved hst

theorem schedule_idle (d : Device) (h : d.idleCtxs) : d.schedule = d := by
  unfold Device.schedule
  split
  · rfl
  · rw [candidates_idle d h]
    refine List.foldlRecOn (motive := fun e : Device => e = d) _ _ rfl (fun e he c _ => ?_)
    subst he
    unfold Device.runIdle
    dsimp only
    rw [decide_eq_false (h c).2.2.2]
    rfl

theorem unsuspend_idle (d : Device) (h : d.idleCtxs) : d.unsuspend = d := by
  refine List.foldlRecOn (motive := fun e : Device => e = d) _ _ rfl (fun e he c _ => ?_)
  subst he
  rw [decide_eq_false (h c).2.2.1]
  rfl

theorem bindEnd_idle (d : Device) (p : PartNo) (h : d.idleCtxs) : (d.bindEnd p none).tiles = d.tiles := by
  rw [bindEnd_eq]
  have htold := foldl_related (R := fun a b : Device => b.tiles = a.tiles ∧ b.ctxs = a.ctxs) (fun _ => ⟨rfl, rfl⟩)
    (fun h k => ⟨k.1.trans h.1, k.2.trans h.2⟩) (f := fun (e : Device) q => e.report 0x0303 (some q) none 0
      (pay4 (d.parts[p]).bind.kind (d.parts[p]).bind.first (d.parts[p]).bind.count (d.parts[p]).bind.action))
    (fun e q => ⟨(report_told _ _ _ _ _ _).tiles, (report_told _ _ _ _ _ _).ctxs⟩) ((p :: (d.parts[p]).bind.owners).eraseDups) (d.bindOver p)
  obtain ⟨htiles, hctxs⟩ := htold
  generalize List.foldl _ (d.bindOver p) _ = e at htiles hctxs ⊢
  have hidle : e.idleCtxs := by
    unfold Device.idleCtxs
    rw [hctxs]
    exact h
  rw [unsuspend_idle e hidle, schedule_idle e hidle, htiles]
  rfl

/-! ### The end of a request -/

/-- What moves is scrubbed. -/
def Device.scrubbedFor (d : Device) (b : BindReq) : Device :=
  if b.kind = 2 || b.kind = 3 then d.scrubMem b else b.items.foldl (fun d n => d.scrubItem b.olds b.kind n) d

theorem scrubbedFor_keepsReqs (d : Device) (b : BindReq) : d.KeepsReqs (d.scrubbedFor b) := by
  unfold Device.scrubbedFor
  split
  · exact scrubMem_keepsReqs d b
  · exact .foldl _ (fun d n => scrubItem_keepsReqs d _ _ n) _ d

/-- Once what was moved is quiet it is scrubbed, and named to the partition that takes it. -/
theorem rebindComplete_eq (d : Device) (p : PartNo) (hst : (d.parts[p]).bind.st = 2)
    (hquiet : (d.parts[p]).bind.kind = 2 ∨ (d.parts[p]).bind.kind = 3 ∨
      ∀ n ∈ (d.parts[p]).bind.items, d.itemQuiet (d.parts[p]).bind.kind n = true)
    (hheld : d.tableHeld p { (d.parts[p]).bind with owners := [] } = false) :
    d.rebindComplete p = ((if (d.parts[p]).bind.action = 2 then (d.scrubbedFor (d.parts[p]).bind).bindItems p (d.parts[p]).bind
      else d.scrubbedFor (d.parts[p]).bind).bindEnd p none).bindPump := by
  have hready : ((d.parts[p]).bind.st = 2 && !d.tableHeld p { (d.parts[p]).bind with owners := [] } &&
      (((d.parts[p]).bind.kind = 2 || (d.parts[p]).bind.kind = 3) || (d.parts[p]).bind.items.all (d.itemQuiet (d.parts[p]).bind.kind))) = true := by
    rw [hst, hheld]
    rcases hquiet with h | h | h
    · rw [h]
      rfl
    · rw [h]
      rfl
    · rw [List.all_eq_true.mpr h, Bool.or_true]
      rfl
  exact (if_pos hready : d.rebindComplete p = _)

theorem rebindComplete_ends (d : Device) (p : PartNo) (hst : (d.parts[p]).bind.st = 2)
    (hquiet : (d.parts[p]).bind.kind = 2 ∨ (d.parts[p]).bind.kind = 3 ∨
      ∀ n ∈ (d.parts[p]).bind.items, d.itemQuiet (d.parts[p]).bind.kind n = true)
    (hheld : d.tableHeld p { (d.parts[p]).bind with owners := [] } = false) (hq : d.bindQueue = [p]) :
    ∃ w, d.rebindComplete p = w ∧ (w.parts[p]).bind.st = 3 ∧ (w.parts[p]).bind.result = 0 ∧ w.bindQueue = [] ∧
      ((d.parts[p]).bind.action = 2 → (d.parts[p]).bind.kind ≠ 2 → (d.parts[p]).bind.kind ≠ 3 → ∀ n ∈ (d.parts[p]).bind.items,
        (d.parts[p]).bind.kind ≤ 8 → w.boundTo (d.parts[p]).bind.kind n = some p) ∧
      ((d.parts[p]).bind.action = 0 → (d.parts[p]).bind.kind = 1 → d.idleCtxs → ∀ n ∈ (d.parts[p]).bind.items,
        (w.tiles[(fin n : TileNo)]).scrubbed) := by
  refine ⟨_, rebindComplete_eq d p hst hquiet hheld, ?_⟩
  have hscrub := scrubbedFor_keepsReqs d (d.parts[p]).bind
  have htiles : (d.parts[p]).bind.kind = 1 → ∀ n ∈ (d.parts[p]).bind.items,
      ((d.scrubbedFor (d.parts[p]).bind).tiles[(fin n : TileNo)]).scrubbed := by
    intro hk n hn
    unfold Device.scrubbedFor
    rw [hk]
    exact scrubItems_tile _ _ d n (.inl hn)
  have hctxs : (d.parts[p]).bind.kind = 1 → (d.scrubbedFor (d.parts[p]).bind).ctxs = d.ctxs := by
    intro hk
    unfold Device.scrubbedFor
    rw [hk]
    exact List.foldlRecOn (motive := fun e : Device => e.ctxs = d.ctxs) _ _ rfl (fun e he n _ => (scrubItem_ctxs e _ n).trans he)
  generalize d.scrubbedFor (d.parts[p]).bind = e at hscrub htiles hctxs ⊢
  by_cases ha : (d.parts[p]).bind.action = 2
  · rw [if_pos ha]
    have hreqs := bindItems_keepsReqs e p (d.parts[p]).bind
    have hbound := bindItems_bound e p (d.parts[p]).bind
    generalize e.bindItems p (d.parts[p]).bind = e' at hreqs hbound ⊢
    obtain ⟨w, hw, -, hst', hres, hqueue, hkeep⟩ := bindEnd_pump e' p (hreqs.queue.trans (hscrub.queue.trans hq))
    rw [hw]
    exact ⟨hst', hres, hqueue, fun _ h2 h3 n hn h8 => (hkeep.bound _ n).trans (hbound h2 h3 h8 n hn), fun h0 => absurd (h0.symm.trans ha) (by decide)⟩
  · rw [if_neg ha]
    obtain ⟨w, hw, hwe, hst', hres, hqueue, hkeep⟩ := bindEnd_pump e p (hscrub.queue.trans hq)
    rw [hw]
    refine ⟨hst', hres, hqueue, fun h => absurd h ha, fun _ hk hidle n hn => ?_⟩
    have hidle' : e.idleCtxs := by
      unfold Device.idleCtxs
      rw [hctxs hk]
      exact hidle
    rw [hwe, bindEnd_idle e p hidle']
    exact htiles hk n hn

/-- The entries of a request whose users have drained. -/
theorem unbound_bound (e : Device) (p : PartNo) (b : BindReq) :
    (b.kind ≠ 2 → b.kind ≠ 3 → ∀ n ∈ b.items, (e.unbound p b).boundTo b.kind n = none) ∧
      (b.kind = 2 → ∀ k : Nat, b.addr ≤ k → k < b.addr + b.count → heldAt (e.unbound p b).pages p k = false) ∧
      (b.kind = 3 → ∀ k : Nat, b.addr ≤ k → k < b.addr + b.count → heldAt (e.unbound p b).granules p k = false) := by
  refine ⟨fun h2 h3 n hn => ?_, fun hk k hlo hhi => ?_, fun hk k hlo hhi => ?_⟩
  · unfold Device.unbound
    rw [if_neg (by rintro (h | h); exacts [h2 h, h3 h])]
    exact unbindItems_bound b.kind h2 h3 b.items e n hn
  · unfold Device.unbound
    rw [if_pos (.inl hk)]
    exact unbindMem_held e p b 2 hk (.inl rfl) k hlo hhi
  · unfold Device.unbound
    rw [if_pos (.inr hk)]
    exact unbindMem_held e p b 3 hk (.inr rfl) k hlo hhi

/-- Settles O39: free resources are bound one after another, each entry keeping the name it was given; a drain unbinds the same way; and
at the end of a request the queue is empty, and what is scrubbed stays so. -/
theorem bindingCommits : Obligations.BindingCommits := by
  unfold Obligations.BindingCommits
  refine ⟨fun s ses p item g b hc h1 h2 hq hheld hb hok hjudge => ⟨fun ha => ?_, fun ha => ?_, fun ha => ?_⟩, fun s p => ?_⟩
  · exact bindFree_answers s ses p item g b hc h1 h2 hq hheld hb hok hjudge ha
  · exact bindDrain_answers s ses p item g b hc h1 h2 hq hheld hb hok hjudge rfl ha (by decide)
  · exact bindDrain_answers s ses p item g b hc h1 h2 hq hheld hb hok hjudge rfl ha (by decide)
  · intro b hl hup
    refine ⟨fun hst hbegun hheld hlane hus htiles => ?_, fun c hst hbegun hlate hcu hrun hsave => ?_, fun hst hquiet hheld hq => ?_⟩
    · obtain ⟨e, f, heq, hf⟩ := drainDone_unbinds s.dev p hst hbegun hheld hlane hus htiles
      refine ⟨_, onLive_live (fun d => if d.up 3 then d.drainDone p else d) s hl, ?_⟩
      dsimp only
      rw [if_pos hup, heq]
      exact ⟨by rw [modBind_get, hf], unbound_bound e p b⟩
    · refine ⟨_, onLive_live (fun d => if d.up 3 then d.drainExpired p else d) s hl, ?_⟩
      dsimp only
      rw [if_pos hup]
      exact drainExpired_tears s.dev p c hst hbegun hlate hcu hrun hsave
    · obtain ⟨w, hw, hst', hres, hqueue, hnames, htiles⟩ := rebindComplete_ends s.dev p hst hquiet hheld hq
      refine ⟨_, onLive_live (fun d => if d.up 3 then d.rebindComplete p else d) s hl, ?_⟩
      dsimp only
      rw [if_pos hup, hw]
      exact ⟨hst', hres, hqueue, fun ha h2 h3 n hn _ h8 => hnames ha h2 h3 n hn h8, htiles⟩

end Sys2Proof.Machine

/-! Suspicion and fittings (R385 to R389). -/

namespace Sys2Proof.Machine

/-! ### The health table -/

theorem Device.Told.health {d e : Device} (h : d.Told e) : e.health = d.health := by rw [h.rest]

theorem patchWatch_told (a d : Device) (p : PanelNo) : d.Told (Device.patchWatch a d p) := by
  unfold Device.patchWatch
  split
  · exact report_told _ _ _ _ _ _
  · exact .refl d

/-- A tile whose fitting begins. -/
theorem fitStart_health (d : Device) (x : PhysNo) : ((d.fitStart x).health[x]).role = 3 ∧ ((d.fitStart x).health[x]).fitStart = d.devTime ∧
    (d.fitStart x).tiles = d.tiles := by
  unfold Device.fitStart
  have htold := patchWatch_told d (d.modHealth x (fun h => { h with role := 3, fitStart := d.devTime })) (gridPanel x)
  rw [htold.health, modHealth_get]
  exact ⟨rfl, rfl, htold.tiles⟩

/-- Values drawn for what a pocket loses take no time. -/
theorem freeBytes_devTime (n : Nat) : ∀ d : Device, (d.freeBytes n).2.devTime = d.devTime := by
  induction n with
  | zero => exact fun _ => rfl
  | succ n ih => exact fun d => (ih d.free.2 :)

/-! ### Fittings -/

/-- No tile of the panel is being fitted, and the tile is no memory stop. -/
theorem tileFitting_gate {d : Device} {x : PhysNo} (hup : d.up 6 = true) (hmem : isMemStop x = false)
    (hone : ∀ y ∈ panelStops (gridPanel x), (d.health[y]).role ≠ 3) :
    ¬ (!d.up 6 ∨ isMemStop x ∨ (panelStops (gridPanel x)).any (fun y => (d.health[y]).role = 3)) := by
  rintro (h | h | h)
  · rw [hup] at h
    exact Bool.false_ne_true h
  · rw [hmem] at h
    exact Bool.false_ne_true h
  · obtain ⟨y, hy, hrole⟩ := List.any_eq_true.mp h
    exact hone y hy (of_decide_eq_true hrole)

theorem tileFitting_patch (d : Device) (x : PhysNo)
    (hgate : ¬ (!d.up 6 ∨ isMemStop x ∨ (panelStops (gridPanel x)).any (fun y => (d.health[y]).role = 3)))
    (hrole : (d.health[x]).role = 1) (hdue : (d.health[x]).due = true) (hshadow : ∀ c ∈ d.ctxs.toList, c.shadow ≠ some x) :
    d.tileFitting x = d.fitStart x := by
  have hfree : d.ctxs.toList.all (fun (c : Context) => c.shadow ≠ some x) = true :=
    List.all_eq_true.mpr (fun c hc => decide_eq_true (hshadow c hc))
  unfold Device.tileFitting
  dsimp only
  rw [if_neg hgate, if_pos hrole, if_pos ⟨.inl hdue, hfree⟩]

/-- A tile that no context occupies loses what its pocket held. -/
def Device.pocketLost (d : Device) (t : TileNo) : Device :=
  (d.freeBytes pocketSize).2.modTile t (fun y => { y with pocket := Memory.write [] 0 (d.freeBytes pocketSize).1, pocketBad := [] })

theorem pocketLost_devTime (d : Device) (t : TileNo) : (d.pocketLost t).devTime = d.devTime := by
  unfold Device.pocketLost
  rw [modTile_devTime, freeBytes_devTime]

theorem tileFitting_suspect (d : Device) (x : PhysNo)
    (hgate : ¬ (!d.up 6 ∨ isMemStop x ∨ (panelStops (gridPanel x)).any (fun y => (d.health[y]).role = 3)))
    (hrole : (d.health[x]).role = 0) (hsus : (d.health[x]).suspect = 3) (hbound : (d.tiles[(d.health[x]).ltile]).bound = none)
    (hbar : d.fitBarred (d.health[x]).ltile = false) (hocc : d.occupied (d.health[x]).ltile = false) :
    d.tileFitting x = (d.pocketLost (d.health[x]).ltile).fitStart x := by
  have hstay : ¬ ((d.health[x]).role ≠ 0 ∨
      (!(d.health[x]).due ∧ ¬((d.health[x]).suspect = 3 ∧ (d.tiles[(d.health[x]).ltile]).bound = none)) ∨
      d.fitBarred (d.health[x]).ltile) := by
    rintro (h | ⟨-, h⟩ | h)
    · exact h hrole
    · exact h ⟨hsus, hbound⟩
    · rw [hbar] at h
      exact Bool.false_ne_true h
  unfold Device.tileFitting
  dsimp only
  rw [if_neg hgate, if_neg (by rw [hrole]; decide), if_neg hstay, hocc]
  exact if_pos rfl

theorem fittingDone_pass (d : Device) (x : PhysNo) (hrole : (d.health[x]).role = 3) (hpatch : d.patchMap[(d.health[x]).ltile] ≠ x) :
    d.fittingDone x true = (d.modHealth x (fun h =>
      { h with role := 1, suspect := 0, due := false, overdue := false, lastFit := d.devTime })).schedule := by
  unfold Device.fittingDone
  dsimp only
  rw [if_neg (not_not.mpr hrole), if_pos rfl, decide_eq_false hpatch]
  rfl

theorem fittingDone_fail (d : Device) (x : PhysNo) (hrole : (d.health[x]).role = 3) (hpatch : d.patchMap[(d.health[x]).ltile] ≠ x) :
    ((d.fittingDone x false).health[x]).role = 2 ∧ x.val ∈ (d.fittingDone x false).retiredTiles := by
  have hretire : d.retireTile x =
      { d.modHealth x (fun h => { h with role := 2, due := false, overdue := false }) with retiredTiles := d.retiredTiles ++ [x.val] } := by
    unfold Device.retireTile
    dsimp only
    rw [decide_eq_false hpatch]
    rfl
  have hdone : d.fittingDone x false = Device.patchWatch d (d.retireTile x) (gridPanel x) := by
    unfold Device.fittingDone
    dsimp only
    rw [if_neg (not_not.mpr hrole), if_neg Bool.false_ne_true]
  rw [hdone, hretire, (patchWatch_told d _ (gridPanel x)).health, (patchWatch_keepsRetired d _ (gridPanel x)).tiles]
  refine ⟨?_, List.mem_append_right _ (List.mem_singleton_self _)⟩
  change ((d.modHealth x (fun h => { h with role := 2, due := false, overdue := false })).health[x]).role = 2
  rw [modHealth_get]

/-! ### The grace -/

theorem announced_alarms (d : Device) (code : W16) (p : Option PartNo) (ctx : Option Nat) (payload : BitVec 128) :
    (d.announced code p ctx payload).alarms = d.alarms := by
  have hif (c : Prop) [Decidable c] (e : Device) (f : Fn) : (if c then e.postEvent f code ctx payload else e).alarms = e.alarms := by
    split
    · exact (postEvent_keepsAlarms e f code ctx payload).2
    · rfl
  cases p with
  | none => exact hif _ d .pf0
  | some q => exact (hif _ _ (.vf q)).trans (hif _ d .pf0)

theorem logErr_alarms (d : Device) (code : W16) (p : Option PartNo) (ctx src : Nat) (payload : BitVec 128) :
    (d.logErr code p ctx src payload).alarms = d.alarms := by
  change (if d.errLog.length < 1024 then d else d.trigOn 0x020C).alarms = d.alarms
  split
  · rfl
  · exact (trigOn_keepsAlarms d _).2

/-- A report of an alarm's code leaves an alarm of that code in the table (R450). -/
theorem report_raises (d : Device) (code : W16) (p : Option PartNo) (ctx : Option Nat) (src : Nat) (payload : BitVec 128)
    (h : isAlarm code = true) : ∃ a ∈ (d.report code p ctx src payload).alarms, a.code = code := by
  have halarm : ∃ a ∈ (d.alarmed code p src payload).alarms, a.code = code := by
    unfold Device.alarmed
    rw [h]
    exact (raiseAlarm_spec _ _ _ _).2
  rw [report_eq, announced_alarms]
  split
  · rw [logErr_alarms]
    exact halarm
  · exact halarm

theorem report_overdue_spec (d : Device) (src : Nat) (payload : BitVec 128) :
    (d.report 0x0105 none none src payload).health = d.health ∧
      ∃ a ∈ (d.report 0x0105 none none src payload).alarms, a.code = 0x0105#16 :=
  ⟨(report_told _ _ _ _ _ _).health, report_raises _ _ _ _ _ _ (by decide)⟩

theorem graceExpiry_overdue (d : Device) (x : PhysNo) (hrole : (d.health[x]).role = 0) (hdue : (d.health[x]).due = true)
    (hover : (d.health[x]).overdue = false) (hocc : d.occupied (d.health[x]).ltile = true)
    (htime : (d.cfg 0x5400 1 0 + d.cfg 0x5400 2 0) * hourNs ≤ d.since (d.health[x]).lastFit) :
    ((d.graceExpiry x).health[x]).overdue = true ∧
      (d.fitBarred (d.health[x]).ltile = true → ∃ a ∈ (d.graceExpiry x).alarms, a.code = 0x0105#16) := by
  have hbar : (d.modHealth x (fun h => { h with overdue := true })).fitBarred (d.health[x]).ltile = d.fitBarred (d.health[x]).ltile := rfl
  have heq : d.graceExpiry x = if d.fitBarred (d.health[x]).ltile = true then
      (d.modHealth x (fun h => { h with overdue := true })).report 0x0105 none none x (pay4 x (d.health[x]).ltile.val 0 0)
      else d.modHealth x (fun h => { h with overdue := true }) := by
    unfold Device.graceExpiry
    dsimp only
    rw [if_pos ⟨hrole, hdue, by rw [hover]; rfl, hocc, htime⟩, hbar]
  rw [heq]
  split
  · next h =>
    obtain ⟨hkeep, halarm⟩ := report_overdue_spec (d.modHealth x (fun h => { h with overdue := true })) x (pay4 x (d.health[x]).ltile.val 0 0)
    refine ⟨?_, fun _ => halarm⟩
    exact (congrArg (fun v : Vector Health 576 => (v[x]).overdue) hkeep).trans (congrArg Health.overdue (modHealth_get d x _))
  · next h =>
    rw [modHealth_get]
    exact ⟨rfl, fun hb => absurd hb h⟩

/-- Settles O42: each service by its guard; the scheduler and the reports leave the health table. -/
theorem fittingResults : Obligations.FittingResults := by
  unfold Obligations.FittingResults
  intro s x h hl
  refine ⟨fun hsus htime => ?_, fun hrole hmem htime => ?_, fun hup hmem hone hrole hdue hshadow => ?_,
    fun hup hmem hone hrole hsus hbound hbar hocc => ?_, fun hrole hpatch => ⟨?_, ?_⟩, fun hrole hdue hover hocc htime => ?_⟩
  · change onLive (fun d => d.decay x) s = _
    rw [onLive_live _ _ hl]
    exact congrArg (fun d => Host.Outcome.next { s with dev := d }) (if_pos ⟨hsus, htime⟩ : s.dev.decay x = _)
  · change onLive (fun d => d.fitFallsDue x) s = _
    rw [onLive_live _ _ hl]
    exact congrArg (fun d => Host.Outcome.next { s with dev := d }) (if_pos ⟨hrole, by rw [hmem]; rfl, htime⟩ : s.dev.fitFallsDue x = _)
  · refine ⟨_, onLive_live (fun d => d.tileFitting x) s hl, ?_⟩
    dsimp only
    rw [tileFitting_patch s.dev x (tileFitting_gate hup hmem hone) hrole hdue hshadow]
    exact fitStart_health s.dev x
  · refine ⟨_, onLive_live (fun d => d.tileFitting x) s hl, ?_⟩
    obtain ⟨hr, hfit, -⟩ := fitStart_health (s.dev.pocketLost (s.dev.health[x]).ltile) x
    dsimp only
    rw [tileFitting_suspect s.dev x (tileFitting_gate hup hmem hone) hrole hsus hbound hbar hocc]
    exact ⟨hr, hfit.trans (pocketLost_devTime s.dev _)⟩
  · refine ⟨s.dev.modHealth x (fun h => { h with role := 1, suspect := 0, due := false, overdue := false, lastFit := s.dev.devTime }), ?_, ?_⟩
    · change onLive (fun d => d.fittingDone x true) s = _
      rw [onLive_live _ _ hl, fittingDone_pass s.dev x hrole hpatch]
    · rw [modHealth_get]
      exact ⟨rfl, rfl, rfl, rfl⟩
  · exact ⟨_, onLive_live (fun d => d.fittingDone x false) s hl, fittingDone_fail s.dev x hrole hpatch⟩
  · exact ⟨_, onLive_live (fun d => d.graceExpiry x) s hl, graceExpiry_overdue s.dev x hrole hdue hover hocc htime⟩

end Sys2Proof.Machine

/-! Device time and rack time (R323, R324, R407, R408). -/

namespace Sys2Proof.Machine

theorem Device.Told.tsync {d e : Device} (h : d.Told e) : e.tsync = d.tsync := by rw [h.rest]

/-! ### The counter -/

theorem tsyncTick_counts (y : Tsync) : (y.tick.1 = 0 ∨ y.tick.1 = 1 ∨ y.tick.1 = 2) ∧ (y.slew = 0 → y.tick.1 = 1) := by
  unfold Tsync.tick
  split
  · exact ⟨.inr (.inl rfl), fun _ => rfl⟩
  · next h =>
    refine ⟨?_, fun h' => absurd h' h⟩
    split
    · exact .inr (.inl rfl)
    · split
      · exact .inr (.inr rfl)
      · exact .inl rfl

theorem copyLine_devTime (d : Device) (r : Remap) : (d.copyLine r).devTime = d.devTime := by
  unfold Device.copyLine
  split
  · exact (meetLine_worked d r.old r.ptr).devTime
  · rfl

theorem countWaits_told (d : Device) (now : W64) : d.Told (d.countWaits now) :=
  foldl_related (R := Device.Told) .refl .trans (f := fun (e : Device) (q : Tile × Nat) => e.count q.1.bound 0x004 q.2 (q.1.longWaits now))
    (fun d _ => count_told d _ _ _ _) _ d

theorem tick_devTime (d : Device) : (tick d).devTime = d.devTime + BitVec.ofNat 64 d.tsync.tick.1 := by
  unfold tick
  dsimp only
  split
  · refine (List.foldlRecOn (motive := fun e : Device => e.devTime = d.devTime + BitVec.ofNat 64 d.tsync.tick.1) _ _ ?_
      (fun e he r _ => (copyLine_devTime e r).trans he))
    exact (countWaits_told _ _).devTime
  · rfl

/-! ### Edges -/

/-- The tracker of rack time after an edge. -/
def Device.edgeTaken (d : Device) : Device :=
  { (d.modTsync (fun y => { y with lastEdge := d.devTime, edges := y.edges + 1, sentMark := false, epoch := none, missed := false })).tsyncTake with
    rst := { d.rst with firstMark := false } }

theorem markEdge_first (d : Device) (e : W64) (he : d.tsync.epoch = some e) (hfirst : d.rst.firstMark = true)
    (hmissed : d.tsync.missed = false) (hstarted : ∀ c : CtxNo, (d.ctxs[c]).st.started = false) :
    d.markEdge.devTime = e ∧ d.markEdge.rst.firstMark = false := by
  have hany : d.anyStarted = false := by
    unfold Device.anyStarted
    rw [List.any_eq_false]
    intro x hx
    obtain ⟨i, hi, rfl⟩ := Vector.mem_iff_getElem.mp (Vector.mem_toList_iff.mp hx)
    exact Bool.not_eq_true _ ▸ hstarted ⟨i, hi⟩
  unfold Device.markEdge
  dsimp only
  rw [hmissed, he, hfirst, hany]
  exact ⟨rfl, rfl⟩

theorem markEdge_later (d : Device) (e : W64) (he : d.tsync.epoch = some e) (hfirst : d.rst.firstMark = false) :
    d.markEdge.devTime = d.devTime := by
  unfold Device.markEdge
  dsimp only
  rw [he, hfirst]
  split
  · rfl
  · dsimp only
    rw [Bool.false_and, if_neg Bool.false_ne_true]
    split
    · exact (report_told _ _ _ _ _ _).devTime
    · rfl

/-- Settles O50: a step adds what the slew gives; a reset, and power-on, write the time they keep. -/
theorem deviceTime : Obligations.DeviceTime := by
  unfold Obligations.DeviceTime
  refine ⟨fun s hp => ?_, fun s c level => ?_, rfl, fun s => ⟨_, rfl, rfl⟩, fun s e he => ⟨fun hfirst hmissed hstarted => ?_, fun hfirst => ?_⟩,
    fun s => ⟨rfl, rfl⟩⟩
  · refine ⟨{ s with dev := tick s.dev }, by unfold step; rw [hp], hp, ?_⟩
    obtain ⟨hcount, hone⟩ := tsyncTick_counts s.dev.tsync
    dsimp only
    rw [tick_devTime]
    refine ⟨?_, fun h => by rw [hone h]; rfl⟩
    rcases hcount with h | h | h
    · rw [h]
      exact .inl (BitVec.add_zero _)
    · rw [h]
      exact .inr (.inl rfl)
    · rw [h]
      exact .inr (.inr rfl)
  · unfold Device.startReset
    dsimp only
    split
    · rfl
    · rfl
  · exact ⟨_, rfl, markEdge_first s.dev e he hfirst hmissed hstarted⟩
  · exact ⟨_, rfl, markEdge_later s.dev e he hfirst⟩

/-! ### Rack time -/

/-- An edge that did not come is counted from, whatever the period, and raises TIME_MARK_MISSED. -/
theorem edgeMissed_spec (d : Device) (period : W64) : ∃ w : Device,
    (d.modTsync (fun y => { y with lastEdge := y.lastEdge + period, epoch := none, missed := true })).report alMarkMissed none none 0 0 = w ∧
      w.tsync.lastEdge = d.tsync.lastEdge + period ∧ w.devTime = d.devTime ∧ ∃ a ∈ w.alarms, a.code = 0x0108#16 := by
  have htold := report_told (d.modTsync (fun y => { y with lastEdge := y.lastEdge + period, epoch := none, missed := true })) alMarkMissed none none 0 0
  exact ⟨_, rfl, congrArg Tsync.lastEdge htold.tsync, htold.devTime, report_raises _ _ _ _ _ _ (by decide)⟩

theorem markTimeout_missed (d : Device) (h : d.tsync.edges ≠ 0) (hlate : 1001000 < d.since d.tsync.lastEdge) :
    d.markTimeout.tsync.lastEdge = d.tsync.lastEdge + 1000000 ∧ d.markTimeout.devTime = d.devTime ∧
      ∃ a ∈ d.markTimeout.alarms, a.code = 0x0108#16 := by
  obtain ⟨w, hw, hspec⟩ := edgeMissed_spec d 1000000
  unfold Device.markTimeout
  rw [if_pos ⟨h, hlate⟩, hw]
  exact hspec

theorem ptpLost_unlocks (d : Device) (h : d.tsync.master = true) : d.ptpLost.tsync.ptpLocked = false ∧
    (d.tsync.st = 3 → d.ptpLost.tsync.st = 1) ∧ ∃ a ∈ d.ptpLost.alarms, a.code = 0x0109#16 := by
  unfold Device.ptpLost
  rw [if_pos h]
  have htold := report_told (d.modTsync (fun y => { y with ptpLocked := false, ptpT1 := none, ptpT3 := none, st := if y.st = 3 then 1 else y.st }))
    alPtpLost none none 0 0
  refine ⟨?_, fun hst => ?_, report_raises _ _ _ _ _ _ (by decide)⟩
  · rw [htold.tsync]
    rfl
  · rw [htold.tsync]
    exact if_pos hst

theorem epochSend_sends (d : Device) (k : SliceTab) (hmaster : d.tsync.master = true) (hedges : d.tsync.edges ≠ 0)
    (hsent : d.tsync.sentMark = false) (hlo : 200000 ≤ d.since d.tsync.lastEdge) (hhi : d.since d.tsync.lastEdge ≤ 800000)
    (htable : d.tableOf d.tsync.eff[(5 : Fin 6)] = some k) :
    d.epochSend =
      (((List.range (d.tsync.eff[(4 : Fin 6)] + 1 - d.tsync.eff[(3 : Fin 6)])).map (· + d.tsync.eff[(3 : Fin 6)])).filter
        (fun c => c ≠ d.chipId.toNat)).foldl
        (fun e c => e.inject (e.tables[k]).part collarCuff 0xD c 0
          (leBytes 16 ((d.tsync.ptpTime d.tsync.lastEdge + 1000000).toNat + (d.tsync.edges.toNat % 2 ^ 32) <<< 64)))
        { d with tsync := { d.tsync with epoch := some (d.tsync.ptpTime d.tsync.lastEdge + 1000000), sentMark := true } } := by
  have hready : (d.tsync.master && d.tsync.edges ≠ 0 && !d.tsync.sentMark && decide (200000 ≤ d.since d.tsync.lastEdge) &&
      decide (d.since d.tsync.lastEdge ≤ 800000)) = true := by
    rw [hmaster, hsent, decide_eq_true hedges, decide_eq_true hlo, decide_eq_true hhi]
    rfl
  unfold Device.epochSend
  dsimp only
  rw [if_pos hready, show (d.modTsync _).tableOf d.tsync.eff[(5 : Fin 6)] = some k from htable]
  rfl

/-- A message of the port and domain configured, on a port that is up, is taken. -/
theorem ptp_takes (d : Device) (port : NetNo) (domain : Byte) (m : PtpMsg) (hmaster : d.tsync.master = true)
    (hport : d.tsync.eff[(1 : Fin 6)] = port.val) (hdomain : d.tsync.eff[(2 : Fin 6)] = domain.toNat) (hnet : (d.net[port]).st = 2) :
    d.ptp ⟨port, domain, m⟩ = (d.modTsync (fun y => { y with ptpOut := [] })).ptpTake m := by
  have hready : (d.tsync.master && d.tsync.eff[(1 : Fin 6)] = port.val && d.tsync.eff[(2 : Fin 6)] = domain.toNat &&
      (d.net[port]).st = 2) = true := by
    rw [hmaster, decide_eq_true hport, decide_eq_true hdomain, decide_eq_true hnet]
    rfl
  exact if_pos hready

theorem inject_tables (d : Device) (p : PartNo) (cuff : Fin 2) (ty dst mid : Nat) (payload : List Byte) :
    (d.inject p cuff ty dst mid payload).tables = d.tables := by rw [(inject_touched d p cuff ty dst mid payload).rest]

/-- Packets to one chip after another leave the slice's table. -/
theorem foldl_inject_part (k : SliceTab) (payload : List Byte) (l : List Nat) : ∀ (d : Device) (q : PartNo), (d.tables[k]).part = q →
    l.foldl (fun e c => e.inject (e.tables[k]).part collarCuff 0xD c 0 payload) d = l.foldl (fun e c => e.inject q collarCuff 0xD c 0 payload) d := by
  induction l with
  | nil => exact fun _ _ _ => rfl
  | cons c l ih =>
    rintro d q rfl
    exact ih _ _ (by rw [inject_tables])

/-- Settles O51: each message by the guard of its kind; the reports leave the tracker of rack time, and packets the slice tables. -/
theorem rackTimeResults : Obligations.RackTimeResults := by
  unfold Obligations.RackTimeResults
  intro s y
  refine ⟨fun hedges hlate => ⟨_, rfl, markTimeout_missed s.dev hedges hlate⟩, rfl, fun hok => ⟨_, rfl, rfl, ?_, rfl⟩,
    fun hl hmaster => ⟨fun e k hedges hsent hlo hhi he htable => ?_, fun port domain hport hdomain hnet => ⟨fun t1 htx => ⟨?_, ?_⟩,
      fun t3 t4 ht3 => ?_, fun htx => ?_⟩, ?_⟩, fun src a pkt d hl hwf htake hmaster hlo hhi hslice => ?_⟩
  · change (if y.refOk then y.st else if y.edges = 0 then 0 else y.lockState) = _
    rw [hok]
    rfl
  · change onLive Device.epochSend s = _
    rw [onLive_live _ _ hl, epochSend_sends s.dev k hmaster hedges hsent hlo hhi htable, he]
    refine congrArg (fun d => Host.Outcome.next { s with dev := d }) ?_
    exact foldl_inject_part k _ _ _ (s.dev.tables[k]).part rfl
  · change onLive (fun d => d.ptp ⟨port, domain, .sync true t1⟩) s = _
    rw [onLive_live _ _ hl, ptp_takes s.dev port domain _ hmaster hport hdomain hnet]
    exact congrArg (fun d => Host.Outcome.next { s with dev := d }) (if_neg (Bool.eq_false_iff.mp htx))
  · change onLive (fun d => d.ptp ⟨port, domain, .sync false t1⟩) s = _
    rw [onLive_live _ _ hl, ptp_takes s.dev port domain _ hmaster hport hdomain hnet]
    exact congrArg (fun d => Host.Outcome.next { s with dev := d }) (if_neg (Bool.eq_false_iff.mp htx))
  · change onLive (fun d => d.ptp ⟨port, domain, .delayResp t4⟩) s = _
    rw [onLive_live _ _ hl, ptp_takes s.dev port domain _ hmaster hport hdomain hnet]
    unfold Device.ptpTake
    dsimp only
    rw [show (s.dev.modTsync (fun y => { y with ptpOut := [] })).tsync.ptpT3 = some t3 from ht3]
    rfl
  · change onLive (fun d => d.ptp ⟨port, domain, .delayReq⟩) s = _
    rw [onLive_live _ _ hl, ptp_takes s.dev port domain _ hmaster hport hdomain hnet]
    exact congrArg (fun d => Host.Outcome.next { s with dev := d }) (if_pos htx)
  · exact ⟨_, onLive_live Device.ptpLost s hl, ptpLost_unlocks s.dev hmaster⟩
  · have hmine : (!y.master && decide (y.eff[(3 : Fin 6)] ≤ pkt.src) && decide (pkt.src ≤ y.eff[(4 : Fin 6)]) &&
        pkt.slice = y.eff[(5 : Fin 6)]) = true := by
      rw [hmaster, decide_eq_true hlo, decide_eq_true hhi, decide_eq_true hslice]
      rfl
    change (if src.wf then onLive (fun d => d.servTime src) s else .fault .illFormed) = _
    rw [if_pos hwf, onLive_live _ _ hl]
    unfold Device.servTime
    rw [htake]
    exact congrArg (fun d => Host.Outcome.next { s with dev := d }) (if_pos hmine)

end Sys2Proof.Machine

/-! Reset sources, the host port and the end of a reset (R394 to R398, R415). -/

namespace Sys2Proof.Machine

/-- What a device reset keeps, and the reset it may find held, stand in `e` as in `d`. -/
structure Device.KeepsReset (d e : Device) : Prop where
  devTime : e.devTime = d.devTime
  errLog : e.errLog = d.errLog
  retiredTiles : e.retiredTiles = d.retiredTiles
  hostMem : e.hostMem = d.hostMem
  retiredPages : e.retiredPages = d.retiredPages
  dueRetire : e.dueRetire = d.dueRetire
  held : e.rst.held = d.rst.held
  cause : e.rst.cause = d.rst.cause
  secondary : e.rst.secondary = d.rst.secondary
  count : e.rst.count = d.rst.count

namespace Device.KeepsReset

theorem refl (d : Device) : d.KeepsReset d := ⟨rfl, rfl, rfl, rfl, rfl, rfl, rfl, rfl, rfl, rfl⟩

theorem dumpAll (d : Device) : d.KeepsReset d.dumpAll := ⟨rfl, rfl, rfl, rfl, rfl, rfl, rfl, rfl, rfl, rfl⟩

end Device.KeepsReset

theorem startReset_fresh (e : Device) (k : Fin 9) (level : Bool) (h : e.rst.held = false) :
    ∃ r : Rst, e.startReset k level = ({ e with rst := r } : Device).wipe ∧ r.held = true ∧ r.cause = k ∧ r.secondary = 0 ∧ r.count = e.rst.count + 1 := by
  unfold Device.startReset
  dsimp only
  rw [if_neg (by rw [h]; exact Bool.false_ne_true)]
  exact ⟨_, rfl, rfl, rfl, rfl, rfl⟩

theorem startReset_held (e : Device) (k : Fin 9) (level : Bool) (h : e.rst.held = true) :
    ∃ r : Rst, e.startReset k level = { e with rst := r } ∧ r.held = true ∧ r.cause = e.rst.cause ∧ r.count = e.rst.count ∧
      (k ≠ e.rst.cause → r.secondary.getLsbD k.val = true) := by
  unfold Device.startReset
  dsimp only
  rw [if_pos h]
  refine ⟨_, rfl, h, rfl, rfl, fun hk => ?_⟩
  rw [if_neg hk, BitVec.getLsbD_or, BitVec.getLsbD_twoPow, decide_eq_true k.isLt, decide_eq_true rfl]
  simp

/-- A source that resets the part resets it as one, whatever it edited before. -/
theorem resetStarts_of {c : Instr} {k : Fin 9} {s : State} {w e : Device} {level : Bool} (hexec : exec c s = .next { s with dev := w })
    (hw : w = e.startReset k level) (h : s.dev.KeepsReset e) : resetStarts c k s := by
  subst hw
  refine ⟨_, hexec, ?_⟩
  dsimp only
  by_cases hheld : s.dev.rst.held = true
  · obtain ⟨r, hr, hrheld, hcause, hcount, hsec⟩ := startReset_held e k level (h.held.trans hheld)
    rw [hr]
    refine ⟨hrheld, h.devTime, h.errLog, h.retiredTiles, h.hostMem, fun hf => absurd (hf.symm.trans hheld) Bool.false_ne_true, fun _ => ?_⟩
    exact ⟨hcause.trans h.cause, hcount.trans h.count, h.retiredPages, fun hk => hsec (by rw [h.cause]; exact hk)⟩
  · have hfree := Bool.eq_false_iff.mpr hheld
    obtain ⟨r, hr, hrheld, hcause, hsec, hcount⟩ := startReset_fresh e k level (h.held.trans hfree)
    rw [hr]
    refine ⟨hrheld, h.devTime, h.errLog, h.retiredTiles, h.hostMem, fun _ => ⟨hcause, hsec, ?_, ?_, rfl, rfl, rfl⟩, fun ht => absurd ht hheld⟩
    · rw [show (({ e with rst := r } : Device).wipe).rst.count = r.count from rfl, hcount, h.count]
    · rw [← h.retiredPages, ← h.dueRetire]
      rfl

/-- A fatal error of the collar is dumped, and resets the part. -/
theorem fatal_resets (e : Device) : ∃ e', e.fatal = e'.startReset srcFatal false ∧ e.KeepsReset e' := by
  unfold Device.fatal
  split
  · exact ⟨e, rfl, .refl e⟩
  · exact ⟨_, rfl, .dumpAll e⟩

/-- A source of the host port resets the part where rst.host_scope is 0, or a reset is held. -/
theorem hostSource_resets (d : Device) (k : Fin 9) (level : Bool) (h : d.cfg 0x1010 6 0 = 0) : d.hostSource k level = d.startReset k level := by
  unfold Device.hostSource
  rw [if_pos (by rw [decide_eq_true h, Bool.or_true])]

theorem resetRows_start (s : State) (row : Instr × Fin 9) (h : row ∈ resetRows) : resetStarts row.1 row.2 s := by
  unfold resetRows at h
  rcases List.mem_append.mp h with h | h
  · simp only [List.mem_cons, List.not_mem_nil, or_false] at h
    rcases h with rfl | rfl | rfl | rfl
    · exact resetStarts_of (e := s.dev) rfl rfl (.refl _)
    · exact resetStarts_of (e := s.dev) rfl rfl (.refl _)
    · exact resetStarts_of (e := s.dev) rfl rfl (.refl _)
    · obtain ⟨e, he, hkeep⟩ := fatal_resets s.dev
      exact resetStarts_of (w := s.dev.fatal) rfl he hkeep
  · obtain ⟨n, -, rfl⟩ := List.mem_map.mp h
    exact resetStarts_of (e := { s.dev with rst := { s.dev.rst with thermTrip := true }, sensors := s.dev.sensors.set n (max 920 s.dev.sensors[n]) })
      (level := true) rfl rfl ⟨rfl, rfl, rfl, rfl, rfl, rfl, rfl, rfl, rfl, rfl⟩

theorem hostRows_start (s : State) (row : Instr × Fin 9) (h : row ∈ hostRows) (hscope : s.dev.cfg 0x1010 6 0 = 0)
    (hlink : row.1 = .pcieLinkLoss → ∃ t : W64, s.dev.rst.linkDownAt = some t ∧ 10000000 ≤ s.dev.since t) : resetStarts row.1 row.2 s := by
  unfold hostRows at h
  simp only [List.mem_cons, List.not_mem_nil, or_false] at h
  rcases h with rfl | rfl | rfl
  · have hperst : s.dev.perstLow = Device.startReset { s.dev with rst := { s.dev.rst with perst := true } } srcPerst true := by
      unfold Device.perstLow
      dsimp only
      rw [if_pos]
      rw [Bool.or_eq_true, decide_eq_true_eq]
      exact .inr hscope
    exact resetStarts_of (w := s.dev.perstLow) rfl hperst ⟨rfl, rfl, rfl, rfl, rfl, rfl, rfl, rfl, rfl, rfl⟩
  · exact resetStarts_of (w := s.dev.hostSource srcHot false) rfl (hostSource_resets s.dev srcHot false hscope) (.refl _)
  · obtain ⟨t, ht, hlate⟩ := hlink rfl
    have hloss : s.dev.linkLoss = Device.startReset { s.dev with rst := { s.dev.rst with linkDownAt := none } } srcLinkLoss false := by
      unfold Device.linkLoss
      rw [ht]
      exact (if_pos hlate).trans (hostSource_resets _ _ _ hscope)
    exact resetStarts_of (w := s.dev.linkLoss) rfl hloss ⟨rfl, rfl, rfl, rfl, rfl, rfl, rfl, rfl, rfl, rfl⟩

theorem stackFailure_starts (s : State) (k : StackNo) (hl : s.dev.live = true) (hst : (s.dev.hbmStacks[k]).st ≠ 2) :
    resetStarts (.stackFailure k) 8 s := by
  obtain ⟨e, he, hkeep⟩ := fatal_resets (s.dev.modStack k (fun x => { x with st := 2 }))
  refine resetStarts_of (w := (s.dev.modStack k (fun x => { x with st := 2 })).fatal) ?_ he ⟨hkeep.devTime, hkeep.errLog, hkeep.retiredTiles,
    hkeep.hostMem, hkeep.retiredPages, hkeep.dueRetire, hkeep.held, hkeep.cause, hkeep.secondary, hkeep.count⟩
  change onLive (fun d => if (d.hbmStacks[k]).st = 2 then d else (d.modStack k (fun x => { x with st := 2 })).fatal) s = _
  rw [onLive_live _ _ hl, if_neg hst]

/-! ### The end of a reset -/

theorem tripClear_cool (d : Device) (h : d.rst.thermTrip = true) : d.tripClear.rst.thermTrip = false ∧
    d.tripClear.rst.asserted.getLsbD 6 = false ∧ ∀ i : Fin 64, d.tripClear.sensors[i] < 760 := by
  unfold Device.tripClear
  rw [if_pos h]
  refine ⟨rfl, ?_, fun i => ?_⟩
  · simp
  · simp only [Fin.getElem_fin, Vector.getElem_mapIdx]
    split
    · next h => exact h
    · omega

/-- Settles O53: every source starts the same reset, from the part with its own marks set. -/
theorem resetSources : Obligations.ResetSources := by
  unfold Obligations.ResetSources
  intro s
  refine ⟨resetRows_start s, hostRows_start s, stackFailure_starts s, fun hscope hheld => ?_, ⟨_, rfl, rfl, rfl, rfl, rfl, rfl⟩,
    ⟨_, rfl, rfl, rfl, ?_, rfl⟩, fun hup => ?_, fun hheld hhost => ?_, fun hheld hassert hlate => ?_, fun hheld hrel => ?_, fun htrip => ?_⟩
  · refine congrArg (fun d => Host.Outcome.next { s with dev := d }) (?_ : s.dev.hostSource srcHot false = _)
    unfold Device.hostSource
    rw [if_neg]
    rw [hheld, decide_eq_false hscope]
    exact Bool.false_ne_true
  · simp [Device.perstHigh]
  · exact congrArg (fun d => Host.Outcome.next { s with dev := d }) (if_pos hup)
  · refine congrArg (fun d => Host.Outcome.next { s with dev := d }) (if_neg ?_)
    rw [hheld, hhost]
    exact Bool.false_ne_true
  · refine congrArg (fun d => Host.Outcome.next { s with dev := d }) (if_pos ?_)
    rw [hheld, decide_eq_true hassert, decide_eq_true hlate]
    rfl
  · refine ⟨_, rfl, ?_⟩
    dsimp only
    unfold Device.resetEnd
    rw [if_pos (by rw [hheld, hrel]; rfl)]
    exact ⟨rfl, rfl, rfl, rfl⟩
  · exact ⟨_, rfl, tripClear_cool s.dev htrip⟩

end Sys2Proof.Machine

/-! Doorbells, queue commands and deferred messages (R417, R421 to R426). -/

namespace Sys2Proof.Machine

/-! ### Doorbells -/

/-- An edit is what it gives of the record it edits. -/
theorem modPart_congr (d : Device) (p : PartNo) {f g : Partition → Partition} (h : f d.parts[p] = g d.parts[p]) : d.modPart p f = d.modPart p g := by
  unfold Device.modPart
  rw [h]

theorem modQueue_congr (d : Device) (p : PartNo) (n : QueueNo) {f g : Queue → Queue}
    (h : f ((d.parts[p]).queues[n]) = g ((d.parts[p]).queues[n])) : d.modQueue p n f = d.modQueue p n g :=
  modPart_congr d p (by rw [h])

theorem bellSq_taken (q : Queue) (i : Nat) (hst : q.st = 1) (hlt : i < 2 ^ q.log2)
    (hdist : ringDist q.log2 q.head i + q.outstanding ≤ 2 ^ q.log2 - 1) : q.bellSq i = { q with tail := i } := by
  unfold Queue.bellSq
  rw [if_neg (not_not.mpr hst), if_neg (by rintro (h | h) <;> omega)]

theorem bellSq_fails (q : Queue) (i : Nat) (hst : q.st = 1)
    (hout : 2 ^ q.log2 ≤ i ∨ 2 ^ q.log2 - 1 < ringDist q.log2 q.head i + q.outstanding) : q.bellSq i = { q with st := 2, error := 0x0101 } := by
  unfold Queue.bellSq
  rw [if_neg (not_not.mpr hst), if_pos hout]
  rfl

/-- Completions delivered move what waits, and nothing else of the queue. -/
theorem drain_keeps (n : Nat) : ∀ (q : Queue) (hm : Memory), (q.drain hm n).1.cqHead = q.cqHead ∧ (q.drain hm n).1.tail = q.tail ∧
    (q.drain hm n).1.st = q.st := by
  induction n with
  | zero => exact fun q hm => ⟨rfl, rfl, rfl⟩
  | succ n ih =>
    intro q hm
    unfold Queue.drain
    split
    · exact ⟨rfl, rfl, rfl⟩
    · split
      · exact ⟨rfl, rfl, rfl⟩
      · exact ih _ _

/-- The part with what waits of a queue delivered, as far as there is room, before the message. -/
def Device.drained (d : Device) (p : PartNo) (n : QueueNo) : Device :=
  let r := ((d.parts[p]).queues[n]).drain d.hostMem ((d.parts[p]).queues[n]).waiting.length
  { d.modQueue p n (fun _ => r.1) with hostMem := if d.masters (.vf p) then r.2 else d.hostMem }

theorem drainCq_eq (d : Device) (p : PartNo) (n : QueueNo) : d.drainCq p n =
    if (((d.parts[p]).queues[n]).drain d.hostMem ((d.parts[p]).queues[n]).waiting.length).1.waiting.length < ((d.parts[p]).queues[n]).waiting.length
    then (d.drained p n).signal (.vf p) ((d.parts[p]).queues[n]).vector else d.drained p n := rfl

theorem Device.Told.queues {d e : Device} (h : d.Told e) (p : PartNo) : (e.parts[p]).queues = (d.parts[p]).queues := by rw [h.part p]

theorem signal_queue (d : Device) (f : Fn) (v : Nat) (p : PartNo) (n : QueueNo) :
    ((d.signal f v).parts[p]).queues[n] = ((d.parts[p]).queues[n]) :=
  congrArg (fun q : Vector Queue 64 => q[n.val]'n.isLt) ((signal_told d f v).queues p)

/-- Delivering completions leaves the queue, but for what waits. -/
theorem drainCq_queue (d : Device) (p : PartNo) (n : QueueNo) :
    ((d.drainCq p n).parts[p]).queues[n] = (((d.parts[p]).queues[n]).drain d.hostMem ((d.parts[p]).queues[n]).waiting.length).1 := by
  have hq : ((d.drained p n).parts[p]).queues[n] = (((d.parts[p]).queues[n]).drain d.hostMem ((d.parts[p]).queues[n]).waiting.length).1 :=
    modQueue_get d p n (fun _ => (((d.parts[p]).queues[n]).drain d.hostMem ((d.parts[p]).queues[n]).waiting.length).1)
  have hsig := (signal_queue (d.drained p n) (.vf p) ((d.parts[p]).queues[n]).vector p n).trans hq
  rcases ite_eq_or_eq ((((d.parts[p]).queues[n]).drain d.hostMem ((d.parts[p]).queues[n]).waiting.length).1.waiting.length <
    ((d.parts[p]).queues[n]).waiting.length) ((d.drained p n).signal (.vf p) ((d.parts[p]).queues[n]).vector) (d.drained p n) with h | h
  · rw [drainCq_eq, h]
    exact hsig
  · rw [drainCq_eq, h]
    exact hq

theorem bellCq_taken (d : Device) (p : PartNo) (n : QueueNo) (i : Nat) (hst : ((d.parts[p]).queues[n]).st ≠ 0)
    (hlt : i < 2 ^ ((d.parts[p]).queues[n]).log2)
    (hdist : ringDist ((d.parts[p]).queues[n]).log2 ((d.parts[p]).queues[n]).cqHead i ≤
      ringDist ((d.parts[p]).queues[n]).log2 ((d.parts[p]).queues[n]).cqHead ((d.parts[p]).queues[n]).cqTail) :
    (((d.bellCq p n i).parts[p]).queues[n]).cqHead = i ∧ (((d.bellCq p n i).parts[p]).queues[n]).tail = ((d.parts[p]).queues[n]).tail ∧
      (((d.bellCq p n i).parts[p]).queues[n]).st = ((d.parts[p]).queues[n]).st := by
  have heq : d.bellCq p n i = (d.modQueue p n (fun q => { q with cqHead := i })).drainCq p n := by
    unfold Device.bellCq
    dsimp only
    rw [if_neg hst, if_neg (by rintro (h | h) <;> omega)]
  obtain ⟨hhead, htail, hstate⟩ := drain_keeps
    (((d.modQueue p n (fun q => { q with cqHead := i })).parts[p]).queues[n]).waiting.length
    (((d.modQueue p n (fun q => { q with cqHead := i })).parts[p]).queues[n]) (d.modQueue p n (fun q => { q with cqHead := i })).hostMem
  rw [heq, drainCq_queue, hhead, htail, hstate, modQueue_get]
  exact ⟨rfl, rfl, rfl⟩

/-! ### Event queues -/

theorem setEvq_get (d : Device) (f : Fn) (q : Evq) : (d.setEvq f q).evqOf f = q := by
  cases f with
  | pf0 => rfl
  | vf p =>
    change ((d.modPart p (fun x => { x with evq := q })).parts[p]).evq = q
    rw [modPart_get]

/-- An event queue that takes an entry keeps its head, and stays on. -/
def Evq.Keeps (a b : Evq) : Prop := b.head = a.head ∧ b.on = a.on

theorem evqPost_keeps (q : Evq) (hm : Memory) (code : W16) (ctx : Option Nat) (now : W64) (payload : BitVec 128) :
    q.Keeps (q.post hm code ctx now payload).1 := by
  unfold Evq.post
  split
  · exact ⟨rfl, rfl⟩
  · exact ⟨rfl, rfl⟩

theorem signal_evqOf (d : Device) (f : Fn) (v : Nat) : (d.signal f v).evqOf f = d.evqOf f := by
  unfold Device.signal
  cases f with
  | pf0 =>
    dsimp only
    split
    · rfl
    · rfl
  | vf p =>
    dsimp only
    split
    · change ((d.modPart p _).parts[p]).evq = (d.parts[p]).evq
      rw [modPart_get]
    · rfl

theorem postEvent_evqOf (d : Device) (f : Fn) (code : W16) (ctx : Option Nat) (payload : BitVec 128) :
    (d.evqOf f).Keeps ((d.postEvent f code ctx payload).evqOf f) := by
  have hpost := evqPost_keeps (d.evqOf f) d.hostMem code ctx d.devTime payload
  have hset (hm : Memory) : ({ d.setEvq f ((d.evqOf f).post d.hostMem code ctx d.devTime payload).1 with hostMem := hm } : Device).evqOf f =
      ((d.evqOf f).post d.hostMem code ctx d.devTime payload).1 := by
    refine .trans ?_ (setEvq_get d f ((d.evqOf f).post d.hostMem code ctx d.devTime payload).1)
    cases f <;> rfl
  unfold Device.postEvent
  dsimp only
  split
  · split
    · rw [signal_evqOf, hset]
      exact hpost
    · rw [hset]
      exact hpost
  · exact ⟨rfl, rfl⟩

theorem flushLost_evqOf (d : Device) (f : Fn) : (d.evqOf f).Keeps ((d.flushLost f).evqOf f) := by
  unfold Device.flushLost
  dsimp only
  split
  · obtain ⟨hhead, hon⟩ := postEvent_evqOf ((d.trigOn 0x0308).setEvq f { d.evqOf f with lost := 0 }) f 0x0308 none ((d.evqOf f).lost.setWidth 128)
    rw [setEvq_get] at hhead hon
    exact ⟨hhead, hon⟩
  · exact ⟨rfl, rfl⟩

theorem bellEvq_taken (d : Device) (f : Fn) (i : Nat) (hon : (d.evqOf f).on = true) (hlt : i < 2 ^ (d.evqOf f).log2)
    (hdist : ringDist (d.evqOf f).log2 (d.evqOf f).head i ≤ ringDist (d.evqOf f).log2 (d.evqOf f).head (d.evqOf f).tail) :
    ((d.bellEvq f i).evqOf f).head = i ∧ ((d.bellEvq f i).evqOf f).on = true := by
  have heq : d.bellEvq f i = (d.setEvq f { d.evqOf f with head := i }).flushLost f := by
    unfold Device.bellEvq
    dsimp only
    rw [hon, decide_eq_false (Nat.not_le.mpr hlt), decide_eq_false (Nat.not_lt.mpr hdist)]
    rfl
  obtain ⟨hhead, hkeep⟩ := flushLost_evqOf (d.setEvq f { d.evqOf f with head := i }) f
  rw [setEvq_get] at hhead hkeep
  rw [heq, hhead, hkeep]
  exact ⟨rfl, hon⟩

/-! ### Queue commands -/

/-- The command at the head runs where its operation is the one asked for and the part is READY. -/
theorem sqRun_runs (d : Device) (p : PartNo) (n : QueueNo) (ops : Nat → Bool) (f : BitVec 512 → Device) (w : BitVec 512)
    (hhead : d.sqHead p n = some w) (hready : d.rst.state = 7) (hops : ops (qOpc w) = true) : d.sqRun p n ops f = f w := by
  unfold Device.sqRun
  rw [hhead]
  dsimp only
  rw [hops, if_neg (by decide), if_neg (not_not.mpr hready)]

/-- A command joins those of the queue that have started. -/
def Queue.starts (q : Queue) (x : Started) : Queue := { q with started := q.started ++ [x] }

/-- The head command leaves its queue. -/
def Queue.pop (q : Queue) : Queue := { q with head := (q.head + 1) % 2 ^ q.log2 }

/-- Releases that join a context's. -/
def Context.release (x : Context) (now : W64) (r : Nat × PartNo × QueueNo × W16) : Context :=
  { x with releases := x.releases ++ [r], waitSince := if x.wants || x.st = .running then x.waitSince else now }

/-- Releases taken from a queue, before the scheduler looks. -/
def Device.released (d : Device) (p : PartNo) (n : QueueNo) (w : BitVec 512) (x : Started) : Device :=
  ((d.sqPop p n).modQueue p n (fun q => q.starts x)).modCtx (qCtx w) (fun y => y.release d.devTime (qCount w, p, n, qCid w))

theorem released_get (d : Device) (p : PartNo) (n : QueueNo) (w : BitVec 512) (x : Started) :
    ((d.released p n w x).ctxs[qCtx w]).releases = (d.ctxs[qCtx w]).releases ++ [(qCount w, p, n, qCid w)] ∧
      ((d.released p n w x).parts[p]).queues[n] = ((d.parts[p]).queues[n]).pop.starts x := by
  constructor
  · unfold Device.released
    rw [modCtx_get]
    rfl
  · exact (modQueue_get (d.sqPop p n) p n (fun q => q.starts x)).trans (congrArg (fun q => Queue.starts q x) (modQueue_get d p n Queue.pop))

section
variable (d : Device) (p : PartNo) (n : QueueNo) (w : BitVec 512) (hhead : d.sqHead p n = some w) (hready : d.rst.state = 7)
include hhead hready

theorem sqRelease_releases (hopc : qOpc w = 1) (hcount : qCount w ≠ 0) (hpart : (d.ctxs[qCtx w]).part = some p)
    (hst : (d.ctxs[qCtx w]).st.started = true) : ∃ e : Device, d.sqRelease p n = e.schedule ∧
      (e.ctxs[qCtx w]).releases = (d.ctxs[qCtx w]).releases ++ [(qCount w, p, n, qCid w)] ∧
      ((e.parts[p]).queues[n]).head = (((d.parts[p]).queues[n]).head + 1) % 2 ^ ((d.parts[p]).queues[n]).log2 ∧
      ∃ x, ((e.parts[p]).queues[n]).started = ((d.parts[p]).queues[n]).started ++ [x] := by
  have hrun : ∃ x, d.sqRelease p n = (d.released p n w x).schedule := by
    unfold Device.sqRelease
    rw [sqRun_runs d p n _ _ w hhead hready (by rw [hopc]; rfl)]
    dsimp only
    rw [if_neg hcount, if_neg (by rintro (h | h); exacts [h hpart, by rw [hst] at h; exact Bool.false_ne_true h])]
    exact ⟨_, rfl⟩
  obtain ⟨x, hx⟩ := hrun
  obtain ⟨hrel, hq⟩ := released_get d p n w x
  refine ⟨_, hx, hrel, ?_⟩
  rw [hq]
  exact ⟨rfl, x, rfl⟩

theorem sqLaunch_launches (e : Desc) (d' : Device) (hopc : qOpc w = 2) (b : BitVec 1024)
    (hb : b = BitVec.ofNat 1024 (leNat (d.hostMem.read (qLblk w) 128))) (halign : qLblk w % 128 = 0)
    (hbad : d.launchBad p true (BitVec.ofNat 512 (fld b 0 512)) (BitVec.ofNat 256 (fld b 512 256)) (BitVec.ofNat 256 (fld b 768 256)) = false)
    (hpart : (d.ctxs[qCtx w]).part = some p) (hst : (d.ctxs[qCtx w]).st.admitted_ = true) (htear : (d.ctxs[qCtx w]).st ≠ .tearing)
    (he : e = { d := BitVec.ofNat 512 (fld b 0 512), srcRec := BitVec.ofNat 256 (fld b 512 256), dstRec := BitVec.ofNat 256 (fld b 768 256),
                origin := .host p n (qCid w), ctx := qCtx w, part := p, e := { word := 0, recs := [], bnd := Vector.replicate 16 0, pcq := 0 } })
    (harr : ∀ z ∈ (d.mover (execMover none e.d)).arrivals, z.part ≠ p) (hplace : d.placeDesc (execMover none e.d) e = some d') :
    d.sqLaunch p n = (d'.sqPop p n).modQueue p n (fun q => { q with started := q.started ++ [.channel (qCid w) (qCtx w)] }) := by
  subst hb
  unfold Device.sqLaunch
  rw [sqRun_runs d p n _ _ w hhead hready (by rw [hopc]; rfl)]
  dsimp only
  rw [if_neg (by rintro (h | h); exacts [h halign, by rw [hbad] at h; exact Bool.false_ne_true h])]
  rw [if_neg (by rintro (h | h | h); exacts [h hpart, by rw [hst] at h; exact Bool.false_ne_true h, htear h])]
  subst he
  rw [if_neg, hplace]
  rw [List.any_eq_true]
  rintro ⟨z, hz, hzp⟩
  exact harr z hz (of_decide_eq_true hzp)

end

/-- Settles O57: a doorbell by the range it is in; a command at the head by its operation; deliveries keep what they do not name. -/
theorem queueCommands : Obligations.QueueCommands := by
  unfold Obligations.QueueCommands
  refine ⟨fun s p n v => ?_, fun s p n w => ?_⟩
  · intro q i hl
    refine ⟨fun hst hlt hdist => ?_, fun hst hout => ?_, fun hst hlt hdist => ?_, fun f hon hlt hdist => ?_⟩
    · change onLive (fun d => d.modQueue p n (fun x => x.bellSq (bellIndex v))) s = _
      rw [onLive_live _ _ hl]
      refine congrArg (fun d => Host.Outcome.next { s with dev := d }) (modQueue_congr s.dev p n ?_)
      exact bellSq_taken q i hst hlt hdist
    · change onLive (fun d => d.modQueue p n (fun x => x.bellSq (bellIndex v))) s = _
      rw [onLive_live _ _ hl]
      refine congrArg (fun d => Host.Outcome.next { s with dev := d }) (modQueue_congr s.dev p n ?_)
      exact bellSq_fails q i hst hout
    · exact ⟨_, onLive_live (fun d => d.bellCq p n (bellIndex v)) s hl, bellCq_taken s.dev p n i hst hlt hdist⟩
    · exact ⟨_, onLive_live (fun d => d.bellEvq f (bellIndex v)) s hl, bellEvq_taken s.dev f i hon hlt hdist⟩
  · intro q c hl hhead hready
    refine ⟨fun hopc => ?_, fun hopc hcount hpart hst => ?_, fun b e d hb hopc halign hbad hpart hst htear he harr hplace => ?_, fun hopc => ?_,
      fun vec => ?_⟩
    · change onLive (fun d => d.sqNop p n) s = _
      rw [onLive_live _ _ hl]
      unfold Device.sqNop
      rw [sqRun_runs s.dev p n _ _ w hhead hready (by rw [hopc]; rfl), if_pos hopc]
      rfl
    · obtain ⟨d, hd, hfacts⟩ := sqRelease_releases s.dev p n w hhead hready hopc hcount hpart hst
      refine ⟨d, ?_, hfacts⟩
      change onLive (fun d => d.sqRelease p n) s = _
      rw [onLive_live _ _ hl, hd]
    · change onLive (fun d => d.sqLaunch p n) s = _
      rw [onLive_live _ _ hl, sqLaunch_launches s.dev p n w hhead hready e d hopc b hb halign hbad hpart hst htear he harr hplace]
    · change onLive (fun d => d.sqCancel p n) s = _
      rw [onLive_live _ _ hl]
      unfold Device.sqCancel
      rw [sqRun_runs s.dev p n _ _ w hhead hready (by rw [hopc]; rfl)]
      rfl
    · intro m hdef hlate m'
      change onLive (fun d => d.msixLater (.vf p) vec) s = _
      rw [onLive_live _ _ hl]
      unfold Device.msixLater
      refine congrArg (fun d => Host.Outcome.next { s with dev := d }) (modPart_congr s.dev p ?_)
      have hsend : m.sendDeferred s.dev.devTime = m' := if_pos (by rw [hdef, decide_eq_true hlate]; rfl)
      rw [← hsend]

end Sys2Proof.Machine

/-! What the rows of a gather engine leave (R228 to R238). -/

namespace Sys2Proof.Machine

/-! ### The job at work -/

/-- A running job of its operation, neither ended nor unread. -/
structure Device.Works (d : Device) (g : GatherNo) (j : Job) (op : Nat) : Prop where
  live : d.live = true
  job : (d.gather[g]).job = some j
  opc : gOp j.d = op
  undone : j.done = false
  read : j.reading = false
  replay : op ≠ 0 ∨ (d.ctxs[(d.gather[g]).ring.ctx]).replayDue = false

theorem works_of_atWork {d : Device} {g : GatherNo} {j : Job} {op : Nat} (h : d.atWork g j op = true) : d.Works g j op := by
  unfold Device.atWork at h
  simp only [Bool.and_eq_true, Bool.or_eq_true, decide_eq_true_eq, Bool.not_eq_true'] at h
  obtain ⟨⟨⟨⟨⟨hlive, hjob⟩, hop⟩, hdone⟩, hread⟩, hreplay⟩ := h
  exact ⟨hlive, hjob, hop, hdone, hread, hreplay⟩

section
variable {d : Device} {g : GatherNo} {j : Job} {op : Nat} (h : d.Works g j op)
include h

/-- An engine with a job that has been read takes none. -/
theorem takeJob_busy (ops : Nat → Bool) : d.takeJob g ops = d := by
  have hmay : d.mayTake g = false := by
    unfold Device.mayTake
    dsimp only
    rw [h.job]
    simp
  unfold Device.takeJob
  dsimp only
  rw [if_pos]
  rw [hmay, h.job]
  dsimp only
  rw [h.read]
  rfl

theorem workOn_works : d.workOn g op = some j := by
  have hreplay : ((d.ctxs[(d.gather[g]).ring.ctx]).replayDue && decide (op = 0)) = false := by
    rcases h.replay with hop | hrep
    · rw [decide_eq_false hop, Bool.and_false]
    · rw [hrep, Bool.false_and]
  unfold Device.workOn
  rw [h.job]
  dsimp only
  rw [hreplay, h.undone, h.read, decide_eq_true h.opc]
  rfl

end

theorem modJob_get (d : Device) (g : GatherNo) (f : Job → Job) : ((d.modJob g f).gather[g]).job = (d.gather[g]).job.map f := by
  unfold Device.modJob
  rw [modGather_get]

/-! ### An empty bag (R228) -/

theorem leBytes_zero (n : Nat) : leBytes n 0 = List.replicate n 0 := by
  induction n with
  | zero => rfl
  | succ n ih =>
    rw [leBytes, Nat.zero_div, ih]
    rfl

theorem flatMap_replicate {α β : Type} (f : α → List β) (a : α) (b : β) (k : Nat) (hf : f a = List.replicate k b) (n : Nat) :
    (List.replicate n a).flatMap f = List.replicate (n * k) b := by
  induction n with
  | zero => rw [Nat.zero_mul]; rfl
  | succ n ih => rw [List.replicate_succ, List.flatMap_cons, ih, hf, ← List.replicate_add, Nat.add_comm k, Nat.succ_mul]

theorem orBytes_zeros (n : Nat) : orBytes (List.replicate n 0) = 0 := by
  unfold orBytes
  induction n with
  | zero => rfl
  | succ n ih =>
    rw [List.replicate_succ, List.foldl_cons]
    exact ih

/-- Zeros are written as zeros, in FP32 and in BF16, and raise no flag. -/
theorem bagBytes_zeros (x : BitVec 1024) (n : Nat) :
    bagBytes x (List.replicate n 0#32) = (List.replicate (n * (if gOfmt x = 0 then 4 else 2)) 0, 0) := by
  have hcode : (cvtScalarF encBF16 .rne false 0#32).code = 0 := by decide +kernel
  unfold bagBytes
  split
  · rw [flatMap_replicate (fun v : W32 => leBytes 4 v.toNat) 0#32 0 4 (leBytes_zero 4)]
  · dsimp only
    rw [List.map_replicate, hcode, flatMap_replicate (fun c : W32 × Nat => leBytes 2 c.2) (0#32, 0) 0 2 (leBytes_zero 2), List.map_replicate]
    exact congrArg _ (orBytes_zeros n)

/-- An empty bag pools nothing. -/
theorem doBag_empty (d : Device) (g : GatherNo) (p : PartNo) (j : Job) (b lo : Nat) (e : Device)
    (hr : d.bagRange p j.d b = (.ok (lo, lo), e)) (n : Nat) (hn : n = tD j.table * (if gOfmt j.d = 0 then 4 else 2))
    (hfit : gDoff j.d + b * gDpitch j.d + n ≤ claspBase) :
    d.doBag g p j b = (.ok 0, (e.meshWrite (gDtile j.d) (gDoff j.d + b * gDpitch j.d) (List.replicate n 0)).2) := by
  subst hn
  unfold Device.doBag
  dsimp only
  rw [hr]
  dsimp only
  rw [Nat.sub_self]
  have hpool : e.poolBag g p j.d j.table lo 0 = (.ok ([], 0), e) := rfl
  rw [hpool]
  dsimp only
  rw [if_pos rfl, bagBytes_zeros, List.length_replicate, if_neg (Nat.not_lt.mpr hfit)]
  rw [List.zip_nil_right]
  refine Prod.ext (congrArg Except.ok ?_) rfl
  split
  · exact (by decide : (0 : Byte) ||| 0 ||| 0 = 0)
  · exact (by decide : (0 : Byte) ||| 0 ||| 0 = 0)

/-- The bag before last leaves one more; then the job is done. -/
theorem doBags_last (d e : Device) (g : GatherNo) (p : PartNo) (j : Job) (hjob : (d.gather[g]).job = some j) (hlast : j.bags + 1 = gNbags j.d)
    (hbag : d.doBag g p j j.bags = (.ok 0, e)) (hgather : e.gather = d.gather) :
    d.doBags 2 g p = (e.modJob g (fun j => { j with bags := j.bags + 1, flags := j.flags ||| 0, waitSince := none })).modJob g
      (fun j => { j with done := true }) := by
  have hnext : ((e.modJob g (fun j => { j with bags := j.bags + 1, flags := j.flags ||| 0, waitSince := none })).gather[g]).job =
      some { j with bags := j.bags + 1, flags := j.flags ||| 0, waitSince := none } := by
    rw [modJob_get, hgather, hjob]
    rfl
  rw [Device.doBags, hjob]
  dsimp only
  rw [if_neg (by omega), hbag]
  dsimp only
  rw [Device.doBags, hnext]
  exact if_pos hlast.ge

theorem gatherFwd_empty (d : Device) (g : GatherNo) (j : Job) (a v n : Nat) (h : d.Works g j 0) (hispc : gIspc j.d = false)
    (hread : (d.tiles[gItile j.d]).pocketBad = []) (hwrite : (d.tiles[gDtile j.d]).pocketBad = []) (hlast : j.bags + 1 = gNbags j.d)
    (ha : a = (gOff j.d + 4 * j.bags) % 2 ^ 21) (hin : a + 8 ≤ claspBase) (hv : v = (d.tiles[gItile j.d]).pocket.word a 8)
    (hempty : v / 2 ^ 32 = v % 2 ^ 32) (hn : n = tD j.table * (if gOfmt j.d = 0 then 4 else 2))
    (hfit : gDoff j.d + j.bags * gDpitch j.d + n ≤ claspBase) :
    ((d.gatherFwd g).gather[g]).job = some { j with bags := gNbags j.d, done := true, waitSince := none } ∧
      ((d.gatherFwd g).tiles[gDtile j.d]).pocket =
        (d.tiles[gDtile j.d]).pocket.write (gDoff j.d + j.bags * gDpitch j.d) (List.replicate n 0) := by
  have harr : d.arrRead (d.gather[g]).ring.part j.d (gOff j.d + 4 * j.bags) 8 = (.ok v, d) := by
    unfold Device.arrRead
    simp only [hispc, Bool.false_eq_true, if_false]
    rw [← ha, meshRead_clean d _ a 8 hread hin, hv]
    rfl
  have hrange : d.bagRange (d.gather[g]).ring.part j.d j.bags = (.ok (v % 2 ^ 32, v % 2 ^ 32), d) := by
    unfold Device.bagRange
    rw [harr]
    dsimp only
    rw [if_neg (by omega), hempty]
  have hbag := doBag_empty d g (d.gather[g]).ring.part j j.bags (v % 2 ^ 32) d hrange n hn hfit
  rw [meshWrite_clean d _ _ _ hwrite (by rw [List.length_replicate]; exact hfit)] at hbag
  have hfwd : d.gatherFwd g = d.doBags 2 g (d.gather[g]).ring.part := by
    unfold Device.gatherFwd
    dsimp only
    rw [takeJob_busy h, workOn_works h]
    dsimp only
    rw [show gNbags j.d - j.bags + 1 = 2 by omega]
  rw [hfwd, doBags_last d _ g _ j h.job hlast hbag rfl]
  constructor
  · rw [modJob_get, modJob_get]
    change ((d.gather[g]).job.map _).map _ = _
    rw [h.job, ← hlast]
    simp
  · exact congrArg Tile.pocket (modTile_get d (gDtile j.d) (fun x =>
      { x with pocket := x.pocket.write (gDoff j.d + j.bags * gDpitch j.d) (List.replicate n 0) }))

/-! ### Progress, invalidation and phase A -/

theorem gatherProgress_releases (d e : Device) (g : GatherNo) (j : Job) (w : W64) (hjob : (d.gather[g]).job = some j) (hop : gOp j.d = 0)
    (hdue : j.released < j.groupsDue) (hadd : d.gatherOp g (gPtile j.d) (gPclasp j.d) 1 = (.word w, e)) :
    d.gatherProgress g = e.modJob g (fun j => { j with released := j.released + 1 }) := by
  unfold Device.gatherProgress
  rw [hjob]
  dsimp only
  rw [if_pos (by rw [decide_eq_true hop, decide_eq_true hdue]; rfl), hadd]

/-- A line of the range an invalidation names. -/
def Job.invalidates (j : Job) (p : PartNo) (l : RLine) : Prop :=
  l.part = p ∧ (gIdx j.d = 0 ∨ (l.space = gRspace j.d ∧ 64 * l.line < gTdesc j.d + gIdx j.d ∧ gTdesc j.d < 64 * l.line + 64))

theorem gatherRcInv_drops (d : Device) (g : GatherNo) (j : Job) (h : d.Works g j 2) :
    ((d.gatherRcInv g).gather[g]).job = some { j with done := true } ∧
      ∀ (pn : PanelNo) (l : RLine), l ∈ (d.gatherRcInv g).rowCache[pn] ↔ l ∈ d.rowCache[pn] ∧ ¬ j.invalidates (d.gather[g]).ring.part l := by
  unfold Device.gatherRcInv
  dsimp only
  rw [takeJob_busy h, workOn_works h]
  dsimp only
  constructor
  · rw [modJob_get]
    change (d.gather[g]).job.map _ = _
    rw [h.job]
    rfl
  · intro pn l
    change l ∈ (d.rowCache.map (fun l : List RLine => l.filter (fun x => !_)))[pn] ↔ _
    simp only [Fin.getElem_fin, Vector.getElem_map, List.mem_filter]
    refine and_congr_right (fun _ => ?_)
    unfold Job.invalidates
    rw [Bool.not_eq_true', Bool.eq_false_iff, ne_eq, not_iff_not]
    simp only [Bool.and_eq_true, Bool.or_eq_true, decide_eq_true_eq, and_assoc]

theorem gatherBwd_stages (d e : Device) (g : GatherNo) (j : Job) (st : Staged) (h : d.Works g j 1) (hphase : j.phaseA = false)
    (hrun : d.phaseA g (d.gather[g]).ring.part j (d.ctxs[(d.gather[g]).ring.ctx]).stepNo = (.ok st, e)) :
    d.gatherBwd g = e.modJob g (fun j =>
      { j with phaseA := true, rowsOut := st.rows, nidx := st.nidx, flags := st.flags, urows := 0, waitSince := none }) := by
  unfold Device.gatherBwd
  simp only [takeJob_busy h, workOn_works h]
  rw [if_neg (by rw [hphase]; exact Bool.false_ne_true), hrun]

/-! ### Phase B -/

theorem modJob_congr {d : Device} {g : GatherNo} {f f' : Job → Job} (h : ∀ j, (d.gather[g]).job = some j → f j = f' j) :
    d.modJob g f = d.modJob g f' := by
  have hmap : (d.gather[g]).job.map f = (d.gather[g]).job.map f' := by
    cases hj : (d.gather[g]).job with
    | none => rfl
    | some j => exact congrArg some (h j hj)
  unfold Device.modJob Device.modGather
  dsimp only
  rw [hmap]

/-- Every engine's job has the descriptor it had. -/
def Device.KeepsDesc (d e : Device) : Prop := ∀ g : GatherNo, (e.gather[g]).job.map (·.d) = (d.gather[g]).job.map (·.d)

namespace Device.KeepsDesc
variable {a b c d e : Device}

theorem refl (d : Device) : d.KeepsDesc d := fun _ => rfl

theorem trans (h : a.KeepsDesc b) (k : b.KeepsDesc c) : a.KeepsDesc c := fun g => (k g).trans (h g)

theorem of_gather (h : e.gather = d.gather) : d.KeepsDesc e := fun g => by rw [h]

theorem of_told (h : d.Told e) : d.KeepsDesc e := of_gather (by rw [h.rest])

theorem modJob (d : Device) (g : GatherNo) (f : Job → Job) (hf : ∀ j, (f j).d = j.d) : d.KeepsDesc (d.modJob g f) := by
  intro u
  by_cases h : u = g
  · subst h
    rw [modJob_get, Option.map_map]
    exact congrArg (fun k : Job → BitVec 1024 => (d.gather[u]).job.map k) (funext hf)
  · unfold Device.modJob
    rw [modGather_get_ne _ _ _ _ h]

end Device.KeepsDesc

theorem startRemap_keepsDesc (d : Device) (page : Nat) : d.KeepsDesc (d.startRemap page) := by
  unfold Device.startRemap
  split
  · exact .refl d
  · split
    · exact .of_gather rfl
    · exact .trans (b := { (d.modStack (pageStack page) _) with dueRetire := _ }) (.of_gather rfl) (.of_told (report_told _ _ _ _ _ _))

theorem meetLine_keepsDesc (d : Device) (page line : Nat) : d.KeepsDesc (d.meetLine page line).2 := by
  have hcount : d.KeepsDesc (d.countCe page line) := by
    unfold Device.countCe
    dsimp only
    split
    · exact .trans (.of_gather rfl) (startRemap_keepsDesc _ _)
    · exact .of_gather rfl
  unfold Device.meetLine
  split
  · exact .refl d
  · exact hcount
  · exact .of_gather rfl
  · exact .refl d

/-- Pieces of an access one after another. -/
theorem foldl_keepsDesc {α β : Type} (f : β × Device → α → β × Device) (hf : ∀ (q : β × Device) (a : α), q.2.KeepsDesc (f q a).2)
    (l : List α) (q : β × Device) : q.2.KeepsDesc (l.foldl f q).2 :=
  foldl_related (R := fun q r : β × Device => q.2.KeepsDesc r.2) (fun q => .refl q.2) Device.KeepsDesc.trans hf l q

theorem hbmRead_keepsDesc (d : Device) (p : PartNo) (addr n : Nat) (repair : Bool) : d.KeepsDesc (d.hbmRead p addr n repair).2 := by
  unfold Device.hbmRead
  refine .trans (.of_told (count_told d _ _ _ _)) (foldl_keepsDesc _ (fun q a => ?_) _ _)
  dsimp only
  split
  · exact .refl _
  · split
    · exact .refl _
    · have hmeet := meetLine_keepsDesc q.2
      split
      · exact hmeet _ _
      · split
        · exact hmeet _ _
        · exact hmeet _ _

theorem hbmWrite_keepsDesc (d : Device) (p : PartNo) (addr : Nat) (bs : List Byte) (repair : Bool) :
    d.KeepsDesc (d.hbmWrite p addr bs repair).2 := by
  unfold Device.hbmWrite
  refine .trans (.of_told (count_told d _ _ _ _)) (foldl_keepsDesc _ (fun q a => ?_) _ _)
  dsimp only
  split
  · exact .refl _
  · split
    · exact .refl _
    · have hmeet := meetLine_keepsDesc q.2
      split
      · exact .of_gather rfl
      · split
        · exact .trans (hmeet _ _) (.of_gather rfl)
        · split
          · exact hmeet _ _
          · exact hmeet _ _

theorem tmemWrite_keepsDesc (d : Device) (p : PartNo) (addr : Nat) (bs : List Byte) : d.KeepsDesc (d.tmemWrite p addr bs).2 := by
  unfold Device.tmemWrite
  split
  · exact .refl d
  · split
    · exact .refl d
    · split
      · exact .refl d
      · exact .of_gather rfl

theorem usePort_keepsDesc (d : Device) (g : GatherNo) (p : PartNo) (addr : Nat) : d.KeepsDesc (d.usePort g p addr) := by
  unfold Device.usePort
  split
  · refine .modJob d g _ (fun j => ?_)
    split
    · rfl
    · rfl
  · exact .refl d

theorem gatherWrite_keepsDesc (d : Device) (g : GatherNo) (p : PartNo) (space addr : Nat) (bs : List Byte) :
    d.KeepsDesc (d.gatherWrite g p space addr bs).2 := by
  have haccess : d.KeepsDesc (if space = 2 then d.hbmWrite p addr bs true else (d.usePort g p addr).tmemWrite p addr bs).2 := by
    split
    · exact hbmWrite_keepsDesc d p addr bs true
    · exact (usePort_keepsDesc d g p addr).trans (tmemWrite_keepsDesc _ p addr bs)
  unfold Device.gatherWrite
  dsimp only
  generalize (if space = 2 then d.hbmWrite p addr bs true else (d.usePort g p addr).tmemWrite p addr bs) = r at haccess
  split
  · exact haccess.trans (.of_gather rfl)
  · exact haccess

theorem fromScr_keepsDesc (d : Device) (g : GatherNo) (p : PartNo) (scr n space addr : Nat) : d.KeepsDesc (d.fromScr g p scr n space addr).2 := by
  unfold Device.fromScr
  dsimp only
  split
  · exact (hbmRead_keepsDesc d p scr n true).trans (gatherWrite_keepsDesc _ g p space addr _)
  · exact hbmRead_keepsDesc d p scr n true

theorem placeRow_keepsDesc (d : Device) (g : GatherNo) (p : PartNo) (j : Job) (i : Nat) (q : Nat × Nat × Nat) :
    d.KeepsDesc (d.placeRow g p j i q).2 := by
  unfold Device.placeRow
  dsimp only
  split
  · exact fromScr_keepsDesc _ _ _ _ _ _ _
  · split
    · exact fromScr_keepsDesc _ _ _ _ _ _ _
    · exact (fromScr_keepsDesc d _ _ _ _ _ _).trans (fromScr_keepsDesc _ _ _ _ _ _ _)

theorem fromScr_copies {d e f : Device} {g : GatherNo} {p : PartNo} {scr n space addr : Nat} {a : Got} (hread : d.hbmRead p scr n true = (a, e))
    (hok : a.st = .ok) (hwrite : e.gatherWrite g p space addr a.bytes = (none, f)) : d.fromScr g p scr n space addr = (none, f) := by
  unfold Device.fromScr
  rw [hread]
  exact (if_pos hok).trans hwrite

/-- The last staged row copied: the job, which has its descriptor still, is done. -/
theorem gatherPhaseB_last (d e : Device) (g : GatherNo) (j : Job) (q : Nat × Nat × Nat) (h : d.Works g j 1) (hphase : j.phaseA = true)
    (hrows : j.rowsOut.drop j.urows = [q]) (hplace : d.placeRow g (d.gather[g]).ring.part j j.urows q = (none, e)) :
    d.gatherPhaseB g = (e.modJob g (fun k => { k with urows := j.urows + 1 })).modJob g (fun k =>
      { k with bags := gNbags j.d, done := true, waitSince := none }) := by
  unfold Device.gatherPhaseB
  rw [workOn_works h]
  dsimp only
  rw [if_neg (by rw [hphase]; decide), hrows, Device.placeRows, hplace]
  dsimp only
  rw [Device.placeRows]
  refine modJob_congr (fun k hk => ?_)
  have hdesc := placeRow_keepsDesc d g (d.gather[g]).ring.part j j.urows q g
  rw [hplace] at hdesc
  rw [modJob_get] at hk
  obtain ⟨k', hk', rfl⟩ := Option.map_eq_some_iff.mp hk
  rw [hk', h.job, Option.map_some, Option.map_some, Option.some.injEq] at hdesc
  rw [show ({ k' with urows := j.urows + 1 } : Job).d = j.d from hdesc]

section
variable {d e f : Device} {g : GatherNo} {p : PartNo} {j : Job} {i row space addr : Nat} {a : Got}
  (hread : d.hbmRead p (scrRow j.d j.table j.nidx i) (tRowBytes j.table) true = (a, e)) (hok : a.st = .ok)
  (hwrite : e.gatherWrite g p space addr a.bytes = (none, f))
include hread hok hwrite

theorem placeRow_row (hopt : gOpt j.d = 0) : d.placeRow g p j i (row, space, addr) = (none, f) := by
  unfold Device.placeRow
  dsimp only
  rw [fromScr_copies hread hok hwrite]
  exact if_pos hopt

theorem placeRow_state {b : Got} {d' e' : Device} (hopt : gOpt j.d ≠ 0)
    (hread' : f.hbmRead p (scrState j.d j.table j.nidx i) (gStateBytes j.d j.table) true = (b, d')) (hok' : b.st = .ok)
    (hwrite' : d'.gatherWrite g p 2 (tState j.table + row * gZ j.d j.table) b.bytes = (none, e')) :
    d.placeRow g p j i (row, space, addr) = (none, e') := by
  unfold Device.placeRow
  dsimp only
  rw [fromScr_copies hread hok hwrite]
  exact (if_neg hopt).trans (fromScr_copies hread' hok' hwrite')

end

/-! ### The end of a job -/

theorem gatherJobEnd_ends (d d1 d2 d3 e : Device) (g : GatherNo) (j : Job) (w v : W64) (hjob : (d.gather[g]).job = some j)
    (hdone : j.done = true) (hrel : j.groupsDue ≤ j.released) (hskip : j.skip = false) (hstage : j.stage = 0) (hstatus : j.status = 0)
    (hcmpl : d.gatherWrite g (d.gather[g]).ring.part 2 (j.addr + 120) (leBytes 8 j.cmpl.toNat) = (none, d1))
    (hd2 : d2 = d1.modJob g (fun j => { j with stage := max 1 j.stage, waitSince := none }))
    (hop : gDval j.d = 0 ∨ (gDclasp j.d < 48 ∧ d2.owns (d.gather[g]).ring.part (gCtile j.d).val = true))
    (hval : (if gDval j.d = 0 then (.word 0, d2) else d2.gatherOp g (gCtile j.d) (gDclasp j.d) (gDval j.d)) = ((.word w, d3) : ClRes × Device))
    (htail : (d3.modJob g (fun j => { j with stage := 2 })).gatherOp g (d.gather[g]).ring.tile (d.gather[g]).ring.tail 1 = (.word v, e)) :
    d.gatherJobEnd g =
      if (d.gather[g]).ring.st = 1 then (e.modGather g (fun q =>
        { q with job := none, ring := { q.ring with next := q.ring.next + 1, st := if q.ring.st = 2 then 0 else q.ring.st } })).ringWatch g
      else e.modGather g (fun q =>
        { q with job := none, ring := { q.ring with next := q.ring.next + 1, st := if q.ring.st = 2 then 0 else q.ring.st } }) := by
  have hgo : (!j.done || decide (j.released < j.groupsDue)) = false := by
    rw [hdone, decide_eq_false (Nat.not_lt.mpr hrel)]
    rfl
  have hfirst : (j.skip || j.stage ≠ 0) = false := by
    rw [hskip, hstage]
    rfl
  have hdoneOp : (j.stage ≠ 2 && gDval j.d ≠ 0 && j.status ≠ gsCancelled && j.status ≠ gsTmemFail && decide (gDclasp j.d < 48) &&
      d2.owns (d.gather[g]).ring.part (gCtile j.d).val) = decide (gDval j.d ≠ 0) := by
    rw [hstage, hstatus]
    rcases hop with hop | ⟨hclasp, howns⟩
    · rw [hop]
      rfl
    · rw [howns, decide_eq_true hclasp]
      simp [gsCancelled, gsTmemFail]
  have hclean : ¬ (1 ≤ j.status ∧ j.status ≤ 5) := by omega
  subst hd2
  unfold Device.gatherJobEnd
  dsimp only
  rw [hjob]
  dsimp only
  simp only [hgo, hfirst, Bool.false_eq_true, if_false]
  rw [hcmpl]
  dsimp only
  rw [hdoneOp]
  by_cases hv : gDval j.d = 0
  · rw [if_pos hv, Prod.mk.injEq] at hval
    obtain ⟨-, rfl⟩ := hval
    rw [if_neg (by rw [hv]; decide)]
    dsimp only
    rw [htail]
    simp only [hclean, if_false]
  · rw [if_neg hv] at hval
    rw [if_pos (decide_eq_true hv), hval]
    dsimp only
    rw [htail]
    simp only [hclean, if_false]

/-- Settles O46: each command of the engine on the job it holds, by the results of the reads and writes it makes. -/
theorem gatherResults : Obligations.GatherResults := by
  unfold Obligations.GatherResults
  intro s g j q r x
  refine ⟨fun a v n hwork hispc hread hwrite hlast ha hin hv hempty hn hfit => ?_, fun w d hl hjob hop hdue hadd => ?_, fun hwork => ?_,
    fun st d hwork hphase hrun => ?_, fun row space addr a d e hwork hphase hrows hread hok hwrite => ⟨fun hopt => ?_,
      fun b d' e' hopt hread' hok' hwrite' => ?_⟩, fun w v d d' e hl hjob hdone hrel hskip hstage hstatus hcmpl hop hval htail => ?_⟩
  · have h := works_of_atWork hwork
    exact ⟨_, onLive_live (fun d => d.gatherFwd g) s h.live, gatherFwd_empty s.dev g j a v n h hispc hread hwrite hlast ha hin hv hempty hn hfit⟩
  · change onLive (fun d => d.gatherProgress g) s = _
    rw [onLive_live _ _ hl, gatherProgress_releases s.dev d g j w hjob hop hdue hadd]
  · have h := works_of_atWork hwork
    exact ⟨_, onLive_live (fun d => d.gatherRcInv g) s h.live, gatherRcInv_drops s.dev g j h⟩
  · have h := works_of_atWork hwork
    change onLive (fun d => d.gatherBwd g) s = _
    rw [onLive_live _ _ h.live, gatherBwd_stages s.dev d g j st h hphase hrun]
  · have h := works_of_atWork hwork
    change onLive (fun d => d.gatherPhaseB g) s = _
    rw [onLive_live _ _ h.live, gatherPhaseB_last s.dev e g j _ h hphase hrows (placeRow_row hread hok hwrite hopt)]
  · have h := works_of_atWork hwork
    change onLive (fun d => d.gatherPhaseB g) s = _
    rw [onLive_live _ _ h.live, gatherPhaseB_last s.dev e' g j _ h hphase hrows
      (placeRow_state hread hok hwrite hopt hread' hok' hwrite')]
  · change onLive (fun d => d.gatherJobEnd g) s = _
    rw [onLive_live _ _ hl, gatherJobEnd_ends s.dev d _ d' e g j w v hjob hdone hrel hskip hstage hstatus hcmpl rfl hop hval htail]

end Sys2Proof.Machine

/-! A statement about routers that does not ask for the packet's network (R310, R317). -/

namespace Sys2Proof.Machine

/-- A WRITE_ACK of slice 0 for chip 1: a packet of the reply network. -/
def ackPacket : Packet := { hdr := header 9 0 1 0 0 0, payload := [] }

/-- The part after reset with lane 0 of partition 0 as the lane of port 0, slice 0 of partition 0 whose table names port 1 for chip 1, and
port 1 up. `ackPacket` stands in the request buffer of port 0, and another waits to be sent on port 1. -/
def ackState : State :=
  { dev :=
      { Device.reset with
        dict := [((0x3100, 1, 0), 1)],
        lanes := Device.reset.lanes.set 0 { Lane.reset with bound := some 0 },
        tables := Device.reset.tables.set 0 { active := true, id := 0, part := 0, entries := [(1, 0x00F1)] },
        ports := (Device.reset.ports.set 0 { Port.reset with rx := Port.reset.rx.set 0 [(ackPacket, 0)] }).set 1
          { Port.reset with enabled := true, st := 2, out := [ackPacket] } },
    pending := [] }

/-- How many packets the request buffer of port 0 holds after a command. -/
def requestsAfter (c : Instr) (s : State) : Option Nat :=
  match exec c s with
  | .next u => some ((u.dev.ports[(0 : PortNo)]).rx[(0 : Fin 4)]).length
  | _ => none

theorem requestsAfter_of_next {c : Instr} {s u : State} (h : exec c s = .next u) :
    requestsAfter c s = some ((u.dev.ports[(0 : PortNo)]).rx[(0 : Fin 4)]).length := by
  unfold requestsAfter
  rw [h]

/-- The packet leaves in the reply network, where another waits: it stays. -/
theorem ackState_waits : requestsAfter (.routerForward (.port 0 false)) ackState = some 1 := by decide +kernel

/-- What the statement says the router leaves. -/
def ackForwarded : Device :=
  (ackState.dev.popRx 0 (clsNo false false)).sendOn 1 (setBit ackPacket.hdr 5 false) ackPacket.payload
    (ackPacket.dcl && ackState.dev.portDim 1 = ackState.dev.portDim 0)

theorem ackForwarded_empty : ((ackForwarded.ports[(0 : PortNo)]).rx[(0 : Fin 4)]).length = 0 := by decide +kernel

/-- Refutes O47: a packet of the reply network in a request buffer leaves in the reply network, so that it waits where one of the
request network would not. -/
theorem not_linkEvents : ¬ Obligations.LinkEvents := by
  unfold Obligations.LinkEvents
  rintro ⟨-, h⟩
  obtain ⟨hforward, -⟩ := h ackState 0 false ackPacket (by decide +kernel)
  obtain ⟨hsend, -⟩ := hforward (by decide +kernel) (by decide +kernel) 0 0 0 (by decide +kernel) (by decide +kernel)
  obtain ⟨hsends, -⟩ := hsend (by decide +kernel) (by decide +kernel)
  have hnext := requestsAfter_of_next (hsends 1 false (by decide +kernel) (by decide +kernel))
  change requestsAfter (.routerForward (.port 0 false)) ackState = some ((ackForwarded.ports[(0 : PortNo)]).rx[(0 : Fin 4)]).length at hnext
  rw [ackState_waits, ackForwarded_empty, Option.some.injEq] at hnext
  exact absurd hnext (by decide)

end Sys2Proof.Machine

/-! Packets for this chip (R142, R166, R167, R173, R180, R302). -/

namespace Sys2Proof.Machine

/-! ### The head of a port's class buffer -/

/-- The head taken is one the test picks. -/
theorem takeHead_picks {d e : Device} {src : PktSrc} {reply : Bool} {f : Packet → Bool} {a : PartNo} {pkt : Packet}
    (h : d.takeHead src reply f = some (a, pkt, e)) : f pkt = true := by
  unfold Device.takeHead at h
  split at h
  · cases h
  · split at h
    · split at h
      · next hgood =>
        cases h
        simp only [Bool.and_eq_true] at hgood
        exact hgood.1.2
      · cases h
    · cases h

theorem takeHead_tiles {d e : Device} {src : PktSrc} {reply : Bool} {f : Packet → Bool} {a : PartNo} {pkt : Packet}
    (h : d.takeHead src reply f = some (a, pkt, e)) : e.tiles = d.tiles := by
  unfold Device.takeHead at h
  split at h
  · cases h
  · split at h
    · split at h
      · cases h
        rfl
      · cases h
    · cases h

/-- Only an ALLOC waits its turn at its pool (R215). -/
theorem allocTurn_of_op {d e : Device} {src : PktSrc} {a : PartNo} {pkt : Packet}
    (h : d.takeHead src false (fun k => k.ty = 3) = some (a, pkt, e)) (hop : fld (BitVec.ofNat 192 (leNat pkt.payload)) 24 6 ≠ clAllocOp) :
    d.allocTurn src = true := by
  unfold Device.allocTurn Device.allocHead
  rw [h]
  dsimp only
  rw [if_neg hop]

/-! ### Requests -/

section Requests
variable {d e : Device} {src : PktSrc} {a : PartNo} {pkt : Packet}

theorem servWrite_admitted {ty : Nat} (h : d.takeHead src false (fun k => k.ty = ty) = some (a, pkt, e))
    (hadm : e.pktAdmitted a pkt pkt.offset pkt.payload.length rightWr = true) (hfit : pkt.offset + pkt.payload.length ≤ claspBase)
    (hclean : (e.tiles[(fin pkt.tile : TileNo)]).pocketBad = []) :
    d.servWrite src ty =
      (e.modTile (fin pkt.tile) (fun x => { x with pocket := x.pocket.write pkt.offset pkt.payload })).answer a pkt 9 pkt.req rsOk [] := by
  unfold Device.servWrite
  rw [h]
  dsimp only
  rw [hadm, meshWrite_clean e _ _ _ hclean hfit]
  rfl

theorem servWrite_denied {ty : Nat} (h : d.takeHead src false (fun k => k.ty = ty) = some (a, pkt, e))
    (hden : e.pktAdmitted a pkt pkt.offset pkt.payload.length rightWr = false) :
    d.servWrite src ty = (e.pktDenied pkt pkt.offset pkt.payload.length rightWr).answer a pkt 9 pkt.req rsDenied [] := by
  unfold Device.servWrite
  rw [h]
  dsimp only
  rw [hden]
  rfl

theorem servRead_admitted {w k : Nat} (h : d.takeHead src false (fun k => k.ty = 2) = some (a, pkt, e)) (hw : w = leNat pkt.payload)
    (hk : k = w / 2 ^ 23 % 512) (hadm : e.pktAdmitted a pkt pkt.offset k rightRd = true) (hfit : pkt.offset + k ≤ claspBase)
    (hclean : (e.tiles[(fin pkt.tile : TileNo)]).pocketBad = []) :
    d.servRead src = e.answer a pkt 8 (w % 2 ^ 23) rsOk ((e.tiles[(fin pkt.tile : TileNo)]).pocket.read pkt.offset k) := by
  unfold Device.servRead
  rw [h]
  dsimp only
  rw [← hw, ← hk, hadm]
  have hread : e.meshRead (fin pkt.tile) pkt.offset k =
      ({ st := .ok, bytes := (e.tiles[(fin pkt.tile : TileNo)]).pocket.read pkt.offset k, at_ := 0 }, e) := by
    unfold Device.meshRead
    rw [if_neg (by omega), pocketRead_clean _ _ _ _ _ hclean]
    rfl
  rw [hread]
  rfl

/-- The answer to an ATOMIC: the previous word, or POISON. -/
def Device.atomicReply (c : Device) (a : PartNo) (pkt : Packet) (tag : Nat) : Option W64 → Device
  | some word => c.answer a pkt 10 tag rsOk (leBytes 8 word.toNat)
  | none => c.answer a pkt 10 tag rsPoison []

/-- The answer to a WATCH: none while its registration waits for a slot (R181). -/
def Device.watchReply (c : Device) (a : PartNo) (pkt : Packet) (tag : Nat) (word : W64) : RegRes → Device
  | .accepted => c.answer a pkt 10 tag rsOk (leBytes 8 word.toNat)
  | .queued => c
  | .poison => c.answer a pkt 10 tag rsPoison []

/-- A clasp operation from another chip, once its turn has come and a window admits it. -/
theorem servAtomic_admitted {w : BitVec 192} {r : Option W64} {c : Device} (h : d.takeHead src false (fun k => k.ty = 3) = some (a, pkt, e))
    (hw : w = BitVec.ofNat 192 (leNat pkt.payload)) (hop : fld w 24 6 ≠ clAllocOp) (hn : fld w 32 6 < 48)
    (hadm : e.pktAdmitted a pkt (claspOff (fld w 32 6)) 8 rightCl = true)
    (hclasp : e.claspApply (fin pkt.tile) (fin (fld w 32 6))
      { op := fld w 24 6, vsrc := bitOf w 30, w0 := BitVec.ofNat 64 (fld w 64 64), w1 := BitVec.ofNat 64 (fld w 128 64),
        own := none, by_ := none } = (r, c)) :
    d.servAtomic src = c.atomicReply a pkt (fld w 0 23) r := by
  subst hw
  unfold Device.servAtomic
  rw [allocTurn_of_op h hop, h]
  dsimp only
  rw [if_neg (by decide), if_neg hop, if_neg (by rw [hadm]; simp only [Bool.not_true, Bool.false_eq_true, or_false]; omega), hclasp]
  cases r <;> rfl

theorem servWatch_admitted {w : BitVec 192} {res : RegRes} {word : W64} {c : Device}
    (h : d.takeHead src false (fun k => k.ty = 4) = some (a, pkt, e)) (hw : w = BitVec.ofNat 192 (leNat pkt.payload))
    (hn : fld w 30 6 < 48) (hadm : e.pktAdmitted a pkt (claspOff (fld w 30 6)) 8 rightCl = true)
    (hreg : e.registerWatch (fin pkt.tile)
      { value := BitVec.ofNat 48 (fld w 64 48), clasp := fin (fld w 30 6), cond := fin (fld w 23 2), nkind := fin (fld w 25 2),
        narg := fin (fld w 27 3), remote := true, wait := fld w 25 2 = 1, tile := fin pkt.req, chip := BitVec.ofNat 15 pkt.src,
        ctx := fin (fld w 36 8), holder := .tile .ld, inv := false, tag := fld w 0 23 } none = (res, word, c)) :
    d.servWatch src = c.watchReply a pkt (fld w 0 23) word res := by
  subst hw
  unfold Device.servWatch
  rw [h]
  dsimp only
  rw [if_neg (by rw [hadm]; simp only [Bool.not_true, Bool.false_eq_true, or_false]; omega), hreg]
  cases res <;> rfl

end Requests

/-- A denied request is counted, and no tile changes. -/
theorem pktDenied_tiles (d : Device) (pkt : Packet) (off n right : Nat) : (d.pktDenied pkt off n right).tiles = d.tiles := by
  unfold Device.pktDenied Device.violation
  split
  · exact report_tiles _ _ _ _ _ _
  · rfl

theorem inject_tiles (d : Device) (p : PartNo) (cuff : Fin 2) (ty dst mid : Nat) (payload : List Byte) :
    (d.inject p cuff ty dst mid payload).tiles = d.tiles := by
  unfold Device.inject
  split
  · rfl
  · dsimp only
    split
    · exact ((count_told _ _ _ _ _).trans (traceRec_told _ _ _ _ _ _)).tiles
    · rfl

/-! ### Replies -/

/-- Bytes that arrived change no state of a channel. -/
theorem delivered_slot_st (d : Device) (m : MoverId) (k : Nat) : ((d.delivered m k).slot m k).st = (d.slot m k).st := by
  unfold Device.delivered
  dsimp only
  split
  · rfl
  · split
    · rw [(Device.Touched.of_told (count_told _ _ _ _ _)).slot]
      exact slot_keeps (·.st) d m m k k _ (fun _ => rfl)
    · rfl

theorem servReadRsp_data {d c e : Device} {src : PktSrc} {a : PartNo} {pkt : Packet} {m : MoverId} {k : Nat} {x : Desc} {r : Nat × Nat × Nat}
    (h : d.takeHead src true (fun k => k.ty = 8) = some (a, pkt, c)) (hclaim : c.claimTag pkt.tag = (some (.mover m k), e))
    (hx : (e.slot m k).desc = some x) (hread : (e.slot m k).reads.find? (fun r => r.1 = pkt.tag) = some r)
    (hst : (e.slot m k).st ≠ .stopping) (hok : pkt.status = 0) :
    d.servReadRsp src = ((e.modSlot m k (fun s => { s with reads := s.reads.filter (fun q => q.1 ≠ pkt.tag) })).modSlot m k (fun s =>
      { s with buf := s.buf ++ pkt.payload })).moveOn m k := by
  have hdenied : ¬ pkt.status = rsDenied := by rw [hok]; decide
  have hbad : ¬ pkt.status ≠ rsOk := by rw [hok]; decide
  unfold Device.servReadRsp
  rw [h]
  dsimp only
  rw [hclaim]
  dsimp only
  rw [hx, hread]
  dsimp only
  rw [if_neg hst, if_neg hdenied, if_neg hbad]

theorem servWriteAck_counts {d c : Device} {src : PktSrc} {a : PartNo} {pkt : Packet} {m : MoverId} {k : Nat} {x : Desc}
    (h : d.takeHead src true (fun k => k.ty = 9) = some (a, pkt, c)) (hm : reqMover pkt.tag = some m)
    (hk : firstIdx (fun (s : Slot) => s.awaits ≠ 0 && (s.desc.map (fun x => c.epFar (x.ep true))).getD false) (c.mover m).slots = some k)
    (hx : (c.slot m k).desc = some x) (hst : (c.slot m k).st ≠ .stopping) (hok : pkt.status = 0) :
    d.servWriteAck src = ((c.modSlot m k (fun s => { s with awaits := s.awaits - 1 })).delivered m k).moveOn m k := by
  have hst' : (((c.modSlot m k (fun s => { s with awaits := s.awaits - 1 })).delivered m k).slot m k).st ≠ .stopping := by
    rw [delivered_slot_st, slot_keeps (·.st) c m m k k _ (fun _ => by rfl)]
    exact hst
  have hdenied : ¬ pkt.status = rsDenied := by rw [hok]; decide
  have hbad : ¬ pkt.status = rsPoison := by rw [hok]; decide
  unfold Device.servWriteAck
  rw [h]
  dsimp only
  rw [hm]
  dsimp only
  rw [hk]
  dsimp only
  rw [hx]
  dsimp only
  rw [if_neg hst', if_neg hdenied, if_neg hbad]

/-- What the answer to an instruction that is no CL.WAIT leaves before the previous word is stored (R302, R373). -/
def Device.answeredFlight (d : Device) (t : TileNo) (g : Eng) (tag : Nat) (word : W64) : Device :=
  (d.journalAnswer t tag 0 word).modFlightWhere t g (fun h => h.tag == some tag) (fun h => { h with tag := none, awaits := 0 })

theorem journalAnswer_flight (d : Device) (t : TileNo) (tag st : Nat) (word : W64) :
    ((d.journalAnswer t tag st word).tiles[t]).flight = (d.tiles[t]).flight := modTile_keeps (·.flight) d t t _ (fun _ => rfl)

theorem answeredFlight_tags (d : Device) (t : TileNo) (g : Eng) (tag : Nat) (word : W64) :
    (d.answeredFlight t g tag word).tags = d.tags := rfl

theorem answeredFlight_clean (d : Device) (t : TileNo) (g : Eng) (tag : Nat) (word : W64) :
    ((d.answeredFlight t g tag word).tiles[t]).pocketBad = (d.tiles[t]).pocketBad := by
  unfold Device.answeredFlight Device.modFlightWhere Device.modFlight Device.journalAnswer
  rw [modTile_get, modTile_get]

theorem claspAnswer_ok (d : Device) (t : TileNo) (g : Eng) (tag : Nat) (word : W64) (f : Flight)
    (hf : ((d.tiles[t]).flight[g.idx]).find? (fun f => f.tag = some tag) = some f) (hop : decodeOp f.e.word ≠ some .clWait) :
    d.claspAnswer t g tag 0 word = (d.answeredFlight t g tag word).returnWord t g f word := by
  have hwait : (decodeOp f.e.word == some .clWait) = false := beq_eq_false_iff_ne.mpr hop
  unfold Device.claspAnswer
  dsimp only
  rw [journalAnswer_flight, hf]
  dsimp only
  rw [if_pos (show (0 : Nat) = rsOk from rfl), if_neg (show ¬ (0 : Nat) = rsDenied by decide),
    if_neg (show ¬ (0 : Nat) = rsPoison by decide), hwait]
  rfl

theorem returnWord_none (d : Device) (t : TileNo) (g : Eng) (f : Flight) (word : W64) (h : clVsrc f.e.word = false) :
    d.returnWord t g f word = d := by
  unfold Device.returnWord
  rw [h]
  rfl

theorem returnWord_stored (d : Device) (t : TileNo) (g : Eng) (f : Flight) (word : W64) (h : clVsrc f.e.word = true)
    (hfit : clPoff f.e.word + 16 ≤ claspBase) (hclean : (d.tiles[t]).pocketBad = []) :
    d.returnWord t g f word = d.modTile t (fun x => { x with pocket := x.pocket.write (clPoff f.e.word + 8) (leBytes 8 word.toNat) }) := by
  have hlen : (leBytes 8 word.toNat).length = 8 := by simp [leBytes]
  have hne : leBytes 8 word.toNat ≠ [] := by
    intro h0
    rw [h0] at hlen
    exact absurd hlen (by decide)
  unfold Device.returnWord
  rw [if_pos h, ownWrite_clean d t g _ _ hclean hne (by rw [hlen]; omega)]
  rfl

theorem servAtomicRsp_tile {d c e : Device} {src : PktSrc} {a : PartNo} {pkt : Packet} {t : TileNo} {g : Eng}
    (h : d.takeHead src true (fun k => k.ty = 10) = some (a, pkt, c)) (hclaim : c.claimTag pkt.tag = (some (.tile t g), e)) :
    d.servAtomicRsp src = e.claspAnswer t g pkt.tag pkt.status (BitVec.ofNat 64 (leNat pkt.payload)) := by
  unfold Device.servAtomicRsp
  rw [h]
  dsimp only
  rw [hclaim]

/-! ### Notifications -/

/-- A notification from another chip takes effect as that of the registration it answers. -/
theorem servNotify_far {d e : Device} {src : PktSrc} {a : PartNo} {pkt : Packet} {w : W128} {f : FarWatch}
    (h : d.takeHead src true (fun k => k.ty = 11) = some (a, pkt, e)) (hw : w = BitVec.ofNat 128 (leNat pkt.payload))
    (hf : e.farFor pkt w = some f) (hkind : f.w.nkind ≠ 3) :
    ∃ (n : Note) (c : Device), n.w = f.w ∧ n.abandoned = bitOf w 22 ∧ c.tiles = d.tiles ∧ d.servNotify src = c.applyAtTile n := by
  subst hw
  refine ⟨{ w := f.w, abandoned := bitOf (BitVec.ofNat 128 (leNat pkt.payload)) 22,
            value := BitVec.ofNat 48 (fld (BitVec.ofNat 128 (leNat pkt.payload)) 64 48), fromChip := BitVec.ofNat 15 f.holds,
            from_ := fin f.at_, by_ := none },
    { e with farWatches := e.farWatches.filter (fun g => g.tag ≠ f.tag) }, rfl, rfl, (takeHead_tiles h : e.tiles = d.tiles), ?_⟩
  unfold Device.servNotify
  rw [h]
  dsimp only
  rw [hf]
  exact if_neg hkind

/-- A token counter below 255 takes a token, and LOCK_ABANDONED is noted. -/
theorem addTok_noted (d : Device) (t : TileNo) (k : Fin 8) (abandoned : Bool) (unit pcq : Nat) (hroom : ((d.tiles[t]).tok[k]).toNat < 255) :
    (if abandoned then d.modTile t (fun x => { x with claspNote := setBit x.claspNote k.val true }) else d).addTok t k 1 unit pcq =
      d.modTile t (fun x => { x with claspNote := if abandoned then setBit x.claspNote k.val true else x.claspNote,
                                     tok := x.tok.set k (x.tok[k] + 1) }) := by
  cases abandoned with
  | false =>
    rw [if_neg Bool.false_ne_true, addTok_one _ _ _ _ _ hroom]
    exact modTile_congr rfl
  | true =>
    rw [if_pos rfl, addTok_one _ _ _ _ _ (by rw [modTile_get]; exact hroom), modTile_modTile]
    exact modTile_congr rfl

/-- A notification for a token counter, with LOCK_ABANDONED or without. -/
theorem applyAtTile_token (d : Device) (n : Note) (hkind : n.w.nkind = 0) (hctx : (d.tiles[n.w.tile]).ctx = some n.w.ctx)
    (hroom : ((d.tiles[n.w.tile]).tok[n.w.narg]).toNat < 255) :
    ∃ e j, d.Told e ∧ d.applyAtTile n = e.modTile n.w.tile (fun x =>
      { x with journal := j, claspNote := if n.abandoned then setBit x.claspNote n.w.narg.val true else x.claspNote,
               tok := x.tok.set n.w.narg (x.tok[n.w.narg] + 1) }) := by
  have htold := count_told d (d.tiles[n.w.tile]).bound 0x013 n.w.tile.val 1
  unfold Device.applyAtTile
  simp only [hctx, hkind, ne_eq, not_true_eq_false, if_false, if_true]
  cases hholder : n.w.holder with
  | tile g =>
    obtain ⟨j, hj⟩ := journalNote_eq (d.count (d.tiles[n.w.tile]).bound 0x013 n.w.tile.val 1) n.w.tile (jEng g) n
    refine ⟨_, j, htold, ?_⟩
    dsimp only
    rw [hj, addTok_noted _ _ _ _ _ _ (by rw [modTile_get, htold.tiles]; exact hroom), modTile_modTile]
  | _ =>
    refine ⟨_, ((d.count (d.tiles[n.w.tile]).bound 0x013 n.w.tile.val 1).tiles[n.w.tile]).journal, htold, ?_⟩
    dsimp only
    rw [addTok_noted _ _ _ _ _ _ (by rw [htold.tiles]; exact hroom)]
    exact modTile_congr rfl

theorem applyAtTile_token_tile (d : Device) (n : Note) (t : TileNo) (c : CtxNo) (k : Fin 8) (ht : t = n.w.tile) (hc : c = n.w.ctx)
    (hk : k = n.w.narg) (hkind : n.w.nkind = 0) (hctx : (d.tiles[t]).ctx = some c) (hroom : ((d.tiles[t]).tok[k]).toNat < 255) :
    ((d.applyAtTile n).tiles[t]).tok = (d.tiles[t]).tok.set k ((d.tiles[t]).tok[k] + 1) ∧
    ((d.applyAtTile n).tiles[t]).claspNote =
      if n.abandoned then setBit (d.tiles[t]).claspNote k.val true else (d.tiles[t]).claspNote := by
  subst ht hc hk
  obtain ⟨e, j, htold, he⟩ := applyAtTile_token d n hkind hctx hroom
  rw [he, modTile_get, htold.tiles]
  exact ⟨rfl, rfl⟩

/-- One whose context does not run at its tile changes nothing. -/
theorem applyAtTile_discarded (d : Device) (n : Note) (hctx : (d.tiles[n.w.tile]).ctx ≠ some n.w.ctx) : d.applyAtTile n = d := by
  unfold Device.applyAtTile
  rw [if_pos hctx]

/-- Settles O48: each request is judged by its windows and answered once; each reply finds its requester through its TAG. -/
theorem packetResults : Obligations.PacketResults := by
  unfold Obligations.PacketResults
  refine ⟨?_, ?_⟩
  · intro s src a pkt d t n hl hwf
    refine ⟨?_, ?_, ?_⟩
    · intro ty hty hhead
      have hexec : exec (if ty = 0 then .pktWrite src else .pktWriteF src) s = .next { s with dev := s.dev.servWrite src ty } := by
        obtain rfl | rfl : ty = 0 ∨ ty = 1 := by omega
        · exact (if_pos hwf).trans (onLive_live (fun d => d.servWrite src 0) s hl)
        · exact (if_pos hwf).trans (onLive_live (fun d => d.servWrite src 1) s hl)
      rw [hexec]
      refine ⟨fun hadm hfit hclean => ?_, fun hden => ⟨_, rfl, fun v => ?_⟩⟩
      · rw [servWrite_admitted hhead hadm hfit hclean]
      · change ((s.dev.servWrite src ty).tiles[v]).pocket = _
        rw [servWrite_denied hhead hden, Device.answer, inject_tiles, pktDenied_tiles, takeHead_tiles hhead]
    · intro w k hhead hw hk _ _ hadm hfit hclean
      have hexec : exec (.pktRead src) s = .next { s with dev := s.dev.servRead src } :=
        (if_pos hwf).trans (onLive_live (fun d => d.servRead src) s hl)
      rw [hexec, servRead_admitted hhead hw hk hadm hfit hclean]
    · intro w hw
      refine ⟨fun hhead hop hn hadm r e hclasp => ?_, fun hhead hn hadm res word e hreg => ?_⟩
      · have hexec : exec (.pktAtomic src) s = .next { s with dev := s.dev.servAtomic src } :=
          (if_pos hwf).trans (onLive_live (fun d => d.servAtomic src) s hl)
        rw [hexec, servAtomic_admitted hhead hw hop hn hadm hclasp]
        refine ⟨fun word hr => ?_, fun hr => ?_⟩
        · subst hr; rfl
        · subst hr; rfl
      · have hexec : exec (.pktWatch src) s = .next { s with dev := s.dev.servWatch src } :=
          (if_pos hwf).trans (onLive_live (fun d => d.servWatch src) s hl)
        rw [hexec, servWatch_admitted hhead hw hn hadm hreg]
        refine ⟨fun hr => ?_, fun hr => ?_, fun hr => ?_⟩
        · subst hr; rfl
        · subst hr; rfl
        · subst hr; rfl
  · intro s src a pkt d e hl hwf
    refine ⟨?_, ?_, ?_, ?_⟩
    · intro m k x r hhead hclaim hx hread hst hok
      have hexec : exec (.pktReadRsp src) s = .next { s with dev := s.dev.servReadRsp src } :=
        (if_pos hwf).trans (onLive_live (fun d => d.servReadRsp src) s hl)
      rw [hexec, servReadRsp_data hhead hclaim hx hread hst hok]
    · intro m k x hhead hm hk hx hst hok
      have hexec : exec (.pktWriteAck src) s = .next { s with dev := s.dev.servWriteAck src } :=
        (if_pos hwf).trans (onLive_live (fun d => d.servWriteAck src) s hl)
      rw [hexec, servWriteAck_counts hhead hm hk hx hst hok]
    · intro t g f word hhead hclaim hf hop hok hword answered
      have hexec : exec (.pktAtomicRsp src) s = .next { s with dev := answered.returnWord t g f word } := by
        refine (if_pos hwf).trans ((onLive_live (fun d => d.servAtomicRsp src) s hl).trans ?_)
        rw [servAtomicRsp_tile hhead hclaim, ← hword, hok, claspAnswer_ok _ _ _ _ _ _ hf hop]
        rfl
      obtain ⟨-, rfl⟩ := Prod.mk.inj hclaim
      rw [hexec]
      refine ⟨?_, fun hv => ?_, fun hv hfit hclean => ?_⟩
      · exact (congrArg (fun l => alGet l pkt.tag) (answeredFlight_tags _ t g pkt.tag word)).trans (alGet_alErase_self _ _)
      · rw [returnWord_none _ _ _ _ _ hv]
      · have hclean' : (answered.tiles[t]).pocketBad = [] := by
          refine (answeredFlight_clean _ t g pkt.tag word).trans ?_
          change (d.tiles[t]).pocketBad = []
          rw [takeHead_tiles hhead]
          exact hclean
        rw [returnWord_stored _ _ _ _ _ hv hfit hclean']
    · intro w f t c k hhead hw hf hkind ht hc hk
      obtain ⟨n, e, hnw, hna, htiles, hnext⟩ := servNotify_far hhead hw hf (by rw [hkind]; decide)
      have hexec : exec (.pktNotify src) s = .next { s with dev := e.applyAtTile n } := by
        rw [← hnext]
        exact (if_pos hwf).trans (onLive_live (fun d => d.servNotify src) s hl)
      rw [hexec, ← htiles, ← hna]
      refine ⟨fun hctx hroom => ⟨_, rfl, ?_⟩, fun hctx => ⟨_, rfl, ?_⟩⟩
      · exact applyAtTile_token_tile e n t c k (hnw ▸ ht) (hnw ▸ hc) (hnw ▸ hk) (hnw ▸ hkind) hctx hroom
      · rw [← hnw] at ht hc
        subst ht hc
        rw [applyAtTile_discarded e n hctx]
        exact ⟨rfl, rfl⟩

end Sys2Proof.Machine

/-! Collectives (R326 to R329, R335, R339): what their steps leave of a partition's collective and its ring. -/

namespace Sys2Proof.Machine

/-! ### What leaves collectives alone -/

/-- A partition's collective, its ring, and what it remembers of the last one. -/
def Partition.sequencer (q : Partition) : Option CollJob × Ring × Option W32 × Bool × List CollCtl :=
  (q.coll, q.collRing, q.collPrev, q.collCut, q.collEarly)

/-- Every partition's collective is as it was. -/
def Device.KeepsColl (d e : Device) : Prop := ∀ p : PartNo, (e.parts[p]).sequencer = (d.parts[p]).sequencer

namespace Device.KeepsColl
variable {a b c d e : Device}

theorem refl (d : Device) : d.KeepsColl d := fun _ => rfl

theorem trans (h : a.KeepsColl b) (k : b.KeepsColl c) : a.KeepsColl c := fun p => (k p).trans (h p)

theorem of_parts (h : e.parts = d.parts) : d.KeepsColl e := fun p => by rw [h]

theorem of_touched (h : d.Touched e) : d.KeepsColl e := fun p => by rw [h.part p]; rfl

theorem of_told (h : d.Told e) : d.KeepsColl e := of_touched (.of_told h)

variable (h : d.KeepsColl e) (p : PartNo)
include h

theorem coll : (e.parts[p]).coll = (d.parts[p]).coll := (Prod.mk.inj (h p)).1
theorem ring : (e.parts[p]).collRing = (d.parts[p]).collRing := (Prod.mk.inj (Prod.mk.inj (h p)).2).1
theorem prev : (e.parts[p]).collPrev = (d.parts[p]).collPrev := (Prod.mk.inj (Prod.mk.inj (Prod.mk.inj (h p)).2).2).1
theorem early : (e.parts[p]).collEarly = (d.parts[p]).collEarly :=
  (Prod.mk.inj (Prod.mk.inj (Prod.mk.inj (Prod.mk.inj (h p)).2).2).2).2

end Device.KeepsColl

theorem keepsColl_ite {d e e' : Device} (p : Prop) [Decidable p] (h : d.KeepsColl e) (h' : d.KeepsColl e') :
    d.KeepsColl (if p then e else e') := by
  split
  · exact h
  · exact h'

theorem foldl_keepsColl {α : Type} (f : Device → α → Device) (hf : ∀ (d : Device) (a : α), d.KeepsColl (f d a)) (l : List α) (d : Device) :
    d.KeepsColl (l.foldl f d) := foldl_related (R := Device.KeepsColl) .refl Device.KeepsColl.trans hf l d

/-- Pieces of an access one after another. -/
theorem foldl_keepsColl_snd {α β : Type} (f : β × Device → α → β × Device) (hf : ∀ (q : β × Device) (a : α), q.2.KeepsColl (f q a).2)
    (l : List α) (q : β × Device) : q.2.KeepsColl (l.foldl f q).2 :=
  foldl_related (R := fun q r : β × Device => q.2.KeepsColl r.2) (fun q => .refl q.2) Device.KeepsColl.trans hf l q

theorem collSend_keepsColl (d : Device) (p : PartNo) (v : Fin 4) (minus : Bool) (ty mid : Nat) (payload : List Byte) :
    d.KeepsColl (d.collSend p v minus ty mid payload) := by
  unfold Device.collSend
  dsimp only
  split
  · exact .of_parts rfl
  · exact .of_touched (sendOn_touched _ _ _ _ _)

theorem collCtl_keepsColl (d : Device) (p : PartNo) (v : Fin 4) (toMinus : Bool) (id kind : Nat) (dir : Bool) (status origin port data : Nat) :
    d.KeepsColl (d.collCtl p v toMinus id kind dir status origin port data) := collSend_keepsColl _ _ _ _ _ _ _

theorem collSendChunk_keepsColl (d : Device) (p : PartNo) (j : CollJob) (v : Fin 4) (minus : Bool) (k : CKind) (first : Nat)
    (bs : List Byte) : d.KeepsColl (d.collSendChunk p j v minus k first bs) := foldl_keepsColl _ (fun _ _ => collSend_keepsColl _ _ _ _ _ _ _) _ _

theorem sendAborts_keepsColl (d : Device) (p : PartNo) (id status chip port : Nat) : d.KeepsColl (d.sendAborts p id status chip port) := by
  unfold Device.sendAborts
  refine foldl_keepsColl _ (fun d v => foldl_keepsColl _ (fun d m => ?_) _ _) _ _
  dsimp only
  exact keepsColl_ite _ (collCtl_keepsColl _ _ _ _ _ _ _ _ _ _ _) (.refl d)

theorem collOp_touched (d : Device) (p : PartNo) (t : TileNo) (n v : Nat) : d.Touched (d.collOp p t n v) := claspSend_touched _ _ _ _ _ _ _ _ _

theorem startRemap_keepsColl (d : Device) (page : Nat) : d.KeepsColl (d.startRemap page) := by
  unfold Device.startRemap
  split
  · exact .refl d
  · split
    · exact .of_parts rfl
    · exact .trans (b := { (d.modStack (pageStack page) _) with dueRetire := _ }) (.of_parts rfl) (.of_told (report_told _ _ _ _ _ _))

theorem meetLine_keepsColl (d : Device) (page line : Nat) : d.KeepsColl (d.meetLine page line).2 := by
  have hcount : d.KeepsColl (d.countCe page line) := by
    unfold Device.countCe
    dsimp only
    split
    · exact .trans (.of_parts rfl) (startRemap_keepsColl _ _)
    · exact .of_parts rfl
  unfold Device.meetLine
  split
  · exact .refl d
  · exact hcount
  · exact .of_parts rfl
  · exact .refl d

theorem hbmRead_keepsColl (d : Device) (p : PartNo) (addr n : Nat) (repair : Bool) : d.KeepsColl (d.hbmRead p addr n repair).2 := by
  unfold Device.hbmRead
  refine .trans (.of_told (count_told d _ _ _ _)) (foldl_keepsColl_snd _ (fun q a => ?_) _ _)
  have hmeet := meetLine_keepsColl q.2
  dsimp only
  split
  · exact .refl _
  · split
    · exact .refl _
    · split
      · exact hmeet _ _
      · split
        · exact hmeet _ _
        · exact hmeet _ _

theorem hbmWrite_keepsColl (d : Device) (p : PartNo) (addr : Nat) (bs : List Byte) (repair : Bool) :
    d.KeepsColl (d.hbmWrite p addr bs repair).2 := by
  unfold Device.hbmWrite
  refine .trans (.of_told (count_told d _ _ _ _)) (foldl_keepsColl_snd _ (fun q a => ?_) _ _)
  have hmeet := meetLine_keepsColl q.2
  dsimp only
  split
  · exact .refl _
  · split
    · exact .refl _
    · split
      · exact .of_parts rfl
      · split
        · exact (hmeet _ _).trans (.of_parts rfl)
        · split
          · exact hmeet _ _
          · exact hmeet _ _

/-! ### Ends of a collective -/

/-- The completion word and the done operation of an end come before the ring moves on. -/
def Device.collCmpl (d : Device) (p : PartNo) (j : CollJob) (word : W64) (done : Bool) : Device :=
  let e := (d.hbmWrite p (j.addr + 56) (leBytes 8 word.toNat) false).2
  if done && decide (cDval j.d ≠ 0) then e.collOp p (cCtile j.d) (cDclasp j.d) (cDval j.d) else e

theorem collCmpl_keepsColl (d : Device) (p : PartNo) (j : CollJob) (word : W64) (done : Bool) : d.KeepsColl (d.collCmpl p j word done) := by
  unfold Device.collCmpl
  dsimp only
  split
  · exact (hbmWrite_keepsColl _ _ _ _ _).trans (.of_touched (collOp_touched _ _ _ _ _))
  · exact hbmWrite_keepsColl _ _ _ _ _

theorem Device.Touched.hbm {d e : Device} (h : d.Touched e) : e.hbm = d.hbm := by rw [h.rest]

theorem collCmpl_hbm (d : Device) (p : PartNo) (j : CollJob) (word : W64) (done : Bool) :
    (d.collCmpl p j word done).hbm = (d.hbmWrite p (j.addr + 56) (leBytes 8 word.toNat) false).2.hbm := by
  unfold Device.collCmpl
  dsimp only
  split
  · exact (collOp_touched _ _ _ _ _).hbm
  · rfl

/-- The ring's step after an end. -/
def Partition.collNext (q : Partition) (id : W32) : Partition :=
  { q with coll := none, collPrev := some id, collCut := false,
           collRing := { q.collRing with next := q.collRing.next + 1, st := if q.collRing.st = 2 then 0 else q.collRing.st } }

theorem collEnd_eq (d : Device) (p : PartNo) (j : CollJob) (word : W64) (done : Bool) :
    ∃ e f, d.KeepsColl e ∧ e.hbm = (d.hbmWrite p (j.addr + 56) (leBytes 8 word.toNat) false).2.hbm ∧
      (e.modPart p (fun q => q.collNext (cId j.d))).Touched f ∧ d.collEnd p j word done = f := by
  refine ⟨(d.collCmpl p j word done).collOp p ((d.collCmpl p j word done).parts[p]).collRing.tile
    ((d.collCmpl p j word done).parts[p]).collRing.tail 1, _, (collCmpl_keepsColl d p j word done).trans (.of_touched (collOp_touched _ _ _ _ _)),
    (collOp_touched _ _ _ _ _).hbm.trans (collCmpl_hbm d p j word done), ?_, rfl⟩
  change Device.Touched _ (if ((d.collCmpl p j word done).parts[p]).collRing.st = 1 then Device.collWatch _ p else _)
  split
  · exact collWatch_touched _ p
  · exact .refl _

/-- The end of a collective: none runs, the ring's next job is due, and its ID is kept. -/
theorem collEnd_ends (d : Device) (p : PartNo) (j : CollJob) (word : W64) (done : Bool) :
    ((d.collEnd p j word done).parts[p]).coll = none ∧
    ((d.collEnd p j word done).parts[p]).collRing.next = (d.parts[p]).collRing.next + 1 ∧
    ((d.collEnd p j word done).parts[p]).collPrev = some (cId j.d) ∧
    (d.collEnd p j word done).hbm = (d.hbmWrite p (j.addr + 56) (leBytes 8 word.toNat) false).2.hbm := by
  obtain ⟨e, f, hkeeps, hhbm, htouched, hf⟩ := collEnd_eq d p j word done
  have hcoll := Device.KeepsColl.of_touched htouched
  rw [hf, hcoll.coll, hcoll.ring, hcoll.prev, modPart_get, htouched.hbm, modPart_hbm, hhbm]
  exact ⟨rfl, by rw [← hkeeps.ring p]; rfl, rfl, rfl⟩

/-- An abort ends the collective, and no later ABORT of it is forwarded (R339). -/
theorem collAbort_ends (d : Device) (p : PartNo) (status chip port : Nat) (j : CollJob) (hj : (d.parts[p]).coll = some j) :
    ((d.collAbort p status chip port).parts[p]).coll = none ∧
    ((d.collAbort p status chip port).parts[p]).collPrev = some (cId j.d) ∧
    ((d.collAbort p status chip port).parts[p]).collCut = true ∧
    ((d.collAbort p status chip port).parts[p]).collRing.next = (d.parts[p]).collRing.next + 1 := by
  unfold Device.collAbort
  rw [hj]
  dsimp only
  have hsend := sendAborts_keepsColl d p (cId j.d).toNat status chip port
  obtain ⟨hcoll, hnext, hprev, -⟩ := collEnd_ends (d.sendAborts p (cId j.d).toNat status chip port) p j (collWord status j.flags chip port) false
  have hreport := Device.KeepsColl.of_told (report_told
    (((d.sendAborts p (cId j.d).toNat status chip port).collEnd p j (collWord status j.flags chip port) false).modPart p
      (fun q => { q with collCut := true })) 0x0306 (some p)
    (some (((d.sendAborts p (cId j.d).toNat status chip port).parts[p]).collRing.ctx).val) 0 ((collWord status j.flags chip port).setWidth 128))
  have hseq := hreport p
  rw [modPart_get] at hseq
  unfold Partition.sequencer at hseq
  simp only [Prod.mk.injEq] at hseq
  obtain ⟨h1, h2, h3, h4, -⟩ := hseq
  exact ⟨h1.trans hcoll, h3.trans hprev, h4, by rw [h2, hnext, hsend.ring]⟩

end Sys2Proof.Machine

/-! Collectives taken, and their inputs read (R326 to R332). -/

namespace Sys2Proof.Machine

theorem modPart_modPart (d : Device) (p : PartNo) (f g : Partition → Partition) :
    (d.modPart p f).modPart p g = d.modPart p (fun q => g (f q)) := by
  have hparts : (d.parts.set p (f d.parts[p])).set p (g (d.parts.set p (f d.parts[p]))[p]) = d.parts.set p (g (f d.parts[p])) := by
    simp only [Fin.getElem_fin, Vector.getElem_set_self, Vector.set_set]
  exact congrArg (fun parts : Vector Partition 16 => { d with parts := parts }) hparts

theorem modColl_coll (d : Device) (p : PartNo) (f : CollJob → CollJob) : ((d.modColl p f).parts[p]).coll = (d.parts[p]).coll.map f := by
  unfold Device.modColl
  rw [modPart_get]

theorem modColl_modColl (d : Device) (p : PartNo) (f g : CollJob → CollJob) :
    (d.modColl p f).modColl p g = d.modColl p (fun j => g (f j)) := by
  unfold Device.modColl
  rw [modPart_modPart]
  refine modPart_congr d p ?_
  simp only [Option.map_map, Function.comp_def]

theorem modColl_congr (d : Device) (p : PartNo) {f g : CollJob → CollJob} {j : CollJob} (hj : (d.parts[p]).coll = some j) (h : f j = g j) :
    d.modColl p f = d.modColl p g := by
  unfold Device.modColl
  refine modPart_congr d p ?_
  simp only [hj, Option.map_some, h]

/-! ### A descriptor is taken -/

/-- The commands of the sequencer, each with the operations it takes. -/
theorem exec_collRow {s : State} (hl : s.dev.live = true) (p : PartNo) {row : (PartNo → Instr) × Nat} (hrow : row ∈ collRows) :
    ∃ ops : Nat → Bool, ops row.2 = true ∧ exec (row.1 p) s = .next { s with dev := s.dev.collTake p ops } := by
  simp only [collRows, List.mem_cons, List.not_mem_nil, or_false] at hrow
  obtain rfl | rfl | rfl | rfl | rfl := hrow
  · exact ⟨_, rfl, onLive_live (fun d => d.collTake p (fun op => op = 0 || decide (op > 4))) s hl⟩
  · exact ⟨_, rfl, onLive_live (fun d => d.collTake p (fun op => op = 1)) s hl⟩
  · exact ⟨_, rfl, onLive_live (fun d => d.collTake p (fun op => op = 2)) s hl⟩
  · exact ⟨_, rfl, onLive_live (fun d => d.collTake p (fun op => op = 3)) s hl⟩
  · exact ⟨_, rfl, onLive_live (fun d => d.collTake p (fun op => op = 4)) s hl⟩

section Taking
variable (d : Device) (p : PartNo) (ops : Nat → Bool)

theorem collTake_idle {w : Got} {e : Device} {x : BitVec 512} {addr : Nat} (hidle : (d.parts[p]).coll = none)
    (hst : ((d.parts[p]).collRing).st = 1) (hready : ((d.parts[p]).collRing).ready = true)
    (htake : (d.ctxs[((d.parts[p]).collRing).ctx]).ringsTake = true) (hjobs : d.noNewJobs ((d.parts[p]).collRing).ctx = false)
    (haddr : addr = ((d.parts[p]).collRing).base + 64 * (((d.parts[p]).collRing).next % 2 ^ ((d.parts[p]).collRing).log2))
    (hread : d.hbmRead p addr 64 true = (w, e)) (hok : w.st = .ok) (hx : x = BitVec.ofNat 512 (leNat w.bytes))
    (hops : ops (cOp x) = true) :
    d.collTake p ops = if e.collBad p x then e.collRefuse p addr x clBadDesc else e.collBegin p addr x := by
  subst haddr hx
  unfold Device.collTake
  rw [hidle]
  dsimp only
  rw [hready, htake, hjobs, hread]
  dsimp only
  rw [hok]
  dsimp only
  rw [hops, if_pos (by rw [hst]; rfl), if_neg (by decide)]

theorem collTake_busy {j : CollJob} (hj : (d.parts[p]).coll = some j) (hloaded : j.loaded = false) (hops : ops (cOp j.d) = true) :
    d.collTake p ops = d.collLoad p j := by
  unfold Device.collTake
  rw [hj]
  dsimp only
  rw [hops, hloaded]
  rfl

/-- A descriptor that breaks Table 14.3 ends before it began. -/
theorem collRefuse_ends (addr : Nat) (x : BitVec 512) :
    ((d.collRefuse p addr x clBadDesc).parts[p]).coll = none ∧
    ((d.collRefuse p addr x clBadDesc).parts[p]).collRing.next = (d.parts[p]).collRing.next + 1 ∧
    ((d.collRefuse p addr x clBadDesc).parts[p]).collPrev = some (cId x) := by
  unfold Device.collRefuse
  rw [modPart_get]
  generalize hj : CollJob.mk addr x false [] [] [] [] [] _ 0 [] = j
  obtain ⟨hcoll, hnext, -, -⟩ := collEnd_ends (d.modPart p (fun q => { q with collRing := { q.collRing with ready := false } })) p j
    (collWord clBadDesc 0 d.chipId.toNat 15) false
  refine ⟨hcoll, hnext.trans ?_, rfl⟩
  rw [modPart_get]

/-- The job of a collective that begins. -/
def collFresh (addr : Nat) (x : BitVec 512) (now : W64) : CollJob :=
  { addr := addr, d := x, loaded := false, vals := [], out := [], lists := [],
    halves := List.replicate (2 * (cPhases x).length) ⟨0, 0, 0⟩,
    streams := (cLevels x).flatMap (fun v => [false, true].map (fun m =>
      ({ level := v, dir := m, staged := [], spread := [], bad := false, credits := 0, ready := false } : CStream))),
    lastMove := now, flags := 0, suspects := [] }

/-- READY with the digest to both neighbours of every level named (R328). -/
def Device.collGreet (d : Device) (p : PartNo) (x : BitVec 512) : Device :=
  (cLevels x).foldl (fun e v => [false, true].foldl (fun e m =>
    e.collCtl p v (!m) (cId x).toNat 0 m 0 0 0 (cDigest x).toNat) e) d

theorem collGreet_keepsColl (x : BitVec 512) : d.KeepsColl (d.collGreet p x) :=
  foldl_keepsColl _ (fun d _ => foldl_keepsColl _ (fun _ _ => collCtl_keepsColl _ _ _ _ _ _ _ _ _ _ _) _ d) _ d

theorem collReplayEarly_nil (h : (d.parts[p]).collEarly = []) : d.collReplayEarly p = d := by
  unfold Device.collReplayEarly
  dsimp only
  rw [h]
  have hself : d.modPart p (fun q => q) = d := by
    unfold Device.modPart
    rw [show d.parts.set p d.parts[p] = d.parts from Vector.set_getElem_self p.isLt]
  refine (modPart_congr d p (g := fun q => q) ?_).trans hself
  rw [h]
  dsimp only [List.filter]
  rw [← h]

theorem collLoad_afterEarly (j : CollJob) (hj : (d.parts[p]).coll = some j) (hearly : (d.parts[p]).collEarly = []) :
    (match ((d.collReplayEarly p).parts[p]).coll with
      | some j => (d.collReplayEarly p).collLoad p j
      | none => d.collReplayEarly p) = d.collLoad p j := by
  rw [collReplayEarly_nil d p hearly, hj]

theorem collBegin_loads (addr : Nat) (x : BitVec 512) (hearly : (d.parts[p]).collEarly = []) :
    d.collBegin p addr x =
      ((d.modPart p (fun q => { q with coll := some (collFresh addr x d.devTime), collRing := { q.collRing with ready := false } })).collGreet
        p x).collLoad p (collFresh addr x d.devTime) := by
  have hkeeps := collGreet_keepsColl
    (d.modPart p (fun q => { q with coll := some (collFresh addr x d.devTime), collRing := { q.collRing with ready := false } })) p x
  refine collLoad_afterEarly _ p _ ?_ ?_
  · exact (hkeeps.coll p).trans (by rw [modPart_get])
  · exact (hkeeps.early p).trans (by rw [modPart_get]; exact hearly)

end Taking

/-! ### The inputs are read -/

section Loading
variable (d : Device) (p : PartNo) (j : CollJob) {w : Got} {bss : List (List Byte)} {e : Device} (hok : w.st = .ok)
include hok

theorem collLoad_sums (hop : cOp j.d ≤ 1) (hlevels : cLevels j.d ≠ [])
    (hread : d.readMany p ((List.range (2 ^ cLlog j.d)).map (fun i => (cSrc j.d + i * cLstride j.d, cInBytes j.d * cCount j.d))) = (w, bss, e))
    (vs : List (W32 × Byte)) (hvs : vs = (List.range (cCount j.d)).map (fun i =>
      localValue (cIsc j.d) (bss.map (fun b => (cDecode j.d b).getD i 0)))) :
    d.collLoad p j = e.modColl p (fun k => { k with loaded := true, vals := vs.map (·.1), flags := k.flags ||| orBytes (vs.map (·.2)) }) := by
  subst hvs
  have hne : (cLevels j.d).isEmpty = false := by simp [List.isEmpty_eq_false_iff, hlevels]
  unfold Device.collLoad
  obtain hop | hop : cOp j.d = 0 ∨ cOp j.d = 1 := by omega
  all_goals
    simp only [hop, hread, hok, hne, modColl_modColl, List.map_map, Function.comp_def, Bool.false_eq_true, if_false]

theorem collLoad_block (hop : cOp j.d = 2) (hread : d.readMany p [(cSrc j.d, cCount j.d)] = (w, bss, e)) :
    d.collLoad p j = (e.modColl p (fun k => { k with loaded := true })).collPut p j.d
      [((d.layoutOf p).rankOf * cCount j.d, cCount j.d)] (bss.getD 0 []) := by
  unfold Device.collLoad
  simp only [hop, hread, hok]

theorem collLoad_root (hop : cOp j.d = 3) (hroot : (d.layoutOf p).rankOf = cRoot j.d)
    (hread : d.readMany p [(cSrc j.d, cCount j.d)] = (w, bss, e)) :
    d.collLoad p j = (e.modColl p (fun k => { k with loaded := true })).collPut p j.d [(0, cCount j.d)] (bss.getD 0 []) := by
  unfold Device.collLoad
  simp only [hop, hroot, hread, hok, if_true]

theorem collLoad_list (hop : cOp j.d = 4) (hread : d.readMany p [(cSrc j.d, 8 * cK j.d)] = (w, bss, e)) :
    d.collLoad p j = e.modColl p (fun k => { k with loaded := true, out := k.out.write 0 (bss.getD 0 []) }) := by
  unfold Device.collLoad
  simp only [hop, hread, hok, modColl_modColl]

end Loading

theorem collLoad_member (d : Device) (p : PartNo) (j : CollJob) (hop : cOp j.d = 3) (hroot : (d.layoutOf p).rankOf ≠ cRoot j.d) :
    d.collLoad p j = d.modColl p (fun k => { k with loaded := true }) := by
  unfold Device.collLoad
  simp only [hop, hroot, if_false, Device.readMany, List.foldl_nil]

end Sys2Proof.Machine

/-! Messages between ring neighbours, chunks, and the ends of a collective (R329 to R339). -/

namespace Sys2Proof.Machine

/-! ### Messages -/

theorem stage_eq (pkt : Packet) (q : CStream) :
    q.stage pkt = if q.level.val = fld pkt.hdr 64 2 ∧ q.dir = bitOf pkt.hdr 66 then
      (if bitOf pkt.hdr 67 then { q with spread := q.spread ++ pkt.payload } else { q with staged := q.staged ++ pkt.payload }) else q := by
  unfold CStream.stage
  simp only [Bool.and_eq_true, decide_eq_true_eq]

section Messages
variable {d e : Device} {src : PktSrc} {p : PartNo} {pkt : Packet} {j : CollJob} (hj : (e.parts[p]).coll = some j)
include hj

theorem collData_staged (h : d.collPacket src false (fun k => k.ty = 5) = some (p, pkt, e))
    (hid : fld pkt.hdr 56 8 = (cId j.d).toNat % 256) :
    d.collData src = e.modColl p (fun j => { j with lastMove := e.devTime, streams := j.streams.map (fun q =>
      if q.level.val = fld pkt.hdr 64 2 ∧ q.dir = bitOf pkt.hdr 66 then
        (if bitOf pkt.hdr 67 then { q with spread := q.spread ++ pkt.payload } else { q with staged := q.staged ++ pkt.payload })
      else q) }) := by
  unfold Device.collData
  rw [h]
  dsimp only
  rw [hj]
  dsimp only
  rw [if_pos hid]
  simp only [stage_eq]

/-- Whether a READY agrees with the collective that runs (R328). -/
def Device.readyAgrees (d : Device) (p : PartNo) (m : CollCtl) (j : CollJob) : Prop :=
  (m.level = 3 ∨ m.src = d.cfg 0x3100 4 ((d.layoutOf p).port m.level m.dir)) ∧ m.id = cId j.d ∧ m.data = cDigest j.d

theorem collReadyMsg_agrees (m : CollCtl) (hfirst : ∀ q ∈ j.streams, q.level = m.level → q.dir = m.dir → q.ready = false)
    (hagree : e.readyAgrees p m j) :
    e.collReadyMsg p m = e.modColl p (fun j => { j with streams := j.streams.map (fun q =>
      if q.level = m.level ∧ q.dir = m.dir then { q with ready := true, credits := q.credits + 2 } else q) }) := by
  obtain ⟨hsrc, hid, hdata⟩ := hagree
  have hwant : ¬ m.src ≠ (if m.level = 3 then m.src else e.cfg 0x3100 4 ((e.layoutOf p).port m.level m.dir)) := by
    split
    · simp
    · next hlevel => exact fun hne => hne (hsrc.resolve_left hlevel)
  unfold Device.collReadyMsg
  rw [hj]
  dsimp only
  rw [if_neg hwant, if_neg (by simp [hid, hdata])]
  refine modColl_congr e p hj ?_
  refine congrArg (fun l => { j with streams := l }) (List.map_congr_left (fun q hq => ?_))
  by_cases hqm : q.level = m.level ∧ q.dir = m.dir
  · simp [hqm, hfirst q hq hqm.1 hqm.2]
  · rw [if_neg hqm, if_neg]
    intro hand
    simp only [Bool.and_eq_true, decide_eq_true_eq] at hand
    exact hqm hand.1

theorem collReadyMsg_differs (m : CollCtl) (hdiffer : ¬ e.readyAgrees p m j) :
    ((e.collReadyMsg p m).parts[p]).coll = none ∧ ((e.collReadyMsg p m).parts[p]).collPrev = some (cId j.d) := by
  have habort := fun status chip port => collAbort_ends e p status chip port j hj
  unfold Device.collReadyMsg
  rw [hj]
  dsimp only
  by_cases hsrc : m.src ≠ (if m.level = 3 then m.src else e.cfg 0x3100 4 ((e.layoutOf p).port m.level m.dir))
  · rw [if_pos hsrc]
    exact ⟨(habort _ _ _).1, (habort _ _ _).2.1⟩
  · rw [if_neg hsrc]
    have hbody : m.id ≠ cId j.d ∨ m.data ≠ cDigest j.d := by
      by_contra hsame
      simp only [not_or, not_not] at hsame hsrc
      refine hdiffer ⟨?_, hsame⟩
      by_cases hlevel : m.level = 3
      · exact .inl hlevel
      · exact .inr (by rw [if_neg hlevel] at hsrc; exact hsrc)
    rw [if_pos hbody]
    exact ⟨(habort _ _ _).1, (habort _ _ _).2.1⟩

theorem collReadyRx_first {m : CollCtl} (hm : m = ctlOf pkt) (h : d.collPacket src true (ctlIs [0]) = some (p, pkt, e))
    (hfirst : ∀ q ∈ j.streams, q.level = m.level → q.dir = m.dir → q.ready = false) : d.collReadyRx src = e.collReadyMsg p m := by
  subst hm
  have hnone : ¬ j.streams.any (fun s => s.level = (ctlOf pkt).level && s.dir = (ctlOf pkt).dir && s.ready) = true := by
    rw [List.any_eq_true]
    rintro ⟨q, hq, hready⟩
    simp only [Bool.and_eq_true, decide_eq_true_eq] at hready
    rw [hfirst q hq hready.1.1 hready.1.2] at hready
    exact absurd hready.2 Bool.false_ne_true
  unfold Device.collReadyRx
  rw [h]
  dsimp only
  rw [hj]
  dsimp only
  rw [if_neg hnone]

theorem collCreditRx_adds {m : CollCtl} (hm : m = ctlOf pkt) (h : d.collPacket src true (ctlIs [1]) = some (p, pkt, e)) (hid : m.id = cId j.d) :
    d.collCreditRx src = e.modColl p (fun j => { j with streams := j.streams.map (fun q =>
      if q.level = m.level ∧ q.dir = m.dir then { q with credits := q.credits + m.data.toNat } else q) }) := by
  subst hm
  unfold Device.collCreditRx
  rw [h]
  refine modColl_congr e p hj ?_
  rw [if_pos hid]
  simp only [Bool.and_eq_true, decide_eq_true_eq]

theorem collAbortRx_adopted {m : CollCtl} (hm : m = ctlOf pkt) (h : d.collPacket src true (ctlIs [2, 3]) = some (p, pkt, e))
    (hkind : m.kind = 2) (hid : m.id = cId j.d) : d.collAbortRx src = e.collAbort p m.status m.origin m.port := by
  subst hm
  unfold Device.collAbortRx Device.collAbortMsg
  rw [h]
  dsimp only
  rw [if_neg (by rw [hkind]; decide), hj, if_pos (by rw [hid]; rfl)]
  dsimp only
  rw [if_pos hid]

theorem collAbortRx_forwarded {m : CollCtl} (hm : m = ctlOf pkt) (h : d.collPacket src true (ctlIs [2, 3]) = some (p, pkt, e))
    (hkind : m.kind = 2) (hid : m.id ≠ cId j.d) (hprev : (e.parts[p]).collPrev = some m.id) (hcut : (e.parts[p]).collCut = false) :
    d.collAbortRx src = (e.modPart p (fun q => { q with collCut := true })).sendAborts p m.id.toNat m.status m.origin m.port := by
  subst hm
  unfold Device.collAbortRx
  rw [h]
  dsimp only
  rw [if_neg (by rw [hkind]; decide), hj, if_neg (by simpa using fun hsame => hid hsame.symm), if_pos hprev, hcut]
  rfl

end Messages

/-! ### Chunks -/

/-- The edits of a chunk that its neighbours see: the credit back, the packets on, the performance counter. -/
def Device.collSends (d : Device) (p : PartNo) (st : Stream) (j : CollJob) (l : Layout) (i : Nat) (c : CChunk) (bs : List Byte) : Device :=
  let d := if c.step.consume then d.collCtl p st.level (!st.dir) (cId j.d).toNat 1 st.dir 0 0 0 1 else d
  let d := if c.step.send then d.collSendChunk p j st.level st.dir c.kind (j.half l i st.dir).pidx bs else d
  if c.kind = .reduce ∧ st.level ≠ 3 then d.count (some p) 0x031 (l.port st.level st.dir) 1 else d

theorem collSends_keepsColl (d : Device) (p : PartNo) (st : Stream) (j : CollJob) (l : Layout) (i : Nat) (c : CChunk) (bs : List Byte) :
    d.KeepsColl (d.collSends p st j l i c bs) := by
  have hcredit : d.KeepsColl (if c.step.consume then d.collCtl p st.level (!st.dir) (cId j.d).toNat 1 st.dir 0 0 0 1 else d) :=
    keepsColl_ite _ (collCtl_keepsColl _ _ _ _ _ _ _ _ _ _ _) (.refl d)
  have hsend : ∀ e : Device, e.KeepsColl
      (if c.step.send then e.collSendChunk p j st.level st.dir c.kind (j.half l i st.dir).pidx bs else e) :=
    fun e => keepsColl_ite _ (collSendChunk_keepsColl _ _ _ _ _ _ _ _) (.refl e)
  exact (hcredit.trans (hsend _)).trans (keepsColl_ite _ (.of_told (count_told _ _ _ _ _)) (.refl _))

/-- A reducer's clean second result changes flags and suspects only. -/
theorem collCleared_coll (d : Device) (p : PartNo) (port : PortNo) (j : CollJob) (hj : (d.parts[p]).coll = some j) :
    ∃ sus fl, ((d.collCleared p port).parts[p]).coll = some { j with suspects := sus, flags := fl } := by
  unfold Device.collCleared
  rw [hj]
  dsimp only
  split
  · have hreport := fun e : Device => Device.KeepsColl.of_told (report_told e 0x0206 (some p) none port (pay4 port 0 0 0))
    have hsuspect : ∀ e : Device, e.KeepsColl (e.suspectReducer port) := by
      intro e
      unfold Device.suspectReducer
      dsimp only
      refine keepsColl_ite _ ?_ (.of_parts rfl)
      exact fun q => (Device.KeepsColl.of_told (report_told _ _ _ _ _ _) q).trans rfl
    refine ⟨j.suspects.filter (· ≠ port), j.flags ||| 4, ?_⟩
    rw [(hsuspect _).coll, (hreport _).coll, modColl_coll, hj]
    rfl
  · exact ⟨j.suspects, j.flags, hj⟩

/-- What a chunk of a reduction leaves in the job, the addition aside. -/
theorem moved_reduce (j : CollJob) (l : Layout) (st : Stream) (i : Nat) (c : CChunk) (data : List Byte × Byte × List W32) (now : W64)
    (hkind : c.kind = .reduce) {q : CStream} (hq : q ∈ j.streams) (hlevel : q.level = st.level) (hdir : q.dir = st.dir) :
    ∃ q' ∈ (j.moved l st i c data now).streams, q'.level = st.level ∧ q'.dir = st.dir ∧
      q'.staged = (if c.step.consume then q.staged.drop c.len else q.staged) ∧
      q'.credits = (if c.step.send then q.credits - 1 else q.credits) := by
  refine ⟨_, List.mem_map_of_mem hq, ?_⟩
  simp only [hlevel, hdir, hkind, decide_true, Bool.and_true, if_true, true_and]

theorem chunkData_reduce (j : CollJob) (c : CChunk) (came : List Byte) (hkind : c.kind = .reduce) {lo n : Nat} {own : List W32}
    (hlo : lo = ((c.step.runs.map (·.1)).getD 0 0) + c.off / 4) (hn : n = c.len / 4) (hown : own = (j.vals.drop lo).take n) :
    (j.chunkData c came).2.2 = j.vals.take lo ++
      (if c.step.consume then ((wordsOfBytes came).zip own).map (fun z => fadd z.1 z.2) else own) ++ j.vals.drop (lo + n) := by
  subst hlo hn hown
  unfold CollJob.chunkData addChunk
  rw [if_pos hkind]
  cases c.step.consume with
  | true => simp only [if_true, List.map_map, Function.comp_def]
  | false => simp only [Bool.false_eq_true, if_false]

/-- The sums of a reduction that go on to a neighbour or to another level are not stored. -/
theorem collStore_passes (d : Device) (p : PartNo) (l : Layout) (i : Nat) (c : CChunk) (data : List Byte × Byte × List W32) {k : CollJob}
    (hk : (d.parts[p]).coll = some k) (hkind : c.kind = .reduce) (hpass : c.step.send = true ∨ i + 1 ≠ (cLevels k.d).length) :
    d.collStore p l i c data = d := by
  unfold Device.collStore
  rw [hk, hkind]
  refine if_neg (fun hlast => ?_)
  obtain ⟨hlevel, hsend⟩ := hlast
  rcases hpass with h | h
  · rw [hsend] at h
    exact absurd h Bool.false_ne_true
  · exact h hlevel

section Chunks
variable (d : Device) (p : PartNo) (st : Stream) {j : CollJob} {i : Nat} {c : CChunk} {q : CStream}
  (hj : (d.parts[p]).coll = some j) (hloaded : j.loaded = true)
  (hfind : j.streams.find? (fun q => q.level = st.level && q.dir = st.dir) = some q) (hpick : j.pick (d.layoutOf p) st q = some (i, c))
include hj hloaded hfind hpick

theorem collChunk_picked : d.collChunk p st =
    if c.step.consume && q.bad then d.resetPartition p .staging
    else
      ((((if st.level = 3 then d else d.collCleared p ((d.layoutOf p).port st.level st.dir)).modColl p (fun k =>
        k.moved (d.layoutOf p) st i c (j.chunkData c ((q.bytes c.kind).take c.len)) d.devTime)).collSends p st j (d.layoutOf p) i c
        (j.chunkData c ((q.bytes c.kind).take c.len)).1)).collStore p (d.layoutOf p) i c (j.chunkData c ((q.bytes c.kind).take c.len)) := by
  unfold Device.collChunk
  rw [hj]
  dsimp only
  rw [hfind]
  dsimp only
  rw [if_pos hloaded, hpick]
  rfl

/-- A chunk of a reduction that goes on: its sums, its stream, and the time of the move. -/
theorem collChunk_reduces (hkind : c.kind = .reduce) (hpass : c.step.send = true ∨ i + 1 ≠ (cLevels j.d).length)
    (hgood : c.step.consume = true → q.bad = false) :
    ∃ k : CollJob, ((d.collChunk p st).parts[p]).coll = some k ∧ k.lastMove = d.devTime ∧
      k.vals = (j.chunkData c (q.staged.take c.len)).2.2 ∧
      ∃ q' ∈ k.streams, q'.level = st.level ∧ q'.dir = st.dir ∧
        q'.staged = (if c.step.consume then q.staged.drop c.len else q.staged) ∧
        q'.credits = (if c.step.send then q.credits - 1 else q.credits) := by
  have hbytes : q.bytes c.kind = q.staged := by rw [hkind]; rfl
  have hbad : ¬ (c.step.consume && q.bad) = true := by
    cases hc : c.step.consume with
    | false => exact Bool.false_ne_true
    | true => rw [hgood hc]; exact Bool.false_ne_true
  obtain ⟨sus, fl, hcleared⟩ : ∃ sus fl, (((if st.level = 3 then d else d.collCleared p ((d.layoutOf p).port st.level st.dir)).parts[p]).coll =
      some { j with suspects := sus, flags := fl }) := by
    split
    · exact ⟨j.suspects, j.flags, hj⟩
    · exact collCleared_coll d p _ j hj
  rw [collChunk_picked d p st hj hloaded hfind hpick, if_neg hbad, hbytes]
  generalize j.chunkData c (q.staged.take c.len) = data
  generalize (if st.level = 3 then d else d.collCleared p ((d.layoutOf p).port st.level st.dir)) = e at hcleared
  have hk : (((e.modColl p (fun k => k.moved (d.layoutOf p) st i c data d.devTime)).collSends p st j (d.layoutOf p) i c data.1).parts[p]).coll =
      some (CollJob.moved { j with suspects := sus, flags := fl } (d.layoutOf p) st i c data d.devTime) := by
    rw [(collSends_keepsColl _ _ _ _ _ _ _ _).coll, modColl_coll, hcleared]
    rfl
  rw [collStore_passes _ p _ i c data hk hkind hpass]
  have hmem : q ∈ j.streams := List.mem_of_find?_eq_some hfind
  have hpred := List.find?_some hfind
  simp only [Bool.and_eq_true, decide_eq_true_eq] at hpred
  exact ⟨_, hk, rfl, rfl, moved_reduce { j with suspects := sus, flags := fl } (d.layoutOf p) st i c data d.devTime hkind hmem hpred.1 hpred.2⟩

end Chunks

/-! ### Ends -/

theorem collPut_single (d : Device) (p : PartNo) (x : BitVec 512) (r : Nat × Nat) (bs : List Byte) (j : CollJob)
    (hj : (d.parts[p]).coll = some j) :
    (((d.collPut p x [r] bs).parts[p]).coll = none ∧ ((d.collPut p x [r] bs).parts[p]).collPrev = some (cId j.d) ∧
      ((d.collPut p x [r] bs).parts[p]).collRing.next = (d.parts[p]).collRing.next + 1) ∨
    (∃ k : CollJob, ((d.collPut p x [r] bs).parts[p]).coll = some k ∧ k.d = j.d ∧
      ((d.collPut p x [r] bs).parts[p]).collRing = (d.parts[p]).collRing) := by
  have hkeeps := hbmWrite_keepsColl (d.modColl p (fun j => { j with out := j.out.write r.1 (bs.take r.2) })) p (cDst x + r.1) (bs.take r.2) false
  have hcoll := (hkeeps.coll p).trans (modColl_coll d p _)
  have hring := (hkeeps.ring p).trans (show _ = (d.parts[p]).collRing by unfold Device.modColl; rw [modPart_get])
  rw [hj] at hcoll
  unfold Device.collPut
  simp only [List.foldl_cons, List.foldl_nil]
  split
  · obtain ⟨hnone, hprev, -, hnext⟩ := collAbort_ends _ p clAddrUnbound d.chipId.toNat 15 _ hcoll
    exact .inl ⟨hnone, hprev, hnext.trans (by rw [hring])⟩
  · exact .inr ⟨_, hcoll, rfl, hring⟩

/-- Every phase is done: the job ends, also one whose merged list finds no room (R329, R339). -/
theorem collDone_ends (d : Device) (p : PartNo) (j : CollJob) (hj : (d.parts[p]).coll = some j) (hloaded : j.loaded = true)
    (hdone : j.allDone (d.layoutOf p) = true) :
    ((d.collDone p).parts[p]).coll = none ∧ ((d.collDone p).parts[p]).collRing.next = (d.parts[p]).collRing.next + 1 ∧
    ((d.collDone p).parts[p]).collPrev = some (cId j.d) := by
  unfold Device.collDone
  rw [hj]
  dsimp only
  rw [hloaded, hdone, if_pos (by rfl)]
  by_cases hop : cOp j.d = 4
  · rw [if_pos hop]
    rcases collPut_single d p j.d (0, 8 * cK j.d) (j.out.read 0 (8 * cK j.d)) j hj with ⟨hnone, hprev, hnext⟩ | ⟨k, hk, hkd, hring⟩
    · rw [hnone]
      exact ⟨hnone, hnext, hprev⟩
    · generalize d.collPut p j.d [(0, 8 * cK j.d)] (j.out.read 0 (8 * cK j.d)) = e at hk hring
      rw [hk, ← hkd, ← hring]
      obtain ⟨hcoll, hnext, hprev, -⟩ := collEnd_ends e p k (collWord 0 k.flags e.chipId.toNat 15) true
      exact ⟨hcoll, hnext, hprev⟩
  · rw [if_neg hop, hj]
    obtain ⟨hcoll, hnext, hprev, -⟩ := collEnd_ends d p j (collWord 0 j.flags d.chipId.toNat 15) true
    exact ⟨hcoll, hnext, hprev⟩

theorem collDone_word (d : Device) (p : PartNo) (j : CollJob) (hj : (d.parts[p]).coll = some j) (hloaded : j.loaded = true)
    (hdone : j.allDone (d.layoutOf p) = true) (hop : cOp j.d ≠ 4) :
    (d.collDone p).hbm = (d.hbmWrite p (j.addr + 56) (leBytes 8 (collWord 0 j.flags d.chipId.toNat 15).toNat) false).2.hbm := by
  unfold Device.collDone
  rw [hj]
  dsimp only
  rw [hloaded, hdone, if_pos (by rfl), if_neg hop, hj]
  obtain ⟨-, -, -, hhbm⟩ := collEnd_ends d p j (collWord 0 j.flags d.chipId.toNat 15) true
  exact hhbm

theorem collStalled_ends (d : Device) (p : PartNo) (j : CollJob) (hj : (d.parts[p]).coll = some j)
    (hstall : 1000 * (d.layoutOf p).stallUs ≤ d.since j.lastMove) :
    ((d.collStalled p).parts[p]).coll = none ∧ ((d.collStalled p).parts[p]).collPrev = some (cId j.d) := by
  unfold Device.collStalled
  rw [hj]
  dsimp only
  rw [if_pos hstall]
  obtain ⟨hnone, hprev, -⟩ := collAbort_ends d p clStall d.chipId.toNat 15 j hj
  exact ⟨hnone, hprev⟩

theorem collNetLost_ends (d : Device) (p : PartNo) (n : NetNo) (j : CollJob) (hj : (d.parts[p]).coll = some j) (hlevel : cLevel j.d 3 = true)
    (hlost : ((d.net[n]).st = 2 ∧ ∃ t : W64, (d.net[n]).unacked = some t ∧ 7 * 256000 ≤ d.since t) ∨
      ((d.net[n]).st ≠ 2 ∧ 100000 ≤ d.since (d.net[n]).downSince)) :
    ((d.collNetLost p n).parts[p]).coll = none ∧ ((d.collNetLost p n).parts[p]).collPrev = some (cId j.d) := by
  unfold Device.collNetLost
  rw [hj]
  dsimp only
  have hgone : (if (d.net[n]).st = 2 then (d.net[n]).unacked.any (fun t => decide (d.since t ≥ 7 * 256000))
      else decide (d.since (d.net[n]).downSince ≥ 100000)) = true := by
    rcases hlost with ⟨hst, t, ht, hlate⟩ | ⟨hst, hlate⟩
    · rw [if_pos hst, ht]
      exact decide_eq_true hlate
    · rw [if_neg hst]
      exact decide_eq_true hlate
  rw [hgone, hlevel, if_pos (by rfl)]
  obtain ⟨hnone, hprev, -⟩ := collAbort_ends d p clNetLost d.chipId.toNat (8 + n.val) j hj
  exact ⟨hnone, hprev⟩

/-- Settles O49: one command for each step of a collective; every end of one is `collEnd_ends` or `collAbort_ends`. -/
theorem collectiveResults : Obligations.CollectiveResults := by
  unfold Obligations.CollectiveResults
  intro s p r l hl
  refine ⟨?_, ?_, ?_, ?_⟩
  · intro row hrow w d x addr hidle hst hready htake hjobs haddr hread hok hx hop
    obtain ⟨ops, hops, hexec⟩ := exec_collRow hl p hrow
    have hkeeps : s.dev.KeepsColl d := by
      have h := hbmRead_keepsColl s.dev p addr 64 true
      rw [hread] at h
      exact h
    rw [hexec, collTake_idle s.dev p ops hidle hst hready htake hjobs haddr hread hok hx (hop.symm ▸ hops)]
    refine ⟨fun hbad => ?_, fun hgood hearly => ?_⟩
    · rw [if_pos hbad]
      obtain ⟨hnone, hnext, hprev⟩ := collRefuse_ends d p addr x
      exact ⟨_, rfl, hnone, hnext.trans (by rw [hkeeps.ring]), hprev⟩
    · rw [if_neg (by rw [hgood]; exact Bool.false_ne_true), collBegin_loads d p addr x ((hkeeps.early p).trans hearly)]
      rfl
  · intro row hrow j w bss d x hj hloaded hop hok bs
    obtain ⟨ops, hops, hexec⟩ := exec_collRow hl p hrow
    rw [hexec, collTake_busy s.dev p ops hj hloaded (hop.symm ▸ hops)]
    refine ⟨fun hsum hlevels hread vs hvs => ?_, fun hrow2 hread => ?_, fun hrow3 hroot hread => ?_, fun hrow3 hroot => ?_, fun hrow4 hread => ?_⟩
    · rw [collLoad_sums s.dev p j hok (hop ▸ hsum) hlevels hread vs hvs]
    · rw [collLoad_block s.dev p j hok (hop.trans hrow2) hread]
    · rw [collLoad_root s.dev p j hok (hop.trans hrow3) hroot hread]
    · rw [collLoad_member s.dev p j (hop.trans hrow3) hroot]
    · rw [collLoad_list s.dev p j hok (hop.trans hrow4) hread]
  · intro src pkt d j hwf hj
    refine ⟨fun hpkt hid => ?_, fun m hm => ⟨?_, fun hpkt hid => ?_, fun hpkt hkind => ⟨fun hid => ?_, fun hid hprev hcut => ?_⟩⟩⟩
    · exact (if_pos hwf).trans ((onLive_live (fun d => d.collData src) s hl).trans (by rw [collData_staged hj hpkt hid]))
    · intro hpkt hfirst agrees
      have hexec : exec (.collReady src) s = .next { s with dev := d.collReadyMsg p m } :=
        (if_pos hwf).trans ((onLive_live (fun d => d.collReadyRx src) s hl).trans (by rw [collReadyRx_first hj hm hpkt hfirst]))
      rw [hexec]
      refine ⟨fun hagree => ?_, fun hdiffer => ⟨_, rfl, collReadyMsg_differs hj m hdiffer⟩⟩
      rw [collReadyMsg_agrees hj m hfirst hagree]
    · exact (if_pos hwf).trans ((onLive_live (fun d => d.collCreditRx src) s hl).trans (by rw [collCreditRx_adds hj hm hpkt hid]))
    · have hexec : exec (.collAbortReceive src) s = .next { s with dev := d.collAbort p m.status m.origin m.port } :=
        (if_pos hwf).trans ((onLive_live (fun d => d.collAbortRx src) s hl).trans (by rw [collAbortRx_adopted hj hm hpkt hkind hid]))
      obtain ⟨hnone, hprev, hcut, -⟩ := collAbort_ends d p m.status m.origin m.port j hj
      exact ⟨_, hexec, hnone, hprev, hcut⟩
    · exact (if_pos hwf).trans ((onLive_live (fun d => d.collAbortRx src) s hl).trans (by
        rw [collAbortRx_forwarded hj hm hpkt hkind hid hprev hcut]))
  · intro j hj
    refine ⟨fun st i c q hloaded hfind hpick => ⟨fun hconsume hbad => ?_, fun hkind hpass hgood lo n own hlo hn hown => ?_⟩,
      fun hloaded hdone => ?_, fun hstall => ?_, fun n hlevel hlost => ?_⟩
    · refine (onLive_live (fun d => d.collChunk p st) s hl).trans ?_
      rw [collChunk_picked s.dev p st hj hloaded hfind hpick, if_pos (by rw [hconsume, hbad]; rfl)]
    · obtain ⟨k, hk, hmove, hvals, hstream⟩ := collChunk_reduces s.dev p st hj hloaded hfind hpick hkind hpass hgood
      have hsum := chunkData_reduce j c (q.staged.take c.len) hkind hlo hn hown
      refine ⟨_, k, onLive_live (fun d => d.collChunk p st) s hl, hk, hmove, ?_, hstream⟩
      exact hvals.trans hsum
    · obtain ⟨hnone, hnext, hprev⟩ := collDone_ends s.dev p j hj hloaded hdone
      exact ⟨_, onLive_live (fun d => d.collDone p) s hl, hnone, hnext, hprev, collDone_word s.dev p j hj hloaded hdone⟩
    · obtain ⟨hnone, hprev⟩ := collStalled_ends s.dev p j hj hstall
      exact ⟨_, onLive_live (fun d => d.collStalled p) s hl, hnone, hprev⟩
    · obtain ⟨hnone, hprev⟩ := collNetLost_ends s.dev p n j hj hlevel hlost
      exact ⟨_, onLive_live (fun d => d.collNetLost p n) s hl, hnone, hprev⟩

end Sys2Proof.Machine

/-! Dictionary requests (R430 to R435), shown on rel.audit.n and rel.patch.retired. -/

namespace Sys2Proof.Machine

/-! ### Requests and their objects -/

/-- A request of an open session leaves what it is answered from, and the answer in the session. -/
theorem request_session (d : Device) (ses : SessId) (opc tag : Byte) (f : Device → Answer) (hserves : d.serves ses = true)
    (hopen : (d.session ses).open_ = true) (a : Answer) (ha : f (d.heard ses) = a) (hl : a.dev.live = true) :
    a.dev.Replied (d.request ses opc tag f) ∧ (d.request ses opc tag f).session ses =
      { a.dev.session ses with resp := { opc := opc, tag := tag, status := a.st.code, ty := a.ty, value := a.value } } := by
  rw [request_open d ses opc tag f hserves hopen, ha]
  exact ⟨respond_replied _ _ _ _ _ _ _, respond_session _ _ _ _ _ _ _ hl⟩

/-- A command that is a request is performed, and its answer stands in the session. -/
theorem request_runs {c : Instr} {s : State} {ses : SessId} {opc tag : Byte} {f : Device → Answer}
    (hrun : exec c s = onLive (fun d => d.request ses opc tag f) s) (hlive : s.dev.live = true) (hserves : s.dev.serves ses = true)
    (hopen : (s.dev.session ses).open_ = true) {a : Answer} (ha : f (s.dev.heard ses) = a) (hl : a.dev.live = true) :
    ∃ u, exec c s = .next u ∧ u.pending = s.pending ∧ u.dev.answered ses = a.st.code ∧ a.dev.Replied u.dev ∧ u.dev.session ses =
      { a.dev.session ses with resp := { opc := opc, tag := tag, status := a.st.code, ty := a.ty, value := a.value } } := by
  obtain ⟨hreplied, hsession⟩ := request_session s.dev ses opc tag f hserves hopen a ha hl
  refine ⟨{ s with dev := s.dev.request ses opc tag f }, by rw [hrun, onLive_live _ _ hlive], rfl, ?_, hreplied, hsession⟩
  unfold Device.answered
  dsimp only
  rw [hsession]

/-- One whose answer is OK, and leaves what the answer does. -/
theorem answersOk_of_request {c : Instr} {s : State} {ses : SessId} {opc tag : Byte} {f : Device → Answer} {post : Device → Prop}
    (hrun : exec c s = onLive (fun d => d.request ses opc tag f) s) (hlive : s.dev.live = true) (hserves : s.dev.serves ses = true)
    (hopen : (s.dev.session ses).open_ = true) {ty : Byte} {value : List Byte} {e : Device} (ha : f (s.dev.heard ses) = ⟨.ok, ty, value, e⟩)
    (hl : e.live = true) (hpost : ∀ u, e.Replied u → u.session ses =
      { e.session ses with resp := { opc := opc, tag := tag, status := 0, ty := ty, value := value } } → post u) :
    answersOk c ses s post := by
  obtain ⟨u, hu, hpending, hok, hreplied, hsession⟩ := request_runs hrun hlive hserves hopen ha hl
  exact ⟨u, hu, hpending, hok, hpost u.dev hreplied hsession⟩

namespace Device.Replied
variable {d e : Device} (h : d.Replied e)
include h

theorem cfg : e.cfg = d.cfg := by rw [h.rest]; rfl
theorem clampLog : e.clampLog = d.clampLog := by rw [h.rest]
theorem retiredTiles : e.retiredTiles = d.retiredTiles := by rw [h.rest]

end Device.Replied

/-- The object an agent finds nothing against is looked at. -/
theorem checked_agent {d e : Device} {ses : SessId} {index sub : Nat} {write : Bool} {o : Obj} {item : Nat}
    (h : d.agent ses index sub write = true) (ho : objOf index sub = some (o, item)) (hsame : d.SameRights ses e) (read : Bool)
    (f : Obj → Nat → Answer) (hread : o.acc ≠ .wo) (hwrite : o.acc ≠ .ro ∧ o.acc ≠ .konst) :
    e.checked ses index sub read write f = f o item := by
  obtain ⟨-, -, -, o', item', ho', hopenness, hreach⟩ := agent_parts h
  rw [ho, Option.some.injEq, Prod.mk.injEq] at ho'
  obtain ⟨rfl, rfl⟩ := ho'
  exact checked_passes read write f ho ((hsame.openness _).trans hopenness) (fun _ => hread) (fun _ => hwrite)
    ((hsame.reaches _ _ _).trans hreach)

/-- rel.audit.n (Table 16.3). -/
def auditRow : Obj :=
  { at_ := (0x5300, 0x01), name := "rel.audit.n", ty := .u32, acc := .rw, scope := .owner, dflt := 4096, rng := .zeroOr 16 1048576,
    oor := .clamp }

/-- rel.patch.retired. -/
def retiredRow : Obj :=
  { at_ := (0x5400, 0x0A), name := "rel.patch.retired", ty := .domain, acc := .rw, scope := .owner, dflt := 0, rng := .any,
    oor := .refuse St.patchBusy }

theorem objOf_audit : objOf 0x5300 1 = some (auditRow, 0) := by decide +kernel

theorem objOf_retired : objOf 0x5400 0x0A = some (retiredRow, 0) := by decide +kernel

theorem expireAt_staged_nil (x : Session) (now : W64) (index : Nat) (h : x.staged = []) : (x.expireAt now index).staged = [] := by
  unfold Session.expireAt
  dsimp only
  split
  · split
    · exact (congrArg (List.filter _) h).trans rfl
    · exact h
  · exact h

theorem expireAt_blob_nil (x : Session) (now : W64) (index : Nat) (h : x.stagedBlob = []) : (x.expireAt now index).stagedBlob = [] := by
  unfold Session.expireAt
  dsimp only
  split
  · split
    · exact (congrArg (List.filter _) h).trans rfl
    · exact h
  · exact h

theorem looked_session (d : Device) (ses : SessId) (index : Nat) :
    (d.looked ses index).session ses = ({ d.session ses with lastMsg := d.devTime } : Session).expireAt d.devTime index := by
  unfold Device.looked Device.heard
  rw [session_modSession, session_modSession]
  rfl

theorem looked_staged_nil {d : Device} {ses : SessId} (index : Nat) (h : (d.session ses).staged = []) :
    ((d.looked ses index).session ses).staged = [] := by
  rw [looked_session]
  exact expireAt_staged_nil _ _ _ h

theorem looked_blob_nil {d : Device} {ses : SessId} (index : Nat) (h : (d.session ses).stagedBlob = []) :
    ((d.looked ses index).session ses).stagedBlob = [] := by
  rw [looked_session]
  exact expireAt_blob_nil _ _ _ h

/-! ### Reads -/

theorem readReq_audit {d e : Device} {ses : SessId} (h : d.agent ses 0x5300 1 false = true) (hsame : d.SameRights ses e)
    (hstaged : (e.session ses).staged = []) : e.readReq ses 0x5300 1 = ⟨.ok, 4, leBytes 4 (e.cfg 0x5300 1 0), e⟩ := by
  unfold Device.readReq
  rw [checked_agent h objOf_audit hsame true _ (by decide) (by decide), if_neg (by decide)]
  have hfield : e.field ses 0x5300 0x5300 0 1 = e.cfg 0x5300 1 0 := by
    unfold Device.field
    rw [hstaged]
    rfl
  have hval : e.readVal ses 0x5300 auditRow 0 = leBytes 4 (e.field ses 0x5300 0x5300 0 1) := rfl
  rw [hval, hfield]
  rfl

theorem readSegReq_retired {d e : Device} {ses : SessId} (h : d.agent ses 0x5400 0x0A false = true) (hsame : d.SameRights ses e)
    (hblob : (e.session ses).stagedBlob = []) (off : Nat) :
    e.readSegReq ses 0x5400 0x0A off = ⟨.ok, Ty.code .domain, ((e.retiredTiles.flatMap (leBytes 2)).drop off).take 4080, e⟩ := by
  unfold Device.readSegReq
  rw [checked_agent h objOf_retired hsame true _ (by decide) (by decide), if_neg (by decide)]
  have hbytes : e.readBlob ses 0x5400 retiredRow 0 = e.retiredTiles.flatMap (leBytes 2) := by
    unfold Device.readBlob
    rw [hblob]
    rfl
  rw [hbytes]
  rfl

theorem describeReq_audit {d e : Device} {ses : SessId} (h : d.agent ses 0x5300 1 false = true) (hsame : d.SameRights ses e) :
    e.describeReq ses 0x5300 1 = ⟨.ok, 4, [0x04, 0x01, 0x00] ++ leBytes 2 4 ++ leBytes 4 4096 ++ leBytes 4 0 ++ leBytes 4 1048576 ++
      asciiBytes "rel.audit.n", e⟩ := by
  have hdefault : e.printedDefault auditRow 0 = some 4096 := by
    have hprinted : objDefault 0x5300 1 0 = 4096 := by decide +kernel
    unfold Device.printedDefault
    rw [if_neg (by decide), if_neg (by decide)]
    exact congrArg some hprinted
  unfold Device.describeReq
  rw [checked_agent h objOf_audit hsame false _ (by decide) (by decide)]
  dsimp only
  rw [hdefault]
  rfl

/-! ### Writes -/

theorem writeObj_audit (d : Device) (ses : SessId) (bytes : List Byte) (hlen : bytes.length = 4) :
    d.writeObj ses 0x5300 bytes auditRow 0 =
      ⟨(d.setParam ses 0x5300 auditRow 0 (leNat bytes)).1, 4,
        if (d.setParam ses 0x5300 auditRow 0 (leNat bytes)).1 = .ok || (d.setParam ses 0x5300 auditRow 0 (leNat bytes)).1 = .acceptedClamped then
          leBytes 4 (d.setParam ses 0x5300 auditRow 0 (leNat bytes)).2.1 else [], (d.setParam ses 0x5300 auditRow 0 (leNat bytes)).2.2⟩ := by
  have hrecord : isRecord 0x5300 = false := by decide +kernel
  have hstaged : staged auditRow = false := by
    unfold staged
    rw [show isRecord auditRow.at_.1 = false from hrecord]
    rfl
  have hvalid : auditRow.ty.valid (leNat bytes) = true := rfl
  unfold Device.writeObj
  dsimp only
  rw [if_neg (by rw [hlen]; decide), hvalid, if_neg (by decide), if_neg (by decide), if_neg (by decide), hstaged,
    if_neg Bool.false_ne_true, if_pos (by rfl), hlen]
  rfl

theorem setParam_audit_kept (d : Device) (ses : SessId) (v : Nat) (h : v = 0 ∨ (16 ≤ v ∧ v ≤ 1048576)) :
    d.setParam ses 0x5300 auditRow 0 v = (.ok, v, d.setCfg 0x5300 1 0 v) := by
  have hclamp : auditRow.rng.clamp v = v := by
    change (if v < 16 then 0 else min v 1048576) = v
    split <;> omega
  unfold Device.setParam
  dsimp only
  rw [hclamp, if_neg (show ¬ auditRow.at_ = (0x3400, 5) by decide), if_pos rfl]
  rfl

theorem setParam_audit_clamped (d : Device) (ses : SessId) (v top : Nat) (htop : top = 1048576) (h : top < v) :
    d.setParam ses 0x5300 auditRow 0 v = (.acceptedClamped, top, (d.setCfg 0x5300 1 0 top).logClamp ses 0x5300 1 v top) := by
  have hclamp : auditRow.rng.clamp v = top := by
    change (if v < 16 then 0 else min v 1048576) = top
    split <;> omega
  unfold Device.setParam
  dsimp only
  rw [hclamp, if_neg (show ¬ auditRow.at_ = (0x3400, 5) by decide), if_neg (by omega)]
  rfl

/-- A clamped write is in the clamp log, which no value and no reset shows. -/
theorem logClamp_logs (d : Device) (ses : SessId) (index sub written stored : Nat) :
    ∃ w, d.logClamp ses index sub written stored = w ∧ w.live = d.live ∧ w.cfg = d.cfg ∧
      ∃ e ∈ w.clampLog, e.written = BitVec.ofNat 64 written ∧ e.stored = BitVec.ofNat 64 stored := by
  refine ⟨_, rfl, ?_⟩
  unfold Device.logClamp
  dsimp only
  by_cases hroom : d.clampLog.length < (if d.clampLost = 0 then 256 else 255)
  · rw [if_pos hroom]
    refine ⟨rfl, rfl, _, List.mem_append_right _ List.mem_cons_self, ?_⟩
    exact ⟨rfl, rfl⟩
  · rw [if_neg hroom]
    refine ⟨rfl, rfl, _, List.mem_append_right _ List.mem_cons_self, ?_⟩
    exact ⟨rfl, rfl⟩

theorem cfg_setCfg (d : Device) (base sub item v : Nat) : (d.setCfg base sub item v).cfg base sub item = v := by
  unfold Device.setCfg Device.cfg
  rw [alGet_alSet_self]
  rfl

/-- The first segment of a DOMAIN is kept until the last one has come (R435). -/
theorem writeSegObj_first (d : Device) (ses : SessId) (bs : List Byte) :
    d.writeSegObj ses 0x5400 0 bs false retiredRow 0 =
      ⟨.ok, Ty.code .domain, [], d.modSession ses (fun x => { x with segs := alSet x.segs (0x5400, 0x0A) (bs, d.devTime) })⟩ := rfl

/-- The answer to a WRITE, on the part as the request finds it. -/
def Device.writeAnswer (d : Device) (ses : SessId) (index sub : Nat) (bytes : List Byte) : Answer :=
  if bytes.length > 4080 then ⟨.valueInvalid, 0, [], d⟩
  else
    let e := d.modSession ses (fun x => x.expireAt d.devTime index)
    e.checked ses index sub false true (fun o item => e.writeObj ses index bytes o item)

theorem exec_write_audit (ses : SessId) (tag : Byte) (bytes : List Byte) (s : State) : exec (.write ses tag 0x5300 1 bytes) s =
    onLive (fun d => d.request ses 0x02 tag (fun d => d.writeAnswer ses 0x5300 1 bytes)) s := rfl

theorem writeAnswer_audit {d : Device} {ses : SessId} (h : d.agent ses 0x5300 1 true = true) (bytes : List Byte) (hlen : bytes.length = 4) :
    (d.heard ses).writeAnswer ses 0x5300 1 bytes = (d.looked ses 0x5300).writeObj ses 0x5300 bytes auditRow 0 := by
  unfold Device.writeAnswer
  rw [if_neg (by omega)]
  exact checked_agent h objOf_audit (looked_sameRights d ses 0x5300) false _ (by decide) (by decide)

/-- The answer to a WRITE_SEG. -/
def Device.writeSegAnswer (d : Device) (ses : SessId) (index sub off : Nat) (bytes : List Byte) (last : Bool) : Answer :=
  if bytes.length > 4080 then ⟨.valueInvalid, 0, [], d⟩
  else
    let e := d.modSession ses (fun x => x.expireAt d.devTime index)
    e.checked ses index sub false true (fun o item => e.writeSegObj ses index off bytes last o item)

theorem exec_writeSeg_retired (ses : SessId) (tag : Byte) (bytes : List Byte) (s : State) :
    exec (.writeSeg ses tag 0x5400 0x0A 0 bytes false) s =
      onLive (fun d => d.request ses 0x04 tag (fun d => d.writeSegAnswer ses 0x5400 0x0A 0 bytes false)) s := rfl

theorem writeSegAnswer_retired {d : Device} {ses : SessId} (h : d.agent ses 0x5400 0x0A true = true) (bs : List Byte) (hshort : bs.length ≤ 4080) :
    (d.heard ses).writeSegAnswer ses 0x5400 0x0A 0 bs false = ⟨.ok, Ty.code .domain, [],
      (d.looked ses 0x5400).modSession ses (fun x => { x with segs := alSet x.segs (0x5400, 0x0A) (bs, (d.looked ses 0x5400).devTime) })⟩ := by
  unfold Device.writeSegAnswer
  rw [if_neg (by omega)]
  exact (checked_agent h objOf_retired (looked_sameRights d ses 0x5400) false _ (by decide) (by decide)).trans (writeSegObj_first _ ses bs)

/-! ### Staging discarded -/

theorem unstage_drops (x : Session) (index : Nat) :
    (∀ e ∈ (x.unstage index).staged, e.1.1 ≠ index) ∧ (∀ e ∈ (x.unstage index).stagedBlob, e.1.1 ≠ index) := by
  unfold Session.unstage
  constructor
  · exact fun e he => of_decide_eq_true (List.mem_filter.mp he).2
  · exact fun e he => of_decide_eq_true (List.mem_filter.mp he).2

theorem expireAt_old (x : Session) (now t : W64) (index : Nat) (ht : alGet x.stagedAt index = some t) (hold : stageLife ≤ (now - t).toNat) :
    index ∈ (x.expireAt now index).expired ∧ ∀ e ∈ (x.expireAt now index).staged, e.1.1 ≠ index := by
  unfold Session.expireAt
  dsimp only
  rw [ht]
  dsimp only
  rw [if_pos hold]
  exact ⟨List.mem_cons_self, (unstage_drops _ index).1⟩

theorem endSession_session (d : Device) (ses : SessId) :
    ((d.endSession ses).session ses).open_ = false ∧ ((d.endSession ses).session ses).staged = [] := by
  have hs : (d.endSession ses).session ses = { Session.fresh false 0 with open_ := false, resp := (d.session ses).resp } := by
    rw [← session_modSession d ses (fun x => { Session.fresh false 0 with open_ := false, resp := x.resp })]
    unfold Device.endSession Device.session
    dsimp only
    split
    · rfl
    · rfl
  rw [hs]
  exact ⟨rfl, rfl⟩

/-! ### The requests as commands -/

section Requests
variable {s : State} {ses : SessId} (tag : Byte)

theorem read_audit (h : s.dev.agent ses 0x5300 1 false = true) (hstaged : (s.dev.session ses).staged = []) :
    answersOk (.read ses tag 0x5300 1) ses s (fun d =>
      (d.session ses).resp = { opc := 1, tag := tag, status := 0, ty := 4, value := leBytes 4 (s.dev.cfg 0x5300 1 0) }) := by
  obtain ⟨hlive, hserves, hopen, -⟩ := agent_parts h
  refine answersOk_of_request rfl hlive hserves hopen
    (readReq_audit h (looked_sameRights s.dev ses 0x5300) (looked_staged_nil 0x5300 hstaged)) hlive
    (fun u _ hsession => ?_)
  rw [hsession]
  rfl

theorem describe_audit (h : s.dev.agent ses 0x5300 1 false = true) :
    answersOk (.describe ses tag 0x5300 1) ses s (fun d => (d.session ses).resp.value =
      [0x04, 0x01, 0x00] ++ leBytes 2 4 ++ leBytes 4 4096 ++ leBytes 4 0 ++ leBytes 4 1048576 ++ asciiBytes "rel.audit.n") := by
  obtain ⟨hlive, hserves, hopen, -⟩ := agent_parts h
  refine answersOk_of_request (f := fun d => d.describeReq ses 0x5300 1) rfl hlive hserves hopen
    (describeReq_audit h (heard_sameAgent s.dev ses).toSameRights) hlive (fun u _ hsession => ?_)
  rw [hsession]

theorem readSeg_retired (h : s.dev.agent ses 0x5400 0x0A false = true) (hblob : (s.dev.session ses).stagedBlob = []) (off : W32) :
    answersOk (.readSeg ses tag 0x5400 0x0A off) ses s (fun d =>
      (d.session ses).resp.value = ((s.dev.retiredTiles.flatMap (leBytes 2)).drop off.toNat).take 4080) := by
  obtain ⟨hlive, hserves, hopen, -⟩ := agent_parts h
  refine answersOk_of_request rfl hlive hserves hopen
    (readSegReq_retired h (looked_sameRights s.dev ses 0x5400) (looked_blob_nil 0x5400 hblob) off.toNat) hlive
    (fun u _ hsession => ?_)
  rw [hsession]
  rfl

/-- A write of rel.audit.n runs on the object. -/
theorem write_audit (h : s.dev.agent ses 0x5300 1 true = true) (v : W32) {a : Answer}
    (ha : (s.dev.looked ses 0x5300).writeObj ses 0x5300 (leBytes 4 v.toNat) auditRow 0 = a) (hl : a.dev.live = true) :
    ∃ u, exec (.write ses tag 0x5300 1 (leBytes 4 v.toNat)) s = .next u ∧ u.pending = s.pending ∧ u.dev.answered ses = a.st.code ∧
      a.dev.Replied u.dev ∧ (u.dev.session ses).resp.value = a.value := by
  obtain ⟨hlive, hserves, hopen, -⟩ := agent_parts h
  obtain ⟨u, hu, hpending, hok, hreplied, hsession⟩ := request_runs (exec_write_audit ses tag (leBytes 4 v.toNat) s) hlive hserves hopen
    ((writeAnswer_audit h _ (length_leBytes 4 v.toNat)).trans ha) hl
  exact ⟨u, hu, hpending, hok, hreplied, by rw [hsession]⟩

/-- What a request changes before and with its answer leaves the part live. -/
theorem looked_live (d : Device) (ses : SessId) (index : Nat) : (d.looked ses index).live = d.live := rfl

theorem write_audit_kept (h : s.dev.agent ses 0x5300 1 true = true) (v : W32) (hrange : v.toNat = 0 ∨ (16 ≤ v.toNat ∧ v.toNat ≤ 1048576)) :
    answersOk (.write ses tag 0x5300 1 (leBytes 4 v.toNat)) ses s (fun d =>
      d.cfg 0x5300 1 0 = v.toNat ∧ (d.session ses).resp.value = leBytes 4 v.toNat ∧ d.clampLog = s.dev.clampLog) := by
  have hwrite := writeObj_audit (s.dev.looked ses 0x5300) ses (leBytes 4 v.toNat) (length_leBytes 4 v.toNat)
  rw [leNat_ofWord v 4 (by decide), setParam_audit_kept _ ses v.toNat hrange] at hwrite
  have hlive : ((s.dev.looked ses 0x5300).setCfg 0x5300 1 0 v.toNat).live = true := (looked_live s.dev ses 0x5300).trans (agent_live h)
  obtain ⟨u, hu, hpending, hok, hreplied, hvalue⟩ := write_audit tag h v hwrite hlive
  exact ⟨u, hu, hpending, hok, by rw [hreplied.cfg]; exact cfg_setCfg _ _ _ _ _, hvalue, by rw [hreplied.clampLog]; rfl⟩

/-- A value above the range is stored as the greatest of it, which is `top`. -/
theorem write_audit_above (h : s.dev.agent ses 0x5300 1 true = true) (v : W32) (top : Nat) (htop : top = 1048576) (hbig : top < v.toNat) :
    ∃ u, exec (.write ses tag 0x5300 1 (leBytes 4 v.toNat)) s = .next u ∧ u.dev.answered ses = 1 ∧
      u.dev.cfg 0x5300 1 0 = top ∧ (u.dev.session ses).resp.value = leBytes 4 top ∧
      ∃ e ∈ u.dev.clampLog, e.written = v.setWidth 64 ∧ e.stored = BitVec.ofNat 64 top := by
  have hwrite := writeObj_audit (s.dev.looked ses 0x5300) ses (leBytes 4 v.toNat) (length_leBytes 4 v.toNat)
  rw [leNat_ofWord v 4 (by decide), setParam_audit_clamped _ ses v.toNat top htop hbig] at hwrite
  obtain ⟨w, hlog, hwlive, hcfg, e, he, hwritten, hstored⟩ :=
    logClamp_logs ((s.dev.looked ses 0x5300).setCfg 0x5300 1 0 top) ses 0x5300 1 v.toNat top
  rw [hlog] at hwrite
  obtain ⟨u, hu, -, hok, hreplied, hvalue⟩ := write_audit tag h v hwrite (hwlive.trans ((looked_live s.dev ses 0x5300).trans (agent_live h)))
  refine ⟨u, hu, hok, ?_, hvalue, e, ?_, ?_, hstored⟩
  · rw [hreplied.cfg, hcfg]
    exact cfg_setCfg (s.dev.looked ses 0x5300) 0x5300 1 0 top
  · rw [hreplied.clampLog]
    exact he
  · rw [hwritten]
    exact BitVec.eq_of_toNat_eq (by simp)

theorem write_audit_clamped (h : s.dev.agent ses 0x5300 1 true = true) (v : W32) (hbig : 1048576 < v.toNat) :
    ∃ u, exec (.write ses tag 0x5300 1 (leBytes 4 v.toNat)) s = .next u ∧ u.dev.answered ses = 1 ∧
      u.dev.cfg 0x5300 1 0 = 1048576 ∧ (u.dev.session ses).resp.value = leBytes 4 1048576 ∧
      ∃ e ∈ u.dev.clampLog, e.written = v.setWidth 64 ∧ e.stored = 1048576 := write_audit_above tag h v 1048576 rfl hbig

theorem looked_modSession_kept (d : Device) (ses : SessId) (index : Nat) (f : Session → Session) :
    ((d.looked ses index).modSession ses f).live = d.live ∧ ((d.looked ses index).modSession ses f).retiredTiles = d.retiredTiles := ⟨rfl, rfl⟩

theorem writeSeg_retired (h : s.dev.agent ses 0x5400 0x0A true = true) (bs : List Byte) (hshort : bs.length ≤ 4080) :
    answersOk (.writeSeg ses tag 0x5400 0x0A 0 bs false) ses s (fun d =>
      alGet (d.session ses).segs (0x5400, 0x0A) = some (bs, s.dev.devTime) ∧ d.retiredTiles = s.dev.retiredTiles) := by
  obtain ⟨hlive, hserves, hopen, -⟩ := agent_parts h
  have hkept := looked_modSession_kept s.dev ses 0x5400
    (fun x => { x with segs := alSet x.segs (0x5400, 0x0A) (bs, (s.dev.looked ses 0x5400).devTime) })
  have hsegs := session_modSession (s.dev.looked ses 0x5400) ses
    (fun x => { x with segs := alSet x.segs (0x5400, 0x0A) (bs, (s.dev.looked ses 0x5400).devTime) })
  have hanswer := writeSegAnswer_retired h bs hshort
  generalize (s.dev.looked ses 0x5400).modSession ses
    (fun x => { x with segs := alSet x.segs (0x5400, 0x0A) (bs, (s.dev.looked ses 0x5400).devTime) }) = e at hkept hsegs hanswer
  refine answersOk_of_request (exec_writeSeg_retired ses tag bs s) hlive hserves hopen hanswer (hkept.1.trans hlive)
    (fun u hreplied hsession => ⟨?_, hreplied.retiredTiles.trans hkept.2⟩)
  rw [hsession]
  dsimp only
  rw [hsegs]
  exact alGet_alSet_self _ _ _

theorem abandon_drops (h : s.dev.asks ses = true) (i : W16) :
    answersOk (.abandon ses tag i) ses s (fun d =>
      (∀ e ∈ (d.session ses).staged, e.1.1 ≠ i.toNat) ∧ (∀ e ∈ (d.session ses).stagedBlob, e.1.1 ≠ i.toNat)) := by
  unfold Device.asks at h
  simp only [Bool.and_eq_true] at h
  obtain ⟨⟨⟨hlive, hserves⟩, hopen⟩, hup⟩ := h
  have hanswer : (s.dev.heard ses).abandonReq ses i.toNat = ⟨.ok, 0, [], (s.dev.heard ses).modSession ses (fun x =>
      { (x.expireAt s.dev.devTime i.toNat).unstage i.toNat with
        segs := ((x.expireAt s.dev.devTime i.toNat).unstage i.toNat).segs.filter (fun e => e.1.1 ≠ i.toNat) })⟩ := by
    unfold Device.abandonReq
    exact congrArg (fun st => (⟨st, 0, [], _⟩ : Answer)) (if_pos hup)
  refine answersOk_of_request (f := fun d => d.abandonReq ses i.toNat) rfl hlive hserves hopen hanswer hlive (fun u _ hsession => ?_)
  rw [hsession, session_modSession]
  exact unstage_drops _ i.toNat

end Requests

/-- Settles O59: each request passes the agent's checks, is performed on the part as it stands, and its answer is kept in the session. -/
theorem dictionaryRequests : Obligations.DictionaryRequests := by
  unfold Obligations.DictionaryRequests
  intro s ses tag x
  refine ⟨read_audit tag, fun h v => ⟨fun hrange => ?_, write_audit_clamped tag h v⟩, describe_audit tag, readSeg_retired tag,
    writeSeg_retired tag, fun i h => abandon_drops tag h i, ?_, fun f hlive => ?_, fun hlive hmgmt hopen hsilent => ?_⟩
  · exact write_audit_kept tag h v (hrange.imp_left (fun hv => by rw [hv]; rfl))
  · intro i t hlive hopen ht hold
    refine ⟨{ s with dev := s.dev.modSession ses (fun x => x.expireAt s.dev.devTime i.toNat) },
      (onLive_live _ _ hlive).trans (congrArg (fun d => Host.Outcome.next { s with dev := d }) (if_pos hopen)), ?_⟩
    dsimp only
    rw [session_modSession]
    exact expireAt_old x s.dev.devTime t i.toNat ht hold
  · exact ⟨_, onLive_live (fun d => d.endSession (fnSes f)) s hlive, endSession_session s.dev (fnSes f)⟩
  · refine ⟨_, onLive_live (fun d => d.sessionTimeout ses) s hlive, ?_⟩
    have hdue : s.dev.sessionTimeout ses = s.dev.endSession ses := by
      unfold Device.sessionTimeout
      dsimp only
      rw [if_pos]
      rw [hmgmt, hopen]
      exact decide_eq_true hsilent
    rw [hdue]
    exact endSession_session s.dev ses

end Sys2Proof.Machine

/-! The I3C target, firmware update and attestation (R428, R441 to R445). -/

namespace Sys2Proof.Machine

/-! ### I3C -/

/-- A session that ends is closed, and opens no other. -/
theorem endSession_closes (d : Device) (a b : SessId) (h : a = b ∨ (d.session b).open_ = false) :
    ((d.endSession a).session b).open_ = false := by
  by_cases hab : a = b
  · subst hab
    exact (endSession_session d a).1
  · have hsession : (d.endSession a).session b = d.session b := by
      rw [← session_modSession_ne d (fun x => { Session.fresh false 0 with open_ := false, resp := x.resp }) (Ne.symm hab)]
      unfold Device.endSession Device.session
      dsimp only
      split
      · rfl
      · rfl
    rw [hsession]
    exact h.resolve_left hab

theorem foldl_endSession_closes (b : SessId) (l : List SessId) (d : Device) (h : b ∈ l ∨ (d.session b).open_ = false) :
    ((l.foldl (fun d x => d.endSession x) d).session b).open_ = false := by
  induction l generalizing d with
  | nil => exact h.resolve_left (List.not_mem_nil)
  | cons a l ih =>
    refine ih (d.endSession a) ?_
    rcases h with hmem | hclosed
    · rcases List.mem_cons.mp hmem with rfl | hl
      · exact .inr (endSession_closes d b b (.inl rfl))
      · exact .inl hl
    · exact .inr (endSession_closes d a b (.inr hclosed))

/-- A session that was never opened is closed. -/
theorem i3cSession_listed (d : Device) (e : Byte) : SessId.i3c e ∈ d.i3cSessions ∨ (d.session (.i3c e)).open_ = false := by
  cases hget : alGet d.sessions (.i3c e) with
  | none =>
    refine .inr ?_
    unfold Device.session
    rw [hget]
    rfl
  | some x =>
    refine .inl (List.mem_filter.mpr ⟨?_, rfl⟩)
    unfold alGet at hget
    obtain ⟨q, hq, -⟩ := Option.map_eq_some_iff.mp hget
    have hkey := List.find?_some hq
    exact List.mem_map.mpr ⟨q, List.mem_of_find?_eq_some hq, of_decide_eq_true hkey⟩

/-! ### Firmware update -/

theorem asks_parts {d : Device} {ses : SessId} (h : d.asks ses = true) :
    d.live = true ∧ d.serves ses = true ∧ (d.session ses).open_ = true ∧ d.up 7 = true := by
  unfold Device.asks at h
  simp only [Bool.and_eq_true] at h
  obtain ⟨⟨⟨hlive, hserves⟩, hopen⟩, hup⟩ := h
  exact ⟨hlive, hserves, hopen, hup⟩

/-- A PLDM command of a session that may send one is performed, and its reply kept. -/
theorem answersOk_of_pldm {c : Instr} {s : State} {ses : SessId} {f : Device → List Byte × Device} {post : Device → Prop}
    (hrun : exec c s = onLive (fun d => d.pldm ses f) s) (h : s.dev.asks ses = true) (hpart : sesPart ses = none) {reply : List Byte} {e : Device}
    (hf : f (s.dev.heard ses) = (reply, e)) (hrst : e.rst = s.dev.rst) (hpost : ∀ u : Device, u.fw = { e.fw with reply := reply } → post u) :
    answersOk c ses s post := by
  obtain ⟨hlive, hserves, hopen, hup⟩ := asks_parts h
  have hanswer : (if sesPart ses ≠ none then (⟨.accessDenied, 0, [], s.dev.heard ses⟩ : Answer)
      else if !(s.dev.heard ses).up 7 then ⟨.restarting, 0, [], s.dev.heard ses⟩
      else ⟨.ok, 0, (f (s.dev.heard ses)).1, (f (s.dev.heard ses)).2.modFw (fun w => { w with reply := (f (s.dev.heard ses)).1 })⟩) =
      ⟨.ok, 0, reply, e.modFw (fun w => { w with reply := reply })⟩ := by
    rw [if_neg (not_not.mpr hpart), if_neg (by rw [show (s.dev.heard ses).up 7 = true from hup]; decide), hf]
  refine answersOk_of_request (opc := 0x10) (tag := 0) (f := fun d =>
    if sesPart ses ≠ none then ⟨.accessDenied, 0, [], d⟩
    else if !d.up 7 then ⟨.restarting, 0, [], d⟩
    else ⟨.ok, 0, (f d).1, (f d).2.modFw (fun w => { w with reply := (f d).1 })⟩) hrun hlive hserves hopen hanswer
    ((live_of_rst (d := e) hrst).trans hlive) (fun u hreplied _ => hpost u ?_)
  rw [hreplied.rest]
  rfl

theorem asAgent_agent {d : Device} {ses : SessId} (ok : Fin 7 → Bool) (f : List Byte × Device) (hst : d.fw.pldm ≠ 0)
    (hagent : d.fw.agent = some ses) (hok : ok d.fw.pldm = true) : d.asAgent ses ok f = f := by
  unfold Device.asAgent
  rw [if_neg hst, if_neg (not_not.mpr hagent), if_neg (by rw [hok]; decide)]

section Agent
variable {d : Device} {ses : SessId}

theorem pldmRequest_starts (hst : d.fw.pldm = 0) (howner : d.ownerSes ses = true) : d.pldmRequest ses =
    ([pcOk], d.modFw (fun f => { f with pldm := 1, agent := some ses, verified := false, image := [], size := 0, comp := 0, requests := [] })) := by
  unfold Device.pldmRequest
  rw [if_neg (not_not.mpr hst), if_neg (by rw [howner]; decide)]

theorem pldmRequest_refused (hst : d.fw.pldm ≠ 0) : d.pldmRequest ses = ([pcAlreadyInUpdate], d) := by
  unfold Device.pldmRequest
  rw [if_pos hst]

variable (hagent : d.fw.agent = some ses)
include hagent

theorem pldmTable_known (ids : List W16) (hst : d.fw.pldm = 1) (hne : ids ≠ []) (hids : ∀ i ∈ ids, i = 1 ∨ i = 2) :
    d.pldmTable ses ids = ([pcOk], d.modFw (fun f => { f with pldm := 2 })) := by
  have hall : (ids.all (fun i => i = 1 || i = 2) && !ids.isEmpty) = true := by
    rw [Bool.and_eq_true, List.all_eq_true]
    exact ⟨fun i hi => by simpa using hids i hi, by simpa using hne⟩
  unfold Device.pldmTable
  rw [asAgent_agent _ _ (by rw [hst]; decide) hagent (by rw [hst]; rfl), if_pos hall]

theorem pldmUpdate_known (id : W16) (size : Nat) (hst : d.fw.pldm = 2) (hid : id = 1 ∨ id = 2) (hsize : 0 < size) :
    d.pldmUpdate ses id size =
      ([pcOk], d.modFw (fun f => { f with pldm := 3, comp := id, size := size, image := [], requests := [] }.askData)) := by
  unfold Device.pldmUpdate
  rw [asAgent_agent _ _ (by rw [hst]; decide) hagent (by rw [hst]; rfl), if_pos (by simpa using ⟨hid, hsize⟩)]

/-- Bytes that do not complete the component. -/
theorem pldmData_more (data : List Byte) (hst : d.fw.pldm = 3) (hne : data ≠ []) (hmore : d.fw.image.length + data.length < d.fw.size) :
    ∃ fw, d.pldmData ses data = ([pcOk], { d with fw := fw }) ∧ fw.image = d.fw.image ++ data ∧ fw.pldm = 3 := by
  have htake : data.take (d.fw.size - d.fw.image.length) = data := List.take_of_length_le (by omega)
  unfold Device.pldmData
  rw [asAgent_agent _ _ (by rw [hst]; decide) hagent (by rw [hst]; rfl), if_neg (by simpa using hne)]
  dsimp only [Device.modFw]
  rw [htake, if_neg (by rw [List.length_append]; omega)]
  exact ⟨_, rfl, rfl, hst⟩

theorem pldmActivate_verified (hst : d.fw.pldm = 2) (hverified : d.fw.verified = true) :
    d.pldmActivate ses = ([pcOk], d.modFw (fun f => { f with bankA := f.spare, pldm := 0, agent := none })) := by
  unfold Device.pldmActivate
  rw [asAgent_agent _ _ (by rw [hst]; decide) hagent (by rw [hst]; rfl), if_pos hverified]

theorem pldmCancelComp_taken (hst : d.fw.pldm = 3) :
    d.pldmCancelComp ses = ([pcOk], d.modFw (fun f => { f with pldm := 2, image := [], requests := [] })) := by
  unfold Device.pldmCancelComp
  rw [asAgent_agent _ _ (by rw [hst]; decide) hagent (by rw [hst]; rfl)]

theorem pldmCancel_taken (hst : d.fw.pldm ≠ 0) : d.pldmCancel ses =
    ([pcOk, 0], d.modFw (fun f => { f with pldm := 0, agent := none, image := [], requests := [], verified := false })) := by
  unfold Device.pldmCancel
  rw [asAgent_agent _ _ hst hagent rfl]

end Agent

/-! ### SPDM -/

/-- What an SPDM request leaves: the connection, its answer, and whether the session is open. -/
theorem spdm_runs {c : Instr} {s : State} {ses : SessId} {x y : Spdm} {f : Device → Spdm → List Byte × Spdm × Device} {reply : List Byte}
    {e : Device} (hrun : exec c s = onLive (fun d => d.spdmDo ses f) s) (h : s.dev.spdmAt ses x = true) (hf : f s.dev x = (reply, y, e)) :
    ∃ u, exec c s = .next u ∧ u.pending = s.pending ∧ u.dev.spdmOf ses = { y with reply := reply, large := reply } ∧
      (u.dev.session ses).open_ = (e.session ses).open_ := by
  unfold Device.spdmAt at h
  simp only [Bool.and_eq_true, decide_eq_true_eq] at h
  obtain ⟨⟨⟨hlive, hstate⟩, hup⟩, rfl⟩ := h
  have hserves : s.dev.spdmServes ses = true := by
    unfold Device.spdmServes
    rw [hup, decide_eq_true hstate]
    rfl
  refine ⟨{ s with dev := s.dev.spdmDo ses f }, by rw [hrun, onLive_live _ _ hlive], rfl, ?_⟩
  unfold Device.spdmDo
  rw [if_neg (by rw [hserves]; decide)]
  dsimp only
  rw [hf]
  dsimp only
  have hspdm : ∀ d : Device, d.spdm = alSet e.spdm ses { y with reply := reply, large := reply } →
      d.spdmOf ses = { y with reply := reply, large := reply } := by
    intro d hd
    unfold Device.spdmOf
    rw [hd, alGet_alSet_self]
    rfl
  split
  · refine ⟨hspdm _ rfl, ?_⟩
    rw [session_modSession]
    rfl
  · exact ⟨hspdm _ rfl, rfl⟩

theorem spdmAnswers_of_run {c : Instr} {s : State} {ses : SessId} {x y : Spdm} {f : Device → Spdm → List Byte × Spdm × Device}
    {reply : List Byte} {e : Device} (hrun : exec c s = onLive (fun d => d.spdmDo ses f) s) (h : s.dev.spdmAt ses x = true)
    (hf : f s.dev x = (reply, y, e)) : spdmAnswers c ses s reply y := by
  obtain ⟨u, hu, hpending, hspdm, -⟩ := spdm_runs hrun h hf
  exact ⟨u, hu, hpending, hspdm⟩

theorem spdmNeeds_met {n : Nat} (f : Spdm → List Byte × Spdm) (d : Device) (x : Spdm) (h : n ≤ x.st.val) :
    spdmNeeds n f d x = ((f x).1, (f x).2, d) := by
  unfold spdmNeeds
  rw [if_neg (by omega)]

theorem spdmInside_met (f : Spdm → List Byte × Spdm) (d : Device) (x : Spdm) (h : x.secured = 2) :
    spdmInside f d x = ((f x).1, (f x).2, d) := by
  unfold spdmInside
  rw [if_neg (not_not.mpr h)]

theorem spdmFinish_opens (d : Device) (ses : SessId) (x : Spdm) (hsecured : x.secured = 1) (hclosed : (d.session ses).open_ = false)
    (hroom : d.mgmtOpen < 8) :
    ∃ y scope, d.spdmFinish ses x true [] = ([0x65], y, d.modSession ses (fun _ => Session.fresh scope d.devTime)) ∧ y.secured = 2 := by
  unfold Device.spdmFinish
  dsimp only
  rw [if_neg (not_not.mpr hsecured), if_neg (by decide), if_neg (by rw [hclosed]; decide), if_neg (by omega)]
  exact ⟨_, _, rfl, rfl⟩

theorem spdmChunkGet_answers (d : Device) (ses : SessId) (x : Spdm) (h : d.spdmAt ses x = true) (hst : 2 ≤ x.st.val) :
    ((d.spdmChunkGet ses).spdmOf ses).reply = 0x06 :: x.large.take Config.spdmChunk := by
  unfold Device.spdmAt at h
  simp only [Bool.and_eq_true, decide_eq_true_eq] at h
  obtain ⟨⟨⟨-, hstate⟩, hup⟩, rfl⟩ := h
  have hserves : d.spdmServes ses = true := by
    unfold Device.spdmServes
    rw [hup, decide_eq_true hstate]
    rfl
  have hsecond : ¬ (d.spdmOf ses).st.val < 2 := by omega
  have hreply : ∀ l : List Byte, ((alGet (alSet d.spdm ses { d.spdmOf ses with
      reply := [0x06] ++ (d.spdmOf ses).large.take Config.spdmChunk, large := l }) ses).getD Spdm.reset).reply =
      0x06 :: (d.spdmOf ses).large.take Config.spdmChunk := by
    intro l
    rw [alGet_alSet_self]
    rfl
  unfold Device.spdmChunkGet
  dsimp only
  rw [if_neg (by rw [hserves]; decide), if_neg hsecond]
  split
  · exact hreply _
  · exact hreply _

/-! ### The obligation -/

/-- An update's commands, each from the state it is for (R441, R442). -/
theorem firmwareUpdate (s : State) (ses : SessId) (h : s.dev.asks ses = true) (hpart : sesPart ses = none) : let f := s.dev.fw
    answersOk (.queryDeviceIdentifiers ses) ses s (fun d => d.fw.reply = pcOk :: pldmDescriptors) ∧
    answersOk (.getFirmwareParameters ses) ses s (fun d => d.fw.reply = pcOk :: s.dev.fwParameters) ∧
    answersOk (.getStatus ses) ses s (fun d => d.fw.reply = [pcOk, BitVec.ofNat 8 f.pldm.val]) ∧
    (f.pldm = 0 → s.dev.ownerSes ses = true → answersOk (.requestUpdate ses) ses s (fun d =>
      d.fw.pldm = 1 ∧ d.fw.agent = some ses ∧ d.fw.reply = [pcOk])) ∧
    (f.pldm ≠ 0 → answersOk (.requestUpdate ses) ses s (fun d => d.fw.reply = [pcAlreadyInUpdate] ∧ d.fw.pldm = f.pldm)) := by
  intro f
  refine ⟨?_, ?_, ?_, fun hst howner => ?_, fun hst => ?_⟩
  · exact answersOk_of_pldm (f := fun d => (pcOk :: pldmDescriptors, d)) rfl h hpart rfl rfl (fun u hu => by rw [hu])
  · exact answersOk_of_pldm (f := fun d => (pcOk :: d.fwParameters, d)) rfl h hpart rfl rfl (fun u hu => by rw [hu]; rfl)
  · exact answersOk_of_pldm (f := Device.pldmStatus) rfl h hpart rfl rfl (fun u hu => by rw [hu]; rfl)
  · refine answersOk_of_pldm (f := fun d => d.pldmRequest ses) rfl h hpart
      (pldmRequest_starts hst ((heard_sameAgent s.dev ses).toSameRights.ownerSes.trans howner)) rfl (fun u hu => ?_)
    rw [hu]
    exact ⟨rfl, rfl, rfl⟩
  · refine answersOk_of_pldm (f := fun d => d.pldmRequest ses) rfl h hpart (pldmRequest_refused hst) rfl (fun u hu => ?_)
    rw [hu]
    exact ⟨rfl, rfl⟩

/-- The commands of the update agent. -/
theorem firmwareAgent (s : State) (ses : SessId) (h : s.dev.asks ses = true) (hpart : sesPart ses = none)
    (hagent : s.dev.fw.agent = some ses) : let f := s.dev.fw
    (∀ ids : List W16, f.pldm = 1 → ids ≠ [] → (∀ i ∈ ids, i = 1 ∨ i = 2) →
      answersOk (.passComponentTable ses ids) ses s (fun d => d.fw.pldm = 2 ∧ d.fw.reply = [pcOk])) ∧
    (∀ (id : W16) (size : W32), f.pldm = 2 → id = 1 ∨ id = 2 → 0 < size.toNat →
      answersOk (.updateComponent ses id size) ses s (fun d => d.fw.pldm = 3 ∧ d.fw.comp = id ∧ d.fw.size = size.toNat ∧ d.fw.image = [])) ∧
    (∀ data : List Byte, f.pldm = 3 → data ≠ [] → f.image.length + data.length < f.size →
      answersOk (.firmwareData ses data) ses s (fun d => d.fw.image = f.image ++ data ∧ d.fw.pldm = 3)) ∧
    (f.pldm = 2 → f.verified = true → answersOk (.activateFirmware ses) ses s (fun d =>
      d.fw.bankA = f.spare ∧ d.fw.pldm = 0 ∧ d.fw.running = f.running ∧ d.fw.bankVer = f.bankVer)) ∧
    (f.pldm = 3 → answersOk (.cancelUpdateComponent ses) ses s (fun d => d.fw.pldm = 2 ∧ d.fw.image = [])) ∧
    (f.pldm ≠ 0 → answersOk (.cancelUpdate ses) ses s (fun d => d.fw.pldm = 0 ∧ d.fw.agent = none ∧ d.fw.bankA = f.bankA)) := by
  intro f
  have hheard : (s.dev.heard ses).fw.agent = some ses := hagent
  refine ⟨fun ids hst hne hids => ?_, fun id size hst hid hsize => ?_, fun data hst hne hmore => ?_, fun hst hverified => ?_, fun hst => ?_,
    fun hst => ?_⟩
  · refine answersOk_of_pldm (f := fun d => d.pldmTable ses ids) rfl h hpart (pldmTable_known hheard ids hst hne hids) rfl (fun u hu => ?_)
    rw [hu]
    exact ⟨rfl, rfl⟩
  · refine answersOk_of_pldm (f := fun d => d.pldmUpdate ses id size.toNat) rfl h hpart
      (pldmUpdate_known hheard id size.toNat hst hid hsize) rfl (fun u hu => ?_)
    rw [hu]
    exact ⟨rfl, rfl, rfl, rfl⟩
  · obtain ⟨fw, hdata, himage, hpldm⟩ := pldmData_more hheard data hst hne hmore
    refine answersOk_of_pldm (f := fun d => d.pldmData ses data) rfl h hpart hdata rfl (fun u hu => ?_)
    rw [hu]
    exact ⟨himage, hpldm⟩
  · refine answersOk_of_pldm (f := fun d => d.pldmActivate ses) rfl h hpart (pldmActivate_verified hheard hst hverified) rfl (fun u hu => ?_)
    rw [hu]
    exact ⟨rfl, rfl, rfl, rfl⟩
  · refine answersOk_of_pldm (f := fun d => d.pldmCancelComp ses) rfl h hpart (pldmCancelComp_taken hheard hst) rfl (fun u hu => ?_)
    rw [hu]
    exact ⟨rfl, rfl⟩
  · refine answersOk_of_pldm (f := fun d => d.pldmCancel ses) rfl h hpart (pldmCancel_taken hheard hst) rfl (fun u hu => ?_)
    rw [hu]
    exact ⟨rfl, rfl, rfl⟩

/-- The oldest pending request of the part is taken over PF0's mailbox (R428). -/
theorem mctpMsg_takes (s : State) (h : s.dev.asks .pf0 = true) (r : List Byte) (rest : List (List Byte)) (hreq : s.dev.fw.requests = r :: rest) :
    answersOk (.mctpMsg .pf0 []) .pf0 s (fun d => (d.session .pf0).resp.value = r ∧ d.fw.requests = rest) := by
  obtain ⟨hlive, hserves, hopen, hup⟩ := asks_parts h
  have hanswer : (if !(s.dev.heard .pf0).up 7 then (⟨.restarting, 0, [], s.dev.heard .pf0⟩ : Answer)
      else ⟨.ok, 0, (s.dev.heard .pf0).fw.requests.head?.getD [], (s.dev.heard .pf0).modFw (fun f => { f with requests := f.requests.drop 1 })⟩) =
      ⟨.ok, 0, r, (s.dev.heard .pf0).modFw (fun f => { f with requests := rest })⟩ := by
    have hheard : (s.dev.heard .pf0).fw.requests = r :: rest := hreq
    have hdrop : ∀ d : Device, d.fw.requests = r :: rest →
        d.modFw (fun f => { f with requests := f.requests.drop 1 }) = d.modFw (fun f => { f with requests := rest }) := by
      intro d hd
      unfold Device.modFw
      dsimp only
      rw [hd]
      rfl
    rw [if_neg (by rw [show (s.dev.heard .pf0).up 7 = true from hup]; decide), hdrop _ hheard, hheard]
    rfl
  refine answersOk_of_request (opc := 0x10) (tag := 0) (f := fun d =>
    if !d.up 7 then ⟨.restarting, 0, [], d⟩
    else ⟨.ok, 0, d.fw.requests.head?.getD [], d.modFw (fun f => { f with requests := f.requests.drop 1 })⟩) rfl hlive hserves hopen hanswer
    hlive (fun u hreplied hsession => ⟨by rw [hsession], ?_⟩)
  rw [hreplied.rest]
  rfl

/-- A connection answers from its stage on. -/
theorem spdmConnection (s : State) (ses : SessId) (x : Spdm) (h : s.dev.spdmAt ses x = true) :
    spdmAnswers (.spdmGetVersion ses) ses s ([0x04, 2] ++ leBytes 2 0x1200 ++ leBytes 2 0x1300) { x with st := 1 } ∧
    (1 ≤ x.st.val → ∃ r, spdmAnswers (.spdmGetCapabilities ses) ses s r { x with st := if x.st.val < 2 then 2 else x.st }) ∧
    (2 ≤ x.st.val → ∃ r, spdmAnswers (.spdmNegotiateAlgorithms ses true) ses s r { x with st := 3 }) ∧
    (2 ≤ x.st.val → ∀ (c : List Byte) (last : Bool), ∃ r,
      spdmAnswers (.spdmChunkSend ses c last) ses s r { x with chunk := x.chunk ++ c }) :=
  ⟨spdmAnswers_of_run rfl h (spdmNeeds_met _ _ _ (Nat.zero_le _)),
    fun hst => ⟨_, spdmAnswers_of_run rfl h (spdmNeeds_met _ _ _ hst)⟩,
    fun hst => ⟨_, spdmAnswers_of_run rfl h (spdmNeeds_met _ _ _ hst)⟩,
    fun hst _ _ => ⟨_, spdmAnswers_of_run rfl h (spdmNeeds_met _ _ _ hst)⟩⟩

/-- One whose algorithms are agreed on shows the chain of slot 0, signs, and exchanges keys on the MCTP paths. -/
theorem spdmIdentity (s : State) (ses : SessId) (x : Spdm) (h : s.dev.spdmAt ses x = true) (hst : 3 ≤ x.st.val) :
    spdmAnswers (.spdmGetDigests ses) ses s ([0x01, 0x01] ++ Config.sha384 Config.certChain) x ∧
    (∀ o n : W16, o.toNat ≤ Config.certChain.length → ∃ r, spdmAnswers (.spdmGetCertificate ses 0 o n) ses s r x ∧
      r.drop 5 = (Config.certChain.drop o.toNat).take n.toNat) ∧
    (∀ nonce : List Byte, spdmAnswers (.spdmChallenge ses 0 nonce) ses s (withSig ([0x03] ++ Config.sha384 Config.certChain) nonce) x) ∧
    (∀ nonce : List Byte, spdmAnswers (.spdmGetMeasurements ses 4 nonce) ses s (withSig ([0x60, 1] ++ s.dev.measurement 4) nonce) x) ∧
    (∀ (k : List Byte) (m : Bool), sesMgmt ses = true → ∃ r, spdmAnswers (.spdmKeyExchange ses 0 k m) ses s r
      { x with secured := 1, mutual_ := m, authOwner := false }) := by
  refine ⟨spdmAnswers_of_run rfl h (spdmNeeds_met _ _ _ hst), fun o n ho => ?_, fun nonce => ?_, fun nonce => ?_, fun k m hmgmt => ?_⟩
  · have hinside : ¬ ((0 : Byte) ≠ 0 ∨ o.toNat > Config.certChain.length) := by
      rintro (h0 | hgt)
      · exact h0 rfl
      · omega
    refine ⟨_, spdmAnswers_of_run rfl h ((spdmNeeds_met _ _ _ hst).trans (by rw [if_neg hinside])), ?_⟩
    rfl
  · exact spdmAnswers_of_run rfl h (spdmNeeds_met _ _ _ hst)
  · exact spdmAnswers_of_run rfl h (spdmNeeds_met _ _ _ hst)
  · exact ⟨_, spdmAnswers_of_run rfl h
      ((if_neg (by omega)).trans ((if_neg (by rw [hmgmt]; decide)).trans (if_neg (by decide))))⟩

/-- Settles O60: the I3C addresses are taken once, each PLDM command is for a state of the update, and each SPDM request for a stage of its
connection. -/
theorem managementResults : Obligations.ManagementResults := by
  unfold Obligations.ManagementResults
  refine ⟨?_, fun s ses x h => ?_⟩
  · intro s ses f
    refine ⟨fun hl a b => ⟨fun hnone => ⟨?_, fun ha => ?_⟩, ?_⟩, fun h r rest => mctpMsg_takes s h r rest, fun h hpart => ?_⟩
    · refine (onLive_live _ s hl).trans (congrArg (fun d => Host.Outcome.next { s with dev := d }) (if_pos ?_))
      rw [hnone]
      rfl
    · refine (onLive_live _ s hl).trans (congrArg (fun d => Host.Outcome.next { s with dev := d }) (if_pos ?_))
      rw [hnone, Bool.and_eq_true]
      exact ⟨decide_eq_true ha, rfl⟩
    · exact ⟨_, onLive_live (fun d => d.i3cSessions.foldl (fun d x => d.endSession x) d) s hl,
        fun e => foldl_endSession_closes _ _ _ (i3cSession_listed s.dev e)⟩
    · obtain ⟨hids, hparams, hstatus, hstart, hrefused⟩ := firmwareUpdate s ses h hpart
      exact ⟨hids, hparams, hstatus, hstart, hrefused, firmwareAgent s ses h hpart⟩
  · obtain ⟨hversion, hcaps, halgorithms, hchunk⟩ := spdmConnection s ses x h
    have hlive : s.dev.live = true := by
      unfold Device.spdmAt at h
      simp only [Bool.and_eq_true] at h
      exact h.1.1.1
    refine ⟨hversion, hcaps, halgorithms, hchunk, fun hst => ?_, spdmIdentity s ses x h, fun hsecured hclosed hroom => ?_, fun hsecured => ?_⟩
    · exact ⟨_, onLive_live (fun d => d.spdmChunkGet ses) s hlive, spdmChunkGet_answers s.dev ses x h hst⟩
    · obtain ⟨y, scope, hfinish, hy⟩ := spdmFinish_opens s.dev ses x hsecured hclosed hroom
      obtain ⟨u, hu, -, hspdm, hopen⟩ := spdm_runs (c := .spdmFinish ses true []) (f := fun d x => d.spdmFinish ses x true []) rfl h hfinish
      refine ⟨u, hu, ?_, ?_⟩
      · rw [hopen, session_modSession]
        rfl
      · rw [hspdm]
        exact hy
    · refine ⟨spdmAnswers_of_run rfl h (spdmInside_met _ _ _ hsecured), spdmAnswers_of_run rfl h (spdmInside_met _ _ _ hsecured), ?_⟩
      obtain ⟨u, hu, -, hspdm, hopen⟩ := spdm_runs (c := .spdmEndSession ses) (f := fun d x =>
        if x.secured ≠ 2 then (spdmError 4, x, d) else ([0x6C], { x with secured := 0, authOwner := false }, d.endSession ses)) rfl h
        (if_neg (not_not.mpr hsecured))
      refine ⟨u, hu, ?_, ?_⟩
      · rw [hspdm]
      · rw [hopen]
        exact (endSession_session s.dev ses).1

end Sys2Proof.Machine

/-! Canonical stores (log 6): what keeps them, said once for the shapes edits are made of, for the edits that write a store, and for the
functions that answer a part only where they accept. -/

namespace Sys2Proof.Machine
section
variable {d e : Device}

/-! ### The four parts -/

theorem Device.storesWf.hbm (h : d.storesWf) : d.hbm.wf = true := h.1
theorem Device.storesWf.tmem (h : d.storesWf) : d.tmemBytes.wf = true := h.2.1
theorem Device.storesWf.host (h : d.storesWf) : d.hostMem.wf = true := h.2.2.1
theorem Device.storesWf.pocket (h : d.storesWf) (t : TileNo) : (d.tiles[t]).pocket.wf = true := h.2.2.2 t

/-! ### The shapes of an edit -/

theorem storesWf_ite {p : Prop} [Decidable p] (hd : d.storesWf) (he : e.storesWf) : (if p then d else e).storesWf := by
  split
  · exact hd
  · exact he

theorem storesWf_dite {p : Prop} [Decidable p] {f : p → Device} {g : ¬ p → Device} (hf : ∀ h, (f h).storesWf)
    (hg : ∀ h, (g h).storesWf) : (if h : p then f h else g h).storesWf := by
  split
  · exact hf _
  · exact hg _

theorem mk_snd_storesWf {α : Type} {a : α} (h : d.storesWf) : ((a, d) : α × Device).2.storesWf := h

theorem ite_snd_storesWf {α : Type} {p : Prop} [Decidable p] {r s : α × Device} (hr : r.2.storesWf) (hs : s.2.storesWf) :
    (if p then r else s).2.storesWf := by
  split
  · exact hr
  · exact hs

theorem ite_snd_snd_storesWf {α β : Type} {p : Prop} [Decidable p] {r s : α × β × Device} (hr : r.2.2.storesWf)
    (hs : s.2.2.storesWf) : (if p then r else s).2.2.storesWf := by
  split
  · exact hr
  · exact hs

theorem elim_storesWf {α : Type} {o : Option α} {f : α → Device} (h : d.storesWf) (hf : ∀ a, (f a).storesWf) :
    (o.elim d f).storesWf := by
  cases o with
  | none => exact h
  | some a => exact hf a

theorem foldl_storesWf {α : Type} {f : Device → α → Device} (hf : ∀ d x, d.storesWf → (f d x).storesWf) (l : List α)
    (h : d.storesWf) : (l.foldl f d).storesWf :=
  List.foldlRecOn l f h (fun _ h x _ => hf _ x h)

theorem foldl_snd_storesWf {α β : Type} {f : β × Device → α → β × Device} (hf : ∀ r x, r.2.storesWf → (f r x).2.storesWf)
    (l : List α) {r : β × Device} (h : r.2.storesWf) : (l.foldl f r).2.storesWf :=
  List.foldlRecOn l f (motive := fun r : β × Device => r.2.storesWf) h (fun _ h x _ => hf _ x h)

theorem foldl_snd_snd_storesWf {α β γ : Type} {f : β × γ × Device → α → β × γ × Device}
    (hf : ∀ r x, r.2.2.storesWf → (f r x).2.2.storesWf) (l : List α) {r : β × γ × Device} (h : r.2.2.storesWf) :
    (l.foldl f r).2.2.storesWf :=
  List.foldlRecOn l f (motive := fun r : β × γ × Device => r.2.2.storesWf) h (fun _ h x _ => hf _ x h)

theorem serveAll_storesWf {α : Type} {f : Device → α → Bool × Device} (hf : ∀ d x, d.storesWf → (f d x).2.storesWf)
    (l : List α) {q : Bool × Device} (h : q.2.storesWf) : (Device.serveAll f l q).2.storesWf := by
  unfold Device.serveAll
  refine foldl_snd_storesWf (fun _ _ hr => ?_) _ h
  exact hf _ _ hr

/-- An edit of a tile beside its pocket. -/
theorem modTile_storesWf {t : TileNo} {f : Tile → Tile} (h : d.storesWf)
    (hf : ∀ x, (f x).pocket = x.pocket) : (d.modTile t f).storesWf :=
  storesWf_modTile t f h ((congrArg Memory.wf (hf _)).trans (h.pocket t))

/-- An edit of every tile that keeps each pocket canonical. -/
theorem mapTiles_storesWf {f : Tile → Tile} (h : d.storesWf) (hf : ∀ x, x.pocket.wf = true → (f x).pocket.wf = true) :
    Device.storesWf { d with tiles := d.tiles.map f } := by
  refine storesWf_intro h.hbm h.tmem h.host (fun t => ?_)
  simp only [Fin.getElem_fin, Vector.getElem_map]
  exact hf _ (h.pocket t)

/-- Edits of records that hold no store. -/
theorem setRst_storesWf {r : Rst} (h : d.storesWf) : Device.storesWf { d with rst := r } := h
theorem setDevTime_storesWf {time : W64} (h : d.storesWf) : Device.storesWf { d with devTime := time } := h
theorem setLanes_storesWf {l} (h : d.storesWf) : Device.storesWf { d with lanes := l } := h

/-! ### The edits that write a store -/

theorem meetLine_storesWf {page line} (h : d.storesWf) : (d.meetLine page line).2.storesWf := (meetLine_worked _ _ _).wf h

theorem copyLine_storesWf {r} (h : d.storesWf) : (d.copyLine r).storesWf := by
  unfold Device.copyLine
  split
  · dsimp only
    have hm := meetLine_storesWf h (page := r.old) (line := r.ptr)
    generalize (d.meetLine r.old r.ptr) = m at hm ⊢
    generalize m.2.hbm.read _ 64 = line
    exact storesWf_intro (Memory.wf_write _ _ hm.hbm) hm.tmem hm.host hm.pocket
  · exact h

theorem saveBytes_storesWf {p addr src n} (h : d.storesWf) : (d.saveBytes p addr src n).2.storesWf := by
  unfold Device.saveBytes
  refine foldl_snd_storesWf (fun r q hr => ?_) _ h
  split
  · exact hr
  · exact storesWf_intro (Memory.wf_copyTo _ _ _ _ hr.hbm) hr.tmem hr.host hr.pocket

/-! ### What leaves the pocket of a tile as it is -/

theorem seqNopAct_pocket (w : W128) (x : Tile) : (seqNopAct w x).pocket = x.pocket := rfl

theorem seqJmpAct_pocket (w : W128) (x : Tile) : (seqJmpAct w x).pocket = x.pocket := rfl

theorem seqBsetAct_pocket (w : W128) (x : Tile) : (seqBsetAct w x).pocket = x.pocket := rfl

theorem seqBaddAct_pocket (w : W128) (x : Tile) : (seqBaddAct w x).pocket = x.pocket := rfl

theorem seqBrAct_pocket (w : W128) (x : Tile) : (seqBrAct w x).pocket = x.pocket := by
  unfold seqBrAct
  split
  · rfl
  · rfl

theorem seqLoopAct_pocket (w : W128) (x : Tile) : (seqLoopAct w x).pocket = x.pocket := by
  unfold seqLoopAct
  dsimp only
  split
  · rfl
  · rfl

theorem seqLendAct_pocket (w : W128) (x : Tile) : (seqLendAct w x).pocket = x.pocket := by
  unfold seqLendAct
  dsimp only
  split
  · rfl
  · rfl

/-! ### What is answered only where it is accepted -/

/-- What a fetch leaves. -/
def Fetched.storesWf : Fetched → Prop
  | .other => True
  | .fault d => d.storesWf
  | .word _ d => d.storesWf

theorem fetch_storesWf {t op} (h : d.storesWf) : (d.fetch t op).storesWf := by
  have hr := storesWf_pocketRead t (d.tiles[t]).pc 16 0 h
  unfold Device.fetch
  dsimp only
  split
  · trivial
  split
  · exact (faultTile_touched _ _ _ _ _ _).wf h
  split
  · exact (faultTile_touched _ _ _ _ _ _).wf hr
  split
  · exact (faultTile_touched _ _ _ _ _ _).wf hr
  split
  · exact hr
  · trivial

theorem fetch_fault_storesWf {t op} (he : d.fetch t op = .fault e) (h : d.storesWf) : e.storesWf := by
  have hf := fetch_storesWf h (t := t) (op := op)
  rw [he] at hf
  exact hf

theorem fetch_word_storesWf {t op w} (he : d.fetch t op = .word w e) (h : d.storesWf) : e.storesWf := by
  have hf := fetch_storesWf h (t := t) (op := op)
  rw [he] at hf
  exact hf

theorem placeDesc_storesWf {m x} (he : d.placeDesc m x = some e) (h : d.storesWf) : e.storesWf := (placeDesc_worked he).wf h

theorem takeHead_storesWf {src reply f a pkt} (he : d.takeHead src reply f = some (a, pkt, e)) (h : d.storesWf) : e.storesWf := by
  unfold Device.takeHead at he
  split at he
  · cases he
  · split at he
    · split at he
      · cases he
        exact h
      · cases he
    · cases he

theorem collPacket_storesWf {src reply f a pkt} (he : d.collPacket src reply f = some (a, pkt, e)) (h : d.storesWf) : e.storesWf := by
  unfold Device.collPacket at he
  split at he
  · exact takeHead_storesWf he h
  · split at he
    · split at he
      · cases he
        exact h
      · cases he
    · cases he

theorem openSes_storesWf {ses} (he : d.openSes ses = some e) (h : d.storesWf) : e.storesWf := by
  unfold Device.openSes at he
  split at he
  · cases he
    exact h
  · split at he
    · cases he
    · cases he
      exact h

end
end Sys2Proof.Machine

/-! Canonical stores (log 6): the edits of issue, the controller and the events of a tile keep them. -/

namespace Sys2Proof.Machine
section
variable {d : Device}

/-! ### The state after power-on -/

theorem reset_storesWf : Device.reset.storesWf := by
  refine ⟨rfl, rfl, rfl, fun t => ?_⟩
  simp only [Device.reset, Fin.getElem_fin, Vector.getElem_replicate]
  rfl

/-! ### Memories -/

theorem modHealth_storesWf {x f} (h : d.storesWf) : (d.modHealth x f).storesWf := h

theorem modPart_storesWf {p f} (h : d.storesWf) : (d.modPart p f).storesWf := h

theorem modCtx_storesWf {c f} (h : d.storesWf) : (d.modCtx c f).storesWf := h

theorem modTmem_storesWf {k f} (h : d.storesWf) : (d.modTmem k f).storesWf := h

theorem modPort_storesWf {p f} (h : d.storesWf) : (d.modPort p f).storesWf := h

theorem modLane_storesWf {n f} (h : d.storesWf) : (d.modLane n f).storesWf := h

theorem modTable_storesWf {k f} (h : d.storesWf) : (d.modTable k f).storesWf := h

theorem modLayout_storesWf {k f} (h : d.storesWf) : (d.modLayout k f).storesWf := h

theorem netDown_storesWf {n} (h : d.storesWf) : (d.netDown n).storesWf := storesWf_ite h ((modNet_worked _ _ _).wf h)

theorem modPanel_storesWf {p f} (h : d.storesWf) : (d.modPanel p f).storesWf := h

theorem modComp_storesWf {n f} (h : d.storesWf) : (d.modComp n f).storesWf := h

theorem modWindow_storesWf {p w f} (h : d.storesWf) : (d.modWindow p w f).storesWf := modPart_storesWf h

theorem modPool_storesWf {p n f} (h : d.storesWf) : (d.modPool p n f).storesWf := modPart_storesWf h

theorem modSlot_storesWf {m k f} (h : d.storesWf) : (d.modSlot m k f).storesWf := (modMover_worked _ _ _).wf h

theorem modQueueOf_storesWf {t e f} (h : d.storesWf) : (d.modQueueOf t e f).storesWf := modTile_storesWf h (fun _ => rfl)

theorem modFlight_storesWf {t e f} (h : d.storesWf) : (d.modFlight t e f).storesWf := modTile_storesWf h (fun _ => rfl)

theorem free_storesWf (h : d.storesWf) : d.free.2.storesWf := h

/-! ### The dictionary store -/

theorem setCfg_storesWf {base sub item v} (h : d.storesWf) : (d.setCfg base sub item v).storesWf := h

/-! ### Accesses -/

theorem placeExtras_storesWf (h : d.storesWf) : d.placeExtras.storesWf := List.foldlRecOn _ _ h (fun _ w _ _ => w)

theorem retirePage_storesWf {page} (h : d.storesWf) : (d.retirePage page).storesWf := by
  unfold Device.retirePage
  refine storesWf_ite h ?_
  dsimp only
  split
  · exact h
  · exact h
  · exact h

theorem hbmRead_storesWf {p addr n repair} (h : d.storesWf) : (d.hbmRead p addr n repair).2.storesWf := by
  unfold Device.hbmRead
  refine foldl_snd_storesWf (fun _ _ h1 => ?_) _ ?_
  · refine ite_snd_storesWf h1 ?_
    dsimp only
    split
    · exact h1
    · refine ite_snd_storesWf ?_ ?_
      · exact (meetLine_worked _ _ _).wf h1
      · exact ite_snd_storesWf ((meetLine_worked _ _ _).wf h1) ((meetLine_worked _ _ _).wf h1)
  · exact (count_told _ _ _ _ _).storesWf h

theorem tmemRead_storesWf {p addr n} (h : d.storesWf) : (d.tmemRead p addr n).2.storesWf := by
  unfold Device.tmemRead
  split
  · exact h
  · refine ite_snd_storesWf h (ite_snd_storesWf h ?_)
    generalize (linesOf _ n).any _ = poisoned
    cases poisoned
    · exact h
    · exact h

theorem violation_storesWf {t off n slice chip kind} (h : d.storesWf) : (d.violation t off n slice chip kind).storesWf := by
  unfold Device.violation
  split
  · exact (report_told _ _ _ _ _ _).storesWf (modPart_storesWf h)
  · exact h

/-! ### Status -/

theorem orCvt_storesWf {t f} (h : d.storesWf) : (d.orCvt t f).storesWf := modTile_storesWf h (fun _ => rfl)

theorem orVx_storesWf {t f} (h : d.storesWf) : (d.orVx t f).storesWf := modTile_storesWf h (fun _ => rfl)

theorem orAcc_storesWf {t f} (h : d.storesWf) : (d.orAcc t f).storesWf := modTile_storesWf h (fun _ => rfl)

/-! ### Operations -/

theorem countWaits_storesWf {now} (h : d.storesWf) : (d.countWaits now).storesWf := by
  unfold Device.countWaits
  refine foldl_storesWf (fun _ _ h1 => ?_) _ ?_
  · exact (count_told _ _ _ _ _).storesWf h1
  · exact h

theorem modFlightAt_storesWf {t e k f} (h : d.storesWf) : (d.modFlightAt t e k f).storesWf := modFlight_storesWf h

theorem performed_storesWf {t e k n} (h : d.storesWf) : (d.performed t e k n).storesWf := modFlightAt_storesWf h

theorem waiting_storesWf {t e k} (h : d.storesWf) : (d.waiting t e k).storesWf := modFlightAt_storesWf h

theorem execFault_storesWf {t e f code detail} (h : d.storesWf) : (d.execFault t e f code detail).storesWf :=
  (faultTile_touched _ _ _ _ _ _).wf h

/-! ### Issue -/

theorem readRecs_storesWf {t op w n got} (h : d.storesWf) : (d.readRecs t op w n got).2.2.storesWf := by
  induction n generalizing d got with
  | zero => exact h
  | succ n ih =>
    unfold Device.readRecs
    split
    · exact h
    · have hr := fun off len => storesWf_pocketRead t off len 0 h
      exact ite_snd_snd_storesWf h (ite_snd_snd_storesWf (hr _ _) (ih (hr _ _)))

theorem issueFaultAt_storesWf {t code detail} (h : d.storesWf) : (d.issueFaultAt t code detail).storesWf :=
  (faultTile_touched _ _ _ _ _ _).wf h

theorem issueFault_storesWf {t code} (h : d.storesWf) : (d.issueFault t code).storesWf := issueFaultAt_storesWf h

theorem stall_storesWf {t} (h : d.storesWf) : (d.stall t).storesWf := modTile_storesWf h (fun _ => rfl)

theorem signalSeq_storesWf {t w pcq} (h : d.storesWf) : (d.signalSeq t w pcq).storesWf :=
  storesWf_ite ((addTok_worked _ _ _ _ _ _).wf h) h

theorem seqRun_storesWf {t op faults act} (h : d.storesWf) (hact : ∀ w x, (act w x).pocket = x.pocket) :
    (d.seqRun t op faults act).storesWf := by
  unfold Device.seqRun
  split
  · exact h
  · next he => exact fetch_fault_storesWf he h
  · next he =>
    have hw := fetch_word_storesWf he h
    refine storesWf_ite (modTile_storesWf hw (fun _ => rfl)) ?_
    split
    · exact issueFaultAt_storesWf hw
    · exact signalSeq_storesWf (modTile_storesWf hw (fun _ => hact _ _))

theorem issueQ_storesWf {t op} (h : d.storesWf) : (d.issueQ t op).storesWf := by
  unfold Device.issueQ
  split
  · exact h
  · next he =>
      have h1 := fetch_fault_storesWf he h
      exact h1
  · next he =>
      have h1 := fetch_word_storesWf he h
      split
      · exact h1
      · refine storesWf_ite (stall_storesWf h1) ?_
        refine storesWf_ite (stall_storesWf (readRecs_storesWf h1)) ?_
        dsimp only
        split
        · exact issueFaultAt_storesWf (readRecs_storesWf h1)
        · exact modTile_storesWf (modQueueOf_storesWf (readRecs_storesWf h1)) (fun _ => rfl)

theorem syRun_storesWf {t op mask act} (h : d.storesWf) (hf1 : ∀ (a : Sys2Proof.W128) (a_1 : Device), a_1.storesWf → (act a a_1).storesWf)
  : (d.syRun t op mask act).storesWf := by
  unfold Device.syRun
  split
  · exact h
  · next he =>
      have h1 := fetch_fault_storesWf he h
      exact h1
  · next he =>
      have h1 := fetch_word_storesWf he h
      refine storesWf_ite ?_ ?_
      · exact issueFault_storesWf h1
      · exact storesWf_ite (stall_storesWf h1) (signalSeq_storesWf (hf1 _ _ (modTile_storesWf h1 (fun _ => rfl))))

/-! ### SEQ -/

theorem bldRead_storesWf {t w} (h : d.storesWf) : (d.bldRead t w).2.storesWf := by
  unfold Device.bldRead
  refine ite_snd_storesWf ?_ (ite_snd_storesWf ((pocketRead_touched _ _ _ _ _).wf h) ((pocketRead_touched _ _ _ _ _).wf h))
  dsimp only
  split
  · exact h
  · split
    · exact hbmRead_storesWf h
    · exact (askRepair_worked _ _ _ _).wf (hbmRead_storesWf h)
    · exact hbmRead_storesWf h
    · exact hbmRead_storesWf h

theorem seqBld_storesWf {t} (h : d.storesWf) : (d.seqBld t).storesWf := by
  unfold Device.seqBld
  split
  · exact h
  · next he =>
      have h1 := fetch_fault_storesWf he h
      exact h1
  · next he =>
      have h1 := fetch_word_storesWf he h
      refine storesWf_ite (stall_storesWf h1) ?_
      dsimp only
      split
      · exact issueFault_storesWf h1
      · split
        · exact (faultTile_touched _ _ _ _ _ _).wf (bldRead_storesWf h1)
        · exact modTile_storesWf (bldRead_storesWf h1) (fun _ => rfl)

theorem seqTokadd_storesWf {t} (h : d.storesWf) : (d.seqTokadd t).storesWf := by
  unfold Device.seqTokadd
  split
  · exact h
  · next he =>
      have h1 := fetch_fault_storesWf he h
      exact h1
  · next he =>
      have h1 := fetch_word_storesWf he h
      exact storesWf_ite (stall_storesWf h1) (signalSeq_storesWf ((addTok_worked _ _ _ _ _ _).wf (modTile_storesWf h1 (fun _ => rfl))))

theorem ctlRead_storesWf {t off n} (h : d.storesWf) : (d.ctlRead t off n).2.storesWf := by
  unfold Device.ctlRead
  refine ite_snd_storesWf h ?_
  exact ite_snd_storesWf ((pocketRead_touched _ _ _ _ _).wf h) ((pocketRead_touched _ _ _ _ _).wf h)

theorem seqFsel_storesWf {t} (h : d.storesWf) : (d.seqFsel t).storesWf := by
  unfold Device.seqFsel
  split
  · exact h
  · next he =>
      have h1 := fetch_fault_storesWf he h
      exact h1
  · next he =>
      have h1 := fetch_word_storesWf he h
      refine storesWf_ite (stall_storesWf h1) ?_
      refine storesWf_ite (issueFault_storesWf h1) ?_
      dsimp only
      split
      · exact issueFault_storesWf (ctlRead_storesWf h1)
      · refine storesWf_ite (issueFault_storesWf (ctlRead_storesWf h1)) ?_
        split
        · exact issueFault_storesWf (ctlRead_storesWf (ctlRead_storesWf h1))
        · exact signalSeq_storesWf (modTile_storesWf (ctlRead_storesWf (ctlRead_storesWf h1)) (fun _ => rfl))

/-! ### The controller of a tile -/

theorem askWake_storesWf {t rise} (h : d.storesWf) : (d.askWake t rise).storesWf := by
  unfold Device.askWake
  have ht : (d.modTile t (fun x => { x with queued := true, askedAt := d.devTime })).storesWf := modTile_storesWf h (fun _ => rfl)
  exact storesWf_ite h (storesWf_ite ((count_told _ _ _ _ _).storesWf ht) ht)

theorem freeClock_storesWf {t} (h : d.storesWf) : (d.freeClock t).storesWf := modTile_storesWf (modPanel_storesWf h) (fun _ => rfl)

theorem wakeRequest_storesWf {t} (h : d.storesWf) : (d.wakeRequest t).storesWf := askWake_storesWf h

theorem syLiningInv_storesWf {t k} (h : d.storesWf) : (d.syLiningInv t k).storesWf := by
  unfold Device.syLiningInv
  split
  · exact h
  · refine performed_storesWf (modTile_storesWf h (fun x => ?_))
    split
    · rfl
    · rfl

theorem liningFill_storesWf {t k} (h : d.storesWf) : (d.liningFill t k).storesWf := by
  unfold Device.liningFill
  split
  · exact h
  · have ht (y : Tile) (hy : y.pocket = (d.tiles[t]).pocket) : (d.modTile t (fun _ => y)).storesWf :=
      storesWf_modTile t _ h ((congrArg Memory.wf hy).trans (h.pocket t))
    refine ht _ ?_
    split
    · rfl
    · rfl

theorem ceWriteback_storesWf {t word} (h : d.storesWf) : (d.ceWriteback t word).storesWf := modTile_storesWf h (fun _ => rfl)

theorem dispatchResume_storesWf {t} (h : d.storesWf) : (d.dispatchResume t).storesWf := storesWf_ite (modTile_storesWf h (fun _ => rfl)) h

theorem engineStart_storesWf {t e} (h : d.storesWf) : (d.engineStart t e).storesWf := by
  unfold Device.engineStart
  dsimp only
  split
  · refine storesWf_ite h ?_
    refine storesWf_ite (wakeRequest_storesWf h) ?_
    refine storesWf_ite h ?_
    exact (traceRec_told _ _ _ _ _ _).storesWf (modTile_storesWf (storesWf_ite (wakeRequest_storesWf h) h) (fun _ => rfl))
  · exact h

theorem signal4_storesWf {t e f} (h : d.storesWf) : (d.signal4 t e f).storesWf := storesWf_ite ((addTok_worked _ _ _ _ _ _).wf h) h

theorem sourceRelease_storesWf {t e k} (h : d.storesWf) : (d.sourceRelease t e k).storesWf := by
  unfold Device.sourceRelease
  split
  · exact h
  · exact storesWf_ite (signal4_storesWf (modFlightAt_storesWf h)) h

theorem drainEnd_storesWf {t} (h : d.storesWf) : (d.drainEnd t).storesWf := by
  unfold Device.drainEnd
  dsimp only
  split
  · exact h
  · next o _ =>
    have ht : ((d.orAcc t (d.tiles[t]).mm.accCur).modTile t (fun x => { x with mm := { x.mm with tile := none } })).storesWf :=
      modTile_storesWf (orAcc_storesWf h) (fun _ => rfl)
    split
    · exact storesWf_ite ht ht
    · exact ht

/-- A second edit of a tile under a condition. -/
theorem modTile_twice_storesWf {p : Prop} [Decidable p] {t f g} (h : d.storesWf) (hf : ∀ x : Tile, (f x).pocket = x.pocket)
    (hg : ∀ x : Tile, (g x).pocket = x.pocket) : (if p then (d.modTile t f).modTile t g else d.modTile t f).storesWf :=
  storesWf_ite (modTile_storesWf (modTile_storesWf h hf) hg) (modTile_storesWf h hf)

theorem complete_storesWf {t e k} (h : d.storesWf) : (d.complete t e k).storesWf := by
  unfold Device.complete
  split
  · exact h
  · refine storesWf_ite ?_ h
    refine storesWf_ite ?_ ?_
    · refine storesWf_ite ?_ ?_
      · exact drainEnd_storesWf (modTile_twice_storesWf h (fun _ => rfl) (fun _ => rfl))
      · exact modTile_twice_storesWf h (fun _ => rfl) (fun _ => rfl)
    · refine signal4_storesWf ?_
      refine storesWf_ite ?_ ?_
      · exact drainEnd_storesWf (modTile_twice_storesWf h (fun _ => rfl) (fun _ => rfl))
      · exact modTile_twice_storesWf h (fun _ => rfl) (fun _ => rfl)

theorem bldLand_storesWf {t k} (h : d.storesWf) : (d.bldLand t k).storesWf := by
  unfold Device.bldLand
  split
  · exact h
  · split
    · exact signalSeq_storesWf (modTile_storesWf h (fun _ => rfl))
    · dsimp only
      split
      · exact (faultTile_touched _ _ _ _ _ _).wf (bldRead_storesWf h)
      · exact modTile_storesWf (bldRead_storesWf h) (fun _ => rfl)

theorem stepWatchdog_storesWf {c} (h : d.storesWf) : (d.stepWatchdog c).storesWf := by
  unfold Device.stepWatchdog
  refine storesWf_ite ?_ h
  refine foldl_storesWf (fun _ _ h1 => ?_) _ ?_
  · exact (faultTile_touched _ _ _ _ _ _).wf h1
  · exact h

theorem engineStall_storesWf {t e} (h : d.storesWf) : (d.engineStall t e).storesWf :=
  storesWf_ite ((report_told _ _ _ _ _ _).storesWf (modTile_storesWf h (fun _ => rfl))) h

end
end Sys2Proof.Machine

/-! Canonical stores (log 6): the edits of loads, stores, clasps and movers keep them. -/

namespace Sys2Proof.Machine
section
variable {d : Device}

/-! ### LD and ST -/

theorem memRead_storesWf {p space tile addr n} (h : d.storesWf) : (d.memRead p space tile addr n).2.storesWf := by
  unfold Device.memRead
  refine ite_snd_storesWf (hbmRead_storesWf h) ?_
  refine ite_snd_storesWf (tmemRead_storesWf h) ?_
  split
  · exact ite_snd_storesWf h (ite_snd_storesWf ((meshRead_touched _ _ _ _).wf h) h)
  · exact h

theorem lineRead_storesWf {p g r} (he : d.lineRead p g = some r) (h : d.storesWf) : r.2.storesWf := by
  have hm : (d.memRead p g.space g.tile (64 * g.line) 64).2.storesWf := memRead_storesWf h
  unfold Device.lineRead at he
  split at he
  · split at he
    · split at he
      · cases he
        exact hm
      · cases he
    · cases he
  · cases he
    exact hm

theorem dropLine_storesWf {t g} (h : d.storesWf) : (d.dropLine t g).storesWf := by
  unfold Device.dropLine
  generalize hx : d.modTile t _ = d'
  exact (hx ▸ modTile_storesWf h (fun _ => rfl) : d'.storesWf)

theorem linedPiece_storesWf {t p space tile addr n} (h : d.storesWf) : (d.linedPiece t p space tile addr n).2.storesWf := by
  unfold Device.linedPiece
  dsimp only
  split
  · refine ite_snd_storesWf ?_ ((count_told _ _ _ _ _).storesWf h)
    split
    · exact memRead_storesWf ((count_told _ _ _ _ _).storesWf (dropLine_storesWf h))
    · next he =>
        have h1 := lineRead_storesWf he ((count_told _ _ _ _ _).storesWf (dropLine_storesWf h))
        exact ite_snd_storesWf (modTile_storesWf h1 (fun _ => rfl)) h1
  · split
    · exact memRead_storesWf ((count_told _ _ _ _ _).storesWf h)
    · next he =>
        have h1 := lineRead_storesWf he ((count_told _ _ _ _ _).storesWf h)
        exact ite_snd_storesWf (modTile_storesWf h1 (fun _ => rfl)) h1

theorem ldRange_storesWf {t p pr byp addr n} (h : d.storesWf) : (d.ldRange t p pr byp addr n).2.storesWf := by
  unfold Device.ldRange
  refine ite_snd_storesWf h ?_
  refine ite_snd_storesWf (ite_snd_storesWf h ((pocketRead_touched _ _ _ _ _).wf h)) ?_
  refine ite_snd_storesWf (memRead_storesWf h) ?_
  refine ite_snd_storesWf h ?_
  refine ite_snd_storesWf h ?_
  refine foldl_snd_storesWf (fun _ _ h1 => ?_) _ ?_
  · exact ite_snd_storesWf h1 (ite_snd_storesWf (linedPiece_storesWf h1) (linedPiece_storesWf h1))
  · exact h

theorem ldRanges_storesWf {t p pr byp rows n} (h : d.storesWf) : (d.ldRanges t p pr byp rows n).2.storesWf := by
  unfold Device.ldRanges
  refine foldl_snd_storesWf (fun _ _ h1 => ?_) _ ?_
  · dsimp only
    split
    · exact h1
    · exact ite_snd_storesWf (ldRange_storesWf h1) (ldRange_storesWf h1)
  · exact h

theorem ownRead_storesWf {t e off n} (h : d.storesWf) : (d.ownRead t e off n).2.storesWf :=
  ite_snd_storesWf h (ite_snd_storesWf h ((pocketRead_touched _ _ _ _ _).wf h))

theorem ownWrite_storesWf {t e off bs} (h : d.storesWf) : (d.ownWrite t e off bs).2.storesWf :=
  ite_snd_storesWf h (ite_snd_storesWf h ((pocketWrite_touched _ _ _ _ _).wf h))

theorem accessFailed_storesWf {t e k f p st at_} (h : d.storesWf) : (d.accessFailed t e k f p st at_).storesWf := by
  unfold Device.accessFailed
  split
  · exact waiting_storesWf ((askRepair_worked _ _ _ _).wf h)
  · exact waiting_storesWf h
  · exact execFault_storesWf h

theorem ldMemory_storesWf {t p e} (h : d.storesWf) : (d.ldMemory t p e).2.storesWf := by
  unfold Device.ldMemory
  refine ite_snd_storesWf (ownRead_storesWf h) ?_
  dsimp only
  split
  · exact ldRanges_storesWf (ownRead_storesWf h)
  · split
    · refine ite_snd_storesWf ?_ ?_
      · exact ldRanges_storesWf (ldRanges_storesWf (ownRead_storesWf h))
      · exact ldRanges_storesWf (ownRead_storesWf h)
    · refine ite_snd_storesWf ?_ ?_
      · exact ldRanges_storesWf (ldRanges_storesWf (ownRead_storesWf h))
      · exact ldRanges_storesWf (ownRead_storesWf h)

theorem ldInputs_storesWf {t p e} (h : d.storesWf) : (d.ldInputs t p e).2.storesWf := by
  unfold Device.ldInputs
  dsimp only
  split
  · exact ldMemory_storesWf h
  · exact ite_snd_storesWf (ownRead_storesWf (ldMemory_storesWf h)) (ownRead_storesWf (ldMemory_storesWf h))

theorem ldFill_storesWf {t k} (h : d.storesWf) : (d.ldFill t k).storesWf := by
  unfold Device.ldFill
  split
  · dsimp only
    split
    · exact accessFailed_storesWf (ldInputs_storesWf h)
    · refine storesWf_ite (accessFailed_storesWf (ownWrite_storesWf (ldInputs_storesWf h))) ?_
      refine storesWf_ite ?_ ?_
      · exact accessFailed_storesWf (ownWrite_storesWf (ownWrite_storesWf (ldInputs_storesWf h)))
      · exact performed_storesWf (orCvt_storesWf (ownWrite_storesWf (ownWrite_storesWf (ldInputs_storesWf h))))
  · exact h

theorem ldTouch_storesWf {t k} (h : d.storesWf) : (d.ldTouch t k).storesWf := by
  unfold Device.ldTouch
  split
  · dsimp only
    split
    · exact accessFailed_storesWf (ldMemory_storesWf h)
    · exact performed_storesWf (ldMemory_storesWf h)
  · exact h

theorem putInputs_storesWf {t e} (h : d.storesWf) : (d.putInputs t e).2.storesWf := by
  unfold Device.putInputs
  refine ite_snd_storesWf (ownRead_storesWf h) ?_
  refine ite_snd_storesWf (ownRead_storesWf (ownRead_storesWf h)) ?_
  refine ite_snd_storesWf (ownRead_storesWf (ownRead_storesWf (ownRead_storesWf h))) ?_
  dsimp only
  split
  · exact ownRead_storesWf (ownRead_storesWf (ownRead_storesWf h))
  · exact ownRead_storesWf (ownRead_storesWf (ownRead_storesWf h))

theorem putRow_storesWf {t p pr addr bs} (h : d.storesWf) : (d.putRow t p pr addr bs).2.storesWf := by
  unfold Device.putRow
  refine ite_snd_storesWf h ?_
  refine ite_snd_storesWf (ownWrite_storesWf h) ?_
  refine ite_snd_storesWf ((hbmWrite_worked _ _ _ _ _).wf h) ?_
  refine ite_snd_storesWf ((tmemWrite_worked _ _ _ _).wf h) ?_
  dsimp only
  split
  · exact ite_snd_storesWf h (ite_snd_storesWf ((meshWrite_touched _ _ _ _).wf h) h)
  · exact h

theorem putRows_storesWf {t p pr l} (h : d.storesWf) : (d.putRows t p pr l).2.storesWf := by
  unfold Device.putRows
  refine foldl_snd_storesWf (fun _ _ h1 => ?_) _ ?_
  · exact ite_snd_storesWf h1 (putRow_storesWf h1)
  · exact h

theorem stPut_storesWf {t k} (h : d.storesWf) : (d.stPut t k).storesWf := by
  unfold Device.stPut
  split
  · dsimp only
    split
    · split
      · exact accessFailed_storesWf (putInputs_storesWf h)
      · exact modFlightAt_storesWf (orCvt_storesWf (putInputs_storesWf h))
    · refine storesWf_ite (accessFailed_storesWf (ownRead_storesWf h)) ?_
      refine storesWf_ite ?_ ?_
      · exact accessFailed_storesWf (putRows_storesWf (ownRead_storesWf h))
      · exact performed_storesWf (modFlightAt_storesWf (putRows_storesWf (ownRead_storesWf h)))
  · exact h

theorem traceClasp_storesWf {t p op target clasp} (h : d.storesWf) : (d.traceClasp t p op target clasp).storesWf :=
  (traceRec_told _ _ _ _ _ _).storesWf h

theorem stClw_storesWf {t k} (h : d.storesWf) : (d.stClw t k).storesWf := by
  unfold Device.stClw
  split
  · refine storesWf_ite (execFault_storesWf h) ?_
    dsimp only
    split
    · refine storesWf_ite ?_ ?_
      · exact (claspFrom_touched _ _ _ _ _ _ _ _ _ _ _ _).wf h
      · exact execFault_storesWf ((claspFrom_touched _ _ _ _ _ _ _ _ _ _ _ _).wf h)
    · exact (claspFrom_touched _ _ _ _ _ _ _ _ _ _ _ _).wf h
    · exact (claspFrom_touched _ _ _ _ _ _ _ _ _ _ _ _).wf h
    · exact performed_storesWf (traceClasp_storesWf ((claspFrom_touched _ _ _ _ _ _ _ _ _ _ _ _).wf h))
  · exact h

/-! ### CL -/

theorem noteDenied_storesWf {t} (h : d.storesWf) : (d.noteDenied t).storesWf := modTile_storesWf h (fun _ => rfl)

theorem sentAs_storesWf {t e k tag} (h : d.storesWf) : (d.sentAs t e k tag).storesWf := modFlightAt_storesWf (performed_storesWf h)

theorem returnWord_storesWf {t e f word} (h : d.storesWf) : (d.returnWord t e f word).storesWf :=
  storesWf_ite (storesWf_ite (ownWrite_storesWf h) (execFault_storesWf (ownWrite_storesWf h))) h

theorem claspPoisoned_storesWf {t e f chip tile} (h : d.storesWf) : (d.claspPoisoned t e f chip tile).storesWf :=
  storesWf_ite h (execFault_storesWf h)

theorem clAtomic_storesWf {t k top code} (h : d.storesWf) : (d.clAtomic t k top code).storesWf := by
  unfold Device.clAtomic
  split
  · dsimp only
    split
    · exact execFault_storesWf h
    · refine storesWf_ite (execFault_storesWf (ownRead_storesWf h)) ?_
      split
      · refine performed_storesWf ?_
        refine returnWord_storesWf ?_
        exact traceClasp_storesWf ((claspFrom_touched _ _ _ _ _ _ _ _ _ _ _ _).wf (ownRead_storesWf h))
      · refine claspPoisoned_storesWf ?_
        exact traceClasp_storesWf ((claspFrom_touched _ _ _ _ _ _ _ _ _ _ _ _).wf (ownRead_storesWf h))
      · refine performed_storesWf ?_
        refine noteDenied_storesWf ?_
        exact traceClasp_storesWf ((claspFrom_touched _ _ _ _ _ _ _ _ _ _ _ _).wf (ownRead_storesWf h))
      · refine performed_storesWf ?_
        exact traceClasp_storesWf ((claspFrom_touched _ _ _ _ _ _ _ _ _ _ _ _).wf (ownRead_storesWf h))
      · exact sentAs_storesWf (traceClasp_storesWf ((claspFrom_touched _ _ _ _ _ _ _ _ _ _ _ _).wf (ownRead_storesWf h)))
      · exact (claspFrom_touched _ _ _ _ _ _ _ _ _ _ _ _).wf (ownRead_storesWf h)
      · exact (claspFrom_touched _ _ _ _ _ _ _ _ _ _ _ _).wf (ownRead_storesWf h)
  · exact h

theorem clRegister_storesWf {t k wait} (h : d.storesWf) : (d.clRegister t k wait).storesWf := by
  unfold Device.clRegister
  split
  · dsimp only
    split
    · exact execFault_storesWf h
    · refine storesWf_ite (execFault_storesWf (ownRead_storesWf h)) ?_
      split
      · refine performed_storesWf ?_
        refine returnWord_storesWf ?_
        exact traceClasp_storesWf ((watchFrom_touched _ _ _ _ _ _ _ _ _ _ _ _).wf (ownRead_storesWf h))
      · refine performed_storesWf ?_
        exact traceClasp_storesWf ((watchFrom_touched _ _ _ _ _ _ _ _ _ _ _ _).wf (ownRead_storesWf h))
      · refine performed_storesWf ?_
        refine returnWord_storesWf ?_
        exact traceClasp_storesWf ((watchFrom_touched _ _ _ _ _ _ _ _ _ _ _ _).wf (ownRead_storesWf h))
      · refine claspPoisoned_storesWf ?_
        exact traceClasp_storesWf ((watchFrom_touched _ _ _ _ _ _ _ _ _ _ _ _).wf (ownRead_storesWf h))
      · refine performed_storesWf ?_
        refine noteDenied_storesWf ?_
        exact traceClasp_storesWf ((watchFrom_touched _ _ _ _ _ _ _ _ _ _ _ _).wf (ownRead_storesWf h))
      · refine performed_storesWf ?_
        exact traceClasp_storesWf ((watchFrom_touched _ _ _ _ _ _ _ _ _ _ _ _).wf (ownRead_storesWf h))
      · exact sentAs_storesWf (traceClasp_storesWf ((watchFrom_touched _ _ _ _ _ _ _ _ _ _ _ _).wf (ownRead_storesWf h)))
      · exact (watchFrom_touched _ _ _ _ _ _ _ _ _ _ _ _).wf (ownRead_storesWf h)
      · exact (watchFrom_touched _ _ _ _ _ _ _ _ _ _ _ _).wf (ownRead_storesWf h)
  · exact h

theorem modFlightWhere_storesWf {t e p f} (h : d.storesWf) : (d.modFlightWhere t e p f).storesWf := modFlight_storesWf h

theorem answerWatch_storesWf {p t w poison word} (h : d.storesWf) : (d.answerWatch p t w poison word).storesWf := by
  unfold Device.answerWatch
  refine storesWf_ite ?_ ?_
  · split
    · exact (inject_touched _ _ _ _ _ _ _).wf h
    · exact h
  · split
    · refine storesWf_ite h ?_
      refine storesWf_ite ?_ (storesWf_ite h (modFlightWhere_storesWf h))
      split
      · exact claspPoisoned_storesWf h
      · exact h
    · exact h

theorem acceptWaiting_storesWf {t} (h : d.storesWf) : (d.acceptWaiting t).storesWf := by
  unfold Device.acceptWaiting
  dsimp only
  split
  · exact answerWatch_storesWf ((judgeWatch_touched _ _ _ _ _).wf (modTile_storesWf h (fun _ => rfl)))
  · exact h

/-! ### Movers -/

theorem chanOp_storesWf {m k x chip t n scope2 a} (h : d.storesWf) : (d.chanOp m k x chip t n scope2 a).2.storesWf := by
  unfold Device.chanOp
  dsimp only
  split
  · refine ite_snd_storesWf ?_ ?_
    · exact (claspFrom_touched _ _ _ _ _ _ _ _ _ _ _ _).wf h
    · exact (claspSend_touched _ _ _ _ _ _ _ _ _).wf h
  · exact (claspSend_touched _ _ _ _ _ _ _ _ _).wf h

theorem metWith_storesWf {d0 : Device} {x} (h1 : d.storesWf) : (d0.metWith d x).storesWf := by
  unfold Device.metWith
  split
  · exact storesWf_ite (modCtx_storesWf h1) h1
  · exact h1

theorem failChannel_storesWf {m k x at_ f} (h : d.storesWf) : (d.failChannel m k x at_ f).storesWf := by
  unfold Device.failChannel
  dsimp only
  split
  · exact (traceSlot_worked _ _ _ _ _).wf ((modSlot_worked _ _ _ _).wf h)
  · split
    · exact (traceSlot_worked _ _ _ _ _).wf ((modSlot_worked _ _ _ _).wf ((faultTile_touched _ _ _ _ _ _).wf h))
    · exact (traceSlot_worked _ _ _ _ _).wf ((modSlot_worked _ _ _ _).wf h)
  · exact (modSlot_worked _ _ _ _).wf ((askRepair_worked _ _ _ _).wf h)
  · exact (modSlot_worked _ _ _ _).wf h

theorem claspFailed_storesWf {m k x tile denied} (h : d.storesWf) : (d.claspFailed m k x tile denied).storesWf := by
  unfold Device.claspFailed
  refine storesWf_ite ?_ ?_
  · exact (failChannel_worked _ _ _ _ _ _).wf h
  · exact storesWf_ite ((failChannel_worked _ _ _ _ _ _).wf h) ((failChannel_worked _ _ _ _ _ _).wf h)

theorem mvLaunch_storesWf {t k} (h : d.storesWf) : (d.mvLaunch t k).storesWf := by
  unfold Device.mvLaunch
  split
  · split
    · refine storesWf_ite h ?_
      refine storesWf_ite ?_ ((traceSlot_worked _ _ _ _ _).wf ((modSlot_worked _ _ _ _).wf (performed_storesWf h)) :)
      exact (acceptSlot_worked _ _ _ _).wf (performed_storesWf h)
    · exact h
  · exact h

theorem descForward_storesWf {m} (h : d.storesWf) : (d.descForward m).storesWf := by
  unfold Device.descForward
  split
  · exact h
  · refine storesWf_ite ((modMover_worked _ _ _).wf h) ?_
    split
    · next he =>
        have h1 := placeDesc_storesWf he h
        exact h1
    · exact (modMover_worked _ _ _).wf h

theorem endReport_storesWf {t} (h : d.storesWf) : (d.endReport t).storesWf := by
  unfold Device.endReport
  split
  · exact h
  · exact (endAtTile_worked _ _ _ _).wf h

theorem launchRead_storesWf {m x off n} (h : d.storesWf) : (d.launchRead m x off n).2.storesWf := by
  unfold Device.launchRead
  split
  · exact h
  · exact ite_snd_storesWf (ite_snd_storesWf h ((pocketRead_touched _ _ _ _ _).wf h)) ((meshRead_touched _ _ _ _).wf h)

theorem rowOffset_storesWf {m x r row} (h : d.storesWf) : (d.rowOffset m x r row).2.storesWf := by
  unfold Device.rowOffset
  refine ite_snd_storesWf h ?_
  refine ite_snd_storesWf ?_ ?_
  · exact ite_snd_storesWf (hbmRead_storesWf h) (launchRead_storesWf h)
  · exact ite_snd_storesWf (hbmRead_storesWf h) (launchRead_storesWf h)

theorem placeOf_storesWf {m x dst k base} (h : d.storesWf) : (d.placeOf m x dst k base).2.storesWf := by
  unfold Device.placeOf
  dsimp only
  split
  · exact rowOffset_storesWf h
  · exact rowOffset_storesWf h

theorem pocketJudge_storesWf {p t off n right} (h : d.storesWf) : (d.pocketJudge p t off n right).2.storesWf := by
  unfold Device.pocketJudge
  split
  · exact ite_snd_storesWf h (ite_snd_storesWf h (ite_snd_storesWf h ((violation_touched _ _ _ _ _ _ _).wf h)))
  · exact h

theorem chanRead_storesWf {m x e a n} (h : d.storesWf) : (d.chanRead m x e a n).2.storesWf := by
  unfold Device.chanRead
  refine ite_snd_storesWf (launchRead_storesWf h) ?_
  refine ite_snd_storesWf ?_ ?_
  · exact ite_snd_storesWf ((meshRead_touched _ _ _ _).wf (pocketJudge_storesWf h)) (pocketJudge_storesWf h)
  · exact ite_snd_storesWf (hbmRead_storesWf h) (ite_snd_storesWf (tmemRead_storesWf h) h)

theorem chanWrite_storesWf {m x e a bs} (h : d.storesWf) : (d.chanWrite m x e a bs).2.storesWf := by
  unfold Device.chanWrite
  refine ite_snd_storesWf ?_ ?_
  · dsimp only
    split
    · exact h
    · refine ite_snd_storesWf ?_ ((meshWrite_touched _ _ _ _).wf h)
      refine ite_snd_storesWf h ?_
      split
      · exact (faultTile_touched _ _ _ _ _ _).wf ((pocketWrite_touched _ _ _ _ _).wf h)
      · exact (pocketWrite_touched _ _ _ _ _).wf h
  · refine ite_snd_storesWf (ite_snd_storesWf ((meshWrite_touched _ _ _ _).wf (pocketJudge_storesWf h)) (pocketJudge_storesWf h)) ?_
    refine ite_snd_storesWf ?_ ?_
    · exact (hbmWrite_worked _ _ _ _ _).wf h
    · exact ite_snd_storesWf ((tmemWrite_worked _ _ _ _).wf h) (storesWf_hostWrite _ _ _ h)

theorem delivered_storesWf {m k} (h : d.storesWf) : (d.delivered m k).storesWf := by
  unfold Device.delivered
  dsimp only
  split
  · exact h
  · exact storesWf_ite ((count_told _ _ _ _ _).storesWf ((modSlot_worked _ _ _ _).wf h)) h

theorem putPiece_storesWf {m k x a bs} (h : d.storesWf) : (d.putPiece m k x a bs).storesWf := by
  unfold Device.putPiece
  refine storesWf_ite ?_ ?_
  · refine storesWf_ite ?_ ?_
    · exact (failChannel_worked _ _ _ _ _ _).wf h
    · exact (modSlot_worked _ _ _ _).wf ((inject_touched _ _ _ _ _ _ _).wf h)
  · refine storesWf_ite (delivered_storesWf ((modSlot_worked _ _ _ _).wf (chanWrite_storesWf h))) ?_
    refine storesWf_ite ?_ ?_
    · exact (failChannel_worked _ _ _ _ _ _).wf (chanWrite_storesWf h)
    · exact (failChannel_worked _ _ _ _ _ _).wf (chanWrite_storesWf h)

theorem fetchPiece_storesWf {m k x} (h : d.storesWf) : (d.fetchPiece m k x).2.storesWf := by
  unfold Device.fetchPiece
  dsimp only
  split
  · exact (failChannel_worked _ _ _ _ _ _).wf (placeOf_storesWf h)
  · refine ite_snd_storesWf ?_ ?_
    · refine ite_snd_storesWf ((failChannel_worked _ _ _ _ _ _).wf (placeOf_storesWf h)) ?_
      refine (modSlot_worked _ _ _ _).wf ?_
      exact (inject_touched _ _ _ _ _ _ _).wf ((newTag_touched _ _).wf (placeOf_storesWf h))
    · refine ite_snd_storesWf ?_ ?_
      · exact (modSlot_worked _ _ _ _).wf (chanRead_storesWf (placeOf_storesWf h))
      · exact (failChannel_worked _ _ _ _ _ _).wf (chanRead_storesWf (placeOf_storesWf h))

theorem movePiece_storesWf {m k x} (h : d.storesWf) : (d.movePiece m k x).2.storesWf := by
  unfold Device.movePiece
  refine ite_snd_storesWf h ?_
  dsimp only
  split
  · exact (failChannel_worked _ _ _ _ _ _).wf (placeOf_storesWf h)
  · refine ite_snd_storesWf ?_ ?_
    · exact fetchPiece_storesWf (placeOf_storesWf h)
    · exact ite_snd_storesWf (placeOf_storesWf h) (putPiece_storesWf (placeOf_storesWf h))

theorem moveN_storesWf {n m k x} (h : d.storesWf) : (Device.moveN n d m k x).storesWf := by
  induction n generalizing d with
  | zero => exact h
  | succ n ih =>
    unfold Device.moveN
    exact storesWf_ite (ih (movePiece_storesWf h)) (movePiece_storesWf h)

theorem moveOn_storesWf {m k} (h : d.storesWf) : (d.moveOn m k).storesWf := by
  unfold Device.moveOn
  dsimp only
  split
  · exact moveN_storesWf h
  · exact h

theorem poolServed_storesWf {p n req} (h : d.storesWf) : (d.poolServed p n req).storesWf := modPool_storesWf h

theorem poolMissed_storesWf {p n} (h : d.storesWf) : (d.poolMissed p n).storesWf := (count_told _ _ _ _ _).storesWf (modPool_storesWf h)

theorem poolEmpty_storesWf {m k x chip t n scope2} (h : d.storesWf) : (d.poolEmpty m k x chip t n scope2).storesWf := by
  unfold Device.poolEmpty
  refine storesWf_ite ?_ ((failChannel_worked _ _ _ _ _ _).wf h)
  dsimp only
  split
  · refine (claspFailed_worked _ _ _ _ _ _).wf ?_
    exact (chanWatch_touched _ _ _ _ _ _ _ _ _ _).wf ((modSlot_worked _ _ _ _).wf h)
  · refine (claspFailed_worked _ _ _ _ _ _).wf ?_
    exact (chanWatch_touched _ _ _ _ _ _ _ _ _ _).wf ((modSlot_worked _ _ _ _).wf h)
  · exact (modSlot_worked _ _ _ _).wf ((chanWatch_touched _ _ _ _ _ _ _ _ _ _).wf ((modSlot_worked _ _ _ _).wf h))
  · exact (chanWatch_touched _ _ _ _ _ _ _ _ _ _).wf ((modSlot_worked _ _ _ _).wf h)

theorem poolTaken_storesWf {m k s base clasp} (h : d.storesWf) : (d.poolTaken m k s base clasp).storesWf := (modSlot_worked _ _ _ _).wf h

theorem allocSlot_storesWf {m k x} (h : d.storesWf) : (d.allocSlot m k x).2.storesWf := by
  unfold Device.allocSlot
  generalize x.ep true = e
  generalize 4096 = slotSize
  have hop (chip t n scope2 a) : (d.chanOp m k x chip t n scope2 a).2.storesWf := chanOp_storesWf h
  refine ite_snd_storesWf ?_ ?_
  · generalize clArg _ _ = a
    specialize hop e.chip e.tile 0 true a
    generalize d.chanOp m k x e.chip e.tile 0 true a = r at hop ⊢
    obtain ⟨c, r⟩ := r
    cases c with
    | sent g => exact modSlot_storesWf hop
    | word w => exact poolTaken_storesWf hop
    | denied => exact claspFailed_storesWf hop
    | held => exact modSlot_storesWf hop
    | poison => exact hop
    | waits => exact hop
    | diverged => exact hop
  · split
    · exact failChannel_storesWf h
    · next p pool _ =>
      refine ite_snd_storesWf (claspFailed_storesWf (violation_storesWf h)) ?_
      generalize clArg _ _ = a
      specialize hop e.chip e.tile (fin pool.freeClasp) (decide (p ≠ x.part)) a
      dsimp only
      generalize d.chanOp m k x e.chip e.tile (fin pool.freeClasp) (decide (p ≠ x.part)) a = r at hop ⊢
      obtain ⟨c, r⟩ := r
      cases c with
      | sent g => exact hop
      | word w =>
        dsimp only
        split
        · exact poolTaken_storesWf (poolServed_storesWf hop)
        · exact poolEmpty_storesWf (storesWf_ite (metWith_storesWf hop) (poolMissed_storesWf (metWith_storesWf hop)))
      | denied => exact claspFailed_storesWf hop
      | held => exact modSlot_storesWf hop
      | poison => exact claspFailed_storesWf hop
      | waits => exact hop
      | diverged => exact hop

theorem startChannel_storesWf {m k x} (h : d.storesWf) : (d.startChannel m k x).storesWf :=
  moveOn_storesWf ((modSlot_worked _ _ _ _).wf h)

theorem moverSelect_storesWf {m} (h : d.storesWf) : (d.moverSelect m).storesWf := by
  unfold Device.moverSelect
  dsimp only
  split
  · split
    · refine storesWf_ite h ?_
      refine storesWf_ite ?_ ?_
      · exact storesWf_ite (startChannel_storesWf (allocSlot_storesWf h)) (allocSlot_storesWf h)
      · exact storesWf_ite (startChannel_storesWf h) (moveOn_storesWf h)
    · exact h
  · refine storesWf_ite h ?_
    split
    · exact h
    · split
      · exact h
      · refine storesWf_ite ((traceSlot_worked _ _ _ _ _).wf ((modSlot_worked _ _ _ _).wf h)) ?_
        refine storesWf_ite ?_ ?_
        · refine storesWf_ite ?_ ?_
          · exact startChannel_storesWf (allocSlot_storesWf ((traceSlot_worked _ _ _ _ _).wf ((modSlot_worked _ _ _ _).wf h)))
          · exact allocSlot_storesWf ((traceSlot_worked _ _ _ _ _).wf ((modSlot_worked _ _ _ _).wf h))
        · refine storesWf_ite ?_ ?_
          · exact startChannel_storesWf ((traceSlot_worked _ _ _ _ _).wf ((modSlot_worked _ _ _ _).wf h))
          · exact moveOn_storesWf ((traceSlot_worked _ _ _ _ _).wf ((modSlot_worked _ _ _ _).wf h))

theorem paceStart_storesWf {m k} (h : d.storesWf) : (d.paceStart m k).storesWf := by
  unfold Device.paceStart
  dsimp only
  split
  · exact storesWf_ite ((traceSlot_worked _ _ _ _ _).wf ((modSlot_worked _ _ _ _).wf h)) h
  · exact h

theorem nextBurst_storesWf {m k x} (h : d.storesWf) : (d.nextBurst m k x).storesWf :=
  moveOn_storesWf ((traceSlot_worked _ _ _ _ _).wf ((modSlot_worked _ _ _ _).wf h))

theorem burstStart_storesWf {m} (h : d.storesWf) : (d.burstStart m).storesWf := by
  unfold Device.burstStart
  split
  · exact storesWf_ite (nextBurst_storesWf h) h
  · exact h

theorem burstDone_storesWf {m} (h : d.storesWf) : (d.burstDone m).storesWf := by
  unfold Device.burstDone
  split
  · refine storesWf_ite ?_ h
    refine storesWf_ite ?_ ?_
    · exact nextBurst_storesWf ((count_told _ _ _ _ _).storesWf ((modSlot_worked _ _ _ _).wf h))
    · exact (traceSlot_worked _ _ _ _ _).wf ((modSlot_worked _ _ _ _).wf h)
  · exact h

theorem tailAdd_storesWf {m k x} (h : d.storesWf) : (d.tailAdd m k x).storesWf := by
  unfold Device.tailAdd
  refine storesWf_ite ?_ h
  dsimp only
  split
  · exact (claspFailed_worked _ _ _ _ _ _).wf ((chanOp_worked _ _ _ _ _ _ _ _ _).wf h)
  · exact (claspFailed_worked _ _ _ _ _ _).wf ((chanOp_worked _ _ _ _ _ _ _ _ _).wf h)
  · exact (chanOp_worked _ _ _ _ _ _ _ _ _).wf h
  · exact (chanOp_worked _ _ _ _ _ _ _ _ _).wf h
  · exact (modSlot_worked _ _ _ _).wf ((chanOp_worked _ _ _ _ _ _ _ _ _).wf h)

theorem nextUnit_storesWf {m k x} (h : d.storesWf) : (d.nextUnit m k x).storesWf := by
  unfold Device.nextUnit
  dsimp only
  split
  · refine storesWf_ite ?_ ?_
    · refine tailAdd_storesWf ?_
      refine moveOn_storesWf ?_
      refine (modSlot_worked _ _ _ _).wf ?_
      refine (chanOp_worked _ _ _ _ _ _ _ _ _).wf ?_
      refine storesWf_ite ?_ ?_
      · exact (chanOp_worked _ _ _ _ _ _ _ _ _).wf h
      · exact metWith_storesWf ((chanOp_worked _ _ _ _ _ _ _ _ _).wf h)
    · refine (paceWatch_worked _ _ _ _).wf ?_
      refine (traceSlot_worked _ _ _ _ _).wf ?_
      refine (modSlot_worked _ _ _ _).wf ?_
      refine metWith_storesWf ?_
      refine (chanOp_worked _ _ _ _ _ _ _ _ _).wf ?_
      refine storesWf_ite ?_ ?_
      · exact (chanOp_worked _ _ _ _ _ _ _ _ _).wf h
      · exact metWith_storesWf ((chanOp_worked _ _ _ _ _ _ _ _ _).wf h)
  · refine (claspFailed_worked _ _ _ _ _ _).wf ?_
    refine (chanOp_worked _ _ _ _ _ _ _ _ _).wf ?_
    refine storesWf_ite ?_ ?_
    · exact (chanOp_worked _ _ _ _ _ _ _ _ _).wf h
    · exact metWith_storesWf ((chanOp_worked _ _ _ _ _ _ _ _ _).wf h)
  · refine (claspFailed_worked _ _ _ _ _ _).wf ?_
    refine (chanOp_worked _ _ _ _ _ _ _ _ _).wf ?_
    refine storesWf_ite ?_ ?_
    · exact (chanOp_worked _ _ _ _ _ _ _ _ _).wf h
    · exact metWith_storesWf ((chanOp_worked _ _ _ _ _ _ _ _ _).wf h)
  · refine (claspFailed_worked _ _ _ _ _ _).wf ?_
    refine (chanOp_worked _ _ _ _ _ _ _ _ _).wf ?_
    refine storesWf_ite ?_ ?_
    · exact (chanOp_worked _ _ _ _ _ _ _ _ _).wf h
    · exact metWith_storesWf ((chanOp_worked _ _ _ _ _ _ _ _ _).wf h)
  · refine (claspFailed_worked _ _ _ _ _ _).wf ?_
    refine (chanOp_worked _ _ _ _ _ _ _ _ _).wf ?_
    refine storesWf_ite ?_ ?_
    · exact (chanOp_worked _ _ _ _ _ _ _ _ _).wf h
    · exact metWith_storesWf ((chanOp_worked _ _ _ _ _ _ _ _ _).wf h)
  · refine (chanOp_worked _ _ _ _ _ _ _ _ _).wf ?_
    refine storesWf_ite ?_ ?_
    · exact (chanOp_worked _ _ _ _ _ _ _ _ _).wf h
    · exact metWith_storesWf ((chanOp_worked _ _ _ _ _ _ _ _ _).wf h)

theorem fillUnit_storesWf {m} (h : d.storesWf) : (d.fillUnit m).storesWf := by
  unfold Device.fillUnit
  split
  · exact storesWf_ite h (storesWf_ite (tailAdd_storesWf (moveOn_storesWf h)) (storesWf_ite (nextUnit_storesWf h) h))
  · exact h

theorem channelEnd_storesWf {m k} (h : d.storesWf) : (d.channelEnd m k).storesWf := by
  unfold Device.channelEnd
  dsimp only
  split
  · exact h
  · refine storesWf_ite h ?_
    refine storesWf_ite ((endChannel_worked _ _ _ _).wf h) ?_
    refine storesWf_ite ((failChannel_worked _ _ _ _ _ _).wf h) ?_
    split
    · exact (modSlot_worked _ _ _ _).wf ((chanOp_worked _ _ _ _ _ _ _ _ _).wf h)
    · exact (claspFailed_worked _ _ _ _ _ _).wf ((chanOp_worked _ _ _ _ _ _ _ _ _).wf h)
    · exact (claspFailed_worked _ _ _ _ _ _).wf ((chanOp_worked _ _ _ _ _ _ _ _ _).wf h)
    · exact (chanOp_worked _ _ _ _ _ _ _ _ _).wf h
    · exact (chanOp_worked _ _ _ _ _ _ _ _ _).wf h
    · exact (endChannel_worked _ _ _ _).wf ((chanOp_worked _ _ _ _ _ _ _ _ _).wf h)

theorem channelStopped_storesWf {m k} (h : d.storesWf) : (d.channelStopped m k).storesWf := by
  unfold Device.channelStopped
  dsimp only
  split
  · exact h
  · refine storesWf_ite h ?_
    refine storesWf_ite ?_ ?_
    · exact (returnSlot_worked _ _ _ _).wf h
    · exact (endChannel_worked _ _ _ _).wf ((returnSlot_worked _ _ _ _).wf h)

theorem mvCancel_storesWf {t k} (h : d.storesWf) : (d.mvCancel t k).storesWf := by
  unfold Device.mvCancel
  split
  · exact h
  · refine performed_storesWf ?_
    exact storesWf_ite (storesWf_ite h ((cancelProxy_worked _ _ _).wf h)) ((cancelSlot_worked _ _ _).wf h)

theorem mvSetprio_storesWf {t k} (h : d.storesWf) : (d.mvSetprio t k).storesWf := by
  unfold Device.mvSetprio
  split
  · exact h
  · dsimp only
    split
    · exact (modMover_worked _ _ _).wf ((modSlot_worked _ _ _ _).wf (performed_storesWf h) :)
    · exact (modSlot_worked _ _ _ _).wf (performed_storesWf h)

theorem chanNotified_storesWf {m k abandoned} (h : d.storesWf) : (d.chanNotified m k abandoned).storesWf := by
  unfold Device.chanNotified
  dsimp only
  split
  · exact h
  · refine storesWf_ite h ?_
    refine storesWf_ite ((failChannel_worked _ _ _ _ _ _).wf ((modSlot_worked _ _ _ _).wf h)) ?_
    refine storesWf_ite ?_ ?_
    · exact (traceSlot_worked _ _ _ _ _).wf ((modSlot_worked _ _ _ _).wf h)
    · exact (traceSlot_worked _ _ _ _ _).wf ((modSlot_worked _ _ _ _).wf h)

end
end Sys2Proof.Machine

/-! Canonical stores (log 6): the edits of gather engines and notifications keep them. -/

namespace Sys2Proof.Machine
section
variable {d : Device}

/-! ### Gather engines -/

theorem modJob_storesWf {g f} (h : d.storesWf) : (d.modJob g f).storesWf := (modGather_worked _ _ _).wf h

theorem arrRead_storesWf {p x addr n} (h : d.storesWf) : (d.arrRead p x addr n).2.storesWf := by
  unfold Device.arrRead
  refine ite_snd_storesWf ?_ ?_
  · exact ite_snd_storesWf (hbmRead_storesWf h) ((meshRead_touched _ _ _ _).wf h)
  · exact ite_snd_storesWf (hbmRead_storesWf h) ((meshRead_touched _ _ _ _).wf h)

theorem cacheInstall_storesWf {pn x} (h : d.storesWf) : (d.cacheInstall pn x).storesWf :=
  storesWf_ite h (storesWf_ite h (free_storesWf h :))

theorem cachePiece_storesWf {g p space addr n} (h : d.storesWf) : (d.cachePiece g p space addr n).2.storesWf := by
  unfold Device.cachePiece
  dsimp only
  split
  · exact (count_told _ _ _ _ _).storesWf h
  · refine ite_snd_storesWf ?_ ?_
    · refine cacheInstall_storesWf ?_
      refine ite_snd_storesWf ?_ ?_
      · exact hbmRead_storesWf ((count_told _ _ _ _ _).storesWf h)
      · exact tmemRead_storesWf ((usePort_worked _ _ _ _).wf ((count_told _ _ _ _ _).storesWf h))
    · refine ite_snd_storesWf ?_ ?_
      · exact hbmRead_storesWf ((count_told _ _ _ _ _).storesWf h)
      · exact tmemRead_storesWf ((usePort_worked _ _ _ _).wf ((count_told _ _ _ _ _).storesWf h))

theorem rowRead_storesWf {g p space addr n} (h : d.storesWf) : (d.rowRead g p space addr n).2.storesWf := by
  unfold Device.rowRead
  refine foldl_snd_storesWf (fun _ _ h1 => ?_) _ ?_
  · dsimp only
    split
    · exact h1
    · exact ite_snd_storesWf (cachePiece_storesWf h1) (cachePiece_storesWf h1)
  · exact h

theorem mapRead_storesWf {g p addr n} (h : d.storesWf) : (d.mapRead g p addr n).2.storesWf := by
  unfold Device.mapRead
  dsimp only
  split
  · exact h
  · refine ite_snd_storesWf ?_ ?_
    · exact hbmRead_storesWf h
    · exact (modJob_worked _ _ _).wf (ite_snd_storesWf (hbmRead_storesWf h) (free_storesWf (hbmRead_storesWf h)))

theorem rowPlace_storesWf {g p t r} (h : d.storesWf) : (d.rowPlace g p t r).2.storesWf := by
  unfold Device.rowPlace
  dsimp only
  split
  · exact mapRead_storesWf h
  · refine ite_snd_storesWf (mapRead_storesWf h) ?_
    split
    · refine foldl_snd_storesWf (fun _ _ h1 => ?_) _ ?_
      · split
        · exact h1
        · split
          · exact mapRead_storesWf h1
          · exact mapRead_storesWf h1
      · exact mapRead_storesWf h
    · refine ite_snd_storesWf ?_ ?_
      · refine foldl_snd_storesWf (fun _ _ h1 => ?_) _ ?_
        · split
          · exact h1
          · split
            · exact mapRead_storesWf h1
            · exact mapRead_storesWf h1
        · exact mapRead_storesWf h
      · refine ite_snd_storesWf ?_ ?_
        · refine foldl_snd_storesWf (fun _ _ h1 => ?_) _ ?_
          · split
            · exact h1
            · split
              · exact mapRead_storesWf h1
              · exact mapRead_storesWf h1
          · exact mapRead_storesWf h
        · refine foldl_snd_storesWf (fun _ _ h1 => ?_) _ ?_
          · split
            · exact h1
            · split
              · exact mapRead_storesWf h1
              · exact mapRead_storesWf h1
          · exact mapRead_storesWf h

theorem fetchRow_storesWf {g p t r} (h : d.storesWf) : (d.fetchRow g p t r).2.storesWf := by
  unfold Device.fetchRow
  dsimp only
  split
  · exact rowPlace_storesWf h
  · split
    · exact rowRead_storesWf ((count_told _ _ _ _ _).storesWf (rowPlace_storesWf h))
    · exact rowRead_storesWf ((count_told _ _ _ _ _).storesWf (rowPlace_storesWf h))

theorem poolBag_storesWf {g p x t lo n} (h : d.storesWf) : (d.poolBag g p x t lo n).2.storesWf := by
  unfold Device.poolBag
  refine foldl_snd_storesWf (fun _ _ h1 => ?_) _ ?_
  · dsimp only
    split
    · exact h1
    · split
      · exact arrRead_storesWf h1
      · refine ite_snd_storesWf (arrRead_storesWf h1) ?_
        split
        · exact ite_snd_storesWf (arrRead_storesWf (arrRead_storesWf h1)) (arrRead_storesWf h1)
        · split
          · exact fetchRow_storesWf (ite_snd_storesWf (arrRead_storesWf (arrRead_storesWf h1)) (arrRead_storesWf h1))
          · exact fetchRow_storesWf (ite_snd_storesWf (arrRead_storesWf (arrRead_storesWf h1)) (arrRead_storesWf h1))
  · exact h

theorem bagRange_storesWf {p x b} (h : d.storesWf) : (d.bagRange p x b).2.storesWf := by
  unfold Device.bagRange
  dsimp only
  split
  · exact arrRead_storesWf h
  · exact ite_snd_storesWf (arrRead_storesWf h) (arrRead_storesWf h)

theorem doBag_storesWf {g p j b} (h : d.storesWf) : (d.doBag g p j b).2.storesWf := by
  unfold Device.doBag
  dsimp only
  split
  · exact bagRange_storesWf h
  · split
    · exact poolBag_storesWf (bagRange_storesWf h)
    · refine ite_snd_storesWf ?_ ?_
      · exact poolBag_storesWf (bagRange_storesWf h)
      · exact (meshWrite_touched _ _ _ _).wf (poolBag_storesWf (bagRange_storesWf h))

theorem stopJob_storesWf {g s} (h : d.storesWf) : (d.stopJob g s).storesWf := by
  unfold Device.stopJob
  split
  · exact (modJob_worked _ _ _).wf h
  · exact (modJob_worked _ _ _).wf ((askRepair_worked _ _ _ _).wf h)
  · exact (modJob_worked _ _ _).wf h

theorem doBags_storesWf {n g p} (h : d.storesWf) : (Device.doBags n d g p).storesWf := by
  induction n generalizing d with
  | zero => exact h
  | succ n ih =>
    unfold Device.doBags
    split
    · exact h
    · next j _ =>
      refine storesWf_ite (modJob_storesWf h) ?_
      have hb := doBag_storesWf h (g := g) (p := p) (j := j) (b := j.bags)
      dsimp only
      split
      · exact stopJob_storesWf hb
      · exact ih (modJob_storesWf hb)

theorem readJob_storesWf {p addr} (h : d.storesWf) : (d.readJob p addr).2.storesWf := by
  unfold Device.readJob
  refine ite_snd_storesWf (hbmRead_storesWf h) ?_
  refine ite_snd_storesWf (hbmRead_storesWf h) ?_
  refine ite_snd_storesWf ?_ ?_
  · exact hbmRead_storesWf h
  · exact ite_snd_storesWf (hbmRead_storesWf (hbmRead_storesWf h)) (hbmRead_storesWf (hbmRead_storesWf h))

theorem takeJob_storesWf {g ops} (h : d.storesWf) : (d.takeJob g ops).storesWf := by
  unfold Device.takeJob
  refine storesWf_ite h ?_
  dsimp only
  split
  · refine (stopJob_worked _ _ _).wf ?_
    exact storesWf_ite (readJob_storesWf h) ((modGather_worked _ _ _).wf (readJob_storesWf h))
  · refine storesWf_ite h ?_
    split
    · exact h
    · exact (modGather_worked _ _ _).wf (readJob_storesWf h)

theorem gatherFwd_storesWf {g} (h : d.storesWf) : (d.gatherFwd g).storesWf := by
  unfold Device.gatherFwd
  dsimp only
  split
  · exact doBags_storesWf (takeJob_storesWf h)
  · exact takeJob_storesWf h

theorem gatherProgress_storesWf {g} (h : d.storesWf) : (d.gatherProgress g).storesWf := by
  unfold Device.gatherProgress
  split
  · refine storesWf_ite ?_ h
    dsimp only
    split
    · exact (gatherOp_worked _ _ _ _ _).wf h
    · exact (gatherOp_worked _ _ _ _ _).wf h
    · exact (modJob_worked _ _ _).wf ((gatherOp_worked _ _ _ _ _).wf h)
  · exact h

theorem rowCacheDrop_storesWf {p} (h : d.storesWf) : (d.rowCacheDrop p).storesWf := (rowCacheInv_worked _ _).wf h

theorem gatherRcInv_storesWf {g} (h : d.storesWf) : (d.gatherRcInv g).storesWf := by
  unfold Device.gatherRcInv
  dsimp only
  split
  · exact (modJob_worked _ _ _).wf ((rowCacheInv_worked _ _).wf (takeJob_storesWf h))
  · exact takeJob_storesWf h

/-! ### The backward path of a gather engine -/

theorem bagEntries_storesWf {p x rows b} (h : d.storesWf) : (d.bagEntries p x rows b).2.storesWf := by
  unfold Device.bagEntries
  dsimp only
  split
  · exact bagRange_storesWf h
  · refine foldl_snd_storesWf (fun _ _ h1 => ?_) _ ?_
    · split
      · exact h1
      · split
        · exact arrRead_storesWf h1
        · exact ite_snd_storesWf (arrRead_storesWf h1) (arrRead_storesWf h1)
    · exact bagRange_storesWf h

theorem jobEntries_storesWf {p x rows} (h : d.storesWf) : (d.jobEntries p x rows).2.storesWf := by
  unfold Device.jobEntries
  refine foldl_snd_storesWf (fun _ _ h1 => ?_) _ ?_
  · dsimp only
    split
    · exact h1
    · split
      · exact bagEntries_storesWf h1
      · exact bagEntries_storesWf h1
  · exact h

theorem gradient_storesWf {x n b} (h : d.storesWf) : (d.gradient x n b).2.storesWf :=
  ite_snd_storesWf ((meshRead_touched _ _ _ _).wf h) ((meshRead_touched _ _ _ _).wf h)

theorem contribution_storesWf {p x n e} (h : d.storesWf) : (d.contribution p x n e).2.storesWf := by
  unfold Device.contribution
  dsimp only
  split
  · exact gradient_storesWf h
  · refine ite_snd_storesWf (gradient_storesWf h) ?_
    refine ite_snd_storesWf ?_ (gradient_storesWf h)
    split
    · exact arrRead_storesWf (gradient_storesWf h)
    · exact arrRead_storesWf (gradient_storesWf h)

theorem merged_storesWf {p x n es} (h : d.storesWf) : (d.merged p x n es).2.storesWf := by
  unfold Device.merged
  refine foldl_snd_storesWf (fun _ _ h1 => ?_) _ ?_
  · dsimp only
    split
    · exact h1
    · split
      · exact contribution_storesWf h1
      · exact ite_snd_storesWf (contribution_storesWf h1) (contribution_storesWf h1)
  · exact h

theorem freeBytes_storesWf {n} (h : d.storesWf) : (Device.freeBytes n d).2.storesWf := by
  induction n generalizing d with
  | zero => exact h
  | succ n ih => exact ih (free_storesWf h)

theorem rowElem_storesWf {t r y} (h : d.storesWf) : (d.rowElem t r y).2.storesWf := by
  unfold Device.rowElem
  refine ite_snd_storesWf h ?_
  refine ite_snd_storesWf ?_ h
  split
  · exact free_storesWf h
  · exact h
  · exact h

theorem encodeRow_storesWf {x t step row ws} (h : d.storesWf) : (d.encodeRow x t step row ws).2.storesWf := by
  unfold Device.encodeRow
  refine ite_snd_storesWf (freeBytes_storesWf h) ?_
  refine foldl_snd_storesWf (fun _ _ h1 => ?_) _ ?_
  · exact rowElem_storesWf h1
  · exact h

theorem readState_storesWf {g p x t row} (h : d.storesWf) : (d.readState g p x t row).2.storesWf := by
  unfold Device.readState
  refine ite_snd_storesWf h ?_
  dsimp only
  split
  · exact rowRead_storesWf h
  · exact rowRead_storesWf h

theorem scrPut_storesWf {g p addr bs} (h : d.storesWf) : (d.scrPut g p addr bs).2.storesWf := by
  unfold Device.scrPut
  dsimp only
  split
  · exact (gatherWrite_worked _ _ _ _ _ _).wf h
  · exact (gatherWrite_worked _ _ _ _ _ _).wf h

theorem phaseRow_storesWf {g p x t step row es acc} (h : d.storesWf) : (d.phaseRow g p x t step row es acc).2.storesWf := by
  unfold Device.phaseRow
  dsimp only
  split
  · exact merged_storesWf h
  · split
    · exact fetchRow_storesWf (merged_storesWf h)
    · split
      · exact readState_storesWf (fetchRow_storesWf (merged_storesWf h))
      · split
        · exact scrPut_storesWf (encodeRow_storesWf (readState_storesWf (fetchRow_storesWf (merged_storesWf h))))
        · refine ite_snd_storesWf ?_ ?_
          · refine scrPut_storesWf ?_
            exact scrPut_storesWf (encodeRow_storesWf (readState_storesWf (fetchRow_storesWf (merged_storesWf h))))
          · refine scrPut_storesWf ?_
            exact scrPut_storesWf (encodeRow_storesWf (readState_storesWf (fetchRow_storesWf (merged_storesWf h))))
        · refine ite_snd_storesWf ?_ ?_
          · refine scrPut_storesWf ?_
            exact scrPut_storesWf (encodeRow_storesWf (readState_storesWf (fetchRow_storesWf (merged_storesWf h))))
          · refine scrPut_storesWf ?_
            exact scrPut_storesWf (encodeRow_storesWf (readState_storesWf (fetchRow_storesWf (merged_storesWf h))))

theorem phaseA_storesWf {g p j step} (h : d.storesWf) : (d.phaseA g p j step).2.storesWf := by
  unfold Device.phaseA
  dsimp only
  split
  · exact jobEntries_storesWf h
  · split
    · exact scrPut_storesWf (freeBytes_storesWf (jobEntries_storesWf h))
    · refine foldl_snd_storesWf (fun _ _ h1 => ?_) _ ?_
      · split
        · exact h1
        · split
          · exact phaseRow_storesWf h1
          · exact phaseRow_storesWf h1
      · exact scrPut_storesWf (freeBytes_storesWf (jobEntries_storesWf h))

theorem gatherBwd_storesWf {g} (h : d.storesWf) : (d.gatherBwd g).storesWf := by
  unfold Device.gatherBwd
  dsimp only
  split
  · exact takeJob_storesWf h
  · refine storesWf_ite (takeJob_storesWf h) ?_
    split
    · exact (stopJob_worked _ _ _).wf ((modJob_worked _ _ _).wf (phaseA_storesWf (takeJob_storesWf h)))
    · exact (modJob_worked _ _ _).wf (phaseA_storesWf (takeJob_storesWf h))

theorem fromScr_storesWf {g p scr n space addr} (h : d.storesWf) : (d.fromScr g p scr n space addr).2.storesWf :=
  ite_snd_storesWf ((gatherWrite_worked _ _ _ _ _ _).wf (hbmRead_storesWf h)) (hbmRead_storesWf h)

theorem placeRow_storesWf {g p j i q} (h : d.storesWf) : (d.placeRow g p j i q).2.storesWf := by
  unfold Device.placeRow
  dsimp only
  split
  · exact fromScr_storesWf h
  · exact ite_snd_storesWf (fromScr_storesWf h) (fromScr_storesWf (fromScr_storesWf h))

theorem placeRows_storesWf {l i g p j} (h : d.storesWf) : (Device.placeRows l i d g p j).storesWf := by
  induction l generalizing d i with
  | nil => exact modJob_storesWf h
  | cons q l ih =>
    unfold Device.placeRows
    dsimp only
    split
    · exact stopJob_storesWf (placeRow_storesWf h)
    · exact ih (modJob_storesWf (placeRow_storesWf h))

theorem gatherPhaseB_storesWf {g} (h : d.storesWf) : (d.gatherPhaseB g).storesWf := by
  unfold Device.gatherPhaseB
  split
  · exact h
  · exact storesWf_ite h (placeRows_storesWf h)

theorem ringNotified_storesWf {g value} (h : d.storesWf) : (d.ringNotified g value).storesWf := (modGather_worked _ _ _).wf h

/-! ### Notifications -/

theorem journalNote_storesWf {t eng n} (h : d.storesWf) : (d.journalNote t eng n).storesWf := modTile_storesWf h (fun _ => rfl)

theorem applyAtTile_storesWf {n} (h : d.storesWf) : (d.applyAtTile n).storesWf := by
  unfold Device.applyAtTile
  refine storesWf_ite h ?_
  refine storesWf_ite ?_ ?_
  · refine (addTok_worked _ _ _ _ _ _).wf ?_
    refine storesWf_ite ?_ ?_
    · refine modTile_storesWf ?_ (fun _ => rfl)
      split
      · exact journalNote_storesWf ((count_told _ _ _ _ _).storesWf h)
      · exact (count_told _ _ _ _ _).storesWf h
    · split
      · exact journalNote_storesWf ((count_told _ _ _ _ _).storesWf h)
      · exact (count_told _ _ _ _ _).storesWf h
  · refine storesWf_ite ?_ ?_
    · refine modFlightWhere_storesWf ?_
      refine storesWf_ite ?_ ?_
      · refine modTile_storesWf ?_ (fun _ => rfl)
        refine storesWf_ite ?_ ?_
        · refine modTile_storesWf ?_ (fun _ => rfl)
          split
          · exact journalNote_storesWf ((count_told _ _ _ _ _).storesWf h)
          · exact (count_told _ _ _ _ _).storesWf h
        · split
          · exact journalNote_storesWf ((count_told _ _ _ _ _).storesWf h)
          · exact (count_told _ _ _ _ _).storesWf h
      · refine storesWf_ite ?_ ?_
        · refine modTile_storesWf ?_ (fun _ => rfl)
          split
          · exact journalNote_storesWf ((count_told _ _ _ _ _).storesWf h)
          · exact (count_told _ _ _ _ _).storesWf h
        · split
          · exact journalNote_storesWf ((count_told _ _ _ _ _).storesWf h)
          · exact (count_told _ _ _ _ _).storesWf h
    · split
      · refine (report_told _ _ _ _ _ _).storesWf ?_
        split
        · exact journalNote_storesWf ((count_told _ _ _ _ _).storesWf h)
        · exact (count_told _ _ _ _ _).storesWf h
      · split
        · exact journalNote_storesWf ((count_told _ _ _ _ _).storesWf h)
        · exact (count_told _ _ _ _ _).storesWf h

theorem applyHeld_storesWf {n} (h : d.storesWf) : (d.applyHeld n).storesWf := by
  unfold Device.applyHeld
  split
  · refine storesWf_ite ?_ ?_
    · refine chanNotified_storesWf ?_
      split
      · split
        · exact journalNote_storesWf h
        · exact h
      · exact h
    · split
      · split
        · exact journalNote_storesWf h
        · exact h
      · exact h
  · exact ringNotified_storesWf h
  · exact modPart_storesWf h
  · exact storesWf_ite h ((registerWatch_touched _ _ _ _).wf h)
  · exact h

theorem applyNote_storesWf {n} (h : d.storesWf) : (d.applyNote n).storesWf := storesWf_ite (applyHeld_storesWf h) (applyAtTile_storesWf h)

theorem notifyApply_storesWf {t} (h : d.storesWf) : (d.notifyApply t).storesWf := by
  unfold Device.notifyApply
  split
  · exact h
  · split
    · exact h
    · refine storesWf_ite ?_ (applyNote_storesWf (modTile_storesWf h (fun _ => rfl)))
      split
      · exact (inject_touched _ _ _ _ _ _ _).wf (modTile_storesWf h (fun _ => rfl))
      · exact modTile_storesWf h (fun _ => rfl)

theorem dropTag_storesWf {g} (h : d.storesWf) : (d.dropTag g).storesWf := h

theorem reqTimeout_storesWf {r} (h : d.storesWf) : (d.reqTimeout r).storesWf := by
  unfold Device.reqTimeout
  dsimp only
  split
  · refine storesWf_ite h ?_
    split
    · exact execFault_storesWf (elim_storesWf h (fun _ => dropTag_storesWf h))
    · exact h
  · refine storesWf_ite h ?_
    split
    · exact execFault_storesWf (elim_storesWf h (fun _ => dropTag_storesWf h))
    · exact h
  · split
    · exact storesWf_ite ((faultTile_touched _ _ _ _ _ _).wf h) h
    · exact h
  · split
    · refine storesWf_ite ?_ h
      refine (failChannel_worked _ _ _ _ _ _).wf ?_
      refine (modSlot_worked _ _ _ _).wf ?_
      refine foldl_storesWf (fun _ _ h1 => ?_) _ ?_
      · exact dropTag_storesWf h1
      · exact h
    · exact h
  · split
    · refine storesWf_ite ?_ h
      split
      · exact storesWf_ite ((stopJob_worked _ _ _).wf h) h
      · exact h
    · exact h
  · exact h
  · exact h

end
end Sys2Proof.Machine

/-! Canonical stores (log 6): the edits of stacked memory, contexts, teardown and binding keep them. -/

namespace Sys2Proof.Machine
section
variable {d : Device}

/-! ### Stacked memory -/

theorem hbmWriteback_storesWf {page line} (h : d.storesWf) : (d.hbmWriteback page line).storesWf := h

theorem scrubUe_storesWf {s page line} (h : d.storesWf) : (d.scrubUe s page line).storesWf := by
  unfold Device.scrubUe
  have hp : (d.poisonLine page line true).storesWf := (poisonLine_worked _ _ _ _).wf h
  generalize d.poisonLine page line true = d' at hp ⊢
  have hredo (o : Option Remap) {e : Device} (he : e.storesWf) : Device.storesWf (match o with
      | some r => { e with remaps := e.remaps.map (fun q => if q.new = r.new then { q with again := true } else q) }
      | none => e.startRemap page) := by
    cases o with
    | some r => exact he
    | none => exact (startRemap_worked _ _).wf he
  dsimp only
  split
  · exact hredo _ ((report_told _ _ _ _ _ _).storesWf ((report_told _ _ _ _ _ _).storesWf hp))
  · exact storesWf_ite (hredo _ hp) (storesWf_ite hp (retirePage_storesWf hp))

theorem scrubRead_storesWf {s} (h : d.storesWf) : (d.scrubRead s).storesWf := by
  unfold Device.scrubRead
  refine storesWf_ite h ?_
  dsimp only
  split
  · exact hbmWriteback_storesWf ((countCe_worked _ _ _).wf ((modStack_worked _ _ _).wf h))
  · exact scrubUe_storesWf ((modStack_worked _ _ _).wf h)
  · exact (modStack_worked _ _ _).wf h

theorem translationChanged_storesWf {p} (h : d.storesWf) : (d.translationChanged p).storesWf := by
  refine rowCacheDrop_storesWf (mapTiles_storesWf h (fun x hx => ?_))
  split
  · exact hx
  · exact hx

theorem remapDone_storesWf {page} (h : d.storesWf) : (d.remapDone page).storesWf := by
  unfold Device.remapDone
  split
  · exact h
  · refine storesWf_ite h ?_
    dsimp only
    split
    · refine translationChanged_storesWf ?_
      exact storesWf_ite ((startRemap_worked _ _).wf (retirePage_storesWf h)) (retirePage_storesWf h)
    · exact storesWf_ite ((startRemap_worked _ _).wf (retirePage_storesWf h)) (retirePage_storesWf h)

theorem repairAnswer_storesWf {p range slot tag status data} (h : d.storesWf) : (d.repairAnswer p range slot tag status data).storesWf :=
  by
  unfold Device.repairAnswer
  refine (inject_touched _ _ _ _ _ _ _).wf ?_
  exact (inject_touched _ _ _ _ _ _ _).wf ((newTag_touched _ _).wf (modPart_storesWf h))

theorem repairServe_storesWf {p range slot} (h : d.storesWf) : (d.repairServe p range slot).storesWf := by
  unfold Device.repairServe
  refine storesWf_ite h ?_
  refine storesWf_ite ((meshRead_touched _ _ _ _).wf h) ?_
  refine storesWf_ite h ?_
  refine storesWf_ite ?_ ?_
  · refine storesWf_ite ?_ ?_
    · exact repairAnswer_storesWf (hbmRead_storesWf ((meshRead_touched _ _ _ _).wf h))
    · exact repairAnswer_storesWf (hbmRead_storesWf ((meshRead_touched _ _ _ _).wf h))
  · refine storesWf_ite ?_ ?_
    · exact repairAnswer_storesWf ((meshRead_touched _ _ _ _).wf h)
    · exact storesWf_ite ((meshRead_touched _ _ _ _).wf h) (modPart_storesWf ((meshRead_touched _ _ _ _).wf h))

theorem versionExpiry_storesWf {p} (h : d.storesWf) : (d.versionExpiry p).storesWf := by
  unfold Device.versionExpiry
  split
  · exact repairAnswer_storesWf h
  · exact h

theorem poisonReader_storesWf {who addr} (h : d.storesWf) : (d.poisonReader who addr).storesWf := by
  unfold Device.poisonReader
  split
  · split
    · exact execFault_storesWf h
    · exact h
  · split
    · exact (faultTile_touched _ _ _ _ _ _).wf h
    · exact h
  · split
    · exact storesWf_ite ((failChannel_worked _ _ _ _ _ _).wf h) h
    · exact h
  · exact (stopJob_worked _ _ _).wf h
  · exact (collAbort_worked _ _ _ _ _).wf h
  · exact h
  · exact h

theorem repairFailed_storesWf {p r} (h : d.storesWf) : (d.repairFailed p r).storesWf := poisonReader_storesWf (modPart_storesWf h)

theorem repairReply_storesWf {p} (h : d.storesWf) : (d.repairReply p).storesWf := by
  unfold Device.repairReply
  dsimp only
  split
  · exact h
  · refine storesWf_ite ?_ (repairFailed_storesWf ((pocketWrite_touched _ _ _ _ _).wf ((meshRead_touched _ _ _ _).wf h)))
    split
    · refine moveOn_storesWf ?_
      refine modPart_storesWf ?_
      exact (hbmWrite_worked _ _ _ _ _).wf ((pocketWrite_touched _ _ _ _ _).wf ((meshRead_touched _ _ _ _).wf h))
    · refine modPart_storesWf ?_
      exact (hbmWrite_worked _ _ _ _ _).wf ((pocketWrite_touched _ _ _ _ _).wf ((meshRead_touched _ _ _ _).wf h))

theorem repairTimeout_storesWf {p} (h : d.storesWf) : (d.repairTimeout p).storesWf := by
  unfold Device.repairTimeout
  split
  · exact repairFailed_storesWf h
  · exact h

/-! ### Sentinel words -/

theorem writeRestored_storesWf {p c} (h : d.storesWf) : (d.writeRestored p c).storesWf := ((writeWords_touched _ _ _ _).wf h :)

theorem dropReports_storesWf {c} (h : d.storesWf) : (d.dropReports c).storesWf := h

/-! ### Save areas -/

theorem loadBytes_mem_wf {p addr n} : (d.loadBytes p addr n).2.1.wf = true := by
  unfold Device.loadBytes
  refine List.foldlRecOn _ _ (motive := fun r : Bool × Memory × Device => r.2.1.wf = true) rfl (fun r hr q _ => ?_)
  dsimp only
  split
  · exact hr
  · exact Memory.wf_copyTo _ _ _ _ hr

theorem loadBytes_storesWf {p addr n} (h : d.storesWf) : (d.loadBytes p addr n).2.2.storesWf := by
  unfold Device.loadBytes
  refine foldl_snd_snd_storesWf (fun r q hr => ?_) _ h
  dsimp only
  split
  · exact hr
  · exact serveAll_storesWf (f := fun e (a : Nat × LineErr) => e.meetLine (a.1 / 32768) (a.1 % 32768))
      (fun _ _ he => meetLine_storesWf he) _ (q := (true, r.2.2)) hr

theorem saveTile_storesWf {c p t regs} (h : d.storesWf) : (d.saveTile c p t regs).2.storesWf :=
  modTile_storesWf (modCtx_storesWf ((saveBytes_worked _ _ _ _ _).wf ((pocketSweep_touched _ _).wf h))) (fun _ => rfl)

theorem restored_pocket (s : SavedTile) (m : Memory) (x : Tile) : (s.restored m x).pocket = m.slice 0 pocketSize := by
  unfold SavedTile.restored
  split
  · rfl
  · rfl

theorem land_storesWf {s : SavedTile} {r} (h : r.2.2.storesWf) (hm : r.2.1.wf = true) : (s.land r).2.storesWf := by
  have hp (x : Tile) : (s.restored r.2.1 x).pocket.wf = true := by
    rw [restored_pocket]
    exact Memory.wf_slice 0 pocketSize hm
  have ht := (evalWatches_worked _ s.tile).wf (storesWf_modTile s.tile (s.restored r.2.1) h (hp _))
  unfold SavedTile.land
  generalize (r.2.2.modTile s.tile (s.restored r.2.1)).evalWatches s.tile = e at ht ⊢
  exact ite_snd_storesWf h ht

theorem restoreTile_storesWf {c p s} (h : d.storesWf) : (d.restoreTile c p s).2.storesWf := by
  rw [restoreTile_eq]
  exact land_storesWf (loadBytes_storesWf h) loadBytes_mem_wf

/-! ### Contexts -/

theorem patchIn_storesWf {t y} (h : d.storesWf) : (d.patchIn t y).storesWf := h

theorem mapTile_storesWf {t} (h : d.storesWf) : (d.mapTile t).storesWf := by
  unfold Device.mapTile
  refine storesWf_ite h ?_
  split
  · exact patchIn_storesWf h
  · exact h

theorem poolClaspSet_storesWf {t clasp v} (h : d.storesWf) : (d.poolClaspSet t clasp v).storesWf := (claspApply_touched _ _ _ _).wf h

theorem dropReserved_storesWf {p c} (h : d.storesWf) : (d.dropReserved p c).storesWf := modPart_storesWf h

theorem openImage_storesWf {p c i} (h : d.storesWf) : (d.openImage p c i).storesWf := by
  unfold Device.openImage
  dsimp only
  refine foldl_storesWf (fun _ _ h1 => ?_) _ ?_
  · split
    · exact storesWf_ite h1 (poolClaspSet_storesWf (modPool_storesWf h1))
    · exact h1
  · refine foldl_storesWf (fun _ _ h1 => ?_) _ ?_
    · split
      · exact storesWf_ite (modWindow_storesWf h1) h1
      · exact h1
    · exact dropReserved_storesWf h

theorem closeWindows_storesWf {p c keep} (h : d.storesWf) : (d.closeWindows p c keep).storesWf := modPart_storesWf h

theorem reopenWindows_storesWf {p c} (h : d.storesWf) : (d.reopenWindows p c).storesWf := modPart_storesWf h

theorem closePools_storesWf {p c} (h : d.storesWf) : (d.closePools p c).storesWf := by
  unfold Device.closePools
  refine foldl_storesWf (fun _ _ h1 => ?_) _ ?_
  · exact storesWf_ite (poolClaspSet_storesWf (modPool_storesWf h1)) h1
  · exact h

theorem auditSelect_storesWf {c} (h : d.storesWf) : (d.auditSelect c).storesWf := by
  unfold Device.auditSelect
  refine storesWf_ite h ?_
  dsimp only
  split
  · exact h
  · split
    · exact h
    · exact h

theorem beginStep_storesWf {c} (h : d.storesWf) : (d.beginStep c).storesWf := by
  unfold Device.beginStep
  split
  · exact h
  · exact auditSelect_storesWf (modCtx_storesWf h)

theorem kernelStart_storesWf {t} (h : d.storesWf) : (d.kernelStart t).storesWf := by
  unfold Device.kernelStart
  dsimp only
  split
  · refine storesWf_ite ?_ h
    split
    · exact h
    · exact modCtx_storesWf (storesWf_modTile t _ h (h.pocket t))
  · exact h

theorem nowRunning_storesWf {c} (h : d.storesWf) : (d.nowRunning c).storesWf := by
  unfold Device.nowRunning
  dsimp only
  split
  · refine storesWf_ite (modCtx_storesWf (storesWf_ite (writeRestored_storesWf (openImage_storesWf h)) (reopenWindows_storesWf h))) ?_
    refine beginStep_storesWf ?_
    exact modCtx_storesWf (storesWf_ite (writeRestored_storesWf (openImage_storesWf h)) (reopenWindows_storesWf h))
  · exact h

theorem beginSave_storesWf {c} (h : d.storesWf) : (d.beginSave c).storesWf := by
  unfold Device.beginSave
  split
  · exact closeWindows_storesWf (modCtx_storesWf h)
  · exact h

theorem yieldSave_storesWf {t} (h : d.storesWf) : (d.yieldSave t).storesWf := by
  unfold Device.yieldSave
  split
  · exact storesWf_ite (beginSave_storesWf h) h
  · exact h

theorem runIdle_storesWf {c} (h : d.storesWf) : (d.runIdle c).storesWf :=
  storesWf_ite (storesWf_ite (beginSave_storesWf h) (storesWf_ite h (beginStep_storesWf h))) h

theorem saveDone_storesWf {c} (h : d.storesWf) : (d.saveDone c).storesWf := by
  unfold Device.saveDone
  dsimp only
  split
  · exact h
  · refine storesWf_ite ?_ h
    refine (schedule_scheduled _).wf ?_
    refine storesWf_ite ?_ ?_
    · refine modCtx_storesWf ?_
      refine foldl_snd_storesWf (fun _ _ h1 => ?_) _ ?_
      · exact modTile_storesWf (saveTile_storesWf h1) (fun _ => rfl)
      · exact h
    · refine (askTeardown_touched _ _ _).wf ?_
      refine modCtx_storesWf ?_
      refine foldl_snd_storesWf (fun _ _ h1 => ?_) _ ?_
      · exact modTile_storesWf (saveTile_storesWf h1) (fun _ => rfl)
      · exact h

theorem restoreEnd_storesWf {c} {r : Bool × Device} (h : r.2.storesWf) : (Device.restoreEnd c r).storesWf :=
  storesWf_ite (nowRunning_storesWf h) ((askTeardown_touched _ _ _).wf (modCtx_storesWf h))

theorem restoreTiles_storesWf {c p l} (h : d.storesWf) : (d.restoreTiles c p l).2.storesWf := by
  unfold Device.restoreTiles
  refine serveAll_storesWf (fun d s hd => ?_) _ h
  rw [restoreOne_eq]
  exact restoreTile_storesWf hd

theorem restoreDone_storesWf {c} (h : d.storesWf) : (d.restoreDone c).storesWf := by
  rw [restoreDone_match]
  split
  · exact h
  · exact storesWf_ite (restoreEnd_storesWf (restoreTiles_storesWf h)) h

theorem closeCtx_storesWf {p c} (h : d.storesWf) : (d.closeCtx p c).storesWf := by
  unfold Device.closeCtx
  generalize hx : (((d.dropReports c).dropReserved p c).closeWindows p c false).closePools p c = e
  have he : e.storesWf := hx ▸ closePools_storesWf (closeWindows_storesWf (dropReserved_storesWf (dropReports_storesWf h)))
  exact he

theorem contextExit_storesWf {c} (h : d.storesWf) : (d.contextExit c).storesWf := by
  unfold Device.contextExit
  dsimp only
  split
  · exact h
  · refine storesWf_ite ?_ h
    refine (schedule_scheduled _).wf ?_
    refine modCtx_storesWf ?_
    refine closeCtx_storesWf ?_
    refine foldl_storesWf (fun _ _ h1 => ?_) _ ?_
    · exact modTile_storesWf h1 (fun _ => rfl)
    · refine foldl_storesWf (fun _ _ h1 => ?_) _ ?_
      · exact storesWf_ite ((report_told _ _ _ _ _ _).storesWf h1) h1
      · exact (dropWatches_worked _ _).wf h

/-! ### Teardown -/

theorem writeDump_storesWf {p c} (h : d.storesWf) : (d.writeDump p c).storesWf := h

theorem stopChannels_storesWf {f} (h : d.storesWf) : (d.stopChannels f).storesWf := by
  unfold Device.stopChannels
  refine foldl_storesWf (fun _ _ h1 => ?_) _ ?_
  · exact (stopChannel_worked _ _ _).wf h1
  · exact h

theorem closeNaming_storesWf {p ts} (h : d.storesWf) : (d.closeNaming p ts).storesWf := modPart_storesWf h

theorem contextTeardown_storesWf {c} (h : d.storesWf) : (d.contextTeardown c).storesWf := by
  unfold Device.contextTeardown
  dsimp only
  split
  · refine storesWf_ite (closeNaming_storesWf ((stopContext_worked _ _ _).wf h)) ?_
    refine (schedule_scheduled _).wf ?_
    refine (report_told _ _ _ _ _ _).storesWf ?_
    refine modCtx_storesWf ?_
    refine (endReleases_worked _ _).wf ?_
    refine closeCtx_storesWf ?_
    refine foldl_storesWf (fun _ _ h1 => ?_) _ ?_
    · exact modTile_storesWf h1 (fun _ => rfl)
    · refine (scanLocks_worked _ _ _).wf ?_
      exact (endStopped_worked _ _).wf (writeDump_storesWf (closeNaming_storesWf ((stopContext_worked _ _ _).wf h)))
  · exact h

theorem dropMailbox_storesWf {f} (h : d.storesWf) : (d.dropMailbox f).storesWf := h

theorem vfFlr_storesWf {p} (h : d.storesWf) : (d.vfFlr p).storesWf := by
  unfold Device.vfFlr
  refine dropMailbox_storesWf ?_
  refine modPart_storesWf ?_
  refine (resetPartition_worked _ _ _).wf ?_
  refine (stopChannels_worked _ _).wf ?_
  refine modPart_storesWf ?_
  dsimp only
  refine foldl_storesWf (fun _ _ h1 => ?_) _ ?_
  · exact (flrSubmitted_worked _ _ _ _).wf h1
  · refine foldl_storesWf (fun _ _ h1 => ?_) _ ?_
    · refine foldl_storesWf (fun _ _ h2 => ?_) _ ?_
      · exact (postCq_worked _ _ _ _).wf h2
      · exact h1
    · exact h

theorem pf0Flr_storesWf (h : d.storesWf) : d.pf0Flr.storesWf := dropMailbox_storesWf h

theorem windowClosed_storesWf {p w} (h : d.storesWf) : (d.windowClosed p w).storesWf := modWindow_storesWf h

/-! ### Binding -/

theorem setBound_storesWf {kind n p reserve} (h : d.storesWf) : (d.setBound kind n p reserve).storesWf := by
  unfold Device.setBound
  split
  · exact modCtx_storesWf h
  · exact modTile_storesWf (storesWf_ite (mapTile_storesWf h) (freeClock_storesWf h)) (fun _ => rfl)
  · exact (modGather_worked _ _ _).wf h
  · exact h
  · exact modLane_storesWf h
  · exact h
  · exact h
  · exact h

theorem bindMemOne_storesWf {p kind first pno} (h : d.storesWf) : (d.bindMemOne p kind first pno).storesWf := by
  unfold Device.bindMemOne
  dsimp only
  split
  · exact h
  · exact storesWf_ite h h

theorem bindItems_storesWf {p b} (h : d.storesWf) : (d.bindItems p b).storesWf := by
  unfold Device.bindItems
  refine storesWf_ite ?_ ?_
  · refine translationChanged_storesWf ?_
    refine foldl_storesWf (fun _ _ h1 => ?_) _ ?_
    · exact bindMemOne_storesWf h1
    · exact h
  · refine foldl_storesWf (fun _ _ h1 => ?_) _ ?_
    · exact setBound_storesWf h1
    · exact h

theorem unsuspend_storesWf (h : d.storesWf) : d.unsuspend.storesWf := by
  unfold Device.unsuspend
  refine foldl_storesWf (fun _ _ h1 => ?_) _ ?_
  · exact storesWf_ite (modCtx_storesWf h1) h1
  · exact h

theorem modBind_storesWf {p f} (h : d.storesWf) : (d.modBind p f).storesWf := modPart_storesWf h

theorem bindEnd_storesWf {p err} (h : d.storesWf) : (d.bindEnd p err).storesWf := by
  unfold Device.bindEnd
  dsimp only
  split
  · exact modBind_storesWf h
  · refine (schedule_scheduled _).wf ?_
    refine unsuspend_storesWf ?_
    refine foldl_storesWf (fun _ _ h1 => ?_) _ ?_
    · exact (report_told _ _ _ _ _ _).storesWf h1
    · exact modBind_storesWf h

theorem dropRestore_storesWf {c} (h : d.storesWf) : (d.dropRestore c).storesWf := by
  unfold Device.dropRestore
  refine storesWf_ite ?_ h
  refine modCtx_storesWf ?_
  refine foldl_storesWf (fun _ _ h1 => ?_) _ ?_
  · exact modTile_storesWf h1 (fun _ => rfl)
  · exact h

theorem bindBegin_storesWf {p} (h : d.storesWf) : (d.bindBegin p).storesWf := by
  unfold Device.bindBegin
  dsimp only
  refine foldl_storesWf (fun _ _ h1 => ?_) _ ?_
  · exact runIdle_storesWf h1
  · refine foldl_storesWf (fun _ _ h1 => ?_) _ ?_
    · exact modCtx_storesWf h1
    · refine foldl_storesWf (fun _ _ h1 => ?_) _ ?_
      · exact dropRestore_storesWf h1
      · exact modBind_storesWf h

theorem bindPumpN_storesWf {n} (h : d.storesWf) : (Device.bindPumpN n d).storesWf := by
  induction n generalizing d with
  | zero => exact h
  | succ n ih =>
    unfold Device.bindPumpN
    split
    · exact h
    · refine storesWf_ite h ?_
      split
      · exact ih (bindEnd_storesWf h)
      · exact storesWf_ite (ih (bindEnd_storesWf (bindItems_storesWf h))) (bindBegin_storesWf h)

theorem bindPump_storesWf (h : d.storesWf) : d.bindPump.storesWf := bindPumpN_storesWf h

theorem applyBind_storesWf {g p} (h : d.storesWf) : (d.applyBind g p).2.storesWf := by
  unfold Device.applyBind
  exact ite_snd_storesWf h (ite_snd_storesWf (modBind_storesWf h) (bindPump_storesWf (by exact h)))

theorem suspendUser_storesWf {c} (h : d.storesWf) : (d.suspendUser c).storesWf := by
  unfold Device.suspendUser
  dsimp only
  split
  · exact h
  · refine storesWf_ite ?_ h
    refine storesWf_ite ?_ ?_
    · refine modCtx_storesWf ?_
      refine foldl_snd_storesWf (fun _ _ h1 => ?_) _ ?_
      · exact saveTile_storesWf h1
      · exact h
    · refine (askTeardown_touched _ _ _).wf ?_
      refine modCtx_storesWf ?_
      refine foldl_snd_storesWf (fun _ _ h1 => ?_) _ ?_
      · exact saveTile_storesWf h1
      · exact h

theorem unbindItem_storesWf {kind n} (h : d.storesWf) : (d.unbindItem kind n).storesWf := by
  unfold Device.unbindItem
  refine setBound_storesWf ?_
  dsimp only
  split
  · refine foldl_storesWf (fun _ _ h1 => ?_) _ ?_
    · exact (stopChannel_worked _ _ _).wf h1
    · split
      · exact modPart_storesWf h
      · exact h
  · exact (resetGather_worked _ _).wf h
  · refine foldl_storesWf (fun _ _ h1 => ?_) _ ?_
    · exact (stopChannel_worked _ _ _).wf h1
    · exact h
  · exact h

theorem unbindMem_storesWf {p b} (h : d.storesWf) : (d.unbindMem p b).storesWf := by
  unfold Device.unbindMem
  refine storesWf_ite ?_ ?_
  · exact translationChanged_storesWf (modBind_storesWf h)
  · exact translationChanged_storesWf (modBind_storesWf h)

theorem drainDone_storesWf {p} (h : d.storesWf) : (d.drainDone p).storesWf := by
  unfold Device.drainDone
  refine storesWf_ite ?_ h
  refine modBind_storesWf ?_
  refine storesWf_ite ?_ ?_
  · refine unbindMem_storesWf ?_
    refine foldl_storesWf (fun _ _ h1 => ?_) _ ?_
    · exact suspendUser_storesWf h1
    · exact h
  · refine foldl_storesWf (fun _ _ h1 => ?_) _ ?_
    · exact unbindItem_storesWf h1
    · refine foldl_storesWf (fun _ _ h1 => ?_) _ ?_
      · exact suspendUser_storesWf h1
      · exact h

theorem drainExpired_storesWf {p} (h : d.storesWf) : (d.drainExpired p).storesWf := by
  unfold Device.drainExpired
  refine storesWf_ite ?_ h
  dsimp only
  refine foldl_storesWf (fun _ _ h1 => ?_) _ ?_
  · exact (collAbort_worked _ _ _ _ _).wf h1
  · refine foldl_storesWf (fun _ _ h1 => ?_) _ ?_
    · exact (collAbort_worked _ _ _ _ _).wf h1
    · refine foldl_storesWf (fun _ _ h1 => ?_) _ ?_
      · exact storesWf_ite ((askTeardown_touched _ _ _).wf h1) h1
      · exact h

theorem fireAllAbandoned_storesWf {o t} (h : d.storesWf) : (d.fireAllAbandoned o t).storesWf := by
  unfold Device.fireAllAbandoned
  dsimp only
  refine foldl_storesWf (fun _ _ h1 => ?_) _ ?_
  · exact (notifyOf_touched _ _ _ _ _ _).wf (answerWatch_storesWf h1)
  · refine foldl_storesWf (fun _ _ h1 => ?_) _ ?_
    · exact (notifyOf_touched _ _ _ _ _ _).wf h1
    · exact modTile_storesWf h (fun _ => rfl)

theorem scrubItem_storesWf {olds kind n} (h : d.storesWf) : (d.scrubItem olds kind n).storesWf := by
  unfold Device.scrubItem
  split
  · exact modPanel_storesWf (storesWf_modTile _ _ (fireAllAbandoned_storesWf h) rfl)
  · exact (modMover_worked _ _ _).wf h
  · exact h

theorem scrubMem_storesWf {b} (h : d.storesWf) : (d.scrubMem b).storesWf := by
  refine foldl_storesWf (fun e g he => ?_) _ h
  dsimp only
  split
  · have hc (bad : List (Nat × LineErr)) (due : List Nat) : Device.storesWf { e with
        hbm := e.hbm.clear (g * pageSize) pageSize, hbmBad := bad, dueRetire := due } := storesWf_intro (Memory.wf_clear _ _ he.hbm)
          he.tmem he.host he.pocket
    exact storesWf_ite (retirePage_storesWf (hc _ _)) (hc _ _)
  · exact storesWf_intro he.hbm (Memory.wf_clear _ _ he.tmem) he.host he.pocket

theorem rebindComplete_storesWf {p} (h : d.storesWf) : (d.rebindComplete p).storesWf := by
  unfold Device.rebindComplete
  refine storesWf_ite ?_ h
  refine bindPump_storesWf ?_
  refine bindEnd_storesWf ?_
  refine storesWf_ite ?_ ?_
  · refine bindItems_storesWf ?_
    refine storesWf_ite (scrubMem_storesWf h) ?_
    refine foldl_storesWf (fun _ _ h1 => ?_) _ ?_
    · exact scrubItem_storesWf h1
    · exact h
  · refine storesWf_ite (scrubMem_storesWf h) ?_
    refine foldl_storesWf (fun _ _ h1 => ?_) _ ?_
    · exact scrubItem_storesWf h1
    · exact h

theorem applyCtx_storesWf {g p} (h : d.storesWf) : (d.applyCtx g p).2.storesWf := by
  unfold Device.applyCtx
  refine ite_snd_storesWf h ?_
  refine ite_snd_storesWf h ?_
  refine ite_snd_storesWf h ?_
  refine ite_snd_storesWf ((schedule_scheduled _).wf (modCtx_storesWf (modCtx_storesWf h))) ?_
  refine ite_snd_storesWf ?_ ?_
  · exact (schedule_scheduled _).wf ((askTeardown_touched _ _ _).wf (modCtx_storesWf h))
  · exact (schedule_scheduled _).wf (modCtx_storesWf h)

end
end Sys2Proof.Machine

/-! Canonical stores (log 6): the edits of links, packets, the tensor array and the vector engine keep them. -/

namespace Sys2Proof.Machine
section
variable {d : Device}

/-! ### Links -/

theorem repace_storesWf {p} (h : d.storesWf) : (d.repace p).storesWf := modPort_storesWf h

theorem flowUpdate_storesWf {p nak} (h : d.storesWf) : (d.flowUpdate p nak).storesWf := modPort_storesWf h

theorem popRx_storesWf {p c} (h : d.storesWf) : (d.popRx p c).storesWf := flowUpdate_storesWf (modPort_storesWf h)

theorem countReplay_storesWf {p} (h : d.storesWf) : (d.countReplay p).storesWf := by
  unfold Device.countReplay
  show Device.storesWf _
  dsimp only
  refine foldl_storesWf (fun _ _ h1 => ?_) _ ?_
  · exact modLane_storesWf h1
  · exact h

theorem portUpdate_storesWf {p} (h : d.storesWf) : (d.portUpdate p).storesWf := by
  unfold Device.portUpdate
  refine storesWf_ite h ?_
  refine modPort_storesWf ?_
  refine storesWf_ite ?_ (repace_storesWf (modPort_storesWf (storesWf_ite (modPort_storesWf (free_storesWf h)) h)))
  refine countReplay_storesWf ?_
  exact repace_storesWf (modPort_storesWf (storesWf_ite (modPort_storesWf (free_storesWf h)) h))

theorem laneFail_storesWf {n} (h : d.storesWf) : (d.laneFail n).storesWf := by
  unfold Device.laneFail
  refine storesWf_ite (modLane_storesWf h) ?_
  refine storesWf_ite h ?_
  refine storesWf_ite ?_ (repace_storesWf (modLane_storesWf h))
  refine storesWf_ite (modPort_storesWf (modPort_storesWf (repace_storesWf (modLane_storesWf h)))) ?_
  refine storesWf_ite ?_ ?_
  · exact modPort_storesWf (repace_storesWf (modLane_storesWf h))
  · exact countReplay_storesWf (modPort_storesWf (modPort_storesWf (repace_storesWf (modLane_storesWf h))))

theorem laneUp_storesWf {n slow chip far} (h : d.storesWf) : (d.laneUp n slow chip far).storesWf := by
  unfold Device.laneUp
  dsimp only
  split
  · exact h
  · refine storesWf_ite h ?_
    refine storesWf_ite (modLane_storesWf (modLane_storesWf h)) ?_
    refine storesWf_ite ?_ ?_
    · exact modLane_storesWf (modLane_storesWf h)
    · exact portUpdate_storesWf (modLane_storesWf (modLane_storesWf h))

theorem laneRetry_storesWf {n} (h : d.storesWf) : (d.laneRetry n).storesWf := by
  unfold Device.laneRetry
  dsimp only
  split
  · exact storesWf_ite (modLane_storesWf h) h
  · exact h

theorem holdExpiry_storesWf {p} (h : d.storesWf) : (d.holdExpiry p).storesWf := by
  unfold Device.holdExpiry
  split
  · exact h
  · exact storesWf_ite h (storesWf_ite ((losePort_worked _ _ _).wf h) (modPort_storesWf h))

theorem substitute_storesWf {p failed f} (h : d.storesWf) : (d.substitute p failed f).storesWf := by
  unfold Device.substitute
  refine storesWf_ite ?_ h
  refine storesWf_ite ?_ ?_
  · exact modPort_storesWf (modLane_storesWf h)
  · exact portUpdate_storesWf (modPort_storesWf (modLane_storesWf (modLane_storesWf (modLane_storesWf h))))

theorem portReturn_storesWf {p} (h : d.storesWf) : (d.portReturn p).storesWf := storesWf_ite (portUpdate_storesWf (modPort_storesWf h)) h

theorem applyPort_storesWf {g p value} (h : d.storesWf) : (d.applyPort g p value).2.storesWf := by
  unfold Device.applyPort
  refine ite_snd_storesWf (ite_snd_storesWf h (ite_snd_storesWf h ?_)) (ite_snd_storesWf ?_ h)
  · refine foldl_storesWf (fun _ _ h1 => ?_) _ (foldl_storesWf (fun _ _ h1 => ?_) _ (modPort_storesWf ?_))
    · exact modLane_storesWf h1
    · exact modLane_storesWf h1
    · exact foldl_storesWf (fun _ _ h1 => setCfg_storesWf h1) _ h
  · exact modPort_storesWf (setLanes_storesWf (storesWf_ite ((losePort_worked _ _ _).wf h) h))

theorem lcwReceive_storesWf {p l} (h : d.storesWf) : (d.lcwReceive p l).storesWf := by
  unfold Device.lcwReceive
  refine storesWf_ite h ?_
  exact modPort_storesWf (storesWf_ite (countReplay_storesWf (modPort_storesWf h)) (modPort_storesWf h))

theorem fecCount_storesWf {p} (h : d.storesWf) : (d.fecCount p).storesWf := by
  unfold Device.fecCount
  show Device.storesWf _
  dsimp only
  refine foldl_storesWf (fun _ _ h1 => ?_) _ ?_
  · exact modLane_storesWf h1
  · exact h

theorem packetReceive_storesWf {p again pkt} (h : d.storesWf) : (d.packetReceive p again pkt).storesWf := by
  unfold Device.packetReceive
  refine storesWf_ite h ?_
  refine storesWf_ite (fecCount_storesWf h) ?_
  refine storesWf_ite ?_ (flowUpdate_storesWf (modPort_storesWf ((traceRec_told _ _ _ _ _ _).storesWf (fecCount_storesWf h))))
  refine storesWf_ite ?_ (flowUpdate_storesWf (modPort_storesWf (fecCount_storesWf h)))
  refine foldl_storesWf (fun _ _ h1 => ?_) _ ?_
  · exact laneFail_storesWf h1
  · exact modPort_storesWf (flowUpdate_storesWf (modPort_storesWf (fecCount_storesWf h)))

theorem applyTable_storesWf {g bs k value} (h : d.storesWf) : (d.applyTable g bs k value).2.storesWf := by
  unfold Device.applyTable
  refine ite_snd_storesWf ?_ ?_
  · exact modTable_storesWf h
  · exact ite_snd_storesWf h (modTable_storesWf (setCfg_storesWf (setCfg_storesWf h)))

theorem forwardHead_storesWf {p c} (h : d.storesWf) : (d.forwardHead p c).2.storesWf := by
  unfold Device.forwardHead
  split
  · exact h
  · refine ite_snd_storesWf ((drop_touched _ _ _ _).wf (popRx_storesWf h)) ?_
    dsimp only
    split
    · exact (drop_touched _ _ _ _).wf (popRx_storesWf h)
    · refine ite_snd_storesWf ((drop_touched _ _ _ _).wf (popRx_storesWf h)) ?_
      refine ite_snd_storesWf h ?_
      split
      · exact h
      · split
        · exact (drop_touched _ _ _ _).wf (popRx_storesWf h)
        · exact ite_snd_storesWf h ((sendOn_touched _ _ _ _ _).wf (popRx_storesWf h))

theorem routerForward_storesWf {src} (h : d.storesWf) : (d.routerForward src).storesWf := by
  unfold Device.routerForward
  split
  · exact h
  · exact storesWf_ite (forwardHead_storesWf h) (forwardHead_storesWf h)

theorem stallDrop_storesWf {p reply cls} (h : d.storesWf) : (d.stallDrop p reply cls).storesWf := by
  unfold Device.stallDrop
  dsimp only
  split
  · exact storesWf_ite ((drop_touched _ _ _ _).wf (popRx_storesWf h)) h
  · exact h

/-! ### Packets -/

theorem answer_storesWf {a pkt ty tag st payload} (h : d.storesWf) : (d.answer a pkt ty tag st payload).storesWf :=
  (inject_touched _ _ _ _ _ _ _).wf h

theorem pktDenied_storesWf {pkt off n right} (h : d.storesWf) : (d.pktDenied pkt off n right).storesWf :=
  (violation_touched _ _ _ _ _ _ _).wf h

theorem servWrite_storesWf {src ty} (h : d.storesWf) : (d.servWrite src ty).storesWf := by
  unfold Device.servWrite
  split
  · exact h
  · next he =>
      have h1 := takeHead_storesWf he h
      exact storesWf_ite (answer_storesWf (pktDenied_storesWf h1)) (answer_storesWf ((meshWrite_touched _ _ _ _).wf h1))

theorem servRead_storesWf {src} (h : d.storesWf) : (d.servRead src).storesWf := by
  unfold Device.servRead
  split
  · exact h
  · next he =>
      have h1 := takeHead_storesWf he h
      exact storesWf_ite (answer_storesWf (pktDenied_storesWf h1)) (answer_storesWf ((meshRead_touched _ _ _ _).wf h1))

theorem servAlloc_storesWf {a pkt tag pool pwait} (h : d.storesWf) : (d.servAlloc a pkt tag pool pwait).storesWf := by
  unfold Device.servAlloc
  split
  · exact answer_storesWf (pktDenied_storesWf h)
  · refine storesWf_ite (answer_storesWf (pktDenied_storesWf h)) ?_
    refine storesWf_ite (answer_storesWf (pktDenied_storesWf h)) ?_
    dsimp only
    split
    · exact answer_storesWf ((claspApply_touched _ _ _ _).wf h)
    · split
      · exact answer_storesWf (poolServed_storesWf ((claspApply_touched _ _ _ _).wf h))
      · refine answer_storesWf ?_
        exact storesWf_ite ((claspApply_touched _ _ _ _).wf h) (poolMissed_storesWf ((claspApply_touched _ _ _ _).wf h))

theorem servAtomic_storesWf {src} (h : d.storesWf) : (d.servAtomic src).storesWf := by
  unfold Device.servAtomic
  refine storesWf_ite h ?_
  dsimp only
  split
  · exact h
  · next he =>
      have h1 := takeHead_storesWf he h
      refine storesWf_ite (servAlloc_storesWf h1) ?_
      refine storesWf_ite (answer_storesWf (pktDenied_storesWf h1)) ?_
      split
      · exact answer_storesWf ((claspApply_touched _ _ _ _).wf h1)
      · exact answer_storesWf ((claspApply_touched _ _ _ _).wf h1)

theorem servWatch_storesWf {src} (h : d.storesWf) : (d.servWatch src).storesWf := by
  unfold Device.servWatch
  split
  · exact h
  · next he =>
      have h1 := takeHead_storesWf he h
      refine storesWf_ite (answer_storesWf (pktDenied_storesWf h1)) ?_
      dsimp only
      split
      · exact answer_storesWf ((registerWatch_touched _ _ _ _).wf h1)
      · exact (registerWatch_touched _ _ _ _).wf h1
      · exact answer_storesWf ((registerWatch_touched _ _ _ _).wf h1)

theorem claimTag_storesWf {tag} (h : d.storesWf) : (d.claimTag tag).2.storesWf := h

theorem servReadRsp_storesWf {src} (h : d.storesWf) : (d.servReadRsp src).storesWf := by
  unfold Device.servReadRsp
  split
  · exact h
  · next he =>
      have h1 := takeHead_storesWf he h
      dsimp only
      split
      · split
        · refine storesWf_ite ((modSlot_worked _ _ _ _).wf (claimTag_storesWf h1)) ?_
          refine storesWf_ite ((failChannel_worked _ _ _ _ _ _).wf ((modSlot_worked _ _ _ _).wf (claimTag_storesWf h1))) ?_
          refine storesWf_ite ?_ ?_
          · exact (failChannel_worked _ _ _ _ _ _).wf ((modSlot_worked _ _ _ _).wf (claimTag_storesWf h1))
          · exact moveOn_storesWf ((modSlot_worked _ _ _ _).wf ((modSlot_worked _ _ _ _).wf (claimTag_storesWf h1)))
        · exact claimTag_storesWf h1
      · exact claimTag_storesWf h1

theorem servWriteAck_storesWf {src} (h : d.storesWf) : (d.servWriteAck src).storesWf := by
  unfold Device.servWriteAck
  split
  · exact h
  · next he =>
      have h1 := takeHead_storesWf he h
      split
      · exact h1
      · split
        · exact h1
        · split
          · exact h1
          · refine storesWf_ite (delivered_storesWf ((modSlot_worked _ _ _ _).wf h1)) ?_
            refine storesWf_ite ((failChannel_worked _ _ _ _ _ _).wf (delivered_storesWf ((modSlot_worked _ _ _ _).wf h1))) ?_
            refine storesWf_ite ?_ ?_
            · exact (failChannel_worked _ _ _ _ _ _).wf (delivered_storesWf ((modSlot_worked _ _ _ _).wf h1))
            · exact moveOn_storesWf (delivered_storesWf ((modSlot_worked _ _ _ _).wf h1))

theorem journalAnswer_storesWf {t tag st word} (h : d.storesWf) : (d.journalAnswer t tag st word).storesWf :=
  modTile_storesWf h (fun _ => rfl)

theorem chanAnswer_storesWf {m k tag st word} (h : d.storesWf) : (d.chanAnswer m k tag st word).storesWf := by
  unfold Device.chanAnswer
  dsimp only
  split
  · exact h
  · refine storesWf_ite h ?_
    refine storesWf_ite ?_ ?_
    · refine storesWf_ite ?_ ?_
      · refine poolTaken_storesWf ?_
        refine (modSlot_worked _ _ _ _).wf ?_
        split
        · exact journalAnswer_storesWf h
        · exact h
      · refine (modSlot_worked _ _ _ _).wf ?_
        split
        · exact journalAnswer_storesWf h
        · exact h
    · refine storesWf_ite ?_ ?_
      · refine (claspFailed_worked _ _ _ _ _ _).wf ?_
        show Device.storesWf _
        refine (modSlot_worked _ _ _ _).wf ?_
        split
        · exact journalAnswer_storesWf h
        · exact h
      · refine storesWf_ite ?_ ?_
        · refine (endChannel_worked _ _ _ _).wf ?_
          refine (modSlot_worked _ _ _ _).wf ?_
          split
          · exact journalAnswer_storesWf h
          · exact h
        · refine storesWf_ite ?_ ?_
          · refine storesWf_ite ?_ ?_
            · refine poolEmpty_storesWf ?_
              refine (modSlot_worked _ _ _ _).wf ?_
              split
              · exact journalAnswer_storesWf h
              · exact h
            · refine startChannel_storesWf ?_
              refine poolTaken_storesWf ?_
              refine (modSlot_worked _ _ _ _).wf ?_
              split
              · exact journalAnswer_storesWf h
              · exact h
          · refine (modSlot_worked _ _ _ _).wf ?_
            split
            · exact journalAnswer_storesWf h
            · exact h

theorem claspAnswer_storesWf {t e tag st word} (h : d.storesWf) : (d.claspAnswer t e tag st word).storesWf := by
  unfold Device.claspAnswer
  dsimp only
  split
  · exact journalAnswer_storesWf h
  · refine storesWf_ite ?_ ?_
    · refine noteDenied_storesWf ?_
      exact modFlightWhere_storesWf (storesWf_ite (journalAnswer_storesWf h) (journalAnswer_storesWf h :))
    · refine storesWf_ite ?_ ?_
      · refine execFault_storesWf ?_
        exact modFlightWhere_storesWf (storesWf_ite (journalAnswer_storesWf h) (journalAnswer_storesWf h :))
      · refine returnWord_storesWf ?_
        exact modFlightWhere_storesWf (storesWf_ite (journalAnswer_storesWf h) (journalAnswer_storesWf h :))

theorem servAtomicRsp_storesWf {src} (h : d.storesWf) : (d.servAtomicRsp src).storesWf := by
  unfold Device.servAtomicRsp
  split
  · exact h
  · next he =>
      have h1 := takeHead_storesWf he h
      dsimp only
      split
      · exact claspAnswer_storesWf (claimTag_storesWf h1)
      · exact claspAnswer_storesWf (claimTag_storesWf h1)
      · exact chanAnswer_storesWf (claimTag_storesWf h1)
      · exact claimTag_storesWf h1

theorem servNotify_storesWf {src} (h : d.storesWf) : (d.servNotify src).storesWf := by
  unfold Device.servNotify
  split
  · exact h
  · next he =>
      have h1 := takeHead_storesWf he h
      dsimp only
      split
      · exact h1
      · exact applyNote_storesWf h1

/-! ### Tensor -/

theorem mmRows_storesWf {t base pitch n len} (h : d.storesWf) : (d.mmRows t base pitch n len).2.storesWf := by
  unfold Device.mmRows
  refine foldl_snd_storesWf (fun _ _ h1 => ?_) _ ?_
  · dsimp only
    split
    · exact h1
    · exact ite_snd_storesWf (ownRead_storesWf h1) (ownRead_storesWf h1)
  · exact h

theorem mmOperand_storesWf {t f w n klen} (h : d.storesWf) : (d.mmOperand t f w n klen).2.storesWf := by
  unfold Device.mmOperand
  dsimp only
  split
  · exact mmRows_storesWf h
  · split
    · exact mmRows_storesWf (mmRows_storesWf h)
    · exact mmRows_storesWf (mmRows_storesWf h)

theorem mmWord_storesWf {t off} (h : d.storesWf) : (d.mmWord t off).2.storesWf :=
  ite_snd_storesWf (ownRead_storesWf h) (ownRead_storesWf h)

theorem modMM_storesWf {t f} (h : d.storesWf) : (d.modMM t f).storesWf := modTile_storesWf h (fun _ => rfl)

theorem mmFault_storesWf {t pcq g} (h : d.storesWf) : (d.mmFault t pcq g).storesWf := (faultTile_touched _ _ _ _ _ _).wf h

theorem mmOpen_storesWf {t k} (h : d.storesWf) : (d.mmOpen t k).storesWf := by
  unfold Device.mmOpen
  split
  · exact h
  · exact storesWf_ite h (performed_storesWf (modMM_storesWf h))

theorem initElems_storesWf {t e} (h : d.storesWf) : (d.initElems t e).2.storesWf := by
  unfold Device.initElems
  refine ite_snd_storesWf h ?_
  dsimp only
  split
  · exact mmRows_storesWf h
  · exact mmRows_storesWf h

theorem tensorScale_storesWf {t need off} (h : d.storesWf) : (d.tensorScale t need off).2.storesWf :=
  ite_snd_storesWf (mmWord_storesWf h) h

theorem mmTileInit_storesWf {t} (h : d.storesWf) : (d.mmTileInit t).storesWf := by
  unfold Device.mmTileInit
  refine storesWf_ite h ?_
  dsimp only
  split
  · split
    · exact mmFault_storesWf (initElems_storesWf h)
    · split
      · exact mmFault_storesWf (tensorScale_storesWf (initElems_storesWf h))
      · split
        · exact mmFault_storesWf (tensorScale_storesWf (tensorScale_storesWf (initElems_storesWf h)))
        · refine modFlight_storesWf ?_
          refine modMM_storesWf ?_
          refine storesWf_ite ?_ ?_
          · exact tensorScale_storesWf (tensorScale_storesWf (initElems_storesWf h))
          · exact orCvt_storesWf (tensorScale_storesWf (tensorScale_storesWf (initElems_storesWf h)))
  · exact h

theorem mmLdb_storesWf {t k} (h : d.storesWf) : (d.mmLdb t k).storesWf := by
  unfold Device.mmLdb
  split
  · exact h
  · dsimp only
    split
    · exact mmFault_storesWf (mmOperand_storesWf h)
    · exact performed_storesWf (orCvt_storesWf (modMM_storesWf (mmOperand_storesWf h)))

theorem mmStrm_storesWf {t k} (h : d.storesWf) : (d.mmStrm t k).storesWf := by
  unfold Device.mmStrm
  split
  · exact h
  · dsimp only
    split
    · split
      · exact mmFault_storesWf (mmOperand_storesWf h)
      · exact performed_storesWf (orCvt_storesWf (modTile_storesWf (modMM_storesWf (mmOperand_storesWf h :)) (fun _ => rfl)))
    · exact h

theorem mmDrain_storesWf {t k} (h : d.storesWf) : (d.mmDrain t k).storesWf := by
  unfold Device.mmDrain
  split
  · exact h
  · dsimp only
    split
    · refine storesWf_ite ?_ ?_
      · refine mmFault_storesWf ?_
        refine foldl_snd_storesWf (fun _ _ h1 => ?_) _ ?_
        · exact ite_snd_storesWf h1 (ownWrite_storesWf h1)
        · exact h
      · refine performed_storesWf ?_
        refine modMM_storesWf ?_
        refine foldl_snd_storesWf (fun _ _ h1 => ?_) _ ?_
        · exact ite_snd_storesWf h1 (ownWrite_storesWf h1)
        · exact h
    · exact h

/-! ### Vector -/

theorem vxRead_storesWf {t w off n} (h : d.storesWf) : (d.vxRead t w off n).2.storesWf :=
  ite_snd_storesWf (ownRead_storesWf h) (ownRead_storesWf h)

theorem vxWrites_storesWf {t l} (h : d.storesWf) : (d.vxWrites t l).2.storesWf := by
  unfold Device.vxWrites
  refine foldl_snd_storesWf (fun _ _ h1 => ?_) _ ?_
  · exact ite_snd_storesWf h1 (ownWrite_storesWf h1)
  · exact h

theorem vxRun_storesWf {t k op f} (h : d.storesWf) (hf1 : ∀ (a : Entry) (a_1 : Sys2Proof.CtxNo) (a_2 : Device), a_2.storesWf →
  (f a a_1 a_2).2.storesWf) : (d.vxRun t k op f).storesWf := by
  unfold Device.vxRun
  split
  · refine storesWf_ite (performed_storesWf h) ?_
    dsimp only
    split
    · exact execFault_storesWf h
    · split
      · exact accessFailed_storesWf (hf1 _ _ _ h)
      · refine storesWf_ite (accessFailed_storesWf (vxWrites_storesWf (hf1 _ _ _ h))) ?_
        refine performed_storesWf ?_
        split
        · exact (orCvt_storesWf (orVx_storesWf (vxWrites_storesWf (hf1 _ _ _ h))) :)
        · exact orCvt_storesWf (orVx_storesWf (vxWrites_storesWf (hf1 _ _ _ h)))
  · exact h

theorem vxMovF_storesWf {t e x1} (h : d.storesWf) : (vxMovF t e x1 d).2.storesWf :=
  ite_snd_storesWf (ownRead_storesWf h) (ownRead_storesWf h)

theorem vxBin_storesWf {t g e x1} (h : d.storesWf) : (vxBin t g e x1 d).2.storesWf := by
  unfold vxBin
  dsimp only
  split
  · exact vxRead_storesWf h
  · split
    · exact vxRead_storesWf (vxRead_storesWf h)
    · exact vxRead_storesWf (vxRead_storesWf h)

theorem vxFmaF_storesWf {t e x1} (h : d.storesWf) : (vxFmaF t e x1 d).2.storesWf := by
  unfold vxFmaF
  dsimp only
  split
  · exact vxRead_storesWf h
  · split
    · exact vxRead_storesWf (vxRead_storesWf h)
    · split
      · exact vxRead_storesWf (vxRead_storesWf (vxRead_storesWf h))
      · exact vxRead_storesWf (vxRead_storesWf (vxRead_storesWf h))

theorem vxSfuF_storesWf {t e x1} (h : d.storesWf) : (vxSfuF t e x1 d).2.storesWf := by
  unfold vxSfuF
  dsimp only
  split
  · exact vxRead_storesWf h
  · exact vxRead_storesWf h

theorem vxRedF_storesWf {t e x1} (h : d.storesWf) : (vxRedF t e x1 d).2.storesWf := by
  unfold vxRedF
  dsimp only
  split
  · exact vxRead_storesWf h
  · exact vxRead_storesWf h

theorem vxAmaxF_storesWf {t e x1} (h : d.storesWf) : (vxAmaxF t e x1 d).2.storesWf := by
  unfold vxAmaxF
  dsimp only
  split
  · exact vxRead_storesWf h
  · refine ite_snd_storesWf (vxRead_storesWf h) ?_
    refine ite_snd_storesWf ?_ ?_
    · exact ite_snd_storesWf (ownRead_storesWf (vxRead_storesWf h)) (ownRead_storesWf (vxRead_storesWf h))
    · exact vxRead_storesWf h

theorem convScale_storesWf {t r f} (h : d.storesWf) : (d.convScale t r f).2.storesWf := by
  unfold Device.convScale
  refine ite_snd_storesWf ?_ (ite_snd_storesWf (ite_snd_storesWf (ownRead_storesWf h) (ownRead_storesWf h)) h)
  refine ite_snd_storesWf (ownRead_storesWf h) ?_
  refine ite_snd_storesWf (ownRead_storesWf h) ?_
  refine ite_snd_storesWf ?_ ?_
  · exact ite_snd_storesWf (ownRead_storesWf (ownRead_storesWf h)) (ownRead_storesWf (ownRead_storesWf h))
  · exact ownRead_storesWf h

theorem vxConvF_storesWf {t quant e c} (h : d.storesWf) : (vxConvF t quant e c d).2.storesWf := by
  unfold vxConvF
  dsimp only
  split
  · exact vxRead_storesWf h
  · split
    · exact convScale_storesWf (vxRead_storesWf h)
    · refine ite_snd_storesWf ?_ (convScale_storesWf (vxRead_storesWf h))
      refine ite_snd_storesWf ?_ ?_
      · refine ite_snd_storesWf ?_ ?_
        · exact ownRead_storesWf (convScale_storesWf (vxRead_storesWf h))
        · exact convScale_storesWf (vxRead_storesWf h)
      · refine ite_snd_storesWf ?_ ?_
        · exact ownRead_storesWf (convScale_storesWf (vxRead_storesWf h))
        · exact convScale_storesWf (vxRead_storesWf h)

theorem vxRotF_storesWf {t e x1} (h : d.storesWf) : (vxRotF t e x1 d).2.storesWf := by
  unfold vxRotF
  dsimp only
  split
  · exact vxRead_storesWf h
  · exact vxRead_storesWf h

theorem vxTopkF_storesWf {t e x1} (h : d.storesWf) : (vxTopkF t e x1 d).2.storesWf := by
  unfold vxTopkF
  dsimp only
  split
  · exact vxRead_storesWf h
  · exact vxRead_storesWf h

theorem vxTopkMergeF_storesWf {t e x1} (h : d.storesWf) : (vxTopkMergeF t e x1 d).2.storesWf :=
  ite_snd_storesWf (ownRead_storesWf h) (ownRead_storesWf h)

end
end Sys2Proof.Machine

/-! Canonical stores (log 6): the edits of collectives, queues, the sentinel and admission keep them. -/

namespace Sys2Proof.Machine
section
variable {d : Device}

/-! ### Collectives -/

theorem modColl_storesWf {p f} (h : d.storesWf) : (d.modColl p f).storesWf := modPart_storesWf h

theorem collPut_storesWf {p x runs bs} (h : d.storesWf) : (d.collPut p x runs bs).storesWf := by
  unfold Device.collPut
  refine foldl_snd_storesWf (fun _ _ h1 => ?_) _ ?_
  · refine storesWf_ite ?_ ?_
    · exact (collAbort_worked _ _ _ _ _).wf ((hbmWrite_worked _ _ _ _ _).wf (modColl_storesWf h1))
    · exact (hbmWrite_worked _ _ _ _ _).wf (modColl_storesWf h1)
  · exact h

theorem collConvert_storesWf {p x first vs} (h : d.storesWf) : (d.collConvert p x first vs).storesWf :=
  storesWf_ite h (storesWf_ite (collPut_storesWf h) (collPut_storesWf (modColl_storesWf h)))

theorem readMany_storesWf {p rs} (h : d.storesWf) : (d.readMany p rs).2.2.storesWf := by
  unfold Device.readMany
  refine foldl_snd_snd_storesWf (fun _ _ h1 => ?_) _ ?_
  · exact ite_snd_snd_storesWf h1 (hbmRead_storesWf h1)
  · exact h

theorem collLoad_storesWf {p j} (h : d.storesWf) : (d.collLoad p j).storesWf := by
  unfold Device.collLoad
  dsimp only
  split
  · split
    · refine storesWf_ite ?_ ?_
      · exact collConvert_storesWf (modColl_storesWf (modColl_storesWf (readMany_storesWf h)))
      · exact modColl_storesWf (modColl_storesWf (readMany_storesWf h))
    · refine storesWf_ite ?_ ?_
      · exact collConvert_storesWf (modColl_storesWf (modColl_storesWf (readMany_storesWf h)))
      · exact modColl_storesWf (modColl_storesWf (readMany_storesWf h))
    · exact collPut_storesWf (modColl_storesWf (readMany_storesWf h))
    · refine storesWf_ite ?_ ?_
      · exact collPut_storesWf (modColl_storesWf (readMany_storesWf h))
      · exact modColl_storesWf (readMany_storesWf h)
    · exact modColl_storesWf (modColl_storesWf (readMany_storesWf h))
  · exact (askRepair_worked _ _ _ _).wf (readMany_storesWf h)
  · exact (collAbort_worked _ _ _ _ _).wf (readMany_storesWf h)
  · exact (collAbort_worked _ _ _ _ _).wf (readMany_storesWf h)

theorem collReadyMsg_storesWf {p m} (h : d.storesWf) : (d.collReadyMsg p m).storesWf := by
  unfold Device.collReadyMsg
  split
  · exact h
  · refine storesWf_ite ?_ ?_
    · exact (collAbort_worked _ _ _ _ _).wf h
    · exact storesWf_ite ((collAbort_worked _ _ _ _ _).wf h) (modColl_storesWf h)

theorem collAbortMsg_storesWf {p m} (h : d.storesWf) : (d.collAbortMsg p m).storesWf := by
  unfold Device.collAbortMsg
  split
  · exact storesWf_ite ((collAbort_worked _ _ _ _ _).wf h) h
  · exact h

theorem collReplayEarly_storesWf {p} (h : d.storesWf) : (d.collReplayEarly p).storesWf := by
  unfold Device.collReplayEarly
  dsimp only
  refine foldl_storesWf (fun _ _ h1 => ?_) _ ?_
  · exact storesWf_ite (collReadyMsg_storesWf h1) (collAbortMsg_storesWf h1)
  · exact modPart_storesWf h

theorem collBegin_storesWf {p addr x} (h : d.storesWf) : (d.collBegin p addr x).storesWf := by
  unfold Device.collBegin
  dsimp only
  split
  · refine collLoad_storesWf ?_
    refine collReplayEarly_storesWf ?_
    refine foldl_storesWf (fun _ _ h1 => ?_) _ ?_
    · refine foldl_storesWf (fun _ _ h2 => ?_) _ ?_
      · exact (collCtl_worked _ _ _ _ _ _ _ _ _ _ _).wf h2
      · exact h1
    · exact modPart_storesWf h
  · refine collReplayEarly_storesWf ?_
    refine foldl_storesWf (fun _ _ h1 => ?_) _ ?_
    · refine foldl_storesWf (fun _ _ h2 => ?_) _ ?_
      · exact (collCtl_worked _ _ _ _ _ _ _ _ _ _ _).wf h2
      · exact h1
    · exact modPart_storesWf h

theorem collRefuse_storesWf {p addr x status} (h : d.storesWf) : (d.collRefuse p addr x status).storesWf :=
  modPart_storesWf ((collEnd_worked _ _ _ _ _).wf (modPart_storesWf h))

theorem collTake_storesWf {p ops} (h : d.storesWf) : (d.collTake p ops).storesWf := by
  unfold Device.collTake
  dsimp only
  split
  · exact storesWf_ite (collLoad_storesWf h) h
  · refine storesWf_ite ?_ h
    split
    · refine storesWf_ite h ?_
      exact storesWf_ite (collRefuse_storesWf (hbmRead_storesWf h)) (collBegin_storesWf (hbmRead_storesWf h))
    · exact (askRepair_worked _ _ _ _).wf (hbmRead_storesWf h)
    · exact storesWf_ite (collRefuse_storesWf (hbmRead_storesWf h)) h
    · exact storesWf_ite (collRefuse_storesWf (hbmRead_storesWf h)) h

theorem collData_storesWf {src} (h : d.storesWf) : (d.collData src).storesWf := by
  unfold Device.collData
  split
  · exact h
  · next he =>
      have h1 := collPacket_storesWf he h
      split
      · exact h1
      · exact storesWf_ite (modColl_storesWf h1) h1

theorem collReadyRx_storesWf {src} (h : d.storesWf) : (d.collReadyRx src).storesWf := by
  unfold Device.collReadyRx
  split
  · exact h
  · next he =>
      have h1 := collPacket_storesWf he h
      dsimp only
      split
      · exact storesWf_ite h1 (modPart_storesWf h1)
      · exact storesWf_ite (modPart_storesWf h1) (collReadyMsg_storesWf h1)

theorem collCreditRx_storesWf {src} (h : d.storesWf) : (d.collCreditRx src).storesWf := by
  unfold Device.collCreditRx
  split
  · exact h
  · next he =>
      have h1 := collPacket_storesWf he h
      exact modColl_storesWf h1

theorem collAbortRx_storesWf {src} (h : d.storesWf) : (d.collAbortRx src).storesWf := by
  unfold Device.collAbortRx
  split
  · exact h
  · next he =>
      have h1 := collPacket_storesWf he h
      refine storesWf_ite h1 ?_
      refine storesWf_ite (collAbortMsg_storesWf h1) ?_
      refine storesWf_ite ?_ ?_
      · exact storesWf_ite h1 ((sendAborts_worked _ _ _ _ _ _).wf (modPart_storesWf h1))
      · exact modPart_storesWf h1

theorem collSendChunk_storesWf {p j v minus k first bs} (h : d.storesWf) : (d.collSendChunk p j v minus k first bs).storesWf := by
  unfold Device.collSendChunk
  refine foldl_storesWf (fun _ _ h1 => ?_) _ ?_
  · exact (collSend_worked _ _ _ _ _ _ _).wf h1
  · exact h

theorem suspectReducer_storesWf {p} (h : d.storesWf) : (d.suspectReducer p).storesWf :=
  storesWf_ite ((report_told _ _ _ _ _ _).storesWf h) h

theorem collCleared_storesWf {p port} (h : d.storesWf) : (d.collCleared p port).storesWf := by
  unfold Device.collCleared
  split
  · exact h
  · exact storesWf_ite (suspectReducer_storesWf ((report_told _ _ _ _ _ _).storesWf (modColl_storesWf h))) h

theorem collStore_storesWf {p l i c data} (h : d.storesWf) : (d.collStore p l i c data).storesWf := by
  unfold Device.collStore
  split
  · exact h
  · split
    · refine storesWf_ite ?_ h
      refine foldl_storesWf (fun _ _ h1 => ?_) _ ?_
      · exact collConvert_storesWf h1
      · exact h
    · exact storesWf_ite (collPut_storesWf h) h
    · exact storesWf_ite (collPut_storesWf h) h
    · exact storesWf_ite (modColl_storesWf h) h

theorem collChunk_storesWf {p st} (h : d.storesWf) : (d.collChunk p st).storesWf := by
  unfold Device.collChunk
  split
  · exact h
  · dsimp only
    split
    · exact h
    · split
      · exact h
      · refine storesWf_ite ((resetPartition_worked _ _ _).wf h) ?_
        refine collStore_storesWf ?_
        refine storesWf_ite ?_ ?_
        · refine (count_told _ _ _ _ _).storesWf ?_
          refine storesWf_ite ?_ ?_
          · refine collSendChunk_storesWf ?_
            refine storesWf_ite ?_ ?_
            · exact (collCtl_worked _ _ _ _ _ _ _ _ _ _ _).wf (modColl_storesWf (storesWf_ite h (collCleared_storesWf h)))
            · exact modColl_storesWf (storesWf_ite h (collCleared_storesWf h))
          · refine storesWf_ite ?_ ?_
            · exact (collCtl_worked _ _ _ _ _ _ _ _ _ _ _).wf (modColl_storesWf (storesWf_ite h (collCleared_storesWf h)))
            · exact modColl_storesWf (storesWf_ite h (collCleared_storesWf h))
        · refine storesWf_ite ?_ ?_
          · refine collSendChunk_storesWf ?_
            refine storesWf_ite ?_ ?_
            · exact (collCtl_worked _ _ _ _ _ _ _ _ _ _ _).wf (modColl_storesWf (storesWf_ite h (collCleared_storesWf h)))
            · exact modColl_storesWf (storesWf_ite h (collCleared_storesWf h))
          · refine storesWf_ite ?_ ?_
            · exact (collCtl_worked _ _ _ _ _ _ _ _ _ _ _).wf (modColl_storesWf (storesWf_ite h (collCleared_storesWf h)))
            · exact modColl_storesWf (storesWf_ite h (collCleared_storesWf h))

theorem collDone_storesWf {p} (h : d.storesWf) : (d.collDone p).storesWf := by
  unfold Device.collDone
  split
  · exact h
  · refine storesWf_ite ?_ h
    dsimp only
    split
    · exact (collEnd_worked _ _ _ _ _).wf (storesWf_ite (collPut_storesWf h) h)
    · exact storesWf_ite (collPut_storesWf h) h

theorem collStalled_storesWf {p} (h : d.storesWf) : (d.collStalled p).storesWf := by
  unfold Device.collStalled
  split
  · exact h
  · exact storesWf_ite ((collAbort_worked _ _ _ _ _).wf h) h

theorem collNetLost_storesWf {p n} (h : d.storesWf) : (d.collNetLost p n).storesWf := by
  unfold Device.collNetLost
  split
  · exact h
  · exact storesWf_ite ((collAbort_worked _ _ _ _ _).wf h) h

theorem applyLayout_storesWf {g k value} (h : d.storesWf) : (d.applyLayout g k value).2.storesWf :=
  ite_snd_storesWf h (ite_snd_storesWf h (ite_snd_storesWf h (modLayout_storesWf h)))

theorem applyCollRing_storesWf {g p value} (h : d.storesWf) : (d.applyCollRing g p value).2.storesWf := by
  unfold Device.applyCollRing
  refine ite_snd_storesWf ?_ ?_
  · exact ite_snd_storesWf h (ite_snd_storesWf h ((collWatch_touched _ _).wf (modPart_storesWf h)))
  · exact ite_snd_storesWf (ite_snd_storesWf h (modPart_storesWf ((dropWatches_worked _ _).wf h))) h

/-! ### Grants -/

theorem applyWindow_storesWf {g p w value} (h : d.storesWf) : (d.applyWindow g p w value).2.storesWf := by
  unfold Device.applyWindow
  refine ite_snd_storesWf ?_ ?_
  · exact ite_snd_storesWf h (ite_snd_storesWf h (ite_snd_storesWf h (modWindow_storesWf h)))
  · exact ite_snd_storesWf (modWindow_storesWf h) h

theorem applyPool_storesWf {g p n value} (h : d.storesWf) : (d.applyPool g p n value).2.storesWf := by
  unfold Device.applyPool
  refine ite_snd_storesWf ?_ ?_
  · exact ite_snd_storesWf h (ite_snd_storesWf h (ite_snd_storesWf h (poolClaspSet_storesWf (modPool_storesWf h))))
  · exact ite_snd_storesWf (ite_snd_storesWf h (ite_snd_storesWf h (poolClaspSet_storesWf (modPool_storesWf h)))) h

theorem applyGatherRing_storesWf {g p e value} (h : d.storesWf) : (d.applyGatherRing g p e value).2.storesWf := by
  unfold Device.applyGatherRing
  refine ite_snd_storesWf h ?_
  refine ite_snd_storesWf h ?_
  refine ite_snd_storesWf ?_ ?_
  · exact ite_snd_storesWf h (ite_snd_storesWf h ((ringWatch_touched _ _).wf ((modGather_worked _ _ _).wf h)))
  · exact ite_snd_storesWf h ((modGather_worked _ _ _).wf ((dropWatches_worked _ _).wf h))

theorem tmemFail_storesWf {n} (h : d.storesWf) : (d.tmemFail n).storesWf := by
  unfold Device.tmemFail
  refine storesWf_ite h ?_
  dsimp only
  refine foldl_storesWf (fun _ _ h1 => ?_) _ ?_
  · exact (resetPartition_worked _ _ _).wf h1
  · refine foldl_storesWf (fun _ _ h1 => ?_) _ ?_
    · exact storesWf_ite ((tmemEndJob_worked _ _).wf h1) h1
    · exact modTmem_storesWf h

theorem tmemTrained_storesWf {n gib fullWidth fullRate} (h : d.storesWf) : (d.tmemTrained n gib fullWidth fullRate).storesWf :=
  storesWf_ite (modTmem_storesWf h) h

/-! ### Host queues -/

theorem applyQueue_storesWf {g p value} (h : d.storesWf) : (d.applyQueue g p value).2.storesWf := by
  unfold Device.applyQueue
  refine ite_snd_storesWf h ?_
  refine ite_snd_storesWf ?_ ?_
  · exact ite_snd_storesWf h (ite_snd_storesWf h ((modQueue_worked _ _ _ _).wf h))
  · exact ite_snd_storesWf h (ite_snd_storesWf h ((modQueue_worked _ _ _ _).wf h))

theorem applyEvq_storesWf {g f value} (h : d.storesWf) : (d.applyEvq g f value).2.storesWf := by
  unfold Device.applyEvq
  refine ite_snd_storesWf ?_ ?_
  · exact ite_snd_storesWf h ((setEvq_told _ _ _).storesWf h)
  · exact ite_snd_storesWf ((setEvq_told _ _ _).storesWf h) h

theorem bellCq_storesWf {p n v} (h : d.storesWf) : (d.bellCq p n v).storesWf := by
  unfold Device.bellCq
  refine storesWf_ite h ?_
  exact storesWf_ite ((modQueue_worked _ _ _ _).wf h) ((drainCq_worked _ _ _).wf ((modQueue_worked _ _ _ _).wf h))

theorem bellEvq_storesWf {f v} (h : d.storesWf) : (d.bellEvq f v).storesWf :=
  storesWf_ite h ((flushLost_told _ _).storesWf ((setEvq_told _ _ _).storesWf h))

theorem sqPop_storesWf {p n} (h : d.storesWf) : (d.sqPop p n).storesWf := (modQueue_worked _ _ _ _).wf h

theorem sqDone_storesWf {p n w st} (h : d.storesWf) : (d.sqDone p n w st).storesWf := (postCq_worked _ _ _ _).wf (sqPop_storesWf h)

theorem sqRun_storesWf {p n ops f} (h : d.storesWf) (hf1 : ∀ (a : BitVec 512), (f a).storesWf) : (d.sqRun p n ops f).storesWf := by
  unfold Device.sqRun
  split
  · exact storesWf_ite h (storesWf_ite (sqDone_storesWf h) (hf1 _))
  · exact h

theorem sqNop_storesWf {p n} (h : d.storesWf) : (d.sqNop p n).storesWf := sqRun_storesWf h (fun _ => sqDone_storesWf h)

theorem sqRelease_storesWf {p n} (h : d.storesWf) : (d.sqRelease p n).storesWf := by
  unfold Device.sqRelease
  refine sqRun_storesWf h ?_
  intro _
  refine storesWf_ite (sqDone_storesWf h) ?_
  refine storesWf_ite ?_ ?_
  · exact sqDone_storesWf h
  · exact (schedule_scheduled _).wf (modCtx_storesWf ((modQueue_worked _ _ _ _).wf (sqPop_storesWf h)))

theorem sqLaunch_storesWf {p n} (h : d.storesWf) : (d.sqLaunch p n).storesWf := by
  unfold Device.sqLaunch
  refine sqRun_storesWf h (fun w => ?_)
  generalize BitVec.ofNat 1024 _ = b
  dsimp only
  generalize BitVec.ofNat 512 _ = desc
  split
  · exact sqDone_storesWf h
  · split
    · exact sqDone_storesWf h
    · split
      · exact h
      · split
        · exact h
        · next he => exact (modQueue_worked _ _ _ _).wf (sqPop_storesWf (placeDesc_storesWf he h))

theorem sqCancel_storesWf {p n} (h : d.storesWf) : (d.sqCancel p n).storesWf := by
  unfold Device.sqCancel
  refine sqRun_storesWf h ?_
  intro _
  refine sqDone_storesWf ?_
  refine foldl_storesWf (fun _ _ h1 => ?_) _ ?_
  · exact (cancelSlot_worked _ _ _).wf h1
  · exact h

theorem msixLater_storesWf {f vec} (h : d.storesWf) : (d.msixLater f vec).storesWf := by
  unfold Device.msixLater
  split
  · exact storesWf_dite (fun _ => h) (fun _ => h)
  · exact modPart_storesWf h

theorem barPocket_storesWf {t off n} (h : d.storesWf) : (d.barPocket t off n).2.storesWf := by
  unfold Device.barPocket
  refine ite_snd_storesWf ?_ ?_
  · exact (outsideUe_touched _ _ _).wf ((pocketRead_touched _ _ _ _ _).wf h)
  · exact (pocketRead_touched _ _ _ _ _).wf h

theorem barUnbound_storesWf {p off n write} (h : d.storesWf) : (d.barUnbound p off n write).storesWf :=
  (report_told _ _ _ _ _ _).storesWf h

theorem barReadPiece_storesWf {p off n} (h : d.storesWf) : (d.barReadPiece p off n).2.2.storesWf := by
  unfold Device.barReadPiece
  refine ite_snd_snd_storesWf ?_ ?_
  · refine ite_snd_snd_storesWf ?_ ?_
    · exact ite_snd_snd_storesWf (barPocket_storesWf h) (barPocket_storesWf h)
    · exact barUnbound_storesWf h
  · dsimp only
    split
    · exact hbmRead_storesWf h
    · exact barUnbound_storesWf (hbmRead_storesWf h)
    · exact hbmRead_storesWf h

theorem barRead4_storesWf {p off n} (h : d.storesWf) : (d.barRead4 p off n).storesWf := by
  unfold Device.barRead4
  refine modPart_storesWf ?_
  refine foldl_snd_snd_storesWf (fun _ _ h1 => ?_) _ ?_
  · exact barReadPiece_storesWf h1
  · exact h

theorem barWritePiece_storesWf {p off bs} (h : d.storesWf) : (d.barWritePiece p off bs).storesWf := by
  unfold Device.barWritePiece
  refine storesWf_ite ?_ ?_
  · exact storesWf_ite ((meshWrite_touched _ _ _ _).wf h) (barUnbound_storesWf h)
  · exact storesWf_ite (barUnbound_storesWf ((hbmWrite_worked _ _ _ _ _).wf h)) ((hbmWrite_worked _ _ _ _ _).wf h)

theorem barWrite4_storesWf {p off bs} (h : d.storesWf) : (d.barWrite4 p off bs).storesWf := by
  unfold Device.barWrite4
  refine foldl_storesWf (fun _ _ h1 => ?_) _ ?_
  · exact barWritePiece_storesWf h1
  · exact h

/-! ### Sentinel -/

theorem sentReport_storesWf (h : d.storesWf) : d.sentReport.storesWf := by
  unfold Device.sentReport
  split
  · exact h
  · exact modCtx_storesWf h

theorem foldReport_storesWf {c r} (h : d.storesWf) : (d.foldReport c r).storesWf := by
  unfold Device.foldReport
  split
  · exact h
  · exact h

theorem foldReports_storesWf {c} (h : d.storesWf) : (d.foldReports c).storesWf := by
  unfold Device.foldReports
  dsimp only
  refine foldl_storesWf (fun _ _ h1 => ?_) _ ?_
  · exact foldReport_storesWf h1
  · exact dropReports_storesWf h

theorem applyDecisions_storesWf {p c promote demote} (h : d.storesWf) : (d.applyDecisions p c promote demote).storesWf := by
  unfold Device.applyDecisions
  dsimp only
  refine foldl_storesWf (fun _ _ h1 => ?_) _ ?_
  · exact (report_told _ _ _ _ _ _).storesWf h1
  · exact h

theorem completeSteps_storesWf {p c step} (h : d.storesWf) : (d.completeSteps p c step).storesWf := by
  unfold Device.completeSteps
  refine foldl_storesWf (fun _ _ h1 => ?_) _ ?_
  · refine foldl_storesWf (fun _ _ h2 => ?_) _ ?_
    · split
      · exact storesWf_ite ((postCq_worked _ _ _ _).wf ((modQueue_worked _ _ _ _).wf h2)) h2
      · exact h2
    · exact h1
  · exact h

theorem reHold_storesWf {p c} (h : d.storesWf) : (d.reHold p c).storesWf := (schedule_scheduled _).wf (modCtx_storesWf h)

theorem stepEnd_storesWf {p c} (h : d.storesWf) : (d.stepEnd p c).storesWf := by
  unfold Device.stepEnd
  refine (schedule_scheduled _).wf ?_
  refine completeSteps_storesWf ?_
  refine modCtx_storesWf ?_
  refine modCtx_storesWf ?_
  refine foldl_storesWf (fun _ _ h1 => ?_) _ ?_
  · exact modTile_storesWf h1 (fun _ => rfl)
  · exact (writeWords_touched _ _ _ _).wf h

theorem stepBoundary_storesWf {c} (h : d.storesWf) : (d.stepBoundary c).storesWf := by
  unfold Device.stepBoundary
  dsimp only
  split
  · exact h
  · refine storesWf_ite ?_ h
    refine storesWf_ite ?_ ?_
    · refine modCtx_storesWf ?_
      split
      · exact (report_told _ _ _ _ _ _).storesWf (foldReports_storesWf h :)
      · exact (foldReports_storesWf h :)
    · refine stepEnd_storesWf ?_
      refine applyDecisions_storesWf ?_
      split
      · exact (report_told _ _ _ _ _ _).storesWf (foldReports_storesWf h :)
      · exact (foldReports_storesWf h :)

theorem sliceExchange_storesWf {c promote demote} (h : d.storesWf) : (d.sliceExchange c promote demote).storesWf := by
  unfold Device.sliceExchange
  dsimp only
  split
  · exact storesWf_ite (stepEnd_storesWf (applyDecisions_storesWf h)) h
  · exact h

theorem applyForce_storesWf {g p value} (h : d.storesWf) : (d.applyForce g p value).2.storesWf := by
  unfold Device.applyForce
  refine ite_snd_storesWf h ?_
  refine ite_snd_storesWf h ?_
  dsimp only
  split
  · exact h
  · exact ite_snd_storesWf h h

theorem sentWrite_storesWf {p bs} (h : d.storesWf) : (d.sentWrite p bs).2.storesWf := ite_snd_storesWf h h

/-! ### Admission -/

theorem registerEntry_storesWf {e} (h : d.storesWf) : (d.registerEntry e).storesWf := by
  unfold Device.registerEntry
  split
  · exact h
  · exact h

theorem reserveImage_storesWf {p c ss} (h : d.storesWf) : (d.reserveImage p c ss).storesWf := by
  unfold Device.reserveImage
  dsimp only
  refine foldl_storesWf (fun _ _ h1 => ?_) _ ?_
  · exact registerEntry_storesWf h1
  · refine modCtx_storesWf ?_
    refine foldl_storesWf (fun _ _ h1 => ?_) _ ?_
    · exact modPool_storesWf h1
    · refine foldl_storesWf (fun _ _ h1 => ?_) _ ?_
      · exact modWindow_storesWf h1
      · exact h

theorem modAdmit_storesWf {p f} (h : d.storesWf) : (d.modAdmit p f).storesWf := modPart_storesWf h

theorem admitRefused_storesWf {p es} (h : d.storesWf) : (d.admitRefused p es).storesWf := modAdmit_storesWf h

theorem dropImage_storesWf {p c} (h : d.storesWf) : (d.dropImage p c).storesWf := by
  unfold Device.dropImage
  have hr : (d.dropReserved p c).storesWf := dropReserved_storesWf h
  generalize d.dropReserved p c = e at hr ⊢
  exact hr

theorem adm_storesWf {p c addr length} (h : d.storesWf) : (d.adm p c addr length).storesWf := by
  unfold Device.adm
  refine storesWf_ite (admitRefused_storesWf (modAdmit_storesWf (loadBytes_storesWf h))) ?_
  refine storesWf_ite (admitRefused_storesWf (modAdmit_storesWf (loadBytes_storesWf h))) ?_
  refine storesWf_ite (admitRefused_storesWf (modAdmit_storesWf (loadBytes_storesWf h))) ?_
  refine storesWf_ite ?_ ?_
  · exact modAdmit_storesWf (reserveImage_storesWf (modAdmit_storesWf (loadBytes_storesWf h)))
  · exact admitRefused_storesWf (modAdmit_storesWf (loadBytes_storesWf h))

theorem applyAdmit_storesWf {g p value} (h : d.storesWf) : (d.applyAdmit g p value).2.storesWf := by
  unfold Device.applyAdmit
  refine ite_snd_storesWf h ?_
  refine ite_snd_storesWf ?_ ?_
  · exact ite_snd_storesWf h (ite_snd_storesWf h (adm_storesWf h))
  · exact ite_snd_storesWf (ite_snd_storesWf (modAdmit_storesWf (dropImage_storesWf h)) h) h

theorem loadTile_storesWf {c p x} (h : d.storesWf) : (d.loadTile c p x).2.storesWf := by
  unfold Device.loadTile
  refine ite_snd_storesWf (modCtx_storesWf (saveBytes_storesWf h)) ?_
  refine foldl_snd_storesWf (fun r q hr => ?_) _ (foldl_snd_storesWf (fun r q hr => ?_) _ ?_)
  · exact (claspApply_touched _ _ _ _).wf hr
  · exact storesWf_pocketWrite _ _ _ _ hr
  · exact storesWf_modTile _ _ h (Memory.wf_clear _ _ (h.pocket _))

theorem admitLoaded_storesWf {p} (h : d.storesWf) : (d.admitLoaded p).storesWf := by
  unfold Device.admitLoaded
  dsimp only
  split
  · exact h
  · refine storesWf_ite h ?_
    refine storesWf_ite ?_ ?_
    · refine modAdmit_storesWf ?_
      refine modCtx_storesWf ?_
      refine foldl_snd_storesWf (fun _ _ h1 => ?_) _ ?_
      · exact loadTile_storesWf h1
      · exact h
    · refine admitRefused_storesWf ?_
      refine dropImage_storesWf ?_
      refine foldl_snd_storesWf (fun _ _ h1 => ?_) _ ?_
      · exact loadTile_storesWf h1
      · exact h

end
end Sys2Proof.Machine

/-! Canonical stores (log 6): the edits of commits, fittings, resets, time and power keep them. -/

namespace Sys2Proof.Machine
section
variable {d : Device}

/-! ### Commit -/

theorem suspectTile_storesWf {x k} (h : d.storesWf) : (d.suspectTile x k).storesWf := modHealth_storesWf h

theorem suspectGather_storesWf {g} (h : d.storesWf) : (d.suspectGather g).storesWf := by
  unfold Device.suspectGather
  refine storesWf_ite ?_ ?_
  · exact (report_told _ _ _ _ _ _).storesWf ((modGather_worked _ _ _).wf h)
  · exact (modGather_worked _ _ _).wf h

theorem swapTile_storesWf {t y} (h : d.storesWf) : (d.swapTile t y).storesWf :=
  (patchWatch_told _ _ _).storesWf (patchIn_storesWf (modHealth_storesWf h))

theorem fence_storesWf {c u t} (h : d.storesWf) : (d.fence c u t).storesWf := storesWf_ite (modCtx_storesWf h) h

theorem residueEffect_storesWf {u} (h : d.storesWf) : (d.residueEffect u).storesWf := by
  unfold Device.residueEffect
  split
  · dsimp only
    split
    · exact fence_storesWf (modTile_storesWf h (fun _ => rfl))
    · exact modTile_storesWf h (fun _ => rfl)
  · dsimp only
    split
    · exact fence_storesWf (modTile_storesWf h (fun _ => rfl))
    · exact modTile_storesWf h (fun _ => rfl)
  · dsimp only
    split
    · exact h
    · refine storesWf_ite (fence_storesWf h) ?_
      refine storesWf_ite ?_ h
      refine storesWf_ite ?_ ?_
      · exact suspectGather_storesWf ((modJob_worked _ _ _).wf h)
      · exact fence_storesWf ((modJob_worked _ _ _).wf h)
  · split
    · exact h
    · split
      · exact h
      · refine storesWf_ite h ?_
        exact storesWf_ite ((resetPartition_worked _ _ _).wf ((collAbort_worked _ _ _ _ _).wf h)) (modPart_storesWf h)

theorem residueReport_storesWf {u} (h : d.storesWf) : (d.residueReport u).storesWf :=
  residueEffect_storesWf ((report_told _ _ _ _ _ _).storesWf h)

theorem auditVerdict_storesWf {c} (h : d.storesWf) : (d.auditVerdict c).storesWf := by
  unfold Device.auditVerdict
  split
  · exact h
  · refine storesWf_ite (suspectTile_storesWf (modCtx_storesWf (free_storesWf h))) ?_
    refine storesWf_ite ?_ ?_
    · exact suspectTile_storesWf (modCtx_storesWf (free_storesWf h))
    · exact (askTeardown_touched _ _ _).wf (modCtx_storesWf (free_storesWf h))

theorem commitOk_storesWf {c} (h : d.storesWf) : (d.commitOk c).storesWf := by
  unfold Device.commitOk
  refine auditSelect_storesWf ?_
  refine modCtx_storesWf ?_
  refine foldl_storesWf (fun _ _ h1 => ?_) _ ?_
  · exact modTile_storesWf h1 (fun _ => rfl)
  · exact foldReports_storesWf h

theorem patchSuspect_storesWf {p c u} (h : d.storesWf) : (d.patchSuspect p c u).storesWf := by
  unfold Device.patchSuspect
  split
  · dsimp only
    split
    · exact swapTile_storesWf (suspectTile_storesWf h)
    · exact (report_told _ _ _ _ _ _).storesWf (suspectTile_storesWf h)
  · dsimp only
    split
    · exact swapTile_storesWf (suspectTile_storesWf h)
    · exact (report_told _ _ _ _ _ _).storesWf (suspectTile_storesWf h)
  · exact suspectGather_storesWf h
  · exact h

theorem patchAudit_storesWf {c t sh} (h : d.storesWf) : (d.patchAudit c t sh).storesWf := by
  unfold Device.patchAudit
  dsimp only
  split
  · exact modCtx_storesWf (swapTile_storesWf (modCtx_storesWf h))
  · exact swapTile_storesWf (modCtx_storesWf (modCtx_storesWf h))

theorem commitFail_storesWf {p c} (h : d.storesWf) : (d.commitFail p c).storesWf := by
  unfold Device.commitFail
  refine storesWf_ite ((askTeardown_touched _ _ _).wf (storesWf_ite h h)) ?_
  refine storesWf_ite ((askTeardown_touched _ _ _).wf (storesWf_ite h h)) ?_
  dsimp only
  split
  · refine patchAudit_storesWf ?_
    split
    · exact patchSuspect_storesWf (modCtx_storesWf (dropReports_storesWf (storesWf_ite h h)))
    · exact modCtx_storesWf (dropReports_storesWf (storesWf_ite h h))
  · refine modCtx_storesWf ?_
    split
    · exact patchSuspect_storesWf (modCtx_storesWf (dropReports_storesWf (storesWf_ite h h)))
    · exact modCtx_storesWf (dropReports_storesWf (storesWf_ite h h))

theorem commitDecision_storesWf {c} (h : d.storesWf) : (d.commitDecision c).storesWf := by
  unfold Device.commitDecision
  dsimp only
  split
  · exact h
  · refine storesWf_ite h ?_
    refine storesWf_ite ?_ ?_
    · exact storesWf_ite (commitOk_storesWf (auditVerdict_storesWf h)) (auditVerdict_storesWf h)
    · exact commitFail_storesWf h

theorem rewindRing_storesWf {r} (h : d.storesWf) : (d.rewindRing r).storesWf := by
  unfold Device.rewindRing
  refine storesWf_ite ?_ ?_
  · exact (ringWatch_touched _ _).wf ((modGather_worked _ _ _).wf ((dropWatches_worked _ _).wf h))
  · exact (modGather_worked _ _ _).wf ((dropWatches_worked _ _).wf h)

theorem rewind_pocket (x : Tile) : x.rewind.pocket = x.pocket := by
  unfold Tile.rewind
  dsimp only
  split
  · rfl
  · rfl

theorem replayRestart_storesWf {c} (h : d.storesWf) : (d.replayRestart c).storesWf := by
  unfold Device.replayRestart
  refine storesWf_ite ?_ h
  dsimp only
  generalize hd : List.foldl (fun (d : Device) r => if (d.gather[r.1]).ring.ctx = c then d.rewindRing r else d) _ (d.ctxs[c]).ringRec = e
  have he : e.storesWf := by
    rw [← hd]
    refine foldl_storesWf (fun _ _ w => storesWf_ite (rewindRing_storesWf w) w) _
      (foldl_storesWf (fun _ _ w => ?_) _ (stopChannels_storesWf h))
    exact modTile_storesWf w rewind_pocket
  exact he

theorem auditMeet_storesWf {c agree} (h : d.storesWf) : (d.auditMeet c agree).storesWf := by
  unfold Device.auditMeet
  dsimp only
  split
  · exact h
  · exact storesWf_ite (storesWf_ite (modCtx_storesWf h) h) h

/-! ### Fitting -/

theorem decay_storesWf {x} (h : d.storesWf) : (d.decay x).storesWf := storesWf_ite (modHealth_storesWf h) h

theorem fitFallsDue_storesWf {x} (h : d.storesWf) : (d.fitFallsDue x).storesWf := storesWf_ite (modHealth_storesWf h) h

theorem graceExpiry_storesWf {x} (h : d.storesWf) : (d.graceExpiry x).storesWf := by
  unfold Device.graceExpiry
  refine storesWf_ite ?_ h
  exact storesWf_ite ((report_told _ _ _ _ _ _).storesWf (modHealth_storesWf h)) (modHealth_storesWf h)

theorem fitStart_storesWf {x} (h : d.storesWf) : (d.fitStart x).storesWf := (patchWatch_told _ _ _).storesWf (modHealth_storesWf h)

theorem pocketLost_storesWf {t} (h : d.storesWf) : (d.pocketLost t).storesWf := by
  unfold Device.pocketLost
  generalize pocketSize = n
  exact storesWf_modTile _ _ (freeBytes_storesWf h) (Memory.wf_write _ _ rfl)

theorem tileFitting_storesWf {x} (h : d.storesWf) : (d.tileFitting x).storesWf := by
  have hlost : ((d.pocketLost (d.health[x]).ltile).fitStart x).storesWf := fitStart_storesWf (pocketLost_storesWf h)
  unfold Device.tileFitting
  generalize 0x0209 = code
  refine storesWf_ite h (storesWf_ite (storesWf_ite (fitStart_storesWf h) h) (storesWf_ite h (storesWf_ite hlost (storesWf_ite h
    (storesWf_ite h ?_)))))
  split
  · next y _ _ =>
    have hs : ((d.swapTile (d.health[x]).ltile y).fitStart x).storesWf := fitStart_storesWf (swapTile_storesWf h)
    generalize (d.swapTile (d.health[x]).ltile y).fitStart x = e at hs ⊢
    dsimp only
    split
    · exact reHold_storesWf hs
    · exact hs
  · exact fitStart_storesWf ((report_told _ _ _ _ _ _).storesWf (modCtx_storesWf h))
  · exact h

theorem retireTile_storesWf {x} (h : d.storesWf) : (d.retireTile x).storesWf := by
  unfold Device.retireTile
  refine storesWf_ite h ?_
  dsimp only
  split
  · exact modTile_storesWf (freeClock_storesWf ((askTeardown_touched _ _ _).wf h)) (fun _ => rfl)
  · exact storesWf_ite (mapTile_storesWf h) (modTile_storesWf (freeClock_storesWf (mapTile_storesWf h)) (fun _ => rfl))

theorem fittingDone_storesWf {x pass} (h : d.storesWf) : (d.fittingDone x pass).storesWf := by
  unfold Device.fittingDone
  refine storesWf_ite h ?_
  refine storesWf_ite ?_ ((patchWatch_told _ _ _).storesWf (retireTile_storesWf h))
  dsimp only
  split
  · exact reHold_storesWf (modHealth_storesWf h)
  · exact (schedule_scheduled _).wf (modHealth_storesWf h)

theorem fitRequest_storesWf {value} (h : d.storesWf) : (d.fitRequest value).2.storesWf := by
  unfold Device.fitRequest
  refine ite_snd_storesWf ?_ (ite_snd_storesWf (modHealth_storesWf h) h)
  refine ite_snd_storesWf ?_ h
  dsimp only
  refine foldl_storesWf (fun _ _ h1 => ?_) _ ?_
  · exact storesWf_ite (modHealth_storesWf h1) h1
  · exact h

theorem bundleWrite_storesWf {bs} (h : d.storesWf) : (d.bundleWrite bs).2.storesWf := ite_snd_storesWf h (ite_snd_storesWf h h)

theorem assignTiles_storesWf (h : d.storesWf) : d.assignTiles.storesWf := by
  unfold Device.assignTiles
  dsimp only
  refine foldl_storesWf (fun _ _ h1 => ?_) _ ?_
  · refine foldl_storesWf (fun _ _ h2 => ?_) _ ?_
    · exact storesWf_ite (patchIn_storesWf h2) h2
    · exact h1
  · refine foldl_storesWf (fun _ _ h1 => ?_) _ ?_
    · exact modHealth_storesWf h1
    · exact h

theorem retiredTilesWrite_storesWf {bs} (h : d.storesWf) : (d.retiredTilesWrite bs).2.storesWf := by
  unfold Device.retiredTilesWrite
  refine ite_snd_storesWf h ?_
  refine ite_snd_storesWf h ?_
  dsimp only
  refine foldl_storesWf (fun _ _ h1 => ?_) _ ?_
  · exact (patchWatch_told _ _ _).storesWf h1
  · exact assignTiles_storesWf h

theorem retiredPagesWrite_storesWf {bs} (h : d.storesWf) : (d.retiredPagesWrite bs).2.storesWf :=
  ite_snd_storesWf h (ite_snd_storesWf h (placeExtras_storesWf h))

theorem modCkpt_storesWf {p f} (h : d.storesWf) : (d.modCkpt p f).storesWf := modPart_storesWf h

theorem ckptEnd_storesWf {p} (h : d.storesWf) : (d.ckptEnd p).storesWf := reHold_storesWf (modCkpt_storesWf h)

theorem applyCkpt_storesWf {g p value} (h : d.storesWf) : (d.applyCkpt g p value).2.storesWf := by
  unfold Device.applyCkpt
  refine ite_snd_storesWf (ckptEnd_storesWf h) ?_
  refine ite_snd_storesWf h ?_
  exact ite_snd_storesWf (modCkpt_storesWf (modCtx_storesWf h)) (ite_snd_storesWf h (modCkpt_storesWf h))

theorem ckptHold_storesWf {p} (h : d.storesWf) : (d.ckptHold p).storesWf := storesWf_ite (modCtx_storesWf (modCkpt_storesWf h)) h

theorem ckptExpired_storesWf {p} (h : d.storesWf) : (d.ckptExpired p).storesWf :=
  storesWf_ite ((report_told _ _ _ _ _ _).storesWf (ckptEnd_storesWf h)) h

theorem repairOn_storesWf {g p w0 w1} (h : d.storesWf) : (d.repairOn g p w0 w1).storesWf :=
  (registerWatch_touched _ _ _ _).wf (modPart_storesWf (modWindow_storesWf (modWindow_storesWf h)))

theorem repairOff_storesWf {p k} (h : d.storesWf) : (d.repairOff p k).storesWf := by
  unfold Device.repairOff
  refine modPart_storesWf ?_
  refine (dropWatches_worked _ _).wf ?_
  refine foldl_storesWf (fun _ _ h1 => ?_) _ ?_
  · exact modWindow_storesWf h1
  · exact h

theorem applyRepair_storesWf {g p value} (h : d.storesWf) : (d.applyRepair g p value).2.storesWf := by
  unfold Device.applyRepair
  refine ite_snd_storesWf ?_ (ite_snd_storesWf (ite_snd_storesWf (repairOff_storesWf h) h) h)
  refine ite_snd_storesWf h ?_
  split
  · exact repairOn_storesWf h
  · exact h

/-! ### Reset -/

theorem wipe_storesWf (h : d.storesWf) : d.wipe.storesWf := storesWf_intro reset_storesWf.hbm h.tmem h.host reset_storesWf.pocket

theorem startReset_storesWf {c level} (h : d.storesWf) : (d.startReset c level).storesWf := storesWf_ite h (wipe_storesWf h)

theorem dumpAll_storesWf (h : d.storesWf) : d.dumpAll.storesWf := h

theorem fatal_storesWf (h : d.storesWf) : d.fatal.storesWf :=
  storesWf_ite (startReset_storesWf h) (startReset_storesWf (dumpAll_storesWf h))

theorem hostPortReset_storesWf (h : d.storesWf) : d.hostPortReset.storesWf :=
  setRst_storesWf (pf0Flr_storesWf (foldl_storesWf (fun _ _ w => vfFlr_storesWf w) _ h))

theorem hostSource_storesWf {c level} (h : d.storesWf) : (d.hostSource c level).storesWf :=
  storesWf_ite (startReset_storesWf h) (hostPortReset_storesWf h)

theorem powerOn_storesWf (h : d.storesWf) : d.powerOn.storesWf :=
  storesWf_intro reset_storesWf.hbm reset_storesWf.tmem h.host reset_storesWf.pocket

theorem perstLow_storesWf (h : d.storesWf) : d.perstLow.storesWf :=
  storesWf_ite (startReset_storesWf h) (setRst_storesWf (hostPortReset_storesWf (setRst_storesWf h)))

theorem perstHigh_storesWf (h : d.storesWf) : d.perstHigh.storesWf := h

theorem linkLoss_storesWf (h : d.storesWf) : d.linkLoss.storesWf := by
  unfold Device.linkLoss
  split
  · exact storesWf_ite (hostSource_storesWf h) h
  · exact h

theorem fatalError_storesWf {x} (h : d.storesWf) : (d.fatalError x).storesWf := by
  unfold Device.fatalError
  split
  · exact startReset_storesWf h
  · exact fatal_storesWf h

theorem trip_storesWf {n} (h : d.storesWf) : (d.trip n).storesWf := startReset_storesWf h

theorem tripClear_storesWf (h : d.storesWf) : d.tripClear.storesWf := storesWf_ite h h

theorem applyRst_storesWf {value} (h : d.storesWf) : (d.applyRst value).2.storesWf :=
  ite_snd_storesWf (startReset_storesWf (dumpAll_storesWf h)) h

theorem resetEnd_storesWf (h : d.storesWf) : d.resetEnd.storesWf := storesWf_ite h h

theorem setStage_storesWf {n} (h : d.storesWf) : (d.setStage n).storesWf := h

theorem bringupFailed_storesWf (h : d.storesWf) : d.bringupFailed.storesWf := (report_told _ _ _ _ _ _).storesWf (setStage_storesWf h)

theorem authStage_storesWf {r} (h : d.storesWf) : (d.authStage r).storesWf := by
  unfold Device.authStage
  refine storesWf_ite ?_ ?_
  · dsimp only
    split
    · exact setStage_storesWf h
    · exact setStage_storesWf h
  · dsimp only
    split
    · exact storesWf_ite (setStage_storesWf h) h
    · exact storesWf_ite (setStage_storesWf h) (setStage_storesWf h)

theorem hbmStage_storesWf {r} (h : d.storesWf) : (d.hbmStage r).storesWf := by
  unfold Device.hbmStage
  exact setStage_storesWf (placeExtras_storesWf (storesWf_intro rfl h.tmem h.host h.pocket))

theorem panelStage_storesWf {r} (h : d.storesWf) : (d.panelStage r).storesWf := by
  unfold Device.panelStage
  refine setStage_storesWf (foldl_storesWf (fun _ _ w => storesWf_ite ((report_told _ _ _ _ _ _).storesWf w) w) _
    (assignTiles_storesWf ?_))
  exact mapTiles_storesWf h (fun _ _ => rfl)

theorem linkStage_storesWf (h : d.storesWf) : d.linkStage.storesWf := (report_told _ _ _ _ _ _).storesWf (setStage_storesWf h)

theorem bringup_storesWf {r} (h : d.storesWf) : (d.bringup r).storesWf := by
  unfold Device.bringup
  refine storesWf_ite h ?_
  refine storesWf_ite (bringupFailed_storesWf h) ?_
  refine storesWf_ite (setStage_storesWf h) ?_
  refine storesWf_ite (authStage_storesWf h) ?_
  refine storesWf_ite ?_ ?_
  · exact setStage_storesWf h
  · exact storesWf_ite (hbmStage_storesWf h) (storesWf_ite (panelStage_storesWf h) (linkStage_storesWf h))

theorem restartComp_storesWf {n} (h : d.storesWf) : (d.restartComp n).storesWf := by
  unfold Device.restartComp
  refine storesWf_ite (fatal_storesWf h) ?_
  refine storesWf_ite ((traceRec_told _ _ _ _ _ _).storesWf h :) ?_
  exact modComp_storesWf ((traceRec_told _ _ _ _ _ _).storesWf h)

theorem compBack_storesWf {n} (h : d.storesWf) : (d.compBack n).storesWf := by
  unfold Device.compBack
  refine storesWf_ite ?_ h
  refine storesWf_ite ((schedule_scheduled _).wf (modComp_storesWf ((traceRec_told _ _ _ _ _ _).storesWf h))) ?_
  refine storesWf_ite ?_ ?_
  · exact bindPump_storesWf (modComp_storesWf ((traceRec_told _ _ _ _ _ _).storesWf h))
  · exact modComp_storesWf ((traceRec_told _ _ _ _ _ _).storesWf h)

/-! ### Observe -/

theorem csetWrite_storesWf {k n v} (h : d.storesWf) : (d.csetWrite k n v).2.storesWf := ite_snd_storesWf h h

theorem alarmAck_storesWf {v} (h : d.storesWf) : (d.alarmAck v).2.storesWf := by
  unfold Device.alarmAck
  split
  · exact h
  · exact h

theorem traceTrigger_storesWf {v} (h : d.storesWf) : (d.traceTrigger v).2.storesWf := ite_snd_storesWf h h

theorem traceArm_storesWf {v} (h : d.storesWf) : (d.traceArm v).2.storesWf := ite_snd_storesWf h h

theorem freeze_storesWf (h : d.storesWf) : d.freeze.storesWf := storesWf_ite h h

theorem dbgFreeze_storesWf {v} (h : d.storesWf) : (d.dbgFreeze v).2.storesWf := ite_snd_storesWf (freeze_storesWf h) h

theorem jtagScan_storesWf {instrument} (h : d.storesWf) : (d.jtagScan instrument).storesWf := h

/-! ### Rack time -/

theorem modTsync_storesWf {f} (h : d.storesWf) : (d.modTsync f).storesWf := h

theorem markEdge_storesWf (h : d.storesWf) : d.markEdge.storesWf := by
  have ht : d.edgeTaken.storesWf := h
  have hr : (d.edgeTaken.report alMarkMissed none none 0 0).storesWf := (report_told _ _ _ _ _ _).storesWf ht
  unfold Device.markEdge
  refine storesWf_ite ht ?_
  split
  · exact hr
  · exact storesWf_ite (setDevTime_storesWf (modTsync_storesWf ht)) (storesWf_ite hr (modTsync_storesWf ht))

theorem markTimeout_storesWf (h : d.storesWf) : d.markTimeout.storesWf :=
  storesWf_ite ((report_told _ _ _ _ _ _).storesWf (modTsync_storesWf h)) h

theorem epochSend_storesWf (h : d.storesWf) : d.epochSend.storesWf := by
  unfold Device.epochSend
  refine storesWf_ite ?_ h
  dsimp only
  split
  · refine foldl_storesWf (fun _ _ h1 => ?_) _ ?_
    · exact (inject_touched _ _ _ _ _ _ _).wf h1
    · exact modTsync_storesWf h
  · exact modTsync_storesWf h

theorem servTime_storesWf {src} (h : d.storesWf) : (d.servTime src).storesWf := by
  unfold Device.servTime
  split
  · exact h
  · next he =>
      have h1 := takeHead_storesWf he h
      exact storesWf_ite (modTsync_storesWf h1) ((drop_touched _ _ _ _).wf h1)

theorem ptpLost_storesWf (h : d.storesWf) : d.ptpLost.storesWf :=
  storesWf_ite ((report_told _ _ _ _ _ _).storesWf (modTsync_storesWf h)) h

theorem ptpTake_storesWf {m} (h : d.storesWf) : (d.ptpTake m).storesWf := by
  unfold Device.ptpTake
  dsimp only
  split
  · exact storesWf_ite h (modTsync_storesWf h)
  · split
    · exact modTsync_storesWf h
    · exact h
  · exact storesWf_ite (modTsync_storesWf h) h
  · split
    · exact h
    · exact modTsync_storesWf h
  · exact storesWf_ite (modTsync_storesWf h) (storesWf_ite h (modTsync_storesWf h))
  · exact modTsync_storesWf (storesWf_ite (ptpLost_storesWf h) h)

theorem ptp_storesWf {m} (h : d.storesWf) : (d.ptp m).storesWf := storesWf_ite (ptpTake_storesWf (modTsync_storesWf h)) h

/-! ### Power -/

theorem reclock_storesWf (h : d.storesWf) : d.reclock.storesWf := by
  unfold Device.reclock
  refine foldl_storesWf (fun _ _ h1 => ?_) _ ?_
  · exact storesWf_ite h1 (storesWf_ite (modTile_storesWf h1 (fun _ => rfl)) (askWake_storesWf h1))
  · exact h

theorem wakeGrant_storesWf {p} (h : d.storesWf) : (d.wakeGrant p).storesWf := by
  unfold Device.wakeGrant
  split
  · exact h
  · refine storesWf_ite h ?_
    dsimp only
    generalize hd : Device.modTile _ _ _ = e
    have he : e.storesWf := by
      rw [← hd]
      refine modTile_storesWf (modPanel_storesWf h) (fun x => ?_)
      split
      · rfl
      · split
        · rfl
        · rfl
    exact storesWf_ite (askWake_storesWf he) he

theorem levelDescend_storesWf {t} (h : d.storesWf) : (d.levelDescend t).storesWf := storesWf_ite (modTile_storesWf h (fun _ => rfl)) h

theorem levelIdle_storesWf {t} (h : d.storesWf) : (d.levelIdle t).storesWf := storesWf_ite (modTile_storesWf h (fun _ => rfl)) h

theorem limiterStep_storesWf {w} (h : d.storesWf) : (d.limiterStep w).storesWf := reclock_storesWf h

theorem thermalStep_storesWf {p k reading} (h : d.storesWf) : (d.thermalStep p k reading).storesWf := by
  unfold Device.thermalStep
  refine storesWf_ite (reclock_storesWf (modPanel_storesWf h)) ?_
  refine storesWf_ite ?_ (storesWf_ite (reclock_storesWf (modPanel_storesWf h)) h)
  dsimp only
  split
  · refine storesWf_ite ?_ h
    refine foldl_storesWf (fun _ _ h1 => ?_) _ ?_
    · exact storesWf_ite (modTile_storesWf h1 (fun _ => rfl)) h1
    · exact modPanel_storesWf h
  · exact modPanel_storesWf h

/-! ### Values -/

theorem modSession_storesWf {ses f} (h : d.storesWf) : (d.modSession ses f).storesWf := h

theorem dumpsRead_storesWf {base sub item} (h : d.storesWf) : (d.dumpsRead base sub item).storesWf := storesWf_ite h (storesWf_ite h h)

end
end Sys2Proof.Machine

/-! Canonical stores (log 6): the edits of the dictionary and of management keep them. -/

namespace Sys2Proof.Machine
section
variable {d : Device}

/-! ### Dictionary -/

theorem mbxDone_storesWf {f len} (h : d.storesWf) : (d.mbxDone f len).storesWf := storesWf_ite ((signal_told _ _ _).storesWf h) h

theorem respond_storesWf {ses opc tag st ty value} (h : d.storesWf) : (d.respond ses opc tag st ty value).storesWf := by
  unfold Device.respond
  refine storesWf_ite h ?_
  dsimp only
  split
  · exact mbxDone_storesWf (modSession_storesWf h)
  · exact modSession_storesWf h

theorem request_storesWf {ses opc tag f} (h : d.storesWf) (hf1 : ∀ (a : Device), a.storesWf → (f a).dev.storesWf) :
  (d.request ses opc tag f).storesWf := by
  unfold Device.request
  refine storesWf_ite h ?_
  dsimp only
  split
  · exact respond_storesWf h
  · next he =>
      have h1 := openSes_storesWf he h
      exact respond_storesWf (hf1 _ h1)

theorem checked_storesWf {ses index sub read write f} (h : d.storesWf) (hf1 : ∀ (a : Obj) (a_1 : ℕ), (f a a_1).dev.storesWf) :
  (d.checked ses index sub read write f).dev.storesWf := by
  unfold Device.checked
  split
  · exact h
  · split
    · exact h
    · split
      · exact h
      · exact hf1 _ _

theorem readReq_storesWf {ses index sub} (h : d.storesWf) : (d.readReq ses index sub).dev.storesWf := by
  unfold Device.readReq
  refine checked_storesWf h ?_
  intro _ _
  split
  · exact h
  · exact h

theorem readSegReq_storesWf {ses index sub off} (h : d.storesWf) : (d.readSegReq ses index sub off).dev.storesWf := by
  unfold Device.readSegReq
  refine checked_storesWf h ?_
  intro _ _
  split
  · exact h
  · exact dumpsRead_storesWf h

theorem describeReq_storesWf {ses index sub} (h : d.storesWf) : (d.describeReq ses index sub).dev.storesWf := by
  unfold Device.describeReq
  refine checked_storesWf h ?_
  intro _ _
  dsimp only
  split
  · exact h
  · exact free_storesWf h

theorem abandonReq_storesWf {ses index} (h : d.storesWf) : (d.abandonReq ses index).dev.storesWf := modSession_storesWf h

theorem hlArrivals_storesWf (h : d.storesWf) : d.hlArrivals.storesWf := by
  unfold Device.hlArrivals
  refine foldl_storesWf (fun _ _ h1 => ?_) _ ?_
  · exact (takeArrivals_worked _ _).wf h1
  · exact h

theorem setGrant_storesWf {sub item v} (h : d.storesWf) : (d.setGrant sub item v).2.storesWf := by
  have hg (n : Nat) : (d.setCfg 0x6090 n item v).hlArrivals.storesWf := hlArrivals_storesWf (setCfg_storesWf h)
  unfold Device.setGrant
  dsimp only
  split
  · split
    · exact mk_snd_storesWf (hg 1)
    · exact h
  · split
    · exact mk_snd_storesWf (hg 2)
    · exact h

theorem setObj_storesWf {base sub item v} (h : d.storesWf) : (d.setObj base sub item v).2.storesWf := by
  have hr := (resetPartition_worked d (fin item) .command).wf h
  have hn := netDown_storesWf (n := fin item) (setCfg_storesWf (base := base) (sub := sub) (item := item) (v := v) h)
  have hc := reclock_storesWf (setCfg_storesWf (base := base) (sub := sub) (item := item) (v := v) h)
  unfold Device.setObj
  refine ite_snd_storesWf (setGrant_storesWf h) ?_
  refine ite_snd_storesWf (fitRequest_storesWf h) ?_
  refine ite_snd_storesWf (applyRst_storesWf h) ?_
  refine ite_snd_storesWf (ite_snd_storesWf (mk_snd_storesWf hr) h) ?_
  refine ite_snd_storesWf (csetWrite_storesWf h) ?_
  refine ite_snd_storesWf (alarmAck_storesWf h) ?_
  refine ite_snd_storesWf (traceTrigger_storesWf h) ?_
  refine ite_snd_storesWf (traceArm_storesWf h) ?_
  refine ite_snd_storesWf (dbgFreeze_storesWf h) ?_
  refine ite_snd_storesWf (mk_snd_storesWf hn) ?_
  exact ite_snd_storesWf (mk_snd_storesWf hc) (setCfg_storesWf h)

theorem logClamp_storesWf {ses index sub written stored} (h : d.storesWf) : (d.logClamp ses index sub written stored).storesWf :=
  storesWf_ite h h

theorem setParam_storesWf {ses index o item v} (h : d.storesWf) : (d.setParam ses index o item v).2.2.storesWf :=
  ite_snd_snd_storesWf (setObj_storesWf h) (logClamp_storesWf (setObj_storesWf h))

theorem setPeer_storesWf {ses v} (h : d.storesWf) : (d.setPeer ses v).2.storesWf := storesWf_ite h (modSession_storesWf h)

theorem applyRecord_storesWf {o item g bs v} (h : d.storesWf) : (d.applyRecord o item g bs v).2.storesWf := by
  unfold Device.applyRecord
  dsimp only
  split
  · exact applyWindow_storesWf h
  · exact applyPool_storesWf h
  · exact applyGatherRing_storesWf h
  · exact applyCollRing_storesWf h
  · exact applyForce_storesWf h
  · exact applyAdmit_storesWf h
  · exact applyCkpt_storesWf h
  · exact applyRepair_storesWf h
  · exact ite_snd_storesWf (applyBind_storesWf h) h
  · exact ite_snd_storesWf (applyCtx_storesWf h) h
  · exact applyQueue_storesWf h
  · exact applyEvq_storesWf h
  · exact applyEvq_storesWf h
  · exact applyPort_storesWf h
  · exact applyTable_storesWf h
  · exact applyLayout_storesWf h
  · exact h

theorem keepFields_storesWf {base item g} (h : d.storesWf) : (d.keepFields base item g).storesWf := by
  unfold Device.keepFields
  refine storesWf_ite (setCfg_storesWf h) ?_
  refine storesWf_ite ?_ h
  refine foldl_storesWf (fun _ _ h1 => ?_) _ ?_
  · exact setCfg_storesWf h1
  · exact h

theorem commit_storesWf {ses index o item v} (h : d.storesWf) : (d.commit ses index o item v).2.storesWf := by
  unfold Device.commit
  refine ite_snd_storesWf (modSession_storesWf h) ?_
  refine ite_snd_storesWf ?_ ?_
  · exact modSession_storesWf (storesWf_ite (keepFields_storesWf (applyRecord_storesWf h)) (applyRecord_storesWf h))
  · exact applyRecord_storesWf h

theorem writeObj_storesWf {ses index bytes o item} (h : d.storesWf) : (d.writeObj ses index bytes o item).dev.storesWf := by
  unfold Device.writeObj
  dsimp only
  split
  · exact h
  · split
    · exact h
    · split
      · exact setPeer_storesWf h
      · split
        · exact commit_storesWf h
        · split
          · exact modSession_storesWf h
          · split
            · exact setParam_storesWf h
            · exact setObj_storesWf h

theorem writeReq_storesWf {ses tag index sub bytes} (h : d.storesWf) : (d.writeReq ses tag index sub bytes).storesWf := by
  unfold Device.writeReq
  refine request_storesWf h ?_
  intro _ w
  dsimp only
  split
  · exact w
  · exact checked_storesWf (modSession_storesWf w) (fun _ _ => writeObj_storesWf (modSession_storesWf w))

theorem setBlob_storesWf {ses index o item bs} (h : d.storesWf) : (d.setBlob ses index o item bs).2.storesWf := by
  unfold Device.setBlob
  refine ite_snd_storesWf (modSession_storesWf h) ?_
  refine ite_snd_storesWf (sentWrite_storesWf h) ?_
  refine ite_snd_storesWf ?_ ?_
  · exact bundleWrite_storesWf h
  · exact ite_snd_storesWf (retiredTilesWrite_storesWf h) (ite_snd_storesWf (retiredPagesWrite_storesWf h) h)

theorem writeSegObj_storesWf {ses index off bytes last o item} (h : d.storesWf) :
  (d.writeSegObj ses index off bytes last o item).dev.storesWf := by
  unfold Device.writeSegObj
  dsimp only
  split
  · exact h
  · split
    · exact modSession_storesWf h
    · split
      · exact modSession_storesWf h
      · split
        · exact setBlob_storesWf (modSession_storesWf h)
        · exact modSession_storesWf h

theorem writeSegReq_storesWf {ses tag index sub off bytes last} (h : d.storesWf) :
  (d.writeSegReq ses tag index sub off bytes last).storesWf := by
  unfold Device.writeSegReq
  refine request_storesWf h ?_
  intro _ w
  dsimp only
  split
  · exact w
  · exact checked_storesWf (modSession_storesWf w) (fun _ _ => writeSegObj_storesWf (modSession_storesWf w))

theorem writeWhole_storesWf {ses index sub bs} (h : d.storesWf) : (d.writeWhole ses index sub bs).storesWf :=
  request_storesWf h (fun _ w => checked_storesWf w (fun _ _ => setBlob_storesWf w))

/-! ### Commands -/

theorem commitReq_storesWf {ses index v} (h : d.storesWf) : (d.commitReq ses index v).storesWf := writeReq_storesWf h

theorem commitWhen_storesWf {ses p o sub want} (h : d.storesWf) : (d.commitWhen ses p o sub want).storesWf :=
  storesWf_ite (commitReq_storesWf h) h

/-! ### Management -/

theorem endSession_storesWf {ses} (h : d.storesWf) : (d.endSession ses).storesWf := by
  unfold Device.endSession
  dsimp only
  split
  · exact h
  · exact modSession_storesWf h

theorem sessionTimeout_storesWf {ses} (h : d.storesWf) : (d.sessionTimeout ses).storesWf := storesWf_ite (endSession_storesWf h) h

theorem mbxWrite_storesWf {f v} (h : d.storesWf) : (d.mbxWrite f v).storesWf := storesWf_ite (endSession_storesWf h) h

theorem modMsix_storesWf {f vec g} (h : d.storesWf) : (d.modMsix f vec g).storesWf := by
  unfold Device.modMsix
  split
  · exact storesWf_dite (fun _ => h) (fun _ => h)
  · exact modPart_storesWf h

theorem registerWrite_storesWf {r v} (h : d.storesWf) : (d.registerWrite r v).storesWf := by
  unfold Device.registerWrite
  dsimp only
  split
  · exact modTile_storesWf h (fun _ => rfl)
  · exact modTile_storesWf h (fun _ => rfl)
  · exact modTile_storesWf h (fun _ => rfl)
  · exact modTile_storesWf h (fun _ => rfl)
  · exact modTile_storesWf h (fun _ => rfl)
  · exact modTile_storesWf h (fun _ => rfl)
  · exact modTile_storesWf h (fun _ => rfl)
  · exact modTile_storesWf h (fun _ => rfl)
  · exact (modStack_worked _ _ _).wf h
  · exact mbxWrite_storesWf h
  · exact modMsix_storesWf h
  · exact modMsix_storesWf h
  · exact modMsix_storesWf h
  · exact modPart_storesWf h
  · exact h

theorem modFw_storesWf {f} (h : d.storesWf) : (d.modFw f).storesWf := h

theorem asAgent_storesWf {ses ok f} (h : d.storesWf) (hf : f.2.storesWf) : (d.asAgent ses ok f).2.storesWf :=
  ite_snd_storesWf h (ite_snd_storesWf h (ite_snd_storesWf h hf))

theorem pldmRequest_storesWf {ses} (h : d.storesWf) : (d.pldmRequest ses).2.storesWf :=
  ite_snd_storesWf h (ite_snd_storesWf h (modFw_storesWf h))

theorem pldmTable_storesWf {ses ids} (h : d.storesWf) : (d.pldmTable ses ids).2.storesWf :=
  asAgent_storesWf h (ite_snd_storesWf (modFw_storesWf h) h)

theorem pldmUpdate_storesWf {ses id size} (h : d.storesWf) : (d.pldmUpdate ses id size).2.storesWf :=
  asAgent_storesWf h (ite_snd_storesWf (modFw_storesWf h) h)

theorem pldmVerify_storesWf (h : d.storesWf) : d.pldmVerify.storesWf := by
  unfold Device.pldmVerify
  refine storesWf_ite ?_ ?_
  · exact storesWf_ite (modFw_storesWf (modFw_storesWf h)) (modFw_storesWf (modFw_storesWf h))
  · exact storesWf_ite (modFw_storesWf (bundleWrite_storesWf (modFw_storesWf h))) (modFw_storesWf (modFw_storesWf h))

theorem pldmData_storesWf {ses data} (h : d.storesWf) : (d.pldmData ses data).2.storesWf := by
  unfold Device.pldmData
  refine asAgent_storesWf h ?_
  refine ite_snd_storesWf h ?_
  exact storesWf_ite (pldmVerify_storesWf (modFw_storesWf h)) (modFw_storesWf (modFw_storesWf h))

theorem pldmActivate_storesWf {ses} (h : d.storesWf) : (d.pldmActivate ses).2.storesWf :=
  asAgent_storesWf h (ite_snd_storesWf (modFw_storesWf h) h)

theorem pldmStatus_storesWf (h : d.storesWf) : d.pldmStatus.2.storesWf := h

theorem pldmCancelComp_storesWf {ses} (h : d.storesWf) : (d.pldmCancelComp ses).2.storesWf := asAgent_storesWf h (modFw_storesWf h)

theorem pldmCancel_storesWf {ses} (h : d.storesWf) : (d.pldmCancel ses).2.storesWf := asAgent_storesWf h (modFw_storesWf h)

theorem pldm_storesWf {ses f} (h : d.storesWf) (hf1 : ∀ (a : Device), a.storesWf → (f a).2.storesWf) : (d.pldm ses f).storesWf := by
  unfold Device.pldm
  refine request_storesWf h ?_
  intro _ w
  dsimp only
  split
  · exact w
  · split
    · exact w
    · exact modFw_storesWf (hf1 _ w)

theorem pldmMessage_storesWf {ses code body} (h : d.storesWf) : (d.pldmMessage ses code body).2.storesWf := by
  unfold Device.pldmMessage
  refine ite_snd_storesWf h ?_
  refine ite_snd_storesWf h ?_
  refine ite_snd_storesWf (pldmRequest_storesWf h) ?_
  refine ite_snd_storesWf (pldmTable_storesWf h) ?_
  refine ite_snd_storesWf (pldmUpdate_storesWf h) ?_
  refine ite_snd_storesWf (pldmData_storesWf h) ?_
  refine ite_snd_storesWf (pldmActivate_storesWf h) ?_
  refine ite_snd_storesWf ?_ ?_
  · exact pldmStatus_storesWf h
  · exact ite_snd_storesWf (pldmCancelComp_storesWf h) (ite_snd_storesWf (pldmCancel_storesWf h) h)

theorem mctpMsg_storesWf {ses msg} (h : d.storesWf) : (d.mctpMsg ses msg).storesWf := by
  unfold Device.mctpMsg
  refine storesWf_ite h ?_
  refine request_storesWf h ?_
  intro _ w
  dsimp only
  split
  · exact w
  · split
    · exact w
    · split
      · exact modFw_storesWf w
      · exact modFw_storesWf w
      · split
        · exact w
        · exact modFw_storesWf (pldmMessage_storesWf w)
      · exact w

theorem spdmDo_storesWf {ses f} (h : d.storesWf) (hf1 : ∀ (a : Device) (a_1 : Spdm), a.storesWf → (f a a_1).2.2.storesWf) :
  (d.spdmDo ses f).storesWf :=
  storesWf_ite h (storesWf_ite (modSession_storesWf (hf1 _ _ h :)) (hf1 _ _ h :))

theorem spdmNeeds_storesWf {n f x} (h : d.storesWf) : (spdmNeeds n f d x).2.2.storesWf := ite_snd_snd_storesWf h h

theorem spdmFinish_storesWf {ses x ok peerChain} (h : d.storesWf) : (d.spdmFinish ses x ok peerChain).2.2.storesWf := by
  unfold Device.spdmFinish
  refine ite_snd_snd_storesWf h ?_
  exact ite_snd_snd_storesWf h (ite_snd_snd_storesWf h (ite_snd_snd_storesWf h (modSession_storesWf h)))

theorem spdmInside_storesWf {f x} (h : d.storesWf) : (spdmInside f d x).2.2.storesWf := ite_snd_snd_storesWf h h

theorem spdmChunkGet_storesWf {ses} (h : d.storesWf) : (d.spdmChunkGet ses).storesWf :=
  storesWf_ite h (storesWf_ite (modSession_storesWf h) h)

end
end Sys2Proof.Machine

/-! Every step keeps every store canonical (log 6): a nanosecond of device time, and the edit of each command. -/

namespace Sys2Proof.Machine

theorem tileTick_pocket (now : W64) (x : Tile) : (x.tick now).pocket = x.pocket := by
  unfold Tile.tick
  split
  · rfl
  · rfl

theorem tick_storesWf {d : Device} (h : d.storesWf) : (tick d).storesWf := by
  have hd (time : W64) (y : Tsync) : Device.storesWf { d with devTime := time, tsync := y } := h
  have ht := mapTiles_storesWf h (f := Tile.tick d.devTime) (fun x w => by rwa [tileTick_pocket])
  refine storesWf_ite (foldl_storesWf (fun _ _ w => copyLine_storesWf w) _ ?_) (hd _ _)
  have hc := countWaits_storesWf (hd (d.devTime + BitVec.ofNat 64 d.tsync.tick.1) d.tsync.tick.2) (now := d.devTime)
  exact storesWf_intro hc.hbm hc.tmem hc.host ht.pocket

/-- Whatever state a command answers, its stores are canonical. -/
def AnswersSafe (o : Host.Outcome State Fault Refusal) : Prop := ∀ t, o = .next t → t.safe

theorem onDev_safe {f : Device → Device} {s : State} (h : s.safe) (hf : ∀ d, d.storesWf → (f d).storesWf) :
    AnswersSafe (onDev f s) := by
  intro t ht
  cases ht
  exact hf _ h

theorem onLive_safe {f : Device → Device} {s : State} (h : s.safe) (hf : ∀ d, d.storesWf → (f d).storesWf) :
    AnswersSafe (onLive f s) :=
  onDev_safe h (fun d w => storesWf_ite (hf d w) w)

/-- A command with ill-formed operands answers no state. -/
theorem ite_safe {b : Bool} {o : Host.Outcome State Fault Refusal} {e : Fault} (h : AnswersSafe o) :
    AnswersSafe (if b then o else .fault e) := by
  intro t ht
  split at ht
  · exact h t ht
  · cases ht

/-- An instruction of an engine is issued, then performed. -/
theorem phase_storesWf {d : Device} {t : TileNo} {op : TOp} {f : Nat → Device} (ph : Phase) (h : d.storesWf)
    (hf : ∀ k, (f k).storesWf) : Device.storesWf (match ph with
      | .issue => d.issueQ t op
      | .perform k => f k) := by
  cases ph with
  | issue => exact issueQ_storesWf h
  | perform k => exact hf k

theorem vxRow_safe {t : TileNo} {ph : Phase} {op : TOp} {f : Entry → CtxNo → Device → Except (ASt × Nat) VOut × Device} {s : State}
    (h : s.safe) (hf : ∀ e c d, d.storesWf → (f e c d).2.storesWf) : AnswersSafe (vxRow t ph op f s) :=
  onLive_safe h (fun _ w => phase_storesWf ph w (fun _ => vxRun_storesWf w hf))

theorem clRow_safe {t : TileNo} {ph : Phase} {op : TOp} {code : Nat} {s : State} (h : s.safe) : AnswersSafe (clRow t ph op code s) :=
  onLive_safe h (fun _ w => phase_storesWf ph w (fun _ => clAtomic_storesWf w))

/-- Each command edits the part by functions that keep its stores canonical. -/
theorem exec_safe (c : Instr) {s : State} (h : s.safe) : AnswersSafe (exec c s) := by
  unfold exec
  cases c with
  | seqNop _ => exact onLive_safe h (fun _ w => seqRun_storesWf w seqNopAct_pocket)
  | seqJmp _ => exact onLive_safe h (fun _ w => seqRun_storesWf w seqJmpAct_pocket)
  | seqBr _ => exact onLive_safe h (fun _ w => seqRun_storesWf w seqBrAct_pocket)
  | seqLoop _ => exact onLive_safe h (fun _ w => seqRun_storesWf w seqLoopAct_pocket)
  | seqLend _ => exact onLive_safe h (fun _ w => seqRun_storesWf w seqLendAct_pocket)
  | seqBld _ => exact onLive_safe h (fun _ w => seqBld_storesWf w)
  | seqBset _ => exact onLive_safe h (fun _ w => seqRun_storesWf w seqBsetAct_pocket)
  | seqBadd _ => exact onLive_safe h (fun _ w => seqRun_storesWf w seqBaddAct_pocket)
  | seqTokadd _ => exact onLive_safe h (fun _ w => seqTokadd_storesWf w)
  | seqFsel _ => exact onLive_safe h (fun _ w => seqFsel_storesWf w)
  | ldFill _ ph => exact onLive_safe h (fun _ w => phase_storesWf ph w (fun _ => ldFill_storesWf w))
  | ldTouch _ ph => exact onLive_safe h (fun _ w => phase_storesWf ph w (fun _ => ldTouch_storesWf w))
  | stPut _ ph => exact onLive_safe h (fun _ w => phase_storesWf ph w (fun _ => stPut_storesWf w))
  | stClw _ ph => exact onLive_safe h (fun _ w => phase_storesWf ph w (fun _ => stClw_storesWf w))
  | mmOpen _ ph => exact onLive_safe h (fun _ w => phase_storesWf ph w (fun _ => mmOpen_storesWf w))
  | mmLdb _ ph => exact onLive_safe h (fun _ w => phase_storesWf ph w (fun _ => mmLdb_storesWf w))
  | mmStrm _ ph => exact onLive_safe h (fun _ w => phase_storesWf ph w (fun _ => mmStrm_storesWf w))
  | mmDrain _ ph => exact onLive_safe h (fun _ w => phase_storesWf ph w (fun _ => mmDrain_storesWf w))
  | mmTileInit _ => exact onLive_safe h (fun _ w => mmTileInit_storesWf w)
  | vxMov _ _ => exact vxRow_safe h (fun _ _ _ w => vxMovF_storesWf w)
  | vxAdd _ _ => exact vxRow_safe h (fun _ _ _ w => vxBin_storesWf w)
  | vxSub _ _ => exact vxRow_safe h (fun _ _ _ w => vxBin_storesWf w)
  | vxMul _ _ => exact vxRow_safe h (fun _ _ _ w => vxBin_storesWf w)
  | vxFma _ _ => exact vxRow_safe h (fun _ _ _ w => vxFmaF_storesWf w)
  | vxMax _ _ => exact vxRow_safe h (fun _ _ _ w => vxBin_storesWf w)
  | vxMin _ _ => exact vxRow_safe h (fun _ _ _ w => vxBin_storesWf w)
  | vxSfu _ _ => exact vxRow_safe h (fun _ _ _ w => vxSfuF_storesWf w)
  | vxRed _ _ => exact vxRow_safe h (fun _ _ _ w => vxRedF_storesWf w)
  | vxAmax _ _ => exact vxRow_safe h (fun _ _ _ w => vxAmaxF_storesWf w)
  | vxCvt _ _ => exact vxRow_safe h (fun _ _ _ w => vxConvF_storesWf w)
  | vxQuant _ _ => exact vxRow_safe h (fun _ _ _ w => vxConvF_storesWf w)
  | vxRot _ _ => exact vxRow_safe h (fun _ _ _ w => vxRotF_storesWf w)
  | vxTopk _ _ => exact vxRow_safe h (fun _ _ _ w => vxTopkF_storesWf w)
  | vxTopkMerge _ _ => exact vxRow_safe h (fun _ _ _ w => vxTopkMergeF_storesWf w)
  | mvLaunch _ ph => exact onLive_safe h (fun _ w => phase_storesWf ph w (fun _ => mvLaunch_storesWf w))
  | mvSetprio _ ph => exact onLive_safe h (fun _ w => phase_storesWf ph w (fun _ => mvSetprio_storesWf w))
  | mvCancel _ ph => exact onLive_safe h (fun _ w => phase_storesWf ph w (fun _ => mvCancel_storesWf w))
  | clAdd _ _ => exact clRow_safe h
  | clSwap _ _ => exact clRow_safe h
  | clCas _ _ => exact clRow_safe h
  | clAnd _ _ => exact clRow_safe h
  | clOr _ _ => exact clRow_safe h
  | clMax _ _ => exact clRow_safe h
  | clWatch _ ph => exact onLive_safe h (fun _ w => phase_storesWf ph w (fun _ => clRegister_storesWf w))
  | clWait _ ph => exact onLive_safe h (fun _ w => phase_storesWf ph w (fun _ => clRegister_storesWf w))
  | clRead _ _ => exact clRow_safe h
  | watchSlotAccept _ => exact onLive_safe h (fun _ w => acceptWaiting_storesWf w)
  | notifyApply _ => exact onLive_safe h (fun _ w => notifyApply_storesWf w)
  | syLiningInv _ ph => exact onLive_safe h (fun _ w => phase_storesWf ph w (fun _ => syLiningInv_storesWf w))
  | syFence _ => exact onLive_safe h (fun _ w => syRun_storesWf w (fun _ _ w => modTile_storesWf w (fun _ => rfl)))
  | syStepCommit _ => exact onLive_safe h (fun _ w => syRun_storesWf w (fun _ _ w => modTile_storesWf w (fun _ => rfl)))
  | syYield _ => exact onLive_safe h (fun _ w => syRun_storesWf w (fun _ _ w => yieldSave_storesWf (modTile_storesWf w (fun _ => rfl))))
  | syEnd _ => exact onLive_safe h (fun _ w => syRun_storesWf w (fun _ _ w => yieldSave_storesWf (modTile_storesWf w (fun _ => rfl))))
  | dispatchResume _ => exact onLive_safe h (fun _ w => dispatchResume_storesWf w)
  | engineStart _ _ => exact onLive_safe h (fun _ w => engineStart_storesWf w)
  | instructionComplete _ _ _ _ =>
    refine onLive_safe h ?_
    intro d w
    refine storesWf_ite w ?_
    split
    · exact bldLand_storesWf w
    · exact storesWf_ite (sourceRelease_storesWf w) (complete_storesWf w)
  | reqTimeout _ => exact onLive_safe h (fun _ w => reqTimeout_storesWf w)
  | stepWatchdog _ => exact onLive_safe h (fun _ w => stepWatchdog_storesWf w)
  | engineStall _ _ => exact onLive_safe h (fun _ w => engineStall_storesWf w)
  | kernelStart _ => exact onLive_safe h (fun _ w => kernelStart_storesWf w)
  | pocketCeWriteback _ _ => exact onLive_safe h (fun _ w => ceWriteback_storesWf w)
  | liningFill _ _ => exact onLive_safe h (fun _ w => liningFill_storesWf w)
  | windowOpen _ _ _ => exact onLive_safe h (fun _ w => commitReq_storesWf w)
  | windowClose _ _ _ => exact onLive_safe h (fun _ w => commitReq_storesWf w)
  | windowClosed _ _ => exact onLive_safe h (fun _ w => windowClosed_storesWf w)
  | contextExit _ => exact onLive_safe h (fun _ w => contextExit_storesWf w)
  | moverSelect _ => exact onLive_safe h (fun _ w => moverSelect_storesWf w)
  | descriptorForward _ => exact onLive_safe h (fun _ w => descForward_storesWf w)
  | paceTimerStart _ _ => exact onLive_safe h (fun _ w => paceStart_storesWf w)
  | burstStart _ => exact onLive_safe h (fun _ w => burstStart_storesWf w)
  | fillUnit _ => exact onLive_safe h (fun _ w => fillUnit_storesWf w)
  | channelEnd _ _ => exact onLive_safe h (fun _ w => channelEnd_storesWf w)
  | channelStopped _ _ => exact onLive_safe h (fun _ w => channelStopped_storesWf w)
  | channelEndReport _ => exact onLive_safe h (fun _ w => endReport_storesWf w)
  | poolOpen _ _ _ => exact onLive_safe h (fun _ w => commitReq_storesWf w)
  | poolClose _ _ _ => exact onLive_safe h (fun _ w => commitReq_storesWf w)
  | gatherRingOpen _ _ _ => exact onLive_safe h (fun _ w => commitReq_storesWf w)
  | gatherRingClose _ _ _ => exact onLive_safe h (fun _ w => commitReq_storesWf w)
  | gatherFwd _ => exact onLive_safe h (fun _ w => gatherFwd_storesWf w)
  | gatherBwd _ => exact onLive_safe h (fun _ w => gatherBwd_storesWf w)
  | gatherRcInv _ => exact onLive_safe h (fun _ w => gatherRcInv_storesWf w)
  | gatherProgress _ => exact onLive_safe h (fun _ w => gatherProgress_storesWf w)
  | gatherPhaseB _ => exact onLive_safe h (fun _ w => gatherPhaseB_storesWf w)
  | gatherJobEnd _ => exact onLive_safe h (fun _ w => (gatherJobEnd_worked _ _).wf w)
  | tmemFail _ => exact onLive_safe h (fun _ w => tmemFail_storesWf w)
  | hbmCeWriteback _ _ => exact onLive_safe h (fun _ w => hbmWriteback_storesWf w)
  | peerRepairServe _ _ _ => exact onLive_safe h (fun _ w => repairServe_storesWf w)
  | peerRepairReply _ => exact onLive_safe h (fun _ w => repairReply_storesWf w)
  | peerRepairTimeout _ => exact onLive_safe h (fun _ w => repairTimeout_storesWf w)
  | peerVersionWaitExpiry _ => exact onLive_safe h (fun _ w => versionExpiry_storesWf w)
  | scrubRead _ => exact onLive_safe h (fun _ w => scrubRead_storesWf w)
  | pageRemapDone _ => exact onLive_safe h (fun _ w => remapDone_storesWf w)
  | stackFailure _ => exact onLive_safe h (fun _ w => storesWf_ite w (fatal_storesWf ((modStack_worked _ _ _).wf w)))
  | laneTrained _ _ _ _ => exact onLive_safe h (fun _ w => laneUp_storesWf w)
  | laneRetry _ => exact onLive_safe h (fun _ w => laneRetry_storesWf w)
  | laneFailure _ => exact onLive_safe h (fun _ w => laneFail_storesWf w)
  | lcwReceive _ _ => exact onLive_safe h (fun _ w => lcwReceive_storesWf w)
  | linkPacketReceive _ _ => exact ite_safe (onLive_safe h (fun _ w => packetReceive_storesWf w))
  | holdWindowExpiry _ => exact onLive_safe h (fun _ w => holdExpiry_storesWf w)
  | laneSubstitution _ _ _ => exact onLive_safe h (fun _ w => substitute_storesWf w)
  | portReturn _ => exact onLive_safe h (fun _ w => portReturn_storesWf w)
  | portEnable _ _ => exact onLive_safe h (fun _ w => commitReq_storesWf w)
  | portDisable _ _ => exact onLive_safe h (fun _ w => commitReq_storesWf w)
  | sliceTableLoad _ _ => exact onLive_safe h (fun _ w => commitReq_storesWf w)
  | sliceTableRemove _ _ => exact onLive_safe h (fun _ w => commitReq_storesWf w)
  | routerForward _ => exact ite_safe (onLive_safe h (fun _ w => routerForward_storesWf w))
  | routerStallDrop _ _ _ => exact onLive_safe h (fun _ w => stallDrop_storesWf w)
  | pktWrite _ => exact ite_safe (onLive_safe h (fun _ w => servWrite_storesWf w))
  | pktWriteF _ => exact ite_safe (onLive_safe h (fun _ w => servWrite_storesWf w))
  | pktRead _ => exact ite_safe (onLive_safe h (fun _ w => servRead_storesWf w))
  | pktAtomic _ => exact ite_safe (onLive_safe h (fun _ w => servAtomic_storesWf w))
  | pktWatch _ => exact ite_safe (onLive_safe h (fun _ w => servWatch_storesWf w))
  | pktReadRsp _ => exact ite_safe (onLive_safe h (fun _ w => servReadRsp_storesWf w))
  | pktWriteAck _ => exact ite_safe (onLive_safe h (fun _ w => servWriteAck_storesWf w))
  | pktAtomicRsp _ => exact ite_safe (onLive_safe h (fun _ w => servAtomicRsp_storesWf w))
  | pktNotify _ => exact ite_safe (onLive_safe h (fun _ w => servNotify_storesWf w))
  | pktCollData _ => exact ite_safe (onLive_safe h (fun _ w => collData_storesWf w))
  | collReady _ => exact ite_safe (onLive_safe h (fun _ w => collReadyRx_storesWf w))
  | collCredit _ => exact ite_safe (onLive_safe h (fun _ w => collCreditRx_storesWf w))
  | collAbortReceive _ => exact ite_safe (onLive_safe h (fun _ w => collAbortRx_storesWf w))
  | pktTime _ => exact ite_safe (onLive_safe h (fun _ w => servTime_storesWf w))
  | rackMarkEdge => exact onDev_safe h (fun _ w => markEdge_storesWf w)
  | rackRefLoss => exact onDev_safe h (fun _ w => modTsync_storesWf w)
  | rackRefReturn => exact onDev_safe h (fun _ w => modTsync_storesWf w)
  | ptpMessage _ => exact onLive_safe h (fun _ w => ptp_storesWf w)
  | timePtpLost => exact onLive_safe h (fun _ w => ptpLost_storesWf w)
  | collLayoutLoad _ _ => exact onLive_safe h (fun _ w => commitReq_storesWf w)
  | collRingOpen _ _ => exact onLive_safe h (fun _ w => commitReq_storesWf w)
  | collRingClose _ _ => exact onLive_safe h (fun _ w => commitReq_storesWf w)
  | collAllReduce _ => exact onLive_safe h (fun _ w => collTake_storesWf w)
  | collReduceScatter _ => exact onLive_safe h (fun _ w => collTake_storesWf w)
  | collAllGather _ => exact onLive_safe h (fun _ w => collTake_storesWf w)
  | collBroadcast _ => exact onLive_safe h (fun _ w => collTake_storesWf w)
  | collTopkMerge _ => exact onLive_safe h (fun _ w => collTake_storesWf w)
  | collChunkReduce _ _ => exact onLive_safe h (fun _ w => collChunk_storesWf w)
  | collComplete _ => exact onLive_safe h (fun _ w => collDone_storesWf w)
  | collStall _ => exact onLive_safe h (fun _ w => collStalled_storesWf w)
  | collNetLost _ _ => exact onLive_safe h (fun _ w => collNetLost_storesWf w)
  | bindRelease _ _ => exact onLive_safe h (fun _ w => commitWhen_storesWf w)
  | bindFreeResources _ _ => exact onLive_safe h (fun _ w => commitWhen_storesWf w)
  | bindTake _ _ => exact onLive_safe h (fun _ w => commitWhen_storesWf w)
  | rebindDrainDone _ => exact onLive_safe h (fun _ w => storesWf_ite (drainDone_storesWf w) w)
  | drainExpired _ => exact onLive_safe h (fun _ w => storesWf_ite (drainExpired_storesWf w) w)
  | rebindComplete _ => exact onLive_safe h (fun _ w => storesWf_ite (rebindComplete_storesWf w) w)
  | contextSaveDone _ => exact onLive_safe h (fun _ w => saveDone_storesWf w)
  | contextRestoreDone _ => exact onLive_safe h (fun _ w => restoreDone_storesWf w)
  | ctxSetPriority _ _ => exact onLive_safe h (fun _ w => commitWhen_storesWf w)
  | ctxStart _ _ => exact onLive_safe h (fun _ w => commitWhen_storesWf w)
  | ctxTearDown _ _ => exact onLive_safe h (fun _ w => commitWhen_storesWf w)
  | contextTeardown _ => exact onLive_safe h (fun _ w => contextTeardown_storesWf w)
  | partitionReset _ _ _ => exact onLive_safe h (fun _ w => writeReq_storesWf w)
  | vfFlr _ => exact onDev_safe h (fun _ w => storesWf_ite w (vfFlr_storesWf w))
  | pf0Flr => exact onDev_safe h (fun _ w => storesWf_ite w (pf0Flr_storesWf w))
  | admitCommit _ _ => exact onLive_safe h (fun _ w => commitReq_storesWf w)
  | admitWithdraw _ _ => exact onLive_safe h (fun _ w => commitReq_storesWf w)
  | admitLoadDone _ => exact onLive_safe h (fun _ w => bindPump_storesWf (admitLoaded_storesWf w))
  | sentinelReport => exact onLive_safe h (fun _ w => sentReport_storesWf w)
  | commitDecision _ => exact onLive_safe h (fun _ w => commitDecision_storesWf w)
  | residueReport _ => exact onLive_safe h (fun _ w => residueReport_storesWf w)
  | replayRestart _ => exact onLive_safe h (fun _ w => replayRestart_storesWf w)
  | auditRendezvous _ _ => exact onLive_safe h (fun _ w => auditMeet_storesWf w)
  | stepBoundary _ => exact onLive_safe h (fun _ w => stepBoundary_storesWf w)
  | sliceDecisionExchange _ _ _ => exact onLive_safe h (fun _ w => sliceExchange_storesWf w)
  | sentinelForceCommit _ _ => exact onLive_safe h (fun _ w => commitReq_storesWf w)
  | sentinelEntriesWrite _ _ _ => exact onLive_safe h (fun _ w => writeWhole_storesWf w)
  | repairRegister _ _ => exact onLive_safe h (fun _ w => commitReq_storesWf w)
  | repairRemove _ _ => exact onLive_safe h (fun _ w => commitReq_storesWf w)
  | ckptArm _ _ => exact onLive_safe h (fun _ w => commitReq_storesWf w)
  | ckptRelease _ _ => exact onLive_safe h (fun _ w => commitReq_storesWf w)
  | ckptHold _ => exact onLive_safe h (fun _ w => ckptHold_storesWf w)
  | ckptExpired _ => exact onLive_safe h (fun _ w => ckptExpired_storesWf w)
  | suspicionDecay _ => exact onLive_safe h (fun _ w => decay_storesWf w)
  | tileFitting _ => exact onLive_safe h (fun _ w => tileFitting_storesWf w)
  | fittingDone _ _ => exact onLive_safe h (fun _ w => fittingDone_storesWf w)
  | fitDue _ => exact onLive_safe h (fun _ w => fitFallsDue_storesWf w)
  | fitGraceExpiry _ => exact onLive_safe h (fun _ w => graceExpiry_storesWf w)
  | fitRequestTile _ _ => exact onLive_safe h (fun _ w => writeReq_storesWf w)
  | fitRequestDevice _ => exact onLive_safe h (fun _ w => writeReq_storesWf w)
  | fitBundleWrite _ _ => exact onLive_safe h (fun _ w => writeWhole_storesWf w)
  | patchRetiredWrite _ _ => exact onLive_safe h (fun _ w => writeWhole_storesWf w)
  | hbmRetiredPagesWrite _ _ => exact onLive_safe h (fun _ w => writeWhole_storesWf w)
  | powerOn => exact onDev_safe h (fun _ w => powerOn_storesWf w)
  | rstNAssert => exact onDev_safe h (fun _ w => startReset_storesWf w)
  | perstNAssert => exact onDev_safe h (fun _ w => perstLow_storesWf w)
  | perstNDeassert => exact onDev_safe h (fun _ w => perstHigh_storesWf w)
  | pcieHotReset => exact onDev_safe h (fun _ w => hostSource_storesWf w)
  | pcieLinkLoss => exact onDev_safe h (fun _ w => linkLoss_storesWf w)
  | collarWatchdog => exact onDev_safe h (fun _ w => startReset_storesWf w)
  | rstCommand _ _ => exact onLive_safe h (fun _ w => writeReq_storesWf w)
  | fatalError _ => exact onDev_safe h (fun _ w => fatalError_storesWf w)
  | resetRelease => exact onDev_safe h (fun _ w => storesWf_ite w w)
  | resetEnd => exact onDev_safe h (fun _ w => resetEnd_storesWf w)
  | bringupStage _ => exact onLive_safe h (fun _ w => bringup_storesWf w)
  | thermalTrip _ => exact onDev_safe h (fun _ w => trip_storesWf w)
  | thermalTripClear => exact onDev_safe h (fun _ w => tripClear_storesWf w)
  | collarCoreFail _ => exact onLive_safe h (fun _ w => storesWf_ite (fatal_storesWf w) (restartComp_storesWf w))
  | fwComponentRestart _ => exact onLive_safe h (fun _ w => storesWf_ite (fatal_storesWf w) (restartComp_storesWf w))
  | wakeGrant _ => exact onLive_safe h (fun _ w => wakeGrant_storesWf w)
  | levelDescend _ => exact onLive_safe h (fun _ w => levelDescend_storesWf w)
  | levelIdle _ => exact onLive_safe h (fun _ w => levelIdle_storesWf w)
  | pwrBrakeAssert =>
    refine onDev_safe h ?_
    intro d w
    dsimp only
    refine storesWf_ite ?_ w
    refine foldl_storesWf (fun _ _ h => ?_) _ ?_
    · exact modTile_storesWf h (fun _ => rfl)
    · exact w
  | pwrBrakeRelease => exact onDev_safe h (fun _ w => storesWf_ite (reclock_storesWf w) w)
  | thermalThrottleStep _ _ _ => exact onLive_safe h (fun _ w => thermalStep_storesWf w)
  | powerLimiterStep _ => exact onLive_safe h (fun _ w => limiterStep_storesWf w)
  | sqTailDoorbell _ _ _ => exact onLive_safe h (fun _ w => (modQueue_worked _ _ _ _).wf w)
  | cqHeadDoorbell _ _ _ => exact onLive_safe h (fun _ w => bellCq_storesWf w)
  | evqHeadDoorbell _ _ => exact onLive_safe h (fun _ w => bellEvq_storesWf w)
  | nop _ _ => exact onLive_safe h (fun _ w => sqNop_storesWf w)
  | stepRelease _ _ => exact onLive_safe h (fun _ w => sqRelease_storesWf w)
  | moverLaunch _ _ => exact onLive_safe h (fun _ w => sqLaunch_storesWf w)
  | moverCancel _ _ => exact onLive_safe h (fun _ w => sqCancel_storesWf w)
  | msixDeferredSend _ _ => exact onLive_safe h (fun _ w => msixLater_storesWf w)
  | bar4Read _ _ _ => exact ite_safe (onDev_safe h (fun _ w => storesWf_ite (barRead4_storesWf w) (modPart_storesWf w)))
  | bar4Write _ _ _ => exact ite_safe (onLive_safe h (fun _ w => barWrite4_storesWf w))
  | queueCreate _ _ => exact onLive_safe h (fun _ w => commitReq_storesWf w)
  | queueDelete _ _ => exact onLive_safe h (fun _ w => commitReq_storesWf w)
  | evqOn _ _ => exact onLive_safe h (fun _ w => commitReq_storesWf w)
  | evqOff _ _ => exact onLive_safe h (fun _ w => commitReq_storesWf w)
  | devEvqOn _ => exact onLive_safe h (fun _ w => commitReq_storesWf w)
  | devEvqOff _ => exact onLive_safe h (fun _ w => commitReq_storesWf w)
  | read _ _ _ _ => exact onLive_safe h (fun _ w => request_storesWf w (fun _ w => readReq_storesWf (modSession_storesWf w)))
  | write _ _ _ _ _ => exact onLive_safe h (fun _ w => writeReq_storesWf w)
  | readSeg _ _ _ _ _ => exact onLive_safe h (fun _ w => request_storesWf w (fun _ w => readSegReq_storesWf (modSession_storesWf w)))
  | writeSeg _ _ _ _ _ _ _ => exact onLive_safe h (fun _ w => writeSegReq_storesWf w)
  | describe _ _ _ _ => exact onLive_safe h (fun _ w => request_storesWf w (fun _ w => describeReq_storesWf w))
  | abandon _ _ _ => exact onLive_safe h (fun _ w => request_storesWf w (fun _ w => abandonReq_storesWf w))
  | mctpMsg _ _ => exact onLive_safe h (fun _ w => mctpMsg_storesWf w)
  | sessionEnd _ => exact onLive_safe h (fun _ w => endSession_storesWf w)
  | sessionTimeout _ => exact onLive_safe h (fun _ w => sessionTimeout_storesWf w)
  | stageExpiry _ _ => exact onLive_safe h (fun _ w => storesWf_ite (modSession_storesWf w) w)
  | registerWrite _ _ => exact onLive_safe h (fun _ w => registerWrite_storesWf w)
  | i3cSetdasa _ _ => exact onLive_safe h (fun _ w => storesWf_ite w w)
  | i3cEntdaa _ => exact onLive_safe h (fun _ w => storesWf_ite w w)
  | i3cBusReset =>
    refine onLive_safe h ?_
    intro d w
    refine foldl_storesWf (fun _ _ h => ?_) _ ?_
    · exact endSession_storesWf h
    · exact w
  | queryDeviceIdentifiers _ => exact onLive_safe h (fun _ w => pldm_storesWf w (fun _ w => w))
  | getFirmwareParameters _ => exact onLive_safe h (fun _ w => pldm_storesWf w (fun _ w => w))
  | requestUpdate _ => exact onLive_safe h (fun _ w => pldm_storesWf w (fun _ w => pldmRequest_storesWf w))
  | passComponentTable _ _ => exact onLive_safe h (fun _ w => pldm_storesWf w (fun _ w => pldmTable_storesWf w))
  | updateComponent _ _ _ => exact onLive_safe h (fun _ w => pldm_storesWf w (fun _ w => pldmUpdate_storesWf w))
  | firmwareData _ _ => exact onLive_safe h (fun _ w => pldm_storesWf w (fun _ w => pldmData_storesWf w))
  | activateFirmware _ => exact onLive_safe h (fun _ w => pldm_storesWf w (fun _ w => pldmActivate_storesWf w))
  | getStatus _ => exact onLive_safe h (fun _ w => pldm_storesWf w (fun _ w => pldmStatus_storesWf w))
  | cancelUpdateComponent _ => exact onLive_safe h (fun _ w => pldm_storesWf w (fun _ w => pldmCancelComp_storesWf w))
  | cancelUpdate _ => exact onLive_safe h (fun _ w => pldm_storesWf w (fun _ w => pldmCancel_storesWf w))
  | spdmGetVersion _ => exact onLive_safe h (fun _ w => spdmDo_storesWf w (fun _ _ w => spdmNeeds_storesWf w))
  | spdmGetCapabilities _ => exact onLive_safe h (fun _ w => spdmDo_storesWf w (fun _ _ w => spdmNeeds_storesWf w))
  | spdmNegotiateAlgorithms _ _ => exact onLive_safe h (fun _ w => spdmDo_storesWf w (fun _ _ w => spdmNeeds_storesWf w))
  | spdmGetDigests _ => exact onLive_safe h (fun _ w => spdmDo_storesWf w (fun _ _ w => spdmNeeds_storesWf w))
  | spdmGetCertificate _ _ _ _ => exact onLive_safe h (fun _ w => spdmDo_storesWf w (fun _ _ w => spdmNeeds_storesWf w))
  | spdmChallenge _ _ _ => exact onLive_safe h (fun _ w => spdmDo_storesWf w (fun _ _ w => spdmNeeds_storesWf w))
  | spdmGetMeasurements _ _ _ => exact onLive_safe h (fun _ w => spdmDo_storesWf w (fun _ _ w => spdmNeeds_storesWf w))
  | spdmKeyExchange _ _ _ _ => exact onLive_safe h (fun _ w => spdmDo_storesWf w
    (fun _ _ w => ite_snd_snd_storesWf w (ite_snd_snd_storesWf w (ite_snd_snd_storesWf w (free_storesWf w)))))
  | spdmFinish _ _ _ => exact onLive_safe h (fun _ w => spdmDo_storesWf w (fun _ _ w => spdmFinish_storesWf w))
  | spdmHeartbeat _ => exact onLive_safe h (fun _ w => spdmDo_storesWf w (fun _ _ w => spdmInside_storesWf w))
  | spdmKeyUpdate _ => exact onLive_safe h (fun _ w => spdmDo_storesWf w (fun _ _ w => spdmInside_storesWf w))
  | spdmEndSession _ => exact onLive_safe h (fun _ w => spdmDo_storesWf w (fun _ _ w => ite_snd_snd_storesWf w (endSession_storesWf w)))
  | spdmChunkSend _ _ _ => exact onLive_safe h (fun _ w => spdmDo_storesWf w (fun _ _ w => spdmNeeds_storesWf w))
  | spdmChunkGet _ => exact onLive_safe h (fun _ w => spdmChunkGet_storesWf w)
  | counterSetControlWrite _ _ _ _ => exact onLive_safe h (fun _ w => writeReq_storesWf w)
  | alarmAck _ _ _ => exact onLive_safe h (fun _ w => writeReq_storesWf w)
  | traceTrigger _ _ => exact onLive_safe h (fun _ w => writeReq_storesWf w)
  | traceArm _ _ => exact onLive_safe h (fun _ w => writeReq_storesWf w)
  | traceFreeze => exact onLive_safe h (fun _ w => w)
  | freezeNAssert => exact onDev_safe h (fun _ w => freeze_storesWf w)
  | dbgFreeze _ _ => exact onLive_safe h (fun _ w => writeReq_storesWf w)
  | jtagScan _ => exact onDev_safe h (fun _ w => jtagScan_storesWf w)
  | burstDone _ => exact onLive_safe h (fun _ w => burstDone_storesWf w)
  | rackMarkTimeout => exact onDev_safe h (fun _ w => markTimeout_storesWf w)
  | markEpochSend => exact onLive_safe h (fun _ w => epochSend_storesWf w)
  | clkDevtimeRead _ => exact onDev_safe h (fun _ w => storesWf_ite w w)
  | panelRailVoltageChange _ _ => exact onLive_safe h (fun _ w => storesWf_ite w (reclock_storesWf (modPanel_storesWf w)))
  | fwRestartComplete _ => exact onLive_safe h (fun _ w => compBack_storesWf w)
  | tmemPortTrained _ _ _ _ => exact onLive_safe h (fun _ w => tmemTrained_storesWf w)
  | netPortDown _ => exact onLive_safe h (fun _ w => netDown_storesWf w)
  | netPortUp _ => exact onLive_safe h (fun _ w => storesWf_ite w ((modNet_worked _ _ _).wf w))
  | hostLinkDown => exact onDev_safe h (fun _ w => storesWf_ite w w)
  | hostLinkUp => exact onDev_safe h (fun _ w => storesWf_ite w w)
  | thermCuffHot _ => exact onLive_safe h (fun _ w => (report_told _ _ _ _ _ _).storesWf (free_storesWf w :))

/-- A step runs the front command, or lets a nanosecond pass. -/
theorem step_safe {s : State} (h : s.safe) : AnswersSafe (step s) := by
  cases hp : s.pending with
  | nil =>
    rw [step_nil hp]
    intro t ht
    cases ht
    exact tick_storesWf h
  | cons c rest =>
    rw [step_cons hp]
    exact exec_safe c h

/-- Settles O3: `tick_storesWf` for time, `exec_safe` for each command. -/
theorem storesStayCanonical : Obligations.StoresStayCanonical := by
  unfold Obligations.StoresStayCanonical
  exact fun s t h hstep => step_safe h t hstep

end Sys2Proof.Machine
